-- ==== Sys2Proof/Word.lean ====
section
/-! DEFINITION. Words, bytes and the plainest arithmetic on them (spec/00 R5, R6). -/

namespace Sys2Proof

/-- A 32-bit register word (R32). -/
abbrev Word := BitVec 32

/-- A byte. -/
abbrev Byte := BitVec 8

/-- A 64-bit memory or lane word (R159, R479). -/
abbrev DWord := BitVec 64

/-- A 48-bit frame number (R49). -/
abbrev Frame := BitVec 48

end Sys2Proof
end

