-- ==== Sys2Proof/Syntax.lean ====
section
/-! DEFINITION. The commands: one constructor per row of spec/opcode_table.json. An operand is what the environment
brings with the command; everything else a command needs stands in the state. -/

namespace Sys2Proof

/-- A message of the Zhevley line after reassembly (Table ZVL-2, R303). -/
structure ZMsg where
  src : BitVec 12
  flg : BitVec 4
  dst : BitVec 12
  seq : BitVec 16
  payload : List Byte
  /-- whether the CRC-32C over header and payload was right on arrival -/
  crcOk : Bool
  deriving DecidableEq, Repr

/-- The clock whose rising edge CLOCK_EDGE stands for (R76, R113, Table RTE-10). -/
inductive ClkSrc where
  | gck (n : Fin 16)
  /-- recovered clock of lane n -/
  | lane (n : Fin 96)
  /-- clock-capable input i of I/O bank b -/
  | pin (b : Fin 16) (i : Fin 4)
  deriving DecidableEq, Repr

/-- A PLL that reports lock (Table CMD-15). -/
inductive Pll where
  | spll (n : Fin 6)
  | quad (q : Fin 24)
  | zvl
  deriving DecidableEq, Repr

/-- Supply rails with a monitor (Table ELP-4), VAUX apart: it has rows of its own. -/
inductive Rail where
  | vcore | vmem | vtx | vtt
  | vio (b : Fin 16)
  | vhost
  deriving DecidableEq, Repr

/-- What a single upset flips (Table FLT-3, R511). -/
inductive UpsetAt where
  /-- a configuration cell -/
  | config
  /-- bit i of copy c of OTP group g -/
  | otp (g : Fin 12) (c : Fin 3) (i : Fin 512)
  /-- a private bank bit -/
  | bank (r : Fin 96) (c : Fin 8) (e : Fin 512)
  /-- a shared flip-flop -/
  | shared (r : Fin 96) (e : Fin 512)
  /-- a crossing register -/
  | crossing (r : Fin 96) (j : Fin 256)
  /-- bit i of the registers of a fabric memory port: 96 inputs, 64 bits of read data, 16 status lines -/
  | port (r : Fin 96) (p : Fin 4) (i : Fin 176)
  /-- bit i of the 72 bits of word w of block k -/
  | memory (k : Fin 2304) (w : Fin 4096) (i : Fin 72)
  /-- one bit, or a second one, of frame index entry i of controller q -/
  | index (q : Fin 384) (i : Fin 16384)
  /-- one copy of a scrub engine's control state -/
  | scrub (b : Fin 24)
  /-- one copy of any other voted control state -/
  | control
  /-- one bit of a flit on a link into router n -/
  | flitOne (n : Fin 48)
  /-- two bits of the header flit of the packet standing first from src to dst on VC v -/
  | flitHeader (n : Fin 48) (src dst : BitVec 8) (v : Fin 4)
  /-- two bits of a data flit of that packet -/
  | flitData (n : Fin 48) (src dst : BitVec 8) (v : Fin 4)
  /-- one bit of Headland SRAM -/
  | sramOne
  /-- two bits of a Headland SRAM word -/
  | sramTwo
  /-- Headland core state -/
  | core
  deriving DecidableEq, Repr

/-- The commands, in the order of the table. -/
inductive Instr where
  -- reset, OTP
  | vauxPorRelease (boot : BitVec 3) (park : BitVec 32) (mv : Nat)
  | burnRetry (mv : Nat)
  | otpBurnDone
  | fwRollbackRaise (mv : Nat)
  | bootLoadStart
  -- tick
  | tick
  | sourceEvent (c : Nat)
  | tickSourceLoss
  | tickPreset
  | reacquire
  | alignDone
  | clearSlips
  | targetTickCommit
  -- swaps
  | scheduledSwap (r : Fin 96)
  | fabricSwapRequest (r : Fin 96)
  | swap
  | contentionDetect (k : Fin 48)
  -- fabric memory ports and queues
  | fmpNop (r : Fin 96) (p : Fin 4)
  | fmpRead (r : Fin 96) (p : Fin 4)
  | fmpWrite (r : Fin 96) (p : Fin 4)
  | push (r : Fin 96) (p : Fin 4)
  | pop (r : Fin 96) (p : Fin 4)
  | lookup (r : Fin 96) (p : Fin 4)
  | histAdd (r : Fin 96) (p : Fin 4)
  | readout (r : Fin 96) (p : Fin 4)
  | laneWord (n : Fin 96) (w : DWord) (ctrl : Bool)
  | readoutRecordSend (q : Fin 384)
  | scrubVisit (b : Fin 24) (portFree : Bool)
  | qcClear (q : Fin 384)
  | qcResume (q : Fin 384)
  | qcClrCnt (q : Fin 384)
  | qcLutSwap (q : Fin 384)
  | qcAccess (q : Fin 384) (v : Word)
  | qcAccessDone (q : Fin 384)
  -- packet network
  | packetInject (node : BitVec 8) (hdr : BitVec 256) (data : List DWord)
  | csrReadRequest (src dst : BitVec 8)
  | csrWriteRequest (src dst : BitVec 8)
  | csrResponse (src dst : BitVec 8)
  | csrTimeout (node : BitVec 8) (tag : BitVec 8)
  | bulkData (src dst : BitVec 8)
  | tracePacket (src dst : BitVec 8)
  | txRingPoll (r : Fin 96)
  | filterMatch (n : Fin 48) (f : Fin 2) (oport : Fin 8) (hdr : BitVec 256) (ready : Bool)
  | nrSlackEnter (n : Fin 48)
  | slackDrained (n : Fin 48) (d : Fin 256)
  | slackEnd (n : Fin 48) (len : Nat)
  | slackAbort (n : Fin 48)
  | nrClrCnt (n : Fin 48)
  -- loading
  | pspWord (w : Word)
  | pspIdle
  | sspNibble (x : BitVec 4)
  | sspCsRise
  | imageHeader
  | loadHoldEdge
  | frameRecord
  | imageTrailer
  | trailerStageDone
  | setStageDone
  | loadStall
  | seqSlotRelease
  | seqStepComplete
  | seqTimeout
  | chunkProgramDone
  | sealDone
  | regionReleaseEdge
  -- Zhevley line
  | sof (p : Fin 4) (param : Byte) (c : Nat)
  | cal (p : Fin 4) (seq : Byte)
  | echo (p : Fin 4) (seq : Byte) (rt : Nat)
  | idle (p : Fin 4) (param : Byte)
  | keep (p : Fin 4) (param : Byte)
  | sleep (p : Fin 4)
  | wake (p : Fin 4)
  | exchangeMessage (p : Fin 4) (param : Byte) (slices : List (BitVec 128)) (crcOk : Bool) (late : Bool)
  | superMsg (p : Fin 4) (m : ZMsg)
  | enumMsg (p : Fin 4) (m : ZMsg)
  | enumRpt (p : Fin 4) (m : ZMsg)
  | cald (p : Fin 4) (m : ZMsg)
  | faultMsg (p : Fin 4) (m : ZMsg)
  | mbreq (p : Fin 4) (m : ZMsg)
  | mbrsp (p : Fin 4) (m : ZMsg)
  | bcast (p : Fin 4) (m : ZMsg)
  | image (p : Fin 4) (m : ZMsg)
  | loadRpt (p : Fin 4) (m : ZMsg)
  | bcastEnd
  | superframeStart
  | calComplete (p : Fin 4)
  | linkDown (p : Fin 4)
  | linkUp (p : Fin 4)
  | bypassReturn (up : Bool)
  | faultReportWait
  -- mailboxes and Headland
  | ring (m : Fin 8)
  | ack (m : Fin 8)
  | clrLost (m : Fin 8)
  | evtRdWrite (m : Fin 8) (v : Word)
  | requestAged (m : Fin 8)
  | serviceStart
  | serviceTimeout
  | jobSlice
  | watchdogExpiry
  | lockstepMismatch
  | restartDone
  -- requests
  | identify
  | status
  | loadStart
  | loadData
  | loadAbort
  | loadReport
  | loadGroup
  | seqStatus
  | seqComplete
  | schedStage
  | schedCommit
  | schedDiscard
  | regionRelease
  | regionStatus
  | qdescSet
  | lutSwap
  | queueCmd
  | qwordRead
  | qwordWrite
  | csrRead
  | csrWrite
  | routerSet (drained : Bool) (d : Fin 256) (len : Nat)
  | tickP
  | tickCtrl
  | framePreset
  | swapWave
  | powerMode
  | clockSet
  | tempLimits
  | chainRole
  | chainGen
  | chainCal
  | rosterRead
  | faultRead
  | bcastStart
  | bcastStatus
  | bcastAbort
  | forward
  | forwardTimeout (slot : Fin 32)
  | fetch
  | remoteEvents
  | lcRead
  | lcTransition (mv : Nat)
  | secBurn (mv : Nat)
  | rollbackSet (mv : Nat)
  | customerKey (mv : Nat)
  | imageKey (mv : Nat)
  | debugChallenge
  | debugResponse
  | loanRequest
  | loanRelease
  | probeSet
  | probeArm
  | loanList
  | storeOpen
  | storeData (mv : Nat)
  | storeSeal
  | storeInfo
  | bootRecordSet (mv : Nat)
  | bootRecordGet
  | logRead
  | logClear
  | fwOpen
  | fwData (mv : Nat)
  | fwSeal
  | fwActivate
  -- Breakwater
  | bwRequest (frame : List Byte)
  | bwStatus (frame : List Byte)
  | bwResponse (frame : List Byte)
  | bwAck (frame : List Byte)
  | bwEvents (frame : List Byte)
  | bwEvtMask (frame : List Byte)
  | search (frame : List Byte)
  | bwIdentify (frame : List Byte)
  | assign (frame : List Byte)
  | barrierResponse
  | heartbeat
  | heartbeatLoss
  | resync
  | vhostDown
  -- clocks and power
  | trimWindow (e : Int)
  | clockDead (src : Fin 14) (edges : Bool)
  | spll0ReferenceMove
  | pllLock (pll : Pll)
  | rampStep (n : Fin 16)
  | gateClose (g : Fin 47) (boundary : Bool)
  | deepSleepReached
  | wakeComplete
  | tempSample (tj : BitVec 16)
  -- lanes and TAP
  | laneAligned (n : Fin 96) (lat : Nat)
  | laneAlignmentLoss (n : Fin 96)
  | lnClrCnt (n : Fin 96)
  | realignLane (n : Fin 96)
  | laneTransmit (src : BitVec 8) (q : Fin 24)
  | throttleSignal (n : Fin 96)
  | bypass
  | samplePreload (pins : List Bool)
  | extest
  | idcode
  | extestPulse
  | extestTrain
  -- probes
  | probeTrigger
  | soundingEnd
  | pbStop
  | pbFree
  | pbClrDrop
  | zvClrCnt (p : Fin 4)
  | zvMeasure (p : Fin 4)
  -- supplies, and the commands without a register row of their own
  | vcoreBrownout (mv : Nat)
  | vcoreRecovered
  | railFall (rail : Rail)
  | registerWrite (addr : Word) (v : Word)
  | clockEdge (clk : ClkSrc) (pins : List (Fin 768 × Bool))
  | slotWheel (q : Fin 384)
  | upset (u : UpsetAt)
  | vauxFall
  | railValid (rail : Rail)
  | vioPresenceLoss (b : Fin 16)
  | pllUnlock (pll : Pll)
  | clockAlive (src : Fin 8)
  | sleepReached
  deriving DecidableEq, Repr

end Sys2Proof
end

