-- ==== Sys2Proof/Config.lean ====
section
/-! DEFINITION. What one unit fixes, and the free values: constants with no body. -/

namespace Sys2Proof.Config

/-- Free values, drawn in turn by `State.free` (log 1). -/
opaque freeValue : Nat → Nat

/-- Unit ID of this unit (R414, IDENTITY [127:0]). -/
opaque unitId : BitVec 128

/-- Transport key of this unit (R414, IDENTITY [383:128]). -/
opaque transportKey : BitVec 256

/-- Whether this unit is of speed grade 3 (R2, R3). -/
opaque grade3 : Bool

/-- Digests of the vendor keys in the boot ROM (R421): image, firmware, request, authorisation service. -/
opaque vendorImageKey : BitVec 384
opaque vendorFirmwareKey : BitVec 384
opaque vendorRequestKey : BitVec 384
/-- The authorisation service key itself, against which debug tokens are verified (R439, R421). -/
opaque authServiceKey : BitVec 768

/-- Frequency in kHz of the crystal at XTA (0) and XTB (1), where CK_XT_FREQ declares none (R449, log 4). -/
opaque crystalKhz : Nat → Nat

/-- Versions that IDENTIFY reports (R370): of the firmware by the bytes of its slot (log 3). -/
opaque fwVersion : List (BitVec 8) → BitVec 32
opaque romVersion : BitVec 32

/-- UNVERIFIED log 3: whether the bytes of a firmware slot carry a valid vendor signature, and the rollback value
they carry (R358, R436): the spec gives no firmware layout. -/
opaque firmwareVerifies : List (BitVec 8) → Bool
opaque firmwareRollback : List (BitVec 8) → Nat

/-- Value of a combinational loop, which the loader never lets stand (R98, R125). -/
opaque loopValue : Nat → Bool

/-- Value of a cross-tier wire driven from both ends, by cycle and wire (R126, log 1). -/
opaque wireValue : Nat → Nat → Bool

/-- Manufacturer field of IDCODE, given in the BSDL file only (R488). -/
opaque jtagManufacturer : BitVec 11

/-- The order of boundary cells of the BSDL file (R488): the index of cell k. -/
opaque boundaryCell : Nat → Nat

end Sys2Proof.Config
end

