-- ==== Sys2Proof/Machine/Map.lean ====
section
/-! DEFINITION. Sparse storage: lists of (key, value) in one canonical form, keys strictly rising and no entry equal to
what an unlisted key reads as. -/

namespace Sys2Proof.Machine

variable {α : Type}

/-- What key `k` reads as; `d` says what an unlisted key reads as. -/
def mget (d : Nat → α) : List (Nat × α) → Nat → α
  | [], k => d k
  | (j, v) :: m, k => if j = k then v else mget d m k

/-- Store `v` at `k`, keeping the canonical form. -/
def mput [DecidableEq α] (d : Nat → α) : List (Nat × α) → Nat → α → List (Nat × α)
  | [], k, v => if v = d k then [] else [(k, v)]
  | (j, w) :: m, k, v =>
    if k < j then
      if v = d k then (j, w) :: m.filter (fun e => e.1 ≠ k) else (k, v) :: (j, w) :: m
    else if k = j then
      if v = d k then m.filter (fun e => e.1 ≠ k) else (k, v) :: m
    else (j, w) :: mput d m k v

/-- Apply `f` to every listed entry, keeping the canonical form. -/
def mmap [DecidableEq α] (d : Nat → α) (f : Nat → α → α) : List (Nat × α) → List (Nat × α)
  | [] => []
  | (j, v) :: m => if f j v = d j then mmap d f m else (j, f j v) :: mmap d f m

/-- The canonical form. -/
def mwf [DecidableEq α] (d : Nat → α) (m : List (Nat × α)) : Bool :=
  decide (m.Pairwise (fun a b => a.1 < b.1)) && m.all (fun e => decide (e.2 ≠ d e.1))

/-- Bits [lo + w − 1 : lo] of a natural number. -/
def bits (x lo w : Nat) : Nat := (x >>> lo) % 2 ^ w

/-- `x` with bits [lo + w − 1 : lo] replaced by `v`. -/
def setBits (x lo w v : Nat) : Nat :=
  (x >>> (lo + w)) <<< (lo + w) + (v % 2 ^ w) <<< lo + x % 2 ^ lo

/-- Little-endian bytes of a number (R6). -/
def bytesLE (x : Nat) : Nat → List Byte
  | 0 => []
  | n + 1 => BitVec.ofNat 8 x :: bytesLE (x / 256) n

/-- The number that a little-endian byte string spells (R6). -/
def natLE : List Byte → Nat
  | [] => 0
  | b :: bs => b.toNat + 256 * natLE bs

/-- The number that a byte string spells, first byte most significant: the order of digests, keys, nonces and
signature components (R6). -/
def natBE (bs : List Byte) : Nat := natLE bs.reverse

/-- A little-endian record from (value, bytes) pairs, first pair at the lowest offset (R6). -/
def packLE : List (Nat × Nat) → Nat
  | [] => 0
  | (v, n) :: r => v % 2 ^ (8 * n) + (packLE r) * 2 ^ (8 * n)

/-- Field of `n` bytes at byte offset `off` of a little-endian record. -/
def fieldAt (x off n : Nat) : Nat := bits x (8 * off) (8 * n)

/-- Byte-string field (most significant byte first, R6) of `n` bytes at offset `off`. -/
def fieldBE (x off n : Nat) : Nat := natBE (bytesLE (fieldAt x off n) n)

/-- One bit step of CRC-32C, reflected. -/
def crcBit (c : Nat) : Nat := if c % 2 = 1 then (c / 2) ^^^ 0x82F63B78 else c / 2

/-- One byte step of CRC-32C. -/
def crcByte (c : Nat) (b : Byte) : Nat :=
  crcBit (crcBit (crcBit (crcBit (crcBit (crcBit (crcBit (crcBit (c ^^^ b.toNat))))))))

/-- CRC-32C of a byte string (R234, R303, R395). PRESUMED log 5: the standard polynomial, start value and final
inversion; the spec names the CRC only. -/
def crc32c (bs : List Byte) : Nat := (bs.foldl crcByte 0xFFFFFFFF) ^^^ 0xFFFFFFFF

/-- Replace element `i` of a list through `f`. -/
def modifyAt (f : α → α) : List α → Nat → List α
  | [], _ => []
  | x :: xs, 0 => f x :: xs
  | x :: xs, i + 1 => x :: modifyAt f xs i

/-- A signed value of `w` bits. -/
def signed (x w : Nat) : Int := if x % 2 ^ w < 2 ^ (w - 1) then (x % 2 ^ w : Nat) else ((x % 2 ^ w : Nat) : Int) - 2 ^ w

/-- Two's complement of `w` bits. -/
def unsigned (x : Int) (w : Nat) : Nat := (x % (2 ^ w : Nat)).toNat

/-- Saturating addition at 2^w − 1. -/
def satAdd (w x n : Nat) : Nat := min (x + n) (2 ^ w - 1)

/-- How many of the low `n` bits of `x` are 1. -/
def popCount (x : Nat) : Nat → Nat
  | 0 => 0
  | n + 1 => (if x.testBit n then 1 else 0) + popCount x n

end Sys2Proof.Machine
end

