-- ==== Sys2Proof/Machine/Regs.lean ====
section
/-! DEFINITION. The CSR map: the address ranges of Table ARC-5, and for every register its fields with access code and
reset value, transcribed from the register tables of spec/02, 05, 06, 07, 10, 11, 15, 16, 17. -/

namespace Sys2Proof.Machine

/-- Access codes of Table SCP-3 (R7). -/
inductive Acc where
  | rw | ro | w1c | wo
  deriving DecidableEq, Repr

/-- A register field: place, access, reset value and ranges of reserved encodings (R9). A range from 2^w up reserves the
encoding less 2^w only while bit 0 of the register, EN, is 1 (Tables CLK-8, ZVL-10). -/
structure Fld where
  lo : Nat
  w : Nat
  acc : Acc
  rst : Nat := 0
  res : List (Nat × Nat) := []
  deriving DecidableEq, Repr

/-- Which block and offset an address names (Table ARC-5). -/
inductive Block where
  | router (n off : Nat)
  | qc (q off : Nat)
  | ck (off : Nat)
  | ln (n off : Nat)
  | zv (p off : Nat)
  | pb (off : Nat)
  | rg (r off : Nat)
  | mb (m off : Nat)
  /-- byte offset into the memory window -/
  | mem (off : Nat)
  | nothing
  deriving DecidableEq, Repr

/-- Table ARC-5 (R32). Router n is router (n mod 8, n div 8). -/
def blockOf (a : Nat) : Block :=
  if 0x10000000 ≤ a ∧ a < 0x10580000 then
    let y := (a - 0x10000000) / 0x100000
    let x := (a - 0x10000000) % 0x100000 / 0x10000
    if x < 8 then .router (8 * y + x) (a % 0x10000) else .nothing
  else if 0x20000000 ≤ a ∧ a < 0x20180000 then .qc ((a - 0x20000000) / 0x1000) (a % 0x1000)
  else if 0x30000000 ≤ a ∧ a < 0x30010000 then .ck (a % 0x10000)
  else if 0x31000000 ≤ a ∧ a < 0x31060000 then .ln ((a - 0x31000000) / 0x1000) (a % 0x1000)
  else if 0x32000000 ≤ a ∧ a < 0x32004000 then .zv ((a - 0x32000000) / 0x1000) (a % 0x1000)
  else if 0x33000000 ≤ a ∧ a < 0x33010000 then .pb (a % 0x10000)
  else if 0x34000000 ≤ a ∧ a < 0x34006000 then .rg ((a - 0x34000000) / 0x100) (a % 0x100)
  else if 0x38000000 ≤ a ∧ a < 0x38002000 then .mb ((a - 0x38000000) / 0x400) (a % 0x400)
  else if 0x40000000 ≤ a ∧ a < 0x44800000 then .mem (a - 0x40000000)
  else .nothing

/-- Address of offset `off` of a block instance (Table ARC-5). -/
def NR (n off : Nat) : Nat := 0x10000000 + n / 8 * 0x100000 + n % 8 * 0x10000 + off
def QC (q off : Nat) : Nat := 0x20000000 + q * 0x1000 + off
def CK (off : Nat) : Nat := 0x30000000 + off
def LN (n off : Nat) : Nat := 0x31000000 + n * 0x1000 + off
def ZV (p off : Nat) : Nat := 0x32000000 + p * 0x1000 + off
def PB (off : Nat) : Nat := 0x33000000 + off
def RG (r off : Nat) : Nat := 0x34000000 + r * 0x100 + off
def MB (m off : Nat) : Nat := 0x38000000 + m * 0x400 + off

/-- A counter of 32 bits. -/
def cnt32 : List Fld := [⟨0, 32, .ro, 0, []⟩]

/-- A read-write register of `w` bits. -/
def rwReg (w rst : Nat) : List Fld := [⟨0, w, .rw, rst, []⟩]

/-- Clock and power block (Tables CLK-7, CLK-8, TCK-6 to TCK-9, CTX-9). -/
def ckFields (off : Nat) : Option (List Fld) :=
  if 0x40 ≤ off ∧ off < 0xA0 then
    let n := (off - 0x40) / 0x10
    let a : Acc := if n = 0 then .ro else .rw
    match off % 0x10 with
    | 0 => some [⟨0, 1, a, if n = 0 then 1 else 0, []⟩, ⟨1, 2, a, 0, []⟩, ⟨3, 4, a, if n = 0 then 3 else 0, []⟩,
        ⟨7, 9, a, if n = 0 then 45 else 0, []⟩, ⟨16, 5, a, if n = 0 then 5 else 0, [(32, 32)]⟩]
    | 4 => some [⟨0, 24, a, 0, []⟩]
    | 8 => some [⟨0, 1, .ro, 0, []⟩, ⟨1, 1, .ro, 0, []⟩, ⟨8, 1, .w1c, 0, []⟩]
    | _ => none
  else if 0x100 ≤ off ∧ off < 0x140 ∧ off % 4 = 0 then
    some [⟨0, 4, .rw, 1, [(5, 8), (14, 15)]⟩, ⟨4, 6, .rw, 63, []⟩, ⟨10, 1, .ro, 0, []⟩]
  else if 0x400 ≤ off ∧ off < 0x4BC ∧ off % 4 = 0 then
    let g := (off - 0x400) / 4
    some [⟨0, 1, .rw, 1, []⟩, ⟨1, 1, .rw, if g < 0x2C then 1 else 0, []⟩,
      ⟨2, 1, if g < 0x18 then .ro else .rw, if 0x28 ≤ g ∧ g < 0x2C then 1 else 0, []⟩,
      ⟨3, 1, .ro, 1, []⟩, ⟨4, 1, .w1c, 0, []⟩]
  else match off with
  | 0x0000 => some [⟨0, 5, .ro, 3, []⟩, ⟨8, 5, .w1c, 0, []⟩, ⟨13, 1, .w1c, 0, []⟩]
  | 0x0004 => some [⟨0, 1, .rw, 0, []⟩, ⟨1, 1, .rw, 0, []⟩]
  | 0x0008 => some [⟨0, 16, .rw, 0, [(1, 19999), (50001, 65535)]⟩, ⟨16, 16, .rw, 0, [(1, 19999), (50001, 65535)]⟩]
  | 0x0010 => some [⟨0, 1, .rw, 1, []⟩, ⟨1, 2, .rw, 0, []⟩]
  | 0x0014 => some [⟨0, 11, .ro, 0, []⟩, ⟨11, 1, .ro, 0, []⟩, ⟨12, 2, .ro, 0, []⟩, ⟨14, 1, .w1c, 0, []⟩]
  | 0x0020 => some [⟨0, 11, .rw, 0x40, [(0, 15), (1025, 2047)]⟩]
  | 0x0200 => some [⟨0, 1, .rw, 0, []⟩, ⟨1, 1, .rw, 0, []⟩]
  | 0x0204 => some [⟨0, 2, .ro, 0, []⟩, ⟨2, 1, .ro, 0, []⟩, ⟨3, 2, .ro, 0, []⟩]
  | 0x0208 => some [⟨0, 16, .ro, 0, []⟩, ⟨16, 2, .ro, 0, []⟩]
  | 0x020C => some [⟨0, 16, .rw, 0x02F8, []⟩, ⟨16, 16, .rw, 0x0320, []⟩]
  | 0x0800 => some [⟨0, 2, .rw, 0, [(3, 3)]⟩, ⟨4, 4, .rw, 3, [(0, 0)]⟩, ⟨16, 16, .rw, 0x0100, [(0, 0)]⟩]
  | 0x0804 => some [⟨0, 13, .rw, 0x10, [(0, 7), (4097, 8191)]⟩]
  | 0x0808 => some [⟨0, 12, .rw, 0, []⟩]
  | 0x080C => some [⟨0, 1, .ro, 0, []⟩, ⟨1, 1, .ro, 0, []⟩, ⟨2, 1, .ro, 0, []⟩, ⟨8, 1, .w1c, 0, []⟩, ⟨9, 1, .w1c, 0, []⟩,
      ⟨10, 1, .w1c, 0, []⟩, ⟨11, 1, .w1c, 0, []⟩, ⟨16, 16, .ro, 0, []⟩]
  | 0x0810 => some [⟨0, 32, .ro, 0, []⟩]
  | 0x0814 => some [⟨0, 16, .ro, 0, []⟩]
  | 0x0818 => some (rwReg 32 0)
  | 0x081C => some (rwReg 16 0)
  | 0x0820 => some (rwReg 16 0)
  | 0x0824 => some [⟨0, 1, .wo, 0, []⟩, ⟨1, 1, .wo, 0, []⟩, ⟨2, 1, .wo, 0, []⟩, ⟨3, 1, .wo, 0, []⟩]
  | 0x0828 => some [⟨0, 13, .ro, 0, []⟩]
  | 0x082C => some [⟨0, 12, .ro, 0, []⟩, ⟨16, 12, .ro, 0, []⟩]
  | 0x0830 => some [⟨0, 7, .rw, 8, [(0, 0), (97, 127)]⟩]
  | 0x0834 => some [⟨0, 7, .ro, 0, []⟩, ⟨16, 16, .ro, 0, []⟩]
  | _ => none

/-- Region status (Tables CTX-4 to CTX-8). The spec names RG_RCFG_STATE at 0x040 and above and gives it no layout
(log 20). -/
def rgFields (off : Nat) : Option (List Fld) :=
  if 0x20 ≤ off ∧ off < 0x40 ∧ off % 4 = 0 then some [⟨0, 16, .ro, 0, []⟩, ⟨16, 16, .ro, 0, []⟩] else
  match off with
  | 0x00 => some [⟨0, 3, .ro, 0, []⟩, ⟨3, 1, .ro, 0, []⟩, ⟨4, 3, .ro, 0, []⟩, ⟨7, 1, .ro, 0, []⟩, ⟨8, 4, .ro, 0, []⟩,
      ⟨12, 1, .ro, 0, []⟩, ⟨16, 8, .ro, 0, []⟩]
  | 0x04 => some [⟨0, 5, .ro, 0, []⟩, ⟨8, 1, .ro, 0, []⟩, ⟨16, 9, .ro, 0, []⟩]
  | 0x08 => some [⟨0, 9, .ro, 0, []⟩, ⟨9, 9, .ro, 0, []⟩, ⟨18, 9, .ro, 0, []⟩]
  | 0x0C => some cnt32
  | 0x10 => some [⟨0, 16, .ro, 0, []⟩, ⟨16, 16, .ro, 0, []⟩]
  | 0x14 => some [⟨0, 13, .ro, 0, []⟩, ⟨16, 13, .ro, 0, []⟩]
  | _ => none

/-- Queue controller (Tables MEM-10 to MEM-15). -/
def qcFields (off : Nat) : Option (List Fld) :=
  match off with
  | 0x000 => some cnt32
  | 0x004 => some cnt32
  | 0x008 => some cnt32
  | 0x00C => some cnt32
  | 0x010 => some cnt32
  | 0x020 => some [⟨0, 9, .ro, 0, []⟩, ⟨16, 1, .w1c, 0, []⟩, ⟨17, 1, .w1c, 0, []⟩, ⟨18, 1, .w1c, 0, []⟩,
      ⟨19, 1, .w1c, 0, []⟩, ⟨24, 5, .ro, 0, []⟩]
  | 0x024 => some cnt32
  | 0x028 => some cnt32
  | 0x02C => some cnt32
  | 0x030 => some cnt32
  | 0x034 => some cnt32
  | 0x038 => some cnt32
  | 0x040 => some cnt32
  | 0x044 => some cnt32
  | 0x048 => some cnt32
  | 0x04C => some cnt32
  | 0x050 => some cnt32
  | 0x054 => some cnt32
  | 0x058 => some cnt32
  | 0x05C => some cnt32
  | 0x060 => some [⟨0, 16, .ro, 0, []⟩, ⟨16, 16, .ro, 0, []⟩]
  | 0x080 => some [⟨0, 4, .wo, 0, []⟩]
  | 0x090 => some [⟨0, 19, .rw, 0, []⟩, ⟨24, 1, .rw, 0, []⟩, ⟨25, 1, .ro, 0, []⟩, ⟨28, 1, .wo, 0, []⟩, ⟨29, 1, .ro, 0, []⟩,
      ⟨30, 1, .ro, 0, []⟩, ⟨31, 1, .ro, 0, []⟩]
  | 0x094 => some (rwReg 32 0)
  | 0x098 => some (rwReg 32 0)
  | 0x800 => some [⟨0, 1, .ro, 1, []⟩, ⟨1, 1, .ro, 0, []⟩]
  | 0x804 => some cnt32
  | 0x808 => some cnt32
  | 0x80C => some cnt32
  | 0x810 => some cnt32
  | 0x814 => some cnt32
  | 0x818 => some cnt32
  | _ => none

/-- Router (Tables NOC-9 to NOC-13). -/
def nrFields (off : Nat) : Option (List Fld) :=
  if 0x40 ≤ off ∧ off < 0x60 ∧ off % 4 = 0 then some cnt32
  else if 0x100 ≤ off ∧ off < 0x1A0 ∧ off % 4 = 0 then some cnt32
  else match off with
  | 0x0000 => some cnt32
  | 0x0004 => some [⟨0, 4, .rw, 4, [(0, 0)]⟩, ⟨4, 8, .rw, 0x20, [(0, 7)]⟩]
  | 0x0008 => some [⟨0, 4, .ro, 4, []⟩, ⟨4, 8, .ro, 0x20, []⟩]
  | 0x000C => some [⟨0, 8, .rw, 0xFF, []⟩, ⟨8, 8, .ro, 0xFF, []⟩]
  | 0x0010 => some [⟨0, 1, .wo, 0, []⟩, ⟨1, 1, .ro, 0, []⟩, ⟨2, 1, .ro, 0, []⟩, ⟨3, 1, .w1c, 0, []⟩]
  | 0x0014 => some [⟨0, 8, .ro, 0, []⟩, ⟨8, 20, .ro, 0, []⟩]
  | 0x0020 => some [⟨0, 13, .ro, 0, []⟩]
  | 0x0024 => some [⟨0, 12, .ro, 0, []⟩]
  | 0x0028 => some [⟨0, 13, .ro, 0, []⟩]
  | 0x002C => some [⟨0, 12, .ro, 0, []⟩]
  | 0x0030 => some [⟨0, 2, .ro, 0, []⟩]
  | 0x0080 => some [⟨0, 1, .wo, 0, []⟩]
  | 0x0200 => some (rwReg 22 0)
  | 0x0204 => some (rwReg 22 0)
  | 0x0208 => some [⟨0, 1, .rw, 0, []⟩, ⟨1, 3, .rw, 0, []⟩, ⟨4, 1, .rw, 0, []⟩, ⟨5, 1, .rw, 0, []⟩]
  | 0x020C => some cnt32
  | 0x0220 => some (rwReg 22 0)
  | 0x0224 => some (rwReg 22 0)
  | 0x0228 => some [⟨0, 1, .rw, 0, []⟩, ⟨1, 3, .rw, 0, []⟩, ⟨4, 1, .rw, 0, []⟩, ⟨5, 1, .rw, 0, []⟩]
  | 0x022C => some cnt32
  | 0x0280 => some [⟨0, 8, .rw, 0x63, []⟩]
  | _ => none

/-- Lane n (Tables IOL-6, IOL-7); the quad registers exist in lanes 4q only. -/
def lnFields (n off : Nat) : Option (List Fld) :=
  match off with
  | 0x000 => some [⟨0, 11, .ro, 0, []⟩]
  | 0x004 => some [⟨0, 16, .ro, 0, []⟩]
  | 0x008 => some [⟨0, 5, .ro, 0, []⟩]
  | 0x00C => some [⟨0, 6, .ro, 0, []⟩, ⟨6, 4, .ro, 8, []⟩, ⟨10, 4, .ro, 0, []⟩]
  | 0x010 => some [⟨0, 5, .ro, 0, []⟩, ⟨8, 1, .w1c, 0, []⟩]
  | 0x014 => some [⟨0, 16, .ro, 0, []⟩]
  | 0x018 => some [⟨0, 3, .rw, 0, [(5, 7)]⟩, ⟨3, 2, .rw, 0, [(3, 3)]⟩]
  | 0x020 => some cnt32
  | 0x024 => some cnt32
  | 0x028 => some cnt32
  | 0x02C => some cnt32
  | 0x030 => some cnt32
  | 0x034 => some cnt32
  | 0x040 => some [⟨0, 3, .wo, 0, []⟩]
  | 0x800 => if n % 4 = 0 then some [⟨0, 13, .ro, 0, []⟩] else none
  | 0x804 => if n % 4 = 0 then some [⟨0, 24, .ro, 0, []⟩] else none
  | 0x808 => if n % 4 = 0 then some [⟨0, 1, .ro, 0, []⟩, ⟨8, 1, .w1c, 0, []⟩] else none
  | _ => none

/-- Zhevley port p (Tables ZVL-8 to ZVL-11); the unit-wide registers exist in UP1's block, the exchange registers in
UP1 and DN1. -/
def zvFields (p off : Nat) : Option (List Fld) :=
  if off = 0x040 ∨ off = 0x044 ∨ off = 0x048 ∨ off = 0x04C ∨ off = 0x050 then
    if p < 2 ∨ off ≠ 0x040 then
      if off = 0x040 then some [⟨0, 1, .rw, 0, []⟩, ⟨1, 5, .rw, 0, [(32, 32), (49, 63)]⟩, ⟨6, 11, .rw, 0x20, [(0, 31), (1025, 2047)]⟩,
        ⟨17, 2, .rw, 0, [(3, 3)]⟩, ⟨19, 1, .rw, 0, []⟩, ⟨20, 1, .rw, 0, []⟩]
      else if off = 0x044 then some [⟨0, 11, .ro, 0, []⟩] else some cnt32
    else none
  else if 0x800 ≤ off then
    if p = 0 then
      match off with
      | 0x800 => some [⟨0, 12, .ro, 0, []⟩, ⟨12, 12, .ro, 0, []⟩, ⟨24, 1, .ro, 0, []⟩, ⟨25, 1, .rw, 0, []⟩, ⟨26, 1, .ro, 0, []⟩,
          ⟨27, 1, .ro, 0, []⟩]
      | 0x804 => some (rwReg 12 1)
      | 0x808 => some cnt32
      | 0x80C => some cnt32
      | 0x810 => some [⟨0, 12, .ro, 0, []⟩, ⟨16, 16, .ro, 0, []⟩]
      | 0x814 => some cnt32
      | 0x818 => some cnt32
      | 0x81C => some (rwReg 12 0)
      | 0x820 => some [⟨0, 2, .ro, 2, []⟩, ⟨2, 2, .ro, 2, []⟩, ⟨4, 1, .rw, 0, []⟩, ⟨16, 16, .ro, 0, []⟩]
      | 0x824 => some cnt32
      | 0x828 => some cnt32
      | 0x82C => some cnt32
      | 0x830 => some cnt32
      | _ => none
    else none
  else match off with
  | 0x000 => some [⟨0, 1, .rw, 1, []⟩, ⟨1, 2, .rw, 0, [(3, 3)]⟩, ⟨3, 3, .rw, 0, [(5, 7)]⟩]
  | 0x004 => some [⟨0, 1, .ro, 0, []⟩, ⟨1, 1, .ro, 0, []⟩, ⟨2, 1, .ro, 0, []⟩, ⟨3, 4, .ro, 0, []⟩, ⟨8, 1, .w1c, 0, []⟩, ⟨9, 1, .w1c, 0, []⟩]
  | 0x008 => some cnt32
  | 0x00C => some cnt32
  | 0x010 => some cnt32
  | 0x014 => some [⟨0, 16, .rw, 0, []⟩, ⟨16, 16, .rw, 0, []⟩]
  | 0x020 => some cnt32
  | 0x024 => some cnt32
  | 0x028 => some cnt32
  | 0x030 => some [⟨0, 2, .wo, 0, []⟩]
  | _ => none

/-- Probe block (Tables PRB-4, PRB-5). -/
def pbFields (off : Nat) : Option (List Fld) :=
  if 0x40 ≤ off ∧ off < 0x80 ∧ off % 4 = 0 then some [⟨0, 12, .rw, 0, []⟩, ⟨12, 1, .rw, 0, []⟩]
  else if 0x100 ≤ off ∧ off < 0x200 ∧ off % 4 = 0 then some [⟨0, 3, .rw, 0, []⟩, ⟨4, 9, .rw, 0, []⟩, ⟨13, 9, .rw, 0, []⟩]
  else if 0x200 ≤ off ∧ off < 0x240 ∧ off % 4 = 0 then
    some [⟨0, 10, .rw, 0, [(768, 1023)]⟩, ⟨10, 6, .rw, 0, []⟩, ⟨16, 1, .rw, 0, []⟩]
  else match off with
  | 0x000 => some [⟨0, 2, .rw, 0, [(3, 3)]⟩, ⟨2, 1, .rw, 0, []⟩, ⟨3, 1, .rw, 0, []⟩, ⟨5, 5, .rw, 0, [(17, 31)]⟩, ⟨10, 13, .rw, 0, []⟩]
  | 0x004 => some [⟨0, 2, .ro, 0, []⟩, ⟨2, 1, .ro, 0, []⟩, ⟨3, 1, .ro, 0, []⟩, ⟨4, 3, .ro, 0, []⟩, ⟨8, 1, .w1c, 0, []⟩, ⟨9, 1, .ro, 0, []⟩,
      ⟨16, 4, .ro, 0xF, []⟩]
  | 0x008 => some [⟨0, 16, .ro, 0, []⟩, ⟨16, 1, .ro, 0, []⟩]
  | 0x00C => some cnt32
  | 0x010 => some [⟨0, 16, .ro, 0, []⟩]
  | 0x014 => some cnt32
  | 0x018 => some [⟨0, 16, .ro, 0, []⟩]
  | 0x01C => some cnt32
  | 0x020 => some (rwReg 32 0)
  | 0x024 => some (rwReg 32 0)
  | 0x028 => some (rwReg 32 0)
  | 0x02C => some (rwReg 32 0)
  | 0x030 => some [⟨0, 8, .rw, 0x03, []⟩, ⟨8, 1, .rw, 0, []⟩]
  | 0x300 => some [⟨0, 3, .wo, 0, []⟩]
  | _ => none

/-- Mailbox window (Tables HDL-3, HDL-4), as its requester sees it. -/
def mbFields (m off : Nat) : Option (List Fld) :=
  if off < 0x100 ∧ off % 4 = 0 then some (rwReg 32 0)
  else if off < 0x200 ∧ off % 4 = 0 then some cnt32
  else if 0x300 ≤ off ∧ off % 4 = 0 then some cnt32
  else match off with
  | 0x200 => some [⟨0, 3, .wo, 0, []⟩]
  | 0x204 => some [⟨0, 2, .ro, 0, []⟩, ⟨2, 1, .ro, 0, []⟩, ⟨3, 1, .ro, 0, []⟩, ⟨8, 1, .w1c, 0, []⟩, ⟨16, 4, .ro, 0, []⟩]
  | 0x208 => some (rwReg 32 (if m = 0 then 0xFFFFFFFF else 0))
  | 0x20C => some [⟨0, 4, .ro, 0, []⟩, ⟨8, 4, .rw, 0, []⟩]
  | 0x210 => some [⟨0, 16, .ro, 0, []⟩]
  | _ => none

/-- The fields of the register at address `a`; `none` where no register is assigned (R36). -/
def regFields (a : Nat) : Option (List Fld) :=
  match blockOf a with
  | .router _ off => nrFields off
  | .qc _ off => qcFields off
  | .ck off => ckFields off
  | .ln n off => lnFields n off
  | .zv p off => zvFields p off
  | .pb off => pbFields off
  | .rg _ off => rgFields off
  | .mb m off => mbFields m off
  | .mem _ => none
  | .nothing => none

/-- The value a list of fields makes up at reset. -/
def resetOf : List Fld → Nat
  | [] => 0
  | f :: fs => f.rst <<< f.lo + resetOf fs

/-- What the register at address `a` holds after reset. -/
def regReset (a : Nat) : Word :=
  match regFields a with
  | some fs => BitVec.ofNat 32 (resetOf fs)
  | none => 0

/-- Does `v` fall in a reserved range (R9), in a register whose bit 0 is `en`? -/
def Fld.reservedVal (f : Fld) (en : Bool) (v : Nat) : Bool :=
  f.res.any (fun (a, b) => decide (a ≤ v ∧ v ≤ b) || (en && decide (a ≤ v + 2 ^ f.w ∧ v + 2 ^ f.w ≤ b)))

/-- The access codes of R7 applied to one register word: reserved bits ignored (R8), reserved encodings keep the old
field value (R9). -/
def applyWrite (fs : List Fld) (old v : Nat) : Nat :=
  fs.foldl (fun x f =>
    match f.acc with
    | .rw => if f.reservedVal (v.testBit 0) (bits v f.lo f.w) then x else setBits x f.lo f.w (bits v f.lo f.w)
    | .w1c => setBits x f.lo f.w (bits x f.lo f.w &&& (2 ^ f.w - 1 - bits v f.lo f.w))
    | .ro => x
    | .wo => x) old

/-- A field of the register at address `a`. -/
structure Field where
  a : Nat
  lo : Nat
  w : Nat
  deriving DecidableEq, Repr

end Sys2Proof.Machine
end

