-- ==== Sys2Proof/Machine/State.lean ====
section
/-! DEFINITION. The state of the block: every register, memory, queue, engine and pin record that the spec gives it,
as plain data; the faults and refusals; the state after reset. -/

namespace Sys2Proof.Machine

/-! ## Tick generator (spec/02) -/

/-- A received SOF and the unit's own number for its frame (R51). -/
structure Sof where
  /-- fabric cycle at which it was received -/
  cyc : Nat
  /-- number of the first tick at least OFS cycles later, once that tick has come -/
  own : Option Nat
  deriving DecidableEq, Repr

/-- The tick generator. -/
structure Tick where
  /-- frame number (R49) -/
  frame : Frame := 0
  /-- cycle of the frame, FC (R53) -/
  count : Nat := 0
  /-- d of the frame being realigned, 0 otherwise (R42) -/
  ext : Nat := 0
  /-- fabric cycles since reset (log 4) -/
  cyc : Nat := 0
  /-- in acquisition (R41) -/
  acq : Bool := true
  /-- consecutive slips (R43) -/
  slips : Nat := 0
  /-- consecutive complete frames without a source event while locked to a source (R45) -/
  quiet : Nat := 0
  /-- a source event came in this frame -/
  evt : Bool := false
  /-- values held pending until the tick (R61, R158) -/
  pendSrc : Option Nat := none
  pendP : Option Nat := none
  pendW : Option Nat := none
  /-- a PRESET command awaits the tick (R50) -/
  preset : Bool := false
  /-- correction awaiting the tick (R51) -/
  jump : Option Nat := none
  /-- the next tick is frame 0 after a full load (R49) -/
  zero : Bool := false
  /-- SOFs with SUPER on the active upstream port whose SUPER message has not come, oldest first; none for one that was missed
  (R51, log 174) -/
  sofs : List (Option Sof) := []
  /-- fabric cycle and frame number [5:0] of the last SOF there -/
  sofLast : Option (Nat × Nat) := none
  /-- SEQ of the last SUPER message there -/
  superSeq : Option Nat := none
  /-- SOF and FRAME of a SUPER that awaits comparison -/
  cmp : Option (Sof × Nat) := none
  deriving DecidableEq, Repr

/-! ## Fabric and regions (spec/03, 04, 05, 09) -/

/-- Result of a fabric memory port operation (Tables MEM-3, MEM-4). -/
structure PortRes where
  data : BitVec 64 := 0
  rvalid : Bool := false
  ce : Bool := false
  ue : Bool := false
  err : Bool := false
  hdr : Bool := false
  last : Bool := false
  /-- a POP: did the prefetch hold the head word, and its queue word offset (R168, R179) -/
  pop : Option (Bool × Nat) := none
  deriving DecidableEq, Repr

/-- A fabric memory port (R112). -/
structure Port where
  /-- inputs captured at the last edge -/
  inp : BitVec 96 := 0
  /-- not yet executed -/
  fresh : Bool := false
  /-- result of the operation captured at the last edge -/
  res : PortRes := {}
  /-- result driven to the fabric -/
  out : PortRes := {}
  /-- status lines driven to the fabric (R166) -/
  lines : BitVec 16 := 0
  /-- cycle in which the inputs were captured; lines collisions up (R167) -/
  capCyc : Nat := 0
  deriving DecidableEq, Repr

/-- Classes of a pending swap: planned and held by the plan, commanded outside the plan (R139), fabric request. -/
inductive SwapClass where
  | planned | commanded | request
  deriving DecidableEq, Repr

/-- A region: hidden state beside its RG_ registers. -/
structure Region where
  held : Bool := false
  /-- 0 none, 1 load, 2 coupled partner, 3 contention, 4 failed load (R373) -/
  cause : Nat := 0
  committed : Bool := false
  /-- the cycle now running is a swap cycle (R142) -/
  swapCycle : Bool := false
  /-- the cycle now running is cycle 0 of a release: pins follow O ahead of the crossing registers (Table RGN-2) -/
  pinStart : Bool := false
  /-- step 0 of the running frame starts later than the tick, and has not started (R131, R149) -/
  wait0 : Bool := false
  /-- class, due cycle and grant cycle of the pending swap -/
  cls : SwapClass := .planned
  due : Nat := 0
  grant : Nat := 0
  /-- step that the pending planned swap starts -/
  pendStep : Nat := 0
  /-- commanded change whose swap is pending (R141) -/
  change : Option Nat := none
  /-- coupling under which the wave plan counts the held region until its release (R287) -/
  cpl : Option Bool := none
  /-- shift that a deferred commanded swap adds in this frame (R139) -/
  extra : Nat := 0
  /-- gates of the sequencer (R83): set/reset and write enable released -/
  srGate : Bool := false
  ceGate : Bool := false
  /-- staged schedule table (CTRL, REQ_TGT, STEP0..7) of a partial load (R288) -/
  stTable : Option (List Word) := none
  /-- staged ring descriptors, RX and TX (R288) -/
  stRing : Option (Nat × Nat) := none
  /-- release (R289): 0 at the next tick edge, 1 at a target frame, 2 by command; the frame, who is told, the regions
  held by the same load, the cycle of the commit or of the acceptance -/
  relMode : Nat := 2
  relTarget : Nat := 0
  relMb : Nat := 0
  relTag : Nat := 0
  group : List Nat := []
  relCyc : Nat := 0
  deriving DecidableEq, Repr

/-- The macrocell fabric: tile frames, private banks, shared bits, crossing registers and pin input registers. From VAUX reset
until the first commit banks and shared bits hold 0; the spec gives them no reset value (R84, DESIGN CHOICE log 151). -/
structure Fabric where
  /-- tile frames by key ((c·96 + r)·32 + t)·8 + f (R93, R128) -/
  tf : List (Nat × BitVec 4096) := []
  /-- private bank c of region r, key 8r + c (R84); at reset DESIGN CHOICE 0, log 151 -/
  bank : List (Nat × BitVec 512) := []
  /-- shared bits of region r (R85); at reset DESIGN CHOICE 0, log 151 -/
  shared : List (Nat × BitVec 512) := []
  /-- crossing registers of region r (R103) -/
  cross : List (Nat × BitVec 256) := []
  /-- pin input registers of bank b (R472) -/
  pinIn : List (Nat × BitVec 48) := []
  /-- shaft ends of a held region: driven, and value (R281) -/
  shaftOn : List (Nat × BitVec 1024) := []
  shaftVal : List (Nat × BitVec 1024) := []
  /-- crossing registers of a held region as its pins keep them (R281) -/
  pinHold : List (Nat × BitVec 256) := []
  /-- crossing registers as the unit became beached, for pins whose SAFE holds the last value (R475, Table IOL-3) -/
  pinSafe : List (Nat × BitVec 256) := []
  /-- ports by key 4r + p -/
  port : List (Nat × Port) := []
  /-- last cycle in which swaps were granted, and how many regions (R146) -/
  swapAt : Nat := 0
  swapN : Nat := 0
  /-- cycle in which a deferral was last counted (DEFER_CYC) -/
  deferAt : Option Nat := none
  deriving DecidableEq, Repr

/-! ## Memory tier (spec/06) -/

/-- Entries that wait for a write slot (R176). -/
inductive WEntry where
  /-- a lane word or a push: queue word offset and data -/
  | word (off : Nat) (data : BitVec 64) (lane : Bool)
  /-- a derandomizer record header -/
  | header (off : Nat) (data : BitVec 64)
  deriving DecidableEq, Repr

/-- A derandomizer record: offset of its header, words, flags and frame (R181). -/
structure Rec where
  off : Nat
  len : Nat
  trunc : Bool
  frame : Nat
  /-- data words already popped, header included -/
  popped : Nat := 0
  deriving DecidableEq, Repr

/-- An entry of the readout queue (R180, R182, R185, R189). -/
inductive RoEntry where
  /-- frame, offset of its first word, words, overfull mark, expired at acceptance -/
  | frame (f start len : Nat) (ovr expired : Bool) (dest lane : Nat)
  | bins (blk : Nat) (clear : Bool) (fr : Nat) (dest lane : Nat)
  | drain (fr : Nat) (count : Nat)
  | record (r : Rec)
  deriving DecidableEq, Repr

/-- A word of the pop prefetch (R179). -/
structure Pre where
  off : Nat
  data : BitVec 64
  ce : Bool
  ue : Bool
  deriving DecidableEq, Repr

/-- A queue controller, beside its counters and sticky bits. -/
structure Queue where
  /-- QC_DESC0 to QC_DESC4 in force (R169) -/
  desc : BitVec 160 := 0
  /-- staged by a partial load until release (R285) -/
  stDesc : Option (BitVec 160) := none
  wr : Nat := 0
  rd : Nat := 0
  /-- OCC, or LIVE for a pipeline -/
  occ : Nat := 0
  curt : Nat := 0
  oldest : Nat := 0
  /-- frame index, entry f mod 16384 (R183) -/
  idx : List (Nat × Nat) := []
  /-- upsets of frame index entries: number of flipped bits (R511) -/
  idxErr : List (Nat × Nat) := []
  /-- frames marked overfull (R183) -/
  overfull : List Nat := []
  pre : List Pre := []
  wbuf : List WEntry := []
  /-- open derandomizer record (R181) -/
  openRec : Option Rec := none
  /-- the rest of a refused or cut record up to LAST is dropped (R181) -/
  skipping : Bool := false
  /-- that record was refused, so that its pushes return ERR (R181) -/
  refusing : Bool := false
  /-- closed records, oldest first -/
  closed : List Rec := []
  /-- closed records that wait for a readout entry (R182) -/
  ro : List RoEntry := []
  seq : Nat := 0
  throttle : Bool := false
  stopped : Bool := false
  /-- open overflow episode (R194) -/
  ovf : Bool := false
  ovfCount : Nat := 0
  half : Nat := 0
  lutPend : Bool := false
  /-- buffered adds and adds in flight: bin, increment, read was UE (R188) -/
  adds : List (Nat × Nat) := []
  flight : List (Nat × Nat × Bool) := []
  /-- words of the drain allowance already used in this frame (R182) -/
  drained : Nat := 0
  /-- wheel position (R175) -/
  wheel : Nat := 0
  /-- the record at the head of the readout queue is on its way into the network: EXPIRED and TRUNC of its trailer (R178, R180,
  R187) -/
  leaving : Option (Bool × Bool) := none
  /-- memory cycles that must pass before Headland's next access to a queue word (R176) -/
  accWait : Nat := 0
  deriving DecidableEq, Repr

/-! ## Packet network (spec/07) -/

/-- A packet at one router of its route (R208, R211, R213). -/
structure Hop where
  router : Nat
  /-- input port, and output port; output 8 is the router itself (R202) -/
  inp : Nat
  out : Nat
  /-- flits in the input buffer, oldest first, each with the network cycle at which it came -/
  buf : List Nat := []
  /-- flits that have left through the output -/
  sent : Nat := 0
  /-- the packet holds the output VC -/
  holds : Bool := false
  /-- network cycles that the ready flit has waited (R214) -/
  waits : Nat := 0
  deriving DecidableEq, Repr

/-- A packet: header flit and data words (R203, R204), and where its flits are. -/
structure Packet where
  hdr : BitVec 256
  data : List DWord
  /-- queue controller whose record it carries; 384 none (R178) -/
  own : Nat := 384
  /-- outstanding request that it carries or answers; 0 none (R219) -/
  req : Nat := 0
  /-- flits that have entered the injection link -/
  left : Nat := 0
  hops : List Hop := []
  /-- flits at the destination endpoint, and the network cycle at which the last one came -/
  here : Nat := 0
  doneAt : Nat := 0
  deriving DecidableEq, Repr

/-- An outstanding CSR request (R216, R219), under a number of its own. -/
structure Pend where
  node : Nat
  tag : Nat
  id : Nat
  deriving DecidableEq, Repr

/-- The routers beside their registers (spec/07). -/
structure Noc where
  /-- network cycles that have passed -/
  cyc : Nat := 0
  /-- input served last, by router, output and rank (R213, R214) -/
  served : List (Nat × Nat) := []
  /-- flits of VC 2 sent since the last one of VC 0 that waited, by router and output (R214) -/
  bulk : List (Nat × Nat) := []
  /-- controller of a cluster port that sent last (R178) -/
  turn : List (Nat × Nat) := []
  /-- time in network cycles of the last trace packet of a router's filters (R231) -/
  traced : List (Nat × Nat) := []
  /-- D of the running slack water (Table NOC-7) -/
  slackD : Nat := 0
  /-- poisoned or trace packets that endpoints without a register of their own for it have discarded, by node (R207, R209) -/
  sunk : List (Nat × Nat) := []
  /-- number of the last outstanding request -/
  reqN : Nat := 0
  deriving DecidableEq, Repr

/-! ## Mailboxes and Headland (spec/11, 12) -/

/-- MB_STATUS.STATE (Table HDL-4). -/
inductive MbState where
  | idle | waiting | serving | done
  deriving DecidableEq, Repr

/-- A mailbox window, beside MB_EVT_MASK. -/
structure Mbox where
  req : BitVec 2048 := 0
  rsp : BitVec 2048 := 0
  st : MbState := .idle
  aged : Bool := false
  overrun : Bool := false
  /-- order of the ring among all rings -/
  ringNo : Nat := 0
  wr : Nat := 0
  rd : Nat := 0
  lost : Nat := 0
  /-- event entries by ring index -/
  evt : List (Nat × BitVec 256) := []
  /-- staged schedule tables by region (R372) -/
  staged : List (Nat × List Word) := []
  /-- sender of an MB1 request: address and sequence of the MBREQ (R379) -/
  from_ : Nat := 0
  seq : Nat := 0
  bcast : Bool := false
  deriving DecidableEq, Repr

/-- A latched event (R354): code, source, 24 data bytes, merged count. -/
structure Latch where
  code : Nat
  src : Nat
  data : Nat
  merged : Nat
  deriving DecidableEq, Repr

/-- A directed event waiting (R353). -/
structure Directed where
  mb : Nat
  tag : Nat
  code : Nat
  data : Nat
  /-- status not OK of an EV_LOAD_DONE, and its DETAIL (R519) -/
  bad : Bool := false
  detail : Nat := 0
  deriving DecidableEq, Repr

/-- What an accepted tick-targeted change does (R56). -/
inductive Change where
  | sched (tables : List (Nat × List Word))
  | qdesc (q : Nat) (d : BitVec 160)
  | lutSwap (q : Nat)
  | tickP (p : Nat)
  | tickCtrl (v : Nat)
  | preset (v : Nat)
  | wave (w : Nat)
  | power (m : Nat)
  | clockSet (off v : Nat)
  | release (r : Nat)
  | arm (frames : Nat)
  | activate (slot : Nat)
  deriving DecidableEq, Repr

/-- An accepted change and who asked for it (R57). -/
structure Accepted where
  target : Nat
  mb : Nat
  tag : Nat
  what : Change
  /-- Ticks that pass before the change may commit, when the number of its target stands behind a FRAME_PRESET that takes the
  number back (R56); 0 for any other. -/
  wait : Nat
  deriving DecidableEq, Repr

/-- A commanded schedule change whose EV_SWAP_DONE is to come (R141). -/
structure SwapReport where
  id : Nat
  mb : Nat
  tag : Nat
  target : Nat
  swaps : Nat
  last : Nat
  /-- the last swap cycle, counted from reset -/
  cyc : Nat := 0
  deriving DecidableEq, Repr

/-- The request in service (R349). -/
structure Service where
  mb : Nat
  op : Nat
  len : Nat
  tag : Nat
  /-- payload, from byte 8 (R360) -/
  pay : Nat
  deriving DecidableEq, Repr

/-- Headland. -/
structure Headland where
  /-- HL_UP (R355) -/
  up : Bool := false
  /-- it is running its restart -/
  restarting : Bool := false
  /-- the firmware has halted on an uncorrectable SRAM word, until the watchdog expires (R511) -/
  halted : Bool := false
  cause : Nat := 0
  /-- restarts since the VAUX power-on reset (R357) -/
  count : Nat := 0
  discarded : List (Nat × Nat) := []
  nDiscarded : Nat := 0
  serving : Option Service := none
  /-- a job slice is due before the next service (R348) -/
  slice : Bool := false
  /-- mailbox of MB2 to MB5 last served -/
  rr : Nat := 5
  rings : Nat := 0
  changes : List Accepted := []
  reports : List SwapReport := []
  nextId : Nat := 0
  latches : List Latch := []
  directed : List Directed := []
  /-- firmware slot named by the selector and slot running (R358) -/
  sel : Nat := 0
  run : Nat := 0
  /-- new firmware runs and has not raised the counter (R436) -/
  newFw : Bool := false
  /-- outstanding queue accesses, CSR requests are in the network part -/
  loanList : List (Nat × Nat × Nat) := []
  /-- last calibration OFS and ADJ (R507) -/
  calOfs : Nat := 0
  calAdj : Nat := 0
  calDone : Bool := false
  deriving DecidableEq, Repr

/-- A fault log entry (Table FLT-5). -/
structure LogEntry where
  seq : Nat
  kind : Nat
  event : Nat
  detail : Nat
  frame : Nat
  /-- time of the first occurrence, ps since the VAUX power-on reset -/
  ps : Nat
  count : Nat
  data : Nat
  deriving DecidableEq, Repr

/-! ## Clocks, lanes (spec/15, 16) -/

/-- Where a global clock stands in the surge ramp (R452, R454). -/
inductive Ramp where
  | idle
  /-- waits for its source to lock or to show edges -/
  | waitSrc
  /-- the old divider steps up to 64 -/
  | up
  /-- the divider steps to the new D -/
  | down
  deriving DecidableEq, Repr

/-- A global clock: source and divider now; CK_GCKn holds the setting wanted (R452). -/
structure Gck where
  src : Nat := 1
  div : Nat := 64
  ramp : Ramp := .idle
  /-- it moves to the boot clock first and waits there (R454) -/
  viaBoot : Bool := false
  deriving DecidableEq, Repr

/-- Clock and power block, beside its registers. -/
structure Clocks where
  gck : List (Nat × Gck) := []
  /-- consecutive trim windows within 0.03 % (R449) -/
  good : Nat := 0
  /-- ZREC has been locked once since the power-on reset (R447) -/
  zrecSeen : Bool := false
  /-- ZVL PLL locked -/
  zvlLock : Bool := false
  /-- SPLLs whose settings a commit changed and that have not locked since (R454) -/
  relock : List Nat := []
  /-- the accepted mode change has reached its target tick -/
  moving : Bool := false
  /-- exit from a low-power mode asked by a WAKE or entry by CRIT_DEEP: target frame and mode (R465, R466) -/
  self : Option (Nat × Nat) := none
  /-- time from which SPLL0 runs at 1.000 GHz, at 900 MHz before (R445, R509) -/
  fastPs : Option Nat := none
  /-- FOSC died and SPLL0 awaits its move (R509) -/
  spll0Hold : Bool := false
  /-- sources declared dead that have not shown edges since (R455) -/
  dead : List Nat := []
  /-- crystals (2 XTA, 3 XTB) whose users have switched to the other one (R457) -/
  failed : List Nat := []
  /-- fabric, queues and lanes stand still: from the entry edge of a low-power mode to the exit edge (Table CLK-5) -/
  stopped : Bool := false
  deriving DecidableEq, Repr

/-- A lane, beside its registers. -/
structure Lane where
  /-- tee buffer: word, control, gap (R484) -/
  tee : List (DWord × Bool × Bool) := []
  /-- the next word is the first after a realignment -/
  gap : Bool := false
  /-- THROTTLE as last signalled (R486) -/
  thr : Bool := false
  /-- the word that the transmitter took last has left at this time (R485) -/
  busyPs : Nat := 0
  /-- blocks sent since the last one that signalled THROTTLE (R486) -/
  run : Nat := 0
  /-- words sent, oldest first: word, and the type of the control block that carries it, 0 for a data word (R485) -/
  tx : List (DWord × Nat) := []
  deriving DecidableEq, Repr

/-! ## Running conditions (spec/08) -/

/-- What the start-up sequencer has released, and the hold of the whole unit (R262 to R265). -/
structure Run where
  /-- a full load has committed since the last clear of the configuration (R260) -/
  configured : Bool := false
  /-- the unit is held by a full load, a brown-out or a rail fault (Table CFG-13, R507, R510) -/
  hold : Bool := true
  outputs : Bool := false
  setReset : Bool := false
  writes : Bool := false
  sched : Bool := false
  deriving DecidableEq, Repr

/-! ## Supplies, straps, boundary scan (spec/08 R249, spec/16 R488, spec/19 R525) -/

/-- Rails that are valid (R525). -/
structure Rails where
  vcore : Bool := false
  vmem : Bool := false
  vtx : Bool := false
  vtt : Bool := false
  vhost : Bool := false
  /-- banks whose VIO is valid -/
  vio : List Nat := []
  deriving DecidableEq, Repr

/-- TAP instructions (R488). -/
inductive TapIr where
  | bypass | sample | extest | idcode | extestPulse | extestTrain
  deriving DecidableEq, Repr

/-- The TAP: instruction in force, boundary register, data register of BYPASS or IDCODE (R488). -/
structure Tap where
  ir : TapIr := .idcode
  boundary : List Bool := []
  dr : Nat := 0
  deriving DecidableEq, Repr

/-! ## Zhevley chain (spec/10, spec/12 R378 to R380) -/

/-- What the port logic hands to the transmitters. -/
inductive ZOut where
  /-- an ordered set: type and parameter (Table ZVL-1) -/
  | set (type param : Nat)
  /-- a message: type and content (Table ZVL-3) -/
  | msg (type : Nat) (m : ZMsg)
  /-- an exchange message: parameter and slices (R304) -/
  | xch (param : Nat) (slices : List (BitVec 128))
  deriving DecidableEq, Repr

/-- Something that waits in a transmitter: columns sent of it, and the time from which it may leave (R305, R313). -/
structure TxItem where
  what : ZOut
  sent : Nat
  due : Nat
  deriving DecidableEq, Repr

/-- The transmitter of a port (R305). -/
structure Line where
  /-- entries of `Chain.sent` taken over -/
  seen : Nat := 0
  /-- what waits, by class: SOF and ECHO by their due time, exchange, control, IMAGE -/
  sof : List TxItem := []
  xch : List TxItem := []
  ctl : List TxItem := []
  img : List TxItem := []
  /-- time up to which columns have gone, in picoseconds -/
  atPs : Nat := 0
  /-- columns in a row that carried payload bytes of exchange and IMAGE messages -/
  run : Nat := 0
  /-- class of the ordered set whose second column goes next, 7 for IDLE, 0 for none -/
  mid : Nat := 0
  /-- when the last ordered set began -/
  setPs : Nat := 0
  /-- what has begun to leave, in its order on the line; equal idle sets in a row stand once -/
  out : List ZOut := []
  deriving DecidableEq, Repr

/-- An entry of the fault table (R331), with the time it was entered. -/
structure FEntry where
  origin : Nat
  code : Nat
  ps : Nat
  conseq : Bool
  deriving DecidableEq, Repr

/-- A fault report (Table ZVL-5). -/
structure FRep where
  origin : Nat
  code : Nat
  reporter : Nat
  frame : Nat
  detail : Nat
  deriving DecidableEq, Repr

/-- The head's record of an origin (R332): last report, time of it and of the last event, reports suppressed since. -/
structure FRec where
  rep : FRep
  ps : Nat
  evtPs : Nat
  suppressed : Nat
  deriving DecidableEq, Repr

/-- A roster entry (R308). -/
structure Roster where
  pos : Nat
  addr : Nat
  fin : Bool
  uid : BitVec 128
  beached : Bool := false
  deriving DecidableEq, Repr

/-- One side of the neighbour exchange (R316 to R319). -/
structure Side where
  /-- slices captured in the running frame -/
  cap : List (BitVec 128) := []
  /-- a region of the side was held at an edge of the running frame -/
  heldSeen : Bool := false
  /-- frames whose contribution is still to be presented, with the cycle of the tick that ended each -/
  ticks : List (Nat × Nat) := []
  /-- contributions received: FRAME[6:0] and slices -/
  got : List (Nat × List (BitVec 128)) := []
  /-- slices presented, from which cycle on, received or substituted -/
  pres : List (BitVec 128) := []
  presAt : Nat := 0
  presOk : Bool := false
  /-- last valid contribution (DEF) -/
  lastOk : List (BitVec 128) := []
  /-- time of the last EXCH_LATE report -/
  latePs : Option Nat := none
  /-- EXCH_CFG, EXCH_L have been posted for the settings in force -/
  cfgPosted : Bool := false
  lPosted : Bool := false
  deriving DecidableEq, Repr

/-- A FORWARD slot of the head (R379, R380). -/
structure Fwd where
  slot : Nat
  dst : Nat
  op : Nat
  tag : Nat
  ps : Nat
  fin : Bool := false
  rsp : BitVec 2048 := 0
  answered : Nat := 0
  okN : Nat := 0
  failed : Nat := 0
  events : Nat := 0
  first : Nat := 0
  fails : List (Nat × Nat × Nat) := []
  /-- positions other than the head that were not vacant at sending (R380) -/
  units : Nat := 0
  deriving DecidableEq, Repr

/-- The head's broadcast (R333, Table CMD-11): state 0 idle, 1 running, 2 ended, 3 aborted. -/
structure Bcast where
  st : Nat := 0
  slot : Nat := 0
  flags : Nat := 0
  gen : Nat := 0
  /-- bytes sent, IMAGE messages sent, the closing BCAST has left -/
  bytes : Nat := 0
  seq : Nat := 0
  closed : Bool := false
  /-- closed by BCAST_ABORT -/
  aborted : Bool := false
  startPs : Nat := 0
  ok : Nat := 0
  failN : Nat := 0
  fails : List (Nat × Nat) := []
  mb : Nat := 0
  tag : Nat := 0
  deriving DecidableEq, Repr

/-- A unit's own reception of a broadcast (R334): it loads, with the SEQ expected next. -/
structure BcastIn where
  on : Bool := false
  loads : Bool := false
  seq : Nat := 0
  deriving DecidableEq, Repr

/-- Zhevley port logic, and the head's tables, beside the ZV_ registers. -/
structure Chain where
  /-- everything handed to the transmitters, oldest first, with the ports -/
  sent : List (List Nat × ZOut) := []
  /-- transmitters of the four ports (R305) -/
  lines : List (Nat × Line) := []
  /-- messages sent by type (SEQ, Table ZVL-2) -/
  seqs : List (Nat × Nat) := []
  /-- measurements that run: port, echoes, sum of round trips in 1/256 UI (R309) -/
  meas : List (Nat × Nat × Nat) := []
  ftab : List FEntry := []
  /-- SKIP_LOST and TICK_LOST reports that wait 1 ms (R330) -/
  waits : List FRep := []
  sides : List (Nat × Side) := []
  /-- HEAD and BASE from the next superframe start (Table CMD-11) -/
  role : Option (Bool × Nat) := none
  /-- address and position from the next superframe start (R307) -/
  move : Option (Nat × Nat) := none
  rangePosted : Bool := false
  /-- P of the last SUPER differs (R315) -/
  pDiff : Bool := false
  /-- the unit is unconfigured (R260), so that its loaded generation is 0 (R327) -/
  unconf : Bool := true
  /-- beached for a mismatch; a full load has committed since (R329) -/
  mismatch : Bool := false
  loadedSince : Bool := false
  roster : List Roster := []
  recs : List FRec := []
  /-- a SUPER has been received; UP ports measured, and heard by CALD, since their link came up -/
  superSeen : Bool := false
  measured : List Nat := []
  /-- UP ports measured since SRC changed last: only then a calibration may complete (R540) -/
  calib : List Nat := []
  heard : List Nat := []
  /-- ports back at full rate whose hop has not been measured since (R338) -/
  slow : List Nat := []
  /-- CHAIN_GEN: announce GEN instead of the own loaded generation -/
  genSet : Option Nat := none
  epochNext : Bool := false
  bcast : Bcast := {}
  rx : BcastIn := {}
  fwd : List Fwd := []
  remote : List (Nat × BitVec 256) := []
  remoteLost : Nat := 0
  deriving DecidableEq, Repr

/-! ## Loading and start-up (spec/08, 09) -/

/-- Where a load stands (Table CFG-13). -/
inductive LdPhase where
  | idle
  /-- waits for the header -/
  | header
  /-- header accepted: waits for the hold edge (R279) -/
  | hold
  | records
  | trailer
  /-- the trailer stage runs, then the set stage -/
  | trailerStage | setStage
  deriving DecidableEq, Repr

/-- The loader. -/
structure Loader where
  phase : LdPhase := .idle
  /-- BOOT encoding of the source (Table CFG-10) and image slot -/
  source : Nat := 0
  slot : Nat := 0xFF
  /-- KIND required, release mode and target of the command (Table CMD-5) -/
  kind : Nat := 1
  release : Nat := 0
  target : Nat := 0
  /-- who started it; a boot load (R276); a head's own load of its broadcast (R378) -/
  mb : Nat := 0
  tag : Nat := 0xFFFF
  boot : Bool := false
  attempt : Nat := 0
  /-- bytes received and not yet taken; bytes received in all -/
  buf : List Byte := []
  took : Nat := 0
  hdr : BitVec 2048 := 0
  /-- records taken from the stream, memory-initialisation records among them, class of the last one -/
  recN : Nat := 0
  memN : Nat := 0
  cls : Nat := 2
  /-- addresses this unit has taken (R238) -/
  addrs : List Nat := []
  /-- hash chain (R247) -/
  hash : BitVec 384 := 0
  trailer : BitVec 2080 := 0
  /-- staged global frames, and tile frames by key -/
  glob : List (Nat × BitVec 4096) := []
  tf : List (Nat × BitVec 4096) := []
  /-- time and fabric cycle of the header's acceptance -/
  startPs : Nat := 0
  startCyc : Nat := 0
  /-- regions held by the load (R278) -/
  held : List Nat := []
  /-- LOAD_GRP (R238) -/
  grp : Nat := 0
  /-- report of the last load (Table CFG-16) -/
  report : BitVec 192 := 0
  /-- PSP_ERR (R251) -/
  pspErr : Bool := false
  /-- low nibble that waits for its byte; nibbles are discarded until SSP_CS_N rises (R253) -/
  sspNib : Option Nat := none
  /-- the parallel port has been idle since its last word: with PSP_ERR = 1 the next word begins a new image (R251) -/
  pspGap : Bool := false
  sspSkip : Bool := false
  /-- nibbles of the image that began after SSP_CS_N fell have transferred: SSP_CS_N has not risen since (R253) -/
  sspOpen : Bool := false
  deriving DecidableEq, Repr

/-- The boot procedure (R276). -/
structure Boot where
  /-- the boot load has been started since the VAUX power-on reset, or since a brown-out asked for it again -/
  started : Bool := false
  on : Bool := false
  source : Nat := 0
  slot : Nat := 0xFF
  attempts : Nat := 0
  /-- loads started in this sequence, ATTEMPT of the next one -/
  n : Nat := 0
  /-- VCORE is browned out (R507) -/
  brown : Bool := false
  /-- VCORE brown-out reload: ALIGN_DONE comes from the last calibration -/
  reload : Bool := false
  /-- BOOT_FAIL has been posted since the unit was last configured (R277) -/
  told : Bool := false
  deriving DecidableEq, Repr

/-- The start-up sequencer (R264 to R266). -/
structure Seq where
  on : Bool := false
  /-- current slot, 6 when complete -/
  slot : Nat := 0
  /-- the slot is released and its step waits -/
  released : Bool := false
  /-- step codes and delays by slot (R264) -/
  steps : List Nat := []
  delays : List Nat := []
  /-- SEQ_TIMEOUT of the image; what asks for it is the command of that name (log 4) -/
  timeoutMs : Nat := 100
  /-- tick edges since the last completion or commit, frames since the slot's release -/
  ticks : Nat := 0
  frames : Nat := 0
  timedOut : Bool := false
  declared : Bool := false
  deriving DecidableEq, Repr

/-! ## Image store (spec/08 R268 to R274, spec/12 R362, R363) -/

/-- A slot: state (0 EMPTY, 1 WRITING, 2 VALID, 3 INVALID), program count, GENERATION, length, contents. -/
structure Slot where
  st : Nat := 0
  prog : Nat := 0
  gen : Nat := 0
  len : Nat := 0
  bytes : List Byte := []
  deriving DecidableEq, Repr

/-- An open write stream: slot, mailbox, bytes taken, bytes of the chunk that fills, FINAL taken. -/
structure Stream where
  on : Bool := false
  slot : Nat := 0
  mb : Nat := 0
  took : Nat := 0
  chunk : List Byte := []
  fin : Bool := false
  deriving DecidableEq, Repr

/-- A seal that runs (R269, R358). -/
structure Seal where
  slot : Nat
  mb : Nat
  tag : Nat
  startPs : Nat
  deriving DecidableEq, Repr

/-- Slots as units leave Ndeiravas: image slots EMPTY (R274), FW0 VALID and running (log 12). -/
def slotReset (k : Nat) : Slot := if k = 0x10 then { st := 2 } else {}

/-- The image store. -/
structure Store where
  /-- slots 0 to 3 and 0x10, 0x11 (FW0, FW1) -/
  slots : List (Nat × Slot) := []
  img : Stream := {}
  fw : Stream := {}
  /-- chunk that is programming: slot and bytes -/
  prog : Option (Nat × List Byte) := none
  sealing : Option Seal := none
  /-- boot record copies (Table CFG-18) -/
  rec0 : BitVec 512 := 0
  rec1 : BitVec 512 := 0
  /-- slots to erase (R431), bytes of the first one erased, a chunk of it is programming -/
  erase : List Nat := []
  erased : Nat := 0
  erasing : Bool := false
  /-- the last chunk of a stream, closed by the request that also closed the one that programs, waits in the other buffer -/
  next : Option (Nat × List Byte) := none
  /-- last reading at HOLDUP_SENSE, mV -/
  mv : Nat := 0
  deriving DecidableEq, Repr

/-! ## Life cycle (spec/14) -/

/-- OTP as units leave Ndeiravas: OPEN, with IDENTITY (R413, R414); TRIM's content is not given (log 11). -/
def otpReset (k : Nat) : BitVec 512 :=
  match k / 3 with
  | 0 => 0x0F
  | 1 => 0x0F
  | 2 => BitVec.ofNat 512 (Config.unitId.toNat + Config.transportKey.toNat * 2 ^ 128)
  | _ => 0

/-- OTP, its engine and what a reset forgets. -/
structure Life where
  /-- copy c of group g at key 3g + c; groups 0 LC_STATE, 1 LC_INTENT, 2 IDENTITY, 3 CUST_KEY, 4 to 7 IMG_KEYn, 8 SEC,
  9 IMG_ROLLBACK, 10 FW_ROLLBACK, 11 TRIM -/
  otp : List (Nat × BitVec 512) := []
  /-- burns, group and bits; the first one runs when `burning` -/
  burns : List (Nat × BitVec 512) := []
  burning : Bool := false
  /-- code of an intent accepted and not yet in OTP (R427) -/
  accepted : Nat := 0
  /-- a roll-forward's state burn is to come: its code (R430) -/
  rolling : Nat := 0
  /-- the boot record is still to be rewritten by a roll-forward (R431) -/
  recDue : Bool := false
  /-- position that decided at the last VAUX power-on reset: effects on pins and tiers follow it (R427, R430) -/
  start : Nat := 0
  nonce : Option (BitVec 256) := none
  /-- SCOPE of an accepted token (R440) -/
  debugTok : Bool := false
  liftTok : Bool := false
  deriving DecidableEq, Repr

/-! ## Breakwater's host island (spec/13) -/

/-- The island's own state and its copies. -/
structure Island where
  st : MbState := .idle
  rsp : BitVec 2048 := 0
  devUp : Bool := false
  resync : Bool := false
  lastSeq : Nat := 0
  haddr : Option Nat := none
  /-- reply frame of the last host frame, if any -/
  reply : Option (List Byte) := none
  /-- HOST_MISO is pulled low in the presence byte of the last SEARCH -/
  presence : Bool := false
  /-- copies of what the device side sends: HL_UP, MB0's event ring and MB_EVT_LOST, chain address, life-cycle code (R407) -/
  hlUp : Bool := false
  wr : Nat := 0
  rd : Nat := 0
  evt : List (Nat × BitVec 256) := []
  lost : Nat := 0
  zaddr : Nat := 0
  lcNow : Nat := 0
  deriving DecidableEq, Repr

/-! ## Probe block (spec/17) -/

/-- What the probe block holds beside its registers. -/
structure Probe where
  target : Nat := 0
  /-- the tick of the target frame has come: samples are stored -/
  storing : Bool := false
  /-- words written, modulo the size of a wrapping buffer (WPTR holds 16 bits of it) -/
  wp : Nat := 0
  /-- FRAMES, and frames still to run once the count runs -/
  frames : Nat := 0
  left : Nat := 0
  /-- the pattern has matched and its frame has ended -/
  counting : Bool := false
  /-- sources of classes 5 to 7 at the last three edges, newest first -/
  raw : List DWord := []
  /-- sample words of the last nine edges, newest first -/
  words : List DWord := []
  /-- network cycle of the last trace packet -/
  emitted : Option Nat := none
  /-- level that each probe-owned pin was last driven to by an entry, and what entries drove as SLEEP began (R475) -/
  pinLast : List (Nat × Bool) := []
  pinSleep : List (Nat × Bool) := []
  deriving DecidableEq, Repr

/-! ## The state -/

/-- The state of the block. -/
structure State where
  /-- commands that wait, first in, first out (the model's own field) -/
  pending : List Instr := []
  /-- free values drawn (the model's own field, log 1) -/
  free : Nat := 0
  /-- picoseconds since the VAUX power-on reset (log 4) -/
  timePs : Nat := 0
  /-- the VAUX power-on reset has been released -/
  on : Bool := false
  /-- registers by CSR address -/
  csr : List (Nat × Word) := []
  tick : Tick := {}
  fab : Fabric := {}
  /-- regions by number -/
  rg : List (Nat × Region) := []
  /-- global frames in force, by number (R240) -/
  glob : List (Nat × BitVec 4096) := []
  /-- memory-tier bytes by offset in the memory window (R159, Table ARC-5) -/
  mem : List Host.Cell := []
  /-- flipped bits of the 72-bit word at key 4096k + w (R162) -/
  flips : List (Nat × Nat) := []
  /-- words found uncorrectable and not written since (R197) -/
  ueSeen : List Nat := []
  /-- queue controllers by number -/
  qs : List (Nat × Queue) := []
  hl : Headland := {}
  /-- mailboxes by number -/
  mb : List (Nat × Mbox) := []
  /-- fault log, oldest first (R518) -/
  log : List LogEntry := []
  logSeq : Nat := 0
  clk : Clocks := {}
  lane : List (Nat × Lane) := []
  /-- packets in the network, in order of injection -/
  net : List Packet := []
  noc : Noc := {}
  /-- outstanding CSR requests (R216) -/
  reqs : List Pend := []
  run : Run := {}
  /-- visits of the running pass of each scrub engine (R195) -/
  scrubN : List (Nat × Nat) := []
  rails : Rails := {}
  /-- straps as sampled: BOOT and the PARK bits of bank b at [2b + 1 : 2b] (R249) -/
  boot : Nat := 0
  park : Nat := 0
  tap : Tap := {}
  chain : Chain := {}
  ld : Loader := {}
  bt : Boot := {}
  sq : Seq := {}
  store : Store := {}
  life : Life := {}
  isl : Island := {}
  probe : Probe := {}
  deriving DecidableEq, Repr

/-- No command faults: the block has no exception entry, and what the spec calls a fault is a status, a flag or an event
of the state. -/
inductive Fault where
  deriving DecidableEq, Repr

/-- Refusals. -/
inductive Refusal where
  /-- Raised by an arm of exec whose command has no meaning yet. Safe. -/
  | notModelled (mnemonic : String)
  deriving DecidableEq, Repr

/-- The machine right after reset: VAUX power-on reset held, every field at its default above, every register at
regReset. -/
def State.reset : State := {}

end Sys2Proof.Machine
end

