-- ==== Sys2Proof/Machine/Ops.lean ====
section
/-! DEFINITION. The named operations: registers, memory words with their check bits, free values, time, frames,
events and the fault log. -/

namespace Sys2Proof.Machine

/-! ## Registers -/

/-- The value of the register at address `a`. -/
def State.reg (s : State) (a : Nat) : Nat := (mget regReset s.csr a).toNat

/-- Set the register at address `a`. -/
def State.setReg (s : State) (a v : Nat) : State := { s with csr := mput regReset s.csr a (BitVec.ofNat 32 v) }

/-- Bits [lo + w − 1 : lo] of the register at address `a`. -/
def State.fld (s : State) (a lo w : Nat) : Nat := bits (s.reg a) lo w

/-- One bit of a register. -/
def State.bit (s : State) (a lo : Nat) : Bool := s.fld a lo 1 = 1

/-- Set a field of a register. -/
def State.setFld (s : State) (a lo w v : Nat) : State := s.setReg a (setBits (s.reg a) lo w v)

/-- Set one bit of a register. -/
def State.setBit (s : State) (a lo : Nat) (b : Bool) : State := s.setFld a lo 1 b.toNat

/-- Count in a field of `w` bits that saturates. -/
def State.count (s : State) (a lo w n : Nat) : State := s.setFld a lo w (satAdd w (s.fld a lo w) n)

/-- Count in a 32-bit counter that saturates. -/
def State.inc (s : State) (a : Nat) : State := s.count a 0 32 1

/-- Clear the registers at the addresses given. -/
def State.zeroRegs (s : State) (l : List Nat) : State := l.foldl (fun t a => t.setReg a 0) s

/-! ## Parts of the state -/

def State.region (s : State) (r : Nat) : Region := mget (fun _ => {}) s.rg r
def State.setRegion (s : State) (r : Nat) (x : Region) : State := { s with rg := mput (fun _ => {}) s.rg r x }
def State.queue (s : State) (q : Nat) : Queue := mget (fun _ => {}) s.qs q
def State.setQueue (s : State) (q : Nat) (x : Queue) : State := { s with qs := mput (fun _ => {}) s.qs q x }
def State.mbox (s : State) (m : Nat) : Mbox := mget (fun _ => {}) s.mb m
def State.setMbox (s : State) (m : Nat) (x : Mbox) : State := { s with mb := mput (fun _ => {}) s.mb m x }
def State.port (s : State) (k : Nat) : Port := mget (fun _ => {}) s.fab.port k
def State.setPort (s : State) (k : Nat) (x : Port) : State :=
  { s with fab := { s.fab with port := mput (fun _ => {}) s.fab.port k x } }
def State.laneOf (s : State) (n : Nat) : Lane := mget (fun _ => {}) s.lane n
def State.setLane (s : State) (n : Nat) (x : Lane) : State := { s with lane := mput (fun _ => {}) s.lane n x }
def State.gckOf (s : State) (n : Nat) : Gck := mget (fun _ => {}) s.clk.gck n
def State.setGck (s : State) (n : Nat) (x : Gck) : State :=
  { s with clk := { s.clk with gck := mput (fun _ => {}) s.clk.gck n x } }
/-- Global frame `n` in force (R240). -/
def State.globF (s : State) (n : Nat) : Nat := (mget (fun _ => (0 : BitVec 4096)) s.glob n).toNat

/-- Apply `f` for every number below `n`. -/
def forAll (n : Nat) (f : Nat → State → State) (s : State) : State := (List.range n).foldl (fun t k => f k t) s

/-- Draw a free value (log 1). -/
def State.draw (s : State) : Nat × State := (Config.freeValue s.free, { s with free := s.free + 1 })

/-! ## Places (spec/01 R14 to R22) -/

/-- Bay of a region (R16). -/
def bayOf (r : Nat) : Nat := 4 * (r % 48 / 8) + r % 8 / 2
/-- Slot of a region in its bay (R16). -/
def slotOf (r : Nat) : Nat := r % 2 + 2 * (r / 48)
/-- Region in slot `t` of bay `b` (R16). -/
def regionAt (b t : Nat) : Nat := 8 * (b / 4) + 2 * (b % 4) + t % 2 + 48 * (t / 2)
/-- Stacked-pair partner (R15). -/
def partner (r : Nat) : Nat := if r < 48 then r + 48 else r - 48
/-- Region of queue controller `q` (R18). -/
def queueRegion (q : Nat) : Nat := q / 4
/-- Queue controller with index `i` in bay `b`, in the order of Table IOL-7. -/
def bayQueue (b i : Nat) : Nat := 4 * regionAt b (i / 4) + i % 4
/-- Node ID of local port `p` of router (x, y) (Table ARC-2). -/
def nodeId (x y p : Nat) : Nat := x * 32 + y * 4 + p
/-- Node ID of a region's endpoint (R20). -/
def regionNode (r : Nat) : Nat := nodeId (r % 8) (r % 48 / 8) (r / 48)
/-- Position of a node's router, 8y + x. -/
def nodeRouter (n : Nat) : Nat := 8 * (n / 4 % 8) + n / 32
/-- Router of the L2 port of quad `q` (Table ARC-3), with port 2. -/
def quadNode (q : Nat) : Nat :=
  [0x02, 0x42, 0xA2, 0xC2, 0x06, 0x66, 0x86, 0xC6, 0x2A, 0x4A, 0x8A, 0xEA, 0x0E, 0x4E, 0xAE, 0xCE, 0x12, 0x72, 0x92, 0xD2,
    0x36, 0x56, 0x96, 0xF6].getD q 0
/-- Node of cluster port `c` (Table ARC-3). -/
def clusterNode (c : Nat) : Nat :=
  [0x22, 0x82, 0xE2, 0x46, 0xA6, 0x0A, 0x6A, 0xCA, 0x2E, 0x8E, 0xEE, 0x52, 0xB2, 0x16, 0x76, 0xD6,
    0x23, 0x83, 0xE3, 0x47, 0xA7, 0x0B, 0x6B, 0xCB, 0x2F, 0x8F, 0xEF, 0x53, 0xB3, 0x17, 0x77, 0xD7].getD c 0
/-- Node of Zhevley port `p` (R22). -/
def zvNode (p : Nat) : Nat := [0x07, 0xE7, 0x13, 0xF3].getD p 0

/-! ## Clocks and time (spec/15 R442 to R451) -/

/-- Frequency in Hz of crystal `i`, 0 XTA and 1 XTB, by the value `xt` of CK_XT_FREQ; an undeclared crystal still serves
as a reference (R449) and its frequency is the board's (log 4). -/
def crystalHz (xt i : Nat) : Nat :=
  let k := xt / 2 ^ (16 * i) % 2 ^ 16
  (if k = 0 then Config.crystalKhz i else k) * 1000

/-- Reference frequency in Hz of system PLL `n` by its settings (R444, Table CLK-8). -/
def State.spllRefHz (s : State) (n : Nat) : Nat :=
  match s.fld (CK (0x40 + 0x10 * n)) 1 2 with
  | 0 => 400000000
  | 1 => crystalHz (s.reg (CK 8)) 0
  | 2 => crystalHz (s.reg (CK 8)) 1
  | _ => 250000000

/-- Frequency of the source with code `c` of CK_GCKn.SRC as a fraction in Hz (R444, Table CLK-8). -/
def State.srcHz (s : State) (c : Nat) : Nat × Nat :=
  match c with
  | 1 => (400000000, 1)
  | 2 => (crystalHz (s.reg (CK 8)) 0, 1)
  | 3 => (crystalHz (s.reg (CK 8)) 1, 1)
  | 4 => (250000000, 1)
  | _ =>
    if 9 ≤ c ∧ c ≤ 13 then
      let a := CK (0x40 + 0x10 * (c - 8))
      (s.spllRefHz (c - 8) * (s.fld a 7 9 * 2 ^ 24 + s.fld (a + 4) 0 24), 2 ^ 24 * (s.fld a 3 4 + 1) * s.fld a 16 5)
    else (0, 1)

/-- Period in picoseconds, a fraction, of a global clock from source `c` through divider `d` (R451). Where the source has
no frequency (a stopped clock, a PLL without settings) no edge comes, and the period of the boot clock stands (log 4). -/
def State.periodOf (s : State) (c d : Nat) : Nat × Nat :=
  let (a, b) := s.srcHz c
  if a = 0 ∨ b = 0 then (160000, 1) else (d * 10 ^ 12 * b, a)

/-- Period Tc of the fabric clock as a fraction in picoseconds. -/
def State.tc (s : State) : Nat × Nat := s.periodOf (s.gckOf 0).src (s.gckOf 0).div

/-- Period of the fabric clock by the setting of CK_GCK0, whatever ramp runs. -/
def State.tcSet (s : State) : Nat × Nat := s.periodOf (s.fld (CK 0x100) 0 4) (s.fld (CK 0x100) 4 6 + 1)

/-- Period of global clock `n` now, in whole picoseconds. -/
def State.gckPs (s : State) (n : Nat) : Nat :=
  let (a, b) := s.periodOf (s.gckOf n).src (s.gckOf n).div
  a / b

/-- Period of the fabric clock, GCK0 (R446). -/
def State.fabricPs (s : State) : Nat := s.gckPs 0

/-- Milliseconds since the VAUX power-on reset (Table FLT-5). -/
def State.ms (s : State) : Nat := s.timePs / 10 ^ 9

/-! ## Tick generator fields (Tables TCK-6 to TCK-9) -/

def State.src (s : State) : Nat := s.fld (CK 0x800) 0 2
def State.P (s : State) : Nat := s.fld (CK 0x804) 0 13
def State.wMax (s : State) : Nat := s.fld (CK 0x830) 0 7
def State.frameNo (s : State) : Nat := s.tick.frame.toNat
def State.locked (s : State) : Bool := s.bit (CK 0x80C) 0
/-- Power mode (Table CLK-8). -/
def State.mode (s : State) : Nat := s.fld (CK 0x204) 0 2
/-- Are the memory tier and the routers powered: VMEM valid, and not in DEEP_SLEEP (R12, Table ELP-4)? -/
def State.routersOn (s : State) : Bool := s.rails.vmem && s.mode ≠ 2

/-- Sum modulo 2^48. -/
def addFrame (a b : Nat) : Nat := (a + b) % 2 ^ 48
/-- Difference modulo 2^48. -/
def subFrame (a b : Nat) : Nat := (a + 2 ^ 48 - b % 2 ^ 48) % 2 ^ 48
/-- Frame `a` is later than frame `b` (R52). -/
def laterFrame (a b : Nat) : Bool := 1 ≤ subFrame a b && subFrame a b < 2 ^ 47

/-! ## Context registers (Tables CTX-5 to CTX-8) -/

def State.active (s : State) (r : Nat) : Nat := s.fld (RG r 0) 0 3
def State.swapPending (s : State) (r : Nat) : Bool := s.bit (RG r 0) 3
def State.pendCtx (s : State) (r : Nat) : Nat := s.fld (RG r 0) 4 3
def State.stepNo (s : State) (r : Nat) : Nat := s.fld (RG r 0) 8 4
def State.schedRun (s : State) (r : Nat) : Bool := s.bit (RG r 0) 12
def State.loaded (s : State) (r c : Nat) : Bool := s.bit (RG r 0) (16 + c)
def State.nSteps (s : State) (r : Nat) : Nat := s.fld (RG r 4) 0 5
def State.reqEn (s : State) (r : Nat) : Bool := s.bit (RG r 4) 8
/-- Step entry `j` of region `r`: context and cycles (R130). -/
def State.stepEntry (s : State) (r j : Nat) : Nat × Nat :=
  let e := s.fld (RG r (0x20 + 4 * (j / 2))) (16 * (j % 2)) 16
  (bits e 13 3, bits e 0 13)
/-- The schedule table of region `r` as words: CTRL, REQ_TGT, STEP0 to STEP7. -/
def State.table (s : State) (r : Nat) : List Word :=
  [BitVec.ofNat 32 (s.reg (RG r 4)), BitVec.ofNat 32 (s.reg (RG r 8))] ++
    (List.range 8).map (fun i => BitVec.ofNat 32 (s.reg (RG r (0x20 + 4 * i))))
/-- Put a schedule table into force. -/
def State.setTable (s : State) (r : Nat) (t : List Word) : State :=
  let s := (s.setReg (RG r 4) (t.getD 0 0).toNat).setReg (RG r 8) (t.getD 1 0).toNat
  forAll 8 (fun i u => u.setReg (RG r (0x20 + 4 * i)) (t.getD (i + 2) 0).toNat) s

/-! ## Memory words (spec/06 R159 to R163, R541) -/

/-- Key of word `w` of block `k`. -/
def wordKey (k w : Nat) : Nat := 4096 * k + w

/-- What an unlisted byte reads as: 0, as after the clear of R163. -/
def memDefault (_ : Nat) : Byte := 0

/-- The canonical form of the memory: offsets strictly rising, no entry equal to what an unlisted byte reads as. -/
def Memory.wf (m : List Host.Cell) : Bool := mwf memDefault m

/-- The byte at offset `a` of the memory window. -/
def State.byte (s : State) (a : Nat) : Byte := mget memDefault s.mem a

/-- Write the bytes of a word from offset `a` up. -/
def putBytes (m : List Host.Cell) (a : Nat) : List Byte → List Host.Cell
  | [] => m
  | b :: bs => putBytes (mput memDefault m a b) (a + 1) bs

/-- The data bits of a word as last written, upsets apart. -/
def State.rawWord (s : State) (k w : Nat) : Nat :=
  natLE ((List.range 8).map (fun j => s.byte (8 * wordKey k w + j)))

/-- Mask of flipped bits of the 72-bit word. -/
def State.flipMask (s : State) (k w : Nat) : Nat := mget (fun _ => 0) s.flips (wordKey k w)

/-- The data bits as stored, upsets included. -/
def State.storedWord (s : State) (k w : Nat) : Nat := s.rawWord k w ^^^ bits (s.flipMask k w) 0 64

/-- Store a word with new check bits (R162). -/
def State.putWord (s : State) (k w v : Nat) : State :=
  { s with
    mem := putBytes s.mem (8 * wordKey k w) (bytesLE v 8)
    flips := mput (fun _ => 0) s.flips (wordKey k w) 0
    ueSeen := s.ueSeen.filter (· ≠ wordKey k w) }

/-- Read a word under its SECDED code (R162): data, CE, UE. With three or more flipped bits each of the outcomes that
R162 allows can come, chosen by free values (log 1). -/
def State.readWord (s : State) (k w : Nat) : (Nat × Bool × Bool) × State :=
  match popCount (s.flipMask k w) 72 with
  | 0 => ((s.rawWord k w, false, false), s)
  | 1 => ((s.rawWord k w, true, false), s)
  | 2 => ((s.storedWord k w, false, true), s)
  | _ =>
    let (c, s) := s.draw
    let (v, s) := s.draw
    match c % 3 with
    | 0 => ((v % 2 ^ 64, true, false), s)
    | 1 => ((s.storedWord k w, false, true), s)
    | _ => ((v % 2 ^ 64, false, false), s)

/-! ## Events (spec/11 R352 to R354, spec/12 R386) -/

/-- Latch a hardware event at its source, or merge it into the latch that waits (R354). -/
def State.latch (s : State) (code src data : Nat) : State :=
  let hit := s.hl.latches.any (fun l => l.code = code && l.src = src + 1)
  let ls :=
    if hit then s.hl.latches.map (fun l => if l.code = code && l.src = src + 1 then { l with merged := l.merged + 1 } else l)
    else s.hl.latches ++ [⟨code, src + 1, data, 0⟩]
  { s with hl := { s.hl with latches := ls } }

/-- Queue a general event that Headland itself posts. -/
def State.announce (s : State) (code data : Nat) : State :=
  { s with hl := { s.hl with latches := s.hl.latches ++ [⟨code, 0, data, 0⟩] } }

/-- Queue a directed event (R353). -/
def State.direct (s : State) (d : Directed) : State := { s with hl := { s.hl with directed := s.hl.directed ++ [d] } }

/-- EV_FAULT of a detail that Headland posts, its data from byte 4 (Table CMD-16). -/
def State.fault (s : State) (detail data : Nat) : State := s.announce 0x0B (detail + data * 2 ^ 32)

/-- EV_FAULT of a detail whose source is hardware (R386). -/
def State.faultHw (s : State) (detail src data : Nat) : State :=
  s.latch 0x0B (detail * 65536 + src) (detail + data * 2 ^ 32)

/-- Is the latch a hardware event that carries MERGED (R386)? -/
def Latch.hw (l : Latch) : Bool := l.src ≠ 0 && l.code ≠ 9

/-- Data bytes used by an event (R352, Tables CMD-15, CMD-16); the MERGED field counts as used (log 21). -/
def eventLen (l : Latch) : Nat :=
  if l.hw then 24 else
  match l.code with
  | 1 => 24
  | 2 => 9
  | 3 => 8
  | 8 => 12
  | 9 => 8
  | 0x0B =>
    match l.data % 65536 with
    | 0x0106 => 5
    | 0x0107 => 24
    | 0x0108 => 6
    | 0x0109 => 12
    | 0x010A => 6
    | 0x010B => 8
    | 0x010C => 8
    | 0x010D => 8
    | 0x010E => 5
    | 0x010F => 10
    | 0x0110 => 8
    | 0x0111 => 5
    | 0x0112 => 20
    | _ => 4
  | 0x0C => 3
  | _ => 24

/-- Events in the ring of mailbox `m` (EVT_CNT, Table HDL-4). -/
def State.evtCnt (s : State) (m : Nat) : Nat := ((s.mbox m).wr + 16 - (s.mbox m).rd % 16) % 16

/-- Write an event entry into the ring of mailbox `m`, or count it lost (R354). -/
def State.ringEvent (s : State) (m code len tag data : Nat) : State :=
  let b := s.mbox m
  if s.evtCnt m = 8 then s.setMbox m { b with lost := satAdd 16 b.lost 1 }
  else
    let e := packLE [(code, 1), (len, 1), (tag, 2), (s.frameNo, 4)] + (data % 2 ^ 192) * 2 ^ 64
    s.setMbox m { b with evt := mput (fun _ => 0) b.evt (b.wr % 8) (BitVec.ofNat 256 e), wr := (b.wr + 1) % 16 }

/-! ## Fault log (spec/18 R518 to R520) -/

/-- Write a log entry, or count it in one written less than 10 ms before (R519). -/
def State.logEntry (s : State) (kind event detail data : Nat) : State :=
  let same (e : LogEntry) : Bool :=
    e.kind = kind && e.event = event && e.detail = detail && decide (s.timePs < e.ps + 10 ^ 10)
  if s.log.any same then
    { s with log := s.log.map (fun e => if same e then { e with count := satAdd 32 e.count 1 } else e) }
  else
    let e : LogEntry := ⟨s.logSeq % 2 ^ 32, kind, event, detail, s.frameNo, s.timePs, 1, data % 2 ^ 64⟩
    { s with log := (s.log ++ [e]).drop (s.log.length + 1 - 256), logSeq := s.logSeq + 1 }

/-- Insert by due cycle, after equal ones (R147: older first, then the lower region). -/
def insDue {α : Type} (due : α → Nat) (x : α) : List α → List α
  | [] => [x]
  | y :: ys => if due x < due y then x :: y :: ys else y :: insDue due x ys

/-- Order by due cycle, keeping the order of equals. -/
def sortDue {α : Type} (due : α → Nat) (l : List α) : List α := l.foldl (fun acc x => insDue due x acc) []

/-- Cycle of the tick edge of the running frame. -/
def State.frameStart (s : State) : Nat := s.tick.cyc - s.tick.count

end Sys2Proof.Machine
end

