-- ==== Sys2Proof/Machine/Transmit.lean ====
section
/-! DEFINITION. The transmitters of the Zhevley ports (spec/10 R301 to R305, R313, R336): what stands in which class,
which column goes next, and how the lines move on as time passes. -/

namespace Sys2Proof.Machine

/-! ## The ports (R298, R300, Tables ZVL-9, ZVL-11) -/

/-- HEAD of ZV_UNIT. -/
def State.isHead (s : State) : Bool := s.bit (ZV 0 0x800) 25
/-- Active upstream and downstream port. -/
def State.upPort (s : State) : Option Nat :=
  match s.fld (ZV 0 0x820) 0 2 with
  | 0 => some 0
  | 1 => some 2
  | _ => none
def State.dnPort (s : State) : Option Nat :=
  match s.fld (ZV 0 0x820) 2 2 with
  | 0 => some 1
  | 1 => some 3
  | _ => none
/-- LINK and LOW of port `p`. -/
def State.link (s : State) (p : Nat) : Bool := s.bit (ZV p 4) 0
def State.low (s : State) (p : Nat) : Bool := s.bit (ZV p 4) 1
/-- BEACHED of ZV_UNIT. -/
def State.beached (s : State) : Bool := s.bit (ZV 0 0x800) 26
/-- Is gate `g` open (Table CLK-8)? -/
def State.gateOpen (s : State) (g : Nat) : Bool := s.bit (CK (0x400 + 4 * g)) 3

/-- Ports that carry the stream away from the head, and towards it (R298, R300). -/
def downPorts : List Nat := [1, 3]
def upPorts : List Nat := [0, 2]

/-- ADDR, POS and ASSIGNED of ZV_UNIT. -/
def State.zaddr (s : State) : Nat := s.fld (ZV 0 0x800) 0 12
def State.zpos (s : State) : Nat := s.fld (ZV 0 0x800) 12 12
def State.assigned (s : State) : Bool := s.bit (ZV 0 0x800) 24

/-- State nibble of IDLE and KEEP (Table ZVL-1). -/
def State.idleState (s : State) : Nat :=
  s.assigned.toNat + (s.bit (CK 0x80C) 2).toNat * 2 + s.beached.toNat * 4 + s.isHead.toNat * 8

/-- Has boundary scan taken pins and lanes from their owners (R489, DEDUCED log 148)? -/
def State.scanned (s : State) : Bool := s.tap.ir = .extest || s.tap.ir = .extestPulse || s.tap.ir = .extestTrain

/-- Are the rails valid without which the chain bypasses the unit (R510)? -/
def State.chainRails (s : State) : Bool := s.rails.vmem && s.rails.vtx && s.rails.vtt

/-- Does port `p` carry traffic: enabled, its gate open, no loopback and no test pattern (Table ZVL-9, Table CLK-4,
log 119), powered, not taken by boundary scan, the unit not SCRAPPED (R433)? -/
def State.portOn (s : State) (p : Nat) : Bool :=
  s.life.start ≠ 7 && s.chainRails && !s.scanned && s.bit (ZV p 0) 0 && s.gateOpen (0x28 + p)
    && s.fld (ZV p 0) 1 2 = 0 && s.fld (ZV p 0) 3 3 = 0

/-- Ordered sets of the port logic. -/
def setSof : Nat := 1
def setCal : Nat := 4
def setEcho : Nat := 5
def setIdle : Nat := 6
def setSleep : Nat := 7
def setWake : Nat := 8
def setKeep : Nat := 9
/-- Message types (Table ZVL-3). -/
def tSuper : Nat := 0x10
def tEnum : Nat := 0x11
def tEnumRpt : Nat := 0x12
def tCald : Nat := 0x13
def tFault : Nat := 0x14
def tMbreq : Nat := 0x15
def tMbrsp : Nat := 0x16
def tBcast : Nat := 0x17
def tImage : Nat := 0x18
def tLoadRpt : Nat := 0x19

/-- Does port `p` stand in far-end loopback with its receive link up (Table ZVL-9)? It then sends what it receives as it came, and
takes nothing of it (DESIGN CHOICE log 184). -/
def State.portFar (s : State) (p : Nat) : Bool :=
  s.life.start ≠ 7 && s.chainRails && !s.scanned && s.bit (ZV p 0) 0 && s.gateOpen (0x28 + p)
    && s.fld (ZV p 0) 1 2 = 2 && s.fld (ZV p 0) 3 3 = 0 && s.link p

/-- Is the link of port `p` up and the port on, so that it receives? -/
def State.portUp (s : State) (p : Nat) : Bool := s.link p && s.portOn p

/-! ## Classes and columns (R301 to R305) -/

/-- Class of R305 of what is handed over: 2 SOF, 3 exchange, 5 control, 6 IMAGE. ECHO, which is due at an exact time as an SOF
is (R309), goes with SOF, other ordered sets with the control messages (DESIGN CHOICE log 120). -/
def ZOut.cls : ZOut → Nat
  | .set t _ => if t = setSof ∨ t = setEcho then 2 else 5
  | .xch _ _ => 3
  | .msg t _ => if t = tImage then 6 else 5

/-- Columns of payload (two bytes a column): of exchange and IMAGE messages R305 counts them, of others not. -/
def ZOut.payCols : ZOut → Nat
  | .set _ _ => 0
  | .xch _ sl => 8 * sl.length
  | .msg _ m => (m.payload.length + 1) / 2

/-- Columns before the payload: the ordered set, and the header of a message (R302, R303). -/
def ZOut.headCols : ZOut → Nat
  | .msg _ _ => 6
  | _ => 2

/-- Columns in all: an ordered set has two, a message ends with its CRC (R302 to R304). -/
def ZOut.cols (o : ZOut) : Nat := o.headCols + o.payCols + (match o with
  | .set _ _ => 0
  | _ => 2)

/-- Does column `k` count against the four columns in five that may carry payload: payload bytes of exchange and IMAGE messages
(R301, R305), at low rate of every message (R336)? -/
def ZOut.payload (slow : Bool) (o : ZOut) (k : Nat) : Bool :=
  (slow || o.cls = 3 || o.cls = 6) && decide (o.headCols ≤ k ∧ k < o.headCols + o.payCols)

/-- What waits in a class of a line. -/
def Line.queue (l : Line) : Nat → List TxItem
  | 2 => l.sof
  | 3 => l.xch
  | 5 => l.ctl
  | 6 => l.img
  | _ => []

def Line.setQueue (l : Line) (c : Nat) (x : List TxItem) : Line :=
  match c with
  | 2 => { l with sof := x }
  | 3 => { l with xch := x }
  | 5 => { l with ctl := x }
  | _ => { l with img := x }

/-- Would the next column of class `c` carry a payload byte? -/
def Line.pays (slow : Bool) (l : Line) (c : Nat) : Bool := match l.queue c with
  | x :: _ => x.what.payload slow x.sent
  | [] => false

/-- The class whose column goes next (R305): class 7 and class 4 are IDLE. At most four columns in five carry payload (R301):
where nothing else waits the fifth stays empty, class 8 (DESIGN CHOICE log 163). -/
def Line.next (slow : Bool) (l : Line) : Nat :=
  let sofDue := match l.sof with
    | x :: _ => decide (x.due ≤ l.atPs)
    | [] => false
  let idleDue := decide (l.setPs + 1000000 ≤ l.atPs)
  let c := if !l.xch.isEmpty then 3 else if idleDue then 4 else if !l.ctl.isEmpty then 5 else if !l.img.isEmpty then 6 else 7
  if l.mid ≠ 0 then l.mid
  else if sofDue then 2
  else if 4 ≤ l.run && l.pays slow c then (if idleDue then 4 else if !l.ctl.isEmpty && c ≠ 5 then 5 else 8)
  else c

/-- One column of `ps` picoseconds, at low rate where `slow`; `fill` is the set that fills the line. -/
def Line.column (slow : Bool) (l : Line) (ps : Nat) (fill : ZOut) : Line :=
  let c := l.next slow
  let l' := { l with atPs := l.atPs + ps }
  match l.queue c with
  | x :: rest =>
    let k := x.sent
    let l' := if k = 0 then { l' with setPs := l.atPs, out := l.out ++ [x.what] } else l'
    let l' := { l' with run := if x.what.payload slow k then l.run + 1 else 0, mid := if k = 0 then c else 0 }
    l'.setQueue c (if k + 1 < x.what.cols then { x with sent := k + 1 } :: rest else rest)
  | [] =>
    if c = 8 then { l' with run := 0 }
    else if l.mid = 0 then { l' with setPs := l.atPs, run := 0, mid := 7, out := if l.out.getLast? = some fill then l.out else l.out ++ [fill] }
    else { l' with run := 0, mid := 0 }

/-- Is nothing waiting? -/
def Line.empty (l : Line) : Bool := l.sof.isEmpty && l.xch.isEmpty && l.ctl.isEmpty && l.img.isEmpty

/-- Does the line of a port that is `low` run at low rate: its SLEEP sets have left (R336)? -/
def Line.slow (low : Bool) (l : Line) : Bool := low && !l.ctl.any (fun x => x.what = .set setSleep 0)

/-- What a line at low rate carries: no SOF, no exchange and no IMAGE, also of what waits (R336). -/
def Line.atRate (low : Bool) (l : Line) : Line :=
  if l.slow low then
    { l with sof := l.sof.filter (fun x => !(match x.what with
      | .set t _ => t = setSof
      | _ => false)), xch := [], img := [], mid := if l.mid = 5 ∨ l.mid = 7 then l.mid else 0 }
  else l

/-- The line of a port, `low` or not, whose state nibble is `st` runs to time `t` through at most `fuel` columns; once nothing
waits the rest is filled with the idle set, KEEP at low rate. There a column takes 64 times as long on one lane, so two columns'
time (R336). -/
def Line.runTo (low : Bool) (t st : Nat) : Nat → Line → Line
  | 0, l => l
  | fuel + 1, l =>
    let l := l.atRate low
    let ps := if l.slow low then 102400 else 800
    let fill : ZOut := .set (if l.slow low then setKeep else setIdle) st
    if t < l.atPs + ps then l
    else if l.empty && l.mid = 0 then
      { l with atPs := t, setPs := t, run := 0, out := if l.out.getLast? = some fill then l.out else l.out ++ [fill] }
    else Line.runTo low t st fuel (l.column (l.slow low) ps fill)

/-- The line takes over what is handed to it: an SOF leaves F + PAD after it was handed over (R313), F being 24 ns and PAD
counting 80 ps, an ECHO 32.000 ns after its CAL (R309). -/
def Line.hand (pad : Nat) (l : Line) (o : ZOut) : Line :=
  let due := match o with
    | .set t _ => if t = setEcho then l.atPs + 32000 else l.atPs + 24000 + 80 * pad
    | _ => l.atPs
  if o.cls = 2 then { l with sof := insDue TxItem.due ⟨o, 0, due⟩ l.sof }
  else l.setQueue o.cls (l.queue o.cls ++ [⟨o, 0, due⟩])

def State.line (s : State) (p : Nat) : Line := mget (fun _ => {}) s.chain.lines p

/-- What comes on a port in far-end loopback leaves on it again as it came, and does nothing else (Table ZVL-9, DESIGN CHOICE log
184); on another port it is treated by `f`. -/
def State.looped (s : State) (p : Nat) (o : ZOut) (f : State → State) : State :=
  if s.portFar p then
    { s with chain := { s.chain with lines := mput (fun _ => {}) s.chain.lines p { s.line p with out := (s.line p).out ++ [o] } } }
  else f s

/-- Port `p` takes over what has been handed to it, then sends until now; one that is off sends nothing. -/
def State.runLine (s : State) (p : Nat) : State :=
  let l := s.line p
  let new := ((s.chain.sent.drop l.seen).filter (fun x => x.1.contains p)).map (·.2)
  let l := { l with seen := s.chain.sent.length }
  let l := if !s.portOn p then { l with atPs := s.timePs }
    else Line.runTo (s.low p) s.timePs s.idleState (s.timePs / 800 + 1 - l.atPs / 800)
      (new.foldl (Line.hand (s.fld (ZV 0 0x81C) 0 12)) l)
  { s with chain := { s.chain with lines := mput (fun _ => {}) s.chain.lines p l } }

/-- Time passes: `n` cycles of the fabric clock; what has been handed to the transmitters moves on the lines. -/
def State.passCycles (s : State) (n : Nat) : State :=
  let s := { s with timePs := s.timePs + n * s.fabricPs, tick := { s.tick with cyc := s.tick.cyc + n } }
  (((s.runLine 0).runLine 1).runLine 2).runLine 3

end Sys2Proof.Machine
end

