-- ==== Sys2Proof/Machine/Tick.lean ====
section
/-! DEFINITION. The tick generator (spec/02): source events, slips, realignment, holdover, commands, and what the
generator itself does at a tick. -/

namespace Sys2Proof.Machine

/-- OFS of CK_TICK_OFS. -/
def State.ofs (s : State) : Nat := s.fld (CK 0x808) 0 12
/-- SLIP_LIMIT and LOSS_FRAMES (Table TCK-7). -/
def State.slipLimit (s : State) : Nat := s.fld (CK 0x800) 4 4
def State.lossFrames (s : State) : Nat := s.fld (CK 0x800) 16 16

/-- Phase error of an event at count `c` (R43). -/
def State.phase (s : State) (c : Nat) : Nat := (c + s.ofs) % s.P

/-- LOCKED becomes 1: acquisition and holdover end (R43, R45). -/
def State.lock (s : State) : State :=
  let s := (s.setBit (CK 0x80C) 0 true).setBit (CK 0x80C) 1 false
  { s with tick := { s.tick with acq := false, slips := 0 } }

/-- Enter acquisition (R41); HOLDOVER stays until LOCKED returns (R45). -/
def State.acquire (s : State) : State :=
  let s := s.setBit (CK 0x80C) 0 false
  { s with tick := { s.tick with acq := true, slips := 0 } }

/-- A source event at count `c` (R42 to R45). In SLEEP and DEEP_SLEEP the generator ticks on its own count (R464). -/
def State.sourceEvent (s : State) (c : Nat) : State :=
  if s.mode ≠ 0 then s else
  let d := s.phase c
  let s := s.setReg (CK 0x82C) (d % 4096 + c % 4096 * 2 ^ 16)
  let s := if d = 0 then s else s.count (CK 0x80C) 16 16 1
  let s := { s with tick := { s.tick with evt := true, quiet := 0 } }
  if s.tick.ext ≠ 0 then s
  else if s.locked then
    if d = 0 then { s with tick := { s.tick with slips := 0 } }
    else if s.tick.slips + 1 < s.slipLimit then { s with tick := { s.tick with slips := s.tick.slips + 1 } }
    else { s with tick := { s.tick with slips := 0, ext := d } }
  else if d = 0 then s.lock
  else { s with tick := { s.tick with ext := d } }

/-- SOURCE_EVENT (R43): with SRC = 0b00 there is no source event (Table TCK-1). -/
def execSourceEvent (c : Nat) (s : State) : Host.Outcome State Fault Refusal :=
  .next (if s.src = 0 || (s.src = 1 && s.scanned) then s else s.sourceEvent c)

/-- Does the generator wait for source events that it would miss (R45, R464)? -/
def State.awaitsEvents (s : State) : Bool := s.locked && s.src ≠ 0 && s.mode = 0

/-- Frames without a source event have reached LOSS_FRAMES (R45). -/
def State.lossDue (s : State) : Bool :=
  s.awaitsEvents && decide (s.lossFrames ≤ s.tick.quiet)

/-- Enter holdover (R45). -/
def State.enterHoldover (s : State) : State :=
  let s := ((s.setBit (CK 0x80C) 0 false).setBit (CK 0x80C) 1 true).setBit (CK 0x80C) 9 true
  { s with tick := { s.tick with acq := true, slips := 0, quiet := 0 } }

/-- CK_TICK_CMD.PRESET (R50): ignored with SRC = 0b10. CK_FRAME_PRESET is loaded at the next tick (Table TCK-9). -/
def State.tickPreset (s : State) : State :=
  if s.src = 2 then s else { s with tick := { s.tick with preset := true } }

def execTickPreset (s : State) : Host.Outcome State Fault Refusal := .next s.tickPreset

/-- REACQUIRE (R41). -/
def execReacquire (s : State) : Host.Outcome State Fault Refusal := .next s.acquire

/-- CK_TICK_CMD.ALIGN_DONE (R58, Table TCK-9): ignored unless SRC = 0b10. -/
def State.alignDone (s : State) : State := if s.src = 2 then s.setBit (CK 0x80C) 2 true else s

def execAlignDone (s : State) : Host.Outcome State Fault Refusal := .next s.alignDone

/-- CK_TICK_CMD.CLEAR_SLIPS (R61). -/
def State.clearSlips (s : State) : State := s.setFld (CK 0x80C) 16 16 0

def execClearSlips (s : State) : Host.Outcome State Fault Refusal := .next s.clearSlips

/-- A write of CK_TICK_CTRL: SRC is held pending until the tick, the rest applies at once (R41, R61). A reserved SRC or
SLIP_LIMIT or LOSS_FRAMES of 0 keeps its field (R9, Table TCK-7). -/
def State.writeTickCtrl (s : State) (v : Nat) : State :=
  let s := if bits v 0 2 = 3 then s else { s with tick := { s.tick with pendSrc := some (bits v 0 2) } }
  let s := if bits v 4 4 = 0 then s else s.setFld (CK 0x800) 4 4 (bits v 4 4)
  if bits v 16 16 = 0 then s else s.setFld (CK 0x800) 16 16 (bits v 16 16)

/-- Put a new SRC into force at a tick (R41): a write of the value in force changes nothing. A calibration needs a measurement
from then on (R540). -/
def State.applySrc (s : State) (v : Nat) : State :=
  if v = s.src then s
  else
    let s := ((s.setFld (CK 0x800) 0 2 v).setBit (CK 0x80C) 2 false).acquire
    { s with chain := { s.chain with calib := [] } }

/-- Compare the announced number of an SOF's frame with the unit's own (R51); only SRC = 0b10 takes the frame number from
the chain (Table TCK-1). -/
def State.compareSof (s : State) (own announced : Nat) : State :=
  let want := addFrame announced (s.fld (CK 0x820) 0 16)
  if want = own ∨ s.src ≠ 2 then s
  else { s with tick := { s.tick with jump := some (addFrame ((s.tick.jump).getD 0) (subFrame want own)) } }

/-- Give the SOF record its own number when the first tick at least OFS cycles after it has come (R51); the tick of its own
cycle is one with OFS mod P = 0. -/
def State.numberSof (s : State) (o : Sof) : Sof :=
  if o.own = none ∧ o.cyc + s.ofs % s.P ≤ s.frameStart then { o with own := some s.frameNo } else o

/-- Is the target of a change reached by frame `f` (R57)? -/
def Accepted.dueAt (a : Accepted) (f : Nat) : Bool := a.wait = 0 && !laterFrame a.target f

/-- Will the change commit at the next tick if that carries number `f`? -/
def Accepted.dueNext (a : Accepted) (f : Nat) : Bool := decide (a.wait ≤ 1) && !laterFrame a.target f

/-- The change when one more tick has come. -/
def Accepted.aged (a : Accepted) : Accepted := { a with wait := a.wait - 1 }

/-- The number of the next tick but for a FRAME_PRESET (R49 to R51), with the correction it carries. -/
def State.plainFrame (s : State) : Nat :=
  if s.tick.preset then s.reg (CK 0x818) + s.fld (CK 0x81C) 0 16 * 2 ^ 32
  else
    match s.tick.jump with
    | some j => addFrame (addFrame s.frameNo 1) j
    | none => if s.tick.zero then 0 else addFrame s.frameNo 1

/-- An accepted FRAME_PRESET whose target the next tick would start (R56); SRC = 0b10 takes none (R50). -/
def Accepted.presetAt (a : Accepted) (f : Nat) : Option Nat :=
  match a.what with
  | .preset v => if a.dueNext f then some v else none
  | _ => none

/-- PRESET of the FRAME_PRESET that the next tick carries in place of its own number (R56). -/
def State.presetDue (s : State) : Option Nat :=
  if s.hl.up && s.src ≠ 2 then (s.hl.changes.filterMap (fun a => a.presetAt s.plainFrame)).getLast? else none

/-- The number of the next tick. -/
def State.nextFrame (s : State) : Nat := (s.presetDue.map (· % 2 ^ 48)).getD s.plainFrame

/-- Does the next tick carry a frame jump (R51)? -/
def State.jumps (s : State) : Bool := !s.tick.preset && s.presetDue.isNone && s.tick.jump.isSome

/-- The edge that ends a swap cycle (R142, R143), and the cycle in which a released region's pins start. -/
def State.endSwapCycles (s : State) : State :=
  forAll 96 (fun r t => if (t.region r).swapCycle || (t.region r).pinStart then
    t.setRegion r { t.region r with swapCycle := false, pinStart := false } else t) s

/-- The rest of the running frame elapses (R42): cycles and time. -/
def State.elapse (s : State) : State :=
  let n := s.P + s.tick.ext - s.tick.count
  (if n = 0 then s else s.endSwapCycles).passCycles n

/-- Report a frame that ends: its length, a realignment, frames without a source event (R44, R45). A realigned frame
locks the generator at its end, also after a REACQUIRE inside it (R43 before R41: DESIGN CHOICE log 118). -/
def State.closeFrame (s : State) : State :=
  let d := s.tick.ext
  let len := s.P + d
  let s := s.setFld (CK 0x828) 0 13 len
  let s := { s with tick := { s.tick with quiet := if s.tick.evt || !s.awaitsEvents then 0 else s.tick.quiet + 1, evt := false } }
  if d = 0 then s
  else ((s.setBit (CK 0x80C) 8 true).faultHw 0x0101 0 (d % 2 ^ 16 + len % 2 ^ 16 * 2 ^ 16)).lock

/-- A FRAME_PRESET that the tick carries is done (R56). -/
def State.dropPresets (s : State) : State :=
  if s.presetDue.isNone then s
  else { s with hl := { s.hl with changes := s.hl.changes.filter (fun a => (a.presetAt s.plainFrame).isNone) } }

/-- Number the new frame (R49 to R51, R56). -/
def State.numberFrame (s : State) : State :=
  let old := addFrame s.frameNo 1
  let n := s.nextFrame
  let preset := s.tick.preset || s.presetDue.isSome
  let jumped := s.jumps
  let s := s.dropPresets
  let s := if preset then s.setBit (CK 0x80C) 11 true else s
  let s := if jumped then (s.setBit (CK 0x80C) 10 true).faultHw 0x0103 0 (old + n * 2 ^ 48) else s
  { s with
    hl := { s.hl with changes := s.hl.changes.map Accepted.aged }
    tick := { s.tick with frame := BitVec.ofNat 48 n, count := 0, ext := 0, preset := false, jump := none, zero := false } }

/-- Pending SRC, P and W take effect (R61, R158); with SRC = 0b00 LOCKED reads 1 from the tick (R41). -/
def State.applyPending (s : State) : State :=
  let s := match s.tick.pendSrc with
    | some v => s.applySrc v
    | none => s
  let s := match s.tick.pendP with
    | some v => s.setFld (CK 0x804) 0 13 v
    | none => s
  let s := match s.tick.pendW with
    | some v => s.setFld (CK 0x830) 0 7 v
    | none => s
  let s := { s with tick := { s.tick with pendSrc := none, pendP := none, pendW := none } }
  if s.src = 0 ∧ s.tick.acq then s.lock else s

/-- The SOF records at a tick, and the comparison that waits (R51). -/
def State.tickSof (s : State) : State :=
  let s := { s with tick := { s.tick with
    sofs := s.tick.sofs.map (Option.map s.numberSof), cmp := s.tick.cmp.map (fun (o, f) => (s.numberSof o, f)) } }
  match s.tick.cmp with
  | some (⟨_, some own⟩, f) => { s.compareSof own f with tick := { (s.compareSof own f).tick with cmp := none } }
  | _ => s

/-- What the generator does at a tick edge. -/
def State.tickGenerator (s : State) : State :=
  s.elapse.closeFrame.numberFrame.applyPending.tickSof

end Sys2Proof.Machine
end

