-- ==== Sys2Proof/Machine/Targets.lean ====
section
/-! DEFINITION. Target ticks (spec/02 R56, R57): which targets Headland accepts, and the list of accepted changes. -/

namespace Sys2Proof.Machine

/-- Least lead of a target tick in picoseconds: 4 µs (R57). -/
def minLead : Nat := 4000000

/-- The order in which the changes of `l` that are due in frame `f` commit at its tick: the earlier target first, and changes
for one target in the order in which they were accepted (DESIGN CHOICE log 171). -/
def commitOrder (f : Nat) (l : List Accepted) : List Accepted := sortDue (fun a => 2 ^ 48 - subFrame f a.target) l

/-- P, W and SRC once the changes of `l` have committed (R56). -/
def planP (p : Nat) (l : List Accepted) : Nat := l.foldl (fun v a => match a.what with
  | .tickP p => p
  | _ => v) p
def planW (w : Nat) (l : List Accepted) : Nat := l.foldl (fun v a => match a.what with
  | .wave w => w
  | _ => v) w
def planSrc (src : Nat) (l : List Accepted) : Nat := l.foldl (fun v a => match a.what with
  | .tickCtrl x => if bits x 0 2 = 3 then v else bits x 0 2
  | _ => v) src

/-- A tick to come, with SRC as it stands before it, where `g` is its number but for a FRAME_PRESET and `l` are the accepted
changes: its number, the changes that commit at it in their order, and those left (R50, R56, R57). -/
def tickAhead (src g : Nat) (l : List Accepted) : Nat × List Accepted × List Accepted :=
  let pre := if src = 2 then [] else l.filterMap (·.presetAt g)
  let f := (pre.getLast?.map (· % 2 ^ 48)).getD g
  let left := (if src = 2 then l else l.filter (fun a => (a.presetAt g).isNone)).map Accepted.aged
  (f, commitOrder f (left.filter (·.dueAt f)), left.filter (fun a => !a.dueAt f))

/-- Numbers of the ticks less than 4 µs away and, last, of the first one at least 4 µs away. The next of them comes `n` cycles
from now, numbered `g` but for a FRAME_PRESET; `l`, `src`, `p` are the changes, SRC and P at it, `src'` the SRC that it puts
in force; counted through at most `fuel` frames, at the present period of the fabric clock (R56, DESIGN CHOICE log 172). -/
def State.leadWalk (s : State) : Nat → List Accepted → Nat → Nat → Nat → Nat → Nat → List Nat
  | 0, _, g, _, _, _, _ => [g]
  | fuel + 1, l, g, n, p, src, src' =>
    let (f, go, left) := tickAhead src g l
    if minLead * s.tc.2 ≤ n * s.tc.1 then [f]
    else
      let src := planSrc src' go
      f :: s.leadWalk fuel left (addFrame f 1) (n + planP p go) (planP p go) src src

/-- The walk from the next tick: no frame is shorter than 14 ns (Table TCK-3), so 300 frames last longer than 4 µs. -/
def State.leads4us (s : State) : List Nat :=
  s.leadWalk 300 s.hl.changes s.plainFrame (s.P + s.tick.ext - s.tick.count) (s.tick.pendP.getD s.P) s.src (s.tick.pendSrc.getD s.src)

/-- The accepted changes of `l` in the groups in which they will commit, after a tick numbered `f`: the ticks at which nothing
commits are passed over, but for those that a change must still let pass (`State.holdBack`). -/
def commitsAfter : Nat → List Accepted → Nat → Nat → List (List Accepted)
  | 0, _, _, _ => []
  | fuel + 1, l, f, src =>
    let far (a : Accepted) : Nat := if a.wait ≤ 1 ∧ laterFrame a.target f then subFrame a.target f else 1
    match l.map far with
    | [] => []
    | d :: ds =>
      let (f, go, left) := tickAhead src (addFrame f (ds.foldl min d)) l
      (if go.isEmpty then [] else [go]) ++ commitsAfter fuel left f (planSrc src go)

/-- The accepted changes in the groups in which they will commit (R56, R57). -/
def State.commitsAhead (s : State) : List (List Accepted) :=
  let l := s.hl.changes
  if l.isEmpty then []
  else
    let (f, go, left) := tickAhead s.src s.plainFrame l
    (if go.isEmpty then [] else [go])
      ++ commitsAfter (l.length + (l.map (·.wait)).foldl max 0) left f (planSrc (s.tick.pendSrc.getD s.src) go)

/-- Numbers of the ticks less than 4 µs away, the next one first (R56). -/
def State.leadTicks (s : State) : List Nat := s.leads4us.dropLast

/-- The frame whose tick is the first one at least 4 µs away (R56, log 30). -/
def State.nextTarget (s : State) : Nat := s.leads4us.getLastD s.nextFrame

/-- Does Headland accept the target frame `f`: it is later than the current frame, and no tick less than 4 µs away reaches it
(R57)? -/
def State.targetOk (s : State) (f : Nat) : Bool :=
  laterFrame f s.frameNo && s.leadTicks.all (fun n => laterFrame f n)

/-- The frame that a TGT asks for, `none` when it is refused STALE (R56, R57). -/
def State.target (s : State) (f : Nat) : Option Nat :=
  if f = 2 ^ 48 - 1 then some s.nextTarget else if s.targetOk f then some f else none

/-- Ticks that pass before a change for frame `f` may commit: those less than 4 µs away, where a FRAME_PRESET among them makes
one reach `f` by its number before the tick that is meant (R56). -/
def State.holdBack (s : State) (f : Nat) : Nat :=
  if s.leadTicks.all (fun n => laterFrame f n) then 0 else s.leadTicks.length + 1

/-- Take a change as accepted. -/
def State.accept (s : State) (target mb tag : Nat) (what : Change) : State :=
  { s with hl := { s.hl with changes := s.hl.changes ++ [⟨target, mb, tag, what, s.holdBack target⟩] } }

/-- Is some accepted change of the kind `p`? -/
def State.anyChange (s : State) (p : Change → Bool) : Bool := s.hl.changes.any (fun a => p a.what)

/-- P and W once everything accepted has come into force (DEDUCED log 31). -/
def State.futureP (s : State) : Nat := planP (s.tick.pendP.getD s.P) s.commitsAhead.flatten
def State.futureW (s : State) : Nat := planW (s.tick.pendW.getD s.wMax) s.commitsAhead.flatten

end Sys2Proof.Machine
end

