-- ==== Sys2Proof/Machine/Clocks.lean ====
section
/-! DEFINITION. Clocks (spec/15 R442 to R459, R466): PLL lock, dead sources and failover, trim, the surge ramp,
clock settings at a command and at commit, temperature. -/

namespace Sys2Proof.Machine

/-! ## Sources -/

/-- ALIVE of source `c`. -/
def State.alive (s : State) (c : Nat) : Bool := s.bit (CK 0) c

/-- Crystal that stands in for `c` after a failover (R457). -/
def State.crystal (s : State) (c : Nat) : Nat := if s.clk.failed.contains c then 5 - c else c

/-- Source number of the reference that SPLL `n` takes now. -/
def State.spllRef (s : State) (n : Nat) : Nat :=
  match s.fld (CK (0x40 + 0x10 * n)) 1 2 with
  | 0 => 0
  | 1 => s.crystal 2
  | 2 => s.crystal 3
  | _ => 4

/-- Is SPLL `n` enabled? -/
def State.spllEn (s : State) (n : Nat) : Bool := s.bit (CK (0x40 + 0x10 * n)) 0
def State.spllLock (s : State) (n : Nat) : Bool := s.bit (CK (0x48 + 0x10 * n)) 0

/-- Source number of the reference of quad PLL `q`, and of the ZVL PLL at the head. -/
def State.quadRef (s : State) (q : Nat) : Nat := s.crystal (2 + s.fld (LN (4 * q) 0x800) 1 1)
def State.zvlRef (s : State) : Nat := s.crystal (2 + s.fld (CK 4) 1 1)

/-- Has the source with code `c` of CK_GCKn.SRC locked, or does it show edges (R454)? -/
def State.srcReady (s : State) (c : Nat) : Bool :=
  match c with
  | 0 => true
  | 1 => s.alive 0
  | 2 => s.alive 2
  | 3 => s.alive 3
  | 4 => s.alive 4
  | _ => decide (9 ≤ c ∧ c ≤ 13) && s.spllLock (c - 8)

/-- Does that source show no edge, so that a multiplexer that takes it must force a change (R456)? A crystal that is dead off its
frequency still shows edges. -/
def State.srcStill (s : State) (c : Nat) : Bool :=
  match c with
  | 0 => true
  | 1 => !s.alive 0
  | 2 => !s.alive 2
  | 3 => !s.alive 3
  | 4 => !s.alive 4
  | _ => s.clk.dead.contains c

/-- Is that source dead: without an edge, or declared dead (R455)? -/
def State.srcDead (s : State) (c : Nat) : Bool := s.srcStill c || s.clk.dead.contains (if c = 1 then 0 else c)

/-- A multiplexer forces its change away from source `c` of Table CLK-1: CLK_DEAD and EV_CLK_DEAD (R456, log 150). -/
def State.forceMux (s : State) (c : Nat) : State := (s.setBit (CK 0) 13 true).latch 4 c c

/-! ## The surge ramp (R452, R454, R456) -/

/-- Source and divider that CK_GCKn asks for. -/
def State.wanted (s : State) (n : Nat) : Nat × Nat := (s.fld (CK (0x100 + 4 * n)) 0 4, s.fld (CK (0x100 + 4 * n)) 4 6 + 1)

/-- Source and divider that the ramp of GCKn moves to now: the boot clock first where R454 asks for it. -/
def State.rampTo (s : State) (n : Nat) : Nat × Nat := if (s.gckOf n).viaBoot then (1, 64) else s.wanted n

/-- Set RAMPING of GCKn. -/
def State.setRamping (s : State) (n : Nat) (b : Bool) : State := s.setBit (CK (0x100 + 4 * n)) 10 b

/-- The part of a ramp that ends: the move to the boot clock goes on to the setting, any other is over. -/
def State.rampEnd (s : State) (n : Nat) : State :=
  let g := s.gckOf n
  if g.viaBoot && decide (s.wanted n ≠ (1, 64)) then s.setGck n { g with viaBoot := false, ramp := .waitSrc }
  else (s.setGck n { g with viaBoot := false, ramp := .idle }).setRamping n false

/-- The switch at divider 64 (R452); it is forced where the old clock shows no edge (R456, log 150). -/
def State.rampSwitch (s : State) (n : Nat) : State :=
  let (src, d) := s.rampTo n
  let was := (s.gckOf n).src
  let s := if was ≠ 0 && s.srcStill was then s.forceMux (if was = 1 then 0 else was) else s
  let s := s.setGck n { s.gckOf n with src, div := if src = 0 then d else 64, ramp := .down }
  if src = 0 ∨ d = 64 then s.rampEnd n else s

/-- The up part is over, or skipped (R456): the switch, once the new source is ready (R454). -/
def State.rampTurn (s : State) (n : Nat) : State :=
  if s.srcReady (s.rampTo n).1 then s.rampSwitch n else s.setGck n { s.gckOf n with ramp := .waitSrc }

/-- Start the ramp, or the part of it that follows a wait. -/
def State.rampGo (s : State) (n : Nat) : State :=
  let g := s.gckOf n
  let (src, d) := s.rampTo n
  if src = g.src then
    if d = g.div then s.rampEnd n else s.setGck n { g with ramp := .down }
  else if g.div = 64 ∨ s.srcDead g.src then s.rampTurn n
  else s.setGck n { g with ramp := .up }

/-- Every GCK whose source has become ready starts its ramp (R454). -/
def State.rampReady (s : State) : State :=
  forAll 16 (fun n t => if (t.gckOf n).ramp = .waitSrc && t.srcReady (t.rampTo n).1 then t.rampGo n else t) s

/-- A new setting of GCKn by CLOCK_SET: the ramp starts at this edge (R453). -/
def State.rampNow (s : State) (n : Nat) : State :=
  ((s.setGck n { s.gckOf n with viaBoot := false }).setRamping n true).rampGo n

/-- A new setting of GCKn at commit: the clock waits for its new source (R454). -/
def State.rampStart (s : State) (n : Nat) : State :=
  (s.setGck n { s.gckOf n with ramp := .waitSrc, viaBoot := false }).setRamping n true

/-- RAMP_STEP (R452): one step of the divider after N output cycles. -/
def State.rampStep (s : State) (n : Nat) : State :=
  let g := s.gckOf n
  let d := (s.rampTo n).2
  match g.ramp with
  | .up =>
    if s.srcDead g.src then s.rampTurn n
    else
      let s := s.setGck n { g with div := g.div + 1 }
      if 64 ≤ g.div + 1 then s.rampTurn n else s
  | .down =>
    let k := if d < g.div then g.div - 1 else g.div + 1
    let s := s.setGck n { g with div := k }
    if k = d then s.rampEnd n else s
  | _ => s

/-- RAMP_STEP; a GCK that has reached the boot clock moves back once its SPLL is locked (R454). -/
def execRampStep (n : Fin 16) (s : State) : Host.Outcome State Fault Refusal := .next (s.rampStep n.val).rampReady

/-! ## Locks -/

/-- EV_PLL_UNLOCK of the source numbered `src` with PLL code `pll` (Table CMD-15). The table gives quad 16 and the ZVL
PLL the same code 0x20; their sources are kept apart (log 32). -/
def State.unlockEvent (s : State) (src pll : Nat) : State := s.latch 5 src pll

/-- SPLL `n` loses lock: it enters holdover when `hold` (R455, R457). -/
def State.spllUnlock (s : State) (n : Nat) (hold : Bool) : State :=
  if !s.spllLock n then s
  else
    let a := CK (0x48 + 0x10 * n)
    (((s.setBit a 0 false).setBit a 8 true).setBit a 1 hold).unlockEvent n n

/-- A loss of alignment of lane `n`: counted, DOWN_SEEN and EV_LINK_DOWN, and the next word is the first after a realignment
(R480). -/
def State.laneLost (s : State) (n : Nat) : State :=
  let s := ((s.setBit (LN n 0x10) 2 false).setBit (LN n 0x10) 8 true).inc (LN n 0x28)
  (s.latch 6 (0x100 + n) (1 + n * 256)).setLane n { s.laneOf n with gap := true }

/-- Lane `n` loses alignment if it has it (R480). -/
def State.laneDown (s : State) (n : Nat) : State := if !s.bit (LN n 0x10) 2 then s else s.laneLost n

/-- Quad PLL `q` loses lock: its lanes lose their clock and their alignment (R480). -/
def State.quadUnlock (s : State) (q : Nat) : State :=
  let a := LN (4 * q) 0x808
  if !s.bit a 0 then s
  else forAll 4 (fun i t => t.laneDown (4 * q + i)) (((s.setBit a 0 false).setBit a 8 true).unlockEvent (0x10 + q) (0x10 + q))

/-- The ZVL PLL loses lock: ZREC runs on in holdover (R447). -/
def State.zvlUnlock (s : State) : State :=
  if !s.clk.zvlLock then s else ({ s with clk := { s.clk with zvlLock := false } }).unlockEvent 0x100 0x20

/-- PLL_UNLOCK (R455). -/
def State.pllUnlock (s : State) (pll : Pll) : State :=
  match pll with
  | .spll n => s.spllUnlock n.val (s.clk.dead.contains (s.spllRef n.val))
  | .quad q => s.quadUnlock q.val
  | .zvl => s.zvlUnlock

def execPllUnlock (pll : Pll) (s : State) : Host.Outcome State Fault Refusal := .next (s.pllUnlock pll)

/-- May the PLL report lock: enabled, with a reference that shows edges (R444, R447, R477)? -/
def State.mayLock (s : State) (pll : Pll) : Bool :=
  match pll with
  | .spll n => s.spllEn n.val && s.alive (s.spllRef n.val) && (s.mode ≠ 2 || s.clk.moving || (s.gckOf 0).src = n.val + 8)
  | .quad q => s.bit (LN (4 * q.val) 0x800) 0 && s.alive (s.quadRef q.val) && s.bit (CK (0x400 + 4 * q.val)) 3
  | .zvl =>
    if s.isHead then s.alive s.zvlRef
    else match s.upPort with
      | some p => s.portUp p
      | none => false

/-- The PLL reports lock; the GCKs that wait for it may ramp (R454). -/
def State.locks (s : State) (pll : Pll) : State :=
  match pll with
  | .spll n =>
    let a := CK (0x48 + 0x10 * n.val)
    let s := (s.setBit a 0 true).setBit a 1 false
    ({ s with clk := { s.clk with relock := s.clk.relock.filter (· ≠ n.val), dead := s.clk.dead.filter (· ≠ n.val + 8) } }).rampReady
  | .quad q => s.setBit (LN (4 * q.val) 0x808) 0 true
  | .zvl =>
    (({ s with clk := { s.clk with zvlLock := true, zrecSeen := true, dead := s.clk.dead.filter (· ≠ 4) } }).setBit (CK 0) 4
      true).rampReady

/-- PLL_LOCK (R444). -/
def execPllLock (pll : Pll) (s : State) : Host.Outcome State Fault Refusal := .next (if s.mayLock pll then s.locks pll else s)

/-! ## Trim (R449, R450) -/

/-- Is trim reference `c` (1 XTA, 2 XTB, 3 the marks of the chain) present? -/
def State.trimPresent (s : State) (c : Nat) : Bool :=
  match c with
  | 1 => s.alive 2 && !s.clk.dead.contains 2 && decide (s.fld (CK 8) 0 16 ≠ 0)
  | 2 => s.alive 3 && !s.clk.dead.contains 3 && decide (s.fld (CK 8) 16 16 ≠ 0)
  | 3 => match s.upPort with
    | some p => s.portUp p && !s.low p
    | none => false
  | _ => false

/-- The reference that trims now: 0 for none. -/
def State.trimRef (s : State) : Nat :=
  match s.fld (CK 0x10) 1 2 with
  | 0 => ([1, 2, 3].find? s.trimPresent).getD 0
  | c => if s.trimPresent c then c else 0

/-- round(e ÷ 0.01 %) for e in parts per million; which way a half goes is not stated and is a free value (log 1). -/
def State.roundStep (s : State) (e : Int) : Int × State :=
  let q := e / 100
  let r := e % 100
  if r < 50 then (q, s) else if 50 < r then (q + 1, s)
  else
    let (v, s) := s.draw
    (if v % 2 = 0 then q else q + 1, s)

/-- A trim reference in use that disappears keeps TRIM_CODE and sets REF_LOST; auto mode moves on to the next present one
(R449, R450). -/
def State.trimFollow (s : State) : State :=
  let used := s.fld (CK 0x14) 12 2
  if used ≠ 0 ∧ !s.trimPresent used then (s.setBit (CK 0x14) 14 true).setFld (CK 0x14) 12 2 s.trimRef else s

/-- SPLL0 runs at 1.000 GHz from now on. -/
def State.fastNow (s : State) : State := { s with clk := { s.clk with fastPs := some (s.clk.fastPs.getD s.timePs) } }

/-- SPLL0 runs at 1.000 GHz once FOSC is trimmed (R445), unless R509 has taken it off FOSC, at that frequency already; the
slew itself is time and is left out (DEDUCED log 81). -/
def State.spll0Full (s : State) : State :=
  let s := s.fastNow
  if s.fld (CK 0x40) 1 2 = 0 then s.setFld (CK 0x40) 7 9 50 else s

/-- TRIM_WINDOW with the error `e` of FOSC in parts per million (R449). -/
def State.trimWindow (s : State) (e : Int) : State :=
  if !s.bit (CK 0x10) 0 || !s.alive 0 then s
  else
    let ref := s.trimRef
    if ref = 0 then if s.fld (CK 0x10) 1 2 = 0 then s else (s.setBit (CK 0x14) 14 true).setFld (CK 0x14) 12 2 0
    else
      let s := s.setFld (CK 0x14) 12 2 ref
      let (k, s) := s.roundStep e
      let k := if s.bit (CK 0x14) 11 then max (-1) (min 1 k) else k
      let c := max (-1023) (min 1023 (signed (s.fld (CK 0x14) 0 11) 11 + k))
      let s := s.setFld (CK 0x14) 0 11 (unsigned c 11)
      let good := if -300 ≤ e ∧ e ≤ 300 then s.clk.good + 1 else 0
      let s := { s with clk := { s.clk with good } }
      if 2 ≤ good ∧ !s.bit (CK 0x14) 11 then (s.setBit (CK 0x14) 11 true).spll0Full else s

def execTrimWindow (e : Int) (s : State) : Host.Outcome State Fault Refusal := .next (s.trimWindow e)

/-! ## Dead clocks (R455 to R459, R509) -/

/-- The monitor may declare source `c`: FOSC watches the crystals, ZREC after its first lock (R447) and the running SPLLs,
SOSC watches FOSC (R455); a crystal that still shows edges dies only against a declared frequency. -/
def State.mayDie (s : State) (c : Nat) (edges : Bool) : Bool :=
  !s.clk.dead.contains c &&
  (if c = 0 then !edges
   else s.alive 0 &&
    (if c = 2 ∨ c = 3 then !edges || decide (s.fld (CK 8) (16 * (c - 2)) 16 ≠ 0)
     else if c = 4 then !edges && s.clk.zrecSeen
     else decide (8 ≤ c) && !edges && s.spllEn (c - 8)))

/-- Every PLL on reference `c` loses it: SPLLs go to holdover, lane PLLs and the head's ZVL PLL lose lock (R457, R458). -/
def State.refDead (s : State) (c : Nat) : State :=
  let s := forAll 6 (fun n t => if t.spllEn n && decide (t.spllRef n = c) then
    (t.spllUnlock n true).setBit (CK (0x48 + 0x10 * n)) 1 true else t) s
  let s := forAll 24 (fun q t => if t.quadRef q = c then t.quadUnlock q else t) s
  if s.isHead && decide (s.zvlRef = c) then s.zvlUnlock else s

/-- Does an SPLL, a lane PLL or the head's ZVL PLL take crystal `c`? -/
def State.refTaken (s : State) (c : Nat) : Bool :=
  (List.range 6).any (fun n => s.spllEn n && s.spllRef n = c)
    || (List.range 24).any (fun q => s.bit (LN (4 * q) 0x800) 0 && s.quadRef q = c) || (s.isHead && s.zvlRef = c)

/-- Failover from the dead crystal `c` to the other one (R457); without an edge of the old one the multiplexers of the PLLs that
take it force the change (R456). -/
def State.failoverOf (s : State) (c : Nat) : State :=
  if s.bit (CK 4) 0 ∧ s.clk.dead.contains c ∧ s.alive (5 - c) ∧ !s.clk.dead.contains (5 - c) ∧ !s.clk.failed.contains c then
    let forced := !s.alive c && s.refTaken c
    let s := { s with clk := { s.clk with failed := (s.clk.failed.filter (· ≠ 5 - c)) ++ [c] } }
    if forced then s.forceMux c else s
  else s

/-- FAILOVER holds from XTA to XTB and from XTB to XTA, whenever its conditions come to hold (R457). -/
def State.failover (s : State) : State := (s.failoverOf 2).failoverOf 3

/-- CLOCK_DEAD: the monitor declares source `c` dead; `edges` says that a crystal still shows edges, off its frequency. When
those stop too, ALIVE follows (Table CLK-8). Without FOSC the always-on domain is forced to SOSC (R459). -/
def State.clockDead (s : State) (c : Nat) (edges : Bool) : State :=
  if !s.mayDie c edges then
    if (c = 2 ∨ c = 3) ∧ s.clk.dead.contains c ∧ !edges then s.setBit (CK 0) c false else s
  else
    let s := { s with clk := { s.clk with dead := s.clk.dead ++ [c] } }
    let s := s.latch 4 c c
    if 8 ≤ c then s.spllUnlock (c - 8) false
    else
      let s := (s.setBit (CK 0) (8 + c) true).setBit (CK 0) c edges
      let s := (s.trimFollow.refDead c).failover
      if c = 0 then ({ s with clk := { s.clk with spll0Hold := true } }).forceMux 0 else s

def execClockDead (src : Fin 14) (edges : Bool) (s : State) : Host.Outcome State Fault Refusal :=
  .next (s.clockDead src.val edges)

/-- SPLL0_REFERENCE_MOVE (R509): SPLL0 moves to XTA, or to XTB when XTA is absent, and runs at 1.000 GHz by the frequency
that CK_XT_FREQ gives. Which of the divider settings within Table CLK-2 that give it is not stated, nor how a fraction is
rounded (free values, log 1); it relocks by PLL_LOCK. -/
def State.spll0Move (s : State) : State :=
  if !s.clk.spll0Hold then s
  else
    let ref := if s.trimPresent 1 then 1 else if s.trimPresent 2 then 2 else 0
    if ref = 0 then s
    else
      let (a, s) := s.draw
      let (b, s) := s.draw
      let kHz := s.fld (CK 8) (16 * (ref - 1)) 16
      let od := 2 + a % 4
      let r := 1 + a / 4 % (kHz / 10000)
      let num := od * 1000000 * r * 2 ^ 24
      let total := num / kHz + (if num % kHz = 0 then 0 else b % 2)
      let s := ((s.setFld (CK 0x40) 1 2 ref).setFld (CK 0x40) 3 4 (r - 1)).setFld (CK 0x40) 7 9 (total / 2 ^ 24)
      let s := (s.setFld (CK 0x40) 16 5 od).setReg (CK 0x44) (total % 2 ^ 24)
      { s with clk := { s.clk with spll0Hold := false } }.fastNow

def execSpll0ReferenceMove (s : State) : Host.Outcome State Fault Refusal := .next s.spll0Move

/-- CLOCK_ALIVE (R454, Table CLK-8): a source that is not a PLL starts to show edges. ZREC comes from the ZVL PLL and
shows edges once that has locked (R447). -/
def State.clockAlive (s : State) (c : Nat) : State :=
  if c < 4 ∨ (c = 4 ∧ s.clk.zrecSeen) then
    (({ s with clk := { s.clk with dead := s.clk.dead.filter (· ≠ c) } }).setBit (CK 0) c true).failover.rampReady
  else s

def execClockAlive (src : Fin 8) (s : State) : Host.Outcome State Fault Refusal := .next (s.clockAlive src.val)

/-! ## Clock settings (R453, R454, R468) -/

/-- The registers marked C of Table CLK-7: offsets that CLOCK_SET and the clock frames write. -/
def clockWritable (off : Nat) : Bool :=
  off = 4 || off = 8 || off = 0x10 || off = 0x20 || off = 0x200
    || (decide (0x50 ≤ off ∧ off < 0xA0) && (off % 16 = 0 || off % 16 = 4))
    || (decide (0x100 ≤ off ∧ off < 0x140) && off % 4 = 0)
    || (decide (0x400 ≤ off ∧ off < 0x4BC) && off % 4 = 0)

/-- SPLL whose settings stand at offset `off`. -/
def spllOf (off : Nat) : Option Nat := if 0x50 ≤ off ∧ off < 0xA0 ∧ off % 16 ≤ 4 then some ((off - 0x40) / 16) else none

/-- A changed SPLL starts to lock anew (R444, R454). -/
def State.spllRestart (s : State) (n : Nat) : State :=
  let s := (s.setBit (CK (0x48 + 0x10 * n)) 0 false).setBit (CK (0x48 + 0x10 * n)) 1 false
  { s with clk := { s.clk with relock := s.clk.relock ++ [n] } }

/-- Does gate `g` open in the mode in force (R460)? -/
def State.gateWanted (s : State) (g : Nat) : Bool := s.bit (CK (0x400 + 4 * g)) s.mode

/-- Every gate whose enable for the mode is 1 opens (R460); the others close by GATE_CLOSE. -/
def State.openGates (s : State) : State := forAll 47 (fun g t => if t.gateWanted g then t.setBit (CK (0x400 + 4 * g)) 3 true else t) s

/-- A write of the clock register at `off` (R7, R453): a changed GCK starts its ramp, a changed SPLL its lock; FAILOVER and
the trim reference act at once (R450, R457). -/
def State.writeClock (s : State) (off v : Nat) : State :=
  let old := s.reg (CK off)
  let new := applyWrite ((ckFields off).getD []) old v
  let s := s.setReg (CK off) new
  if new = old then s
  else if 0x100 ≤ off ∧ off < 0x140 then
    if bits new 0 10 = bits old 0 10 then s else s.rampNow ((off - 0x100) / 4)
  else match spllOf off with
    | some n => s.spllRestart n
    | none => if 0x400 ≤ off then s.openGates else s.trimFollow.failover

/-- The clock settings of an image at commit, by register offset (R454): changed SPLLs lock anew, changed GCKs wait and
ramp, and a GCK on a changed SPLL goes over the boot clock. -/
def State.commitClocks (s : State) (img : Nat → Nat) : State :=
  let offs := (List.range 0x130).map (4 * ·) |>.filter clockWritable
  let old := s
  let s := offs.foldl (fun t off => t.setReg (CK off) (applyWrite ((ckFields off).getD []) (t.reg (CK off)) (img off))) s
  let changed (off : Nat) : Bool := old.reg (CK off) ≠ s.reg (CK off)
  let moved := (List.range 6).filter (fun n => n ≠ 0 && (changed (0x40 + 0x10 * n) || changed (0x44 + 0x10 * n)))
  let s := moved.foldl State.spllRestart s
  let s := forAll 16 (fun n t =>
    let off := 0x100 + 4 * n
    if bits (old.reg (CK off)) 0 10 ≠ bits (t.reg (CK off)) 0 10 then t.rampStart n
    else if moved.any (fun m => decide ((t.wanted n).1 = m + 8)) then
      let t := t.rampStart n
      t.setGck n { t.gckOf n with viaBoot := true }
    else t) s
  s.trimFollow.failover.rampReady.openGates

/-! ## Limits of clock settings (Table CLK-2, Table RTE-2, R451) -/

/-- Rated fabric clock in Hz of a grade (Table RTE-2). -/
def ratedHz (grade3 : Bool) : Nat := if grade3 then 560000000 else 500000000

/-- SPLL settings from a register image, within Table CLK-2? `cfg` and `frac` are the registers, `ref` the reference in
Hz. An SPLL that is off has no limits. -/
def spllLimits (cfg frac ref : Nat) : Bool :=
  let r := bits cfg 3 4 + 1
  let n := bits cfg 7 9
  let od := bits cfg 16 5
  let vco := ref * (n * 2 ^ 24 + frac % 2 ^ 24)
  !cfg.testBit 0 ||
    (decide (20 ≤ n ∧ n ≤ 500 ∧ 1 ≤ od) && decide (10000000 * r ≤ ref ∧ ref ≤ 100000000 * r)
      && decide (2000000000 * r * 2 ^ 24 ≤ vco ∧ vco ≤ 5000000000 * r * 2 ^ 24)
      && decide (64500000 * r * od * 2 ^ 24 ≤ vco ∧ vco ≤ 2500000000 * r * od * 2 ^ 24))

/-- Frequency of source number codes 0 FOSC, 1 XTA, 2 XTB, 3 ZREC of an SPLL reference, by a register image. -/
def refHz (img : Nat → Nat) (c : Nat) : Nat :=
  match c with
  | 0 => 400000000
  | 1 => crystalHz (img 8) 0
  | 2 => crystalHz (img 8) 1
  | _ => 250000000

/-- Twice 2^24 times the frequency of GCK source code `c`, as a numerator over R × OD (exact), by a register image. -/
def srcRatio (img : Nat → Nat) (c : Nat) : Nat × Nat :=
  if 9 ≤ c ∧ c ≤ 13 then
    let cfg := img (0x40 + 0x10 * (c - 8))
    (refHz img (bits cfg 1 2) * (bits cfg 7 9 * 2 ^ 24 + img (0x44 + 0x10 * (c - 8)) % 2 ^ 24),
      (bits cfg 3 4 + 1) * bits cfg 16 5 * 2 ^ 24)
  else match c with
    | 1 => (400000000, 1)
    | 2 => (crystalHz (img 8) 0, 1)
    | 3 => (crystalHz (img 8) 1, 1)
    | 4 => (250000000, 1)
    | _ => (0, 1)

/-- Does the register image keep R451: every SPLL within Table CLK-2, no GCK above the rated fabric clock? FAILOVER asks
for equal crystals (R457), which is the designer's. -/
def clockLimits (grade3 : Bool) (img : Nat → Nat) : Bool :=
  (List.range 6).all (fun n => n = 0 ||
    spllLimits (img (0x40 + 0x10 * n)) (img (0x44 + 0x10 * n)) (refHz img (bits (img (0x40 + 0x10 * n)) 1 2)))
  && (List.range 16).all (fun n =>
    let g := img (0x100 + 4 * n)
    let (a, b) := srcRatio img (bits g 0 4)
    decide (a ≤ ratedHz grade3 * (bits g 4 6 + 1) * b))

/-- The registers in force as an image. -/
def State.clockImg (s : State) (off : Nat) : Nat := s.reg (CK off)

/-! ## Temperature (R466) -/

/-- EV_TEMP (Table CMD-15). -/
def State.tempEvent (s : State) (tj level : Nat) : State :=
  (s.setFld (CK 0x208) 16 2 level).announce 0x0C (tj + level * 2 ^ 16)

/-- TEMP_SAMPLE: TJ in units of 0.125 °C; CRIT_DEEP moves the unit to DEEP_SLEEP, in place of a move that it had started
itself or that is under way. -/
def State.tempSample (s : State) (tj : Nat) : State :=
  let old := signed (s.fld (CK 0x208) 0 16) 16
  let now := signed tj 16
  let warn := signed (s.fld (CK 0x20C) 0 16) 16
  let crit := signed (s.fld (CK 0x20C) 16 16) 16
  let level := s.fld (CK 0x208) 16 2
  let s := s.setFld (CK 0x208) 0 16 tj
  let s := if level = 0 ∧ warn ≤ now then s.tempEvent tj 1 else s
  if crit ≤ now ∧ (level ≠ 2 ∨ old < crit) then
    let s := s.tempEvent tj 2
    if s.bit (CK 0x200) 1 && (s.mode ≠ 2 || s.clk.moving || s.clk.self.isSome) then
      { s with clk := { s.clk with self := some (s.nextTarget, 2) } }
    else s
  else if level ≠ 0 ∧ now ≤ warn - 16 then s.tempEvent tj 0
  else s

def execTempSample (tj : BitVec 16) (s : State) : Host.Outcome State Fault Refusal := .next (s.tempSample tj.toNat)

end Sys2Proof.Machine
end

