-- ==== Sys2Proof/Machine/Fabric.lean ====
section
/-! DEFINITION. The macrocell fabric (spec/03, 04): tile frames, the values of every wire in the cycle that runs, and the
capture of flip-flops and crossing registers at a clock edge. -/

namespace Sys2Proof.Machine

/-! ## Tile frames (R93 to R97, R116 to R121) -/

/-- Key of frame `f` of tile `t` of region `r` in context `c`. -/
def tfKey (c r t f : Nat) : Nat := ((c * 96 + r) * 32 + t) * 8 + f

/-- A tile frame; one never written is all zero (R128). -/
def State.tf (s : State) (c r t f : Nat) : Nat := (mget (fun _ => (0 : BitVec 4096)) s.fab.tf (tfKey c r t f)).toNat

/-- Write a tile frame. -/
def State.setTf (s : State) (key v : Nat) : State :=
  { s with fab := { s.fab with tf := mput (fun _ => (0 : BitVec 4096)) s.fab.tf key (BitVec.ofNat 4096 v) } }

/-- Literal word of product term `p` of a tile (Table TIL-6). -/
def State.term (s : State) (c r t p : Nat) : Nat := bits (s.tf c r t (p / 32)) (128 * (p % 32)) 128
/-- OR-plane row of macrocell `m`. -/
def State.orRow (s : State) (c r t m : Nat) : Nat := bits (s.tf c r t 3) (96 * m) 96
/-- Macrocell word (Table TIL-7). -/
def State.mcWord (s : State) (c r t m : Nat) : Nat := bits (s.tf c r t 3) (1536 + 64 * m) 64
/-- Control-term literal word. -/
def State.ctWord (s : State) (c r t j : Nat) : Nat := bits (s.tf c r t 3) (2560 + 64 * j) 64
/-- Tile options (Table TIL-8). -/
def State.opt (s : State) (c r t lo w : Nat) : Nat := bits (s.tf c r t 3) (3072 + lo) w
/-- Routing select of input `i` (Table RTE-7). -/
def State.inSel (s : State) (c r t i : Nat) : Nat := bits (s.tf c r t 4) (12 * i) 12
/-- Crossing source and berm mode of outbound channel `j` (Tables RTE-8, RTE-9). -/
def State.xs (s : State) (c r j : Nat) : Nat := bits (s.tf c r (j / 8) 4) (928 + 12 * (j % 8)) 10
def State.xb (s : State) (c r j : Nat) : Nat := bits (s.tf c r (j / 8) 4) (928 + 12 * (j % 8) + 10) 2
/-- Shaft-end fields of shaft `n` in region `r`. -/
def State.shDrv (s : State) (c r n : Nat) : Bool := bits (s.tf c r (n / 32) 4) (768 + 5 * (n % 32)) 1 = 1
def State.shMc (s : State) (c r n : Nat) : Nat := bits (s.tf c r (n / 32) 4) (768 + 5 * (n % 32) + 1) 4
def State.sb (s : State) (c r n : Nat) : Nat := bits (s.tf c r (n / 32) 4) (1024 + 2 * (n % 32)) 2
/-- Port input select (R120). -/
def State.mpSel (s : State) (c r p i : Nat) : Nat := bits (s.tf c r p 5) (10 * i) 10
/-- Region word (Table RTE-10). -/
def State.regionWord (s : State) (c r : Nat) : Nat := bits (s.tf c r 0 5) 960 64
/-- LADn_ROLE, LADn_MC, LADn_DIR of a tile. -/
def State.ladRole (s : State) (c r t n : Nat) : Nat := s.opt c r t (20 + 7 * n) 2
def State.ladMc (s : State) (c r t n : Nat) : Nat := s.opt c r t (22 + 7 * n) 4
def State.ladDir (s : State) (c r t n : Nat) : Bool := s.opt c r t (26 + 7 * n) 1 = 1

/-- Fields of a macrocell word. -/
def mcEn (w : Nat) : Bool := w.testBit 53
def mcBypass (w : Nat) : Bool := w.testBit 39
def mcArith (w : Nat) : Bool := w.testBit 38
def mcShared (w : Nat) : Bool := w.testBit 52
def mcInit (w : Nat) : Bool := w.testBit 51

/-- The region word that governs region `r`: that of a loaded context, the same in all of them (R121). -/
def State.ruleWord (s : State) (r : Nat) : Nat :=
  s.regionWord (((List.range 8).find? (s.loaded r)).getD (s.active r)) r

/-- A stacked pair is coupled (R123). -/
def State.coupled (s : State) (r : Nat) : Bool := (s.ruleWord r).testBit 28 && (s.ruleWord (partner r)).testBit 28

/-! ## Stored values -/

def State.bank (s : State) (r c : Nat) : Nat := (mget (fun _ => (0 : BitVec 512)) s.fab.bank (8 * r + c)).toNat
def State.setBank (s : State) (r c v : Nat) : State :=
  { s with fab := { s.fab with bank := mput (fun _ => (0 : BitVec 512)) s.fab.bank (8 * r + c) (BitVec.ofNat 512 v) } }
def State.sharedBits (s : State) (r : Nat) : Nat := (mget (fun _ => (0 : BitVec 512)) s.fab.shared r).toNat
def State.setShared (s : State) (r v : Nat) : State :=
  { s with fab := { s.fab with shared := mput (fun _ => (0 : BitVec 512)) s.fab.shared r (BitVec.ofNat 512 v) } }
def State.crossReg (s : State) (r : Nat) : Nat := (mget (fun _ => (0 : BitVec 256)) s.fab.cross r).toNat
def State.setCross (s : State) (r v : Nat) : State :=
  { s with fab := { s.fab with cross := mput (fun _ => (0 : BitVec 256)) s.fab.cross r (BitVec.ofNat 256 v) } }
def State.pinReg (s : State) (b : Nat) : Nat := (mget (fun _ => (0 : BitVec 48)) s.fab.pinIn b).toNat
def State.shaftOn (s : State) (r : Nat) : Nat := (mget (fun _ => (0 : BitVec 1024)) s.fab.shaftOn r).toNat
def State.shaftVal (s : State) (r : Nat) : Nat := (mget (fun _ => (0 : BitVec 1024)) s.fab.shaftVal r).toNat

/-- Stored bit of macrocell `e` (R84, R85). -/
def State.stored (s : State) (r e : Nat) : Bool :=
  if mcShared (s.mcWord (s.active r) r (e / 16) (e % 16)) then (s.sharedBits r).testBit e
  else (s.bank r (s.active r)).testBit e

/-! ## Geometry -/

/-- Neighbour of region `r` on side `d`: 0 north, 1 east, 2 south, 3 west (R102). -/
def neighbour (r d : Nat) : Option Nat :=
  let x := r % 8
  let y := r % 48 / 8
  match d with
  | 0 => if y = 0 then none else some (r - 8)
  | 1 => if x = 7 then none else some (r + 1)
  | 2 => if y = 5 then none else some (r + 8)
  | _ => if x = 0 then none else some (r - 1)

/-- I/O bank and first pin that region `r` serves on side `d` (R471). -/
def bankAt (r d : Nat) : Option (Nat × Nat) :=
  let y := r % 48 / 8
  let p := if r < 48 then 0 else 24
  if d = 0 ∧ y = 0 then some (r % 8, p) else if d = 2 ∧ y = 5 then some (r % 8 + 8, p) else none

/-- Region that serves pin `p` of bank `b`, and its side (R471). -/
def servingRegion (b p : Nat) : Nat × Nat :=
  if b < 8 then (if p < 24 then b else 48 + b, 0) else (if p < 24 then 32 + b else 80 + b, 2)

/-- Side of the neighbour exchange on side `d` of region `r`: 0 up, 1 down (R316). -/
def exchangeSide (r d : Nat) : Option Nat :=
  if d = 3 ∧ (r = 8 ∨ r = 56) then some 0 else if d = 1 ∧ (r = 15 ∨ r = 63) then some 1 else none

def State.side (s : State) (k : Nat) : Side := mget (fun _ => {}) s.chain.sides k
def State.setSide (s : State) (k : Nat) (x : Side) : State :=
  { s with chain := { s.chain with sides := mput (fun _ => {}) s.chain.sides k x } }

/-- The slice that side `k` presents in the running cycle; slice S − 1 stays until the next contribution (R319). -/
def State.slice (s : State) (k : Nat) : BitVec 128 :=
  let x := s.side k
  x.pres.getD (min (s.tick.cyc - x.presAt) (x.pres.length - 1)) 0

/-- Incoming exchange channel `i` of region `r`, with the VALID flag of VALID_CH in channel 63 of the T1 region (R319). -/
def State.exchangeIn (s : State) (k r i : Nat) : Bool :=
  if r < 48 && i = 63 && s.bit (ZV k 0x40) 19 then (s.side k).presOk
  else s.bit (ZV k 0x40) 0 && (s.slice k).getLsbD (if r < 48 then i else 64 + i)

/-- Value of the incoming channel with index `i` from side `d`: the neighbour's crossing register, or the input
register of the pin (R102, R471, R472). -/
def State.incoming (s : State) (r d i : Nat) : Bool :=
  match neighbour r d with
  | some n => (s.crossReg n).testBit (64 * ((d + 2) % 4) + i)
  | none =>
    match bankAt r d with
    | some (b, p) => i < 24 && (s.pinReg b).testBit (p + i)
    | none => match exchangeSide r d with
      | some k => s.exchangeIn k r i
      | none => false

/-! ## The wires of the running cycle -/

/-- A value that the evaluator looks up. -/
inductive Node where
  /-- output O of macrocell e -/
  | out (r e : Nat)
  /-- register output Q, asynchronous set/reset included -/
  | q (r e : Nat)
  /-- look-up table or arithmetic output F -/
  | fn (r t m : Nat)
  /-- sum of macrocell m, ladder collection included -/
  | sum (r t m : Nat)
  /-- carry into macrocell m -/
  | carry (r t m : Nat)
  /-- routing input i -/
  | inp (r t i : Nat)
  /-- control term j -/
  | ct (r t j : Nat)
  /-- shaft n of pair k -/
  | shaft (k n : Nat)
  /-- ladder line n of tile column x of pair k, as the tile at position p collects it -/
  | ladder (k x n p : Nat)

/-- Bit of a read-data or status line of a port (Table RTE-7). -/
def State.portLine (s : State) (r code : Nat) : Bool :=
  if code < 0x900 then ((s.port (4 * r + (code - 0x800) / 64)).out.data).getLsbD ((code - 0x800) % 64)
  else ((s.port (4 * r + (code - 0x900) / 16)).lines).getLsbD ((code - 0x900) % 16)

/-- Does this end drive shaft `n` (R122)? A held region's ends are as the berm cells keep them (R281). -/
def State.endDrives (s : State) (r n : Nat) : Bool :=
  if (s.region r).held then (s.shaftOn r).testBit n else s.shDrv (s.active r) r n

/-- Tile, in its region, at ladder position `p` of tile column `x`; its region (R89). -/
def ladTile (k x p : Nat) : Nat × Nat := if p < 4 then (k, 8 * p + x) else (k + 48, 8 * (p - 4) + x)

/-- Direction of segment `p` as seen from the side of position `from_` (R89, R122). -/
def State.segUp (s : State) (k x n p from_ : Nat) : Bool :=
  let (r, t) := ladTile k x p
  let side := if p = 3 then (if from_ < 4 then k else k + 48) else r
  s.ladDir (s.active side) r t n

/-- Does the contribution of the tile at position `p` reach the collector at `c`? -/
def State.reaches (s : State) (k x n p c : Nat) : Bool :=
  if p < c then (List.range (c - p)).all (fun i => s.segUp k x n (p + i) p)
  else (List.range (p - c)).all (fun i => !s.segUp k x n (c + i) p)

/-- Drive conditions of the crossing segment of ladder line n of column x (Table RTE-12). -/
def State.ladT1 (s : State) (k x n : Nat) : Bool := !(s.region k).held && s.ladDir (s.active k) k (24 + x) n
def State.ladT3 (s : State) (k x n : Nat) : Bool :=
  let c := s.active (k + 48)
  !(s.region (k + 48)).held && !s.ladDir c k (24 + x) n &&
    (List.range 4).any (fun i => s.ladRole c (k + 48) (8 * i + x) n ≠ 0)

/-- Control term of the asynchronous set/reset source of macrocell `e`, where it has one that acts (R77, R78, R83). -/
def State.asyncTerm (s : State) (r e : Nat) : Option Nat :=
  let w := s.mcWord (s.active r) r (e / 16) (e % 16)
  let sr := bits w 45 4
  if mcEn w && !mcBypass w && !w.testBit 49 && sr ≥ 8 && (s.region r).srGate && !(s.region r).held then some (sr - 8) else none

/-- The value of a wire in the running cycle, when the flip-flops `fired r e` have taken their SR_VAL in it (R78, R111);
`n` bounds the depth, and a loop, which the loader never lets stand, has the value of Config.loopValue. An edge that comes before
the time of R111 and of the wires after it has run out captures O as set: the spec guarantees neither value (DESIGN CHOICE log
185). -/
def State.eval (s : State) (fired : Nat → Nat → Bool) : Nat → Node → Bool
  | 0, _ => Config.loopValue s.tick.cyc
  | n + 1, node =>
    match node with
    | .out r e =>
      let w := s.mcWord (s.active r) r (e / 16) (e % 16)
      if !mcEn w then false
      else if mcBypass w then !(s.region r).swapCycle && s.eval fired n (.fn r (e / 16) (e % 16))
      else s.eval fired n (.q r e)
    | .q r e =>
      if (s.asyncTerm r e).isSome && fired r e then (s.mcWord (s.active r) r (e / 16) (e % 16)).testBit 50 else s.stored r e
    | .fn r t m =>
      if (s.region r).swapCycle then false else
      let w := s.mcWord (s.active r) r t m
      let a := xor (s.eval fired n (.sum r t m)) (w.testBit 16)
      let sel (c : Nat) : Bool :=
        if c < 64 then s.eval fired n (.inp r t c) else if c < 0x50 then s.eval fired n (.out r (16 * t + (c - 64))) else false
      let i := a.toNat + 2 * (sel (bits w 17 7)).toNat + 4 * (sel (bits w 24 7)).toNat
      if mcArith w then xor (w.testBit i) (s.eval fired n (.carry r t m))
      else w.testBit (i + 8 * (sel (bits w 31 7)).toNat)
    | .sum r t m =>
      if (s.region r).swapCycle then false else
      let c := s.active r
      let row := s.orRow c r t m
      (List.range 96).any (fun p =>
        row.testBit p &&
          (let lw := s.term c r t p
           lw ≠ 0 && (List.range 64).all (fun i =>
             (!lw.testBit (2 * i) || s.eval fired n (.inp r t i)) && (!lw.testBit (2 * i + 1) || !s.eval fired n (.inp r t i)))))
      || (List.range 2).any (fun l =>
        s.ladRole c r t l = 2 && s.ladMc c r t l = m &&
          s.eval fired n (.ladder (r % 48) (t % 8) l (t / 8 + if r < 48 then 0 else 4)))
    | .carry r t m =>
      let c := s.active r
      if (s.region r).swapCycle then false
      else if m = 0 then
        match s.opt c r t 18 2 with
        | 1 => true
        | 2 => t ≥ 8 && s.eval fired n (.carry r (t - 8) 16)
        | _ => false
      else
        let w := s.mcWord c r t (m - 1)
        if !mcEn w || !mcArith w then s.eval fired n (.carry r t (m - 1))
        else
          let a := xor (s.eval fired n (.sum r t (m - 1))) (w.testBit 16)
          let sel (k : Nat) : Bool :=
            if k < 64 then s.eval fired n (.inp r t k) else if k < 0x50 then s.eval fired n (.out r (16 * t + (k - 64))) else false
          let i := a.toNat + 2 * (sel (bits w 17 7)).toNat + 4 * (sel (bits w 24 7)).toNat
          if w.testBit i then s.eval fired n (.carry r t (m - 1)) else w.testBit (8 + i)
    | .inp r t i =>
      let code := s.inSel (s.active r) r t i
      if code = 1 then s.tick.count = 0
      else if 0x10 ≤ code ∧ code ≤ 0x1C then s.tick.count.testBit (code - 0x10)
      else if 0x20 ≤ code ∧ code ≤ 0x4F then s.tick.frame.getLsbD (code - 0x20)
      else if 0x60 ≤ code ∧ code ≤ 0x6F then s.eval fired n (.out r (16 * t + (code - 0x60)))
      else if 0x100 ≤ code ∧ code ≤ 0x1FF then s.incoming r ((code - 0x100) / 64) (code % 64)
      else if 0x200 ≤ code ∧ code ≤ 0x3FF then s.eval fired n (.out r (code - 0x200))
      else if 0x400 ≤ code ∧ code ≤ 0x7FF then s.eval fired n (.shaft (r % 48) (code - 0x400))
      else if 0x800 ≤ code ∧ code ≤ 0x93F then s.portLine r code
      else false
    | .ct r t j =>
      if (s.region r).swapCycle then false else
      let c := s.active r
      let lw := s.ctWord c r t j
      xor (lw ≠ 0 && (List.range 32).all (fun i =>
          (!lw.testBit (2 * i) || s.eval fired n (.inp r t i)) && (!lw.testBit (2 * i + 1) || !s.eval fired n (.inp r t i))))
        ((s.opt c r t 10 8).testBit j)
    | .shaft k sn =>
      let val (r : Nat) : Bool :=
        if (s.region r).held then (s.shaftVal r).testBit sn
        else s.eval fired n (.out r (16 * (sn / 32) + s.shMc (s.active r) r sn))
      let lo := s.endDrives k sn
      let hi := s.endDrives (k + 48) sn
      if lo && hi then Config.wireValue s.tick.cyc (1024 * k + sn)
      else if lo then val k else if hi then val (k + 48) else false
    | .ladder k x l p =>
      let own := p < 4
      if s.ladT1 k x l && s.ladT3 k x l then Config.wireValue s.tick.cyc (65536 + 16 * k + 2 * x + l)
      else (List.range 8).any (fun q =>
        let (r, t) := ladTile k x q
        q ≠ p && s.ladRole (s.active r) r t l = 1 && !(s.region r).swapCycle && s.reaches k x l q p
          && (own == decide (q < 4) || !(s.region r).held)
          && mcEn (s.mcWord (s.active r) r t (s.ladMc (s.active r) r t l))
          && s.eval fired n (.sum r t (s.ladMc (s.active r) r t l)))

/-- Depth that no loop-free configuration exceeds: every macrocell of a pair with its sum, input and carry. -/
def depth : Nat := 16384

/-- Is key `512 * r + e` among the flip-flops `f`? -/
def firedIn (f : List Nat) (r e : Nat) : Bool := f.contains (512 * r + e)

/-- Flip-flops of pair `k` whose asynchronous source is 1 once those of `f` have taken SR_VAL, `f` apart. -/
def State.fireNext (s : State) (k : Nat) (f : List Nat) : List Nat :=
  ([k, k + 48] : List Nat).flatMap (fun r => ((List.range 512).filter (fun e =>
    match s.asyncTerm r e with
    | some j => !firedIn f r e && s.eval (firedIn f) depth (.ct r (e / 16) j)
    | none => false)).map (512 * r + ·))

/-- Asynchronous sources act one after the other until none is left that changes a flip-flop: one that resets itself, or
that returns to 0 within the cycle, has acted (R111, log 127). -/
def State.fireAll (s : State) (k : Nat) : Nat → List Nat → List Nat
  | 0, f => f
  | n + 1, f =>
    let g := s.fireNext k f
    if g.isEmpty then f else s.fireAll k n (f ++ g)

/-- Has flip-flop `e` of region `r` taken its SR_VAL asynchronously in the running cycle? -/
def State.fired (s : State) (r e : Nat) : Bool := firedIn (s.fireAll (r % 48) 1024 []) r e

/-- The value of a wire now. -/
def State.val (s : State) (n : Node) : Bool := s.eval s.fired depth n

/-- Output Q of macrocell `e` of region `r`, as the region controller and the crossing registers sample it. -/
def State.qOut (s : State) (r e : Nat) : Bool := s.val (.q r e)

/-- A number from bits. -/
def ofBits (n : Nat) (f : Nat → Bool) : Nat := (List.range n).foldl (fun x i => if f i then x + 2 ^ i else x) 0

/-! ## Clock edges (R76 to R83, R103, R144, R472) -/

/-- Does the clock select code of Table RTE-10 name clock `clk` in region `r`? -/
def rckIs (r code : Nat) (clk : ClkSrc) : Bool :=
  match clk with
  | .gck n => code = n.val + 1
  | .lane n => 0x20 ≤ code && code ≤ 0x23 && decide (n.val = 4 * bayOf r + (code - 0x20))
  | .pin b i => 0x28 ≤ code && code ≤ 0x2B && decide (i.val = code - 0x28)
      && decide (b.val = r % 8 + if r % 48 / 8 < 3 then 0 else 8)

/-- Does tile clock select `code` name clock `clk` (Table TIL-4)? -/
def State.tclkIs (s : State) (r code : Nat) (clk : ClkSrc) : Bool :=
  if code < 16 then clk = .gck (Fin.ofNat 16 code)
  else if code < 20 then rckIs r (bits (s.ruleWord r) (6 * (code - 16)) 6) clk
  else false

/-- What macrocell `e` of region `r` takes at an edge of `clk` (R79), `none` when it holds; one that an asynchronous source
has set in the cycle keeps SR_VAL until an edge clocks it (R111). -/
def State.capture (s : State) (r e : Nat) (clk : ClkSrc) : Option Bool :=
  let c := s.active r
  let t := e / 16
  let w := s.mcWord c r t (e % 16)
  if !mcEn w || mcBypass w then none else
  let sr := bits w 45 4
  let src : Bool := 8 ≤ sr && (s.region r).srGate && s.val (.ct r t (sr - 8))
  let kept : Option Bool := if (s.asyncTerm r e).isSome && s.fired r e then some (w.testBit 50) else none
  if src && !w.testBit 49 then some (w.testBit 50)
  else if !s.tclkIs r (s.opt c r t (if w.testBit 40 then 5 else 0) 5) clk then kept
  else if src then some (w.testBit 50)
  else
    let ce := bits w 41 4
    if !(s.region r).ceGate || (8 ≤ ce && !s.val (.ct r t (ce - 8))) then kept
    else some (s.val (.fn r t (e % 16)))

/-- Does the region take part in clock edges: its active context loaded, not held, not stopped by a power mode? -/
def State.clocked (s : State) (r : Nat) : Bool :=
  s.loaded r (s.active r) && !(s.region r).held && !s.clk.stopped

/-- New private bank and shared bits of region `r` at an edge of `clk` (R84, R85). Nothing is captured at the edge that
ends a swap cycle (R143). -/
def State.captured (s : State) (r : Nat) (clk : ClkSrc) : Nat × Nat :=
  let c := s.active r
  let bk := s.bank r c
  let sh := s.sharedBits r
  let take (shared : Bool) (old : Nat) : Nat :=
    ofBits 512 (fun e =>
      if mcShared (s.mcWord c r (e / 16) (e % 16)) == shared then (s.capture r e clk).getD (old.testBit e) else old.testBit e)
  (take false bk, take true sh)

/-- What outbound crossing register `j` of region `r` takes (R103, Table RTE-8). -/
def State.crossTake (s : State) (r j : Nat) : Bool :=
  let code := s.xs (s.active r) r j
  if 0x200 ≤ code then s.qOut r (code - 0x200)
  else if 0x100 ≤ code then s.incoming r ((code - 0x100) / 64) (code % 64)
  else false

/-- Is `clk` the crossing clock XCLK of region `r` (Table RTE-10)? -/
def State.xclkIs (s : State) (r : Nat) (clk : ClkSrc) : Bool :=
  clk = .gck (Fin.ofNat 16 (bits (s.ruleWord r) 24 4))

/-- The pin registers of a bank at an edge: pins whose serving region's XCLK is `clk` take the level at the ball,
inverted where INV asks for it (R472, Table IOL-3). A ball that the command does not name has kept its level (log 54). -/
def State.pinTake (s : State) (b : Nat) (clk : ClkSrc) (level : Nat → Option Bool) : Nat :=
  let old := s.pinReg b
  let gf := s.globF (0xC0 + 2 * b)
  ofBits 48 (fun p =>
    let w := bits gf (8 * (16 + 8 * p)) 16
    if 8 ≤ bits w 0 4 ∧ p % 2 = 1 then false
    else match level p with
      | some v => if s.xclkIs (servingRegion b p).1 clk then xor v (w.testBit 15) else old.testBit p
      | none => old.testBit p)

end Sys2Proof.Machine
end

