-- ==== Sys2Proof/Machine/Flags.lean ====
section
/-! DEFINITION. Descriptor fields, and every flag that the queue controllers compute (spec/06 Tables MEM-4, MEM-11 to
MEM-13). -/

namespace Sys2Proof.Machine

/-! ## Descriptor fields (Tables MEM-11, MEM-12) -/

def dMode (d : Nat) : Nat := bits d 0 3
def dSrc (d : Nat) : Nat := bits d 4 2
def dLane (d : Nat) : Nat := bits d 6 2
def dOvf (d : Nat) : Nat := bits d 8 2
/-- Write slots S (R175). -/
def dSlots (d : Nat) : Nat := if bits d 12 4 = 0 then 8 else bits d 12 4
def dFirst (d : Nat) : Nat := bits d 16 7
def dBlks (d : Nat) : Nat := bits d 24 7
/-- Wq (R170). -/
def dWords (d : Nat) : Nat := 4096 * dBlks d
def dHigh (d : Nat) : Nat := bits d 32 19
def dLow (d : Nat) : Nat := bits d 64 19
def dFofs (d : Nat) : Nat := bits d 96 8
def dDest (d : Nat) : Nat := bits d 104 8
def dDrain (d : Nat) : Bool := d.testBit 112
def dThr (d : Nat) : Bool := d.testBit 113
def dBinW (d : Nat) : Bool := d.testBit 114
def dDouble (d : Nat) : Bool := d.testBit 115
def dRecMax (d : Nat) : Nat := bits d 116 10
def dDrainLane (d : Nat) : Nat := bits d 126 2
def dMaxf (d : Nat) : Nat := bits d 128 16

/-- Descriptor in force of controller `q`. -/
def State.desc (s : State) (q : Nat) : Nat := (s.queue q).desc.toNat
def State.qMode (s : State) (q : Nat) : Nat := dMode (s.desc q)
def State.wq (s : State) (q : Nat) : Nat := dWords (s.desc q)

/-- Modes with watermarks: FIFO and derandomizer (R192). -/
def State.fifoLike (s : State) (q : Nat) : Bool := s.qMode q = 1 || s.qMode q = 2

/-- Entries of E of a lookup table (R190), bins of a histogram (R188). -/
def State.entries (s : State) (q : Nat) : Nat := if dDouble (s.desc q) then s.wq q / 2 else s.wq q
def State.nBins (s : State) (q : Nat) : Nat := if dBinW (s.desc q) then s.wq q else 2 * s.wq q

/-- Words of closed frame `f` (R183). -/
def State.frameLen (s : State) (q f : Nat) : Nat :=
  let x := s.queue q
  let at_ (g : Nat) : Nat := mget (fun _ => 0) x.idx (g % 16384)
  (at_ (f + 1) + s.wq q - at_ f) % s.wq q

/-! ## Queue state flags (Tables MEM-4, MEM-13) -/

def State.qEmpty (s : State) (q : Nat) : Bool := (s.queue q).occ = 0
/-- FULL, no word can be accepted: every word of a FIFO or derandomizer is occupied (R179), and of a pipeline by words of the
open frame, as closed frames without words leave first (R183). -/
def State.qFull (s : State) (q : Nat) : Bool :=
  let x := s.queue q
  decide (x.occ = s.wq q) && (s.fifoLike q ||
    s.qMode q = 3 && (List.range (subFrame x.curt x.oldest)).all (fun i => s.frameLen q (addFrame x.oldest i) = 0))
def State.qAlmostEmpty (s : State) (q : Nat) : Bool := decide ((s.queue q).occ ≤ dLow (s.desc q))
/-- ALMOST_FULL (R192); 0 for a queue that is no FIFO or derandomizer (Table MEM-13 does not say so: DESIGN CHOICE log 159). -/
def State.qAlmostFull (s : State) (q : Nat) : Bool := s.fifoLike q && decide (dHigh (s.desc q) ≤ (s.queue q).occ)
def State.roFull (s : State) (q : Nat) : Bool := decide (16 ≤ (s.queue q).ro.length)

/-- Status lines 4 to 10 and 13 of the paired port (Table MEM-4). -/
def State.queueLines (s : State) (q : Nat) : Nat :=
  (s.qEmpty q).toNat * 16 + (s.qFull q).toNat * 32 + (s.qAlmostEmpty q).toNat * 64 + (s.qAlmostFull q).toNat * 128
    + (s.queue q).throttle.toNat * 256 + (s.queue q).ovf.toNat * 512 + (s.roFull q).toNat * 1024
    + (s.queue q).stopped.toNat * 8192

/-- Status lines 0 to 3, 11 and 12 of an operation. -/
def opLines (x : PortRes) : Nat :=
  x.rvalid.toNat + x.ce.toNat * 2 + x.ue.toNat * 4 + x.err.toNat * 8 + x.hdr.toNat * 2048 + x.last.toNat * 4096

/-- QC_STATUS.FULL: every word of the queue is occupied, the ring of a pipeline included; the line FULL of a port says that no
word can be accepted. -/
def State.qBrim (s : State) (q : Nat) : Bool := s.qMode q ≠ 0 && (s.queue q).occ = s.wq q

/-- QC_STATUS as read: computed bits over the sticky bits of the register file (Table MEM-13). -/
def State.qcStatus (s : State) (q : Nat) : Nat :=
  (s.qEmpty q).toNat + (s.qBrim q).toNat * 2 + (s.qAlmostEmpty q).toNat * 4 + (s.qAlmostFull q).toNat * 8
    + (s.queue q).throttle.toNat * 16 + (s.queue q).ovf.toNat * 32 + (s.queue q).stopped.toNat * 64
    + (s.roFull q).toNat * 128 + (s.queue q).half * 256 + s.fld (QC q 0x20) 16 4 * 2 ^ 16
    + (s.queue q).ro.length * 2 ^ 24

/-- THROTTLE after a change of OCC (R192). -/
def State.updThrottle (s : State) (q : Nat) : State :=
  let x := s.queue q
  let d := s.desc q
  if !s.fifoLike q || !dThr d then s.setQueue q { x with throttle := false }
  else if dHigh d ≤ x.occ then s.setQueue q { x with throttle := true }
  else if x.occ ≤ dLow d then s.setQueue q { x with throttle := false }
  else s

end Sys2Proof.Machine
end

