-- ==== Sys2Proof/Machine/Owners.lean ====
section
/-! DEFINITION. The ownership map (spec/08 R242, R243) and the loans (R244), as every engine looks them up. -/

namespace Sys2Proof.Machine

/-- An ownership entry: resource number `k` of the frames from `f` up (R242). -/
def ownerEntry (glob : Nat → Nat) (f k : Nat) : Nat := bits (glob (f + k / 256)) (16 * (k % 256)) 16

/-- Owner codes of a block, controller, pin, timer and mailbox (R242). -/
def State.blockCode (s : State) (k : Nat) : Nat := ownerEntry s.globF 0x40 k
def State.queueCode (s : State) (q : Nat) : Nat := ownerEntry s.globF 0x49 q
def State.pinCode (s : State) (p : Nat) : Nat := ownerEntry s.globF 0x4B p
def State.timerCode (s : State) (t : Nat) : Nat := bits (s.globF 0x4E) (16 * t) 16
def State.mboxCode (s : State) (m : Nat) : Nat := bits (s.globF 0x4E) (16 * (m + 6)) 16

/-- Default region of a block (R17). -/
def defaultRegion (k : Nat) : Nat := regionAt (k / 96) (k % 96 / 24)

/-- Region that an owner code names, a default given (Table CFG-6). -/
def codeRegion (code : Nat) (dflt : Option Nat) : Option Nat :=
  if code = 0 then dflt else if 0x100 ≤ code ∧ code ≤ 0x15F then some (code - 0x100) else none

/-- Region that owns block `k`. -/
def State.blockRegion (s : State) (k : Nat) : Option Nat := codeRegion (s.blockCode k) (some (defaultRegion k))
/-- Region that owns mailbox `m` of MB2 to MB5 (R343). -/
def State.mboxRegion (s : State) (m : Nat) : Option Nat := codeRegion (s.mboxCode m) none

/-- Is the resource spare: code 0x0001, or a default that means spare (Table CFG-6)? -/
def spareCode (code : Nat) (blockLike : Bool) : Bool := code = 1 || (code = 0 && !blockLike)

/-- Loans: (class, index, mailbox) with class 0 block, 1 pin, 2 timer (Table CMD-13). -/
def State.lent (s : State) (cls idx : Nat) : Option Nat :=
  (s.hl.loanList.find? (fun l => l.1 = cls && l.2.1 = idx)).map (·.2.2)

/-- Is mailbox `m` one that has a requester (Table HDL-2)? -/
def State.hasRequester (s : State) (m : Nat) : Bool := m < 2 || 6 ≤ m || (s.mboxRegion m).isSome

end Sys2Proof.Machine
end

