-- ==== Sys2Proof/Machine/Queues.lean ====
section
/-! DEFINITION. Queue controllers (spec/06): acceptance of words, overflow policies and episodes, the pipeline ring, the
slot wheel, Headland's access and the commands of QC_CMD. -/

namespace Sys2Proof.Machine

/-- What T4 or a router does: nothing without its supply (R12, Table ELP-4). -/
def State.powered (s : State) (f : State → State) : State := if s.routersOn then f s else s

/-! ## Words of a queue -/

/-- Block of queue word offset `o` (R170). -/
def State.qBlock (s : State) (q o : Nat) : Nat := 96 * bayOf (queueRegion q) + dFirst (s.desc q) + o / 4096

/-- Report an uncorrectable word once per address until it is written (R197). -/
def State.foundUE (s : State) (k w by_ : Nat) : State :=
  if s.ueSeen.contains (wordKey k w) then s
  else ({ s with ueSeen := s.ueSeen ++ [wordKey k w] }).latch 0x0A k (k + w * 2 ^ 16 + by_ * 2 ^ 32)

/-- Read a queue word, counting its CE and UE (Table MEM-10, R197). -/
def State.queueRead (s : State) (q o by_ : Nat) : (Nat × Bool × Bool) × State :=
  let k := s.qBlock q o
  let w := o % 4096
  let ((v, ce, ue), s) := s.readWord k w
  let s := if ce then s.inc (QC q 0x58) else s
  let s := if ue then ((s.inc (QC q 0x5C)).setBit (QC q 0x20) 19 true).foundUE k w by_ else s
  ((v, ce, ue), s)

/-- Write a queue word. -/
def State.queueWrite (s : State) (q o v : Nat) : State := s.putWord (s.qBlock q o) (o % 4096) v

/-! ## Overflow episodes (R194) -/

/-- A discard or refusal that belongs to an episode. -/
def State.episode (s : State) (q : Nat) : State :=
  let x := s.queue q
  if x.ovf then s.setQueue q { x with ovfCount := satAdd 32 x.ovfCount 1 }
  else (s.setQueue q { x with ovf := true, ovfCount := 1 }).setBit (QC q 0x20) 16 true

/-- A discarded word, record or add (Table MEM-7). -/
def State.discard (s : State) (q : Nat) : State := (s.inc (QC q 0x44)).episode q

/-- A word or push refused for bandwidth (R177). -/
def State.reject (s : State) (q : Nat) : State := (s.inc (QC q 0x48)).episode q

/-- Close the open episode: EV_QUEUE_OVF with its count; episodes that close before the event is posted add to its
COUNT (R194, R354). -/
def State.closeEpisode (s : State) (q : Nat) : State :=
  let x := s.queue q
  if !x.ovf then s else
  let n := x.ovfCount
  let s := s.setQueue q { x with ovf := false, ovfCount := 0 }
  if s.hl.latches.any (fun l => l.code = 9 && l.src = q + 1) then
    { s with hl := { s.hl with latches := s.hl.latches.map (fun l =>
        if l.code = 9 && l.src = q + 1 then { l with data := setBits l.data 32 32 (satAdd 32 (bits l.data 32 32) n) } else l) } }
  else s.latch 9 q (q + s.qMode q * 2 ^ 16 + n * 2 ^ 32)

/-- Close the episode of a FIFO or derandomizer where OCC stands at or below LOW_WM, unless stopped (R194). -/
def State.closeIfLow (s : State) (q : Nat) : State :=
  let x := s.queue q
  if s.fifoLike q && !x.stopped && decide (x.occ ≤ dLow (s.desc q)) then s.closeEpisode q else s

/-! ## Accepting words (R177, R179, R181, R183, R193) -/

/-- Lane words, or pushes, that wait for a write slot. -/
def Queue.waiting (x : Queue) (lane : Bool) : Nat :=
  (x.wbuf.filter (fun w => match w with
    | .word _ _ l => l == lane
    | .header _ _ => false)).length

/-- Is the write buffer of that source full (R177)? -/
def Queue.bufFull (x : Queue) (lane : Bool) : Bool := decide ((if lane then 64 else 16) ≤ x.waiting lane)

/-- Store a word at WR (R179). -/
def State.append (s : State) (q v : Nat) (lane : Bool) : State :=
  let x := s.queue q
  (s.setQueue q { x with wbuf := x.wbuf ++ [.word x.wr (BitVec.ofNat 64 v) lane], wr := (x.wr + 1) % s.wq q, occ := x.occ + 1 }).inc
    (QC q 0x40)

/-- The readout queue when the head word leaves otherwise than by its first record: a drain record keeps one word fewer, a
derandomizer record has one more popped. -/
def Queue.headTaken (x : Queue) : List RoEntry :=
  match x.ro with
  | .drain f c :: rest => if c ≤ 1 && x.leaving.isNone then rest else .drain f (c - 1) :: rest
  | .record r :: rest => .record { r with popped := r.popped + 1 } :: rest
  | l => l

/-- Discard the head word, prefetched or not (Table MEM-7, OVERWRITE). A drain record that waits keeps its count, and takes it
from the words that follow; one already read is sent as read, and its dropped words are not removed again (DESIGN CHOICE, log
79). -/
def State.dropHead (s : State) (q : Nat) : State :=
  let x := s.queue q
  (s.setQueue q { x with pre := x.pre.drop 1, rd := (x.rd + 1) % s.wq q, occ := x.occ - 1,
                         ro := if x.leaving.isSome then x.headTaken else x.ro }).discard q

/-- A word that comes to a FIFO (R179, R193). -/
def State.fifoWord (s : State) (q v : Nat) (lane : Bool) : State :=
  let x := s.queue q
  if x.stopped then s.discard q
  else if x.bufFull lane then s.reject q
  else if x.occ < s.wq q then (s.append q v lane).updThrottle q
  else match dOvf (s.desc q) with
    | 1 => ((s.dropHead q).append q v lane).updThrottle q
    | 2 => (s.setQueue q { x with stopped := true }).discard q
    | _ => s.discard q

/-- The oldest frame leaves (R183). -/
def State.expire (s : State) (q : Nat) : State :=
  let x := s.queue q
  let n := s.frameLen q x.oldest
  s.setQueue q { x with occ := x.occ - n, oldest := addFrame x.oldest 1, overfull := x.overfull.filter (· ≠ x.oldest) }

/-- Closed frames that hold no word leave first (R183); `n` bounds the frames of the index. -/
def State.expireEmpty (q : Nat) : Nat → State → State
  | 0, s => s
  | n + 1, s =>
    let x := s.queue q
    if x.occ = s.wq q ∧ x.oldest ≠ x.curt ∧ s.frameLen q x.oldest = 0 then
      State.expireEmpty q n (s.setQueue q { x with oldest := addFrame x.oldest 1, overfull := x.overfull.filter (· ≠ x.oldest) })
    else s

/-- Expire oldest frames while the ring is full (R183). -/
def State.expireFull (q : Nat) : Nat → State → State
  | 0, s => s
  | n + 1, s => if (s.queue q).occ = s.wq q then State.expireFull q n (s.expire q) else s

/-- A word that comes to a latency pipeline (R183). A drop here opens no episode (R194). -/
def State.pipeWord (s : State) (q v : Nat) (lane : Bool) : State :=
  if (s.queue q).bufFull lane then s.reject q
  else
    let s := State.expireEmpty q 16384 s
    let x := s.queue q
    if x.occ = s.wq q ∧ x.oldest = x.curt then
      (s.setQueue q { x with overfull := if x.overfull.contains x.curt then x.overfull else x.overfull ++ [x.curt] }).inc (QC q 0x44)
    else (State.expireFull q 16384 s).append q v lane

/-- Header word of a derandomizer record (R181). -/
def Rec.header (r : Rec) : Nat := r.len + r.trunc.toNat * 1024 + r.frame * 2 ^ 16

/-- Close the open record (R181): its header is written in a write slot. -/
def State.closeRec (s : State) (q : Nat) (r : Rec) : State :=
  let x := s.queue q
  s.setQueue q { x with openRec := none, closed := x.closed ++ [r], skipping := r.trunc, refusing := false,
                        wbuf := x.wbuf ++ [.header r.off (BitVec.ofNat 64 r.header)] }

/-- A push into a derandomizer (R181, R193): new state, and whether the push is refused, by itself or with its record. The header
word is written when the record closes, and counts in OCC from the opening push (DESIGN CHOICE, log 176). -/
def State.derandWord (s : State) (q v : Nat) (last : Bool) : Bool × State :=
  let x := s.queue q
  if x.skipping then (x.refusing, s.setQueue q { x with skipping := !last })
  else if x.bufFull false then (true, s.reject q)
  else
    let go (s : State) (r : Rec) : State :=
      let s := s.append q v false
      let r := { r with len := r.len + 1 }
      (if last then s.closeRec q r
       else if dRecMax (s.desc q) ≤ r.len then s.closeRec q { r with trunc := true }
       else s.setQueue q { s.queue q with openRec := some r }).updThrottle q
    match x.openRec with
    | some r => (false, go s r)
    | none =>
      if x.stopped || decide (s.wq q < x.occ + dRecMax (s.desc q) + 1) then
        (true, (s.setQueue q { x with skipping := !last, refusing := true, stopped := x.stopped || dOvf (s.desc q) = 2 }).discard q)
      else
        let s := s.setQueue q { x with wr := (x.wr + 1) % s.wq q, occ := x.occ + 1 }
        (false, go s ⟨x.wr, 0, false, s.frameNo, 0⟩)

/-! ## Clearing, history, ticks (R174, R180, R182, R183, R186, R194) -/

/-- Restart the history of a pipeline (R186). -/
def State.restartHistory (s : State) (q : Nat) : State :=
  if s.qMode q ≠ 3 then s else
  let x := s.queue q
  let c := subFrame s.frameNo (dFofs (s.desc q))
  let i := mput (fun _ => 0) x.idx (c % 16384) x.wr
  (s.setQueue q { x with curt := c, oldest := c, occ := 0, overfull := [], idx := i, idxErr := mput (fun _ => 0) x.idxErr (c % 16384) 0 }).setBit (QC q 0x20) 18 true

/-- Words of queued drain records, which keep their storage until sent (R180). -/
def Queue.draining (x : Queue) : Nat :=
  (x.ro.map (fun e => match e with
    | .drain _ c => c
    | _ => 0)).sum

/-- Queue closed derandomizer records for the drain while entries are free (R182). One that was partly popped before DRAIN_EN
came on is sent whole, and what is left of it is removed (DESIGN CHOICE, log 138). -/
def State.queueRecords (s : State) (q : Nat) : State :=
  let x := s.queue q
  if s.qMode q = 2 ∧ dDrain (s.desc q) then
    let n := 16 - x.ro.length
    s.setQueue q { x with ro := x.ro ++ (x.closed.take n).map .record, closed := x.closed.drop n }
  else s

/-- Queue a drain record at a tick (R180). -/
def State.queueDrain (s : State) (q ended : Nat) : State :=
  let x := s.queue q
  let d := s.desc q
  if s.qMode q = 1 ∧ dDrain d then
    let free := x.occ - x.draining
    let c := if dMaxf d = 0 then free else min (dMaxf d) free
    if c = 0 ∨ 16 ≤ x.ro.length then s else s.setQueue q { x with ro := x.ro ++ [.drain ended c] }
  else s

/-- The active half of a lookup table changes where it has two (R190, R191). -/
def State.flipHalf (s : State) (q : Nat) : State :=
  if dDouble (s.desc q) then s.setQueue q { s.queue q with half := 1 - (s.queue q).half } else s

/-- A pipeline opens the next frame; a frame that the full index can no longer hold leaves first, as LIVE counts its words
(R183, R184). -/
def State.openFrame (s : State) (q : Nat) : State :=
  let c := addFrame (s.queue q).curt 1
  let s := if 16384 ≤ subFrame c (s.queue q).oldest then s.expire q else s
  let x := s.queue q
  s.setQueue q { x with curt := c, idx := mput (fun _ => 0) x.idx (c % 16384) x.wr, idxErr := mput (fun _ => 0) x.idxErr (c % 16384) 0 }

/-- A queue at a tick: `ended` is the frame that the tick ends, `jumped` a frame jump (R51, R186). CURT counts on across a
preset (R183; DEDUCED, log 117). -/
def State.tickQueue (ended : Nat) (jumped : Bool) (q : Nat) (s : State) : State :=
  if s.qMode q = 0 then s.closeEpisode q else
  let s := if (s.queue q).lutPend then s.flipHalf q else s
  let s := s.setQueue q { s.queue q with lutPend := false, drained := 0 }
  let s := if s.qMode q ≠ 3 then s else if jumped then s.restartHistory q else s.openFrame q
  let s := (s.queueDrain q ended).queueRecords q
  if s.fifoLike q then s.closeIfLow q else s.closeEpisode q

/-! ## The slot wheel (R175, R176) -/

/-- Is position `i` a write slot for S write slots (R175)? -/
def writeSlot (i sl : Nat) : Bool := decide ((i * sl) % 16 < sl)

/-- Saturation value of a bin (R188). -/
def State.binMax (s : State) (q : Nat) : Nat := if dBinW (s.desc q) then 2 ^ 64 - 1 else 2 ^ 32 - 1
/-- Queue word of bin `b`. -/
def State.binWord (s : State) (q b : Nat) : Nat := if dBinW (s.desc q) then b else b / 2

/-- Write back the oldest add in flight (R188). The bin is read again so that the count is exact; where the read found a
UE word the increment stands alone, and the other 32-bit bin of that word keeps its stored bits (DESIGN CHOICE log 156). -/
def State.writeBin (s : State) (q : Nat) : State :=
  let x := s.queue q
  match x.flight with
  | [] => s
  | (b, n, ue) :: rest =>
    let s := s.setQueue q { x with flight := rest }
    let o := s.binWord q b
    let old := s.storedWord (s.qBlock q o) (o % 4096)
    let old := if popCount (s.flipMask (s.qBlock q o) (o % 4096)) 72 = 1 then s.rawWord (s.qBlock q o) (o % 4096) else old
    let lo := if dBinW (s.desc q) then 0 else 32 * (b % 2)
    let w := if dBinW (s.desc q) then 64 else 32
    s.queueWrite q o (setBits old lo w (min ((if ue then 0 else bits old lo w) + n) (s.binMax q)))

/-- Read the bin of the oldest buffered add (R188). -/
def State.readBin (s : State) (q : Nat) : State :=
  let x := s.queue q
  match x.adds with
  | [] => s
  | (b, n) :: rest =>
    if x.flight.any (fun f => f.1 = b) then
      s.setQueue q { x with adds := rest, flight := x.flight.map (fun f => if f.1 = b then (b, min (f.2.1 + n) (s.binMax q), f.2.2) else f) }
    else
      let ((_, _, ue), s) := s.queueRead q (s.binWord q b) 1
      s.setQueue q { s.queue q with adds := rest, flight := (s.queue q).flight ++ [(b, n, ue)] }

/-- Does the readout queue hold a drain record or a derandomizer record, so that a POP finds none of the queue's words before
it has been sent (R180, R182; after DRAIN_EN goes to 0: DESIGN CHOICE log 155)? -/
def Queue.sendsHead (x : Queue) : Bool :=
  x.ro.any (fun e => match e with
    | .drain _ _ => true
    | .record _ => true
    | _ => false)

/-- Words that a POP may reach: all words of a FIFO, those of closed records of a derandomizer (R182). -/
def State.poppable (s : State) (q : Nat) : Nat :=
  let x := s.queue q
  if s.qMode q = 1 then x.occ
  else if s.qMode q = 2 then ((x.closed.map (fun r => r.len + 1 - r.popped)).sum) else 0

/-- Is queue word `o` still in the write buffer? -/
def Queue.unwritten (x : Queue) (o : Nat) : Bool :=
  x.wbuf.any (fun w => match w with
    | .word p _ _ => p = o
    | .header p _ => p = o)

/-- May the prefetch take its next word (R179)? It rests while DRAIN_EN = 1, as no POP can take a word (DESIGN CHOICE, log 177). -/
def State.canPrefetch (s : State) (q : Nat) : Bool :=
  let x := s.queue q
  s.fifoLike q && !dDrain (s.desc q) && !x.sendsHead && decide (x.pre.length < 4) && decide (x.pre.length < s.poppable q)
    && !x.unwritten ((x.rd + x.pre.length) % s.wq q)

/-- Fill the prefetch by one word. -/
def State.prefetch (s : State) (q : Nat) : State :=
  let x := s.queue q
  let o := (x.rd + x.pre.length) % s.wq q
  let ((v, ce, ue), s) := s.queueRead q o 1
  s.setQueue q { s.queue q with pre := (s.queue q).pre ++ [⟨o, BitVec.ofNat 64 v, ce, ue⟩] }

/-- Headland's pending access: QC_ACC_CTRL BUSY and WRITE (Table MEM-14). -/
def State.accBusy (s : State) (q : Nat) : Bool := s.bit (QC q 0x90) 29
def State.accWrite (s : State) (q : Nat) : Bool := s.bit (QC q 0x90) 24

/-- May the wheel serve Headland's pending access: at most one in any 64 memory cycles (R176)? -/
def State.accDue (s : State) (q : Nat) : Bool := s.accBusy q && (s.queue q).accWait = 0

/-- Serve Headland's pending access (R176). -/
def State.serveAccess (s : State) (q : Nat) : State :=
  let o := s.fld (QC q 0x90) 0 19
  let s := s.setBit (QC q 0x90) 29 false
  if s.qMode q = 0 ∨ s.wq q ≤ o then
    let s := s.setBit (QC q 0x90) 25 true
    if s.accWrite q then s else (((s.setReg (QC q 0x94) 0).setReg (QC q 0x98) 0).setBit (QC q 0x90) 30 false).setBit (QC q 0x90) 31 false
  else
    let s := (s.setBit (QC q 0x90) 25 false).setQueue q { s.queue q with accWait := 64 }
    if s.accWrite q then s.queueWrite q o (s.reg (QC q 0x94) + s.reg (QC q 0x98) * 2 ^ 32)
    else
      let ((v, ce, ue), s) := s.queueRead q o 1
      (((s.setReg (QC q 0x94) v).setReg (QC q 0x98) (v / 2 ^ 32)).setBit (QC q 0x90) 30 ce).setBit (QC q 0x90) 31 ue

/-- Is frame `f` retained: from OLDEST on, its index entry readable (R184, Table FLT-3)? -/
def State.retained (s : State) (q f : Nat) : Bool :=
  let x := s.queue q
  decide (subFrame x.curt f ≤ subFrame x.curt x.oldest) && decide (mget (fun _ => 0) x.idxErr (f % 16384) < 2)

/-- Words of the queue that the record at the head of the readout queue has still to read: offset of the first one, and
number. -/
def State.readoutSpan (s : State) (q : Nat) : Nat × Nat :=
  let x := s.queue q
  if x.leaving.isSome then (0, 0) else
  match x.ro with
  | .frame f start len _ expired _ _ :: _ => (start, if expired || !s.retained q f then 0 else len)
  | .bins b _ _ _ _ :: _ => (4096 * b, 4096)
  | .drain _ c :: _ => (x.rd, c)
  | .record r :: _ => (r.off, r.len + 1)
  | [] => (0, 0)

/-- Must the record at the head of the readout queue wait: for words that have not been written yet, or a derandomizer record
for the allowance of a later frame (R182)? -/
def State.readoutWaits (s : State) (q : Nat) : Bool :=
  let x := s.queue q
  let d := s.desc q
  let (o, n) := s.readoutSpan q
  (List.range n).any (fun i => x.unwritten ((o + i) % s.wq q)) ||
    (match x.ro with
      | .record r :: _ => decide (dMaxf d ≠ 0 ∧ dMaxf d < x.drained + r.len + 3)
      | _ => false)

/-- Has the readout an access for the read side, credits or none (R176, R178)? -/
def State.readoutReads (s : State) (q : Nat) : Bool := decide (0 < (s.readoutSpan q).2) && !s.readoutWaits q

/-- Has the write side a pending access, the read side one? -/
def State.writePending (s : State) (q : Nat) : Bool :=
  !(s.queue q).wbuf.isEmpty || !(s.queue q).flight.isEmpty || (s.accDue q && s.accWrite q)
def State.readPending (s : State) (q : Nat) : Bool :=
  (!(s.queue q).adds.isEmpty && decide ((s.queue q).flight.length < 8)) || s.canPrefetch q || s.readoutReads q
    || (s.accDue q && !s.accWrite q)

/-- Flits of a packet (R203). -/
def Packet.flits (p : Packet) : Nat := 1 + p.data.length / 4

/-- Have the packets of controller `q` entered the network (R178)? -/
def State.recordLeft (q : Nat) (s : State) : Bool := s.net.all (fun p => p.own ≠ q || decide (p.flits ≤ p.left))

/-- Remove words that a drain record has sent, prefetched or not (R179, R180, R182, R194). -/
def State.drainWords (s : State) (q n : Nat) : State :=
  let x := s.queue q
  ((s.setQueue q { x with pre := x.pre.drop n, rd := (x.rd + n) % s.wq q, occ := x.occ - n }).updThrottle q).closeIfLow q

/-- The record that was leaving has been sent once its last packet has entered the network: it is counted, its entry and its
storage are free (R178, R180, R182, R187, R199). A drain record frees the words that it still
counts (`State.dropHead`, DESIGN CHOICE log 79). -/
def State.endRecord (s : State) (q : Nat) : State :=
  let x := s.queue q
  match x.leaving with
  | none => s
  | some (expired, trunc) =>
    if !State.recordLeft q s then s
    else
      let s := (s.setQueue q { x with leaving := none, ro := x.ro.drop 1 }).inc (QC q 0x4C)
      let s := if expired then s.inc (QC q 0x50) else s
      let s := if trunc then s.inc (QC q 0x54) else s
      match x.ro with
      | .drain _ c :: _ => s.drainWords q c
      | .record r :: _ => (s.drainWords q (r.len + 1 - r.popped)).queueRecords q
      | _ => s

/-- Empty the queue (Table MEM-14, CLEAR; R174): packets of its records that have not begun to enter the network are pending
readouts and go with it. A table without halves reads from its first word (R190). Accepted adds of a histogram that have not
reached their bins are discarded and the bins stay (DESIGN CHOICE, log 181). -/
def State.clearQueue (s : State) (q : Nat) : State :=
  let s := s.endRecord q
  let x := s.queue q
  let y : Queue := { desc := x.desc, stDesc := x.stDesc, seq := x.seq, stopped := x.stopped, half := if dDouble (s.desc q) then x.half else 0, lutPend := x.lutPend,
                     wheel := x.wheel, ovf := x.ovf, ovfCount := x.ovfCount, accWait := x.accWait }
  ((({ s with net := s.net.filter (fun p => p.own ≠ q || p.left ≠ 0) }).setQueue q y).restartHistory q).updThrottle q

/-- Serve the write side in the order of R176. -/
def State.serveWrite (s : State) (q : Nat) : State :=
  let x := s.queue q
  let isWord (w : WEntry) : Bool := match w with
    | .word _ _ _ => true
    | .header _ _ => false
  match x.wbuf.find? isWord with
  | some (.word o v _) => (s.setQueue q { x with wbuf := x.wbuf.eraseP isWord }).queueWrite q o v.toNat
  | _ =>
    match x.wbuf with
    | .header o v :: rest => (s.setQueue q { x with wbuf := rest }).queueWrite q o v.toNat
    | _ => if x.flight.isEmpty then (if s.accDue q && s.accWrite q then s.serveAccess q else s) else s.writeBin q

/-- Serve the read side in the order of R176. A slot that readout or drain takes reads for the record that
READOUT_RECORD_SEND sends, where its words appear (log 139). -/
def State.serveRead (s : State) (q : Nat) : State :=
  if !(s.queue q).adds.isEmpty && decide ((s.queue q).flight.length < 8) then s.readBin q
  else if s.canPrefetch q then s.prefetch q
  else if s.readoutReads q then s
  else if s.accDue q && !s.accWrite q then s.serveAccess q
  else s

/-- SLOT_WHEEL (R175, R176): one memory cycle; a slot whose side has nothing pending goes to the other side. In SLEEP and
DEEP_SLEEP, and while the whole unit is held, the controllers stand still (Table CLK-5, R263, R507). -/
def State.slotWheel (s : State) (q : Nat) : State :=
  if s.clk.stopped || s.run.hold || !s.routersOn then s else
  let s := s.endRecord q
  let x := s.queue q
  let w := writeSlot (x.wheel % 16) (dSlots (s.desc q))
  let s := s.setQueue q { x with wheel := (x.wheel + 1) % 16, accWait := x.accWait - 1 }
  if (w && s.writePending q) || (!w && !s.readPending q && s.writePending q) then s.serveWrite q
  else s.serveRead q

def execSlotWheel (q : Fin 384) (s : State) : Host.Outcome State Fault Refusal := .next (s.slotWheel q.val)

/-! ## Commands of QC_CMD and QC_ACC_CTRL (Table MEM-14) -/

/-- CLEAR. -/
def execQcClear (q : Fin 384) (s : State) : Host.Outcome State Fault Refusal :=
  .next (s.powered (fun t => t.clearQueue q.val))

/-- RESUME leaves the STOP state (R193). -/
def State.resumeQueue (s : State) (q : Nat) : State := s.setQueue q { s.queue q with stopped := false }

def execQcResume (q : Fin 384) (s : State) : Host.Outcome State Fault Refusal :=
  .next (s.powered (fun t => t.resumeQueue q.val))

/-- CLR_CNT clears the counters of Table MEM-10; the scrub counters of the bay stay (DESIGN CHOICE, log 180). -/
def State.clrQueueCnt (s : State) (q : Nat) : State :=
  s.zeroRegs [QC q 0x40, QC q 0x44, QC q 0x48, QC q 0x4C, QC q 0x50, QC q 0x54, QC q 0x58, QC q 0x5C, QC q 0x60]

def execQcClrCnt (q : Fin 384) (s : State) : Host.Outcome State Fault Refusal :=
  .next (s.powered (fun t => t.clrQueueCnt q.val))

/-- LUT_SWAP: the halves swap at the next tick (R191). -/
def State.lutSwapNext (s : State) (q : Nat) : State := s.setQueue q { s.queue q with lutPend := true }

def execQcLutSwap (q : Fin 384) (s : State) : Host.Outcome State Fault Refusal :=
  .next (s.powered (fun t => t.lutSwapNext q.val))

/-- A write of QC_ACC_CTRL (R176, R200): OFFSET and WRITE take the value; with GO the access waits for the wheel, or completes
at once when it reaches no word. While one is pending a further GO is not started, and the pending one is served with the
fields as they then stand (DESIGN CHOICE log 22). -/
def State.startAccess (s : State) (q v : Nat) : State :=
  let s := (s.setFld (QC q 0x90) 0 19 (bits v 0 19)).setBit (QC q 0x90) 24 (v.testBit 24)
  if !v.testBit 28 || s.accBusy q then s
  else
    let t := s.setBit (QC q 0x90) 29 true
    if s.qMode q = 0 ∨ s.wq q ≤ bits v 0 19 then t.serveAccess q else t

def execQcAccess (q : Fin 384) (v : Word) (s : State) : Host.Outcome State Fault Refusal :=
  .next (s.powered (fun t => t.startAccess q.val (v.toNat ||| 2 ^ 28)))

/-- QC_ACCESS_DONE: the pending access is served on the wheel (R176). The command stands for the memory cycles that this takes;
64 further ones pass before the wheel serves the next by itself (DESIGN CHOICE, log 175). -/
def execQcAccessDone (q : Fin 384) (s : State) : Host.Outcome State Fault Refusal :=
  .next (s.powered (fun t => if t.accBusy q.val then t.serveAccess q.val else t))

/-! ## Scrub engines (R195 to R198) -/

/-- The scrub registers of a bay are the same through all its controllers: they are held in those of its first one. -/
def scrubReg (b off : Nat) : Nat := QC (bayQueue b 0) off

/-- Is the engine of bay `b` running (R195)? -/
def State.scrubRun (s : State) (b : Nat) : Bool := s.bit (scrubReg b 0x800) 1

/-- Visits of the running pass of the engine of bay `b`. -/
def State.scrubVisits (s : State) (b : Nat) : Nat := mget (fun _ => 0) s.scrubN b
def State.setScrubVisits (s : State) (b n : Nat) : State := { s with scrubN := mput (fun _ => 0) s.scrubN b n }

/-- Length in µs of a pass of `n` visits of 16 memory cycles: by the frequency of SPLL0 (R195, R445). -/
def State.passUs (s : State) (n : Nat) : Nat := if s.clk.fastPs.isSome then n * 16 / 1000 else n * 16 / 900

/-- Advance the engine by one word; a completed pass is counted (R195, Table MEM-15). -/
def State.scrubNext (s : State) (b : Nat) : State :=
  let p := s.reg (scrubReg b 0x804)
  let w := bits p 0 12
  let k := bits p 16 7
  let n := s.scrubVisits b + 1
  let s := s.setScrubVisits b n
  if w + 1 < 4096 then s.setReg (scrubReg b 0x804) (w + 1 + k * 2 ^ 16)
  else if k + 1 < 96 then s.setReg (scrubReg b 0x804) ((k + 1) * 2 ^ 16)
  else
    let s := (s.setReg (scrubReg b 0x804) 0).setReg (scrubReg b 0x808) (s.reg (scrubReg b 0x808) + 1)
    (s.setReg (scrubReg b 0x818) (s.passUs n % 65536)).setScrubVisits b 0

/-- SCRUB_VISIT (R195 to R197): the word is read; a single-bit error is written back where a port A cycle is free; an
uncorrectable word is reported and left. Without VMEM the engine does nothing (R12). -/
def State.scrubVisit (s : State) (b : Nat) (portFree : Bool) : State :=
  if !s.scrubRun b || !s.rails.vmem then s else
  let p := s.reg (scrubReg b 0x804)
  let k := 96 * b + bits p 16 7
  let w := bits p 0 12
  let ((v, ce, ue), s) := s.readWord k w
  let s := if ce && portFree then (s.putWord k w v).inc (scrubReg b 0x80C) else s
  let s := if ue then (s.inc (scrubReg b 0x810)).foundUE k w 2 else s
  s.scrubNext b

def execScrubVisit (b : Fin 24) (portFree : Bool) (s : State) : Host.Outcome State Fault Refusal :=
  .next (s.scrubVisit b.val portFree)

/-- A vote disagreement (R198): the write-back is suppressed and the block restarts from word 0. The copies are voted in every
memory cycle, whether or not the engine runs. -/
def State.scrubVote (s : State) (b : Nat) : State :=
  (s.inc (scrubReg b 0x814)).setReg (scrubReg b 0x804) (bits (s.reg (scrubReg b 0x804)) 16 7 * 2 ^ 16)

end Sys2Proof.Machine
end

