-- ==== Sys2Proof/Machine/Ports.lean ====
section
/-! DEFINITION. Fabric memory ports (spec/06 R164 to R168): the operations of Table MEM-3, and what a port does at a
fabric-clock edge. -/

namespace Sys2Proof.Machine

/-! ## Inputs (Table MEM-2) -/

def Port.wdata (p : Port) : Nat := bits p.inp.toNat 0 64
def Port.addr (p : Port) : Nat := bits p.inp.toNat 64 19
def Port.op (p : Port) : Nat := bits p.inp.toNat 83 4
def Port.last (p : Port) : Bool := p.inp.getLsbD 87
def Port.dest (p : Port) : Nat := bits p.inp.toNat 88 8

/-- Lane whose tee takes port `p` of region `r`, if any (R483). -/
def State.teeLane (s : State) (r p : Nat) : Option Nat :=
  ((List.range 4).map (fun i => 4 * bayOf r + i)).find? (fun n =>
    s.bit (LN n 8) 0 && s.fld (LN n 8) 1 2 = slotOf r && s.fld (LN n 8) 3 2 = p)

/-- The refusal of an operation (line ERR). -/
def refusedOp : PortRes := { err := true }

/-- Execute the operation that the port captured, when its code is `op` (R165). One captured at a tick edge stands in the sender's
order as log 56 says: a PUSH before TICK, whose frame it has still (R183), and a LOOKUP after TARGET_TICK_COMMIT (R191). -/
def State.portOp (s : State) (k op : Nat) (f : Port → State → PortRes × State) : State :=
  let p := s.port k
  if p.fresh && p.op = op then
    let (res, t) := f p s
    t.setPort k { t.port k with res, fresh := false }
  else s

/-! ## Direct blocks (R167) -/

/-- Does a lower-numbered port of the region access the same block in the same cycle (R167)? -/
def State.collides (s : State) (k : Nat) (p : Port) : Bool :=
  (List.range (k % 4)).any (fun i =>
    let o := s.port (k / 4 * 4 + i)
    o.capCyc = p.capCyc && (o.op = 1 || o.op = 2) && bits o.addr 12 7 = bits p.addr 12 7)

/-- The block that a READ or WRITE names, if the port may reach it (R167). -/
def State.directBlock (s : State) (k : Nat) (p : Port) : Option Nat :=
  let b := bits p.addr 12 7
  let blk := 96 * bayOf (k / 4) + b
  if b < 96 ∧ s.blockRegion blk = some (k / 4) then some blk else none

/-- A direct access: refused where the block is not the region's, or on a collision (R167). -/
def State.direct_ (s : State) (k : Nat) (p : Port) (f : Nat → Nat → State → PortRes × State) : PortRes × State :=
  match s.directBlock k p with
  | none => (refusedOp, s)
  | some b => if s.collides k p then (refusedOp, s.count (QC k 0x60) 0 16 1) else f b (bits p.addr 0 12) s

/-- READ (Table MEM-3). -/
def State.portRead (k : Nat) (p : Port) (s : State) : PortRes × State :=
  s.direct_ k p (fun b w s =>
    let ((v, ce, ue), s) := s.readWord b w
    ({ data := BitVec.ofNat 64 v, rvalid := true, ce, ue }, if ue then s.foundUE b w 0 else s))

/-- WRITE (Table MEM-3). -/
def State.portWrite (k : Nat) (p : Port) (s : State) : PortRes × State :=
  s.direct_ k p (fun b w s => ({}, s.putWord b w p.wdata))

/-! ## Queue operations (Table MEM-3) -/

/-- PUSH: FIFO, derandomizer or pipeline with SRC = FMP; a push refused for bandwidth, or with its record, returns ERR
(R177, R181; log 24). -/
def State.portPush (k : Nat) (p : Port) (s : State) : PortRes × State :=
  let m := s.qMode k
  if dSrc (s.desc k) ≠ 1 ∨ m = 0 ∨ 3 < m then (refusedOp, s)
  else if m = 2 then
    let (refused, s) := s.derandWord k p.wdata p.last
    (if refused then refusedOp else {}, s.queueRecords k)
  else if (s.queue k).bufFull false && !(s.queue k).stopped then (refusedOp, s.reject k)
  else ({}, if m = 1 then s.fifoWord k p.wdata false else s.pipeWord k p.wdata false)

/-- POP: from the prefetch, at capture of the data (R168, R179, R180). -/
def State.portPop (k : Nat) (_ : Port) (s : State) : PortRes × State :=
  if !s.fifoLike k || dDrain (s.desc k) then (refusedOp, s)
  else
    let ahead := match (s.port k).out.pop with
      | some (true, _) => 1
      | _ => 0
    ({ pop := some (decide (ahead < (s.queue k).pre.length) && !(s.queue k).sendsHead, 0) }, s)

/-- LOOKUP (R190). -/
def State.portLookup (k : Nat) (p : Port) (s : State) : PortRes × State :=
  if s.qMode k ≠ 5 ∨ s.entries k ≤ p.addr then (refusedOp, s)
  else
    let ((v, ce, ue), s) := s.queueRead k (p.addr + (s.queue k).half * s.entries k) 0
    ({ data := BitVec.ofNat 64 v, rvalid := true, ce, ue }, s)

/-- HIST_ADD (R188). -/
def State.portHist (k : Nat) (p : Port) (s : State) : PortRes × State :=
  let x := s.queue k
  let n := p.wdata % 2 ^ 32
  if s.qMode k ≠ 4 then (refusedOp, s)
  else if s.nBins k ≤ p.addr then (refusedOp, s.discard k)
  else if x.flight.any (fun f => f.1 = p.addr) then
    ({}, s.setQueue k { x with flight := x.flight.map (fun f =>
      if f.1 = p.addr then (f.1, min (f.2.1 + n) (s.binMax k), f.2.2) else f) })
  else if 16 ≤ x.adds.length then (refusedOp, s.discard k)
  else ({}, s.setQueue k { x with adds := x.adds ++ [(p.addr, n)] })

/-- The index entry of frame `f` is read: a single-bit error is rewritten, an uncorrectable entry is reported (Table
FLT-3). -/
def State.readIndex (s : State) (q f : Nat) : State :=
  let x := s.queue q
  let i := f % 16384
  match mget (fun _ => 0) x.idxErr i with
  | 0 => s
  | 1 => s.setQueue q { x with idxErr := mput (fun _ => 0) x.idxErr i 0 }
  | _ => s.latch 0x0A 0xFFFF (0xFFFF + i * 2 ^ 16 + 1 * 2 ^ 32)

/-- READOUT (R185, R187, R189): retention is settled at acceptance (log 25). -/
def State.portReadout (k : Nat) (p : Port) (s : State) : PortRes × State :=
  let s := s.endRecord k
  let x := s.queue k
  let lane := bits p.wdata 48 2
  let f := p.wdata % 2 ^ 48
  if 16 ≤ x.ro.length then (refusedOp, s)
  else match s.qMode k with
    | 3 =>
      if !laterFrame x.curt f then (refusedOp, s)
      else
        let kept := s.retained k f
        let e := if kept then
            RoEntry.frame f (mget (fun _ => 0) x.idx (f % 16384)) (s.frameLen k f) (x.overfull.contains f) false p.dest lane
          else .frame f 0 0 false true p.dest lane
        let s := s.readIndex k f
        ({}, s.setQueue k { s.queue k with ro := x.ro ++ [e] })
    | 4 =>
      let b := bits p.addr 12 7
      if dBlks (s.desc k) ≤ b then (refusedOp, s)
      else ({}, s.setQueue k { x with ro := x.ro ++ [.bins b (p.wdata.testBit 63) s.frameNo p.dest lane] })
    | _ => (refusedOp, s)

def execFmpNop (r : Fin 96) (p : Fin 4) (s : State) : Host.Outcome State Fault Refusal :=
  .next (s.portOp (4 * r.val + p.val) 0 (fun _ t => ({}, t)))
def execFmpRead (r : Fin 96) (p : Fin 4) (s : State) : Host.Outcome State Fault Refusal :=
  .next (s.portOp (4 * r.val + p.val) 1 (State.portRead (4 * r.val + p.val)))
def execFmpWrite (r : Fin 96) (p : Fin 4) (s : State) : Host.Outcome State Fault Refusal :=
  .next (s.portOp (4 * r.val + p.val) 2 (State.portWrite (4 * r.val + p.val)))
def execPush (r : Fin 96) (p : Fin 4) (s : State) : Host.Outcome State Fault Refusal :=
  .next (s.portOp (4 * r.val + p.val) 3 (State.portPush (4 * r.val + p.val)))
def execPop (r : Fin 96) (p : Fin 4) (s : State) : Host.Outcome State Fault Refusal :=
  .next (s.portOp (4 * r.val + p.val) 4 (State.portPop (4 * r.val + p.val)))
def execLookup (r : Fin 96) (p : Fin 4) (s : State) : Host.Outcome State Fault Refusal :=
  .next (s.portOp (4 * r.val + p.val) 5 (State.portLookup (4 * r.val + p.val)))
def execHistAdd (r : Fin 96) (p : Fin 4) (s : State) : Host.Outcome State Fault Refusal :=
  .next (s.portOp (4 * r.val + p.val) 6 (State.portHist (4 * r.val + p.val)))
def execReadout (r : Fin 96) (p : Fin 4) (s : State) : Host.Outcome State Fault Refusal :=
  .next (s.portOp (4 * r.val + p.val) 7 (State.portReadout (4 * r.val + p.val)))

/-! ## The edge (R112, R144, R166, R168) -/

/-- Remove the head word that a POP took (R179, R182). Where DRAIN_EN came on while the POP was under way, its word may belong to a
record that the drain has queued, which then removes one word fewer (DEDUCED log 138). -/
def State.removeHead (s : State) (k : Nat) : State :=
  let x := s.queue k
  let closed := match x.closed with
    | c :: rest => if s.qMode k = 2 && !x.sendsHead then (if c.popped + 1 = c.len + 1 then rest else { c with popped := c.popped + 1 } :: rest) else x.closed
    | [] => []
  ((s.setQueue k { x with pre := x.pre.drop 1, rd := (x.rd + 1) % s.wq k, occ := x.occ - 1, closed, ro := x.headTaken }).updThrottle k).closeIfLow k

/-- The data of a POP falls on this edge: it is captured, or the POP removes nothing and is missed (R168, R179). A head that an
OVERWRITE has discarded since it was presented is no longer there to remove: the POP is missed (DESIGN CHOICE, log 178). -/
def State.commitPop (s : State) (k : Nat) (captured : Bool) : State :=
  match (s.port k).out.pop with
  | none => s
  | some (found, off) =>
    if found && captured && (((s.queue k).pre.head?.map (·.off)) = some off) then s.removeHead k
    else s.count (QC k 0x60) 16 16 1

/-- Present the result of a POP: the head as it stands after every earlier POP (R168). -/
def State.presentPop (s : State) (k : Nat) (x : PortRes) (kept : Bool) : PortRes :=
  match x.pop with
  | none => x
  | some (found, _) =>
    match (s.queue k).pre with
    | h :: _ =>
      if (found || kept) && !(s.queue k).sendsHead then
        let c := (s.queue k).closed.head?
        let hd := s.qMode k = 2 && (match c with
          | some c => c.popped = 0
          | none => false)
        let la := s.qMode k = 2 && (match c with
          | some c => c.popped = c.len
          | none => false)
        { x with data := h.data, rvalid := true, ce := h.ce, ue := h.ue, hdr := hd, last := la, pop := some (true, h.off) }
      else { x with pop := some (false, 0) }
    | [] => { x with pop := some (false, 0) }

/-- Present a teed lane word, at most one per fabric cycle (R483, R484, Table IOL-5). -/
def State.presentTee (s : State) (k n : Nat) : State :=
  let l := s.laneOf n
  let al := (s.bit (LN n 0x10) 2).toNat * 4
  match (if (s.region (k / 4)).held then [] else l.tee) with
    | (w, c, g) :: rest =>
      (s.setLane n { l with tee := rest }).setPort k { s.port k with
        out := { data := w }, lines := BitVec.ofNat 16 (1 + c.toNat * 2 + al + g.toNat * 8), fresh := false }
    | [] => s.setPort k { s.port k with out := { (s.port k).out with rvalid := false }, lines := BitVec.ofNat 16 al, fresh := false }

/-- A port at a fabric-clock edge; `s` is the state before the edge, `t` what the edge has made so far. -/
def State.portEdge (s : State) (k : Nat) (t : State) : State :=
  let r := k / 4
  match s.teeLane r (k % 4) with
  | some n => t.presentTee k n
  | none =>
    let held := (s.region r).held || s.clk.stopped
    let took := !held && !(s.region r).swapCycle
    let kept := match (t.port k).out.pop with
      | some (f, _) => f && !took
      | none => false
    let t := t.commitPop k took
    let p := t.port k
    let res := t.presentPop k p.res kept
    let ln := BitVec.ofNat 16 (opLines res + t.queueLines k)
    let t := t.setPort k { p with out := res, lines := ln, res := {}, fresh := false }
    if held || !s.run.writes || !s.loaded r (s.active r) then t
    else
      let inp := ofBits 96 (fun i =>
        let code := s.mpSel (s.active r) r (k % 4) i
        0x200 ≤ code && s.val (.out r (code - 0x200)))
      let q : Port := { t.port k with inp := BitVec.ofNat 96 inp, capCyc := s.tick.cyc }
      if 8 ≤ q.op then t.setPort k { q with res := refusedOp } else t.setPort k { q with fresh := true }

end Sys2Proof.Machine
end

