-- ==== Sys2Proof/Machine/Mesh.lean ====
section
/-! DEFINITION. The packet network as network cycles pass (spec/07 R201 to R216, R226, R229): headers, nodes, routes, region
rings, buffers and credits, the grant of heads and the arbitration of flits. -/

namespace Sys2Proof.Machine

/-! ## Header flit (Table NOC-3) -/

def Packet.h (p : Packet) (lo w : Nat) : Nat := bits p.hdr.toNat lo w
def Packet.dst (p : Packet) : Nat := p.h 0 8
def Packet.src (p : Packet) : Nat := p.h 8 8
def Packet.vc (p : Packet) : Nat := p.h 16 2
def Packet.typ (p : Packet) : Nat := p.h 18 4
def Packet.len (p : Packet) : Nat := p.h 22 5
/-- POISON (R207). -/
def Packet.poison (p : Packet) : Bool := p.h 27 1 = 1
def Packet.tag (p : Packet) : Nat := p.h 32 8
def Packet.status (p : Packet) : Nat := p.h 40 8
def Packet.wide (p : Packet) : Bool := p.h 48 1 = 1
def Packet.addr (p : Packet) : Nat := p.h 64 32
def Packet.payload (p : Packet) : Nat := p.h 96 64

/-- A header flit. -/
def mkHdr (dst src vc typ len tag status addr data aux0 aux1 : Nat) : BitVec 256 :=
  BitVec.ofNat 256 (dst % 256 + src % 256 * 2 ^ 8 + vc % 4 * 2 ^ 16 + typ % 16 * 2 ^ 18 + len % 32 * 2 ^ 22 + tag % 256 * 2 ^ 32
    + status % 256 * 2 ^ 40 + addr % 2 ^ 32 * 2 ^ 64 + data % 2 ^ 64 * 2 ^ 96 + aux0 % 2 ^ 32 * 2 ^ 160 + aux1 % 2 ^ 64 * 2 ^ 192)

/-! ## Nodes (Tables ARC-2, ARC-3, NOC-2) -/

/-- What stands behind a node ID. -/
inductive NodeKind where
  | region (r : Nat)
  | quad (q : Nat)
  | cluster (c : Nat)
  | headland
  | clocks
  | probe
  | zv (p : Nat)
  | nothing
  deriving DecidableEq, Repr

/-- Endpoint of node `n` (R20 to R23). -/
def nodeKind (n : Nat) : NodeKind :=
  if 6 ≤ n / 4 % 8 then .nothing
  else if n % 4 = 0 then .region (nodeRouter n)
  else if n % 4 = 1 then .region (nodeRouter n + 48)
  else if n = 0x03 then .headland
  else if n = 0x43 then .clocks
  else if n = 0x63 then .probe
  else match (List.range 4).find? (fun p => zvNode p = n) with
    | some p => .zv p
    | none =>
      match (List.range 24).find? (fun q => quadNode q = n) with
      | some q => .quad q
      | none =>
        match (List.range 32).find? (fun c => clusterNode c = n) with
        | some c => .cluster c
        | none => .nothing

/-- Outstanding requests a requester may have (Table NOC-6). -/
def maxRequests (n : Nat) : Nat :=
  match nodeKind n with
  | .headland => 32
  | .region _ => 4
  | .zv _ => 4
  | .probe => 8
  | _ => 0

/-- Node of a router's own replies. -/
def routerNode (x : Nat) : Nat := nodeId (x % 8) (x / 8) 0

/-! ## Routes (R201, R211) -/

/-- Routers on the route from router `a` to router `b`, x first, with the mesh output port of each. -/
def routeFrom : Nat → Nat → Nat → List (Nat × Nat)
  | 0, _, _ => []
  | n + 1, a, b =>
    if a % 8 < b % 8 then (a, 1) :: routeFrom n (a + 1) b
    else if b % 8 < a % 8 then (a, 3) :: routeFrom n (a - 1) b
    else if a / 8 < b / 8 then (a, 2) :: routeFrom n (a + 8) b
    else if b / 8 < a / 8 then (a, 0) :: routeFrom n (a - 8) b
    else []

/-- The route from node `src` to node `dst`: routers and output ports, the local port of the last one included. A node in
row 6 or 7 has no router: its route ends at the unconnected south port of row 5. -/
def route (src dst : Nat) : List (Nat × Nat) :=
  (routeFrom 15 (nodeRouter src) (nodeRouter dst) ++ [(nodeRouter dst, 4 + dst % 4)]).filter (fun h => decide (h.1 < 48))

/-- A request for the router's own registers is consumed by it and leaves through no port (R202). -/
def ownRegisters (p : Packet) : Bool :=
  (p.typ = 0 || p.typ = 1) && p.dst % 4 = 0 && (match blockOf p.addr with
    | .router n _ => n = nodeRouter p.dst
    | _ => false)

/-- Input port of the next router on a route after output `o` (R201). -/
def inputAfter (o : Nat) : Nat := (o + 2) % 4

/-- Hops of a packet: a local port first, then the port opposite to the output before. -/
def hopsFrom (own : Bool) : Nat → List (Nat × Nat) → List Hop
  | _, [] => []
  | i, [(x, o)] => [{ router := x, inp := i, out := if own then 8 else o }]
  | i, (x, o) :: rest => { router := x, inp := i, out := o } :: hopsFrom own (inputAfter o) rest

/-- A packet as it stands before its injection link. -/
def Packet.routed (p : Packet) : Packet :=
  { p with left := 0, here := 0, doneAt := 0, hops := hopsFrom (ownRegisters p) (4 + p.src % 4) (route p.src p.dst) }

/-- Put a packet into the network. -/
def State.send (s : State) (p : Packet) : State := { s with net := s.net ++ [p.routed] }

/-- Response to a CSR request from node `who` (R217, R218). -/
def State.respond (s : State) (who : Nat) (p : Packet) (status data : Nat) : State :=
  s.send { hdr := mkHdr p.src who 1 (p.typ + 2) 0 p.tag status p.addr (if status = 0 && p.typ = 0 then data else 0) 0 0 + BitVec.ofNat 256 (if p.wide then 2 ^ 48 else 0), data := [], req := p.req }

/-! ## Region rings (R220, R221, Table NOC-12) -/

/-- NR_EPk_RX and NR_EPk_TX of region `r`. -/
def State.rxRing (s : State) (r : Nat) : Nat := s.reg (NR (r % 48) (if r < 48 then 0x20 else 0x28))
def State.txRing (s : State) (r : Nat) : Nat := s.reg (NR (r % 48) (if r < 48 then 0x24 else 0x2C))
def ringBlk (d : Nat) : Nat := bits d 0 7
def ringEn (d : Nat) : Bool := d.testBit 7
def ringSize (d : Nat) : Nat := 2 ^ (bits d 8 4 + 6) - 16
def ringFullDrop (d : Nat) : Bool := d.testBit 12

/-- Does the endpoint of region `r` stand as held: the region held, or the unit asleep (R224, Table CLK-6)? -/
def State.epHeld (s : State) (r : Nat) : Bool := (s.region r).held || s.clk.stopped || s.run.hold

/-- Block of the ring of descriptor `d` of region `r`. -/
def ringBlock (r d : Nat) : Nat := 96 * bayOf r + ringBlk d

/-- The endpoint reads word `w` of a ring block as the memory window does (Table MEM-1, R162, R197). -/
def State.ringRead (s : State) (r d w : Nat) : Nat × State :=
  let ((v, _, ue), s) := s.readWord (ringBlock r d) w
  (v, if ue then s.foundUE (ringBlock r d) w 3 else s)

/-- What that read gives. -/
def State.ringWord (s : State) (r d w : Nat) : Nat := (s.ringRead r d w).1
def State.putRing (s : State) (r d w v : Nat) : State := s.putWord (ringBlock r d) w v

/-- Words of an entry: the header flit, then the data words (R220). -/
def entryWords (p : Packet) : List Nat :=
  (List.range 4).map (fun i => p.h (64 * i) 64) ++ p.data.map (·.toNat)

/-- Free words of an RX ring; a ring whose offsets agree is empty, so one word stays free (R220, log 26). -/
def State.ringFree (s : State) (r d : Nat) : Nat :=
  let n := ringSize d
  n - 1 - (s.ringWord r d 0 % n + n - s.ringWord r d 1 % n) % n

/-- Must the packet wait for space: a bulk packet, FULL_DROP = 0 and too few free words (R221)? -/
def State.rxWaits (s : State) (r : Nat) (p : Packet) : Bool :=
  let d := s.rxRing r
  p.typ = 4 && !s.epHeld r && ringEn d && !ringFullDrop d && !p.poison && decide (s.ringFree r d < (entryWords p).length)

/-! ## Routers (R208, R226, Table NOC-10) -/

/-- Is the active enable of a port 1 (NR_PORT_EN)? -/
def State.portEn (s : State) (x p : Nat) : Bool := s.bit (NR x 0xC) (8 + p)

/-- Is slack water on in router `n`? -/
def State.slackActive (s : State) (n : Nat) : Bool := s.bit (NR n 0x10) 1

/-- BULK_W and AGE_LIM in force. -/
def State.bulkW (s : State) (x : Nat) : Nat := s.fld (NR x 8) 0 4
def State.ageLim (s : State) (x : Nat) : Nat := s.fld (NR x 8) 4 8

/-- Is a mesh port unconnected (R201)? -/
def unconnected (x o : Nat) : Bool :=
  match o with
  | 0 => x / 8 = 0
  | 1 => x % 8 = 7
  | 2 => x / 8 = 5
  | 3 => x % 8 = 0
  | _ => false

/-- Does the hop of packet `p` lead nowhere: a disabled or unconnected port, or a local port without an endpoint (R23,
R227)? -/
def State.dead (s : State) (p : Packet) (h : Hop) : Bool :=
  h.out < 8 && (!s.portEn h.router h.out || unconnected h.router h.out || (4 ≤ h.out && nodeKind p.dst = .nothing))

/-- Router on the route of a packet that would discard it (R23, R227). -/
def State.stopsAt (s : State) (p : Packet) : Option Nat := (p.routed.hops.find? (s.dead p)).map (·.router)

/-- Does packet `p` meet a router in slack water on these hops (R226)? It goes no further than a router that discards it. -/
def State.slackOn (s : State) (p : Packet) : List Hop → Bool
  | [] => false
  | h :: rest => s.slackActive h.router || (!s.dead p h && s.slackOn p rest)

/-- Does packet `p` meet a router in slack water on its way? -/
def State.slackOnRoute (s : State) (p : Packet) : Bool := s.slackOn p p.routed.hops

/-! ## Network time (R445) -/

/-- Network cycles that have begun by the time `t`, in ps: at 900 MHz until SPLL0 runs at 1.000 GHz. -/
def State.netTicksAt (s : State) (t : Nat) : Nat :=
  match s.clk.fastPs with
  | some f => (min f t * 9 + (t - f) * 10) / 10000
  | none => t * 9 / 10000

/-- The network clock's own count. -/
def State.netTicks (s : State) : Nat := s.netTicksAt s.timePs

/-! ## A packet at a router -/

/-- A packet at a router: its place in the network's list and its hop. -/
structure Cand where
  k : Nat
  i : Nat
  p : Packet
  h : Hop

/-- Every packet at every router where it has a flit in the buffer. -/
def State.cands (s : State) : List Cand :=
  s.net.zipIdx.flatMap (fun (p, k) => (p.hops.zipIdx.filter (fun x => !x.1.buf.isEmpty)).map (fun (h, i) => ⟨k, i, p, h⟩))

/-- Three network cycles after it came a flit may leave (R212). -/
def Cand.ready (c : Cand) (now : Nat) : Bool := decide (c.h.buf.headD 0 + 3 ≤ now)

/-- Does the packet stand at the front of its input buffer? -/
def Cand.front (c : Cand) (l : List Cand) : Bool :=
  l.all (fun d => d.h.router ≠ c.h.router || d.h.inp ≠ c.h.inp || d.p.vc ≠ c.p.vc || decide (c.h.buf.headD 0 ≤ d.h.buf.headD 0))

/-- Flits in an input buffer (R208). -/
def State.bufUse (s : State) (x inp vc : Nat) : Nat :=
  (s.cands.map (fun c => if c.h.router = x ∧ c.h.inp = inp ∧ c.p.vc = vc then c.h.buf.length else 0)).sum

/-- Picoseconds that lane `n` takes for a word by its settings (R477, Table IOL-4): 80 UI in 8b/10b, 66 in 64b/66b, 64 raw. -/
def State.laneWordPs (s : State) (n : Nat) : Nat :=
  let q := 4 * (n / 4)
  let ui := match s.fld (LN n 0) 5 2 with
    | 1 => 80
    | 2 => 66
    | _ => 64
  let den := crystalHz (s.reg (CK 8)) (s.quadRef (n / 4) - 2) * (s.fld (LN q 0x800) 2 11 * 2 ^ 24 + s.fld (LN q 0x804) 0 24)
  if den = 0 then 0 else (ui * 2 ^ s.fld (LN n 0) 2 3 * 2 ^ 24 * 10 ^ 12 + den - 1) / den

/-- Words that stand in the quad endpoint for lane `n`: of packets that have reached it, and those still being sent (R485). -/
def State.laneHolds (s : State) (n : Nat) : Nat :=
  let here := s.net.filter (fun p => p.dst = quadNode (n / 4) && p.vc = 2 && p.here ≠ 0 && p.h 160 2 = n % 4)
  let word := s.laneWordPs n
  (here.map (fun p => p.data.length)).sum
    + (if word = 0 then 0 else ((s.laneOf n).busyPs - s.timePs + word - 1) / word)

/-- Does the endpoint that packet `p` has reached take its flits: responses and trace are always sunk (R209, R210), a region
holds a bulk packet that does not fit (R221), a quad takes one only while a whole packet of 16 words fits into the 64 of its
lane (R485), and flits of a packet behind another one fill 8 credits? -/
def State.endpointTakes (s : State) (p : Packet) : Bool :=
  let others := s.net.filter (fun q => q.dst = p.dst && q.vc = p.vc && q.here ≠ 0)
  let blocked := match nodeKind p.dst with
    | .region r => p.vc = 2 && s.rxWaits r p
    | _ => false
  match nodeKind p.dst with
  | .quad q =>
    if p.vc = 2 then p.here ≠ 0 || decide (s.laneHolds (4 * q + p.h 160 2) + 16 ≤ 64)
    else p.vc = 1 || p.vc = 3 || decide ((others.map (·.here)).sum < 8) || (!blocked && decide (others.length ≤ 1 ∧ p.here ≠ 0))
  | _ => p.vc = 1 || p.vc = 3 || decide ((others.map (·.here)).sum < 8) || (!blocked && decide (others.length ≤ 1 ∧ p.here ≠ 0))

/-- Does the output hold a credit for the next flit (R208)? -/
def State.credit (s : State) (c : Cand) : Bool :=
  match c.p.hops[c.i + 1]? with
  | some n => decide (s.bufUse n.router n.inp c.p.vc < 8)
  | none => s.endpointTakes c.p

/-- Change hop `i` of packet `k`. -/
def State.setHop (s : State) (k i : Nat) (f : Hop → Hop) : State :=
  { s with net := modifyAt (fun p => { p with hops := modifyAt f p.hops i }) s.net k }

/-! ## Round robin (R213, R214) -/

/-- Key of a round robin: router, output and rank; ranks 0 to 3 heads of a VC, 4 aged flits, 5 to 8 flits of a VC. -/
def rrKey (x o rank : Nat) : Nat := (x * 16 + o) * 16 + rank

/-- Input served last. -/
def Noc.last (n : Noc) (key : Nat) : Nat := mget (fun _ => 31) n.served key

/-- The first of a list after `last` in cyclic order of the numbers below 32 that `f` gives. -/
def nextAfter {α : Type} (last : Nat) (f : α → Nat) (l : List α) : Option α :=
  l.foldl (fun b x => match b with
    | none => some x
    | some y => if (f x + 31 - last) % 32 < (f y + 31 - last) % 32 then some x else some y) none

/-- Number of an input and VC in a round robin. -/
def Cand.no (c : Cand) : Nat := 4 * (c.h.inp % 8) + c.p.vc

def State.setServed (s : State) (key v : Nat) : State := { s with noc := { s.noc with served := mput (fun _ => 31) s.noc.served key v } }

/-! ## Grant of heads (R213, R226) -/

/-- Does some packet hold output VC (`x`, `o`, `vc`)? -/
def State.held (s : State) (x o vc : Nat) : Bool :=
  s.net.any (fun p => p.vc = vc && p.hops.any (fun h => h.router = x && h.out = o && h.holds))

/-- A header that waits for its output. -/
def State.wantsHead (s : State) (l : List Cand) (c : Cand) : Bool :=
  !c.h.holds && c.h.sent = 0 && c.ready s.noc.cyc && c.front l && !s.slackActive c.h.router

/-- Discard a packet in router `x`; a CSR request is answered BAD_ARG (R23). Its other flits are gone with it (log 125). -/
def State.dropAt (s : State) (c : Cand) : State :=
  let t := { s with net := s.net.eraseIdx c.k }
  let t := t.inc (NR c.h.router 0x44)
  if c.p.typ ≤ 1 then t.respond (routerNode c.h.router) c.p 4 0 else t

/-- Headers whose output leads nowhere are discarded, the last of the list first. -/
def State.dropDead (s : State) : State :=
  let l := s.cands
  (l.filter (fun c => s.wantsHead l c && s.dead c.p c.h)).reverse.foldl State.dropAt s

/-- Grant one output VC. -/
def State.grantHead (s : State) (l : List Cand) (c : Cand) : State :=
  let x := c.h.router
  let o := c.h.out
  let key := rrKey x o c.p.vc
  if s.held x o c.p.vc then s
  else match nextAfter (s.noc.last key) Cand.no (l.filter (fun d => d.h.router = x && d.h.out = o && d.p.vc = c.p.vc)) with
    | none => s
    | some d => (s.setHop d.k d.i (fun h => { h with holds := true })).setServed key d.no

/-- Heads are granted, each output VC in round-robin order of its inputs. -/
def State.grantHeads (s : State) : State :=
  let l := s.cands
  let w := l.filter (fun c => s.wantsHead l c)
  w.foldl (fun t c => t.grantHead w c) s

/-! ## Arbitration of flits (R214, R229) -/

/-- The flit that output `o` of router `x` sends, its rank, and what BULK_W counts after it; `l` are the candidates. -/
def State.choose (s : State) (x o : Nat) (l : List Cand) : Option (Cand × Nat × Nat) :=
  let n := mget (fun _ => 0) s.noc.bulk (16 * x + o)
  let pick (rank : Nat) (f : Cand → Bool) : Option Cand := nextAfter (s.noc.last (rrKey x o rank)) Cand.no (l.filter f)
  let vc (v : Nat) : Option Cand := pick (5 + v) (fun c => c.p.vc = v)
  match pick 4 (fun c => decide (s.ageLim x ≤ c.h.waits)) with
  | some c => some (c, 4, n)
  | none => match vc 1, vc 0, vc 2, vc 3 with
    | some c, _, _, _ => some (c, 6, n)
    | none, some a, some b, _ => if n < s.bulkW x then some (b, 7, n + 1) else some (a, 5, 0)
    | none, some a, none, _ => some (a, 5, 0)
    | none, none, some b, _ => some (b, 7, n)
    | none, none, none, some c => some (c, 8, n)
    | none, none, none, none => none

/-- A flit leaves its router: it is counted, enters the next buffer, or stands at the endpoint; with the last flit the
packet lets its output VC go. -/
def State.moveFlit (s : State) (c : Cand) : State :=
  let now := s.noc.cyc + 1
  let s := s.setHop c.k c.i (fun h => { h with
    buf := h.buf.drop 1, sent := h.sent + 1, holds := decide (h.sent + 1 < c.p.flits), waits := 0 })
  let s := if c.h.out = 8 then s else s.count (NR c.h.router (0x100 + 16 * c.h.out + 4 * c.p.vc)) 0 32 1
  match c.p.hops[c.i + 1]? with
  | some _ => s.setHop c.k (c.i + 1) (fun h => { h with buf := h.buf ++ [now] })
  | none => { s with net := modifyAt (fun p => { p with here := p.here + 1, doneAt := now }) s.net c.k }

/-- Output `o` of router `x` in a network cycle: at most one flit leaves; a cycle in which a ready flit finds no credit is
counted. -/
def State.sendFrom (s : State) (x o : Nat) (ready : List (Cand × Bool)) : State :=
  let l := ready.filter (fun c => c.1.h.router = x && c.1.h.out = o)
  let s := if o < 8 && l.any (fun c => !c.2) then s.count (NR x (0x180 + 4 * o)) 0 32 1 else s
  match s.choose x o ((l.filter (·.2)).map (·.1)) with
  | none => s
  | some (c, rank, n) =>
    let s := s.setServed (rrKey x o rank) c.no
    let s := { s with noc := { s.noc with bulk := mput (fun _ => 0) s.noc.bulk (16 * x + o) n } }
    s.moveFlit c

/-- A ready flit waits one network cycle more; the one in which it becomes aged is counted (R214, R229, log 135). -/
def State.ageFlit (s : State) (c : Cand) : State :=
  let s := s.setHop c.k c.i (fun h => { h with waits := h.waits + 1 })
  if c.h.waits + 1 = s.ageLim c.h.router then s.count (NR c.h.router 0x5C) 0 32 1 else s

/-- Every output sends. The credits are those of the cycle's start. -/
def State.sendFlits (s : State) : State :=
  let l := s.cands.filter (fun c => c.h.holds && c.ready s.noc.cyc)
  let ready := l.map (fun c => (c, s.credit c))
  let outs := (l.map (fun c => (c.h.router, c.h.out))).eraseDups
  outs.foldl (fun t x => t.sendFrom x.1 x.2 ready) (l.foldl State.ageFlit s)

/-! ## Injection (R178, R206, R212) -/

/-- Packets of node `n` on VC `v` that have not entered the network whole, with their places. -/
def State.waiting (s : State) (n v : Nat) : List (Packet × Nat) :=
  s.net.zipIdx.filter (fun x => x.1.src = n && x.1.vc = v && decide (x.1.left < x.1.flits))

/-- The packet of node `n` on VC `v` whose flit goes next: one that has begun, else the oldest; records of a cluster port
one packet per turn of its controllers (R178). -/
def State.nextOn (s : State) (n v : Nat) : Option (Packet × Nat) :=
  let l := s.waiting n v
  match l.find? (fun x => decide (x.1.left ≠ 0)) with
  | some x => some x
  | none =>
    match nodeKind n, l.any (fun x => decide (x.1.own < 384)) with
    | .cluster c, true => nextAfter (mget (fun _ => 11) s.noc.turn c) (fun x => x.1.own % 12) l
    | _, _ => l.head?

/-- One flit enters the injection link of node `n`: of the packets whose VC holds a credit the oldest goes (log 136). -/
def State.injectFrom (s : State) (n : Nat) : State :=
  let l := ((List.range 4).filterMap (s.nextOn n)).filter (fun x =>
    match x.1.hops.head? with
    | some h => decide (s.bufUse h.router h.inp x.1.vc < 8)
    | none => false)
  match l.foldl (fun b x => match b with
    | none => some x
    | some y => if x.2 < y.2 then some x else some y) (none : Option (Packet × Nat)) with
  | none => s
  | some (p, k) =>
    let s := { s with net := modifyAt (fun p => { p with left := p.left + 1 }) s.net k }
    let s := s.setHop k 0 (fun h => { h with buf := h.buf ++ [s.noc.cyc + 1] })
    match nodeKind n with
    | .cluster c => if p.own < 384 then { s with noc := { s.noc with turn := mput (fun _ => 11) s.noc.turn c (p.own % 12) } } else s
    | _ => s

def State.injectFlits (s : State) : State :=
  (((s.net.filter (fun p => decide (p.left < p.flits))).map Packet.src).eraseDups).foldl State.injectFrom s

/-! ## Network cycles -/

/-- One network cycle. -/
def State.netCycle (s : State) : State :=
  let s := s.dropDead.grantHeads.sendFlits.injectFlits
  { s with noc := { s.noc with cyc := s.noc.cyc + 1 } }

/-- Network cycles pass until `stop` holds, at most `n`. They pass within network commands only (log 137). -/
def State.runNet (stop : State → Bool) : Nat → State → State
  | 0, s => s
  | n + 1, s => if !s.routersOn || stop s then s else State.runNet stop n s.netCycle

/-- Network cycles in which everything that can move has moved. -/
def State.netTime (s : State) : Nat := 64 + 16 * (s.net.map Packet.flits).sum

/-! ## Arrival -/

/-- Is the packet on the path from `src` to `dst` on VC `v`? -/
def Packet.onPath (p : Packet) (src dst v : Nat) : Bool := p.src = src && p.dst = dst && p.vc = v

/-- Has every flit of the packet come to its endpoint? -/
def Packet.whole (p : Packet) : Bool := decide (p.flits ≤ p.here)

/-- Has a packet of that path arrived, or gone? `n` were on the path. -/
def State.landed (n src dst v : Nat) (s : State) : Bool :=
  let l := s.net.filter (fun p => p.onPath src dst v)
  l.isEmpty || l.any Packet.whole || decide (l.length < n)

/-- Does packet `p` stand whole at its endpoint, with none on its VC that came before it? The order is that of arrival: a
cluster port takes its controllers in turn (R178, R208, R211). -/
def State.foremost (s : State) (p : Packet) : Bool :=
  p.whole && s.net.all (fun q => q.dst ≠ p.dst || q.vc ≠ p.vc || !q.whole || decide (p.doneAt ≤ q.doneAt))

/-- The packet of a path that its endpoint takes next. -/
def State.arrived (s : State) (src dst v : Nat) : Option Packet := s.net.find? (fun p => p.onPath src dst v && s.foremost p)

/-- Network cycles pass until a packet of the path has arrived, if one can. -/
def State.carry (s : State) (src dst v : Nat) : State :=
  State.runNet (State.landed (s.net.filter (fun p => p.onPath src dst v)).length src dst v) s.netTime s

/-- Take the packet that has arrived on a path out of the network. -/
def State.takePacket (s : State) (src dst v : Nat) : State :=
  { s with net := s.net.eraseP (fun p => p.onPath src dst v && s.foremost p) }

/-- The network carries the next packet of the path, and its endpoint treats it by `f`. A packet that a router has
discarded, or that is held back, has no effect at the endpoint. -/
def State.deliver (s : State) (src dst v : Nat) (f : Packet → State → State) : State :=
  let t := s.carry src dst v
  match t.arrived src dst v with
  | some p => f p (t.takePacket src dst v)
  | none => t

/-- A packet that an endpoint without a register for it discards is counted there (R207, R209). -/
def State.countSunk (s : State) (n : Nat) : State :=
  { s with noc := { s.noc with sunk := mput (fun _ => 0) s.noc.sunk n (satAdd 32 (mget (fun _ => 0) s.noc.sunk n) 1) } }

end Sys2Proof.Machine
end

