-- ==== Sys2Proof/Machine/Network.lean ====
section
/-! DEFINITION. What packets do at the ends of the network (spec/07): injection, requests and responses, region endpoints,
slack water, filters; and the readout records of spec/06 R187. -/

namespace Sys2Proof.Machine

/-! ## Injection (R206, R216) -/

/-- The header check of the injecting router (R206); a packet is its header and LEN data flits of four words (R203). -/
def headerOk (p : Packet) : Bool :=
  p.typ ≤ 5 && p.vc = [0, 0, 1, 1, 2, 3].getD p.typ 9 && (if p.typ = 4 then p.len ≤ 16 else p.len = 0)
    && p.data.length = 4 * p.len && p.h 28 4 = 0 && p.h 49 15 = 0
    && (!p.wide || (match blockOf p.addr with
      | .mem _ => true
      | _ => false))

/-- Is a request of node `n` with tag `tag` outstanding? -/
def State.tagBusy (s : State) (n tag : Nat) : Bool := s.reqs.any (fun x => x.node = n && x.tag = tag)

/-- Number of the next outstanding request. -/
def State.nextReq (s : State) : Nat := s.noc.reqN + 1

/-- A CSR request of node `n` takes its tag (R216). -/
def State.takeTag (s : State) (n tag : Nat) : State :=
  { s with reqs := s.reqs ++ [⟨n, tag, s.nextReq⟩], noc := { s.noc with reqN := s.nextReq } }

/-- A CSR request whose header is bad is answered BAD_ARG (R206); it is outstanding until then where its tag allows it, and ends
no other request of that tag (R216, R219). -/
def State.badRequest (s : State) (n : Nat) (p : Packet) : State :=
  if maxRequests n ≤ p.tag ∨ s.tagBusy n p.tag then
    ({ s with noc := { s.noc with reqN := s.nextReq } }).respond (routerNode (nodeRouter n)) { p with req := s.nextReq } 4 0
  else (s.takeTag n p.tag).respond (routerNode (nodeRouter n)) { p with req := s.nextReq } 4 0

/-- A packet enters at node `n` (R206): SRC is stamped and the header checked; a CSR request takes a tag (R216). Routers
without power take none (R12, R13). -/
def State.inject (s : State) (n : Nat) (hdr : BitVec 256) (data : List DWord) : State :=
  let p : Packet := { hdr := BitVec.ofNat 256 (setBits hdr.toNat 8 8 n), data }
  let req := p.typ = 0 || p.typ = 1
  if nodeKind n = .nothing ∨ !s.routersOn then s
  else if !headerOk p then
    let s := s.inc (NR (nodeRouter n) 0x40)
    if req then s.badRequest n p else s
  else if !req then s.send p
  else if maxRequests n = 0 then s.inc (NR (nodeRouter n) 0x40)
  else if maxRequests n ≤ p.tag ∨ s.tagBusy n p.tag then s
  else (s.takeTag n p.tag).send { p with req := s.nextReq }

def execPacketInject (node : BitVec 8) (hdr : BitVec 256) (data : List DWord) (s : State) : Host.Outcome State Fault Refusal :=
  .next (s.inject node.toNat hdr data)

/-! ## Region endpoints (R220 to R224) -/

/-- Count a packet that an endpoint discards (NR_EP_DISC). -/
def State.epDisc (s : State) (r : Nat) : State := s.inc (NR (r % 48) 0x54)

/-- Write entry words into the ring from offset `o` on (R220). -/
def State.putEntry (s : State) (r d : Nat) : Nat → List Nat → State
  | _, [] => s
  | o, v :: vs => (s.putRing r d (16 + o % ringSize d) v).putEntry r d (o + 1) vs

/-- Read entry words from offset `o` on. -/
def State.readEntry (s : State) (r d o : Nat) : Nat → List Nat × State
  | 0 => ([], s)
  | n + 1 =>
    let (v, s) := s.ringRead r d (16 + o % ringSize d)
    let (vs, s) := s.readEntry r d (o + 1) n
    (v :: vs, s)

/-- Write an entry that fits, then advance the write offset (R221). -/
def State.putPacket (s : State) (r d wr : Nat) (e : List Nat) : State :=
  (s.putEntry r d (wr % ringSize d) e).putRing r d 0 ((wr % ringSize d + e.length) % ringSize d)

/-- A bulk or trace packet reaches a region endpoint (R207, R221, R224, Table NOC-12). -/
def State.rxPacket (s : State) (r : Nat) (p : Packet) : State :=
  let d := s.rxRing r
  if s.epHeld r || !ringEn d || p.poison then s.epDisc r
  else
    let (wr, t) := s.ringRead r d 0
    let (_, t) := t.ringRead r d 1
    if s.ringFree r d < (entryWords p).length then t.epDisc r else t.putPacket r d wr (entryWords p)

/-- A CSR response, or a timeout, in response slot `t` of a region (R220, R221). -/
def State.rxResponse (s : State) (r tag status data : Nat) : State :=
  let d := s.rxRing r
  if s.epHeld r || !ringEn d then s.epDisc r
  else (s.putRing r d (5 + 2 * tag) data).putRing r d (4 + 2 * tag) (1 + status * 256)

/-- The endpoint of region `r` reads the offsets of its RX ring while a packet waits for space (R197, R221). -/
def State.ringLook (s : State) (r : Nat) : State := ((s.ringRead r (s.rxRing r) 0).2.ringRead r (s.rxRing r) 1).2

/-- A bulk packet that has arrived at region `r` waits at the endpoint for space, or is taken (R221). -/
def State.bulkRegion (s : State) (src dst r : Nat) : State :=
  let t := s.carry src dst 2
  match t.arrived src dst 2 with
  | some p => if t.rxWaits r p then t.ringLook r else (t.takePacket src dst 2).rxPacket r p
  | none => t

/-- BULK_DATA (R221). Packets for a quad leave by LANE_TRANSMIT; other hard endpoints sink bulk packets (log 27), a poisoned
one counted (R207). -/
def State.bulkData (s : State) (src dst : Nat) : State :=
  match nodeKind dst with
  | .quad _ => s
  | .region r => s.bulkRegion src dst r
  | _ => s.deliver src dst 2 (fun p t => if p.poison then t.countSunk dst else t)

def execBulkData (src dst : BitVec 8) (s : State) : Host.Outcome State Fault Refusal := .next (s.bulkData src.toNat dst.toNat)

/-- The outstanding request that a response answers: the one whose request it carries, or for a response that an endpoint
injected itself the one with its tag. -/
def State.answers (s : State) (dst : Nat) (p : Packet) : Option Pend :=
  s.reqs.find? (fun x => if p.req = 0 then x.node = dst && x.tag = p.tag else x.id = p.req)

/-- A response at its requester (R210, R219, R221, R224): one to a request that has ended is late, and so is one that answers no
request at all (DESIGN CHOICE log 157). -/
def State.sinkResponse (s : State) (dst : Nat) (p : Packet) : State :=
  match s.answers dst p with
  | none => s.inc (NR (nodeRouter dst) 0x50)
  | some x =>
    let t := { s with reqs := s.reqs.erase x }
    match nodeKind dst with
    | .region r => t.rxResponse r p.tag p.status p.payload
    | _ => t

/-- CSR_RESPONSE. -/
def State.csrResponse (s : State) (src dst : Nat) : State := s.deliver src dst 1 (fun p t => t.sinkResponse dst p)

def execCsrResponse (src dst : BitVec 8) (s : State) : Host.Outcome State Fault Refusal :=
  .next (s.csrResponse src.toNat dst.toNat)

/-- CSR_TIMEOUT (R219): the requester's endpoint ends the request and frees its tag. -/
def State.csrTimeout (s : State) (node tag : Nat) : State :=
  if s.tagBusy node tag then
    let s := { s with reqs := s.reqs.filter (fun x => !(x.node = node && x.tag = tag)) }
    match nodeKind node with
    | .region r => s.rxResponse r tag 0x0A 0
    | _ => s
  else s

def execCsrTimeout (node tag : BitVec 8) (s : State) : Host.Outcome State Fault Refusal :=
  .next (s.csrTimeout node.toNat tag.toNat)

/-- Has every packet of node `n` entered the network? -/
def State.allLeft (n : Nat) (s : State) : Bool := s.net.all (fun p => p.src ≠ n || decide (p.flits ≤ p.left))

/-- Network cycles pass until what node `n` has to send has entered the network, if it can. -/
def State.flush (s : State) (n : Nat) : State := State.runNet (State.allLeft n) s.netTime s

/-- The header flit that the first four words of an entry spell (R220). -/
def ringHeader (w : List Nat) : BitVec 256 :=
  BitVec.ofNat 256 (w.getD 0 0 + w.getD 1 0 * 2 ^ 64 + w.getD 2 0 * 2 ^ 128 + w.getD 3 0 * 2 ^ 192)

/-- The entry at offset `rd` whose header is `hdr` is read completely, injected, and the read offset advanced (R222); a request
whose tag is in use waits. One whose TAG is out of range is taken from the ring and dropped there (R216, DESIGN CHOICE log
158). -/
def State.txSend (s : State) (r d rd : Nat) (hdr : BitVec 256) : State :=
  let len := bits hdr.toNat 22 5
  if bits hdr.toNat 18 4 ≤ 1 && s.tagBusy (regionNode r) (bits hdr.toNat 32 8) then s
  else
    let x := s.readEntry r d (rd + 4) (4 * len)
    (x.2.inject (regionNode r) hdr (x.1.map (BitVec.ofNat 64))).putRing r d 1 ((rd + 4 + 4 * len) % ringSize d)

/-- The next entry of the TX ring of region `r`, at offset `rd`. -/
def State.txEntry (s : State) (r d rd : Nat) : State :=
  let x := s.readEntry r d rd 4
  x.2.txSend r d rd (ringHeader x.1)

/-- TX_RING_POLL (R222): an entry is taken up once the endpoint's earlier packets have entered the network; a request whose
tag is in use waits. -/
def State.txPoll (s : State) (r : Nat) : State :=
  let d := s.txRing r
  if s.epHeld r || !ringEn d || !s.routersOn then s
  else
    let (wr, s) := s.ringRead r d 0
    let (rd, s) := s.ringRead r d 1
    if wr % ringSize d = rd % ringSize d then s
    else
      let s := s.flush (regionNode r)
      if State.allLeft (regionNode r) s then s.txEntry r d (rd % ringSize d) else s

def execTxRingPoll (r : Fin 96) (s : State) : Host.Outcome State Fault Refusal := .next (s.txPoll r.val)

/-! ## Filters (R230, R231) -/

/-- Does the source at node `n`, whose local port is `port` of router `x`, hold a credit of VC 3 (R209)? -/
def State.traceCredit (s : State) (n x port : Nat) : Bool := decide (s.bufUse x port 3 + (s.waiting n 3).length < 8)

/-- The network cycle, at the latest, that the state's time stands for: time counts whole fabric cycles, so up to one of them
may have passed beyond it (DESIGN CHOICE log 146). -/
def State.netTicksLate (s : State) : Nat := s.netTicksAt (s.timePs + s.fabricPs)

/-- Have 16 network cycles passed since router `n` last emitted (R231)? Where the state's time alone does not show it, `ready`
says so, within what it leaves open. -/
def State.tracePaced (s : State) (n : Nat) (ready : Bool) : Bool :=
  match s.noc.traced.find? (fun x => x.1 = n) with
  | some x => decide (x.2 + 16 ≤ s.netTicks) || ready && decide (x.2 + 16 ≤ s.netTicksLate)
  | none => true

/-- May the emitter of router `n` send a trace packet now: none in the last 16 network cycles (R231), a credit, powered? -/
def State.traceReady (s : State) (n : Nat) (ready : Bool) : Bool :=
  s.routersOn && s.traceCredit (routerNode n) n 4 && s.tracePaced n ready

/-- Router `n` emits: no earlier than 16 network cycles after its last trace packet. -/
def State.traceSent (s : State) (n : Nat) : State :=
  let ticks := match s.noc.traced.find? (fun x => x.1 = n) with
    | some x => max s.netTicks (x.2 + 16)
    | none => s.netTicks
  { s with noc := { s.noc with traced := (n, ticks) :: s.noc.traced.filter (fun x => x.1 ≠ n) } }

/-- Does filter `f` of router `n` match a header that leaves on `oport` (Table NOC-13)? -/
def State.filterHits (s : State) (n f oport hdr : Nat) : Bool :=
  let a := NR n (0x200 + 0x20 * f)
  let c := s.reg (a + 8)
  c.testBit 0 && (c.testBit 4 || bits c 1 3 = oport) && (bits hdr 0 22 ^^^ s.fld a 0 22) &&& s.fld (a + 4) 0 22 = 0

/-- FILTER_MATCH: filter `f` of router `n` meets a header that leaves on `oport`. -/
def State.filterMatch (s : State) (n f oport hdr : Nat) (ready : Bool) : State :=
  if !s.filterHits n f oport hdr then s
  else
    let s := s.inc (NR n (0x20C + 0x20 * f))
    if !s.bit (NR n (0x208 + 0x20 * f)) 5 then s
    else if s.slackActive n || !s.traceReady n ready then s.inc (NR n 0x58)
    else
      let h := mkHdr (s.fld (NR n 0x280) 0 8) (routerNode n) 3 5 0 f 0 (bits hdr 64 32) (bits hdr 0 64) s.netTicks s.frameNo
      (s.traceSent n).send { hdr := h, data := [] }

def execFilterMatch (n : Fin 48) (f : Fin 2) (oport : Fin 8) (hdr : BitVec 256) (ready : Bool) (s : State) :
    Host.Outcome State Fault Refusal := .next (s.powered (fun t => t.filterMatch n.val f.val oport.val hdr.toNat ready))

/-! ## Slack water (R225 to R228) -/

/-- NR_SLACK_ENTER (Table NOC-11): ignored while ACTIVE, and Headland never enters it in a second router (R225). -/
def State.slackEnter (s : State) (n : Nat) : State :=
  if (List.range 48).any (fun k => s.slackActive k) then s
  else (s.setBit (NR n 0x10) 1 true).setBit (NR n 0x10) 2 false

def execNrSlackEnter (n : Fin 48) (s : State) : Host.Outcome State Fault Refusal := .next (s.powered (fun t => t.slackEnter n.val))

/-- Does no packet hold an output VC of router `n`? -/
def State.drained (n : Nat) (s : State) : Bool := s.net.all (fun p => p.hops.all (fun h => h.router ≠ n || !h.holds))

/-- The drain: packets that hold an output VC of router `n` send their last flit (Table NOC-7). -/
def State.drain (s : State) (n : Nat) : State := State.runNet (State.drained n) s.netTime s

/-- SLACK_DRAINED: the staged settings become active, D network cycles after ENTER (Table NOC-7). -/
def State.slackDrained (s : State) (n d : Nat) : State :=
  if !s.slackActive n || s.bit (NR n 0x10) 2 then s
  else
    let s := s.drain n
    if !State.drained n s then s
    else
      let s := s.setBit (NR n 0x10) 2 true
      let s := s.setReg (NR n 8) (s.reg (NR n 4))
      let s := s.setFld (NR n 0xC) 8 8 (s.fld (NR n 0xC) 0 8)
      { s with noc := { s.noc with slackD := d } }

def execSlackDrained (n : Fin 48) (d : Fin 256) (s : State) : Host.Outcome State Fault Refusal := .next (s.powered (fun t => t.slackDrained n.val d.val))

/-- The round robins of router `n` begin at the oldest waiting input (Table NOC-7). -/
def State.fromOldest (s : State) (n : Nat) : State :=
  let l := s.cands.filter (fun c => c.h.router = n && !c.h.holds && c.h.sent = 0)
  let first (c : Cand) : Bool :=
    l.all (fun d => d.h.out ≠ c.h.out || d.p.vc ≠ c.p.vc || decide (c.h.buf.headD 0 ≤ d.h.buf.headD 0))
  (l.filter first).foldl (fun t c => t.setServed (rrKey n c.h.out c.p.vc) ((c.no + 31) % 32)) s

/-- SLACK_END: heads are granted again from the oldest waiting input; D and the total length are recorded. -/
def State.slackEnd (s : State) (n len : Nat) : State :=
  if !s.slackActive n || !s.bit (NR n 0x10) 2 then s
  else (((s.setBit (NR n 0x10) 1 false).setFld (NR n 0x14) 0 8 s.noc.slackD).setFld (NR n 0x14) 8 20 len).fromOldest n

def execSlackEnd (n : Fin 48) (len : Nat) (s : State) : Host.Outcome State Fault Refusal := .next (s.powered (fun t => t.slackEnd n.val len))

/-- SLACK_ABORT (R228): the previous settings stay. -/
def State.slackAbort (s : State) (n : Nat) : State :=
  if !s.slackActive n || s.bit (NR n 0x10) 2 then s
  else ((s.setBit (NR n 0x10) 1 false).setBit (NR n 0x10) 3 true).fromOldest n

def execSlackAbort (n : Fin 48) (s : State) : Host.Outcome State Fault Refusal := .next (s.powered (fun t => t.slackAbort n.val))

/-- NR_CMD.CLR_CNT clears the counters of R229. -/
def State.clrRouterCnt (s : State) (n : Nat) : State :=
  s.zeroRegs ((List.range 8).map (fun i => NR n (0x40 + 4 * i)) ++ (List.range 32).map (fun i => NR n (0x100 + 4 * i))
    ++ (List.range 8).map (fun i => NR n (0x180 + 4 * i)) ++ [NR n 0x20C, NR n 0x22C])

def execNrClrCnt (n : Fin 48) (s : State) : Host.Outcome State Fault Refusal := .next (s.powered (fun t => t.clrRouterCnt n.val))

/-! ## Readout records (R178, R187, Table MEM-6) -/

/-- Read `n` queue words from offset `o` on: words, UE and CE of any. -/
def State.readWords (s : State) (q o : Nat) : Nat → (List Nat × Bool × Bool) × State
  | 0 => (([], false, false), s)
  | n + 1 =>
    let ((v, ce, ue), s) := s.queueRead q (o % s.wq q) 1
    let ((vs, u, c), s) := s.readWords q (o + 1) n
    ((v :: vs, ue || u, ce || c), s)

/-- Cut a word list into packets of at most 64 words, the last padded to a multiple of 4. -/
def packetsOf : Nat → List Nat → List (List Nat)
  | 0, _ => []
  | _, [] => []
  | n + 1, l =>
    let c := l.take 64
    (c ++ List.replicate ((4 - c.length % 4) % 4) 0) :: packetsOf n (l.drop 64)

/-- Send a record of controller `q` (R187): header words, data, trailer, in packets on VC 2; its entry is kept until they have
left. -/
def State.sendRecord (s : State) (q dest lane fr kind : Nat) (data : List Nat) (sent : Nat) (expired trunc ue ce : Bool) : State :=
  let x := s.queue q
  let w0 := fr % 2 ^ 48 + kind * 2 ^ 48
  let w1 := data.length % 2 ^ 19 + q * 2 ^ 19 + x.seq % 65536 * 2 ^ 28
  let w2 := sent % 2 ^ 19 + expired.toNat * 2 ^ 19 + trunc.toNat * 2 ^ 20 + ue.toNat * 2 ^ 21 + ce.toNat * 2 ^ 22
  let pk := packetsOf (data.length + 3) ([w0, w1] ++ data ++ [w2])
  let hdr (n : Nat) := mkHdr dest (clusterNode (q / 12)) 2 4 n 0 0 0 0 lane 0
  let s := pk.foldl (fun t ws => t.send { hdr := hdr (ws.length / 4), data := ws.map (BitVec.ofNat 64), own := q }) s
  s.setQueue q { s.queue q with seq := (x.seq + 1) % 65536, leaving := some (expired, trunc) }

/-- Send `n` words of the queue from word offset `o` up as record contents, read on the read side. -/
def State.sendWords (s : State) (q o n dest lane fr kind : Nat) (trunc : Bool) : State :=
  let ((v, ue, ce), s) := s.readWords q o n
  s.sendRecord q dest lane fr kind v n false trunc ue ce

/-- Clear the `n` words of block `b` of a histogram (R189). -/
def State.clearBins (s : State) (q b n : Nat) : State := forAll n (fun i t => t.queueWrite q (4096 * b + i) 0) s

/-- The bins in the `n` words of block `b` (R189). -/
def State.sendBins (s : State) (q b n dest lane fr : Nat) (clear : Bool) : State :=
  let ((v, ue, ce), s) := s.readWords q (4096 * b) n
  let s := if clear then s.clearBins q b n else s
  s.sendRecord q dest lane fr 4 v n false false ue ce

/-- The record at the head of the readout queue is sent, unless it must wait. -/
def State.sendNext (s : State) (q : Nat) : State :=
  let x := s.queue q
  let d := s.desc q
  if s.readoutWaits q then s
  else match x.ro with
    | [] => s
    | .frame f start len ovr expired dest lane :: _ =>
      if expired then s.sendRecord q dest lane f 3 [] 0 true false false false
      else if !s.retained q f then s.sendRecord q dest lane f 3 (List.replicate len 0) 0 false true false false
      else s.sendWords q start len dest lane f 3 ovr
    | .bins b clear fr dest lane :: _ => s.sendBins q b 4096 dest lane fr clear
    | .drain fr c :: _ => s.sendWords q x.rd c (dDest d) (dDrainLane d) fr 1 false
    | .record r :: _ =>
      let s := s.sendWords q (r.off + 1) r.len (dDest d) (dDrainLane d) r.frame 2 r.trunc
      s.setQueue q { s.queue q with drained := (s.queue q).drained + r.len + 3 }

/-- Network cycles pass until the packets of controller `q` have entered the network, if they can; the record that was leaving
has then been sent. -/
def State.leave (s : State) (q : Nat) : State := (State.runNet (State.recordLeft q) s.netTime s).endRecord q

/-- READOUT_RECORD_SEND (R178, R185, R187, R189, R199): the record at the head goes once the controller's earlier one has left;
while its packets lack credits it is held at its controller and keeps its entry and its storage. -/
def State.sendReadout (s : State) (q : Nat) : State :=
  if s.clk.stopped ∨ s.run.hold ∨ !s.routersOn then s
  else
    let s := s.leave q
    if (s.queue q).leaving.isSome then s else (s.sendNext q).leave q

def execReadoutRecordSend (q : Fin 384) (s : State) : Host.Outcome State Fault Refusal := .next (s.sendReadout q.val)

end Sys2Proof.Machine
end

