-- ==== Sys2Proof/Machine/Lanes.lean ====
section
/-! DEFINITION. I/O banks, transceiver lanes and the TAP (spec/16): what every user pin drives, lane words into queues
and tees, alignment, transmission, throttle, boundary scan. -/

namespace Sys2Proof.Machine

/-! ## User pins (R262, R471 to R475) -/

/-- What a user pin does. -/
inductive PinOut where
  /-- high impedance, with the PULL code of Table IOL-3: 0 none -/
  | z (pull : Nat)
  /-- parked in the state of the PARK code (Table CFG-17) -/
  | parked (code : Nat)
  | drive (v : Bool)
  deriving DecidableEq, Repr

/-- Pin word of pin `p` of bank `b` (Table IOL-3). -/
def State.pinWord (s : State) (b p : Nat) : Nat := bits (s.globF (0xC0 + 2 * b)) (8 * (16 + 8 * p)) 64
def pinStd (w : Nat) : Nat := bits w 0 4
def pinDir (w : Nat) : Nat := bits w 4 2
def pinSafe (w : Nat) : Nat := bits w 13 2
def pinInv (w : Nat) : Bool := w.testBit 15
def pinPull (w : Nat) : Nat := bits w 11 2

/-- The pin whose channels serve pin `p`: leg N of a differential pair goes by those of leg P (R471). -/
def pairPin (w p : Nat) : Nat := if 8 ≤ pinStd w then p / 2 * 2 else p

/-- The level at leg N is the complement of the pair's; so is that of a SAFE value (DEDUCED log 164). -/
def PinOut.leg (o : PinOut) (w p : Nat) : PinOut :=
  match o with
  | .drive v => .drive (xor v (decide (8 ≤ pinStd w ∧ p % 2 = 1)))
  | o => o
/-- Declared voltage code of bank `b` (Table IOL-2). -/
def State.bankVio (s : State) (b : Nat) : Nat := bits (s.globF (0xC0 + 2 * b)) 0 3

/-- What the pins of region `r` follow: its crossing registers, those of the hold edge while it is held (R475), and in cycle
0 of a release what the registers take at its end (Table RGN-2). -/
def State.pinRegs (s : State) (r : Nat) : Nat :=
  if (s.region r).held then (mget (fun _ => (0 : BitVec 256)) s.fab.pinHold r).toNat
  else if (s.region r).pinStart then ofBits 256 (s.crossTake r)
  else s.crossReg r

/-- The level that region logic gives pin `p` of bank `b` through registers `x` (R471, R472). -/
def pinFrom (x side i w : Nat) : PinOut :=
  let v := xor (x.testBit (64 * side + i)) (pinInv w)
  match pinDir w with
  | 1 => .drive v
  | 2 => if x.testBit (64 * side + 24 + i) then .drive v else .z (pinPull w)
  | _ => .z (pinPull w)

/-- The SAFE value of a pin word (Table IOL-3); 0b11 holds what the pin did last. An input never drives (R471). -/
def safeLevel (w : Nat) (last : PinOut) : PinOut :=
  if pinDir w = 0 then .z (pinPull w)
  else match pinSafe w with
    | 0 => .z (pinPull w)
    | 1 => .drive false
    | 2 => .drive true
    | _ => last

/-! ## Probe pins (R500) -/

/-- The probe word that drives pins now: of 8 cycles before the last edge. -/
def State.pinSample (s : State) : DWord := s.probe.words.getD 8 0

/-- The enabled entry that names user pin `k`. -/
def State.pinEntry (s : State) (k : Nat) : Option Nat :=
  ((List.range 16).find? (fun m => s.bit (PB (0x200 + 4 * m)) 16 && decide (s.fld (PB (0x200 + 4 * m)) 0 10 = k))).map
    (fun m => s.fld (PB (0x200 + 4 * m)) 10 6)

/-- Level that an entry gives user pin `k`. -/
def State.entryLevel (s : State) (k : Nat) : Option Bool := (s.pinEntry k).map s.pinSample.getLsbD

/-- Do entries drive the pins that the probe block owns: in a configured unit that is neither beached nor asleep (R475)? -/
def State.entriesDrive (s : State) : Bool := s.run.configured && !s.beached && s.mode = 0

/-- The probe-owned pins that entries drive, and their levels. -/
def State.pinsDriven (s : State) : List (Nat × Bool) :=
  if !s.entriesDrive then []
  else ((List.range 16).map (fun m => s.fld (PB (0x200 + 4 * m)) 0 10)).filterMap (fun k =>
    match s.entryLevel k with
    | some v => if s.pinCode k = 0x480 then some (k, xor v (pinInv (s.pinWord (k / 48) (k % 48)))) else none
    | none => none)

/-- Keep the levels that entries drive, before something ends that. -/
def State.notePins (s : State) : State :=
  let l := s.pinsDriven
  { s with probe := { s.probe with pinLast := l ++ s.probe.pinLast.filter (fun x => !l.any (fun y => y.1 = x.1)) } }

/-- What a probe-owned pin did last, for SAFE = 0b11: nothing where no entry has driven it. -/
def heldPin (l : List (Nat × Bool)) (k w : Nat) : PinOut :=
  match l.lookup k with
  | some v => .drive v
  | none => .z (pinPull w)

/-! ## What a pin does -/

/-- What pin `p` of bank `b` does, probe pins apart (R262, R471 to R475, R489, R525). A unit held without a load parks the
pins that regions own (R507; DEDUCED log 149). -/
def State.pinOut (s : State) (b p : Nat) : PinOut :=
  let w := s.pinWord b p
  let k := pairPin w p
  let (r, side) := servingRegion b k
  let i := k % 24
  let code := s.pinCode (48 * b + p)
  let parked := PinOut.parked (bits s.park (2 * b) 2)
  let kept := (mget (fun _ => (0 : BitVec 256)) s.fab.pinSafe r).toNat
  if !s.on || !s.rails.vio.contains b then .z 0
  else if s.scanned then
    match s.tap.boundary[Config.boundaryCell (48 * b + p)]? with
    | some v => .drive v
    | none => .z 0
  else if spareCode code false || pinStd w = 0 then parked
  else if !s.gateOpen (0x18 + b) then parked
  else if code = 0x490 || code = 0x480 then
    if s.run.configured then
      (safeLevel w (if code = 0x480 then heldPin s.probe.pinLast (48 * b + k) w else .z (pinPull w))).leg w p
    else parked
  else if !s.run.outputs then parked
  else if s.mode = 2 || s.beached then (safeLevel w (pinFrom kept side i w)).leg w p
  else (pinFrom (s.pinRegs r) side i w).leg w p

/-- Keep what every pin register holds, and what entries drive, as the unit becomes beached or enters DEEP_SLEEP (R475). -/
def State.snapSafe (s : State) : State :=
  let put (m : List (Nat × BitVec 256)) (r : Nat) := mput (fun _ => (0 : BitVec 256)) m r (BitVec.ofNat 256 (s.pinRegs r))
  { s.notePins with fab := { s.fab with pinSafe := (List.range 96).foldl put s.fab.pinSafe } }

/-! ## Lane registers (Table IOL-7) -/

def State.rxEn (s : State) (n : Nat) : Bool := s.bit (LN n 0) 0
def State.txEn (s : State) (n : Nat) : Bool := s.bit (LN n 0) 1
def State.laneCode (s : State) (n : Nat) : Nat := s.fld (LN n 0) 5 2
def State.aligned (s : State) (n : Nat) : Bool := s.bit (LN n 0x10) 2
/-- LN_TEST is zero (R487). -/
def State.laneTraffic (s : State) (n : Nat) : Bool := s.reg (LN n 0x18) = 0

/-- Does lane `n` transmit: enabled, released by OUTPUTS, its quad open, not taken by boundary scan? -/
def State.laneSends (s : State) (n : Nat) : Bool :=
  s.txEn n && s.run.outputs && s.gateOpen (n / 4) && s.rails.vtx && s.rails.vtt
    && !s.scanned

/-- Is lane `n` in far-end loopback, so that it sends what it receives (R487)? -/
def State.laneFar (s : State) (n : Nat) : Bool := s.fld (LN n 0x18) 3 2 = 2 && s.rxEn n && s.laneSends n

/-- The queue controller that lane `n` feeds (R172). -/
def State.laneQueue (s : State) (n : Nat) : Option Nat :=
  ((List.range 16).map (bayQueue (n / 4))).find? (fun q =>
    s.qMode q ≠ 0 && dSrc (s.desc q) = 2 && dLane (s.desc q) = n % 4)

/-! ## Ingest and the tee (R479, R482 to R484) -/

/-- Is the word delivered (Table IOL-4)? Control blocks only with KEEP_CTRL, idle blocks never. -/
def State.laneDelivers (s : State) (n : Nat) (w : DWord) (ctrl : Bool) : Bool :=
  !ctrl || (s.laneCode n = 2 && s.bit (LN n 0) 8 && decide (w.toNat % 256 ≠ 0x1E))

/-- Is lane `n` handing words over (R480, R482, R487)? -/
def State.laneRuns (s : State) (n : Nat) : Bool :=
  s.aligned n && s.rxEn n && s.laneTraffic n && s.run.writes && !s.run.hold && !s.clk.stopped && s.gateOpen (n / 4)
    && !s.scanned

/-- The tee of lane `n` (R484). -/
def State.teeWord (s : State) (n : Nat) (w : DWord) (ctrl : Bool) : State :=
  let l := s.laneOf n
  if !s.bit (LN n 8) 0 then s.setLane n { l with gap := false }
  else if 4 ≤ l.tee.length then (s.setLane n { l with gap := false }).inc (LN n 0x30)
  else s.setLane n { l with tee := l.tee ++ [(w, ctrl, l.gap)], gap := false }

/-- A control character other than K28.5 counts as a code error in 8b/10b (Table IOL-4, R479). -/
def State.laneBad (s : State) (n : Nat) (w : DWord) (ctrl : Bool) : State :=
  if s.laneCode n = 1 && ctrl && decide (w.toNat % 256 ≠ 0xBC) then s.inc (LN n 0x20) else s

/-- LANE_WORD (R179, R183, R479, R482, R483, R487). -/
def State.laneWord (s : State) (n : Nat) (w : DWord) (ctrl : Bool) : State :=
  if s.laneFar n then s.setLane n { s.laneOf n with tx := (s.laneOf n).tx ++ [(w, if ctrl then w.toNat % 256 else 0)] }
  else if !s.laneRuns n then s
  else if !s.laneDelivers n w ctrl then s.laneBad n w ctrl
  else
    let s := (s.inc (LN n 0x24)).teeWord n w ctrl
    match s.laneQueue n with
    | some q => if s.qMode q = 3 then s.pipeWord q w.toNat true else s.fifoWord q w.toNat true
    | none => s

def execLaneWord (n : Fin 96) (w : DWord) (ctrl : Bool) (s : State) : Host.Outcome State Fault Refusal :=
  .next (s.laneWord n.val w ctrl)

/-! ## Alignment (R480, R481) -/

/-- LANE_ALIGNED with the natural latency `lat` in UI. -/
def State.laneAligned (s : State) (n lat : Nat) : State :=
  if s.aligned n || !s.rxEn n || !s.bit (LN (4 * (n / 4)) 0x808) 0 || !s.gateOpen (n / 4) || !s.rails.vtx || !s.rails.vtt || s.scanned then s
  else
    let s := (s.setBit (LN n 0x10) 0 true).setBit (LN n 0x10) 1 true
    let target := s.fld (LN n 4) 0 16
    if !s.bit (LN n 0) 7 then s.setBit (LN n 0x10) 2 true
    else if target = 0 then (s.setBit (LN n 0x10) 2 true).setFld (LN n 0x14) 0 16 lat
    else if lat ≤ target then
      ((s.setBit (LN n 0x10) 2 true).setBit (LN n 0x10) 3 false).setFld (LN n 0x14) 0 16 target
    else if s.bit (LN n 0x10) 3 then s
    else (s.setBit (LN n 0x10) 3 true).latch 6 (0x100 + n) (1 + n * 256)

def execLaneAligned (n : Fin 96) (lat : Nat) (s : State) : Host.Outcome State Fault Refusal := .next (s.laneAligned n.val lat)

/-- LANE_ALIGNMENT_LOSS: whether the signal or the CDR lock went with it, and how many code errors came before it, is not
stated (free values, log 1, log 121). -/
def State.laneLoss (s : State) (n : Nat) : State :=
  if !s.aligned n then s
  else
    let (v, s) := s.draw
    let s := s.count (LN n 0x20) 0 32 (v / 4 % 2 ^ 32)
    (s.laneDown n).setFld (LN n 0x10) 0 2 (v % 4)

def execLaneAlignmentLoss (n : Fin 96) (s : State) : Host.Outcome State Fault Refusal := .next (s.laneLoss n.val)

/-- LN_CMD.REALIGN: a loss of alignment in every respect, of a lane that is not aligned too. -/
def execRealignLane (n : Fin 96) (s : State) : Host.Outcome State Fault Refusal := .next (s.laneLost n.val)

/-- LN_CMD.CLR_CNT (Table IOL-6). -/
def State.clrLaneCnt (s : State) (n : Nat) : State :=
  s.zeroRegs [LN n 0x20, LN n 0x24, LN n 0x28, LN n 0x2C, LN n 0x30, LN n 0x34]

def execLnClrCnt (n : Fin 96) (s : State) : Host.Outcome State Fault Refusal := .next (s.clrLaneCnt n.val)

/-- LN_CMD.SLIP in raw mode: the word boundary moves, which counts as a realignment (R479). -/
def State.laneSlip (s : State) (n : Nat) : State :=
  if s.laneCode n = 3 then (s.inc (LN n 0x28)).setLane n { s.laneOf n with gap := true } else s

/-! ## Transmission (R485, R486) -/

/-- Lane word of a packet header (TX_HDR, R485). -/
def Packet.headerWord (p : Packet) : DWord := BitVec.ofNat 64 (p.h 160 32 + p.h 192 32 * 2 ^ 32)

/-- What a lane sends of its own. -/
inductive LaneOut where
  /-- nothing: the transmit balls are idle -/
  | quiet
  /-- a word or character, and the type of its control block or character, 0 for a data word -/
  | word (w : DWord) (kind : Nat)
  /-- the pattern of the generator, by its order -/
  | prbs (order : Nat)
  /-- the received bits, retimed -/
  | received
  deriving DecidableEq, Repr

/-- Does lane `n` signal THROTTLE (R486)? -/
def State.laneThr (s : State) (n : Nat) : Bool := s.bit (LN n 0xC) 1 && (s.laneOf n).thr

/-- The control block that signals THROTTLE in 64b/66b. -/
def thrBlock : DWord × Nat := (0x544B, 0x4B)

/-- What lane `n` sends between packets (R485, R486): K28.5, or K28.1 under THROTTLE, as the character's byte; an idle block, or
one of type 0x4B with byte 1 = 0x54; a zero word in raw mode. In a test mode the loopback or the generator says what it sends
(R487). -/
def State.laneFill (s : State) (n : Nat) : LaneOut :=
  if !s.laneSends n || s.fld (LN n 0x18) 3 2 = 1 then .quiet
  else if s.fld (LN n 0x18) 3 2 = 2 then .received
  else match s.fld (LN n 0x18) 0 3 with
    | 1 => .prbs 7
    | 2 => .prbs 15
    | 3 => .prbs 23
    | 4 => .prbs 31
    | _ =>
      match s.laneCode n with
      | 1 => if s.laneThr n then .word 0x3C 0x3C else .word 0xBC 0xBC
      | 2 => if s.laneThr n then .word thrBlock.1 thrBlock.2 else .word 0x1E 0x1E
      | _ => .word 0 0

/-- Words of a packet with a THROTTLE block before each that would be the 64th without one (R486); `k` blocks have gone since the
last one. -/
def weaveThr : Nat → List (DWord × Nat) → List (DWord × Nat)
  | _, [] => []
  | k, w :: ws => if 63 ≤ k then thrBlock :: w :: weaveThr 1 ws else w :: weaveThr (k + 1) ws

/-- Blocks since the last THROTTLE block after `l` has gone. -/
def runAfter (k : Nat) (l : List (DWord × Nat)) : Nat := l.foldl (fun n w => if w = thrBlock then 0 else n + 1) k

/-- What lane `n` sends for the words of a packet (R486): without a gap before them the fill has carried no THROTTLE block. -/
def State.laneWords (s : State) (n : Nat) (l : List (DWord × Nat)) : List (DWord × Nat) :=
  if s.laneCode n = 2 && s.laneThr n then weaveThr (if (s.laneOf n).busyPs < s.timePs then 0 else (s.laneOf n).run) l else l

/-- A bulk packet reaches quad `q`. In a test mode its words do not reach the transmit balls (R487, DESIGN CHOICE log 167). -/
def State.quadPacket (s : State) (q : Nat) (p : Packet) : State :=
  let n := 4 * q + p.h 160 2
  if p.poison || !s.laneSends n then s.inc (LN n 0x34)
  else
    let hdr := if s.bit (LN n 0xC) 0 then [(p.headerWord, if s.laneCode n = 2 then 0xC5 else 0)] else []
    let l := s.laneOf n
    let words := s.laneWords n (hdr ++ p.data.map (fun w => (w, 0)))
    s.setLane n { l with
      run := runAfter (if l.busyPs < s.timePs then 0 else l.run) words
      busyPs := max s.timePs l.busyPs + words.length * s.laneWordPs n
      tx := l.tx ++ (if s.laneTraffic n then words else []) }

/-- LANE_TRANSMIT: the next bulk packet from `src` to the L2 node of quad `q`. -/
def State.laneTransmit (s : State) (src q : Nat) : State := s.deliver src (quadNode q) 2 (fun p t => t.quadPacket q p)

def execLaneTransmit (src : BitVec 8) (q : Fin 24) (s : State) : Host.Outcome State Fault Refusal :=
  .next (s.laneTransmit src.toNat q.val)

/-- THROTTLE_SIGNAL (R486). -/
def State.throttleSignal (s : State) (n : Nat) : State :=
  if s.bit (LN n 0xC) 1 && s.laneSends n then
    s.setLane n { s.laneOf n with thr := (s.queue (bayQueue (n / 4) (s.fld (LN n 0xC) 2 4))).throttle }
  else s

def execThrottleSignal (n : Fin 96) (s : State) : Host.Outcome State Fault Refusal := .next (s.throttleSignal n.val)

/-! ## Lane settings at commit (R263, R490) -/

/-- Lane and quad settings of the global frames: LN_QPLL and LN_QFRAC of quad `q`, LN_CTRL, LN_FL, LN_TEE, LN_TX of lane
`n` from frame contents `f`. -/
def quadImg (f k : Nat) : Nat := bits f (32 * k) 32
def laneImg (f i k : Nat) : Nat := bits f (8 * (64 + 64 * i) + 32 * k) 32

/-- Put the settings of quad `q` from frame contents `f` into force. A lane whose receive settings and quad PLL settings
stay the same stays aligned; a lane whose settings change loses alignment (R263). -/
def State.commitQuad (s : State) (q f : Nat) : State :=
  let pll := s.reg (LN (4 * q) 0x800) = quadImg f 0 && s.reg (LN (4 * q) 0x804) = quadImg f 1
  let s := if pll then s else
    ((s.setReg (LN (4 * q) 0x800) (quadImg f 0)).setReg (LN (4 * q) 0x804) (quadImg f 1)).setBit (LN (4 * q) 0x808) 0 false
  forAll 4 (fun i t =>
    let n := 4 * q + i
    let rx (c : Nat) : Nat := c - bits c 1 1 * 2 - bits c 10 1 * 1024
    let same := pll && rx (t.reg (LN n 0)) = rx (laneImg f i 0) && t.reg (LN n 4) = laneImg f i 1
    let t := if same then t else t.laneDown n
    let t := if same then t else (t.setFld (LN n 0x10) 0 5 0).setFld (LN n 0x14) 0 16 0
    (((t.setReg (LN n 0) (laneImg f i 0)).setReg (LN n 4) (laneImg f i 1)).setReg (LN n 8) (laneImg f i 2)).setReg (LN n 0xC)
      (laneImg f i 3)) s

/-- Every lane is disabled: a failed full load (R263). -/
def State.disableLanes (s : State) : State := forAll 24 (fun q t => t.commitQuad q 0) s

/-! ## Boundary scan (R488, R489) -/

/-- The code of IDCODE. -/
def idcodeWord : Nat := 1 + Config.jtagManufacturer.toNat * 2 + 0xB549 * 2 ^ 12 + 2 * 2 ^ 28

def State.setTap (s : State) (t : Tap) : State := { s with tap := t }

def execBypass (s : State) : Host.Outcome State Fault Refusal := .next (s.setTap { s.tap with ir := .bypass, dr := 0 })

def execIdcode (s : State) : Host.Outcome State Fault Refusal := .next (s.setTap { s.tap with ir := .idcode, dr := idcodeWord })

end Sys2Proof.Machine
end

