-- ==== Sys2Proof/Machine/ChainLink.lean ====
section
/-! DEFINITION. Handing ordered sets and messages to the transmitters (spec/10 R300, R302, R303, Tables ZVL-1 to ZVL-3). -/

namespace Sys2Proof.Machine

/-- Hand something to the transmitters of the ports. -/
def State.sendZ (s : State) (ports : List Nat) (o : ZOut) : State :=
  { s with chain := { s.chain with sent := s.chain.sent ++ [(ports, o)] } }

/-- Send a message of the unit's own, with its SEQ (Table ZVL-2). -/
def State.sendMsg (s : State) (ports : List Nat) (type flg dst : Nat) (payload : List Byte) : State :=
  let n := mget (fun _ => 0) s.chain.seqs type
  let s := { s with chain := { s.chain with seqs := mput (fun _ => 0) s.chain.seqs type ((n + 1) % 65536) } }
  s.sendZ ports (.msg type ⟨BitVec.ofNat 12 s.zaddr, BitVec.ofNat 4 flg, BitVec.ofNat 12 dst, BitVec.ofNat 16 n, payload, true⟩)

/-- Pass a message on unchanged. -/
def State.passOn (s : State) (ports : List Nat) (type : Nat) (m : ZMsg) : State := s.sendZ ports (.msg type m)

end Sys2Proof.Machine
end

