-- ==== Sys2Proof/Machine/Otp.lean ====
section
/-! DEFINITION. OTP groups and what they decode to (spec/14 R412 to R423, R427, R432, R434), the boot record in force
and the hold-up check (spec/08 R270, R273, spec/14 R428). -/

namespace Sys2Proof.Machine

/-! ## Groups (R414 to R416) -/

def gState : Nat := 0
def gIntent : Nat := 1
def gIdentity : Nat := 2
def gCust : Nat := 3
def gImg : Nat := 4
def gSec : Nat := 8
def gImgRb : Nat := 9
def gFwRb : Nat := 10
def gTrim : Nat := 11

/-- Bits per copy of a group (Table LCS-2). -/
def otpBits (g : Nat) : Nat := [7, 7, 384, 385, 257, 257, 257, 257, 5, 64, 32, 512].getD g 0

/-- Copy `c` of group `g`. -/
def State.otpCopy (s : State) (g c : Nat) : Nat := (mget otpReset s.life.otp (3 * g + c)).toNat

/-- Majority value of a group (R415). -/
def State.otp (s : State) (g : Nat) : Nat :=
  let a := s.otpCopy g 0
  let b := s.otpCopy g 1
  let c := s.otpCopy g 2
  (a &&& b) ||| (a &&& c) ||| (b &&& c)

/-- Position of the highest 1 plus 1; 0 for an all-zero value (R416). -/
def topBit (x : Nat) : Nat := if x = 0 then 0 else Nat.log2 x + 1

/-- Life-cycle position that LC_STATE decodes to: 1 WAFER, 2 TRIMMED, 3 SEALED, 4 OPEN, 5 LOCKED, 6 RETURNED, 7 SCRAPPED
(R416, Table LCS-1). -/
def State.lcBurnt (s : State) : Nat := max 1 (topBit (s.otp gState))
/-- Position of the burnt intent, 0 when none was burnt. -/
def State.lcIntent (s : State) : Nat := topBit (s.otp gIntent)
/-- Code of a position. -/
def lcCode (p : Nat) : Nat := 2 ^ p - 1

/-- The state that decides: the more restrictive of the state and a pending intent (R427, R430). -/
def State.lc (s : State) : Nat := max s.lcBurnt (max s.lcIntent (topBit s.life.accepted))

/-- A security bit in effect (R432, R434). -/
def State.sec (s : State) (i : Nat) : Bool := s.lc < 6 && (s.otp gSec).testBit i

/-- PROBE_RESTRICT in effect (R501). -/
def State.probeRestrict (s : State) : Bool := s.sec 1 && !s.life.liftTok

/-- Is the debug path open (Table LCS-1, R434, R437, R440)? -/
def State.debugOpen (s : State) : Bool :=
  s.lc ≠ 7 && (s.lc ≤ 2 || (s.lc ≤ 4 && !s.sec 2) || s.life.debugTok)

/-- Unit ID and transport key (R414). -/
def State.unitId (s : State) : Nat := bits (s.otp gIdentity) 0 128
def State.transport (s : State) : Nat := bits (s.otp gIdentity) 128 256
/-- Do the effects of SCRAPPED on pins, ports and tiers stand? They wait for the VAUX power-on reset after the intent (R427,
R433). -/
def State.scrapped (s : State) : Bool := s.life.start = 7

/-- The unit ID as the 16 bytes that commands report. R6 leaves the order to the unit; bits [7:0] stand in byte 0 (DESIGN
CHOICE log 141). -/
def State.unitBytes (s : State) : List Byte := bytesLE s.unitId 16

/-- CUST_KEY set, and its digest (R422). -/
def State.custSet (s : State) : Bool := (s.otp gCust).testBit 384
def State.custDigest (s : State) : Nat := bits (s.otp gCust) 0 384

/-- USED of IMG_KEYn. -/
def State.imgUsed (s : State) (n : Nat) : Bool := (s.otp (gImg + n)).testBit 256
/-- The image key in force: the highest used slot (R423). -/
def State.imgKey (s : State) : Option (BitVec 256) :=
  (([3, 2, 1, 0] : List Nat).find? s.imgUsed).map (fun n => BitVec.ofNat 256 (s.otp (gImg + n)))

/-- Image and firmware rollback counters (R416, R435, R436). -/
def State.imgRollback (s : State) : Nat := topBit (s.otp gImgRb)
def State.fwRollback (s : State) : Nat := topBit (s.otp gFwRb)
/-- The firmware rollback counter in effect: none in RETURNED (Table LCS-8). -/
def State.fwFloor (s : State) : Nat := if s.lc = 6 then 0 else s.fwRollback

/-! ## Boot record and hold-up (R270, R273, R428) -/

/-- Is a boot record copy valid: MAGIC and CRC (Table CFG-18)? -/
def recValid (r : BitVec 512) : Bool :=
  fieldAt r.toNat 0 4 = 0x31524259 && fieldAt r.toNat 60 4 = crc32c (bytesLE r.toNat 60)
def recSeq (r : BitVec 512) : Nat := fieldAt r.toNat 4 4

/-- The copy in force: the valid one with the higher SEQ. -/
def State.bootRec (s : State) : Option Nat :=
  let a := s.store.rec0
  let b := s.store.rec1
  if recValid a && (!recValid b || decide (recSeq b ≤ recSeq a)) then some a.toNat
  else if recValid b then some b.toNat else none

def State.bootSlot (s : State) : Nat := fieldAt (s.bootRec.getD 0) 8 1
def State.goldenSlot (s : State) : Nat := fieldAt (s.bootRec.getD 0) 9 1
def State.holdupC (s : State) : Nat := fieldAt (s.bootRec.getD 0) 10 2

/-- Does the reservoir `c` (0.1 mF) at `mv` mV, a reading of 0 to 2.00 V (R526), hold the energy: ½ C (V² − 1.62²) at least `need`
units of 50 pJ (R270)? -/
def holdsUp (c mv need : Nat) : Bool :=
  decide (c * (1620 * 1620) + need ≤ c * (min mv 2000 * min mv 2000)) && decide (0 < c)

/-- 1.5 N of a write of `n` bytes: 1.5 × 7.2 W × n ÷ 200 MB/s, in units of 50 pJ (R270). -/
def chunkNeed (n : Nat) : Nat := 1080 * n
/-- 1.5 N of a burn: 1.62 mJ (R428). -/
def burnNeed : Nat := 32400000

/-- Headland takes a reading at HOLDUP_SENSE, whose range ends at 2.00 V (R526). -/
def State.sense (s : State) (mv : Nat) : State := { s with store := { s.store with mv := min mv 2000 } }

/-- The same where no command brings the reading: a free value in its range (DESIGN CHOICE log 147). -/
def State.senseFree (s : State) : State := s.draw.2.sense (s.draw.1 % 2001)

/-! ## The OTP engine (R428, R429) -/

/-- The idle engine starts a burn, before those that wait for a retry (R429). The hold-up check has been made. -/
def State.burn (s : State) (g v : Nat) : State :=
  { s with life := { s.life with burns := (g, BitVec.ofNat 512 v) :: s.life.burns, burning := true } }

/-- Set the bits of a burn in one copy. -/
def State.burnCopy (s : State) (g c v : Nat) : State :=
  { s with life := { s.life with otp := mput otpReset s.life.otp (3 * g + c) (BitVec.ofNat 512 (s.otpCopy g c ||| v)) } }

end Sys2Proof.Machine
end

