-- ==== Sys2Proof/Machine/Mailbox.lean ====
section
/-! DEFINITION. Mailbox windows (spec/11 R343 to R346, R352 to R354): rings, responses, event rings. -/

namespace Sys2Proof.Machine

/-! ## Windows -/

/-- Does mailbox `m` take requests (R343, R433, R437)? -/
def State.takes (s : State) (m : Nat) : Bool :=
  if s.lc = 7 then m = 0 else if m = 6 then s.debugOpen else s.hasRequester m

/-- Is a request in the window that has not been answered? -/
def Mbox.busy (b : Mbox) : Bool := b.st = .waiting || b.st = .serving

/-- Is the path to the window of mailbox `m` open: that of MB6 is closed while debug is closed (Table HDL-2)? -/
def State.pathOpen (s : State) (m : Nat) : Bool := m ≠ 6 || s.debugOpen

/-- The island's copies while the device side runs: SERVING crosses by itself, DONE only with the whole response (R401). -/
def Island.copy (i : Island) (s : State) : Island :=
  let b := s.mbox 0
  { i with
    st := if i.st = .waiting && b.st ≠ .waiting then .serving else i.st
    hlUp := s.hl.up, wr := b.wr, rd := b.rd, evt := b.evt, lost := b.lost, zaddr := s.zaddr, lcNow := lcCode s.lcBurnt }

/-- The island as it stands now: its copies are the device side's as long as that runs, and stay as they were after. -/
def State.island (s : State) : Island := if s.on && s.isl.devUp then s.isl.copy s else s.isl

/-- Breakwater's island holds MB0's STATE as the host changes it (R401). -/
def State.islFollows (s : State) (m : Nat) : State :=
  if m = 0 && s.on && s.isl.devUp && (s.mbox 0).st ≠ .done then { s with isl := { s.isl with st := (s.mbox 0).st } } else s

/-- OVERRUN (Table HDL-4). -/
def State.overrun (s : State) (m : Nat) : State := s.setMbox m { s.mbox m with overrun := true }

/-- ACK: DONE becomes IDLE. -/
def State.ackMb (s : State) (m : Nat) : State :=
  let b := s.mbox m
  if b.st = .done && s.pathOpen m then s.setMbox m { b with st := .idle } else s

/-- RING (R346, Table HDL-5): a RING in DONE acts as ACK followed by RING. -/
def State.ringMb (s : State) (m : Nat) : State :=
  let b := s.mbox m
  if !s.takes m then s
  else if b.busy then s.overrun m
  else { s.setMbox m { b with st := .waiting, aged := false, ringNo := s.hl.rings } with hl := { s.hl with rings := s.hl.rings + 1 } }

def execRing (m : Fin 8) (s : State) : Host.Outcome State Fault Refusal := .next ((s.ringMb m.val).islFollows m.val)
def execAck (m : Fin 8) (s : State) : Host.Outcome State Fault Refusal := .next ((s.ackMb m.val).islFollows m.val)

/-- CLR_LOST (Table HDL-4). -/
def State.clrLost (s : State) (m : Nat) : State := if s.pathOpen m then s.setMbox m { s.mbox m with lost := 0 } else s
def execClrLost (m : Fin 8) (s : State) : Host.Outcome State Fault Refusal := .next (s.clrLost m.val)

/-- A write of word `i` of MB_REQ (R346). -/
def State.writeReq (s : State) (m i v : Nat) : State :=
  let b := s.mbox m
  if !s.pathOpen m then s
  else if b.busy then s.overrun m
  else s.setMbox m { b with req := BitVec.ofNat 2048 (setBits b.req.toNat (32 * i) 32 v) }

/-- A write of RD; one outside WR − 8 to WR is ignored (R354). -/
def State.writeRd (s : State) (m rd : Nat) : State :=
  let b := s.mbox m
  if (b.wr + 16 - rd % 16) % 16 ≤ 8 && s.pathOpen m then s.setMbox m { b with rd := rd % 16 } else s

/-- EVT_RD_WRITE: the word written to MB_EVT_PTR. -/
def execEvtRdWrite (m : Fin 8) (v : Word) (s : State) : Host.Outcome State Fault Refusal :=
  .next (s.writeRd m.val (bits v.toNat 8 4))

/-- REQUEST_AGED (R348, Table HDL-4). -/
def State.ageRequest (s : State) (m : Nat) : State :=
  let b := s.mbox m
  if b.st = .waiting then s.setMbox m { b with aged := true } else s

def execRequestAged (m : Fin 8) (s : State) : Host.Outcome State Fault Refusal := .next (s.ageRequest m.val)

/-! ## Responses (R345, R356) -/

/-- Put a response into MB_RSP; bytes beyond it stay. -/
def putRsp (old : BitVec 2048) (b : List Byte) : BitVec 2048 := BitVec.ofNat 2048 (setBits old.toNat 0 (8 * b.length) (natLE b))

/-- Header and payload of a response (R345). -/
def rspBytes (op tag status : Nat) (body : List Byte) : List Byte :=
  bytesLE op 2 ++ bytesLE body.length 2 ++ bytesLE tag 2 ++ bytesLE status 1 ++ [0] ++ body

/-- Address of the chain's head as this unit knows it (R306). -/
def State.headAddr (s : State) : Nat := (s.zaddr + 4096 - s.zpos) % 4096

/-- The window answers the request (R345, R346): MB1's response leaves as MBRSP, after which MB1 is free (DEDUCED
log 35). -/
def State.respondMb (s : State) (m op tag status : Nat) (body : List Byte) : State :=
  let b := s.mbox m
  let r := rspBytes op tag status body
  let s := s.setMbox m { b with rsp := putRsp b.rsp r, st := if m = 1 then .idle else .done, aged := false }
  if m = 1 then s.sendMsg upPorts tMbrsp 0 b.from_ r else s

/-- End the service with a response; a job slice follows (R348, R350). -/
def State.reply (s : State) (v : Service) (status : Nat) (body : List Byte) : State :=
  let s := s.respondMb v.mb v.op v.tag status body
  { s with hl := { s.hl with serving := none, slice := true } }

/-- A response with STATUS OK. -/
def State.ok (s : State) (v : Service) (body : List Byte) : State := s.reply v 0 body
/-- A refusal: LEN 4 with DETAIL (R345). -/
def State.err (s : State) (v : Service) (status detail : Nat) : State := s.reply v status (bytesLE detail 4)

/-! ## Events (R352 to R354) -/

/-- The MB1 ring is drained by the port logic: MBRSP with EVENT = 1, then RD (R354). -/
def State.drainMb1 (s : State) : State :=
  let b := s.mbox 1
  if b.rd = b.wr then s
  else
    let e := (mget (fun _ => (0 : BitVec 256)) b.evt (b.rd % 8)).toNat
    (s.setMbox 1 { b with rd := (b.rd + 1) % 16 }).sendMsg upPorts tMbrsp 1 s.headAddr (bytesLE e 32)

/-- Post an event entry to mailbox `m`. -/
def State.postTo (s : State) (m code len tag data : Nat) : State :=
  let s := s.ringEvent m code len tag data
  if m = 1 then s.drainMb1 else s

/-- Post a general event to every mailbox whose mask enables it (R353). -/
def State.postGeneral (s : State) (code len data : Nat) : State :=
  forAll 8 (fun m t => if t.bit (MB m 0x208) code then t.postTo m code len 0xFFFF data else t) s

/-! ## Statuses of Table CMD-1 and details of R366 and Table CFG-14 -/

def stBUSY : Nat := 1
def stBAD_OPCODE : Nat := 2
def stBAD_LENGTH : Nat := 3
def stBAD_ARG : Nat := 4
def stDENIED : Nat := 5
def stNOT_READY : Nat := 6
def stNO_HOLDUP : Nat := 7
def stCHECK_FAIL : Nat := 8
def stCONFLICT : Nat := 9
def stTIMEOUT : Nat := 10
def stSTALE : Nat := 11
def stGATED : Nat := 12
def stSTORE_WORN : Nat := 13
def stINTERNAL : Nat := 14

def dLIFECYCLE : Nat := 0x0005
def dKEY : Nat := 0x0032
def dSIGNATURE : Nat := 0x0033
def dQUEUE : Nat := 0x0041
def dSCHEDULE : Nat := 0x0049
def dSTALLED : Nat := 0x0050
def dABORTED : Nat := 0x0051
def dEMPTY_SLOT : Nat := 0x0052
def dNOT_HEAD : Nat := 0x0060
def dNOTHING_STAGED : Nat := 0x0061
def dNO_STREAM : Nat := 0x0062
def dPOWER_MODE : Nat := 0x0063
def dNO_WAIT : Nat := 0x0064

end Sys2Proof.Machine
end

