-- ==== Sys2Proof/Machine/Swap.lean ====
section
/-! DEFINITION. Contexts and the swap wave (spec/05): the wave plan, schedule steps, fabric requests, the limiter and
the swap edge. -/

namespace Sys2Proof.Machine

/-! ## The wave plan (R147 to R149) -/

/-- A schedule table as (context, cycles) steps (R130). -/
def tableSteps (t : List Word) : List (Nat × Nat) :=
  (List.range (bits (t.getD 0 0).toNat 0 5)).map (fun j =>
    let e := bits (t.getD (2 + j / 2) 0).toNat (16 * (j % 2)) 16
    (bits e 13 3, bits e 0 13))

/-- REQ_EN of a table. -/
def tableReq (t : List Word) : Bool := (t.getD 0 0).toNat.testBit 8

/-- Nominal start of step `j` (R131). -/
def nominal (steps : List (Nat × Nat)) (j : Nat) : Nat := ((steps.take j).map (·.2)).sum

/-- Steps whose start is a candidate of the plan, with nominal start (R148). -/
def candidates (t : List Word) : List (Nat × Nat) :=
  let st := tableSteps t
  match st with
  | [] => if tableReq t then [(0, 0)] else []
  | _ =>
    ((List.range st.length).filter (fun j =>
      tableReq t || (st.getD j (0, 0)).1 ≠ (st.getD ((j + st.length - 1) % st.length) (0, 0)).1)).map
      (fun j => (j, nominal st j))

/-- A region, or a coupled pair under its lower number, while the plan is computed: candidates left, shift so far,
shifts given. -/
structure PlanReg where
  r : Nat
  size : Nat
  todo : List (Nat × Nat)
  h : Nat := 0
  shifts : List (Nat × Nat) := []
  deriving DecidableEq, Repr

/-- The candidates granted from the head of the list while they fit within `w` (R147). -/
def fit {α : Type} (size : α → Nat) : Nat → List α → List α
  | _, [] => []
  | w, x :: xs => if size x ≤ w then x :: fit size (w - size x) xs else []

/-- Due cycle of the next candidate of a region. -/
def PlanReg.due (p : PlanReg) : Nat := match p.todo with
  | (_, st) :: _ => st + p.h
  | [] => 0

/-- One edge of the plan. -/
def planEdge (w t : Nat) (l : List PlanReg) : List PlanReg :=
  let ready := l.filter (fun p => !p.todo.isEmpty && decide (p.due ≤ t))
  let granted := (fit (·.size) w (sortDue PlanReg.due ready)).map (·.r)
  l.map (fun p =>
    match p.todo with
    | (j, st) :: rest =>
      if granted.contains p.r then { p with todo := rest, h := t - st, shifts := p.shifts ++ [(j, t - st)] } else p
    | [] => p)

/-- The wave plan of all regions over one frame of `P` cycles. -/
def wavePlan (P w : Nat) (tbl : Nat → List Word) (coupled : Nat → Bool) : List PlanReg :=
  let l := ((List.range 96).filter (fun r => r < 48 || !coupled (r - 48))).map
    (fun r => ({ r, size := if r < 48 && coupled r then 2 else 1, todo := candidates (tbl r) } : PlanReg))
  let l := l.filter (fun p => !p.todo.isEmpty)
  (List.range P).foldl (fun l t => planEdge w t l) l

/-- Shift H of step `j` of region `r` in a plan (R149). -/
def planShift (plan : List PlanReg) (coupled : Nat → Bool) (r j : Nat) : Nat :=
  let k := if r ≥ 48 && coupled (r - 48) then r - 48 else r
  match plan.find? (fun p => p.r = k) with
  | some p => match (p.shifts.filter (fun x => x.1 ≤ j)).getLast? with
    | some x => x.2
    | none => 0
  | none => 0

/-- Does the plan keep R47 in every region: every candidate granted, and the last step inside the frame? -/
def planKeeps (P w : Nat) (tbl : Nat → List Word) (coupled : Nat → Bool) : Bool :=
  let plan := wavePlan P w tbl coupled
  plan.all (fun p => p.todo.isEmpty) &&
  (List.range 96).all (fun r =>
    let st := tableSteps (tbl r)
    match st.length with
    | 0 => !tableReq (tbl r) || decide (planShift plan coupled r 0 + 2 ≤ P)
    | n + 1 => decide (nominal st (n + 1) + planShift plan coupled r n ≤ P))

/-- Conditions of Table CTX-3 on one table by itself. -/
def tableValid (t : List Word) : Bool :=
  let n := bits (t.getD 0 0).toNat 0 5
  let entry (j : Nat) : Nat := bits (t.getD (2 + j / 2) 0).toNat (16 * (j % 2)) 16
  decide (n ≤ 16) && bits (t.getD 0 0).toNat 5 3 = 0 && bits (t.getD 0 0).toNat 9 7 = 0 && bits (t.getD 0 0).toNat 25 7 = 0
    && bits (t.getD 1 0).toNat 27 5 = 0
    && (List.range 16).all (fun j =>
      if j < n then decide (2 ≤ bits (entry j) 0 13 ∧ bits (entry j) 0 13 ≤ 4096) else entry j = 0)

/-- Coupling as the wave plan counts it: that of the hold edge until a held pair is released (R287). -/
def State.planCoupled (s : State) (r : Nat) : Bool :=
  (((s.region (r % 48)).cpl).orElse (fun _ => (s.region (r % 48 + 48)).cpl)).getD (s.coupled r)

/-- The plan of the tables in force. -/
def State.plan (s : State) : List PlanReg := wavePlan s.P s.wMax s.table s.planCoupled

/-- Shift of step `j` of region `r` in force, with what commanded swaps added in this frame (R139, R149). -/
def State.shift (s : State) (r j : Nat) : Nat := planShift s.plan s.planCoupled r j + (s.region r).extra

/-! ## Pending swaps -/

/-- Regions that swap together with `r` as one candidate (R123, R146). -/
def State.pairOf (s : State) (r : Nat) : List Nat := if s.coupled r then [r % 48, r % 48 + 48] else [r]

/-- Does region `r` lead its candidate: an uncoupled region, or the lower one of a coupled pair? -/
def State.leads (s : State) (r : Nat) : Bool := r < 48 || !s.coupled r

/-- PENDING, PEND_CTX and PEND_REQ of region `r` (Table CTX-5). -/
def State.showPend (s : State) (r ctx : Nat) (cls : SwapClass) : State :=
  ((s.setBit (RG r 0) 3 true).setFld (RG r 0) 4 3 ctx).setBit (RG r 0) 7 (cls = .request)

/-- Make a swap of the candidate that region `r` leads pending. -/
def State.pend (s : State) (r ctx : Nat) (cls : SwapClass) (due grant step : Nat) (change : Option Nat) : State :=
  let s := (s.pairOf r).foldl (fun t k => t.showPend k ctx cls) s
  s.setRegion r { s.region r with cls, due, grant, pendStep := step, change }

/-- Cancel the pending swap of region `r`. -/
def State.unpend (s : State) (r : Nat) : State :=
  let s := ((s.setBit (RG r 0) 3 false).setFld (RG r 0) 4 3 0).setBit (RG r 0) 7 false
  s.setRegion r { s.region r with change := none }

/-- A request without effect (R137). -/
def State.dropReq (s : State) (r : Nat) : State := s.count (RG r 0x10) 16 16 1

/-- Cancel the pending swap of the candidate that region `r` leads. -/
def State.unpendAll (s : State) (r : Nat) : State := (s.pairOf r).foldl State.unpend s

/-- Drop a request of a leading region that waits (R137). -/
def State.dropPendingReq (s : State) (r : Nat) : State :=
  if s.swapPending r && decide ((s.region r).cls = .request) then (s.unpendAll r).dropReq r else s

/-- Is context `ctx` loaded in every region that swaps with `r` (R128)? -/
def State.canEnter (s : State) (r ctx : Nat) : Bool := (s.pairOf r).all (fun k => s.loaded k ctx)

/-- Requests that wait for a context that is not loaded any more have no effect (R137, R293). -/
def State.dropUnloaded (s : State) : State :=
  forAll 96 (fun r t => if t.leads r && t.swapPending r && !t.canEnter r (t.pendCtx r) then t.dropPendingReq r else t) s

/-- The current step becomes `j`, with shift `h` (Tables CTX-5, CTX-8). -/
def State.setStep (s : State) (r j h : Nat) : State :=
  let s := (s.setFld (RG r 0) 8 4 j).setFld (RG r 0x14) 0 13 h
  s.setFld (RG r 0x14) 16 13 (max h (s.fld (RG r 0x14) 16 13))

/-- Context of step `j`; a table with N_STEPS = 0 runs context 0 (R130). -/
def State.stepCtx (s : State) (r j : Nat) : Nat := if s.nSteps r = 0 then 0 else (s.stepEntry r j).1

/-- The planned start of step `j` of the candidate that `r` leads has come, at `due` before its own deferral: a swap falls
due if the step's context differs from the active one and is loaded (R128, R132, R134). A step 0 that starts later than the
tick waits for SCHEDULED_SWAP (R131). A request waits until the swap that takes its place is due, or until the planned start
(R137). -/
def State.startStep (s : State) (r j due grant : Nat) (change : Option Nat) : State :=
  let ctx := s.stepCtx r j
  if ctx ≠ s.active r ∧ s.canEnter r ctx then (s.dropPendingReq r).pend r ctx .planned due grant j change
  else if grant ≤ s.tick.cyc then
    let s := s.dropPendingReq r
    let h := s.shift r j
    (s.pairOf r).foldl (fun t k => (t.setRegion k { t.region k with wait0 := false }).setStep k j h) s
  else if j = 0 then s.setRegion r { s.region r with wait0 := true }
  else s

/-- Step 0 of region `r` at the tick edge (Table TCK-4, R134, R137); shifts restart at 0 whether or not the schedule runs
(R149). -/
def State.tickSchedule (r : Nat) (s : State) : State :=
  let s := s.setRegion r { s.region r with extra := 0 }
  if !s.schedRun r || (s.region r).held || s.clk.stopped then s else
  let ch := (s.region r).change
  if !s.leads r then s else
  let s := (s.dropPendingReq r).unpendAll r
  let s := (s.pairOf r).foldl (fun t k => t.setRegion k { t.region k with extra := 0, wait0 := false }) s
  s.startStep r 0 s.tick.cyc (s.tick.cyc + s.shift r 0) ch

/-- SCHEDULED_SWAP (R131 to R134, R136): the next step of region `r` starts when the cycle of its nominal start plus the
shift so far has come; a swap that its own deferral moves on is due from there (R147, R149, DEDUCED log 152). -/
def State.scheduledSwap (s : State) (r : Nat) : State :=
  let j := if (s.region r).wait0 then 0 else s.stepNo r + 1
  if !s.schedRun r || (s.region r).held || s.clk.stopped || !s.leads r || (j ≠ 0 && decide (s.nSteps r ≤ j))
      || (s.swapPending r && (s.region r).cls ≠ .request) then s
  else
    let st := nominal (tableSteps (s.table r)) j
    let due := s.frameStart + st + if j = 0 then 0 else s.shift r (j - 1)
    let grant := s.frameStart + st + s.shift r j
    if s.tick.cyc < due then s else s.startStep r j due grant none

def execScheduledSwap (r : Fin 96) (s : State) : Host.Outcome State Fault Refusal := .next (s.scheduledSwap r.val)

/-- FABRIC_SWAP_REQUEST (R135, R137): the region controller samples strobe and targets in the cycle that runs; it does
not sample at the edge that ends a swap cycle, nor while held or before the schedules run (R133, R281). -/
def State.fabricRequest (s : State) (r : Nat) : State :=
  let x := s.region r
  let e (a lo : Nat) : Nat := s.fld a lo 9
  if !s.reqEn r || !s.schedRun r || x.held || x.swapCycle || s.clk.stopped || !s.leads r
      || !s.qOut r (e (RG r 4) 16) then s
  else
    let tgt := (s.qOut r (e (RG r 8) 0)).toNat + 2 * (s.qOut r (e (RG r 8) 9)).toNat + 4 * (s.qOut r (e (RG r 8) 18)).toNat
    if tgt = s.active r ∨ !s.canEnter r tgt ∨ s.swapPending r then s.dropReq r
    else s.pend r tgt .request (s.tick.cyc + 2) (s.tick.cyc + 2) 0 none

def execFabricSwapRequest (r : Fin 96) (s : State) : Host.Outcome State Fault Refusal := .next (s.fabricRequest r.val)

/-! ## The limiter and the swap edge (R142 to R147) -/

/-- Count a swap of a commanded change for its EV_SWAP_DONE (R141). -/
def State.reportSwap (s : State) (id : Option Nat) (n : Nat) : State :=
  match id with
  | none => s
  | some i => { s with hl := { s.hl with reports := s.hl.reports.map (fun p =>
      if p.id = i then { p with swaps := p.swaps + n, last := s.tick.count, cyc := s.tick.cyc } else p) } }

/-- The swap of one region at the swap edge (R142, Tables CTX-4, CTX-5). -/
def State.enterContext (s : State) (r ctx : Nat) : State :=
  let s := (s.setFld (RG r 0) 0 3 ctx).unpend r
  let s := s.setReg (RG r 0x0C) (s.reg (RG r 0x0C) + 1)
  s.setRegion r { s.region r with swapCycle := true }

/-- Grant the pending swap of a leading region `r`; `pair` are the regions that swap with it. The deferral of a commanded swap shifts
the later steps of its region (R140); what that does to other regions at the limit W, and a deferral of theirs, shifts no step
further (DESIGN CHOICE log 182). -/
def State.grant (s : State) (r : Nat) (pair : List Nat) : State :=
  let x := s.region r
  let ctx := s.pendCtx r
  let cls := x.cls
  let extra := if cls = .commanded then x.extra + (s.tick.cyc - x.due) else x.extra
  let j := x.pendStep
  let s := s.reportSwap x.change pair.length
  let h := planShift s.plan s.planCoupled r j + extra
  let s := pair.foldl (fun t k => t.enterContext k ctx) s
  match cls with
  | .request => s.count (RG r 0x10) 0 16 1
  | _ => pair.foldl (fun t k => (t.setRegion k { t.region k with wait0 := false, extra := extra }).setStep k j h) s

/-- Pending swaps whose due cycle has come, planned class first, older first (R147); commanded swaps outside the plan
after it (R139). -/
def State.dueSwaps (s : State) : List Nat :=
  if s.clk.stopped then [] else
  let l := (List.range 96).filter (fun r =>
    s.swapPending r && s.leads r && !(s.region r).held && decide ((s.region r).due ≤ s.tick.cyc))
  let of (c : SwapClass) := sortDue (fun r => (s.region r).due) (l.filter (fun r => (s.region r).cls = c))
  of .planned ++ of .commanded ++ of .request

/-- The candidates of `l` that are granted while they fit within `w`: the plan fixes the edge of a planned swap, so that one
that fits before its edge is passed over; none is granted after the first that does not fit (R147, R148, DEDUCED log 153). -/
def State.fitDue (s : State) : Nat → List Nat → List Nat
  | _, [] => []
  | w, r :: rs =>
    if w < (s.pairOf r).length then []
    else if (s.region r).grant ≤ s.tick.cyc then r :: s.fitDue (w - (s.pairOf r).length) rs
    else s.fitDue w rs

/-- Those that the limiter grants at this edge, within what W leaves of it: the others take slots that the plan leaves or that
a planned start leaves unused (R146 to R148). -/
def State.granted (s : State) : List Nat :=
  s.fitDue (s.wMax - if s.fab.swapAt = s.tick.cyc then s.fab.swapN else 0) s.dueSwaps

/-- SWAP (R142, R146, R147, Table CTX-9): grants, PEAK and DEFER_CYC. A swap that is due and not granted is deferred. -/
def State.swap (s : State) : State :=
  let due := s.dueSwaps
  let g := s.granted
  let n := (if s.fab.swapAt = s.tick.cyc then s.fab.swapN else 0) + (g.map (fun r => (s.pairOf r).length)).sum
  let s := if g.isEmpty then s else
    let t := (g.map (fun r => (r, s.pairOf r))).foldl (fun t x => t.grant x.1 x.2) s
    let t := { t with fab := { t.fab with swapAt := s.tick.cyc, swapN := n } }
    t.setFld (CK 0x834) 0 7 (max n (t.fld (CK 0x834) 0 7))
  if decide (g.length < due.length) && s.fab.deferAt ≠ some s.tick.cyc then
    let s := s.count (CK 0x834) 16 16 1
    { s with fab := { s.fab with deferAt := some s.tick.cyc } }
  else s

def execSwap (s : State) : Host.Outcome State Fault Refusal := .next s.swap

end Sys2Proof.Machine
end

