-- ==== Sys2Proof/Machine/Chain.lean ====
section
/-! DEFINITION. The Zhevley chain (spec/10): calibration, bypass, enumeration, superframes, the beached state, fault
reports, neighbour exchange, and the line's ordered sets and messages but for broadcasts. -/

namespace Sys2Proof.Machine

def State.setChain (s : State) (c : Chain) : State := { s with chain := c }

/-! ## Where things come from (R300) -/

/-- Is port `p` the active upstream, the active downstream port, and able to receive? -/
def State.fromUp (s : State) (p : Nat) : Bool := s.upPort = some p && !s.isHead && s.portUp p
def State.fromDn (s : State) (p : Nat) : Bool := s.dnPort = some p && s.portUp p
def State.fromAny (s : State) (p : Nat) : Bool := s.fromUp p || s.fromDn p

/-- A message whose CRC fails is discarded and counted at the receiving port, active or not (R303). -/
def State.zmsg (s : State) (p : Nat) (m : ZMsg) (f : State → State) : State :=
  if m.crcOk then f s else if s.portUp p then s.inc (ZV p 0x24) else s

/-- May the unit act on a message: an unassigned one accepts only what is addressed to 0xFFF (R308)? -/
def State.accepts (s : State) (m : ZMsg) : Bool := s.assigned || m.dst = 0xFFF

/-- Field of a message payload. -/
def zfield (m : ZMsg) (off n : Nat) : Nat := fieldAt (natLE m.payload) off n

/-! ## Fault reports (R330 to R332, Tables ZVL-5, ZVL-6) -/

/-- 10 ms, 1 ms in picoseconds. -/
def ms10 : Nat := 10 ^ 10

/-- The head's record of an origin, and at most one event in 10 ms (R332). An origin that finds no record free posts its
event and is not kept (DESIGN CHOICE log 36). -/
def State.headRecord (s : State) (r : FRep) : State :=
  if !s.isHead then s
  else
    let s := if r.code = 3 then s.setChain { s.chain with
      roster := s.chain.roster.map (fun e => if e.addr = r.origin then { e with beached := true } else e) } else s
    let post (n : Nat) (t : State) : State :=
      t.fault 0x0112 (packLE [(r.origin, 2), (r.code, 1), (0, 1), (r.reporter, 2), (r.frame, 6), (n, 4)])
    match s.chain.recs.find? (fun e => e.rep.origin = r.origin) with
    | some e =>
      let quiet := decide (s.timePs < e.evtPs + ms10)
      let e' : FRec := ⟨r, s.timePs, if quiet then e.evtPs else s.timePs, if quiet then satAdd 32 e.suppressed 1 else 0⟩
      let s := s.setChain { s.chain with recs := s.chain.recs.map (fun x => if x.rep.origin = r.origin then e' else x) }
      if quiet then s else post e.suppressed s
    | none =>
      let s := if s.chain.recs.length < 64 then s.setChain { s.chain with recs := s.chain.recs ++ [⟨r, s.timePs, s.timePs, 0⟩] } else s
      post 0 s

/-- Is the pair of a report in the table and less than 10 ms old (R331)? -/
def State.knownFault (s : State) (origin code : Nat) : Bool :=
  s.chain.ftab.any (fun e => e.origin = origin && e.code = code && decide (s.timePs < e.ps + ms10))

/-- Enter a pair into the table of 4, replacing the oldest entry (R331). -/
def State.enterFault (s : State) (origin code : Nat) (conseq : Bool) : State :=
  let t := s.chain.ftab
  s.setChain { s.chain with ftab := t.drop (t.length - 3) ++ [⟨origin, code, s.timePs, conseq⟩] }

/-- Payload of a FAULT message. -/
def FRep.bytes (r : FRep) : List Byte :=
  bytesLE (packLE [(r.origin, 2), (r.code, 1), (0, 1), (r.reporter, 2), (r.frame, 6), (r.detail, 4)]) 16

/-- Originate a report: it enters the own table and leaves both ways (R330, R331). -/
def State.originate (s : State) (r : FRep) : State :=
  if s.knownFault r.origin r.code then s
  else ((s.enterFault r.origin r.code false).sendMsg (upPorts ++ downPorts) tFault 0 0xFFF r.bytes).headRecord r

/-- A report of the unit's own now. -/
def State.report (s : State) (origin code detail : Nat) : FRep := ⟨origin, code, s.zaddr, s.frameNo, detail⟩

/-- Originate a report about the unit itself (R330). -/
def State.selfReport (s : State) (code detail : Nat) : State := s.originate (s.report s.zaddr code detail)

/-- A report that waits 1 ms first (R330). -/
def State.waitReport (s : State) (r : FRep) : State := s.setChain { s.chain with waits := s.chain.waits ++ [r] }

/-- FAULT_REPORT_WAIT: the oldest waiting report leaves (R330). -/
def State.faultWait (s : State) : State :=
  match s.chain.waits with
  | [] => s
  | r :: rest => (s.setChain { s.chain with waits := rest }).originate r

def execFaultReportWait (s : State) : Host.Outcome State Fault Refusal := .next s.faultWait

/-- A received report: known ones are dropped, others entered, passed on, and waiting symptoms of an origin at most 2
positions upstream are logged as consequences (R330, R331). -/
def State.faultIn (s : State) (p : Nat) (m : ZMsg) : State :=
  let r : FRep := ⟨zfield m 0 2 % 4096, zfield m 2 1, zfield m 4 2 % 4096, zfield m 6 6, zfield m 12 4⟩
  if s.knownFault r.origin r.code then s
  else if !s.accepts m then s.passOn ((upPorts ++ downPorts).filter (· ≠ p)) tFault m
  else
    let s := (s.enterFault r.origin r.code false).passOn ((upPorts ++ downPorts).filter (· ≠ p)) tFault m
    let near := s.assigned && decide (r.origin < s.zaddr ∧ s.zaddr ≤ r.origin + 2)
    let s := if near then
      let w := s.chain.waits
      w.foldl (fun t x => t.enterFault x.origin x.code true) (s.setChain { s.chain with waits := [] }) else s
    s.headRecord r

def execFaultMsg (p : Fin 4) (m : ZMsg) (s : State) : Host.Outcome State Fault Refusal :=
  .next (s.looped p.val (.msg tFault m) (fun u => u.zmsg p.val m (fun t => if t.fromAny p.val then t.faultIn p.val m else t)))

/-! ## Calibration (R309 to R311, R321, R58) -/

/-- D and E of UP port `p` from what CALD told and the hop measured (R310, R311). -/
def State.portD (s : State) (p : Nat) : Nat := (s.reg (ZV p 0xC) + s.reg (ZV p 8)) % 2 ^ 32
def State.portE (s : State) (p : Nat) : Nat := s.reg (ZV p 0x10) + 1 + s.fld (ZV p 0x14) 16 16

/-- PAD, D_out and E_out (R310, R311): F is 24 ns, 76,800 units of 1/256 UI. -/
def State.pad (s : State) : Nat := s.fld (ZV 0 0x81C) 0 12
def State.dOut (s : State) : Nat := (if s.isHead then 0 else s.reg (ZV 0 0x814)) + 76800 + 256 * s.pad
def State.eOut (s : State) : Nat := if s.isHead then 0 else s.reg (ZV 0 0x818)

/-- CALD on both DN ports. -/
def State.sendCald (s : State) : State :=
  s.sendMsg downPorts tCald 0 0xFFF (bytesLE s.dOut 4 ++ bytesLE s.eOut 4)

/-- CALD after a change: `old` is the state before it (R310). -/
def State.caldAfter (s old : State) : State := if s.dOut = old.dOut && s.eOut = old.eOut then s else s.sendCald

/-- D in fabric cycles, halves up: D in 0.3125 ps, Tc a fraction (R311). -/
def State.dCycles (s : State) (d : Nat) : Nat :=
  let (a, b) := s.tc
  (d * 3125 * 2 * b + 10000 * a) / (20000 * a)

/-- OFS and ADJ for the delay `d` (R58). -/
def State.writeOfs (s : State) (d : Nat) : State :=
  let n := s.dCycles d
  let ofs := (s.P - n % s.P) % s.P
  (s.setFld (CK 0x808) 0 12 ofs).setFld (CK 0x820) 0 16 ((n + ofs) / s.P)

/-- D and E of the unit become those of UP port `p`. -/
def State.takeDelay (s : State) (p : Nat) : State :=
  (s.setReg (ZV 0 0x814) (s.portD p)).setReg (ZV 0 0x818) (s.portE p)

/-- Exchange settings of side `k` (Table ZVL-10). -/
def State.xEn (s : State) (k : Nat) : Bool := s.bit (ZV k 0x40) 0
def State.xS (s : State) (k : Nat) : Nat := s.fld (ZV k 0x40) 1 5
def State.xL (s : State) (k : Nat) : Nat := s.fld (ZV k 0x40) 6 11

/-- Active port of side `k`. -/
def State.sidePort (s : State) (k : Nat) : Option Nat := if k = 0 then s.upPort else s.dnPort

/-- L_REQ of side `k` (R321); a DN port has no hop delay of its own and reads 0 (Table ZVL-8). -/
def State.lReq (s : State) (k : Nat) : Nat :=
  let h := match s.sidePort k with
    | some p => s.reg (ZV p 8)
    | none => 0
  let ps10 := h * 3125 + ((10 * s.xS k + 8) * 800 + 16000) * 10000
  let (a, b) := s.tc
  (ps10 * b + 10000 * a - 1) / (10000 * a) + 1

/-- Headland writes L_REQ of each enabled side and posts EXCH_L once (R321). -/
def State.writeLReq (s : State) : State :=
  forAll 2 (fun k t =>
    if !t.xEn k then t
    else
      let l := t.lReq k
      let t := t.setFld (ZV k 0x44) 0 11 l
      if t.xL k < l ∧ !(t.side k).lPosted then
        (t.setSide k { t.side k with lPosted := true }).fault 0x010F (packLE [(k, 1), (0, 1), (t.xL k, 2), (l, 2)])
      else t) s

/-- Headland ends a calibration on the active UP port `p`: OFS, ADJ and ALIGN_DONE, or CAL_BOUND and ALIGNED = 0 (R311). -/
def State.calibrate (s : State) (p : Nat) : State :=
  let s := ((s.takeDelay p).caldAfter s).writeLReq
  let e := s.reg (ZV 0 0x818)
  if e * 15625 * 2 * s.tc.2 ≤ s.tc.1 * 100000 then
    let s := s.writeOfs (s.reg (ZV 0 0x814))
    { s.alignDone with hl := { s.alignDone.hl with calOfs := s.ofs, calAdj := s.fld (CK 0x820) 0 16, calDone := true } }
  else ((s.setBit (CK 0x80C) 2 false).fault 0x010C e).selfReport 8 0x010C

/-- Start a measurement of UP port `p`: 256 CAL sets (R309), on both UP ports as everything that is sent (R300); at low rate
it waits for the return to full rate (R338). -/
def State.measure (s : State) (p : Nat) : State :=
  if p % 2 = 1 ∨ !s.portUp p ∨ s.low p ∨ s.isHead then s
  else
    let s := s.setChain { s.chain with meas := s.chain.meas.filter (fun x => x.1 ≠ p) ++ [(p, 0, 0)] }
    forAll 256 (fun i t => t.sendZ upPorts (.set setCal i)) s

/-- ZV_CMD.MEASURE. -/
def execZvMeasure (p : Fin 4) (s : State) : Host.Outcome State Fault Refusal := .next (s.measure p.val)

/-- ECHO with the round trip in 1/256 UI (R309). -/
def State.echo (s : State) (p rt : Nat) : State :=
  if !s.portUp p then s
  else s.setChain { s.chain with meas := s.chain.meas.map (fun x => if x.1 = p then (p, x.2.1 + 1, x.2.2 + rt) else x) }

def execEcho (p : Fin 4) (seq : Byte) (rt : Nat) (s : State) : Host.Outcome State Fault Refusal := .next (s.looped p.val (.set setEcho seq.toNat) (fun t => t.echo p.val rt))

/-- Set the active upstream or downstream code of ZV_BYPASS and the ACTIVE bits of the two ports (Table ZVL-11); a
change upstream clears ALIGNED (R58), and an SOF of the old port is no carrier of a SUPER of the new one (R51). -/
def State.setActive (s : State) (up : Bool) (code : Nat) : State :=
  let (a, b) := if up then (0, 2) else (1, 3)
  let s := if up && decide (s.fld (ZV 0 0x820) 0 2 ≠ code) then
    { s.setBit (CK 0x80C) 2 false with tick := { s.tick with sofs := [], sofLast := none, superSeq := none } } else s
  ((s.setFld (ZV 0 0x820) (if up then 0 else 2) 2 code).setBit (ZV a 4) 2 (code = 0)).setBit (ZV b 4) 2 (code = 1)

/-- A port of a direction in which none is active comes up (DEDUCED log 34); one that was at low rate once its hop has been
measured (R338). -/
def State.activate (s : State) (p : Nat) : State :=
  let up := p % 2 = 0
  let cur := if up then s.upPort else s.dnPort
  if cur.isSome || (up && s.isHead) || !s.portUp p || s.low p || s.chain.slow.contains p then s
  else if 2 ≤ p && s.portUp (p - 2) && !s.low (p - 2) then s
  else s.setActive up (p / 2)

/-- The hop of port `p` has been measured: in RUN the port may become active (R338). -/
def State.hopKnown (s : State) (p : Nat) : State :=
  let s := s.setChain { s.chain with slow := s.chain.slow.filter (· ≠ p) }
  if s.mode = 0 then s.activate p else s

/-- CAL: the unit answers ECHO in the direction that the port belongs to (R300, R309). With the answer to the last of 256 the
neighbour below has measured the hop of a DN port. -/
def State.calIn (s : State) (p seq : Nat) : State :=
  if !s.portUp p then s
  else
    let s := s.sendZ (if p % 2 = 1 then downPorts else upPorts) (.set setEcho seq)
    if p % 2 = 1 ∧ seq = 255 then s.hopKnown p else s

def execCal (p : Fin 4) (seq : Byte) (s : State) : Host.Outcome State Fault Refusal := .next (s.looped p.val (.set setCal seq.toNat) (fun t => t.calIn p.val seq.toNat))

/-- Hop delay from `n` round trips with sum `sum`, and ASYM: the average to the nearest 1/256 UI; which way a half goes is
not stated and is a free value (log 1). -/
def State.hop (s : State) (n sum asym : Nat) : Nat × State :=
  let num : Int := (sum : Int) - 102400 * n
  let den : Int := 2 * n
  let q := num / den
  let r := num % den
  let (up, s) := if 2 * r < den then (false, s) else if den < 2 * r then (true, s)
    else
      let (v, s) := s.draw
      (v % 2 = 1, s)
  (unsigned ((if up then q + 1 else q) + signed asym 16) 32, s)

/-- CAL_COMPLETE (R309 to R311, R321): all 256 answers have come. -/
def State.calComplete (s : State) (p : Nat) : State :=
  match s.chain.meas.find? (fun x => x.1 = p) with
  | none => s
  | some (_, n, sum) =>
    if n < 256 then s
    else
      let (h, s) := s.hop n sum (s.fld (ZV p 0x14) 0 16)
      let s := s.setReg (ZV p 8) h
      let s := s.setChain { s.chain with
        meas := s.chain.meas.filter (fun x => x.1 ≠ p)
        measured := if s.chain.measured.contains p then s.chain.measured else s.chain.measured ++ [p]
        calib := if s.chain.calib.contains p then s.chain.calib else s.chain.calib ++ [p] }
      let s := s.hopKnown p
      if s.upPort = some p && s.chain.heard.contains p then s.calibrate p else s

def execCalComplete (p : Fin 4) (s : State) : Host.Outcome State Fault Refusal := .next (s.calComplete p.val)

/-- CALD on UP port `p`, active or not (R310). What it changes ends in a calibration where the unit's own measurement has been made
since SRC changed (R311, R540). -/
def State.caldIn (s : State) (p : Nat) (m : ZMsg) : State :=
  if p % 2 = 1 ∨ !s.portUp p ∨ s.isHead ∨ !s.accepts m then s
  else
    let d := zfield m 0 4
    let e := zfield m 4 4
    let new := d ≠ s.reg (ZV p 0xC) || e ≠ s.reg (ZV p 0x10) || !s.chain.heard.contains p
    let s := (s.setReg (ZV p 0xC) d).setReg (ZV p 0x10) e
    let s := s.setChain { s.chain with heard := if s.chain.heard.contains p then s.chain.heard else s.chain.heard ++ [p] }
    if new && s.upPort = some p && s.chain.calib.contains p then s.calibrate p else s

def execCald (p : Fin 4) (m : ZMsg) (s : State) : Host.Outcome State Fault Refusal :=
  .next (s.looped p.val (.msg tCald m) (fun u => u.zmsg p.val m (fun t => t.caldIn p.val m)))

/-! ## Active ports and bypass (R300, R322 to R325, R337) -/

/-- Count a switch and latch EV_BYPASS (R323, Table CMD-15). -/
def State.bypassEvent (s : State) : State :=
  let s := s.count (ZV 0 0x820) 16 16 1
  s.latch 7 0 (packLE [(s.fld (ZV 0 0x820) 0 2, 1), (s.fld (ZV 0 0x820) 2 2, 1), (s.pad, 2), (s.fld (ZV 0 0x820) 16 16, 2)])

/-- The upstream switch to port `p` in hardware (R323): OFS, ADJ and PAD; ALIGNED is cleared; Headland measures anew.
The quotient (D_old − D_new) ÷ 80 ps that is no whole number is rounded in a way not stated: a free value (log 1). -/
def State.switchUp (s : State) (p : Nat) : State :=
  let old := s
  let dOld : Int := s.reg (ZV 0 0x814)
  let s := (s.setActive true (p / 2)).takeDelay p
  let diff : Int := dOld - s.reg (ZV 0 0x814)
  let (v, s) := if diff % 256 = 0 then (0, s) else s.draw
  let want : Int := s.pad + diff / 256 + (v % 2 : Nat)
  let s := s.writeOfs (s.reg (ZV 0 0x814))
  let s := s.setFld (ZV 0 0x81C) 0 12 (min want 4095).toNat
  let s := if want < 0 then s.fault 0x0110 (unsigned want 32) else s
  (s.caldAfter old).bypassEvent.measure p

/-- May port `p` take over at once: up, in RUN at full rate and measured (R323, R338), in a sleeping unit at low rate too
(R448)? -/
def State.canTake (s : State) (p : Nat) : Bool := s.portUp p && (s.mode ≠ 0 || (!s.low p && !s.chain.slow.contains p))

/-- The port of a direction that takes over from its active one, if it can (R323, R324); a sleeping unit switches to either other
UP port (R448). -/
def State.otherPort (s : State) (up : Bool) : Option Nat :=
  let cur := if up then s.upPort else s.dnPort
  let alt := if !up then 3 else if s.mode ≠ 0 ∧ cur = some 2 then 0 else 2
  if cur ≠ some alt ∧ s.canTake alt then some alt else none

/-- The switch to the other port of a direction (R323, R324). -/
def State.switchTo (s : State) (up : Bool) (alt : Nat) : State :=
  if up then s.switchUp alt else (s.setActive false 1).bypassEvent

/-- The active port of a direction went down: the other port of the direction takes over if it is up, otherwise none is active,
and without an active upstream port the ZVL PLL is in holdover (R323, R324, R447). -/
def State.loseActive (s : State) (up : Bool) : State :=
  match s.otherPort up with
  | some alt => s.switchTo up alt
  | none =>
    let s := s.setActive up 2
    if up then s.zvlUnlock else s

/-- The neighbour at the active port of a direction went to low rate: for R323 and R324 only that port is down, so it stays
active where no other port takes over (R337). -/
def State.slowActive (s : State) (up : Bool) : State :=
  match s.otherPort up with
  | some alt => s.switchTo up alt
  | none => s

/-- Address of the unit at the far end of port `p` (R298); of an unassigned unit it is not known and is a free value
(log 1). -/
def State.farUnit (s : State) (p : Nat) : Nat × State :=
  if !s.assigned then
    let (v, s) := s.draw
    (v % 4096, s)
  else
    let n := p / 2 + 1
    (if p % 2 = 0 then (s.zaddr + 4096 - n) % 4096 else (s.zaddr + n) % 4096, s)

/-- LINK_DOWN (R322 to R324, R330). The code errors that may have come before it are counted: a free number (log 121). -/
def State.linkDown (s : State) (p : Nat) : State :=
  if !s.link p then s
  else
    let s := ((s.setBit (ZV p 4) 0 false).setBit (ZV p 4) 8 true).inc (ZV p 0x28)
    let s := s.setBit (ZV p 4) 1 false
    let (v, s) := s.draw
    let s := s.count (ZV p 0x20) 0 32 (v % 2 ^ 32)
    let s := s.latch 6 p (p * 256)
    let s := s.setChain { s.chain with
      meas := s.chain.meas.filter (fun x => x.1 ≠ p), measured := s.chain.measured.filter (· ≠ p), heard := s.chain.heard.filter (· ≠ p)
      calib := s.chain.calib.filter (· ≠ p)
      slow := s.chain.slow.filter (· ≠ p) }
    let (far, s) := s.farUnit p
    let s := if p < 2 then s.originate (s.report far 1 p) else s.waitReport (s.report far 2 p)
    if s.upPort = some p then s.loseActive true
    else if s.dnPort = some p then s.loseActive false
    else s

/-- LINK_DOWN: the chain's marks may stop with the link (R450). -/
def execLinkDown (p : Fin 4) (s : State) : Host.Outcome State Fault Refusal := .next (s.linkDown p.val).trimFollow

/-- LINK_UP (R309, R322): a measurement of an UP port starts. -/
def State.linkUp (s : State) (p : Nat) : State :=
  if s.link p || !s.portOn p then s
  else ((s.setBit (ZV p 4) 0 true).activate p).measure p

def execLinkUp (p : Fin 4) (s : State) : Host.Outcome State Fault Refusal := .next (s.linkUp p.val)

/-- Is this frame the first of a superframe (R314)? -/
def State.superStart (s : State) : Bool := s.frameNo % 64 = 0

/-- BYPASS_RETURN (R325): the conditions on the line have held for 100 ms; after low rate the hop must be measured first, on
either side (R338). -/
def State.bypassReturn (s : State) (up : Bool) : State :=
  let cur := if up then s.upPort else s.dnPort
  let p := if up then 0 else 1
  if cur ≠ some (p + 2) ∨ !s.superStart ∨ !s.portUp p ∨ s.low p ∨ s.chain.slow.contains p ∨ s.fld (ZV p 4) 3 3 ≠ 3 ∨ s.bit (ZV 0 0x820) 4
    ∨ (up && !s.chain.measured.contains 0) then s
  else if up then s.switchUp 0 else (s.setActive false 0).bypassEvent

def execBypassReturn (up : Bool) (s : State) : Host.Outcome State Fault Refusal := .next (s.bypassReturn up)

/-! ## Ordered sets (R302, R312, R313, R336 to R338) -/

/-- Was an SOF with SUPER missed before the SOF of head frame `n` (its low 6 bits) that comes in cycle `cyc`? More than one
frame has passed since the last one, and a multiple of 64 lies between (R314, DEDUCED log 174). -/
def State.sofMissed (s : State) (cyc n : Nat) : Bool :=
  match s.tick.sofLast with
  | some (c, k) => decide (c + s.P + s.P / 2 < cyc) && decide (64 < k + ((n + 63 - k) % 64 + 1))
  | none => false

/-- Record an SOF for the comparison of R51 (log 174). -/
def State.recordSof (s : State) (cyc param : Nat) : State :=
  let gone : List (Option Sof) := if s.sofMissed cyc (param / 4 % 64) then [none] else []
  let here : List (Option Sof) := if param.testBit 0 then [some (s.numberSof ⟨cyc, none⟩)] else []
  { s with tick := { s.tick with sofs := s.tick.sofs ++ gone ++ here, sofLast := some (cyc, param / 4 % 64) } }

/-- SOF at cycle `c` of the frame: a source event, forwarded (R312, R313, Table TCK-1), but not at low rate (R336). One with
SUPER waits for its SUPER message (R51, R314). -/
def State.sofIn (s : State) (p param c : Nat) : State :=
  if !s.fromUp p || s.low p then s
  else
    let s := s.sendZ (downPorts.filter (fun p => !s.low p)) (.set setSof param)
    let s := s.recordSof (s.frameStart + c) param
    if s.src = 2 then s.sourceEvent c else s

def execSof (p : Fin 4) (param : Byte) (c : Nat) (s : State) : Host.Outcome State Fault Refusal :=
  .next (s.looped p.val (.set setSof param.toNat) (fun t => t.sofIn p.val param.toNat c))

/-- NB_STATE (Table ZVL-9). -/
def State.nbState (s : State) (p v : Nat) : State := if s.portUp p then s.setFld (ZV p 4) 3 4 v else s

def execIdle (p : Fin 4) (param : Byte) (s : State) : Host.Outcome State Fault Refusal :=
  .next (s.looped p.val (.set setIdle param.toNat) (fun t => t.nbState p.val param.toNat))
/-- KEEP comes at low rate only. -/
def execKeep (p : Fin 4) (param : Byte) (s : State) : Host.Outcome State Fault Refusal :=
  .next (s.looped p.val (.set setKeep param.toNat) (fun t => if t.low p.val then t.nbState p.val param.toNat else t))

/-- SLEEP (R336, R337): the port goes to low rate; a unit in RUN treats an active one as down, without event or report. -/
def State.sleepIn (s : State) (p : Nat) : State :=
  if !s.portUp p || s.low p then s
  else
    let s := s.setBit (ZV p 4) 1 true
    if s.mode ≠ 0 then s
    else if s.upPort = some p then s.slowActive true
    else if s.dnPort = some p then s.slowActive false
    else s

/-- SLEEP: the chain's marks may stop with it (R336, R450). -/
def execSleep (p : Fin 4) (s : State) : Host.Outcome State Fault Refusal := .next (s.looped p.val (.set setSleep 0) (fun t => (t.sleepIn p.val).trimFollow))

/-- The link of port `p` returns to full rate; its hop is measured before it may become active again (R338). -/
def State.fullRate (s : State) (p : Nat) : State :=
  let s := s.setBit (ZV p 4) 1 false
  (s.setChain { s.chain with
    measured := s.chain.measured.filter (· ≠ p), slow := s.chain.slow.filter (· ≠ p) ++ [p] }).measure p

/-- WAKE (R338, R465): both ends go back to full rate; with CHAIN_WAKE a sleeping unit starts its own exit. -/
def State.wakeIn (s : State) (p : Nat) : State :=
  if !s.portUp p then s
  else
    let s := if s.low p then s.fullRate p else s
    if s.mode ≠ 0 && s.bit (CK 0x200) 0 && s.upPort = some p && s.clk.self.isNone then
      { s.sendZ downPorts (.set setWake 0) with clk := { s.clk with self := some (s.nextTarget, 0) } }
    else s

def execWake (p : Fin 4) (s : State) : Host.Outcome State Fault Refusal := .next (s.looped p.val (.set setWake 0) (fun t => t.wakeIn p.val))

/-- ZV_CMD.CLR_CNT (R339). -/
def State.clrPortCnt (s : State) (p : Nat) : State :=
  let s := s.zeroRegs [ZV p 0x20, ZV p 0x24, ZV p 0x28]
  if p < 2 then s.zeroRegs [ZV p 0x48, ZV p 0x4C, ZV p 0x50] else s

def execZvClrCnt (p : Fin 4) (s : State) : Host.Outcome State Fault Refusal := .next (s.clrPortCnt p.val)

/-! ## Generation and the beached state (R327 to R329) -/

/-- The loaded generation, 0 while the unit is unconfigured (R327); a full load that runs leaves it as it is (R260). -/
def State.genLoaded (s : State) : Nat := if s.chain.unconf then 0 else s.reg (ZV 0 0x80C)
def State.genAnn (s : State) : Nat := s.reg (ZV 0 0x808)

/-- Has the start-up sequencer completed its TICK step since the last commit or cold start? -/
def State.tickStepDone (s : State) : Bool := !s.sq.steps.isEmpty && decide (s.sq.steps.idxOf 6 < s.sq.slot)

/-- Become beached (R328): `cause` 0 mismatch, 1 state lost. -/
def State.beach (s : State) (cause : Nat) : State :=
  if s.isHead then s
  else if s.beached then
    if cause = 0 then (s.setBit (ZV 0 0x800) 27 false).setChain { s.chain with mismatch := true, loadedSince := s.chain.loadedSince && s.chain.mismatch }
    else s
  else
    let s := if s.mode = 2 then s else s.snapSafe
    let s := (s.setBit (ZV 0 0x800) 26 true).setBit (ZV 0 0x800) 27 (cause = 1)
    let s := s.setChain { s.chain with mismatch := cause = 0, loadedSince := false }
    (s.announce 8 (cause + s.genAnn * 2 ^ 32 + s.genLoaded * 2 ^ 64)).selfReport 3 0

/-- The generation check at a superframe start or a SUPER (R315, R328). -/
def State.genCheck (s : State) : State :=
  if !s.isHead && s.chain.superSeen && s.genLoaded ≠ s.genAnn then s.beach 0 else s

/-- Leave the beached state at a superframe start (R329). -/
def State.unbeach (s : State) : State :=
  if !s.beached || s.genLoaded ≠ s.genAnn || !s.chain.superSeen then s
  else if (if s.chain.mismatch then s.chain.loadedSince else s.tickStepDone) then
    ((s.setBit (ZV 0 0x800) 26 false).setBit (ZV 0 0x800) 27 false).setChain { s.chain with mismatch := false }
  else s

/-! ## Enumeration (R306 to R308) -/

/-- ENUM_RPT towards the head (R308). -/
def State.sendEnumRpt (s : State) : State :=
  let e : Nat := if s.portUp 1 || s.portUp 3 then 0 else 1
  s.sendMsg upPorts tEnumRpt 0 s.headAddr (bytesLE s.zaddr 2 ++ bytesLE s.zpos 2 ++ bytesLE e 4 ++ s.unitBytes)

/-- Take address `a` and position `k`. -/
def State.takeAddr (s : State) (a k : Nat) : State :=
  ((s.setFld (ZV 0 0x800) 0 12 a).setFld (ZV 0 0x800) 12 12 k).setBit (ZV 0 0x800) 24 (a ≠ 0)

/-- ENUM from the active upstream port (R306, R307). -/
def State.enumIn (s : State) (p : Nat) (m : ZMsg) : State :=
  if !s.fromUp p || !s.accepts m then s
  else
    let step := p / 2 + 1
    let a := zfield m 0 2 % 4096 + step
    let k := (zfield m 2 2 + step) % 4096
    if 0xFFE < a then
      let s := if s.chain.rangePosted then s else
        (s.setChain { s.chain with rangePosted := true }).fault 0x010A k
      if s.assigned then s.setChain { s.chain with move := some (0, k) } else s.setFld (ZV 0 0x800) 12 12 k
    else if !s.assigned then (s.takeAddr a k).sendEnumRpt
    else s.setChain { s.chain with move := if k = s.zpos ∧ a = s.zaddr then none else some (a, k) }

def execEnumMsg (p : Fin 4) (m : ZMsg) (s : State) : Host.Outcome State Fault Refusal :=
  .next (s.looped p.val (.msg tEnum m) (fun u => u.zmsg p.val m (fun t => t.enumIn p.val m)))

/-- A later change of address, at a superframe start (R307, R308). -/
def State.moveAddr (s : State) : State :=
  match s.chain.move with
  | none => s
  | some (a, k) =>
    let old := s.zaddr
    let s := (s.takeAddr a k).setChain { (s.takeAddr a k).chain with move := none }
    (s.fault 0x010B (packLE [(old, 2), (a, 2)])).sendEnumRpt

/-- CHAIN_LEN: one more than the highest position reported with END = 1 (R308). -/
def rosterLen (l : List Roster) : Nat := l.foldl (fun n e => if e.fin then max n (e.pos + 1) else n) 0

/-- Put an entry into the head's roster. -/
def State.putRoster (s : State) (e : Roster) : State :=
  let l := s.chain.roster.filter (fun x => x.pos ≠ e.pos) ++ [e]
  (s.setChain { s.chain with roster := l }).setFld (ZV 0 0x810) 0 12 (rosterLen l)

/-- ENUM_RPT: towards the head, or into its roster (R308). -/
def State.enumRptIn (s : State) (p : Nat) (m : ZMsg) : State :=
  if !s.fromDn p then s
  else if !s.isHead then s.passOn upPorts tEnumRpt m
  else s.putRoster { pos := zfield m 2 2 % 4096, addr := zfield m 0 2 % 4096, fin := (zfield m 4 1).testBit 0, uid := BitVec.ofNat 128 (zfield m 8 16) }

def execEnumRpt (p : Fin 4) (m : ZMsg) (s : State) : Host.Outcome State Fault Refusal :=
  .next (s.looped p.val (.msg tEnumRpt m) (fun u => u.zmsg p.val m (fun t => t.enumRptIn p.val m)))

/-! ## Superframes (R314, R315) -/

/-- A position whose address exceeds 0xFFE posts ADDR_RANGE once (R306). -/
def State.postRange (s : State) (k : Nat) : State :=
  if s.chain.rangePosted then s else (s.setChain { s.chain with rangePosted := true }).fault 0x010A k

/-- The unit is the head: position 0, address BASE, D = E = 0 (R298, R306, R310, R311). -/
def State.crownHead (s : State) : State :=
  let base := s.fld (ZV 0 0x804) 0 12
  let s := if 0xFFE < base then (s.takeAddr 0 0).postRange 0 else s.takeAddr base 0
  let s := (((s.setActive true 2).setReg (ZV 0 0x814) 0).setReg (ZV 0 0x818) 0)
  ((s.setBit (ZV 0 0x800) 26 false).setBit (ZV 0 0x800) 27 false).trimFollow

/-- The role of the unit takes effect. One that is no head takes ZREC from its active upstream port: without one the ZVL PLL is in
holdover (R447). -/
def State.roleTaken (s : State) (head : Bool) : State :=
  if head then s.crownHead else if s.upPort.isNone then s.zvlUnlock else s

/-- CHAIN_ROLE takes effect (Table CMD-11); a unit that is no head any more keeps its address (R307). -/
def State.applyRole (s : State) : State :=
  match s.chain.role with
  | none => s
  | some (head, base) =>
    let s := ((s.setBit (ZV 0 0x800) 25 head).setFld (ZV 0 0x804) 0 12 base).setChain { s.chain with role := none }
    s.roleTaken head

/-- A mode change to SLEEP or DEEP_SLEEP is accepted at the head (SLEEP_PEND). -/
def State.sleepPend (s : State) : Bool :=
  s.anyChange (fun c => match c with
    | .power m => m ≠ 0
    | _ => false)

/-- The SUPER message of the head (Table ZVL-4); EPOCH rises on a calibration command. -/
def State.sendSuper (s : State) : State :=
  let s := s.setReg (ZV 0 0x808) (s.chain.genSet.getD s.genLoaded)
  let s := if s.chain.epochNext then
    (s.setFld (ZV 0 0x810) 16 16 ((s.fld (ZV 0 0x810) 16 16 + 1) % 65536)).setChain { s.chain with epochNext := false } else s
  let s := s.putRoster { pos := 0, addr := s.zaddr, fin := !(s.portUp 1 || s.portUp 3), uid := BitVec.ofNat 128 s.unitId }
  let body := packLE [(s.frameNo, 6), (s.genAnn, 4), (s.P, 2), (s.fld (ZV 0 0x804) 0 12, 2), (s.fld (ZV 0 0x810) 0 12, 2),
    (s.fld (ZV 0 0x810) 16 16, 2), ((s.chain.bcast.st = 1 : Bool).toNat + s.sleepPend.toNat * 2, 1)]
  s.sendMsg downPorts tSuper 0 0xFFF (bytesLE body 24)

/-- ENUM on the DN ports (R307). -/
def State.sendEnum (s : State) : State :=
  if s.assigned then s.sendMsg downPorts tEnum 0 0xFFF (bytesLE s.zaddr 2 ++ bytesLE s.zpos 2) else s

/-- SUPERFRAME_START: the first frame of a superframe (R307, R310, R314, R328, R329). -/
def State.superframe (s : State) : State :=
  if !s.superStart then s
  else
    let s := s.applyRole.moveAddr
    let s := if s.isHead then s.sendSuper else s.unbeach.genCheck
    s.sendEnum.sendCald

def execSuperframeStart (s : State) : Host.Outcome State Fault Refusal := .next s.superframe

/-- SOFs whose SUPER is still to come when one with SEQ `q` has come: each SUPER belongs to the oldest of them, less those whose
SUPER the count of R303 shows to be lost (R51, DEDUCED log 174). -/
def State.sofsAt (s : State) (q : Nat) : List (Option Sof) :=
  s.tick.sofs.drop (match s.tick.superSeq with
    | some x => (q + 65536 - (x + 1) % 65536) % 65536
    | none => 0)

/-- A SUPER that fails its CRC on the active upstream port belonged to the oldest SOF that waits (R303, log 174). -/
def State.loseSuper (s : State) (p : Nat) : State :=
  if s.fromUp p then { s with tick := { s.tick with
    sofs := s.tick.sofs.drop 1, superSeq := s.tick.superSeq.map (fun x => (x + 1) % 65536) } }
  else s

/-- SUPER (R315): passed on; frame number, P, generation and EPOCH checked. FRAME is compared for the SOF that carried the
SUPER, if that came on the active port (R51). -/
def State.superIn (s : State) (p : Nat) (m : ZMsg) : State :=
  if !s.fromUp p then s
  else if !s.accepts m then s.passOn downPorts tSuper m
  else
    let s := s.passOn downPorts tSuper m
    let frame := zfield m 0 6
    let l := s.sofsAt m.seq.toNat
    let s := { s with tick := { s.tick with sofs := l.drop 1, superSeq := some m.seq.toNat } }
    let s := match l.head?.join with
      | some ⟨_, some own⟩ => s.compareSof own frame
      | some o => { s with tick := { s.tick with cmp := some (o, frame) } }
      | none => s
    let p' := zfield m 10 2 % 8192
    let diff := p' ≠ s.P
    let s := if diff && !s.chain.pDiff then s.fault 0x010D (packLE [(s.P, 2), (p', 2)]) else s
    let s := s.setChain { s.chain with pDiff := diff, superSeen := true }
    let s := (s.setReg (ZV 0 0x808) (zfield m 6 4)).setFld (ZV 0 0x810) 0 12 (zfield m 14 2)
    let epoch := zfield m 16 2
    let new := epoch ≠ s.fld (ZV 0 0x810) 16 16
    let s := (s.setFld (ZV 0 0x810) 16 16 epoch).genCheck
    if new then (s.measure 0).measure 2 else s

def execSuperMsg (p : Fin 4) (m : ZMsg) (s : State) : Host.Outcome State Fault Refusal :=
  .next (s.looped p.val (.msg tSuper m) (fun t => if m.crcOk then t.superIn p.val m else (t.zmsg p.val m id).loseSuper p.val))

/-! ## Neighbour exchange (R316 to R320) -/

/-- Regions of side `k`: T1 and T3, and the border. -/
def sideRegion (k : Nat) : Nat := if k = 0 then 8 else 15
def sideBorder (k : Nat) : Nat := if k = 0 then 3 else 1

/-- The slice that side `k` captures at an edge (R317). -/
def State.sliceNow (s : State) (k : Nat) : BitVec 128 :=
  let b := 64 * sideBorder k
  BitVec.ofNat 128 (bits (s.crossReg (sideRegion k)) b 64 + bits (s.crossReg (sideRegion k + 48)) b 64 * 2 ^ 64)

/-- Is a region of side `k` held? -/
def State.sideHeld (s : State) (k : Nat) : Bool := (s.region (sideRegion k)).held || (s.region (sideRegion k + 48)).held

/-- Limits of R320: frame length of `p` cycles against 16 × S, at the set period of GCK0, which a ramp reaches at its end. -/
def State.sideFits (s : State) (k p : Nat) : Bool :=
  decide (1 ≤ s.xS k ∧ s.xS k ≤ 16 ∧ 32 ≤ s.xL k ∧ s.xL k ≤ 1024 ∧ 16 * s.xS k * 8000 * s.tcSet.2 ≤ 15 * (p * s.tcSet.1))

def State.sideUsable (s : State) (k : Nat) : Bool := s.sideFits k s.P

/-- EXCH_CFG once for settings that break R320 at frame length `p`: at commit that of the image, after a change of P the new
one. -/
def State.checkSide (s : State) (p k : Nat) : State :=
  if !s.xEn k || s.sideFits k p then s.setSide k { s.side k with cfgPosted := false }
  else if (s.side k).cfgPosted then s
  else (s.setSide k { s.side k with cfgPosted := true }).fault 0x010E k

/-- The captures of an enabled side at the fabric edge that ends the running cycle (R317). -/
def State.captureSide (s : State) (k : Nat) : State :=
  if !s.xEn k then s
  else
    let x := s.side k
    let x := { x with heldSeen := x.heldSeen || s.sideHeld k }
    let c := s.tick.count
    s.setSide k (if s.P ≤ c + s.xS k ∧ c < s.P then { x with cap := x.cap ++ [s.sliceNow k] } else x)

/-- The default of side `k` (DEF, Table ZVL-10). -/
def State.sideDefault (s : State) (k : Nat) : List (BitVec 128) :=
  match s.fld (ZV k 0x40) 17 2 with
  | 0 => List.replicate (s.xS k) 0
  | 1 => (s.side k).lastOk
  | _ => List.replicate (s.xS k) (BitVec.allOnes 128)

/-- May side `k` present what it received (R319, R320, R315)? -/
def State.sideOpen (s : State) (k : Nat) : Bool :=
  let up := match s.sidePort k with
    | some p => s.portUp p && (p < 2 || s.bit (ZV k 0x40) 20)
    | none => false
  up && s.bit (CK 0x80C) 2 && !s.chain.pDiff && s.sideUsable k

/-- Present the contribution for the frame `f` whose tick edge was cycle `t0` (R319). -/
def State.present (s : State) (k f t0 : Nat) : State :=
  let x := s.side k
  let hit := x.got.find? (fun g => g.1 = f % 128)
  let x := { x with got := x.got.filter (fun g => g.1 ≠ f % 128), presAt := t0 + s.xL k }
  match hit, s.sideOpen k with
  | some (_, sl), true => (s.setSide k { x with pres := sl, presOk := true, lastOk := sl }).inc (ZV k 0x48)
  | _, _ => (s.setSide k { x with pres := s.sideDefault k, presOk := false }).inc (ZV k 0x4C)

/-- Present every contribution whose cycle L has come. -/
def State.exchangeAdvance (s : State) (k : Nat) : State :=
  let l := s.xL k
  let due := (s.side k).ticks.filter (fun t => decide (t.2 + l ≤ s.tick.cyc))
  let s := s.setSide k { s.side k with ticks := (s.side k).ticks.filter (fun t => !decide (t.2 + l ≤ s.tick.cyc)) }
  due.foldl (fun t x => t.present k x.1 x.2) s

/-- EXCHANGE_CONTRIBUTION_SEND at the tick that ends frame `f`, realigned or not (R317, R318); the presentation of the
neighbour's own contribution falls due L cycles later. A received one that matches no frame is not kept (R319). -/
def State.exchangeTick (s : State) (f : Nat) (realigned : Bool) (k : Nat) : State :=
  if !s.xEn k || s.mode ≠ 0 || s.clk.stopped then s.setSide k { s.side k with cap := [], heldSeen := false, got := [] }
  else
    let x := s.side k
    let sl := x.cap ++ List.replicate (s.xS k - x.cap.length) (s.sliceNow k)
    let valid := !realigned && !s.beached && s.bit (CK 0x80C) 2 && !x.heldSeen && !s.sideHeld k && s.tickStepDone && !s.chain.pDiff
    let ticks := x.ticks ++ [(f, s.tick.cyc)]
    let s := s.setSide k { x with
      cap := [], heldSeen := false, ticks, got := x.got.filter (fun g => ticks.any (fun t => t.1 % 128 = g.1)) }
    s.sendZ ((if k = 0 then upPorts else downPorts).filter (fun p => !s.low p)) (.xch (f % 128 + valid.toNat * 128) (sl.take (s.xS k)))

/-- EXCHANGE_MESSAGE on the active port of a side (R304, R319, R321); `late` says that it was not complete 4 cycles
before cycle L. -/
def State.exchangeIn_ (s : State) (p param : Nat) (sl : List (BitVec 128)) (crcOk late : Bool) : State :=
  let k := p % 2
  if !crcOk then (if s.portUp p then s.inc (ZV p 0x24) else s)
  else if !s.fromAny p || !s.xEn k then s
  else
    let x := s.side k
    let n := param % 128
    let late := late || x.ticks.any (fun t => t.1 % 128 = n && decide (t.2 + s.xL k < s.tick.cyc + 4))
    if late then
      let s := s.inc (ZV k 0x50)
      let quiet := match x.latePs with
        | some t => decide (s.timePs < t + ms10)
        | none => false
      if quiet then s
      else
        let (far, s) := s.farUnit p
        (s.setSide k { s.side k with latePs := some s.timePs }).originate (s.report far 7 0)
    else if 128 ≤ param ∧ sl.length = s.xS k ∧ (x.ticks.any (fun t => t.1 % 128 = n) ∨ n = s.frameNo % 128) then
      s.setSide k { x with got := x.got.filter (fun g => g.1 ≠ n) ++ [(n, sl)] }
    else s.setSide k { x with got := x.got.filter (fun g => g.1 ≠ n) }

def execExchangeMessage (p : Fin 4) (param : Byte) (slices : List (BitVec 128)) (crcOk late : Bool) (s : State) :
    Host.Outcome State Fault Refusal := 
  .next (s.looped p.val (.xch param.toNat slices) (fun t => t.exchangeIn_ p.val param.toNat slices crcOk late))

/-! ## Remote mailbox traffic (R346, R379, R380) -/

/-- An MBREQ enters MB1, or is answered BUSY by the port logic (R346). -/
def State.mbreqEnter (s : State) (m : ZMsg) : State :=
  let b := s.mbox 1
  let req := natLE (m.payload.take 256)
  if !s.takes 1 then s
  else if b.st ≠ .idle then
    s.sendMsg upPorts tMbrsp 0 m.src.toNat (rspBytes (fieldAt req 0 2) (fieldAt req 4 2) stBUSY (bytesLE 0 4))
  else
    (s.setMbox 1 { b with req := BitVec.ofNat 2048 req, from_ := m.src.toNat, seq := m.seq.toNat, bcast := m.dst = 0xFFF }).ringMb 1

/-- MBREQ (R379): taken where it is addressed, passed on downstream. -/
def State.mbreqIn (s : State) (p : Nat) (m : ZMsg) : State :=
  if !s.fromUp p then s
  else
    let mine := s.assigned && m.dst.toNat = s.zaddr
    let all := m.dst = 0xFFF
    let s := if mine then s else s.passOn downPorts tMbreq m
    if mine || all then s.mbreqEnter m else s

def execMbreq (p : Fin 4) (m : ZMsg) (s : State) : Host.Outcome State Fault Refusal :=
  .next (s.looped p.val (.msg tMbreq m) (fun u => u.zmsg p.val m (fun t => t.mbreqIn p.val m)))

/-- Positions other than the head that are not vacant (R380). -/
def State.chainUnits (s : State) : Nat := (s.chain.roster.filter (fun e => e.pos ≠ 0)).length

/-- A response reaches a FORWARD slot (R379, R380). -/
def Fwd.answer (f : Fwd) (src : Nat) (rsp : BitVec 2048) : Fwd :=
  if f.dst ≠ 0xFFF then { f with fin := true, rsp }
  else
    let st := fieldAt rsp.toNat 6 1
    let good := st = 0
    let det := fieldAt rsp.toNat 8 2
    let f := { f with
      answered := f.answered + 1
      okN := if good then f.okN + 1 else f.okN
      failed := if good then f.failed else f.failed + 1
      first := if good || f.first ≠ 0 then f.first else st
      fails := if good || 16 ≤ f.fails.length then f.fails else f.fails ++ [(src, st, det)] }
    { f with fin := decide (f.units ≤ f.answered) }

/-- The head takes a remote event (R379, R380). -/
def State.remoteEvent (s : State) (m : ZMsg) : State :=
  let e := BitVec.ofNat 256 (natLE (m.payload.take 32))
  let code := fieldAt e.toNat 0 1
  let tag := fieldAt e.toNat 2 2
  if code ≤ 3 ∧ s.chain.fwd.any (fun f => f.dst = 0xFFF && f.tag = tag) then
    s.setChain { s.chain with fwd := s.chain.fwd.map (fun f => if f.dst = 0xFFF && f.tag = tag then { f with events := f.events + 1 } else f) }
  else if 64 ≤ s.chain.remote.length then s.setChain { s.chain with remoteLost := satAdd 16 s.chain.remoteLost 1 }
  else s.setChain { s.chain with remote := s.chain.remote ++ [(m.src.toNat, e)] }

/-- MBRSP (R379). -/
def State.mbrspIn (s : State) (p : Nat) (m : ZMsg) : State :=
  if !s.fromDn p then s
  else if !s.isHead then s.passOn upPorts tMbrsp m
  else if m.flg.getLsbD 0 then s.remoteEvent m
  else
    let rsp := BitVec.ofNat 2048 (natLE (m.payload.take 256))
    let op := fieldAt rsp.toNat 0 2
    let tag := fieldAt rsp.toNat 4 2
    let hit (f : Fwd) : Bool := !f.fin && f.op = op && f.tag = tag && (f.dst = 0xFFF || f.dst = m.src.toNat)
    match s.chain.fwd.find? hit with
    | none => s
    | some f => s.setChain { s.chain with
        fwd := s.chain.fwd.map (fun x => if x.slot = f.slot then f.answer m.src.toNat rsp else x) }

def execMbrsp (p : Fin 4) (m : ZMsg) (s : State) : Host.Outcome State Fault Refusal :=
  .next (s.looped p.val (.msg tMbrsp m) (fun u => u.zmsg p.val m (fun t => t.mbrspIn p.val m)))

/-- FORWARD_TIMEOUT: 100 ms + CHAIN_LEN × 4 µs after sending (R379, R380). -/
def State.fwdTimeout (s : State) (slot : Nat) : State :=
  s.setChain { s.chain with fwd := s.chain.fwd.map (fun f =>
    if f.slot = slot && !f.fin then
      if f.dst = 0xFFF then { f with fin := true }
      else { f with fin := true, rsp := BitVec.ofNat 2048 (natLE (rspBytes f.op f.tag stTIMEOUT (bytesLE 0 4))) }
    else f) }

def execForwardTimeout (slot : Fin 32) (s : State) : Host.Outcome State Fault Refusal := .next (s.fwdTimeout slot.val)

end Sys2Proof.Machine
end

