-- ==== Sys2Proof/Machine/Crypto.lean ====
section
/-! DEFINITION. The cryptographic functions that the spec names by their standards and does not print: SHA-384 (R6, R247), ECDSA
P-384 verification (R247, R425, R439), AES-256-GCM opening (R246) and AES key unwrap (R423). PRESUMED log 2: written from
the standards FIPS 180-4, FIPS 186-5, FIPS 197, SP 800-38D and SP 800-38F. Byte strings stand as numbers, first byte most
significant (R6). -/

namespace Sys2Proof.Machine

/-! ## SHA-384 (FIPS 180-4) -/

def isPrime (p : Nat) : Bool := decide (2 ≤ p) && (List.range p).all (fun d => decide (d < 2) || decide (p % d ≠ 0))

/-- The largest number below 2^bits whose k-th power is at most `n`. -/
def rootFloor (k n bits : Nat) : Nat := (List.range bits).foldr (fun i x => if (x + 2 ^ i) ^ k ≤ n then x + 2 ^ i else x) 0

/-- The first 80 primes. -/
def primes80 : List Nat := (List.range 410).filter isPrime

/-- Round constants: fractions of the cube roots of the first 80 primes. -/
def shaK : List Nat := primes80.map (fun p => rootFloor 3 (p * 2 ^ 192) 70 % 2 ^ 64)

/-- Initial hash of SHA-384: fractions of the square roots of the ninth to sixteenth primes. -/
def shaInit : List Nat := ((primes80.drop 8).take 8).map (fun p => rootFloor 2 (p * 2 ^ 128) 70 % 2 ^ 64)

def rotr64 (x n : Nat) : Nat := x / 2 ^ n + x % 2 ^ n * 2 ^ (64 - n)

/-- Message schedule: newest word first, `n` more words. -/
def shaSchedule : Nat → List Nat → List Nat
  | 0, w => w
  | n + 1, w =>
    let a := w.getD 14 0
    let b := w.getD 1 0
    let s0 := rotr64 a 1 ^^^ rotr64 a 8 ^^^ a / 2 ^ 7
    let s1 := rotr64 b 19 ^^^ rotr64 b 61 ^^^ b / 2 ^ 6
    shaSchedule n ((w.getD 15 0 + s0 + w.getD 6 0 + s1) % 2 ^ 64 :: w)

/-- One round on the eight working variables. -/
def shaRound (v : List Nat) (kw : Nat × Nat) : List Nat :=
  match v with
  | [a, b, c, d, e, f, g, h] =>
    let s1 := rotr64 e 14 ^^^ rotr64 e 18 ^^^ rotr64 e 41
    let ch := (e &&& f) ^^^ ((2 ^ 64 - 1 - e) &&& g)
    let t1 := h + s1 + ch + kw.1 + kw.2
    let s0 := rotr64 a 28 ^^^ rotr64 a 34 ^^^ rotr64 a 39
    let maj := (a &&& b) ^^^ (a &&& c) ^^^ (b &&& c)
    [(t1 + s0 + maj) % 2 ^ 64, a, b, c, (d + t1) % 2 ^ 64, e, f, g]
  | _ => v

/-- Compress one block of 128 bytes. -/
def shaBlock (h : List Nat) (b : List Byte) : List Nat :=
  let w := (List.range 16).map (fun i => natBE ((b.drop (8 * i)).take 8))
  let ws := (shaSchedule 64 w.reverse).reverse
  List.zipWith (fun x y => (x + y) % 2 ^ 64) h ((shaK.zip ws).foldl shaRound h)

/-- Compress `n` blocks. -/
def shaBlocks : Nat → List Nat → List Byte → List Nat
  | 0, h, _ => h
  | n + 1, h, b => shaBlocks n (shaBlock h (b.take 128)) (b.drop 128)

/-- The padded message. -/
def shaPad (b : List Byte) : List Byte :=
  b ++ [0x80] ++ List.replicate ((239 - b.length % 128) % 128) 0 ++ (bytesLE (8 * b.length) 16).reverse

/-- SHA-384. -/
def sha384 (b : List Byte) : BitVec 384 :=
  let p := shaPad b
  BitVec.ofNat 384 (((shaBlocks (p.length / 128) shaInit p).take 6).foldl (fun x w => x * 2 ^ 64 + w) 0)

/-! ## ECDSA P-384 (FIPS 186-5) -/

/-- The field, the order of the base point, the curve's b, and the base point. -/
def p384 : Nat := 2 ^ 384 - 2 ^ 128 - 2 ^ 96 + 2 ^ 32 - 1
def n384 : Nat := 0xffffffffffffffffffffffffffffffffffffffffffffffffc7634d81f4372ddf581a0db248b0a77aecec196accc52973
def b384 : Nat := 0xb3312fa7e23ee7e4988e056be3f82d19181d9c6efe8141120314088f5013875ac656398d8a2ed19d2a85c8edd3ec2aef
def g384 : Nat × Nat :=
  (0xaa87ca22be8b05378eb1c71ef320ad746e1d3b628ba79b9859f741e082542a385502f25dbf55296c3a545e3872760ab7,
   0x3617de4a96262c6f5d9e98bf9292dc29f8f41dbd289a147ce9da3113b5f0b8c00a60b1ce1d7e819d7a431d7c90ea0e5f)

/-- Power modulo `m`, exponent of at most `n` bits. -/
def powMod (m b : Nat) : Nat → Nat → Nat
  | 0, _ => 1 % m
  | n + 1, e =>
    let r := powMod m b n (e / 2)
    if e % 2 = 1 then r * r % m * b % m else r * r % m

/-- Inverse modulo a prime. -/
def invMod (m x : Nat) : Nat := powMod m (x % m) 384 (m - 2)

/-- Difference in the field. -/
def subP (a b : Nat) : Nat := (a + p384 - b % p384) % p384

/-- Is a point on the curve y² = x³ − 3x + b, its coordinates in the field? -/
def onCurve (q : Nat × Nat) : Bool :=
  decide (q.1 < p384 ∧ q.2 < p384) && q.2 * q.2 % p384 = (subP (q.1 * q.1 % p384 * q.1) (3 * q.1) + b384) % p384

/-- Points with coordinates X / Z², Y / Z³; Z = 0 is the point at infinity. -/
abbrev Jac := Nat × Nat × Nat

/-- Twice a point. -/
def jacDouble (p : Jac) : Jac :=
  let (x, y, z) := p
  let d := z * z % p384
  let g := y * y % p384
  let b := x * g % p384
  let a := 3 * (subP x d * (x + d) % p384) % p384
  let x3 := subP (a * a) (8 * b)
  (x3, subP (a * subP (4 * b) x3) (8 * (g * g)), 2 * y * z % p384)

/-- Sum of two points. -/
def jacAdd (p q : Jac) : Jac :=
  let (x1, y1, z1) := p
  let (x2, y2, z2) := q
  if z1 = 0 then q
  else if z2 = 0 then p
  else
    let u1 := x1 * (z2 * z2) % p384
    let u2 := x2 * (z1 * z1) % p384
    let s1 := y1 * (z2 * z2 * z2) % p384
    let s2 := y2 * (z1 * z1 * z1) % p384
    let h := subP u2 u1
    let r := subP s2 s1
    if h = 0 then (if r = 0 then jacDouble p else (1, 1, 0))
    else
      let h2 := h * h % p384
      let h3 := h2 * h % p384
      let v := u1 * h2 % p384
      let x3 := subP (r * r) (h3 + 2 * v)
      (x3, subP (r * subP v x3) (s1 * h3), h * z1 % p384 * z2 % p384)

/-- `k` times a point, `k` of at most `n` bits. -/
def jacMul (q : Jac) : Nat → Nat → Jac
  | 0, _ => (1, 1, 0)
  | n + 1, k =>
    let r := jacDouble (jacMul q n (k / 2))
    if k % 2 = 1 then jacAdd r q else r

/-- A public key x ‖ y. -/
def keyPoint (key : BitVec 768) : Nat × Nat := (bits key.toNat 384 384, bits key.toNat 0 384)

/-- Is `key` a valid P-384 public key? The order of the curve is prime, so every point on it is one. -/
def validKey (key : BitVec 768) : Bool := onCurve (keyPoint key)

/-- Verification of the signature (r, x) of a digest. -/
def ecdsaVerify (key : BitVec 768) (digest r x : BitVec 384) : Bool :=
  let q := keyPoint key
  if !validKey key || r = 0 || x = 0 || decide (n384 ≤ r.toNat) || decide (n384 ≤ x.toNat) then false
  else
    let w := invMod n384 x.toNat
    let u := jacMul (g384.1, g384.2, 1) 384 (digest.toNat * w % n384)
    let v := jacMul (q.1, q.2, 1) 384 (r.toNat * w % n384)
    let (a, _, z) := jacAdd u v
    if z = 0 then false else a * powMod p384 (invMod p384 z) 2 2 % p384 % n384 = r.toNat

/-! ## AES-256 (FIPS 197) -/

/-- Twice a number of the field of 2^8 elements. -/
def gfDouble (x : Nat) : Nat := if 128 ≤ x then (2 * x) % 256 ^^^ 0x1B else 2 * x

/-- Product in that field; the second factor has at most `n` bits. -/
def gfMulN (a : Nat) : Nat → Nat → Nat
  | 0, _ => 0
  | n + 1, b => (if b % 2 = 1 then a else 0) ^^^ gfMulN (gfDouble a) n (b / 2)

def gfMul (a b : Nat) : Nat := gfMulN a 8 b

/-- Rotation of a byte to the left. -/
def rotByte (x n : Nat) : Nat := x * 2 ^ n % 256 + x / 2 ^ (8 - n)

/-- The 254th power, which is the inverse. -/
def gfInv (x : Nat) : Nat :=
  let x2 := gfMul x x
  let x4 := gfMul x2 x2
  let x8 := gfMul x4 x4
  let x16 := gfMul x8 x8
  let x32 := gfMul x16 x16
  let x64 := gfMul x32 x32
  let x128 := gfMul x64 x64
  gfMul x128 (gfMul x64 (gfMul x32 (gfMul x16 (gfMul x8 (gfMul x4 x2)))))

/-- S-box. -/
def subByte (x : Nat) : Nat :=
  let i := gfInv x
  i ^^^ rotByte i 1 ^^^ rotByte i 2 ^^^ rotByte i 3 ^^^ rotByte i 4 ^^^ 0x63

/-- Inverse S-box. -/
def invSubByte (x : Nat) : Nat := gfInv (rotByte x 1 ^^^ rotByte x 3 ^^^ rotByte x 6 ^^^ 0x05)

/-- Key schedule, words of four bytes, newest first: `n` more words; `i` is the number of the next one. -/
def aesExpand : Nat → Nat → Nat → List (List Nat) → List (List Nat)
  | 0, _, _, w => w
  | n + 1, i, rcon, w =>
    let t := w.headD []
    let t := if i % 8 = 0 then
        let u := (t.drop 1 ++ t.take 1).map subByte
        ((u.headD 0) ^^^ rcon) :: u.drop 1
      else if i % 8 = 4 then t.map subByte else t
    aesExpand n (i + 1) (if i % 8 = 0 then gfDouble rcon else rcon) (List.zipWith (· ^^^ ·) (w.getD 7 []) t :: w)

/-- The 16 bytes of a block, first one most significant. -/
def blockBytes (x n : Nat) : List Nat := (List.range n).map (fun i => x / 256 ^ (n - 1 - i) % 256)
def bytesBlock (l : List Nat) : Nat := l.foldl (fun x b => x * 256 + b) 0

/-- The 15 round keys, 16 bytes each. -/
def aesKeys (key : BitVec 256) : List (List Nat) :=
  let k := blockBytes key.toNat 32
  let w := ((List.range 8).map (fun i => (k.drop (4 * i)).take 4)).reverse
  let ws := (aesExpand 52 8 1 w).reverse
  (List.range 15).map (fun r => ((ws.drop (4 * r)).take 4).flatten)

def xorBytes (a b : List Nat) : List Nat := List.zipWith (· ^^^ ·) a b

/-- Row `i` of the state, columns of four bytes, turned left by `k·i`. -/
def shiftRows (k : Nat) (b : List Nat) : List Nat := (List.range 16).map (fun i => b.getD ((i + 4 * k * (i % 4)) % 16) 0)

/-- Every column times a circulant matrix, by its first row. -/
def mixColumns (m : List Nat) (b : List Nat) : List Nat :=
  (List.range 16).map (fun i =>
    (List.range 4).foldl (fun x j => x ^^^ gfMul (b.getD (i / 4 * 4 + j) 0) (m.getD ((j + 4 - i % 4) % 4) 0)) 0)

/-- AES-256, one block. -/
def aesEncrypt (keys : List (List Nat)) (x : Nat) : Nat :=
  let start := xorBytes (blockBytes x 16) (keys.headD [])
  let mid := ((keys.drop 1).take 13).foldl (fun b k => xorBytes (mixColumns [2, 3, 1, 1] (shiftRows 1 (b.map subByte))) k) start
  bytesBlock (xorBytes (shiftRows 1 (mid.map subByte)) (keys.getD 14 []))

/-- Its inverse. -/
def aesDecrypt (keys : List (List Nat)) (x : Nat) : Nat :=
  let back (b : List Nat) : List Nat := (shiftRows 3 b).map invSubByte
  let start := back (xorBytes (blockBytes x 16) (keys.getD 14 []))
  let mid := ((keys.drop 1).take 13).reverse.foldl (fun b k => back (mixColumns [14, 11, 13, 9] (xorBytes b k))) start
  bytesBlock (xorBytes mid (keys.headD []))

/-! ## GCM (SP 800-38D) and key unwrap (SP 800-38F) -/

/-- Product in the field of 2^128 elements, most significant bit first; `n` bits of `x` are left. -/
def ghashMul (x : Nat) : Nat → Nat → Nat → Nat
  | 0, _, z => z
  | n + 1, v, z => ghashMul x n (if v % 2 = 1 then v / 2 ^^^ 0xE1 * 2 ^ 120 else v / 2) (if x.testBit n then z ^^^ v else z)

/-- GHASH of blocks under `h`. -/
def ghash (h : Nat) (l : List Nat) : Nat := l.foldl (fun y b => ghashMul (y ^^^ b) 128 h 0) 0

/-- Opening of a payload of 512 bytes with 8 bytes of additional data: `none` when the tag is wrong. -/
def gcmOpen (key : BitVec 256) (nonce : BitVec 96) (aad : BitVec 64) (payload : BitVec 4096) (tag : BitVec 128) :
    Option (BitVec 4096) :=
  let keys := aesKeys key
  let blocks := (List.range 32).map (fun i => bits payload.toNat (128 * (31 - i)) 128)
  let ctr (i : Nat) : Nat := aesEncrypt keys (nonce.toNat * 2 ^ 32 + i)
  let g := ghash (aesEncrypt keys 0) ([aad.toNat * 2 ^ 64] ++ blocks ++ [64 * 2 ^ 64 + 4096])
  if g ^^^ ctr 1 = tag.toNat then
    some (BitVec.ofNat 4096 ((blocks.zipIdx.map (fun (b, i) => b ^^^ ctr (i + 2))).foldl (fun x b => x * 2 ^ 128 + b) 0))
  else none

/-- One step of the unwrapping of four words, step `t` of 24. -/
def unwrapStep (keys : List (List Nat)) (ar : Nat × List Nat) (t : Nat) : Nat × List Nat :=
  let i := (t - 1) % 4
  let b := aesDecrypt keys ((ar.1 ^^^ t) * 2 ^ 64 + ar.2.getD i 0)
  (b / 2 ^ 64, modifyAt (fun _ => b % 2 ^ 64) ar.2 i)

/-- AES key unwrap of a 32-byte key: `none` when the integrity check fails. -/
def keyUnwrap (key : BitVec 256) (wrapped : BitVec 320) : Option (BitVec 256) :=
  let w := wrapped.toNat
  let r := (List.range 4).map (fun i => bits w (64 * (3 - i)) 64)
  let (a, r) := ((List.range 24).map (fun k => 24 - k)).foldl (unwrapStep (aesKeys key)) (bits w 256 64, r)
  if a = 0xA6A6A6A6A6A6A6A6 then some (BitVec.ofNat 256 (r.foldl (fun x v => x * 2 ^ 64 + v) 0)) else none

end Sys2Proof.Machine
end

