-- ==== Sys2Proof/Machine/LoadChecks.lean ====
section
/-! DEFINITION. The header, record and trailer stages of an image (spec/08 R233 to R248, R258, Table CFG-14), used by
loads and by seals; the loader's own fields serve as the state of the scan. -/

namespace Sys2Proof.Machine

/-! ## Detail codes (Table CFG-14) -/

def dHEADER : Nat := 0x0001
def dDEVICE : Nat := 0x0002
def dGRADE : Nat := 0x0003
def dKIND : Nat := 0x0004
def dROLLBACK : Nat := 0x0006
def dCRC : Nat := 0x0010
def dSEQUENCE : Nat := 0x0011
def dTAG : Nat := 0x0012
def dADDRESS : Nat := 0x0013
def dORDER : Nat := 0x0014
def dDUPLICATE : Nat := 0x0015
def dCOUNT : Nat := 0x0016
def dFIELD : Nat := 0x0020
def dARITH : Nat := 0x0021
def dCARRY : Nat := 0x0022
def dEDGE : Nat := 0x0023
def dTRAILER : Nat := 0x0030
def dCHAIN : Nat := 0x0031

/-- How a load or seal fails: status, detail, frame address of the record, region and context (Table CFG-16). -/
structure Fail where
  status : Nat
  detail : Nat
  index : Nat := 0xFFFFFFFF
  addr : Nat := 0
  region : Nat := 0xFF
  ctx : Nat := 0xFF
  deriving DecidableEq, Repr

/-! ## Header fields (Table CFG-1) -/

def Loader.hf (l : Loader) (off n : Nat) : Nat := fieldAt l.hdr.toNat off n
/-- KIND of the header: is the image a full one? -/
def Loader.full (l : Loader) : Bool := l.hf 13 1 = 1
def Loader.enc (l : Loader) : Bool := (l.hf 14 2).testBit 0
def Loader.auth (l : Loader) : Bool := (l.hf 14 2).testBit 1
def Loader.vendor (l : Loader) : Bool := (l.hf 14 2).testBit 2
def Loader.generation (l : Loader) : Nat := l.hf 16 4
def Loader.records (l : Loader) : Nat := l.hf 24 4
/-- Is (region r, context c) a target (R239)? -/
def Loader.isTarget (l : Loader) (r c : Nat) : Bool := r < 96 && (l.hf (80 + r) 1).testBit c
/-- Is region r one that the image loads a context of? -/
def Loader.targetRegion (l : Loader) (r : Nat) : Bool := r < 96 && l.hf (80 + r) 1 ≠ 0
/-- Bytes of a record (Table CFG-2). -/
def Loader.recLen (l : Loader) : Nat := if l.enc then 540 else 524

/-! ## Header stage (R234, R248, R418 to R420) -/

/-- Does R234 hold but for what DEVICE, GRADE and KIND name? -/
def headerSound (l : Loader) : Bool :=
  l.hf 0 4 = 0x4D494759 && l.hf 4 2 = 1 && l.hf 6 2 = 0x100 && l.hf 252 4 = crc32c (bytesLE l.hdr.toNat 252)
    && (l.hf 13 1 = 1 || l.hf 13 1 = 2) && (l.hf 12 1 = 2 || l.hf 12 1 = 3) && l.hf 14 2 < 8 && decide (l.hf 20 1 ≤ 64)
    && (l.enc || l.hf 32 8 = 0) && l.hf 21 3 = 0 && l.hf 28 4 = 0 && l.hf 176 76 = 0

/-- Does Table LCS-3 with R419 admit the image in the state that decides? -/
def State.admits (s : State) (l : Loader) : Bool :=
  let a := l.auth
  let v := l.vendor
  (match s.lc with
    | 4 => true
    | 5 => a && !v
    | 7 => false
    | _ => a && v)
  && (!v || !l.enc) && (!l.enc || s.imgKey.isSome)
  && !((s.lc = 4 || s.lc = 5) && s.sec 3 && !v && !l.enc)

/-- Does Table LCS-3 check ROLLBACK? -/
def State.checksRollback (s : State) (l : Loader) : Bool := s.lc = 5 || (s.lc = 4 && !l.vendor)

/-- The header stage in table order; `kind` is the KIND required, 0 for either. -/
def State.headerStage (s : State) (kind : Nat) (l : Loader) : Option Fail :=
  if !headerSound l then some { status := stCHECK_FAIL, detail := dHEADER }
  else if l.hf 8 4 ≠ 0x000B5049 then some { status := stCHECK_FAIL, detail := dDEVICE }
  else if l.hf 12 1 = 3 && !Config.grade3 then some { status := stCHECK_FAIL, detail := dGRADE }
  else if kind ≠ 0 ∧ l.hf 13 1 ≠ kind then some { status := stCHECK_FAIL, detail := dKIND }
  else if !s.admits l then some { status := stDENIED, detail := dLIFECYCLE }
  else if s.checksRollback l && decide (l.hf 20 1 < s.imgRollback) then some { status := stDENIED, detail := dROLLBACK }
  else none

/-! ## Fields of tile frames (Tables TIL-2, TIL-4, TIL-6 to TIL-9, RTE-6 to RTE-11) -/

/-- B_SEL, C_SEL or D_SEL (Table TIL-2). -/
def selOk (c : Nat) : Bool := decide (c ≤ 0x50)

/-- A macrocell word (Table TIL-7). -/
def mcFields (w : Nat) : Bool :=
  selOk (bits w 17 7) && selOk (bits w 24 7) && selOk (bits w 31 7)
    && (bits w 41 4 = 0 || decide (8 ≤ bits w 41 4)) && (bits w 45 4 = 0 || decide (8 ≤ bits w 45 4)) && bits w 54 10 = 0

/-- Macrocell word `m` of frame 3. -/
def frameMc (f m : Nat) : Nat := bits f (1536 + 64 * m) 64

/-- Frame 3: macrocell words and options (Tables TIL-4, TIL-7, TIL-8). -/
def frame3Fields (f : Nat) : Bool :=
  (List.range 16).all (fun m => mcFields (frameMc f m))
    && decide (bits f 3072 5 < 0x14) && decide (bits f 3077 5 < 0x14) && bits f 3090 2 ≠ 3 && bits f 3092 2 ≠ 3
    && bits f 3099 2 ≠ 3 && bits f 3106 990 = 0

/-- IN_SEL codes (Table RTE-7). -/
def inSelOk (c : Nat) : Bool :=
  c ≤ 1 || decide (0x10 ≤ c ∧ c ≤ 0x1C) || decide (0x20 ≤ c ∧ c ≤ 0x4F) || decide (0x60 ≤ c ∧ c ≤ 0x6F)
    || decide (0x100 ≤ c ∧ c ≤ 0x93F)

/-- Frame 4 (Table RTE-6). -/
def frame4Fields (f : Nat) : Bool :=
  (List.range 64).all (fun i => inSelOk (bits f (12 * i) 12))
    && (List.range 8).all (fun i =>
      let x := bits f (928 + 12 * i) 10
      (x = 0 || decide (0x100 ≤ x)) && bits f (938 + 12 * i) 2 ≠ 3)
    && (List.range 32).all (fun k => bits f (1024 + 2 * k) 2 ≠ 3) && bits f 1088 3008 = 0

/-- Regional clock codes (Table RTE-10). -/
def rckOk (c : Nat) : Bool := decide (c ≤ 0x10) || decide (0x20 ≤ c ∧ c ≤ 0x23) || decide (0x28 ≤ c ∧ c ≤ 0x2B)

/-- Frame 5 of tile `t` (R120). -/
def frame5Fields (t f : Nat) : Bool :=
  if t < 4 then
    (List.range 96).all (fun i => bits f (10 * i) 10 = 0 || decide (0x200 ≤ bits f (10 * i) 10)) && bits f 1024 3072 = 0
      && (if t = 0 then (List.range 4).all (fun i => rckOk (bits f (960 + 6 * i) 6)) && bits f 989 35 = 0 else bits f 960 64 = 0)
  else f = 0

/-- FIELD of a tile frame. -/
def tileFields (t n f : Nat) : Bool :=
  match n with
  | 3 => frame3Fields f
  | 4 => frame4Fields f
  | 5 => frame5Fields t f
  | _ => true

/-- ARITH (Table TIL-9). -/
def arithOk (f : Nat) : Bool :=
  (List.range 16).all (fun m => !mcArith (frameMc f m) || bits (frameMc f m) 31 7 = 0x50)

/-- CARRY (Table TIL-9). -/
def carryOk (t f : Nat) : Bool := bits f 3090 2 ≠ 2 || decide (8 ≤ t)

/-! ## EDGE (Table RTE-11, R471) -/

/-- May region `r` use the channel with index `i` on side `d`, incoming or outbound? `own` gives pin owner codes, `xen`
the enabled sides of the neighbour exchange. -/
def channelOk (own : Nat → Nat) (xen : Nat → Bool) (r d i : Nat) (out : Bool) : Bool :=
  if (neighbour r d).isSome then true
  else match bankAt r d with
    | some (b, p) => decide (i < if out then 48 else 24) && own (48 * b + p + i % 24) = 0x100 + r
    | none => match exchangeSide r d with
      | some k => xen k
      | none => false

/-- EDGE of frame 4 of tile `t` of region `r`. -/
def edgeOk (own : Nat → Nat) (xen : Nat → Bool) (r t f : Nat) : Bool :=
  let inc (c : Nat) : Bool := c < 0x100 || 0x200 ≤ c || channelOk own xen r ((c - 0x100) / 64) (c % 64) false
  (List.range 64).all (fun i => inc (bits f (12 * i) 12))
    && (List.range 8).all (fun i =>
      let x := bits f (928 + 12 * i) 10
      let j := 8 * t + i
      x = 0 || (channelOk own xen r (j / 64) (j % 64) true && inc x))

/-! ## Fields of global frames (R468, R476, R490) -/

/-- A register image without reserved bits and encodings. -/
def fieldsOk (fs : List Fld) (v : Nat) : Bool :=
  fs.foldl (fun x f => setBits x f.lo f.w 0) v = 0 && fs.all (fun f => f.acc ≠ .rw || !f.reservedVal (v.testBit 0) (bits v f.lo f.w))

/-- Clock frame 0x0E0 + k. -/
def clockFrameOk (k f : Nat) : Bool :=
  (List.range 128).all (fun i =>
    let off := 512 * k + 4 * i
    let v := bits f (32 * i) 32
    if clockWritable off then fieldsOk ((ckFields off).getD []) v else v = 0)

/-- LN_CTRL, LN_FL, LN_TEE, LN_TX of a lane (Table IOL-7, R486). -/
def laneFields (c fl tee tx : Nat) : Bool :=
  bits c 11 21 = 0 && decide (bits c 2 3 ≤ 5) && (bits c 0 2 = 0 || bits c 5 2 ≠ 0) && bits fl 16 16 = 0 && bits tee 5 27 = 0
    && bits tx 14 18 = 0 && !(bits c 5 2 = 3 && tx.testBit 1)

/-- Lane frame of a quad (R490). -/
def laneFrameOk (f : Nat) : Bool :=
  bits f 13 19 = 0 && bits f 56 456 = 0 && bits f 2560 1536 = 0
    && (List.range 4).all (fun i =>
      laneFields (laneImg f i 0) (laneImg f i 1) (laneImg f i 2) (laneImg f i 3) && bits f (8 * (80 + 64 * i)) 384 = 0)

/-- Standards that Table IOL-1 allows at the voltage code `v`. -/
def stdOk (std v : Nat) : Bool :=
  match std with
  | 0 => true
  | 1 => v = 1 || v = 3 || v = 4
  | 2 => v = 3 || v = 4
  | 3 => v = 2
  | 4 => v = 3
  | 5 => v = 4
  | 8 => v = 4
  | 9 => v = 1
  | 10 => v = 3 || v = 4
  | _ => false

/-- A pin word at the voltage code `v` (Table IOL-3). -/
def pinFields (v w : Nat) : Bool :=
  let std := pinStd w
  bits w 16 48 = 0 && decide (pinDir w < (if 8 ≤ std then 2 else 3)) && stdOk std v
    && (std = 1 || bits w 6 3 = 0)
    && (match std with
      | 0 => bits w 9 2 = 0
      | 1 => bits w 9 2 = 0
      | _ => decide (std ≤ 5) || decide (bits w 9 2 ≤ 1))

/-- Bank frame 0x0C0 + 2b (R476). -/
def bankFrameOk (f : Nat) : Bool :=
  let v := bits f 0 3
  let pin (p : Nat) : Nat := bits f (8 * (16 + 8 * p)) 64
  decide (v ≤ 4) && bits f 3 125 = 0 && bits f 3200 896 = 0
    && (List.range 48).all (fun p => pinFields v (pin p))
    && (List.range 24).all (fun k =>
      (decide (pinStd (pin (2 * k)) < 8) && decide (pinStd (pin (2 * k + 1)) < 8)) || pin (2 * k) = pin (2 * k + 1))

/-- Global indices that an image may carry (Table CFG-4). -/
def globalIndexOk (n : Nat) : Bool :=
  n = 0 || decide (0x10 ≤ n ∧ n ≤ 0x1B) || decide (0x20 ≤ n ∧ n ≤ 0x37) || decide (0x40 ≤ n ∧ n ≤ 0x4E)
    || decide (0x80 ≤ n ∧ n ≤ 0xF3)

/-- FIELD of a global frame. -/
def globalFields (n f : Nat) : Bool :=
  if 0x80 ≤ n ∧ n < 0x98 then laneFrameOk f
  else if 0x98 ≤ n ∧ n < 0xC0 then f = 0
  else if 0xC0 ≤ n ∧ n < 0xE0 then (if n % 2 = 0 then bankFrameOk f else f = 0)
  else if 0xE0 ≤ n ∧ n < 0xE4 then clockFrameOk (n - 0xE0) f
  else if 0xE4 ≤ n ∧ n < 0xF0 then f = 0
  else true

/-! ## Record stage (R235 to R239, R246, R247, Table CFG-14) -/

/-- A frame address (Table CFG-3). -/
inductive FrameAddr where
  | tile (c r t n : Nat)
  | global (n : Nat)
  | mem (k ch : Nat)
  | bad
  deriving DecidableEq, Repr

/-- The address fields by class (R236). -/
def frameAddr (a : Nat) : FrameAddr :=
  match bits a 28 4 with
  | 1 => if bits a 18 7 < 96 ∧ bits a 10 3 < 6 ∧ bits a 0 10 = 0 then .tile (bits a 25 3) (bits a 18 7) (bits a 13 5) (bits a 10 3) else .bad
  | 2 => if bits a 25 3 = 0 ∧ bits a 18 7 = 127 ∧ bits a 10 8 = 0 ∧ globalIndexOk (bits a 0 10) then .global (bits a 0 10) else .bad
  | 3 => if bits a 25 3 = 0 ∧ bits a 13 12 < 2304 ∧ bits a 10 3 = 0 ∧ bits a 6 4 = 0 then .mem (bits a 13 12) (bits a 0 6) else .bad
  | _ => .bad

/-- May a partial image initialise block `k` (R239): owned by a target region or by one of its queue controllers? -/
def State.partialBlock (s : State) (l : Loader) (k : Nat) : Bool :=
  let c := s.blockCode k
  if 0x200 ≤ c ∧ c ≤ 0x37F then l.targetRegion ((c - 0x200) / 4)
  else match s.blockRegion k with
    | some r => l.targetRegion r
    | none => false

/-- Is the address one that the image may carry (R239)? -/
def State.addressOk (s : State) (l : Loader) (a : FrameAddr) : Bool :=
  match a with
  | .tile c r _ _ => l.isTarget r c
  | .global n => l.full || decide (0x10 ≤ n ∧ n ≤ 0x1B) || decide (0x20 ≤ n ∧ n ≤ 0x37)
  | .mem k _ => l.full || s.partialBlock l k
  | .bad => false

/-- Place of a class in the order of R238: global, tile, memory. -/
def classRank (c : Nat) : Nat :=
  match c with
  | 2 => 0
  | 1 => 1
  | _ => 2

/-- Pin owner codes and exchange enables that EDGE looks up: those of a full image, otherwise those in force. -/
def State.edgeOwn (s : State) (l : Loader) (p : Nat) : Nat :=
  if l.full then ownerEntry (fun n => (mget (fun _ => (0 : BitVec 4096)) l.glob n).toNat) 0x4B p else s.pinCode p
def State.edgeExch (s : State) (l : Loader) (k : Nat) : Bool :=
  if l.full then (mget (fun _ => (0 : BitVec 4096)) l.glob (0xF0 + k)).getLsbD 64 else s.xEn k

/-- The FIELD, ARITH, CARRY and EDGE checks of one frame: the detail of the first that fails. -/
def State.frameCheck (s : State) (l : Loader) (a : FrameAddr) (f : Nat) : Option Nat :=
  match a with
  | .tile _ r t n =>
    if !tileFields t n f then some dFIELD
    else if n = 3 && !arithOk f then some dARITH
    else if n = 3 && !carryOk t f then some dCARRY
    else if n = 4 && !edgeOk (s.edgeOwn l) (s.edgeExch l) r t f then some dEDGE
    else none
  | .global n => if globalFields n f then none else some dFIELD
  | _ => none

/-- A partial load may not initialise blocks of a lane-fed controller (R284); refused as the record comes, before it is
written (DEDUCED log 37). A seal, KIND 0, does not apply the set stage that names this check (R269). -/
def State.laneFedBlock (s : State) (l : Loader) (a : FrameAddr) : Bool :=
  match a with
  | .mem k _ =>
    let c := s.blockCode k
    l.kind ≠ 0 && !l.full && decide (0x200 ≤ c ∧ c ≤ 0x37F) && dSrc (s.desc (c - 0x200)) = 2
  | _ => false

/-- The plaintext of a record's payload as a number, `none` for a wrong tag (R246). -/
def State.openPayload (s : State) (l : Loader) (rec : List Byte) : Option Nat :=
  let p := (rec.drop 8).take 512
  if !l.enc then some (natLE p)
  else match s.imgKey with
    | none => none
    | some k =>
      let nonce := natBE (bytesLE (l.hf 32 8) 8) * 2 ^ 32 + l.recN % 2 ^ 32
      (gcmOpen k (BitVec.ofNat 96 nonce) (BitVec.ofNat 64 (natBE (rec.take 8))) (BitVec.ofNat 4096 (natBE p))
        (BitVec.ofNat 128 (natBE ((rec.drop 520).take 16)))).map (fun v => natLE (bytesLE v.toNat 512).reverse)

/-- Bytes of a digest, most significant first (R6). -/
def digestBytes (h : BitVec 384) : List Byte := (bytesLE h.toNat 48).reverse

/-- What a record does when it passes: the scan after it, and a memory chunk to write (block, chunk, data). -/
structure Taken where
  l : Loader
  chunk : Option (Nat × Nat × Nat)

/-- The scan after a record at address `a` with content `f`, taken or not. -/
def Loader.take (l : Loader) (rec : List Byte) (a : FrameAddr) (f : Nat) (taken : Bool) : Taken :=
  let addr := natLE (rec.take 4)
  let mem := bits addr 28 4 = 3
  let l1 : Loader := { l with
    recN := l.recN + 1, memN := if mem then l.memN + 1 else l.memN, cls := bits addr 28 4
    hash := if l.auth then sha384 (digestBytes l.hash ++ rec) else l.hash }
  if !taken then ⟨l1, none⟩
  else
    let l2 : Loader := { l1 with addrs := addr :: l1.addrs }
    match a with
    | .tile c r t n => ⟨{ l2 with tf := mput (fun _ => (0 : BitVec 4096)) l2.tf (tfKey c r t n) (BitVec.ofNat 4096 f) }, none⟩
    | .global n => ⟨{ l2 with glob := mput (fun _ => (0 : BitVec 4096)) l2.glob n (BitVec.ofNat 4096 f) }, none⟩
    | .mem k ch => ⟨l2, some (k, ch, f)⟩
    | .bad => ⟨l2, none⟩

/-- The record stage in table order. -/
def State.recordStage (s : State) (l : Loader) (rec : List Byte) : Except Fail Taken :=
  let addr := natLE (rec.take 4)
  let flags := natLE ((rec.drop 4).take 2)
  let bad (d : Nat) : Except Fail Taken := .error { status := stCHECK_FAIL, detail := d, index := l.recN, addr }
  let n := l.recLen
  if natLE ((rec.drop (n - 4)).take 4) ≠ crc32c (rec.take (n - 4)) then bad dCRC
  else if natLE ((rec.drop 6).take 2) ≠ l.recN % 65536 then bad dSEQUENCE
  else match s.openPayload l rec with
    | none => bad dTAG
    | some f =>
      let a := frameAddr addr
      let taken := !flags.testBit 8 || flags % 256 = l.grp
      if !s.addressOk l a || decide (512 ≤ flags) then bad dADDRESS
      else if classRank (bits addr 28 4) < classRank l.cls then bad dORDER
      else if taken && l.addrs.contains addr then bad dDUPLICATE
      else if bits addr 28 4 = 3 ∧ 16384 ≤ l.memN then bad dCOUNT
      else match s.frameCheck l a f with
        | some d => bad d
        | none => if s.laneFedBlock l a then bad dQUEUE else .ok (l.take rec a f taken)

/-- Write a memory-initialisation chunk (Table CFG-3). -/
def State.putChunk (s : State) (k ch v : Nat) : State := forAll 64 (fun j t => t.putWord k (64 * ch + j) (bits v (64 * j) 64)) s

/-! ## Trailer stage (R247, R248, R418) -/

def Loader.tr (l : Loader) (off n : Nat) : Nat := fieldAt l.trailer.toNat off n
/-- PUBKEY as transmitted. -/
def Loader.pubkey (l : Loader) : List Byte := bytesLE (l.tr 64 96) 96

/-- Is PUBKEY the key that the state requires (Table LCS-3)? -/
def State.keyOk (s : State) (l : Loader) : Bool :=
  let d := sha384 l.pubkey
  if s.lc = 5 then s.custSet && d.toNat = s.custDigest
  else if s.lc = 4 && !l.vendor then (if s.custSet then d.toNat = s.custDigest else validKey (BitVec.ofNat 768 (natBE l.pubkey)))
  else d = Config.vendorImageKey

/-- Does the signature verify over the chain root (R247)? -/
def Loader.signed (l : Loader) : Bool :=
  ecdsaVerify (BitVec.ofNat 768 (natBE l.pubkey)) (sha384 (digestBytes l.hash))
    (BitVec.ofNat 384 (fieldBE l.trailer.toNat 160 48)) (BitVec.ofNat 384 (fieldBE l.trailer.toNat 208 48))

/-- The trailer stage in table order. -/
def State.trailerStage (s : State) (l : Loader) : Option Fail :=
  if l.tr 0 4 ≠ 0x4D544759 ∨ l.tr 256 4 ≠ crc32c (bytesLE l.trailer.toNat 256) ∨ l.tr 4 4 ≠ l.records ∨ l.tr 8 8 ≠ 0
      ∨ (!l.auth ∧ l.tr 16 240 ≠ 0) then some { status := stCHECK_FAIL, detail := dTRAILER }
  else if !l.auth then none
  else if fieldBE l.trailer.toNat 16 48 ≠ l.hash.toNat then some { status := stCHECK_FAIL, detail := dCHAIN }
  else if !s.keyOk l then some { status := stDENIED, detail := dKEY }
  else if !l.signed then some { status := stCHECK_FAIL, detail := dSIGNATURE }
  else none

/-! ## A whole image at once: seals (R269) and the bytes of a store slot -/

/-- Start the scan of an image with header bytes `h` (R247). -/
def Loader.start (l : Loader) (h : List Byte) : Loader :=
  let l1 : Loader := { l with hdr := BitVec.ofNat 2048 (natLE h), recN := 0, memN := 0, cls := 2, addrs := [], glob := [], tf := [] }
  { l1 with hash := if l1.auth then sha384 h else 0 }

/-- Scan the records that follow; `none` when the bytes end before the trailer does. -/
def State.scanRecords (s : State) : Nat → Loader → List Byte → Option Fail
  | 0, l, b =>
    if b.length < 260 then some { status := stCHECK_FAIL, detail := dTRAILER }
    else s.trailerStage { l with trailer := BitVec.ofNat 2080 (natLE (b.take 260)) }
  | n + 1, l, b =>
    if b.length < l.recLen then some { status := stCHECK_FAIL, detail := dTRAILER, index := l.recN }
    else match s.recordStage l (b.take l.recLen) with
      | .error e => some e
      | .ok t => s.scanRecords n t.l (b.drop l.recLen)

/-- The stages of Table CFG-14 that a seal applies (R269): bytes that end early, or go on after the trailer, fail with
TRAILER (DEDUCED log 38). -/
def State.scanImage (s : State) (b : List Byte) : Option Fail :=
  let l : Loader := ({ kind := 0, grp := s.ld.grp } : Loader).start (b.take 256)
  if b.length < 256 then some { status := stCHECK_FAIL, detail := dHEADER }
  else match s.headerStage 0 l with
    | some e => some e
    | none =>
      match s.scanRecords l.records l (b.drop 256) with
      | some e => some e
      | none => if b.length = 256 + l.records * l.recLen + 260 then none else some { status := stCHECK_FAIL, detail := dTRAILER }

end Sys2Proof.Machine
end

