-- ==== Sys2Proof/Machine/SetChecks.lean ====
section
/-! DEFINITION. The set stage (spec/08 R258, Table CFG-14): the checks of the configuration as it will stand at commit.
The same checks of descriptors and schedules serve the commands of families 0x03xx and 0x05xx. -/

namespace Sys2Proof.Machine

def dOWNERSHIP : Nat := 0x0040
def dLOOP : Nat := 0x0042
def dSTATE_MODE : Nat := 0x0043
def dLADDER : Nat := 0x0044
def dCROSSING : Nat := 0x0045
def dCLOCKS : Nat := 0x0046
def dCOUPLING : Nat := 0x0047
def dCONTENTION : Nat := 0x0048
def dSEQUENCER : Nat := 0x004A

/-! ## The configuration that a check looks at -/

/-- A configuration: global frames, tile frames by key, loaded contexts, queue descriptors, schedule tables, rings. -/
structure Conf where
  glob : Nat → Nat
  tf : Nat → Nat
  loaded : Nat → Nat → Bool
  desc : Nat → Nat
  table : Nat → List Word
  ring : Nat → Nat × Nat

/-- The staged content of a global frame; one not carried counts as all zero (R240). -/
def Loader.g (l : Loader) (n : Nat) : Nat := (mget (fun _ => (0 : BitVec 4096)) l.glob n).toNat
/-- Does the load carry global frame `n`? -/
def Loader.carries (l : Loader) (n : Nat) : Bool := l.addrs.contains (0x21FC0000 + n)

/-- Queue descriptor, schedule table and rings from global frames (R241). -/
def globDesc (g : Nat → Nat) (q : Nat) : Nat := bits (g (0x20 + q / 16)) (256 * (q % 16)) 160
def regionDesc (g : Nat → Nat) (r off n : Nat) : Nat := bits (g (0x10 + r / 8)) (8 * (64 * (r % 8) + off)) (8 * n)
def globTable (g : Nat → Nat) (r : Nat) : List Word := (List.range 10).map (fun i => BitVec.ofNat 32 (regionDesc g r (4 * i) 4))
def globRing (g : Nat → Nat) (r : Nat) : Nat × Nat := (regionDesc g r 40 4, regionDesc g r 44 4)

/-- The schedule table that region `r` takes at release (R288). -/
def State.releaseTable (s : State) (r : Nat) : List Word := ((s.region r).stTable).getD (s.table r)

/-- Schedule table of region `r` once the changes of `l` have committed, from `old`. -/
def tableAfter (l : List Accepted) (r : Nat) (old : List Word) : List Word :=
  l.foldl (fun t a => match a.what with
    | .sched l => match l.find? (fun x => x.1 = r) with
      | some x => x.2
      | none => t
    | _ => t) old

/-- Schedule table of region `r` with every accepted change committed (log 31); those that wait for the release of held regions
are judged by `State.plansAhead` (log 173). -/
def State.futureTable (s : State) (r : Nat) : List Word := tableAfter s.commitsAhead.flatten r (s.table r)

/-- P, W and the schedule tables of a time to come. -/
structure PlanAt where
  p : Nat
  w : Nat
  table : Nat → List Word

/-- P, W and the tables once the changes of `l` have committed; `free` says whether the tables that wait for a release of held
regions stand as well (R48, R288, DEDUCED log 173). -/
def State.planAfter (s : State) (free : Bool) (l : List Accepted) : PlanAt :=
  { p := planP (s.tick.pendP.getD s.P) l, w := planW (s.tick.pendW.getD s.wMax) l
    table := fun r => tableAfter l r (if free then s.releaseTable r else s.table r) }

/-- Does a check look at the plan before the releases to come only, or after them too (log 173)? -/
def State.releases (s : State) : List Bool :=
  if (List.range 96).any (fun r => (s.region r).stTable.isSome) then [false, true] else [false]

/-- What stands from the next tick on, and after each tick at which accepted changes commit. -/
def State.plansAhead (s : State) : List PlanAt :=
  let l := s.commitsAhead
  s.releases.flatMap (fun free => (List.range (l.length + 1)).map (fun n => s.planAfter free (l.take n).flatten))

/-- The configuration as it will stand at commit (Table CFG-14). -/
def State.conf (s : State) (l : Loader) : Conf :=
  if l.full then
    { glob := l.g
      tf := fun k => (mget (fun _ => (0 : BitVec 4096)) l.tf k).toNat
      loaded := l.isTarget
      desc := globDesc l.g
      table := globTable l.g
      ring := globRing l.g }
  else
    { glob := s.globF
      tf := fun k =>
        let c := k / 24576
        let r := k / 256 % 96
        if l.isTarget r c then (mget (fun _ => (0 : BitVec 4096)) l.tf k).toNat
        else if s.loaded r c then (mget (fun _ => (0 : BitVec 4096)) s.fab.tf k).toNat else 0
      loaded := fun r c => l.isTarget r c || s.loaded r c
      desc := fun q => if l.targetRegion (q / 4) && l.carries (0x20 + q / 16) then globDesc l.g q else s.desc q
      table := fun r => if l.targetRegion r && l.carries (0x10 + r / 8) then globTable l.g r else s.futureTable r
      ring := fun r => if l.targetRegion r && l.carries (0x10 + r / 8) then globRing l.g r else (s.rxRing r, s.txRing r) }

/-- The configuration in force, as the commands see it. -/
def State.confNow (s : State) : Conf :=
  { glob := s.globF
    tf := fun k => (mget (fun _ => (0 : BitVec 4096)) s.fab.tf k).toNat
    loaded := s.loaded
    desc := s.desc
    table := s.futureTable
    ring := fun r => (s.rxRing r, s.txRing r) }

def Conf.frame (k : Conf) (c r t f : Nat) : Nat := if k.loaded r c then k.tf (tfKey c r t f) else 0
def Conf.mc (k : Conf) (c r t m : Nat) : Nat := frameMc (k.frame c r t 3) m
def Conf.opt (k : Conf) (c r t lo w : Nat) : Nat := bits (k.frame c r t 3) (3072 + lo) w
def Conf.word (k : Conf) (c r : Nat) : Nat := bits (k.frame c r 0 5) 960 64
/-- Loaded contexts of region `r`. -/
def Conf.ctxs (k : Conf) (r : Nat) : List Nat := (List.range 8).filter (k.loaded r)
/-- Region word of region `r`, equal in every loaded context (R121); 0 with none loaded. -/
def Conf.regionWord (k : Conf) (r : Nat) : Nat := match (k.ctxs r).head? with
  | some c => k.word c r
  | none => 0
def Conf.isCoupled (k : Conf) (r : Nat) : Bool := (k.regionWord (r % 48)).testBit 28 && (k.regionWord (r % 48 + 48)).testBit 28
/-- Pairs of contexts that can be active at once in pair `p` (R124). -/
def Conf.ctxPairs (k : Conf) (p : Nat) : List (Nat × Nat) :=
  if k.isCoupled p then (List.range 8).map (fun c => (c, c))
  else (List.range 8).flatMap (fun a => (List.range 8).map (fun b => (a, b)))

/-- A failure of the set stage. -/
def setFail (detail : Nat) (region : Nat := 0xFF) (ctx : Nat := 0xFF) : Option Fail :=
  some { status := stCHECK_FAIL, detail, region, ctx }

/-- The first of a list that a check names. -/
def firstBad {α : Type} (l : List α) (f : α → Option Fail) : Option Fail := l.findSome? f

/-! ## OWNERSHIP (R242, R243, R473, Table CFG-7) -/

/-- Bay of block `k`. -/
def blockBay (k : Nat) : Nat := k / 96

def isRegionCode (c : Nat) : Bool := decide (0x100 ≤ c ∧ c ≤ 0x15F)
def isQueueCode (c : Nat) : Bool := decide (0x200 ≤ c ∧ c ≤ 0x37F)

/-- Owner of block `k` allowed by Table CFG-7. -/
def blockOwnerOk (k c : Nat) : Bool :=
  c ≤ 1 || c = 0x480 || (isRegionCode c && bayOf (c - 0x100) = blockBay k)
    || (isQueueCode c && bayOf (queueRegion (c - 0x200)) = blockBay k)

/-- Does region `r` own block index `b` of its bay by codes `own`? -/
def ownsBlock (own : Nat → Nat) (r b : Nat) : Bool :=
  b < 96 && codeRegion (own (96 * bayOf r + b)) (some (defaultRegion (96 * bayOf r + b))) = some r

/-- The ring blocks of a region are its own (R243). -/
def Conf.ringOwned (k : Conf) (r : Nat) : Bool :=
  let own := ownerEntry k.glob 0x40
  ([(k.ring r).1, (k.ring r).2] : List Nat).all (fun d => !ringEn d || ownsBlock own r (ringBlk d))

/-- Pin word of pin `p` of bank `b`. -/
def Conf.pinWord (k : Conf) (b p : Nat) : Nat := bits (k.glob (0xC0 + 2 * b)) (8 * (16 + 8 * p)) 64

/-- OWNERSHIP; the map itself is checked in a full image. -/
def Conf.ownership (k : Conf) (full : Bool) : Option Fail :=
  let pin (b p : Nat) : Nat := ownerEntry k.glob 0x4B (48 * b + p)
  let misc (i : Nat) : Nat := bits (k.glob 0x4E) (16 * i) 16
  let map : Bool :=
    (List.range 2304).all (fun b => blockOwnerOk b (ownerEntry k.glob 0x40 b))
    && (List.range 384).all (fun q =>
      let c := ownerEntry k.glob 0x49 q
      c = 0 || (c = 1 && dMode (k.desc q) = 0))
    && (List.range 16).all (fun b =>
      (List.range 48).all (fun p =>
        let c := pin b p
        c ≤ 1 || c = 0x480 || c = 0x490 || c = 0x100 + (servingRegion b p).1)
      && (List.range 24).all (fun j =>
        (decide (pinStd (k.pinWord b (2 * j)) < 8) && decide (pinStd (k.pinWord b (2 * j + 1)) < 8)) || pin b (2 * j) = pin b (2 * j + 1)))
    && (List.range 8).all (fun t => misc t ≤ 1 || misc t = 0x490 || decide (0x4A2 ≤ misc t ∧ misc t ≤ 0x4A5))
    && (List.range 4).all (fun m => misc (8 + m) ≤ 1 || isRegionCode (misc (8 + m)))
  if full && !map then setFail dOWNERSHIP
  else firstBad (List.range 96) (fun r => if k.ringOwned r then none else setFail dOWNERSHIP r)

/-! ## QUEUE (R170 to R173, R284, R483, Table NOC-12) -/

/-- Sources and overflow policies of a mode (Table MEM-5). -/
def modeOk (d : Nat) : Bool :=
  let src := dSrc d
  let ovf := dOvf d
  match dMode d with
  | 0 => src = 0 && ovf = 0
  | 1 => (src = 1 || src = 2) && decide (ovf ≤ 2)
  | 2 => src = 1 && (ovf = 0 || ovf = 2)
  | 3 => (src = 1 || src = 2) && ovf = 1
  | 4 => src = 1 && ovf = 0
  | 5 => src = 0 && ovf = 0
  | _ => false

/-- A descriptor of controller `q` by itself and against the owner codes of blocks (R170, R171, R173). -/
def descOk (own : Nat → Nat) (q d : Nat) : Bool :=
  let m := dMode d
  let w := dWords d
  modeOk d && bits d 3 1 = 0 && bits d 10 2 = 0 && bits d 23 1 = 0 && bits d 31 1 = 0 && bits d 51 13 = 0 && bits d 83 13 = 0
    && bits d 144 16 = 0
    && decide (dFirst d + dBlks d ≤ 96) && decide (dBlks d ≤ 64) && (m = 0 || dBlks d ≠ 0)
    && (m = 0 || (List.range (dBlks d)).all (fun i => own (96 * bayOf (queueRegion q) + dFirst d + i) = 0x200 + q))
    && (!dThr d || decide (dLow d < dHigh d ∧ dHigh d ≤ w))
    && (m ≠ 2 || (dRecMax d ≠ 0 && decide (dRecMax d + 1 ≤ w) && (!dDrain d || dMaxf d = 0 || decide (dRecMax d + 3 ≤ dMaxf d))))
    && !(m = 5 && dDouble d && dBlks d % 2 = 1)
    && !((m = 3 || m = 4) && (dHigh d ≠ 0 || dLow d ≠ 0 || dThr d))

/-- Lane that a descriptor of controller `q` names (R172). -/
def descLane (q d : Nat) : Option Nat :=
  if dMode d ≠ 0 ∧ dSrc d = 2 then some (4 * bayOf (queueRegion q) + dLane d) else none

/-- Each lane feeds at most one queue (R172): does another controller than `q` name the lane of `q`? -/
def laneClash (desc : Nat → Nat) (q : Nat) : Bool :=
  match descLane q (desc q) with
  | none => false
  | some n => (List.range 384).any (fun p => p ≠ q && descLane p (desc p) = some n)

/-- Ring descriptors (Table NOC-12). -/
def ringOk (x : Nat × Nat) : Bool :=
  bits x.1 13 19 = 0 && bits x.2 13 19 = 0 && decide (bits x.1 8 4 ≤ 6) && decide (bits x.2 8 4 ≤ 6) && (!ringEn x.2 || ringEn x.1)

/-- Region and port that the tee of lane `n` names in the lane frames (Table IOL-7). -/
def Conf.tee (k : Conf) (n : Nat) : Option (Nat × Nat) :=
  let t := laneImg (k.glob (0x80 + n / 4)) (n % 4) 2
  if t.testBit 0 then some (regionAt (n / 4) (bits t 1 2), bits t 3 2) else none

/-- The tee rules of a full image (R483). -/
def Conf.teeOk (k : Conf) : Bool :=
  (List.range 96).all (fun n =>
    match k.tee n with
    | none => true
    | some (r, p) =>
      (List.range 96).all (fun m => m = n || k.tee m ≠ some (r, p))
        && (k.ctxs r).all (fun c => bits (k.frame c r p 5) 0 960 = 0))

/-- QUEUE. -/
def State.queueCheck (s : State) (l : Loader) (k : Conf) : Option Fail :=
  let own := ownerEntry k.glob 0x40
  let bad := firstBad (List.range 384) (fun q =>
    if !descOk own q (k.desc q) || laneClash k.desc q
        || (!l.full && dSrc (s.desc q) = 2 && k.desc q ≠ s.desc q) then setFail dQUEUE (queueRegion q) else none)
  match bad with
  | some e => some e
  | none =>
    if l.full && !k.teeOk then setFail dQUEUE
    else firstBad (List.range 96) (fun r => if ringOk (k.ring r) then none else setFail dQUEUE r)

/-! ## LOOP (Tables TIL-9, RTE-11) -/

/-- Context of region `r` in the pair of contexts (a, b). -/
def pairCtx (a b r : Nat) : Nat := if r < 48 then a else b

/-- Ladder lines whose position-`p` segment, seen from side `r`, points up. -/
def Conf.ladUp (k : Conf) (a b pr x n p r : Nat) : Bool :=
  if p = 3 then k.opt (pairCtx a b r) pr (24 + x) (26 + 7 * n) 1 = 1
  else
    let (q, t) := ladTile pr x p
    k.opt (pairCtx a b q) q t (26 + 7 * n) 1 = 1

/-- The wires that a wire depends on combinationally with contexts (a, b) active. A macrocell with BYPASS = 1 counts whatever
its MC_EN, since R82 leaves the checks their fields (Table TIL-9); a loop of sums through ladder lines alone, with no bypassed macrocell,
counts as LOOP (DESIGN CHOICE log 131). -/
def Conf.preds (k : Conf) (a b : Nat) (nd : Node) : List Node :=
  let sel (r t c : Nat) : List Node :=
    if c < 64 then [.inp r t c] else if c < 0x50 then [.out r (16 * t + (c - 64))] else []
  match nd with
  | .out r e =>
    let w := k.mc (pairCtx a b r) r (e / 16) (e % 16)
    if mcBypass w then [.fn r (e / 16) (e % 16)] else []
  | .fn r t m =>
    let w := k.mc (pairCtx a b r) r t m
    .sum r t m :: sel r t (bits w 17 7) ++ sel r t (bits w 24 7) ++ (if mcArith w then [.carry r t m] else sel r t (bits w 31 7))
  | .sum r t m =>
    let c := pairCtx a b r
    let row := bits (k.frame c r t 3) (96 * m) 96
    let terms := ((List.range 96).filter row.testBit).map (fun p => bits (k.frame c r t (p / 32)) (128 * (p % 32)) 128)
    ((List.range 64).filter (fun i => terms.any (fun x => bits x (2 * i) 2 ≠ 0))).map (.inp r t ·)
    ++ ((List.range 2).filter (fun n => k.opt c r t (20 + 7 * n) 2 = 2 && k.opt c r t (22 + 7 * n) 4 = m)).map
        (fun n => .ladder (r % 48) (t % 8) n (t / 8 + if r < 48 then 0 else 4))
  | .carry r t m =>
    let c := pairCtx a b r
    if m = 0 then (if k.opt c r t 18 2 = 2 ∧ 8 ≤ t then [.carry r (t - 8) 16] else [])
    else
      let w := k.mc c r t (m - 1)
      if mcEn w && mcArith w then
        .carry r t (m - 1) :: .sum r t (m - 1) :: sel r t (bits w 17 7) ++ sel r t (bits w 24 7)
      else [.carry r t (m - 1)]
  | .inp r t i =>
    let code := bits (k.frame (pairCtx a b r) r t 4) (12 * i) 12
    if 0x60 ≤ code ∧ code ≤ 0x6F then [.out r (16 * t + (code - 0x60))]
    else if 0x200 ≤ code ∧ code ≤ 0x3FF then [.out r (code - 0x200)]
    else if 0x400 ≤ code ∧ code ≤ 0x7FF then [.shaft (r % 48) (code - 0x400)]
    else []
  | .shaft pr n =>
    ([pr, pr + 48] : List Nat).flatMap (fun r =>
      let f := k.frame (pairCtx a b r) r (n / 32) 4
      if f.testBit (768 + 5 * (n % 32)) then [.out r (16 * (n / 32) + bits f (768 + 5 * (n % 32) + 1) 4)] else [])
  | .ladder pr x n p =>
    ((List.range 8).filter (fun q =>
      let (r, t) := ladTile pr x q
      q ≠ p && k.opt (pairCtx a b r) r t (20 + 7 * n) 2 = 1
        && (if q < p then (List.range (p - q)).all (fun i => k.ladUp a b pr x n (q + i) r)
            else (List.range (q - p)).all (fun i => !k.ladUp a b pr x n (p + i) r)))).map (fun q =>
      let (r, t) := ladTile pr x q
      .sum r t (k.opt (pairCtx a b r) r t (22 + 7 * n) 4))
  | .q _ _ => []
  | .ct _ _ _ => []

/-- A number for every wire of a pair; wires that depend on none combinationally share the last one. -/
def Node.index : Node → Nat
  | .out r e => 512 * (r / 48) + e
  | .fn r t m => 1024 + 512 * (r / 48) + 16 * t + m
  | .sum r t m => 2048 + 512 * (r / 48) + 16 * t + m
  | .carry r t m => 3072 + 544 * (r / 48) + 17 * t + m
  | .inp r t i => 4160 + 2048 * (r / 48) + 64 * t + i
  | .shaft _ n => 8256 + n
  | .ladder _ x n p => 9280 + 16 * x + 8 * n + p
  | .q _ _ => 9408
  | .ct _ _ _ => 9408

/-- Every wire of pair `p` that can lie on a loop. -/
def pairNodes (p : Nat) : List Node :=
  ([p, p + 48] : List Nat).flatMap (fun r =>
    (List.range 512).map (.out r ·) ++
    (List.range 32).flatMap (fun t =>
      (List.range 16).flatMap (fun m => [.fn r t m, .sum r t m]) ++ (List.range 17).map (.carry r t ·)
        ++ (List.range 64).map (.inp r t ·)))
  ++ (List.range 1024).map (.shaft p ·)
  ++ (List.range 8).flatMap (fun x => (List.range 2).flatMap (fun n => (List.range 8).map (.ladder p x n ·)))

/-- Take away, at most `n` times over, every wire that depends on none of those left (a bit each): what is left lies on or
behind a loop. -/
def peel (wires : List (Nat × List Nat)) : Nat → Nat → Nat
  | 0, left => left
  | n + 1, left =>
    let next := wires.foldl (fun l x => if l.testBit x.1 && !x.2.any l.testBit then l ^^^ 2 ^ x.1 else l) left
    if next = left then left else peel wires n next

/-- Does pair `p` hold a combinational loop in contexts (a, b)? A region whose context is not loaded drives no wire. -/
def Conf.hasLoop (k : Conf) (p a b : Nat) : Bool :=
  if !k.loaded p a && !k.loaded (p + 48) b then false
  else
    let wires := (pairNodes p).map (fun x => (x.index, (k.preds a b x).map Node.index))
    peel wires 9408 (2 ^ 9408 - 1) ≠ 0

/-- Contexts (a, b) of pair `p`: of the contexts that are not loaded, which drive nothing, the lowest stands for all. -/
def Conf.loopPairs (k : Conf) (p : Nat) : List (Nat × Nat) :=
  let low (r : Nat) : Nat := ((List.range 8).find? (fun c => !k.loaded r c)).getD 8
  (k.ctxPairs p).filter (fun x => k.isCoupled p || (k.loaded p x.1 || x.1 = low p) && (k.loaded (p + 48) x.2 || x.2 = low (p + 48)))

/-- LOOP over the pairs that the load touches; the report names the lower region and its context (DESIGN CHOICE log 96). -/
def Conf.loop (k : Conf) (pairs : List Nat) : Option Fail :=
  firstBad pairs (fun p => firstBad (k.loopPairs p) (fun (a, b) => if k.hasLoop p a b then setFail dLOOP p a else none))

/-! ## STATE_MODE, LADDER (Table TIL-9) -/

def Conf.stateMode (k : Conf) : Option Fail :=
  firstBad (List.range 96) (fun r =>
    match k.ctxs r with
    | [] => none
    | c0 :: rest => firstBad rest (fun c =>
      if (List.range 512).all (fun e =>
        let u := k.mc c0 r (e / 16) (e % 16)
        let v := k.mc c r (e / 16) (e % 16)
        mcShared u == mcShared v && (!mcShared u || mcInit u == mcInit v)) then none else setFail dSTATE_MODE r c))

/-- Ladder line `n` of column `x` of pair `p` in context `c` (R89 to R91). Both regions are taken in the same context
(DEDUCED log 39). Which way a segment points is judged between a contributor and the collector, as R91 asks (R98, DEDUCED
log 169). -/
def Conf.ladLineOk (k : Conf) (p c x n : Nat) : Bool :=
  let role (q : Nat) : Nat := let (r, t) := ladTile p x q; k.opt c r t (20 + 7 * n) 2
  let named (q : Nat) : Bool := let (r, t) := ladTile p x q; mcEn (k.mc c r t (k.opt c r t (22 + 7 * n) 4))
  let up (q : Nat) : Bool := let (r, t) := ladTile p x q; k.opt c r t (26 + 7 * n) 1 = 1
  let con := (List.range 8).filter (fun q => role q = 1)
  let col := (List.range 8).filter (fun q => role q = 2)
  !up 7 && (List.range 8).all (fun q => role q = 0 || named q) && decide (col.length ≤ 1)
    && (match col with
      | [] => con.isEmpty
      | q :: _ => con.all (fun j => if j < q then (List.range (q - j)).all (fun i => up (j + i)) else (List.range (j - q)).all (fun i => !up (q + i))))

def Conf.ladder (k : Conf) (pairs : List Nat) : Option Fail :=
  firstBad pairs (fun p => firstBad (List.range 8) (fun c =>
    if (List.range 8).all (fun x => (List.range 2).all (fun n => k.ladLineOk p c x n)) then none else setFail dLADDER p c))

/-! ## CROSSING, CLOCKS, COUPLING (Table RTE-11, R451, R474, R490) -/

def Conf.xs (k : Conf) (c r j : Nat) : Nat := bits (k.frame c r (j / 8) 4) (928 + 12 * (j % 8)) 10

/-- CROSSING: MC_EN is judged in the context whose XS names the macrocell (DESIGN CHOICE log 133). -/
def Conf.crossing (k : Conf) : Option Fail :=
  firstBad (List.range 96) (fun r => firstBad (k.ctxs r) (fun c =>
    if (List.range 256).all (fun j =>
      let x := k.xs c r j
      let e := x - 0x200
      x < 0x200 || (mcEn (k.mc c r (e / 16) (e % 16)) && (k.ctxs r).any (fun d => !mcBypass (k.mc d r (e / 16) (e % 16))))) then none
    else setFail dCROSSING r c))

/-- Do regions `r` and `n` use a crossing channel between them for CLOCKS: region `r` drives one towards its neighbour `n` on
side `d`, read or not, and `n` has a context loaded (DESIGN CHOICE log 132)? -/
def Conf.usesSide (k : Conf) (r d n : Nat) : Bool :=
  !(k.ctxs n).isEmpty && (k.ctxs r).any (fun c => (List.range 64).any (fun i => k.xs c r (64 * d + i) ≠ 0))

/-- Clock-capable inputs that a region word names belong to a pin of a region (R474). -/
def Conf.pinClocksOk (k : Conf) (r : Nat) : Bool :=
  let b := r % 8 + if r % 48 / 8 < 3 then 0 else 8
  (List.range 4).all (fun i =>
    let c := bits (k.regionWord r) (6 * i) 6
    c < 0x28 || isRegionCode (ownerEntry k.glob 0x4B (48 * b + 2 * (c - 0x28))))

/-- Register image of the clock frames: an uncarried frame gives reset values (R240, R468). -/
def Loader.clockImg (l : Loader) (off : Nat) : Nat :=
  if l.carries (0xE0 + off / 512) then bits (l.g (0xE0 + off / 512)) (8 * (off % 512)) 32 else (regReset (CK off)).toNat

/-- Rates of an enabled quad PLL and its lanes (R477, R490): `f` the lane frame, `khz` the declared reference. -/
def quadRatesOk (f khz : Nat) : Bool :=
  let pll := quadImg f 0
  let n := bits pll 2 11
  let num := khz * 1000 * (n * 2 ^ 24 + quadImg f 1 % 2 ^ 24)
  !pll.testBit 0 ||
    (khz ≠ 0 && decide (160 ≤ n ∧ n ≤ 1600) && decide (8000000000 * 2 ^ 24 ≤ num ∧ num ≤ 32000000000 * 2 ^ 24)
      && (List.range 4).all (fun i =>
        let c := laneImg f i 0
        bits c 0 2 = 0 || decide (1000000000 * 2 ^ 24 * 2 ^ bits c 2 3 ≤ num)))

/-- CLOCKS; clock frames and lane rates are a full image's. -/
def Conf.clocks (k : Conf) (l : Loader) : Option Fail :=
  let reg := firstBad (List.range 96) (fun r =>
    match (k.ctxs r).find? (fun c => k.word c r ≠ k.regionWord r) with
    | some c => setFail dCLOCKS r c
    | none =>
      if !k.pinClocksOk r || (List.range 4).any (fun d =>
        match neighbour r d with
        | some n => k.usesSide r d n && bits (k.regionWord r) 24 4 ≠ bits (k.regionWord n) 24 4
        | none => false) then setFail dCLOCKS r else none)
  match reg with
  | some e => some e
  | none =>
    if l.full && !(clockLimits Config.grade3 l.clockImg
        && (List.range 24).all (fun q =>
          quadRatesOk (l.g (0x80 + q)) (bits (l.clockImg 8) (16 * bits (quadImg (l.g (0x80 + q)) 0) 1 1) 16))) then setFail dCLOCKS
    else none

def Conf.coupling (k : Conf) : Option Fail :=
  firstBad (List.range 48) (fun p =>
    if (k.regionWord p).testBit 28 == (k.regionWord (p + 48)).testBit 28 then none else setFail dCOUPLING p)

/-! ## CONTENTION (R122, R124) -/

/-- Are shaft `n` and the crossing segments of pair `p` driven from at most one end in contexts (a, b)? -/
def Conf.quietWires (k : Conf) (p a b : Nat) : Bool :=
  (List.range 1024).all (fun n =>
    let i := 768 + 5 * (n % 32)
    !((k.frame a p (n / 32) 4).testBit i && (k.frame b (p + 48) (n / 32) 4).testBit i))
  && (List.range 8).all (fun x => (List.range 2).all (fun n =>
    !(k.opt a p (24 + x) (26 + 7 * n) 1 = 1 && k.opt b p (24 + x) (26 + 7 * n) 1 = 0
      && (List.range 4).any (fun i => k.opt b (p + 48) (8 * i + x) (20 + 7 * n) 2 ≠ 0))))

/-- CONTENTION over the pairs that the load touches; the report names the lower region and its context (DESIGN CHOICE
log 96). -/
def Conf.contention (k : Conf) (pairs : List Nat) : Option Fail :=
  firstBad pairs (fun p => firstBad (k.ctxPairs p) (fun (a, b) => if k.quietWires p a b then none else setFail dCONTENTION p a))

/-! ## SCHEDULE (Table CTX-3, R287) -/

/-- The conditions of Table CTX-3 on the table of region `r`, the wave plan apart. -/
def Conf.tableOk (k : Conf) (tbl : Nat → List Word) (r : Nat) : Bool :=
  let t := tbl r
  let e (lo : Nat) : Nat := bits (t.getD 0 0).toNat lo 9
  let g (lo : Nat) : Nat := bits (t.getD 1 0).toNat lo 9
  tableValid t
    && (tableSteps t).all (fun s => k.loaded r s.1)
    && (!tableReq t || ([e 16, g 0, g 9, g 18] : List Nat).all (fun m =>
      (k.ctxs r).all (fun c => mcEn (k.mc c r (m / 16) (m % 16)) && !mcBypass (k.mc c r (m / 16) (m % 16)))))
    && (!k.isCoupled r || r < 48 || (!tableReq t && tableSteps t = tableSteps (tbl (r - 48))))

/-- Table CTX-3 with the tables `tbl`, P and W: the first region that breaks it; `new` are the regions whose tables are
looked at by themselves. -/
def Conf.schedule (k : Conf) (new : List Nat) (tbl : Nat → List Word) (p w : Nat) : Option Fail :=
  match firstBad new (fun r => if k.tableOk tbl r then none else setFail dSCHEDULE r) with
  | some e => some e
  | none =>
    if (w = 1 && (List.range 48).any k.isCoupled) || !planKeeps p w tbl k.isCoupled then setFail dSCHEDULE else none

/-- The plan of the tables `new` leaves every shift of regions that the load does not hold, as the tables `old` give them
(R287); `was` is the coupling of the old plan. -/
def Conf.planSame (k : Conf) (old new : Nat → List Word) (was : Nat → Bool) (p w : Nat) (held : List Nat) : Bool :=
  let a := wavePlan p w old was
  let b := wavePlan p w new k.isCoupled
  (List.range 96).all (fun r => held.contains r || (List.range 16).all (fun j =>
    planShift a was r j = planShift b k.isCoupled r j))

/-! ## SEQUENCER (R267) and the image-control frame (Table CFG-5) -/

/-- Image-control words; an all-zero word stands for the reset value. -/
def icWord (g : Nat → Nat) (i rst : Nat) : Nat := if fieldAt (g 0) (4 * i) 4 = 0 then rst else fieldAt (g 0) (4 * i) 4
def icCtrl (g : Nat → Nat) : Nat := icWord g 0 (regReset (CK 0x800)).toNat
def icP (g : Nat → Nat) : Nat := bits (icWord g 1 (regReset (CK 0x804)).toNat) 0 13
def icW (g : Nat → Nat) : Nat := bits (icWord g 3 (regReset (CK 0x830)).toNat) 0 7
/-- Step codes in slot order; all zero stands for the default order (R264). -/
def icSteps (g : Nat → Nat) : List Nat :=
  let l := (List.range 6).map (fun i => fieldAt (g 0) (20 + i) 1)
  if l.all (· = 0) then [1, 2, 3, 4, 5, 6] else l
def icDelays (g : Nat → Nat) : List Nat := (List.range 6).map (fun i => fieldAt (g 0) (26 + i) 1)
def icTimeout (g : Nat → Nat) : Nat := if fieldAt (g 0) 32 1 = 0 then 100 else fieldAt (g 0) 32 1

/-- No field of the image-control registers holds a reserved encoding. -/
def icOk (off v : Nat) : Bool := ((ckFields off).getD []).all (fun f => !f.reservedVal (v.testBit 0) (bits v f.lo f.w))

def Conf.sequencer (k : Conf) : Option Fail :=
  let l := icSteps k.glob
  if (List.range 6).all (fun i => l.contains (i + 1)) && icOk 0x800 (icCtrl k.glob)
      && icOk 0x804 (icWord k.glob 1 (regReset (CK 0x804)).toNat) && icOk 0x830 (icWord k.glob 3 (regReset (CK 0x830)).toNat) then none
  else setFail dSEQUENCER

/-! ## The stage -/

/-- Stacked pairs that the image touches. -/
def Loader.pairs (l : Loader) : List Nat := (List.range 48).filter (fun p => l.full || l.targetRegion p || l.targetRegion (p + 48))

/-- The tables `old` with those that a partial load carries. -/
def Loader.tables (l : Loader) (old : Nat → List Word) (r : Nat) : List Word :=
  if l.targetRegion r && l.carries (0x10 + r / 8) then globTable l.g r else old r

/-- SCHEDULE of a load; a partial one may run under P, W and the tables in force and under those of every accepted change
(R47, R150, R287). -/
def State.scheduleCheck (s : State) (l : Loader) (k : Conf) : Option Fail :=
  if l.full then k.schedule (List.range 96) k.table (icP k.glob) (icW k.glob)
  else firstBad s.plansAhead (fun x => match k.schedule (List.range 96) (l.tables x.table) x.p x.w with
    | some e => some e
    | none => if k.planSame x.table (l.tables x.table) s.planCoupled x.p x.w l.held then none else setFail dSCHEDULE)

/-- The set stage in table order. -/
def State.setStage (s : State) (l : Loader) : Option Fail :=
  let k := s.conf l
  k.ownership l.full <|> s.queueCheck l k <|> k.loop l.pairs <|> k.stateMode <|> k.ladder l.pairs <|> k.crossing <|> k.clocks l
    <|> k.coupling <|> k.contention l.pairs <|> s.scheduleCheck l k <|> (if l.full then k.sequencer else none)

end Sys2Proof.Machine
end

