-- ==== Sys2Proof/Machine/Hold.lean ====
section
/-! DEFINITION. Holding and releasing regions (spec/09 R280, R281, R289 to R292), initial values (spec/03 R87), the end of
loans and soundings (spec/08 R245, spec/17 R498). -/

namespace Sys2Proof.Machine

/-! ## Initial values (R86, R87) -/

def State.setLoaded (s : State) (r c : Nat) (b : Bool) : State := s.setBit (RG r 0) (16 + c) b

/-- Loaded contexts of region `r`. -/
def State.loadedCtxs (s : State) (r : Nat) : List Nat := (List.range 8).filter (s.loaded r)

/-- Private bank `c` of region `r` takes INIT from the word of context `c`. -/
def State.initBank (s : State) (r c : Nat) : State :=
  s.setBank r c (ofBits 512 (fun e => mcInit (s.mcWord c r (e / 16) (e % 16))))

/-- Every shared bit of region `r` takes its common INIT. -/
def State.initShared (s : State) (r : Nat) : State :=
  s.setShared r (ofBits 512 (fun e => (s.loadedCtxs r).any (fun c =>
    mcShared (s.mcWord c r (e / 16) (e % 16)) && mcInit (s.mcWord c r (e / 16) (e % 16)))))

/-- Every flip-flop of region `r` takes its initial value. -/
def State.initRegion (s : State) (r : Nat) : State := ((s.loadedCtxs r).foldl (fun t c => t.initBank r c) s).initShared r

/-! ## Holding (R281, Tables RGN-1, RTE-9) -/

/-- What the shaft ends of region `r` keep from the running cycle on: SB = 0b00 keeps the value driven now. -/
def State.snapShafts (s : State) (r : Nat) : State :=
  let c := s.active r
  let on := ofBits 1024 (fun n => s.shDrv c r n)
  let v := ofBits 1024 (fun n => s.shDrv c r n && (match s.sb c r n with
    | 1 => false
    | 2 => true
    | _ => s.val (.out r (16 * (n / 32) + s.shMc c r n))))
  { s with fab := { s.fab with
      shaftOn := mput (fun _ => (0 : BitVec 1024)) s.fab.shaftOn r (BitVec.ofNat 1024 on)
      shaftVal := mput (fun _ => (0 : BitVec 1024)) s.fab.shaftVal r (BitVec.ofNat 1024 v) } }

/-- Both ends of every cross-tier wire stop driving (R126). -/
def State.dropShafts (s : State) (r : Nat) : State :=
  { s with fab := { s.fab with shaftOn := mput (fun _ => (0 : BitVec 1024)) s.fab.shaftOn r 0 } }

/-- The crossing registers of region `r` in their berm modes. -/
def State.bermCross (s : State) (r : Nat) : Nat :=
  let c := s.active r
  ofBits 256 (fun j => match s.xb c r j with
    | 1 => false
    | 2 => true
    | _ => (s.crossReg r).testBit j)

/-- Region `r` is held from this edge on; its pins keep what their crossing registers took. A region that is held already
stays as it is, but for the cause. -/
def State.holdRegion (s : State) (r cause : Nat) : State :=
  let x := s.region r
  if x.held then s.setRegion r { x with cause, committed := false }
  else
    let s := { s with fab := { s.fab with
      pinHold := mput (fun _ => (0 : BitVec 256)) s.fab.pinHold r (BitVec.ofNat 256 (s.crossReg r)) } }
    let s := s.setCross r (s.bermCross r)
    s.setRegion r { x with held := true, cause, committed := false, swapCycle := false, cpl := some (s.coupled r) }

/-! ## Descriptors and rings (R174, R241, Table NOC-12) -/

/-- Fields of a descriptor that change without clearing the queue: HIGH_WM, LOW_WM, THR_EN, WR_SLOTS, DEST, DRAIN_EN,
DRAIN_MAXF, DRAIN_LANE (R174). -/
def descFixed (d : Nat) : Nat :=
  [(32, 19), (64, 19), (113, 1), (12, 4), (104, 8), (112, 1), (128, 16), (126, 2)].foldl (fun x (lo, w) => setBits x lo w 0) d

/-- Put a descriptor into force: the queue keeps its contents or is cleared (R174). -/
def State.applyDesc (s : State) (q d : Nat) : State :=
  let s := s.endRecord q
  let old := s.desc q
  let t := s.setQueue q { s.queue q with desc := BitVec.ofNat 160 d }
  if descFixed old = descFixed d then t.updThrottle q else t.clearQueue q

/-- Put the ring descriptors of region `r` into force. -/
def State.setRings (s : State) (r : Nat) (x : Nat × Nat) : State :=
  let o := if r < 48 then 0x20 else 0x28
  (s.setFld (NR (r % 48) o) 0 13 x.1).setFld (NR (r % 48) (o + 4)) 0 12 x.2

/-- Headland empties the rings in use (R292). -/
def State.emptyRings (s : State) (r : Nat) : State :=
  ([s.rxRing r, s.txRing r] : List Nat).foldl (fun t d =>
    if ringEn d then (t.putRing r d 0 0).putRing r d 1 0 else t) s

/-! ## Release (R289 to R292, Table RGN-2) -/

/-- EV_REGION_READY (Table CMD-15): kind 0 release, 1 background commit. -/
def State.regionReady (s : State) (mb tag r kind : Nat) : State :=
  s.direct { mb, tag, code := 3, data := packLE [(r, 1), (kind, 1), (s.frameNo, 6)] }

/-- Staged descriptors of region `r` and of its queue controllers come into force. -/
def State.applyStaged (s : State) (r : Nat) : State :=
  let x := s.region r
  let s := match x.stTable with
    | some t => s.setTable r t
    | none => s
  let s := match x.stRing with
    | some d => s.setRings r d
    | none => s
  forAll 4 (fun i t =>
    match (t.queue (4 * r + i)).stDesc with
    | some d => (t.setQueue (4 * r + i) { t.queue (4 * r + i) with stDesc := none }).applyDesc (4 * r + i) d.toNat
    | none => t) s

/-- Region `r` leaves the hold: step 0 of its table, ungated, without a pending swap. -/
def State.freeRegion (s : State) (r : Nat) : State :=
  let s := (s.unpend r).setFld (RG r 0) 0 3 (s.stepCtx r 0)
  let s := s.setRegion r { srGate := true, ceGate := true, pinStart := true }
  let s := { s with fab := { s.fab with
    shaftOn := mput (fun _ => (0 : BitVec 1024)) s.fab.shaftOn r 0
    shaftVal := mput (fun _ => (0 : BitVec 1024)) s.fab.shaftVal r 0
    pinHold := mput (fun _ => (0 : BitVec 256)) s.fab.pinHold r 0 } }
  s.emptyRings r

/-- Regions are released at one edge. -/
def State.releaseAll (s : State) (l : List Nat) : State :=
  let s := l.foldl State.applyStaged s
  let s := l.foldl State.freeRegion s
  l.foldl (fun t r => t.setStep r 0 (t.shift r 0)) s

/-- Is the release of region `r` due at the tick edge that starts the running frame (R289)? None is while the whole unit is held,
which a full load ends (R507, R510). -/
def State.releaseDue (s : State) (r : Nat) : Bool :=
  let x := s.region r
  x.held && !s.run.hold && decide (s.tick.count = 0) && decide (x.relCyc ≤ s.tick.cyc)
    && (x.relMode = 0 || (x.relMode = 1 && x.committed && !laterFrame x.relTarget s.frameNo))

/-- A release at a target frame that falls into a Headland restart is lost with the change (R356); the region waits for a
command (R296). -/
def State.loseRelease (s : State) (r : Nat) : State :=
  let x := s.region r
  let s := s.setRegion r { x with relMode := 2 }
  if x.group.head? = some r then
    { s with hl := { s.hl with discarded := s.hl.discarded ++ [(x.relMb, x.relTag)], nDiscarded := s.hl.nDiscarded + 1 } }
  else s

/-- REGION_RELEASE_EDGE. -/
def State.releaseEdge (s : State) : State :=
  let due := (List.range 96).filter s.releaseDue
  let lost := due.filter (fun r => (s.region r).relMode = 1 && !s.hl.up)
  let go := due.filter (fun r => !lost.contains r)
  let s := lost.foldl State.loseRelease s
  let told := (go.filter (fun r => (go.find? (fun k => (s.region r).group.contains k || k = r)) = some r)).map
    (fun r => (r, (s.region r).relMb, (s.region r).relTag))
  let s := s.releaseAll go
  told.foldl (fun t (r, mb, tag) => t.regionReady mb tag r 0) s

def execRegionReleaseEdge (s : State) : Host.Outcome State Fault Refusal := .next s.releaseEdge

/-! ## Loans and soundings (R245, R494, R498, Table PRB-2) -/

/-- STATE, HOLDER of PB_STATUS. -/
def State.pbState (s : State) : Nat := s.fld (PB 4) 0 2
def State.holder (s : State) : Nat := s.fld (PB 4) 16 4
def State.sounding (s : State) : Bool := s.pbState = 1 || s.pbState = 2

/-- Is the change the arming of a sounding? -/
def Accepted.arms (a : Accepted) : Bool := match a.what with
  | .arm _ => true
  | _ => false

/-- A sounding ends with END = `e`, and with it an arming that still awaits its tick. -/
def State.endSounding (s : State) (e : Nat) : State :=
  if s.sounding then
    { (s.setFld (PB 4) 0 2 3).setFld (PB 4) 4 3 e with hl := { s.hl with changes := s.hl.changes.filter (fun a => !a.arms) } }
  else s

/-- Blocks that the running sounding stores into. -/
def State.bufBlocks (s : State) : List Nat :=
  ((List.range (s.fld (PB 0) 5 5)).filter (fun i => s.bit (PB (0x40 + 4 * i)) 12)).map (fun i => s.fld (PB (0x40 + 4 * i)) 0 12)

/-- Every loan that `p` names ends; LOAN_END tells the holder. -/
def State.endLoans (s : State) (p : Nat × Nat × Nat → Bool) : State :=
  let gone := s.hl.loanList.filter p
  let s := { s with hl := { s.hl with loanList := s.hl.loanList.filter (fun l => !p l) } }
  let s := if gone.any (fun l => l.2.2 = s.holder) then s.setBit (PB 4) 8 true else s
  if gone.any (fun l => l.1 = 0 && s.bufBlocks.contains l.2.1) then s.endSounding 3 else s

/-- A full load ends every loan and takes the holder away (R245, R494). -/
def State.fullLoadLoans (s : State) : State :=
  let s := if s.sounding then s.setBit (PB 4) 8 true else s
  (((s.endLoans (fun _ => true)).endSounding 3).setFld (PB 4) 16 4 0xF)

end Sys2Proof.Machine
end

