-- ==== Sys2Proof/Machine/Loader.lean ====
section
/-! DEFINITION. The loader (spec/08 R249 to R263, R275 to R277, spec/09 R278 to R296): sources, stages, hold edge, commit,
rejection, boot and fallback, broadcasts. -/

namespace Sys2Proof.Machine

def State.setLd (s : State) (l : Loader) : State := { s with ld := l }

/-! ## The whole unit held, cleared, unconfigured (Table CFG-13, R260, R263) -/

/-- Every context, descriptor and setting is cleared, the blocks too; clock settings, lane receive settings, counters and
the chain stay (Table CFG-13), and so does every accepted change (R57). SHIFT_MAX is a counter since reset (Table CTX-8). The
crossing registers keep what they hold until their first edge after the commit (DESIGN CHOICE log 161). -/
def State.clearConfig (s : State) : State :=
  let s := forAll 96 (fun r t =>
    let t := t.zeroRegs ([0x00, 0x04, 0x08] ++ (List.range 8).map (fun i => 0x20 + 4 * i) |>.map (RG r ·))
    let t := t.setFld (RG r 0x14) 0 13 0
    (t.setRings r (0, 0)).setRegion r { held := true, cause := 1 }) s
  let s := forAll 384 (fun q t =>
    let x := t.queue q
    t.setQueue q { seq := x.seq, wheel := x.wheel, ovf := x.ovf, ovfCount := x.ovfCount, accWait := x.accWait }) s
  let s := forAll 96 (fun n t => (t.setReg (LN n 8) 0).setReg (LN n 0xC) (regReset (LN n 0xC)).toNat) s
  let s := forAll 96 (fun n t => ((t.setFld (LN n 0) 1 1 0).setFld (LN n 0) 10 1 0).setLane n { t.laneOf n with tee := [] }) s
  let s := forAll 24 (fun b t => t.setFld (scrubReg b 0x800) 0 2 1) s
  { s with
    fab := { s.fab with tf := [], port := [], shaftOn := [], shaftVal := [] }
    glob := []
    mem := []
    flips := []
    ueSeen := []
    net := s.net.filter (fun p => p.own = 384 || p.left ≠ 0)
    run := {} }

/-- The unit becomes unconfigured (R260, R263): cleared as at the start of a full load, its lanes disabled, every region held
for a failed load (Table CMD-7). -/
def State.unconfigure (s : State) : State :=
  let s := s.fullLoadLoans.clearConfig.disableLanes
  let s := s.setChain { s.chain with unconf := true }
  forAll 96 (fun r t => t.setRegion r { t.region r with cause := 4 }) s

/-! ## Load reports (R259, Table CFG-16) -/

/-- The report of the load that ends now. -/
def State.loadReport (s : State) (f : Fail) (accepted : Bool) : BitVec 192 :=
  let l := s.ld
  BitVec.ofNat 192 (packLE [(f.status, 1), (l.source, 1), (f.detail, 2), (f.index, 4), (f.addr, 4), (f.region, 1), (f.ctx, 1),
    (l.attempt, 1), (l.slot, 1), (if accepted then l.generation else 0, 4), ((s.timePs - l.startPs) / 1000000, 4)])

/-- Post the report (R259), and send it to the head when the image came by broadcast (R334). -/
def State.postReport (s : State) (f : Fail) (accepted : Bool) : State :=
  let l := s.ld
  let rep := s.loadReport f accepted
  let s := s.direct ⟨l.mb, l.tag, 1, rep.toNat, decide (f.status ≠ 0), f.detail⟩
  let s := if l.source = 3 && !s.isHead then s.sendMsg upPorts tLoadRpt 0 s.headAddr (bytesLE rep.toNat 24) else s
  s.setLd { grp := l.grp, report := rep, pspErr := l.pspErr || (l.source = 1 && f.status ≠ 0)
            pspGap := l.pspGap
            sspSkip := l.sspSkip || (l.source = 2 && l.sspOpen), sspOpen := l.sspOpen }

/-! ## Starting a load (R249, R261, R276) -/

/-- Bytes of a store slot. -/
def slotDefault (k : Nat) : Slot := slotReset k
def State.slot (s : State) (k : Nat) : Slot := mget slotDefault s.store.slots k
def State.setSlot (s : State) (k : Nat) (x : Slot) : State := { s with store := { s.store with slots := mput slotDefault s.store.slots k x } }

/-- A load waits for its header. A full load stops the sequencer (R261). -/
def State.beginLoad (s : State) (source slot kind release target mb tag : Nat) (boot : Bool) : State :=
  let l : Loader := { phase := .header
                      source, slot, kind, release, target, mb, tag, boot
                      attempt := if boot then s.bt.n else 0
                      buf := if source = 0 then (s.slot slot).bytes else []
                      startPs := s.timePs
                      grp := s.ld.grp, report := s.ld.report, pspErr := s.ld.pspErr, pspGap := s.ld.pspGap, sspSkip := s.ld.sspSkip
                      sspOpen := s.ld.sspOpen }
  let s := s.setLd l
  let s := if boot then { s with bt := { s.bt with n := s.bt.n + 1 } } else s
  if kind = 1 then { s with sq := { s.sq with on := false } } else s

/-- A boot load from the current source (Table CFG-10). -/
def State.beginBoot (s : State) : State := s.beginLoad s.bt.source (if s.bt.source = 0 then s.bt.slot else 0xFF) 1 0 0 0 0xFFFF true

/-- The unit stays unconfigured: BOOT_FAIL once, with the last load report (R277). -/
def State.tellUnconfigured (s : State) : State :=
  if s.bt.told then s
  else ({ s with bt := { s.bt with told := true } }.fault 0x0107 (s.ld.report.toNat % 2 ^ 160)).selfReport 5 0x0107

/-- The boot procedure ends without an image: the unit is unconfigured, also one that kept its configuration through a
brown-out (R276, R277). -/
def State.bootFail (s : State) : State :=
  let s := { s with bt := { s.bt with on := false } }
  (if s.run.configured then s.unconfigure else s).tellUnconfigured

/-- The loop of R276 from its head: a port or broadcast source waits for its next image; `n` bounds the two sources. -/
def State.bootLoop : Nat → State → State
  | 0, s => s.bootFail
  | n + 1, s =>
    let golden := s.bt.source = 0 && s.bt.slot = s.goldenSlot
    let next (s : State) : State :=
      if golden then s.bootFail
      else State.bootLoop n { s with bt := { s.bt with source := 0, slot := s.goldenSlot, attempts := 0 } }
    if s.bt.source = 0 then
      if (s.slot s.bt.slot).st = 2 ∧ s.bt.attempts < 2 then s.beginBoot else next s
    else if s.bt.attempts < 2 then s else next s

/-- The procedure goes on once the loader and Headland are free (R276, R356, R507). -/
def State.bootResume (s : State) : State :=
  if s.bt.on && s.hl.up && s.ld.phase = .idle then State.bootLoop 3 s else s

/-- A boot load has failed with detail `d` (R275, R276). -/
def State.bootFailed (s : State) (d : Nat) : State :=
  let n := if d = dCRC ∨ d = dSEQUENCE ∨ d = dSTALLED then 1 else 2
  State.bootLoop 3 { s with bt := { s.bt with attempts := s.bt.attempts + n } }

/-- BOOT_LOAD_START (R249, Table CFG-10); nothing starts in SCRAPPED (Table LCS-3). -/
def State.bootStart (s : State) : State :=
  if !s.on || s.bt.started || s.ld.phase ≠ .idle || !s.hl.up || s.lc = 7 then s
  else
    let s := { s with bt := { s.bt with started := true } }
    let go (source slot : Nat) : State :=
      State.bootLoop 3 { s with bt := { s.bt with on := true, source, slot, attempts := 0, n := 0 } }
    match s.boot with
    | 0 => go 0 s.bootSlot
    | 1 => go 1 0xFF
    | 2 => go 2 0xFF
    | 3 => go 3 0xFF
    | 4 => go 4 0xFF
    | b => s.fault 0x0106 b

def execBootLoadStart (s : State) : Host.Outcome State Fault Refusal := .next s.bootStart

/-! ## Rejection (R260, R295) -/

/-- The keys of a region's tile frames in one context. -/
def tfOf (r c key : Nat) : Bool := key / 24576 = c && key / 256 % 96 = r

/-- A target becomes unloaded and counts as all-zero frames. -/
def State.unloadTarget (s : State) (r c : Nat) : State :=
  let s := s.setLoaded r c false
  { s with fab := { s.fab with tf := s.fab.tf.filter (fun e => !tfOf r c e.1) } }

/-- Do `f` for every target of the load. -/
def State.eachTarget (s : State) (l : Loader) (f : Nat → Nat → State → State) : State :=
  forAll 96 (fun r t => forAll 8 (fun c u => if l.isTarget r c then f r c u else u) t) s

/-- Is region `r` held and released together with its pair partner: coupled, or so held by an earlier load (R127, R280)? -/
def State.tied (s : State) (r : Nat) : Bool :=
  s.coupled r || ((s.region r).held && (s.region r).group.contains (partner r))

/-- Region `r` of a load that failed stays held, or is held from now on when the hold edge had not come (R280, R295, log 128);
`tied` says that its partner shares the hold. -/
def State.failRegion (s : State) (l : Loader) (tied : Bool) (r : Nat) : State :=
  let s := if (s.region r).held then s else (s.snapShafts r).holdRegion r (if l.targetRegion r then 1 else 2)
  let x := s.region r
  s.setRegion r { x with
    cause := 4
    committed := false, relMode := 2, group := if tied then [r, partner r] else [r] }

/-- A load ends under R260, and a full one that no boot procedure follows leaves the unit unconfigured, which is told as R277 says
(DEDUCED log 179); `accepted` says that its header was. The targets of a partial load are known from its accepted header on
(DEDUCED log 41). -/
def State.rejectLoad (s : State) (f : Fail) (accepted : Bool) : State :=
  let l := s.ld
  let full := if accepted then l.full else l.kind = 1
  let s :=
    if full then s.unconfigure
    else if accepted then
      let t := s.eachTarget l (fun r c t => t.unloadTarget r c)
      l.held.foldl (fun t r => t.failRegion l (s.tied r) r) t
    else s
  let s := s.postReport f accepted
  if l.boot then s.bootFailed f.detail
  else (if full && !s.bt.on && !s.bt.brown then s.tellUnconfigured else s).bootResume

/-- A load that runs ends with `f`. -/
def State.failLoad (s : State) (f : Fail) : State := s.rejectLoad f (s.ld.phase ≠ .header)

/-! ## Header (R233, R278, R279, R293, R294) -/

/-- Addresses of the records that stand in the buffer, `n` of them. -/
def bufferedAddrs (len : Nat) : Nat → List Byte → List Nat
  | 0, _ => []
  | n + 1, b => if b.length < 4 then [] else natLE (b.take 4) :: bufferedAddrs len n (b.drop len)

/-- Does a global frame of address `a` hold the descriptor of region `r` or of one of its queue controllers (R278)? -/
def holdsDescriptor (r a : Nat) : Bool := a = 0x21FC0010 + r / 8 || a = 0x21FC0020 + r / 4

/-- Regions that a partial load holds (R278), those that a failed load left held (R280, R295) and the partners held with
them included; `addrs` are the record addresses known so far. -/
def State.heldBy (s : State) (l : Loader) (addrs : List Nat) : List Nat :=
  let own := (List.range 96).filter (fun r =>
    l.targetRegion r && ((s.region r).held || l.isTarget r (s.active r) || (tableSteps (s.table r)).any (fun x => l.isTarget r x.1)
      || addrs.any (holdsDescriptor r)))
  (List.range 96).filter (fun r => own.contains r || (s.tied r && own.contains (partner r)))

/-- Does an accepted commanded change that awaits its tick name a target region (R294)? -/
def State.awaits (s : State) (l : Loader) : Bool :=
  s.anyChange (fun c => match c with
    | .sched t => t.any (fun x => l.targetRegion x.1)
    | _ => false)

/-- The header is accepted: the load waits for its hold edge. -/
def State.acceptHeader (s : State) (l : Loader) : State :=
  let held := if l.full then List.range 96 else s.heldBy l (bufferedAddrs l.recLen l.records l.buf)
  let s := s.setLd { l with phase := .hold, startPs := s.timePs, startCyc := s.tick.cyc, held }
  if l.full then s
  else (s.eachTarget l (fun r c t => if held.contains r then t else t.setLoaded r c false)).dropUnloaded

/-- IMAGE_HEADER. -/
def State.imageHeader (s : State) : State :=
  if s.ld.phase ≠ .header ∨ s.ld.buf.length < 256 then s
  else
    let l := s.ld.start (s.ld.buf.take 256)
    let l : Loader := { l with buf := l.buf.drop 256 }
    let t := s.setLd { l with startPs := s.timePs }
    match s.headerStage l.kind l with
    | some f => t.rejectLoad f false
    | none =>
      if !l.full && s.awaits l then t.rejectLoad { status := stBUSY, detail := 0 } false
      else s.acceptHeader l

def execImageHeader (s : State) : Host.Outcome State Fault Refusal := .next s.imageHeader

/-! ## Hold edge (R257, R279 to R281) -/

/-- Where the stream stands after a record. -/
def Loader.streamPhase (l : Loader) : LdPhase := if l.recN < l.records then .records else .trailer

/-- Does a full load wait for VCORE and VMEM at its hold edge (R524)? That rule names the boot load; any full load needs
the same rails (DEDUCED log 55). -/
def State.waitsRails (s : State) : Bool := s.ld.phase = .hold && s.ld.full && !(s.rails.vcore && s.rails.vmem)

/-- LOAD_HOLD_EDGE: the first tick edge after the header was accepted. -/
def State.holdEdge (s : State) : State :=
  let l := s.ld
  if l.phase ≠ .hold ∨ s.tick.count ≠ 0 ∨ s.tick.cyc ≤ l.startCyc ∨ s.waitsRails then s
  else
    let s := if l.full then s.fullLoadLoans.clearConfig
      else l.held.foldl (fun t r => t.holdRegion r (if l.targetRegion r then 1 else 2)) s
    s.setLd { l with phase := l.streamPhase }

def execLoadHoldEdge (s : State) : Host.Outcome State Fault Refusal := .next s.holdEdge

/-! ## Records and trailer (R257, R258, R286) -/

/-- A streamed image that names a descriptor only after its header: the regions it holds are held at the next tick edge,
and the source stalls until then (DEDUCED log 42). -/
def State.lateHold (s : State) (l : Loader) (addr : Nat) : State :=
  let more := (s.heldBy l [addr]).filter (fun r => !l.held.contains r)
  if l.full || more.isEmpty then s.setLd { l with phase := l.streamPhase }
  else s.setLd { l with phase := .hold, held := l.held ++ more, startCyc := s.tick.cyc }

/-- FRAME_RECORD. -/
def State.frameRecord (s : State) : State :=
  let l := s.ld
  if l.phase ≠ .records ∨ l.buf.length < l.recLen then s
  else
    let rec_ := l.buf.take l.recLen
    match s.recordStage l rec_ with
    | .error f => s.failLoad f
    | .ok t =>
      let s := match t.chunk with
        | some (k, ch, v) => s.powered (fun t => t.putChunk k ch v)
        | none => s
      s.lateHold { t.l with buf := l.buf.drop l.recLen } (natLE (rec_.take 4))

def execFrameRecord (s : State) : Host.Outcome State Fault Refusal := .next s.frameRecord

/-- IMAGE_TRAILER: the 260 bytes after the last record, whatever they hold (R233). -/
def State.imageTrailer (s : State) : State :=
  let l := s.ld
  if l.phase ≠ .trailer ∨ l.buf.length < 260 then s
  else s.setLd { l with phase := .trailerStage, trailer := BitVec.ofNat 2080 (natLE (l.buf.take 260)), buf := [] }

def execImageTrailer (s : State) : Host.Outcome State Fault Refusal := .next s.imageTrailer

/-- TRAILER_STAGE_DONE. -/
def State.trailerDone (s : State) : State :=
  if s.ld.phase ≠ .trailerStage then s
  else match s.trailerStage s.ld with
    | some f => s.failLoad f
    | none => s.setLd { s.ld with phase := .setStage }

def execTrailerStageDone (s : State) : Host.Outcome State Fault Refusal := .next s.trailerDone

/-! ## Commit of a full load (R257, R240, R263, R327, R340) -/

/-- Zhevley settings of port `p` from the image; an uncarried frame gives reset values. -/
def State.commitPort (l : Loader) (p : Nat) (s : State) : State :=
  let v (off lo : Nat) : Nat := if l.carries (0xF0 + p) then bits (l.g (0xF0 + p)) (8 * lo) 32 else (regReset (ZV p off)).toNat
  let put (off lo : Nat) (t : State) : State := t.setReg (ZV p off) (applyWrite ((zvFields p off).getD []) (t.reg (ZV p off)) (v off lo))
  let s := put 0x14 4 (put 0 0 s)
  if p < 2 then put 0x40 8 s else s

/-- The unit-wide values of frame 0x0F0: HEAD, BASE, PAD, BYP_HOLD. A unit that is no head any more keeps its address (R307);
CALD follows a change (R310). -/
def State.commitUnit (s : State) (l : Loader) : State :=
  let v (lo : Nat) : Nat := bits (l.g 0xF0) (8 * lo) 32
  let head := (v 64).testBit 25
  let base := if l.carries 0xF0 then bits (v 68) 0 12 else (regReset (ZV 0 0x804)).toNat
  let old := s
  let s := ((s.setBit (ZV 0 0x800) 25 head).setFld (ZV 0 0x804) 0 12 base).setFld (ZV 0 0x81C) 0 12 (bits (v 72) 0 12)
  let s := s.setBit (ZV 0 0x820) 4 ((v 76).testBit 4)
  (s.roleTaken head).caldAfter old

/-- Region `r` at the commit of a full load: descriptor, rings, loaded contexts, initial values; it runs the context of
step 0 (R133), gated (R83). -/
def State.commitRegion (l : Loader) (r : Nat) (s : State) : State :=
  let s := (s.setTable r (globTable l.g r)).setRings r (globRing l.g r)
  let s := s.setFld (RG r 0) 16 8 (l.hf (80 + r) 1)
  let s := forAll 8 (fun c t => if l.isTarget r c then t else t.setBank r c 0) s
  let s := (s.setRegion r {}).initRegion r
  s.setFld (RG r 0) 0 3 (s.stepCtx r 0)

/-- Queue controller `q` at the commit of a full load. The tick to come is frame 0 (R49), so a pipeline starts one before
it (R183). -/
def State.commitQueue (l : Loader) (q : Nat) (s : State) : State :=
  let d := globDesc l.g q
  let c := subFrame (2 ^ 48 - 1) (dFofs d)
  let x := s.queue q
  s.setQueue q (if dMode d = 3 then { x with desc := BitVec.ofNat 160 d, curt := c, oldest := c }
    else { x with desc := BitVec.ofNat 160 d })

/-- Tick settings of the image-control frame (Table CFG-5, R41, R46, R49). -/
def State.commitTick (s : State) (g : Nat → Nat) : State :=
  let s := (s.writeTickCtrl (icCtrl g)).setFld (CK 0x808) 0 12 (fieldAt (g 0) 8 4)
  { s with tick := { s.tick with pendP := some (icP g), pendW := some (icW g), zero := true } }

/-- The commit of a brown-out reload: OFS, ADJ and ALIGN_DONE from the last calibration (R507). -/
def State.commitReload (s : State) (l : Loader) : State :=
  let s := if s.bt.reload && l.boot && s.hl.calDone then
    ((s.setFld (CK 0x808) 0 12 s.hl.calOfs).setFld (CK 0x820) 0 16 s.hl.calAdj).alignDone else s
  { s with bt := { s.bt with reload := false } }

/-- LOAD_COMMIT of a full load. The scrub engines start at word 0 of their bay (DESIGN CHOICE log 162). -/
def State.commitFull (s : State) : State :=
  let l := s.ld
  let s := { s with glob := l.glob, fab := { s.fab with tf := l.tf } }
  let s := forAll 96 (State.commitRegion l) s
  let s := forAll 384 (State.commitQueue l) s
  let s := forAll 24 (fun q t => t.commitQuad q (l.g (0x80 + q))) s
  let s := forAll 24 (fun b t =>
    let on := !(fieldAt (l.g 0) 16 4).testBit b
    ((t.setBit (scrubReg b 0x800) 0 on).setBit (scrubReg b 0x800) 1 on).setReg (scrubReg b 0x804) 0 |>.setScrubVisits b 0) s
  let s := (s.commitClocks l.clockImg).commitTick l.g
  let s := (forAll 4 (State.commitPort l) s).commitUnit l
  let s := (s.checkSide (icP l.g) 0).checkSide (icP l.g) 1
  let s := (s.setReg (ZV 0 0x80C) l.generation).commitReload l
  { s with
    chain := { s.chain with loadedSince := true, unconf := false }
    run := { configured := true, hold := false }
    bt := { s.bt with on := false, told := false }
    sq := { on := true, steps := icSteps l.g, delays := icDelays l.g, timeoutMs := icTimeout l.g } }

/-! ## Commit of a partial load (R288, R289, R292, R293) -/

/-- Target (r, c): its frames, loaded, bank c at INIT. -/
def State.commitTarget (l : Loader) (r c : Nat) (s : State) : State :=
  let s := s.unloadTarget r c
  let s := (l.tf.filter (fun e => tfOf r c e.1)).foldl (fun t e => t.setTf e.1 e.2.toNat) s
  (s.setLoaded r c true).initBank r c

/-- What a held region of the load stages until its release, and when that is. -/
def State.stageRegion (l : Loader) (late : Bool) (r : Nat) (s : State) : State :=
  let x := s.region r
  let carried := l.targetRegion r && l.carries (0x10 + r / 8)
  let x := { x with
    committed := true
    stTable := if carried then some (globTable l.g r) else x.stTable
    stRing := if carried then some (globRing l.g r) else x.stRing
    relMode := if l.release = 1 && late then 2 else l.release
    relTarget := l.target, relMb := l.mb, relTag := l.tag, group := l.held, relCyc := s.tick.cyc + 1 }
  let s := if l.targetRegion r then (s.setRegion r x).initShared r else s.setRegion r x
  forAll 4 (fun i t =>
    let q := 4 * r + i
    if l.targetRegion r && l.carries (0x20 + q / 16) then
      t.setQueue q { t.queue q with stDesc := some (BitVec.ofNat 160 (globDesc l.g q)) }
    else t) s

/-- LOAD_COMMIT of a partial load. -/
def State.commitPartial (s : State) : State :=
  let l := s.ld
  let s := s.eachTarget l (State.commitTarget l)
  let late := l.release = 1 && !laterFrame l.target s.frameNo
  let s := l.held.foldl (fun t r => State.stageRegion l late r t) s
  let s := if late && !l.held.isEmpty then s.fault 0x0109 (packLE [(l.held.headD 0, 1), (0, 1), (l.target, 6)]) else s
  match (List.range 96).find? (fun r => l.targetRegion r && !l.held.contains r) with
  | some r => s.regionReady l.mb l.tag r 1
  | none => s

/-- SET_STAGE_DONE: commit or rejection. A full load restores a unit whose rail fell (R510) once every rail is valid: until
then it waits, and the regions stay held (DESIGN CHOICE log 165). -/
def State.setDone (s : State) : State :=
  if s.ld.phase ≠ .setStage || (s.ld.full && !(s.rails.vcore && s.chainRails)) then s
  else match s.setStage s.ld with
    | some f => s.failLoad f
    | none => ((if s.ld.full then s.commitFull else s.commitPartial).postReport { status := 0, detail := 0 } true).bootResume

def execSetStageDone (s : State) : Host.Outcome State Fault Refusal := .next s.setDone

/-! ## Stalls and sources (R250 to R256) -/

/-- Does the loader stall its source (R279)? A full load takes bytes from the header on (Table CFG-13). -/
def Loader.stalled (l : Loader) : Bool := l.phase = .hold && !l.full

/-- Has the image begun? -/
def Loader.begun (l : Loader) : Bool := l.took ≠ 0 || l.sspNib.isSome || l.source = 0

/-- Does the load wait for bytes of the image? -/
def Loader.wants (l : Loader) : Bool := l.phase = .header || l.phase = .records || l.phase = .trailer || (l.phase = .hold && l.full)

/-- Have all bytes of the image come, its trailer included (R233)? -/
def Loader.complete (l : Loader) : Bool :=
  let l := if l.phase = .header then l.start (l.buf.take 256) else l
  decide (256 ≤ l.took ∧ 256 + l.records * l.recLen + 260 ≤ l.took)

/-- LOAD_STALL (R256): 100 ms without a byte after the header has begun; a wait for the rails does not count (R524). -/
def State.loadStall (s : State) : State :=
  if s.ld.wants && s.ld.begun && !s.waitsRails then s.failLoad { status := stTIMEOUT, detail := dSTALLED } else s

def execLoadStall (s : State) : Host.Outcome State Fault Refusal := .next s.loadStall

/-- Bytes of the image come in. -/
def State.feed (s : State) (b : List Byte) : State :=
  s.setLd { s.ld with buf := s.ld.buf ++ b, took := s.ld.took + b.length }

/-- A boot load waits for the first bytes of source `src`. -/
def State.bootWaits (s : State) (src : Nat) : Bool := s.bt.on && s.bt.source = src && s.ld.phase = .idle && s.hl.up

/-- PSP_READY (R251, R279): words are discarded after an error, and taken while a load on the port wants them. -/
def State.pspReady (s : State) : Bool :=
  s.gateOpen 0x2D && (s.ld.pspErr || s.bootWaits 1 || (s.ld.source = 1 && s.ld.wants && !s.ld.stalled))
/-- PSP_ERR (R251). -/
def State.pspError (s : State) : Bool := s.ld.pspErr
/-- SSP_BUSY (R253, R279). -/
def State.sspBusy (s : State) : Bool :=
  !(s.gateOpen 0x2E && (s.bootWaits 2 || (s.ld.source = 2 && s.ld.wants && !s.ld.stalled)))

/-- PSP_WORD (R251): a word that transfers; the byte in PSP_D[7:0] comes first. With PSP_ERR = 1 it is discarded unless the
port has been idle since the word before; the word after that clears PSP_ERR. -/
def State.pspWord (s : State) (w : Word) : State :=
  if !s.gateOpen 0x2D || s.scanned then s
  else if s.ld.pspErr && !s.ld.pspGap then s
  else
    let s := s.setLd { s.ld with pspErr := false, pspGap := false }
    let s := if s.bootWaits 1 then s.beginBoot else s
    if s.ld.source = 1 && s.ld.wants && !s.ld.stalled then s.feed (bytesLE w.toNat 4) else s

def execPspWord (w : Word) (s : State) : Host.Outcome State Fault Refusal := .next (s.pspWord w)

/-- PSP_IDLE: PSP_VALID has been 0 for 16 cycles, before or after a failure: the port is idle until its next word (R251). -/
def execPspIdle (s : State) : Host.Outcome State Fault Refusal := .next (s.setLd { s.ld with pspGap := true })

/-- SSP_NIBBLE (R253): the low nibble of each byte comes first. -/
def State.sspNibble (s : State) (x : Nat) : State :=
  if s.ld.sspSkip || !s.gateOpen 0x2E || s.scanned then s
  else
    let s := if s.bootWaits 2 then s.beginBoot else s
    if s.ld.source = 2 && s.ld.wants && !s.ld.stalled then
      let s := s.setLd { s.ld with sspOpen := true }
      match s.ld.sspNib with
      | none => s.setLd { s.ld with sspNib := some x }
      | some lo => (s.setLd { s.ld with sspNib := none }).feed [BitVec.ofNat 8 (lo + 16 * x)]
    else s

def execSspNibble (x : BitVec 4) (s : State) : Host.Outcome State Fault Refusal := .next (s.sspNibble x.toNat)

/-- SSP_CS_RISE (R253): before the last byte of the trailer has come the load ends ABORTED. The first nibble after it begins an image. -/
def State.sspCsRise (s : State) : State :=
  if s.scanned then s
  else
  let s := if s.ld.source = 2 && (s.ld.wants || s.ld.phase = .hold) && s.ld.begun && !s.ld.complete then
    s.failLoad { status := stCONFLICT, detail := dABORTED } else s
  s.setLd { s.ld with sspSkip := false, sspNib := none, sspOpen := false }

def execSspCsRise (s : State) : Host.Outcome State Fault Refusal := .next s.sspCsRise

/-! ## Broadcasts (R333, R334, Table CMD-11) -/

/-- Does the unit take a broadcast of generation `gen` with `flags` as its load (R334)? -/
def State.takesBcast (s : State) (gen flags : Nat) : Bool :=
  s.ld.phase = .idle && s.hl.up &&
    ((s.bt.on && s.bt.source = 3) || (s.run.configured && (!flags.testBit 0 || s.genLoaded ≠ gen || s.beached)))

/-- A unit loads from the chain: the boot load it waits for, or a load of its own (log 43). -/
def State.beginChain (s : State) : State :=
  if s.bt.on ∧ s.bt.source = 3 then s.beginBoot else s.beginLoad 3 0xFF 1 0 0 0 0xFFFF false

/-- BCAST from the active upstream port: passed on; it opens a broadcast, or closes it, aborting the load with LEN = 1 and
byte 0x01. -/
def State.bcastIn (s : State) (p : Nat) (m : ZMsg) : State :=
  if !s.fromUp p then s
  else if !s.accepts m then s.passOn downPorts tBcast m
  else
    let s := s.passOn downPorts tBcast m
    if m.payload.length < 5 then
      let loads := s.chain.rx.loads
      let s := s.setChain { s.chain with rx := {} }
      if loads && decide (m.payload = [1]) && s.ld.source = 3 && s.ld.phase ≠ .idle then
        s.failLoad { status := stCONFLICT, detail := dABORTED } else s
    else
      let t := s.takesBcast (zfield m 0 4) (zfield m 4 1)
      let s := s.setChain { s.chain with rx := { on := true, loads := t } }
      if t then s.beginChain else s

def execBcast (p : Fin 4) (m : ZMsg) (s : State) : Host.Outcome State Fault Refusal :=
  .next (s.looped p.val (.msg tBcast m) (fun u => u.zmsg p.val m (fun t => t.bcastIn p.val m)))

/-- A gap or a CRC error ends the unit's load with CRC (R334). -/
def State.bcastBroken (s : State) : State :=
  let loads := s.chain.rx.loads && s.ld.source = 3 && s.ld.phase ≠ .idle
  let s := s.setChain { s.chain with rx := { s.chain.rx with loads := false } }
  if loads then s.failLoad { status := stCHECK_FAIL, detail := dCRC } else s

/-- IMAGE (R333 to R335): on any port a CRC error is counted (R303), and on the active one it ends the unit's load. -/
def State.imageIn (s : State) (p : Nat) (m : ZMsg) : State :=
  if !m.crcOk then
    let t := s.zmsg p m id
    if s.fromUp p && !s.low p then t.bcastBroken else t
  else if !s.fromUp p || s.low p then s
  else if !s.accepts m then s.passOn downPorts tImage m
  else
    let s := s.passOn downPorts tImage m
    let x := s.chain.rx
    if !x.loads then s
    else if m.seq.toNat ≠ x.seq % 65536 then s.bcastBroken
    else
      let s := s.setChain { s.chain with rx := { x with seq := x.seq + 1 } }
      if s.ld.source = 3 && s.ld.wants then s.feed m.payload else s

def execImage (p : Fin 4) (m : ZMsg) (s : State) : Host.Outcome State Fault Refusal := 
  .next (s.looped p.val (.msg tImage m) (fun t => t.imageIn p.val m))

/-- LOAD_RPT: towards the head, which counts it and keeps the first 64 failures (R334). -/
def State.loadRptIn (s : State) (p : Nat) (m : ZMsg) : State :=
  if !s.fromDn p then s
  else if !s.isHead then s.passOn upPorts tLoadRpt m
  else
    let b := s.chain.bcast
    if b.st ≠ 1 then s
    else if zfield m 0 1 = 0 then s.setChain { s.chain with bcast := { b with ok := b.ok + 1 } }
    else s.setChain { s.chain with bcast := { b with
      failN := b.failN + 1, fails := if 64 ≤ b.fails.length then b.fails else b.fails ++ [(m.src.toNat, zfield m 0 24)] } }

def execLoadRpt (p : Fin 4) (m : ZMsg) (s : State) : Host.Outcome State Fault Refusal :=
  .next (s.looped p.val (.msg tLoadRpt m) (fun u => u.zmsg p.val m (fun t => t.loadRptIn p.val m)))

/-- BCAST_END: 100 ms after the closing BCAST has left the head (Table CMD-11). -/
def State.bcastEnd (s : State) : State :=
  let b := s.chain.bcast
  if b.st = 1 && b.closed then s.setChain { s.chain with bcast := { b with st := if b.aborted then 3 else 2 } } else s

def execBcastEnd (s : State) : Host.Outcome State Fault Refusal := .next s.bcastEnd

/-- The head sends its broadcast: IMAGE messages of 512 bytes at 2 GB/s as time passes, then the closing BCAST (R333, R335,
log 44): `upto` bytes of the stream may have left by now. -/
def State.sendImages : Nat → Nat → State → State
  | 0, _, s => s
  | n + 1, upto, s =>
    let b := s.chain.bcast
    let all := (s.slot b.slot).bytes
    if b.st ≠ 1 ∨ b.closed then s
    else if all.length ≤ b.bytes then
      (s.setChain { s.chain with bcast := { b with closed := true } }).sendMsg downPorts tBcast 0 0xFFF []
    else if upto < b.bytes + min 512 (all.length - b.bytes) then s
    else
      let part := (all.drop b.bytes).take 512
      let m : ZMsg := ⟨BitVec.ofNat 12 s.zaddr, 0, 0xFFF, BitVec.ofNat 16 b.seq, part, true⟩
      let s := s.sendZ downPorts (.msg tImage m)
      let s := s.setChain { s.chain with bcast := { b with bytes := b.bytes + part.length, seq := b.seq + 1 } }
      let s := if b.flags.testBit 1 && s.ld.source = 3 && s.ld.wants then s.feed part else s
      State.sendImages n upto s

end Sys2Proof.Machine
end

