-- ==== Sys2Proof/Machine/Sequencer.lean ====
section
/-! DEFINITION. The start-up sequencer (spec/08 R264 to R266, spec/15 R454). -/

namespace Sys2Proof.Machine

def State.setSq (s : State) (x : Seq) : State := { s with sq := x }

/-- Step code of the current slot (Table CFG-15). -/
def Seq.step (x : Seq) : Nat := x.steps.getD x.slot 0

/-- Does a step wait for a condition: PLL and TICK (Table CFG-15)? -/
def stepWaits (code : Nat) : Bool := code = 1 || code = 6

/-- The current slot completes at this edge. -/
def State.seqNext (s : State) : State :=
  s.setSq { s.sq with slot := s.sq.slot + 1, released := false, ticks := 0, timedOut := false, declared := false }

/-- What a step does at its release (Table CFG-15, R83, R133): the schedules start with step 0 at the release edge, and with
no shift that an earlier frame left (R149). -/
def State.seqDo (s : State) (code : Nat) : State :=
  match code with
  | 2 => { s with run := { s.run with outputs := true } }
  | 3 => forAll 96 (fun r t => t.setRegion r { t.region r with srGate := true }) { s with run := { s.run with setReset := true } }
  | 4 => forAll 96 (fun r t => t.setRegion r { t.region r with ceGate := true }) { s with run := { s.run with writes := true } }
  | 5 => forAll 96 (fun r t =>
      let t := t.setRegion r { t.region r with wait0 := false, extra := 0 }
      (t.setBit (RG r 0) 12 true).setStep r 0 (t.shift r 0)) { s with run := { s.run with sched := true } }
  | _ => s

/-- Is slot i due at this tick edge: at least SEQ_DELAY_i ticks after the last completion, and later than it (R265)? -/
def State.seqDue (s : State) : Bool :=
  let x := s.sq
  x.on && decide (x.slot < 6) && !x.released && decide (s.tick.count = 0) && decide (max 1 (x.delays.getD x.slot 0) ≤ x.ticks)

/-- SEQ_SLOT_RELEASE. -/
def State.seqRelease (s : State) : State :=
  if !s.seqDue then s
  else
    let code := s.sq.step
    if stepWaits code then s.setSq { s.sq with released := true, frames := 0 }
    else (s.seqDo code).seqNext

def execSeqSlotRelease (s : State) : Host.Outcome State Fault Refusal := .next s.seqRelease

/-- The condition of a waiting step (Table CFG-15, R454, R59). -/
def State.seqCond (s : State) (code : Nat) : Bool :=
  if code = 1 then
    (List.range 6).all (fun n => !s.spllEn n || s.spllLock n) && (List.range 16).all (fun n => (s.gckOf n).ramp = .idle)
  else s.locked && (s.src ≠ 2 || s.bit (CK 0x80C) 2)

/-- SEQ_STEP_COMPLETE: at the first tick edge at or after the release at which the condition holds, or after the step was
declared complete. -/
def State.seqComplete (s : State) : State :=
  if s.sq.on && s.sq.released && decide (s.tick.count = 0) && (s.sq.declared || s.seqCond s.sq.step) then s.seqNext else s

def execSeqStepComplete (s : State) : Host.Outcome State Fault Refusal := .next s.seqComplete

/-- SEQ_TIMEOUT (R266): posted once; the step keeps waiting. -/
def State.seqTimeout (s : State) : State :=
  if s.sq.on && s.sq.released && !s.sq.timedOut then
    (s.setSq { s.sq with timedOut := true }).fault 0x0108 (s.sq.slot + s.sq.step * 256)
  else s

def execSeqTimeout (s : State) : Host.Outcome State Fault Refusal := .next s.seqTimeout

/-- What the sequencer counts at a tick. -/
def State.seqTick (s : State) : State :=
  if s.sq.on then s.setSq { s.sq with ticks := s.sq.ticks + 1, frames := s.sq.frames + 1 } else s

/-- SLOT, STEP and STATE as SEQ_STATUS reports them: 0 awaiting release, 1 waiting, 2 timed out, 3 complete; before commit
SLOT is 0xFF. -/
def State.seqReport (s : State) : Nat × Nat × Nat :=
  let x := s.sq
  if !x.on then (0xFF, 0, 0)
  else if 6 ≤ x.slot then (6, 0, 3)
  else (x.slot, x.step, if x.timedOut then 2 else if x.released then 1 else 0)

end Sys2Proof.Machine
end

