-- ==== Sys2Proof/Machine/Probes.lean ====
section
/-! DEFINITION. The probe block (spec/17): sample words, soundings, buffers, the trace channel, probe pins. -/

namespace Sys2Proof.Machine

def State.setProbe (s : State) (x : Probe) : State := { s with probe := x }

/-- The node of the probe block. -/
def probeNode : Nat := 0x63

/-! ## Channels (R492, R493, Table PRB-1) -/

def State.pbClass (s : State) (n : Nat) : Nat := s.fld (PB (0x100 + 4 * n)) 0 3
def State.pbI1 (s : State) (n : Nat) : Nat := s.fld (PB (0x100 + 4 * n)) 4 9
def State.pbI2 (s : State) (n : Nat) : Nat := s.fld (PB (0x100 + 4 * n)) 13 9

/-- A source of a fabric class as it stands in the cycle that runs. -/
def State.fabricSource (s : State) (n : Nat) : Bool :=
  let r := s.pbI1 n
  let i := s.pbI2 n
  match s.pbClass n with
  | 1 => decide (r < 96) && s.val (.out r i)
  | 2 => decide (r < 96) && (s.crossReg r).testBit i
  | 3 => if i = 0 then decide (s.tick.count = 0) else decide (i ≤ 13) && s.tick.count.testBit (i - 1)
  | 4 => decide (r < 96 ∧ i < 64) && ((s.port (4 * r + i / 16)).lines).getLsbD (i % 16)
  | _ => false

/-- A source of the other classes as it stands now. -/
def State.rawSource (s : State) (n : Nat) : Bool :=
  let i := s.pbI2 n
  match s.pbClass n with
  | 5 => decide (s.pbI1 n < 384 ∧ i < 9) && (s.qcStatus (s.pbI1 n)).testBit i
  | 6 => decide (s.pbI1 n < 96 ∧ i < 5) && s.bit (LN (s.pbI1 n) 0x10) i
  | 7 => decide (s.pbI1 n < 4 ∧ i < 3) && s.bit (ZV (s.pbI1 n) 4) i
  | _ => false

/-- What a channel that passes two synchronising flip-flops holds: the value of 2 or of 3 cycles before the sampling edge,
which of the two is a free value (R493, log 1). -/
def syncValue (two three free : Bool) : Bool := if two = three then two else free

/-- The sample word of the edge that ends the running cycle. -/
def State.sampleWord (s : State) : DWord × State :=
  let (v, s) := s.draw
  let two := s.probe.raw.getD 1 0
  let three := s.probe.raw.getD 2 0
  (BitVec.ofNat 64 (ofBits 64 (fun n =>
    let c := s.pbClass n
    if c = 0 then false else if c ≤ 4 then s.fabricSource n
    else syncValue (two.getLsbD n) (three.getLsbD n) (v.testBit n))), s)

/-! ## Buffers (R495) -/

/-- Words of the buffer. -/
def State.bufWords (s : State) : Nat := 4096 * s.bufBlocks.length

/-- WRAP, forced to 1 while a pattern is awaited (R497). -/
def State.pbWrap (s : State) : Bool := s.bit (PB 0) 2 || (s.bit (PB 0) 3 && decide (s.pbState = 1))
def State.pbMode (s : State) : Nat := s.fld (PB 0) 0 2

/-- Is the buffer full with WRAP = 0? -/
def State.bufFull (s : State) : Bool := !s.pbWrap && decide (s.bufWords ≤ s.probe.wp)

/-- Have FRAMES frames run, the frame that the running cycle ends included? -/
def State.framesDone (s : State) : Bool :=
  s.probe.counting && (s.probe.left = 0 || (s.probe.left = 1 && decide (s.P + s.tick.ext ≤ s.tick.count)))

/-- May the sounding store? -/
def State.stores (s : State) : Bool := s.sounding && s.probe.storing && !s.framesDone && !s.bufFull

/-- Store a word at WPTR (R495): the frame of the first one is kept, a full buffer wraps where WRAP says so. -/
def State.storeWord (s : State) (v : Nat) : State :=
  let n := s.probe.wp
  let s := if n = 0 ∧ !s.bit (PB 8) 16 then (s.setReg (PB 0xC) s.frameNo).setReg (PB 0x10) (s.frameNo / 2 ^ 32) else s
  let s := if s.rails.vmem then s.putWord (s.bufBlocks.getD (n / 4096) 0) (n % 4096) v else s
  let wrap := s.pbWrap && decide (s.bufWords ≤ n + 1)
  let m := if wrap then 0 else n + 1
  let s := if wrap then s.setBit (PB 8) 16 true else s
  (s.setProbe { s.probe with wp := m }).setFld (PB 8) 0 16 m

/-! ## The trace channel (R499) -/

/-- Emit a stored word as a trace packet, at most one in 16 network cycles and with a credit (R209); otherwise it counts in
PB_DROP. -/
def State.emitTrace (s : State) (w : DWord) : State :=
  if !s.bit (PB 0x30) 8 then s
  else
    let busy := match s.probe.emitted with
      | some t => decide (s.netTicks < t + 16)
      | none => false
    if busy || !s.routersOn || !s.traceCredit probeNode (nodeRouter probeNode) 7 then s.inc (PB 0x1C)
    else
      let h := mkHdr (s.fld (PB 0x30) 0 8) probeNode 3 5 0 0xFF 0 s.tick.count w.toNat s.netTicks s.frameNo
      (s.setProbe { s.probe with emitted := some s.netTicks }).send { hdr := h, data := [] }

/-- The probe block at the fabric edge that ends the running cycle (R492, R493, R496). -/
def State.probeEdge (s : State) : State :=
  if !s.gateOpen 0x2C then s
  else
    let raw := BitVec.ofNat 64 (ofBits 64 s.rawSource)
    let (w, s) := s.sampleWord
    let p := s.probe
    let s := s.setProbe { p with raw := (raw :: p.raw).take 3, words := (w :: p.words).take 9 }
    let c := s.tick.count
    let ph := s.fld (PB 0) 10 13
    let due := match s.pbMode with
      | 0 => true
      | 1 => decide (c = if s.P ≤ ph then s.P + s.tick.ext - 1 else ph)
      | _ => false
    if s.stores && due then (s.storeWord w.toNat).emitTrace w else s

/-- TRACE_PACKET (R499): at the probe block stored as four words, or discarded and counted; at a region endpoint an RX
ring entry; any other endpoint discards and counts it (R209). -/
def State.tracePacket (s : State) (src dst : Nat) : State :=
  s.deliver src dst 3 (fun p t =>
    match nodeKind dst with
    | .region r => t.rxPacket r p
    | .probe =>
      if t.pbMode = 2 && t.stores && !p.poison then forAll 4 (fun i u => u.storeWord (p.h (64 * i) 64)) t
      else t.inc (PB 0x1C)
    | _ => t.countSunk dst)

def execTracePacket (src dst : BitVec 8) (s : State) : Host.Outcome State Fault Refusal :=
  .next (s.tracePacket src.toNat dst.toNat)

/-! ## Soundings (R496 to R498) -/

/-- The tick of the target frame: an armed sounding starts to store (R497). -/
def State.soundingStart (s : State) (frames : Nat) : State :=
  if s.pbState ≠ 1 ∨ s.probe.storing then s
  else
    let p := s.probe
    if s.bit (PB 0) 3 then s.setProbe { p with storing := true, counting := false, left := frames }
    else (s.setProbe { p with storing := true, counting := true, left := frames }).setFld (PB 4) 0 2 2

/-- PROBE_TRIGGER: the sample word of the last edge matches the pattern; FRAMES further frames run from the next tick. -/
def State.probeTrigger (s : State) : State :=
  let w := (s.probe.words.headD 0).toNat
  let miss := ((w ^^^ (s.reg (PB 0x20) + s.reg (PB 0x24) * 2 ^ 32)) &&& (s.reg (PB 0x28) + s.reg (PB 0x2C) * 2 ^ 32)) ≠ 0
  if s.pbState ≠ 1 || !s.probe.storing || !s.bit (PB 0) 3 || s.probe.words.isEmpty || miss then s
  else (((s.setFld (PB 4) 0 2 2).setBit (PB 4) 2 true).setReg (PB 0x14) s.frameNo).setReg (PB 0x18) (s.frameNo / 2 ^ 32)

def execProbeTrigger (s : State) : Host.Outcome State Fault Refusal := .next s.probeTrigger

/-- The probe block at a tick; `realigned` says that the frame that ended was. -/
def State.probeTick (s : State) (realigned : Bool) : State :=
  let s := if realigned && s.sounding && s.probe.storing then s.setBit (PB 4) 3 true else s
  if s.pbState ≠ 2 then s
  else if s.probe.counting then s.setProbe { s.probe with left := s.probe.left - 1 }
  else s.setProbe { s.probe with counting := true }

/-- SOUNDING_END: FRAMES complete or the buffer full (Table PRB-2); the other causes end it where they arise. -/
def State.soundingEnd (s : State) : State :=
  if !s.sounding || !s.probe.storing then s
  else if s.framesDone then s.endSounding 1
  else if s.bufFull then s.endSounding 2
  else s

def execSoundingEnd (s : State) : Host.Outcome State Fault Refusal := .next s.soundingEnd

/-- PB_CMD.STOP (Table PRB-2). -/
def execPbStop (s : State) : Host.Outcome State Fault Refusal := .next (s.endSounding 5)

/-- PB_CMD.FREE (R494). -/
def State.pbFree (s : State) : State := (s.endSounding 5).setFld (PB 4) 16 4 0xF
def execPbFree (s : State) : Host.Outcome State Fault Refusal := .next s.pbFree

/-- PB_CMD.CLR_DROP. -/
def State.pbClrDrop (s : State) : State := s.setReg (PB 0x1C) 0
def execPbClrDrop (s : State) : Host.Outcome State Fault Refusal := .next s.pbClrDrop

/-- PROBE_RESTRICT comes into effect (R502). -/
def State.probeNarrow (s : State) : State :=
  let s := forAll 64 (fun n t => if t.pbClass n = 1 ∨ t.pbClass n = 2 ∨ t.pbClass n = 4 then t.setFld (PB (0x100 + 4 * n)) 0 3 0 else t) s
  let s := s.setFld (PB 0x30) 0 8 probeNode
  forAll 48 (fun n t => t.setFld (NR n 0x280) 0 8 probeNode) s

/-! ## Probe pins (R500) -/

/-- Is pin `k` lent to the holder of the probe block? -/
def State.pinLent (s : State) (k : Nat) : Bool := spareCode (s.pinCode k) false && s.lent 1 k = some s.holder

/-- The pin word that a lent pin goes by in a bank declared with voltage code `vio` (R500): an output, LVCMOS at 8 mA and slow
slew, or SSTL-135 unterminated at 1.35 V. -/
def lentWord (vio : Nat) : Nat := if vio = 2 then 0x13 else 0x51

/-- The pin word in force at pin `p` of bank `b`: a lent pin that an entry names goes by R500. -/
def State.padWord (s : State) (b p : Nat) : Nat :=
  if s.pinLent (48 * b + p) && (s.pinEntry (48 * b + p)).isSome then lentWord (s.bankVio b) else s.pinWord b p

/-- What user pin `p` of bank `b` does, probe pins included; R475 governs those that the probe block owns, in SLEEP too, where
each keeps what it did (R500). -/
def State.userPin (s : State) (b p : Nat) : PinOut :=
  let w := s.pinWord b p
  let k := 48 * b + pairPin w p
  let base := s.pinOut b p
  if !s.on || s.scanned || !s.rails.vio.contains b || !s.gateOpen (0x18 + b) || !s.run.configured then base
  else if s.pinCode (48 * b + p) = 0x480 then
    let level := if s.mode = 1 then s.probe.pinSleep.lookup k else (s.entryLevel k).map (xor (pinInv w))
    match level with
    | some v => if pinStd w ≠ 0 && pinDir w ≠ 0 && !s.beached && s.mode ≠ 2 then (PinOut.drive v).leg w p else base
    | none => base
  else if s.pinLent (48 * b + p) then
    match s.entryLevel (48 * b + p) with
    | some v => .drive v
    | none => base
  else base

/-- The test of a link or of a lane goes on (R339, R487): a checker that runs may find errors and a lane's may lock, which the
line decides: free values (log 121). -/
def State.testPort (p : Nat) (s : State) : State :=
  if s.bit (ZV p 0) 0 && s.gateOpen (0x28 + p) && s.fld (ZV p 0) 3 3 ≠ 0 && s.chainRails && !s.scanned then
    if s.draw.1 % 2 = 1 then s.draw.2.setBit (ZV p 4) 9 true else s.draw.2
  else s

/-- Does the checker of lane `n` receive its own generator: near-end loopback inside a quad that runs (R487)? -/
def State.nearTest (s : State) (n : Nat) : Bool :=
  s.rxEn n && s.txEn n && s.gateOpen (n / 4) && s.fld (LN n 0x18) 0 3 ≠ 0 && s.fld (LN n 0x18) 3 2 = 1
    && s.bit (LN (4 * (n / 4)) 0x808) 0 && s.rails.vtx && s.rails.vtt && !s.scanned

/-- The same at lane `n`; near-end loopback brings the checker its own pattern, without errors (DEDUCED log 121). -/
def State.testLane (n : Nat) (s : State) : State :=
  if s.nearTest n then s.setBit (LN n 0x10) 4 true
  else if s.rxEn n && s.gateOpen (n / 4) && s.fld (LN n 0x18) 0 3 ≠ 0 && s.rails.vtx && s.rails.vtt && !s.scanned then
    if s.bit (LN n 0x10) 4 then s.draw.2.count (LN n 0x2C) 0 32 (s.draw.1 % 2 ^ 32)
    else s.draw.2.setBit (LN n 0x10) 4 (s.draw.1 % 2 = 1)
  else s

/-- A frame of every checker. -/
def State.testLines (s : State) : State := forAll 96 State.testLane (forAll 4 State.testPort s)

end Sys2Proof.Machine
end

