-- ==== Sys2Proof/Machine/BoundaryScan.lean ====
section
/-! DEFINITION. The TAP instructions that take pins and lanes from their owners (spec/16 R488, R489). -/

namespace Sys2Proof.Machine

/-- Dedicated outputs in the order of their cells, which follow those of the 768 user pins: PSP_READY, PSP_ERR, SSP_BUSY
(R488). -/
def State.dedicated (s : State) : List Bool := [s.pspReady, s.pspError, s.sspBusy]

/-- Level at dedicated output `k`: its owner's, or its boundary cell's where the TAP has taken it (R489). -/
def State.dedicatedPin (s : State) (k : Nat) : Option Bool :=
  if s.scanned then s.tap.boundary[Config.boundaryCell (768 + k)]? else s.dedicated[k]?

/-- Level that the cell of user pin `k` captures: what the pin drives; the board drives any other (a free value, log 1). -/
def State.sampledPin (s : State) (free k : Nat) : Bool :=
  match s.userPin (k / 48) (k % 48) with
  | .drive v => v
  | _ => free.testBit k

/-- The straps, whose cells follow those of the dedicated outputs: BOOT[2:0], then PARK (R249, R488). -/
def State.strapPins (s : State) : List Bool :=
  (List.range 3).map (fun i => s.boot.testBit i) ++ (List.range 32).map (fun i => s.park.testBit i)

/-- What EXTEST and the 1149.6 instructions put on a lane. -/
inductive ScanDrive where
  | none
  /-- a steady level -/
  | level (v : Bool)
  /-- the level with one pulse of its complement in Run-Test/Idle -/
  | pulse (v : Bool)
  /-- the level and its complement in turn, with TCK -/
  | train (v : Bool)
  deriving DecidableEq, Repr

/-- What lane `n` of the 96 lanes, and of the 16 Zhevley lanes after them, carries while the TAP has it (R488, R489): the level of
its cell, which follow those of the straps. -/
def State.scanLane (s : State) (n : Nat) : ScanDrive :=
  match s.tap.boundary[Config.boundaryCell (806 + n)]? with
  | .none => .none
  | some v =>
    match s.tap.ir with
    | .extest => .level v
    | .extestPulse => .pulse v
    | .extestTrain => .train v
    | _ => .none

/-- The boundary register as SAMPLE captures it; cells of inputs of the board are free values. -/
def State.sampled (s : State) (free : Nat) : Nat :=
  let user := (List.range 768).foldl (fun d k => setBits d (Config.boundaryCell k) 1 (s.sampledPin free k).toNat) (free / 2 ^ 768)
  (s.dedicated ++ s.strapPins).zipIdx.foldl (fun d x => setBits d (Config.boundaryCell (768 + x.2)) 1 x.1.toNat) user

/-- SAMPLE/PRELOAD: the cells capture the pins, and `pins` is shifted in behind them. -/
def execSamplePreload (pins : List Bool) (s : State) : Host.Outcome State Fault Refusal :=
  .next (s.draw.2.setTap { s.tap with ir := .sample, boundary := pins, dr := s.sampled s.draw.1 })

/-- Does the life cycle refuse the instruction (R489)? -/
def State.scanRefused (s : State) : Bool := s.lc = 7 || (s.lc = 5 && s.run.configured)

/-- The TAP takes `ir`, or BYPASS in its place (R489). That BYPASS is loaded in SCRAPPED too is DEDUCED (log 60). -/
def State.takeScan (s : State) (ir : TapIr) : State :=
  if s.scanRefused then s.setTap { s.tap with ir := .bypass, dr := 0 } else s.setTap { s.tap with ir }

def execExtest (s : State) : Host.Outcome State Fault Refusal := .next (s.takeScan .extest)
def execExtestPulse (s : State) : Host.Outcome State Fault Refusal := .next (s.takeScan .extestPulse)
def execExtestTrain (s : State) : Host.Outcome State Fault Refusal := .next (s.takeScan .extestTrain)

end Sys2Proof.Machine
end

