-- ==== Sys2Proof/Machine/Power.lean ====
section
/-! DEFINITION. Gates and power modes (spec/15 R460 to R466, Tables CLK-4 to CLK-6, spec/10 R336 to R338). -/

namespace Sys2Proof.Machine

/-! ## Gates (R460, R461) -/

/-- Node through which the registers of a gated block answer. -/
def gateNode (g : Nat) : Option Nat :=
  if g < 0x18 then some (quadNode g)
  else if 0x28 ≤ g ∧ g < 0x2C then some (zvNode (g - 0x28))
  else if g = 0x2C then some probeNode else none

/-- A CSR access that waits at the node ends GATED (R461). -/
def State.gatePending (s : State) (g n : Nat) : State :=
  let waits (p : Packet) : Bool := p.dst = n && decide (p.typ ≤ 1)
  match s.net.find? waits with
  | none => s
  | some p => (({ s with net := s.net.eraseP waits }).respond n p 0x0C 0).setBit (CK (0x400 + 4 * g)) 4 true

/-- A load whose port gate closes ends STALLED (R461). -/
def State.gateLoad (s : State) (source : Nat) : State :=
  if s.ld.phase ≠ .idle && s.ld.source = source then s.failLoad { status := stTIMEOUT, detail := dSTALLED } else s

/-- What the block behind gate `g` does as the gate closes (Table CLK-4). -/
def State.gateEffect (s : State) (g : Nat) : State :=
  if g < 0x18 then
    let s := forAll 4 (fun i t => (t.laneDown (4 * g + i)).setFld (LN (4 * g + i) 0x10) 0 3 0) s
    if s.mode = 0 then s else s.setBit (LN (4 * g) 0x808) 0 false
  else if 0x28 ≤ g ∧ g < 0x2C then
    let s := if s.upPort = some (g - 0x28) then s.gateLoad 3 else s
    (s.linkDown (g - 0x28)).trimFollow
  else if g = 0x2C then s.endSounding 4
  else if g = 0x2D then s.gateLoad 1
  else if g = 0x2E then s.gateLoad 2
  else s

/-- GATE_CLOSE: at the transaction boundary, or without one after 256 cycles. -/
def State.gateClose (s : State) (g : Nat) (boundary : Bool) : State :=
  if s.gateWanted g || !s.gateOpen g then s
  else
    let s := match gateNode g with
      | some n => if boundary then s else s.gatePending g n
      | none => s
    (s.setBit (CK (0x400 + 4 * g)) 3 false).gateEffect g

def execGateClose (g : Fin 47) (boundary : Bool) (s : State) : Host.Outcome State Fault Refusal :=
  .next (s.gateClose g.val boundary)

/-! ## Modes (R462, Table CLK-5) -/

/-- TARGET of CK_PWR_STATUS, the mode being entered. -/
def State.modeTarget (s : State) : Nat := s.fld (CK 0x204) 3 2
def State.setMode (s : State) (m : Nat) : State := s.setFld (CK 0x204) 0 2 m

/-- PENDING of CK_PWR_STATUS: an accepted change awaits its tick or is in progress (Table CLK-8). -/
def State.powerPending (s : State) : Bool :=
  s.clk.moving || s.clk.self.isSome || s.anyChange (fun c => match c with
    | .power _ => true
    | _ => false)

/-- The scrub engines stand still, or run on where they are enabled, in a configured unit (R195). -/
def State.scrubAll (s : State) (on : Bool) : State :=
  forAll 24 (fun b t => t.setBit (scrubReg b 0x800) 1 (on && s.run.configured && t.bit (scrubReg b 0x800) 0)) s

/-- The fabric, the queues and the lanes stop at the tick edge that starts the running frame. -/
def State.stopAll (s : State) : State := { s.scrubAll false with clk := { (s.scrubAll false).clk with stopped := true } }

/-- They run again from this tick edge on (R134, R186). -/
def State.resumeAll (s : State) : State :=
  let s := { s.scrubAll true with clk := { (s.scrubAll true).clk with stopped := false } }
  forAll 96 State.tickSchedule (forAll 384 (fun q t => t.restartHistory q) s)

/-- WAKE on every port (R338). -/
def State.sendWake (s : State) : State := s.sendZ (upPorts ++ downPorts) (.set setWake 0)

/-- PLL `n` of the system PLLs stops. -/
def State.spllStop (s : State) (n : Nat) : State :=
  let s := (s.setBit (CK (0x48 + 0x10 * n)) 0 false).setBit (CK (0x48 + 0x10 * n)) 1 false
  if n = 0 then s.setBit (CK 0x40) 0 false else s

/-- In DEEP_SLEEP only the SPLL that feeds GCK0 runs, and no lane PLL (Table CLK-6). -/
def State.pllsStop (s : State) : State :=
  let keep := (s.gckOf 0).src
  forAll 24 (fun q t => t.setBit (LN (4 * q) 0x808) 0 false) (forAll 6 (fun n t => if keep = n + 8 then t else t.spllStop n) s)

/-- A change of mode at its target tick. CRIT_DEEP turns back a unit on its way out of DEEP_SLEEP (R466). -/
def State.powerCommit (s : State) (m : Nat) : State :=
  let go (t : State) : State := ({ t with clk := { t.clk with moving := true } }).setFld (CK 0x204) 3 2 m
  if m = s.mode then
    if s.clk.moving ∧ m = 2 then (({ s with clk := { s.clk with moving := false } }).setFld (CK 0x204) 3 2 m).pllsStop else s
  else if s.mode = 0 then (go s).stopAll
  else if s.mode = 1 ∧ m = 2 then if s.clk.stopped then go s else (go s).stopAll
  else if s.mode = 1 then (go s).resumeAll.sendWake
  else if m = 0 then ((go s).setBit (CK 0x40) 0 true).sendWake
  else s

/-- A change of mode that the unit itself started comes to its tick (R465, R466). -/
def State.selfPower (s : State) : State :=
  match s.clk.self with
  | some (f, m) => if laterFrame f s.frameNo then s else ({ s with clk := { s.clk with self := none } }).powerCommit m
  | none => s

/-- The change is over. What entries drive as SLEEP begins stays at the pins (R475). -/
def State.modeReached (s : State) (m : Nat) : State :=
  let s := if m = 1 then { s.notePins with probe := { s.notePins.probe with pinSleep := s.pinsDriven } } else s
  let s := { s with clk := { s.clk with moving := s.modeTarget ≠ m } }
  (s.setMode m).openGates

/-- The ports go to low rate (R336). -/
def State.portsLow (s : State) : State :=
  let t := forAll 16 (fun _ t => t.sendZ (upPorts ++ downPorts) (.set setSleep 0)) s
  (forAll 4 (fun p t => if t.portOn p then t.setBit (ZV p 4) 1 true else t) t).trimFollow

/-- SLEEP_REACHED: lane PLLs run on only with SLEEP_EN = 1 (Table CLK-6). -/
def State.sleepReached (s : State) : State :=
  if s.clk.moving && decide (s.mode = 0 ∧ s.modeTarget ≠ 0) then
    forAll 24 (fun q t => if t.gateWanted q || t.gateOpen q then t else t.setBit (LN (4 * q) 0x808) 0 false) (s.modeReached 1).portsLow
  else s

def execSleepReached (s : State) : Host.Outcome State Fault Refusal := .next s.sleepReached

/-- DEEP_SLEEP_REACHED (Tables CLK-5, CLK-6): packets in the routers are gone with them. -/
def State.deepReached (s : State) : State :=
  if s.clk.moving && decide (s.mode = 1 ∧ s.modeTarget = 2) then
    let s := s.endLoans (fun l => l.1 = 0)
    let s := if s.sounding then (s.endSounding 3).setBit (PB 4) 8 true else s
    let s := if s.beached then s else s.snapSafe
    let s := s.pllsStop.modeReached 2
    { s with net := [], noc := { s.noc with served := [], bulk := [], turn := [] } }
  else s

def execDeepSleepReached (s : State) : Host.Outcome State Fault Refusal := .next s.deepReached

/-- What crossing registers, pin input registers and port registers hold after their tiers lost power is not stated: free
values (log 1). -/
def State.loseFabric (s : State) : State :=
  let s := forAll 96 (fun r t =>
    let (v, t) := t.draw
    t.setCross r (v % 2 ^ 256)) s
  let s := forAll 16 (fun b t =>
    let (v, t) := t.draw
    { t with fab := { t.fab with pinIn := mput (fun _ => (0 : BitVec 48)) t.fab.pinIn b (BitVec.ofNat 48 v) } }) s
  forAll 384 (fun k t =>
    let (v, t) := t.draw
    t.setPort k { out := { data := BitVec.ofNat 64 v }, lines := BitVec.ofNat 16 (v / 2 ^ 64) }) s

/-- Queue controller `q` after DEEP_SLEEP: empty, INVALID set (Tables CLK-5, CLK-6). -/
def State.queueLost (q : Nat) (s : State) : State :=
  let x := s.queue q
  ((s.setQueue q { desc := x.desc, stDesc := x.stDesc, seq := x.seq }).restartHistory q).setBit (QC q 0x20) 17 true

/-- A region at the exit from DEEP_SLEEP: its shared bits at their initial values; one that is not held is in step 0. -/
def State.coldRegion (r : Nat) (t : State) : State :=
  let t := t.initRegion r
  if (t.region r).held then t
  else (((t.unpend r).setRegion r {}).setBit (RG r 0) 12 false).setFld (RG r 0) 0 3 (t.stepCtx r 0)

/-- Blocks lose their contents and come up cleared (R163). -/
def State.clearTier (s : State) : State := { s with mem := [], flips := [], ueSeen := [], scrubN := [] }

/-- The fabric runs again and the sequencer starts from slot 0. -/
def State.coldRun (s : State) : State :=
  { s with
    clk := { s.clk with stopped := false }
    run := { configured := s.run.configured, hold := s.run.hold }
    sq := { on := s.run.configured, steps := s.sq.steps, delays := s.sq.delays, timeoutMs := s.sq.timeoutMs } }

/-- The unit comes up from DEEP_SLEEP: blocks cleared, every flip-flop at INIT, the sequencer from slot 0, beached for
lost state. -/
def State.coldStart (s : State) : State :=
  let s := forAll 96 State.coldRegion s.clearTier.loseFabric
  let s := forAll 384 State.queueLost s
  let s := forAll 24 (fun b t => t.setReg (scrubReg b 0x804) 0) s
  (s.scrubAll true).coldRun.beach 1

/-- The ports return to full rate; a port is measured before it may become active, and one that has been already becomes so
where its direction has none (R338). -/
def State.portsFull (s : State) : State :=
  forAll 4 (fun p t => if t.low p then t.fullRate p else t.activate p) s

/-- WAKE_COMPLETE: after DEEP_SLEEP at the first tick edge after power-up. -/
def State.wakeComplete (s : State) : State :=
  if !s.clk.moving || s.mode = 0 || s.modeTarget ≠ 0 then s
  else if s.mode = 1 then (s.modeReached 0).portsFull
  else if s.tick.count = 0 then (s.coldStart.modeReached 0).portsFull
  else s

def execWakeComplete (s : State) : Host.Outcome State Fault Refusal := .next s.wakeComplete

/-- Does the tick edge that ends the running cycle wake the unit from SLEEP, so that it is a capture edge (Table CLK-5)? -/
def State.wakesNow (s : State) : Bool :=
  s.clk.stopped && s.mode = 1 && decide (s.tick.count + 1 = s.P + s.tick.ext) &&
    ((s.hl.up && s.hl.changes.any (fun a => a.what = .power 0 && a.dueNext s.nextFrame))
      || (match s.clk.self with
        | some (f, m) => m = 0 && !laterFrame f s.nextFrame
        | none => false))

end Sys2Proof.Machine
end

