-- ==== Sys2Proof/Machine/LifeCycle.lean ====
section
/-! DEFINITION. The life cycle at and after a VAUX power-on reset (spec/14 R417, R427 to R436): roll-forward, wipes, repair
burns, the OTP engine, and the fall of VAUX. -/

namespace Sys2Proof.Machine

def State.setLife (s : State) (x : Life) : State := { s with life := x }
def State.setStore (s : State) (x : Store) : State := { s with store := x }

/-! ## Burns (R417, R428 to R431) -/

/-- The engine starts the next burn when the hold-up check allows it. -/
def State.startBurn (s : State) : State :=
  if s.life.burns.isEmpty || s.life.burning then s
  else if holdsUp s.holdupC s.store.mv burnNeed then s.setLife { s.life with burning := true }
  else s

/-- Wipes of OTP groups, in order (Table LCS-8). -/
def wipeBurns (i : Nat) : List (Nat × BitVec 512) :=
  let ones (g : Nat) : Nat × BitVec 512 := (g, BitVec.ofNat 512 (2 ^ otpBits g - 1))
  [ones gCust, ones gImg, ones (gImg + 1), ones (gImg + 2), ones (gImg + 3), (gIdentity, BitVec.ofNat 512 ((2 ^ 256 - 1) * 2 ^ 128))]
    ++ (if i = 7 then [ones gSec, ones gImgRb, ones gFwRb, ones gTrim] else [])

/-- Repair burns of the groups not named (R417). -/
def State.repairs (s : State) (but : List Nat) : List (Nat × BitVec 512) :=
  ((List.range 12).filter (fun g => !but.contains g && ((List.range 3).any (fun c => s.otpCopy g c &&& s.otp g ≠ s.otp g)))).map
    (fun g => (g, BitVec.ofNat 512 (s.otp g)))

/-- The boot record with new slots and reservoir: the copy with the lower SEQ, or an invalid one, is overwritten (R273). -/
def State.writeBootRec (s : State) (boot golden c : Nat) : State :=
  let cur := s.bootRec
  let seq := match cur with
    | some r => (fieldAt r 4 4 + 1) % 2 ^ 32
    | none => 1
  let body := packLE [(0x31524259, 4), (seq, 4), (boot, 1), (golden, 1), (c, 2), (0, 48)]
  let r := BitVec.ofNat 512 (body + crc32c (bytesLE body 60) * 2 ^ 480)
  if cur = some s.store.rec0.toNat then s.setStore { s.store with rec1 := r } else s.setStore { s.store with rec0 := r }

/-- A store slot is emptied: its descriptor now, its contents by erasure (R430, R431). -/
def State.emptySlot (s : State) (k : Nat) : State := s.setSlot k { s.slot k with st := 0, gen := 0, len := 0 }

/-- Headland rolls a burnt intent forward and makes repair burns (R417, R430). The state burn follows the wipe (DEDUCED
log 45). -/
def State.rollForward (s : State) : State :=
  let i := s.lcIntent
  if i ≤ s.lcBurnt then s.setLife { s.life with burns := s.life.burns ++ s.repairs [] }
  else if i < 6 then
    s.setLife { s.life with burns := s.life.burns ++ [(gState, BitVec.ofNat 512 (lcCode i))] ++ s.repairs [gState] }
  else
    let w := wipeBurns i
    let s := s.setLife { s.life with burns := s.life.burns ++ w, rolling := lcCode i, recDue := true }
    let s := (List.range 4).foldl (fun t k => t.emptySlot k) s
    let fw := if i = 7 then [0x10, 0x11] else []
    s.setStore { s.store with erase := [0, 1, 2, 3] ++ fw, erased := 0, erasing := false }

/-- A roll-forward rewrites the boot record when the hold-up check allows it (R270, R431). -/
def State.rollRecord (s : State) : State :=
  if s.life.recDue && holdsUp s.holdupC s.store.mv (chunkNeed 64) then
    let s := s.writeBootRec 0 0 s.holdupC
    s.setLife { s.life with recDue := false }
  else s

/-- Bytes of a slot (R268). -/
def slotBytes (k : Nat) : Nat := if k < 4 then 100663296 else 1048576
/-- Bytes of a full chunk (R363). -/
def chunkBytes : Nat := 262144

/-- Must the erasure wait: the firmware slots go last, after the OTP groups and the boot record (Table LCS-8)? -/
def State.eraseWaits (s : State) : Bool := 0x10 ≤ s.store.erase.headD 0 && (!s.life.burns.isEmpty || s.life.recDue)

/-- The next chunk of zeros is written when the hold-up check allows it (R431). -/
def State.startErase (s : State) : State :=
  if s.store.erase.isEmpty || s.store.erasing || s.store.prog.isSome || s.eraseWaits then s
  else if holdsUp s.holdupC s.store.mv (chunkNeed chunkBytes) then s.setStore { s.store with erasing := true }
  else s

/-- The state burn that follows a wipe, and the repair burns after it (R430). -/
def State.rollState (s : State) : State :=
  if s.life.rolling ≠ 0 && !s.life.recDue && s.store.erase.isEmpty && s.life.burns.isEmpty then
    s.setLife { s.life with burns := [(gState, BitVec.ofNat 512 s.life.rolling)] ++ s.repairs [gState], rolling := 0 }
  else s

/-- HOLDUP_SENSE is read before a burn or an erasure chunk that waits starts (R428, R431); no command brings that reading, so it is a free value
(DESIGN CHOICE log 147). -/
def State.nextBurn (s : State) : State :=
  if s.life.burns.isEmpty then s else s.senseFree.startBurn

/-- The same before the next chunk of an erasure (R431). -/
def State.nextErase (s : State) : State :=
  if s.store.erase.isEmpty || s.store.erasing || s.store.prog.isSome || s.eraseWaits then s else s.senseFree.startErase

/-- A chunk of zeros has been written; each erasure counts one program cycle (R431). -/
def State.eraseDone (s : State) : State :=
  match s.store.erase with
  | [] => s.setStore { s.store with erasing := false }
  | k :: rest =>
    let n := s.store.erased + chunkBytes
    let s := if slotBytes k ≤ n then
        (s.setStore { s.store with erase := rest, erased := 0, erasing := false }).setSlot k { prog := (s.slot k).prog + 1 }
      else s.setStore { s.store with erased := n, erasing := false }
    s.nextErase.rollState.nextBurn

/-- Does firmware slot `k` start after a VAUX power-on reset: sealed, so its signature has verified, and not below the rollback
counter (R341, R358, R436; DEDUCED log 142)? -/
def State.fwStarts (s : State) (k : Nat) : Bool :=
  (s.slot (0x10 + k)).st = 2 && decide (s.fwFloor ≤ Config.firmwareRollback (s.slot (0x10 + k)).bytes)

/-- The firmware slot that the boot ROM starts: the selected one, or else the other; none when neither starts. In SCRAPPED
the boot ROM serves alone (R433). -/
def State.fwStart (s : State) : Option Nat :=
  if s.scrapped || s.fwStarts s.hl.sel then some s.hl.sel
  else if s.fwStarts (1 - s.hl.sel) then some (1 - s.hl.sel) else none

/-- Headland starts, or stays halted. -/
def State.startHeadland (s : State) : State :=
  match s.fwStart with
  | some k => { s with hl := { s.hl with up := true, run := k, newFw := decide (k = s.hl.sel) } }
  | none => s

/-- VAUX_POR_RELEASE (R249): straps sampled, Headland started, roll-forward and repair burns; `mv` is HOLDUP_SENSE. -/
def State.porRelease (s : State) (boot park mv : Nat) : State :=
  if s.on then s
  else
    let s := { s with on := true, boot := boot, park := park }
    let s := (s.setLife { s.life with start := s.lc }).startHeadland
    ((s.sense mv).rollForward).rollRecord.startBurn.startErase

def execVauxPorRelease (boot : BitVec 3) (park : BitVec 32) (mv : Nat) (s : State) : Host.Outcome State Fault Refusal :=
  .next (s.porRelease boot.toNat park.toNat mv)

/-- BURN_RETRY: a burn, the boot record or a chunk of an erasure that the hold-up check refused. -/
def execBurnRetry (mv : Nat) (s : State) : Host.Outcome State Fault Refusal :=
  .next (if s.on then (s.sense mv).rollRecord.rollState.startBurn.startErase else s)

/-- What a finished burn of group `g` sets off; `t` is the state before it (R427, R502): the transition it was accepted for is
burnt, DEBUG_DISABLE ends a session as it comes into effect (R434), and PROBE_RESTRICT narrows the probe block. -/
def State.burnt (s t : State) (g : Nat) : State :=
  if g = gIntent then if topBit s.life.accepted ≤ s.lcIntent then s.setLife { s.life with accepted := 0 } else s
  else if g = gSec then
    let s := if s.sec 2 && !t.sec 2 then s.setLife { s.life with debugTok := false } else s
    if s.probeRestrict && !t.sec 1 then s.probeNarrow else s
  else s

/-- OTP_BURN_DONE: all three copies hold the bits, and the next burn that waits may start (R428). -/
def State.burnDone (s : State) : State :=
  match s.life.burns with
  | (g, v) :: rest =>
    if !s.life.burning then s
    else
      let t := ((s.burnCopy g 0 v.toNat).burnCopy g 1 v.toNat).burnCopy g 2 v.toNat
      let t := t.setLife { t.life with burns := rest, burning := false }
      (t.burnt s g).rollState.nextBurn.nextErase
  | [] => s

def execOtpBurnDone (s : State) : Host.Outcome State Fault Refusal := .next s.burnDone

/-- FW_ROLLBACK_RAISE (R436): the firmware of the selected slot has run for 60 s. While the engine burns, or when the hold-up
check refuses the burn, the command comes again; it is over once the counter stands at the value (DEDUCED log 170). -/
def State.raiseFw (s : State) (mv : Nat) : State :=
  if !s.hl.newFw || !s.hl.up then s
  else
    let v := min 32 (Config.firmwareRollback (s.slot (0x10 + s.hl.run)).bytes)
    let s := s.sense mv
    if v ≤ s.fwRollback then { s with hl := { s.hl with newFw := false } }
    else if s.life.burning || !holdsUp s.holdupC s.store.mv burnNeed then s
    else s.burn gFwRb (2 ^ v - 1)

def execFwRollbackRaise (mv : Nat) (s : State) : Host.Outcome State Fault Refusal := .next (s.raiseFw mv)

/-! ## The fall of VAUX (R414, R430 Table LCS-9, R510) -/

/-- A burn cut short: how many copies it had completed, and which bits of the next one it had set, is not stated (free
values, log 1). LC_STATE and LC_INTENT never become a third state by it: the bits below the highest of the code come with that
one or not at all (R430, Table LCS-9). -/
def State.cutBurn (s : State) : State :=
  match s.life.burns with
  | (g, v) :: _ =>
    if !s.life.burning then s
    else
      let (n, s) := s.draw
      let (m, s) := s.draw
      let m := if (g = gState ∨ g = gIntent) ∧ !(v.toNat &&& m).testBit (topBit v.toNat - 1) then 0 else m
      let s := (List.range (n % 3)).foldl (fun t c => t.burnCopy g c v.toNat) s
      s.burnCopy g (n % 3) (v.toNat &&& m)
  | [] => s

/-- The chunk that programs is complete, from the reservoir if need be (R269, R270); one that waits in the other buffer
programs next. -/
def State.finishChunk (s : State) : State :=
  match s.store.prog with
  | some (k, b) =>
    let s := s.setSlot k { s.slot k with bytes := (s.slot k).bytes ++ b }
    s.setStore { s.store with prog := s.store.next, next := none }
  | none => s

/-- VAUX_FALL: the unit is off. OTP, the image store, the boot record and the firmware selector stay; the host island runs
on VHOST; everything else is as after reset. -/
def State.vauxFall (s : State) : State :=
  if !s.on then s
  else
    let s := s.cutBurn.finishChunk
    { pending := s.pending, free := s.free, rails := s.rails
      hl := { sel := s.hl.sel }
      store := { slots := s.store.slots, rec0 := s.store.rec0, rec1 := s.store.rec1 }
      life := { otp := s.life.otp }
      isl := s.island }

def execVauxFall (s : State) : Host.Outcome State Fault Refusal := .next s.vauxFall

end Sys2Proof.Machine
end

