-- ==== Sys2Proof/Machine/Store.lean ====
section
/-! DEFINITION. The image store engine (spec/08 R268 to R274, spec/12 R362, R363, R383, spec/11 R358): chunks and seals. -/

namespace Sys2Proof.Machine

/-! ## Chunks -/

/-- CHUNK_PROGRAM_DONE: the buffer is free; a chunk of an erasure ends in the same way (R431). -/
def State.chunkDone (s : State) : State :=
  match s.store.prog with
  | some _ => s.finishChunk.nextErase
  | none => if s.store.erasing then s.eraseDone else s

def execChunkProgramDone (s : State) : Host.Outcome State Fault Refusal := .next s.chunkDone

/-- Does a chunk program, of a stream or of an erasure? -/
def State.programming (s : State) : Bool := s.store.prog.isSome || s.store.erasing

/-- The write stream of image or firmware slots. -/
def State.stream (s : State) (fw : Bool) : Stream := if fw then s.store.fw else s.store.img
def State.setStream (s : State) (fw : Bool) (x : Stream) : State :=
  s.setStore (if fw then { s.store with fw := x } else { s.store with img := x })

/-- How a stream takes data bytes: the refusal, or the state with them (R269, R362, R363, R270). -/
inductive Taking where
  | refused (status : Nat)
  | took (s : State)

/-- Chunk buffers that hold nothing: each of the two streams gathers in one, a chunk that programs or waits fills one (R363). -/
def State.freeBuffers (s : State) : Nat :=
  2 - (!s.store.img.chunk.isEmpty).toNat - (!s.store.fw.chunk.isEmpty).toNat - s.programming.toNat - s.store.next.isSome.toNat

/-- Buffers that a stream needs beside the one it gathers in, to hold `n` bytes of chunk and tail. -/
def Stream.needs (x : Stream) (n : Nat) : Nat := (x.chunk.isEmpty && decide (0 < n)).toNat + (decide (chunkBytes < n)).toNat

/-- Data bytes `b` come to a stream that is open and not complete, at the right offset; `fin` closes the chunk. Bytes that find
no buffer are answered BUSY; bytes past a chunk that the same FINAL request closes make a chunk of their own, which
programs after it (DESIGN CHOICE log 140). -/
def State.streamTake (s : State) (fw : Bool) (b : List Byte) (fin : Bool) (mv : Nat) : Taking :=
  let x := s.stream fw
  let n := x.chunk.length + b.length
  let s := s.sense mv
  if slotBytes x.slot < x.took + b.length then .refused stBAD_ARG
  else if n < chunkBytes ∧ !fin ∧ x.needs n ≤ s.freeBuffers then
    .took (s.setStream fw { x with took := x.took + b.length, chunk := x.chunk ++ b })
  else
    let c := min n chunkBytes
    if !holdsUp s.holdupC mv (chunkNeed c) then .refused stNO_HOLDUP
    else if s.programming || decide (s.freeBuffers < x.needs n) then .refused stBUSY
    else
      let all := x.chunk ++ b
      let tail := all.drop chunkBytes
      let s := s.setStore { s.store with
        prog := some (x.slot, all.take chunkBytes), next := if fin && !tail.isEmpty then some (x.slot, tail) else none }
      .took (s.setStream fw { x with took := x.took + b.length, chunk := if fin then [] else tail, fin := fin })

/-- Open a slot for writing: it counts one program cycle, and what it held is discarded (R268, R269, R358). -/
def State.openSlot (s : State) (fw : Bool) (k mb : Nat) : State :=
  let x := s.slot k
  (s.setSlot k { st := 1, prog := x.prog + 1 }).setStream fw { on := true, slot := k, mb }

/-! ## Seals (R269, R358, R383) -/

/-- GENERATION of an image's header, once the header stage has passed. -/
def State.sealGen (s : State) (b : List Byte) : Nat :=
  let l : Loader := ({ grp := s.ld.grp } : Loader).start (b.take 256)
  if 256 ≤ b.length ∧ (s.headerStage 0 l).isNone then l.generation else 0

/-- The checks of a seal: nothing wrong, or the failure. -/
def State.sealCheck (s : State) (k : Nat) : Option Fail :=
  let b := (s.slot k).bytes
  if k < 4 then s.scanImage b
  else if !Config.firmwareVerifies b then some { status := stCHECK_FAIL, detail := dSIGNATURE }
  else if Config.firmwareRollback b < s.fwFloor then some { status := stDENIED, detail := dROLLBACK }
  else none

/-- SEAL_DONE: the slot becomes VALID or INVALID and the report is posted. -/
def State.sealDone (s : State) : State :=
  match s.store.sealing with
  | none => s
  | some j =>
    if s.store.prog.isSome then s
    else
      let x := s.slot j.slot
      let bad := s.sealCheck j.slot
      let f : Fail := bad.getD { status := 0, detail := 0 }
      let gen := if j.slot < 4 then s.sealGen x.bytes else 0
      let rep := packLE [(f.status, 1), (0, 1), (f.detail, 2), (f.index, 4), (f.addr, 4), (f.region, 1), (f.ctx, 1), (0, 1),
        (j.slot, 1), (gen, 4), ((s.timePs - j.startPs) / 1000000, 4)]
      let s := s.setSlot j.slot { x with st := if bad.isNone then 2 else 3, gen, len := x.bytes.length }
      let s := s.setStore { s.store with sealing := none }
      s.direct ⟨j.mb, j.tag, 1, rep, decide (f.status ≠ 0), f.detail⟩

def execSealDone (s : State) : Host.Outcome State Fault Refusal := .next s.sealDone

end Sys2Proof.Machine
end

