-- ==== Sys2Proof/Machine/Breakwater.lean ====
section
/-! DEFINITION. Breakwater's host island (spec/13 R395 to R411): host frames and their replies, what crosses the barrier. -/

namespace Sys2Proof.Machine

def State.setIsl (s : State) (x : Island) : State := { s with isl := x }

/-! ## Frames (R395, R404, Table BWP-5) -/

/-- A host frame that has passed the checks of R404. -/
structure HostFrame where
  addr : Nat
  typ : Nat
  seq : Nat
  pay : List Byte
  deriving DecidableEq, Repr

/-- Read a host frame; none when SYNC, CRC or LEN is wrong, or HOST_CS_N rose before it was complete (R396, R404). -/
def readFrame (b : List Byte) : Option HostFrame :=
  let n := natLE ((b.drop 3).take 2)
  let len := n % 512
  if b.length < 10 ∨ 512 ≤ n ∨ 256 < len ∨ b.length < 10 + len ∨ b.head? ≠ some 0xA5 then none
  else if natLE ((b.drop (6 + len)).take 4) ≠ crc32c (b.take (6 + len)) then none
  else
    let a := natLE ((b.drop 1).take 2)
    some { addr := a % 4096, typ := a / 4096, seq := natLE ((b.drop 5).take 1), pay := (b.drop 6).take len }

/-- A frame on the wire. -/
def writeFrame (addr typ seq : Nat) (pay : List Byte) : List Byte :=
  let b := [0xA5] ++ bytesLE (addr % 4096 + typ * 4096) 2 ++ bytesLE pay.length 2 ++ bytesLE seq 1 ++ pay
  b ++ bytesLE (crc32c b) 4

/-! ## What the island knows (R397, R398, R401, R406, R407) -/

/-- The island holds what has crossed so far. -/
def State.mirror (s : State) : State := s.setIsl s.island

/-- Host address (R398). -/
def State.hostAddr (s : State) : Nat := s.island.haddr.getD s.island.zaddr

/-- Events that the island holds. -/
def Island.evtCnt (i : Island) : Nat := (i.wr + 16 - i.rd % 16) % 16

/-- MB0's STATE as the island holds it. -/
def State.islState (s : State) : Nat :=
  match s.island.st with
  | .idle => 0
  | .waiting => 1
  | .serving => 2
  | .done => 3

/-- Is HOST_IRQ_N pulled low (R406, R410)? -/
def State.irq (s : State) : Bool :=
  s.rails.vhost && s.isl.devUp && (decide (0 < s.island.evtCnt) || s.island.st = .done)

/-- The first four bytes of every reply (R397). -/
def State.replyHead (s : State) (status : Nat) : List Byte :=
  bytesLE status 1 ++ bytesLE (s.islState + (s.island.hlUp && s.isl.devUp).toNat * 4 + s.isl.devUp.toNat * 8 + s.isl.resync.toNat * 16) 1
    ++ bytesLE s.island.evtCnt 1 ++ [0]

/-- The island replies to `f` with `status` and `data`, `a` being the unit's host address before the frame; a broadcast gets
no reply (R399). -/
def State.bwReply (s : State) (f : HostFrame) (a status : Nat) (data : List Byte) : State :=
  if f.addr = 0xFFF then s
  else s.setIsl { s.isl with reply := some (writeFrame a f.typ f.seq (s.replyHead status ++ data)) }

/-! ## Frame types (Table BWP-6) -/

/-- REQUEST (R400). -/
def State.hostRequest (s : State) (f : HostFrame) : State :=
  let inner := natLE ((f.pay.drop 2).take 2)
  let a := s.hostAddr
  if f.pay.length < 8 ∨ 248 < inner ∨ f.pay.length ≠ 8 + inner then s.bwReply f a stBAD_LENGTH []
  else if !s.isl.devUp then s.bwReply f a stNOT_READY []
  else if s.isl.st ≠ .idle then s.bwReply f a (if f.seq = s.isl.lastSeq then 0 else stBUSY) []
  else
    let s := s.setIsl { s.isl with st := .waiting, lastSeq := f.seq }
    let s := if s.on then
        let b := s.mbox 0
        (s.setMbox 0 { b with req := BitVec.ofNat 2048 (setBits b.req.toNat 0 (8 * f.pay.length) (natLE f.pay)) }).ringMb 0
      else s
    s.bwReply f a 0 []

/-- STATUS; the reply that shows RESYNC clears it (R397). -/
def State.hostStatus (s : State) (f : HostFrame) : State :=
  let a := s.hostAddr
  if !f.pay.isEmpty then s.bwReply f a stBAD_LENGTH []
  else
    let s := s.bwReply f a 0 (bytesLE s.island.lost 2 ++ bytesLE s.isl.lastSeq 1 ++ [0])
    if f.addr = 0xFFF then s else s.setIsl { s.isl with resync := false }

/-- RESPONSE (R401). -/
def State.hostResponse (s : State) (f : HostFrame) : State :=
  let a := s.hostAddr
  if !f.pay.isEmpty then s.bwReply f a stBAD_LENGTH []
  else if s.isl.st ≠ .done || !s.isl.devUp then s.bwReply f a stNOT_READY []
  else s.bwReply f a 0 (bytesLE s.isl.rsp.toNat (8 + fieldAt s.isl.rsp.toNat 2 2))

/-- ACK. -/
def State.hostAck (s : State) (f : HostFrame) : State :=
  let a := s.hostAddr
  if !f.pay.isEmpty then s.bwReply f a stBAD_LENGTH []
  else if s.isl.st ≠ .done || !s.isl.devUp then s.bwReply f a stNOT_READY []
  else ((s.setIsl { s.isl with st := .idle }).ackMb 0).bwReply f a 0 []

/-- Entries of MB0's ring as the island holds it, from RD on, at most `n`. -/
def State.ringEntries (s : State) (n : Nat) : List Byte :=
  let b := s.island
  ((List.range (min n b.evtCnt)).map (fun i => bytesLE (mget (fun _ => (0 : BitVec 256)) b.evt ((b.rd + i) % 8)).toNat 32)).flatten

/-- RD of MB0 advances and, on request, LOST is cleared: in the island, and across the barrier while the device side runs. -/
def State.hostConsume (s : State) (n : Nat) (clear : Bool) : State :=
  let s := if s.on && s.isl.devUp then
      let t := s.writeRd 0 ((s.mbox 0).rd + n)
      if clear then t.clrLost 0 else t
    else s
  s.setIsl { s.isl with rd := (s.isl.rd + n) % 16, lost := if clear then 0 else s.isl.lost }

/-- EVENTS: RD advances, then entries are read. -/
def State.hostEvents (s : State) (f : HostFrame) : State :=
  let a := s.hostAddr
  let byte (i : Nat) : Nat := natLE ((f.pay.drop i).take 1)
  if f.pay.length ≠ 3 then s.bwReply f a stBAD_LENGTH []
  else if s.island.evtCnt < byte 0 ∨ byte 1 = 0 ∨ 7 < byte 1 ∨ 1 < byte 2 then s.bwReply f a stBAD_ARG []
  else
    let s := s.hostConsume (byte 0) (byte 2 = 1)
    s.bwReply f a 0 (s.ringEntries (byte 1))

/-- EVT_MASK. -/
def State.hostMask (s : State) (f : HostFrame) : State :=
  let a := s.hostAddr
  if f.pay.length ≠ 4 then s.bwReply f a stBAD_LENGTH []
  else (if s.isl.devUp && s.on then s.setReg (MB 0 0x208) (natLE f.pay) else s).bwReply f a 0 []

/-- Bit `i` of an ID in the order of R402: from bit 7 of byte 0. -/
def idBit (id : List Byte) (i : Nat) : Bool := (id.getD (i / 8) 0).getLsbD (7 - i % 8)

/-- SEARCH (R402): the presence byte. -/
def State.hostSearch (s : State) (f : HostFrame) : State :=
  let plen := natLE (f.pay.take 1)
  let flags := natLE ((f.pay.drop 1).take 1)
  let id := f.pay.drop 2
  let hit := f.addr = 0 && decide (f.pay.length = 18 ∧ plen ≤ 128 ∧ flags < 4)
    && (List.range plen).all (fun i => idBit id i = idBit s.unitBytes i)
    && (!flags.testBit 0 || s.irq) && (!flags.testBit 1 || s.hostAddr = 0)
  s.setIsl { s.isl with presence := hit }

/-- Data of an IDENTIFY or ASSIGN reply: HADDR, chain address, life-cycle code, host-assigned. -/
def State.identity (s : State) : List Byte :=
  bytesLE (s.isl.haddr.getD 0) 2 ++ bytesLE s.island.zaddr 2 ++ bytesLE s.island.lcNow 1 ++ bytesLE s.isl.haddr.isSome.toNat 1 ++ [0, 0]

/-- IDENTIFY and ASSIGN (R398, R403): only the unit with that ID answers, with BAD_LENGTH where LEN is wrong (R404). -/
def State.hostIdentify (s : State) (f : HostFrame) : State :=
  if f.addr = 0 && f.pay.take 16 = s.unitBytes then
    if f.pay.length = 16 then s.bwReply f s.hostAddr 0 s.identity else s.bwReply f s.hostAddr stBAD_LENGTH []
  else s

def State.hostAssign (s : State) (f : HostFrame) : State :=
  let a := s.hostAddr
  let h := natLE (f.pay.drop 16)
  if f.addr = 0 && f.pay.take 16 = s.unitBytes then
    if f.pay.length ≠ 18 then s.bwReply f a stBAD_LENGTH []
    else if 0xFFF ≤ h then s.bwReply f a stBAD_ARG []
    else
      let s := s.setIsl { s.isl with haddr := if h = 0 then none else some h }
      s.bwReply f a 0 s.identity
  else s

/-- A host frame whose bytes are `b`, if its type is `typ` or a reserved one; a frame that R404 or R399 leaves unanswered has
no effect. -/
def State.hostFrame (s : State) (typ : Nat) (b : List Byte) : State :=
  if !s.rails.vhost then s
  else
    let s := s.mirror
    let s := s.setIsl { s.isl with reply := none, presence := false }
    match readFrame b with
    | none => s
    | some f =>
      if 8 ≤ f.typ ∧ f.typ ≤ 10 then
        if f.typ ≠ typ then s
        else if typ = 8 then s.hostSearch f else if typ = 9 then s.hostIdentify f else s.hostAssign f
      else if s.hostAddr = 0 ∨ (f.addr ≠ s.hostAddr ∧ f.addr ≠ 0xFFF) then s
      else if f.typ = 0 ∨ f.typ = 7 ∨ 11 ≤ f.typ then s.bwReply f s.hostAddr stBAD_ARG []
      else if f.typ ≠ typ then s
      else match typ with
        | 1 => s.hostRequest f
        | 2 => s.hostStatus f
        | 3 => s.hostResponse f
        | 4 => s.hostAck f
        | 5 => s.hostEvents f
        | _ => s.hostMask f

def execBwRequest (frame : List Byte) (s : State) : Host.Outcome State Fault Refusal := .next (s.hostFrame 1 frame)
def execBwStatus (frame : List Byte) (s : State) : Host.Outcome State Fault Refusal := .next (s.hostFrame 2 frame)
def execBwResponse (frame : List Byte) (s : State) : Host.Outcome State Fault Refusal := .next (s.hostFrame 3 frame)
def execBwAck (frame : List Byte) (s : State) : Host.Outcome State Fault Refusal := .next (s.hostFrame 4 frame)
def execBwEvents (frame : List Byte) (s : State) : Host.Outcome State Fault Refusal := .next (s.hostFrame 5 frame)
def execBwEvtMask (frame : List Byte) (s : State) : Host.Outcome State Fault Refusal := .next (s.hostFrame 6 frame)
def execSearch (frame : List Byte) (s : State) : Host.Outcome State Fault Refusal := .next (s.hostFrame 8 frame)
def execBwIdentify (frame : List Byte) (s : State) : Host.Outcome State Fault Refusal := .next (s.hostFrame 9 frame)
def execAssign (frame : List Byte) (s : State) : Host.Outcome State Fault Refusal := .next (s.hostFrame 10 frame)

/-! ## The barrier (R401, R407 to R411) -/

/-- BARRIER_RESPONSE: the whole response has crossed; the island shows DONE. -/
def State.barrierResponse (s : State) : State :=
  if s.on && s.isl.devUp && (s.mbox 0).st = .done && (s.isl.st = .waiting || s.isl.st = .serving) then
    s.setIsl { s.isl with st := .done, rsp := (s.mbox 0).rsp }
  else s

def execBarrierResponse (s : State) : Host.Outcome State Fault Refusal := .next s.barrierResponse

/-- HEARTBEAT (R410): it tells the island nothing but that the device side runs; its coming is what HEARTBEAT_LOSS lacks. -/
def execHeartbeat (s : State) : Host.Outcome State Fault Refusal := .next s

/-- HEARTBEAT_LOSS (R410): 100 µs without a heartbeat. -/
def State.heartbeatLoss (s : State) : State := s.setIsl { s.island with devUp := false }
def execHeartbeatLoss (s : State) : Host.Outcome State Fault Refusal := .next s.heartbeatLoss

/-- RESYNC (R411): both sides are powered again; the device side has resent what the island mirrors. -/
def State.resync (s : State) : State :=
  if !s.on || s.isl.devUp then s
  else
    let b := s.mbox 0
    let i : Island := { s.isl with st := b.st, rsp := b.rsp, devUp := true, resync := true }
    { s.setIsl (i.copy s) with rails := { s.rails with vhost := true } }

def execResync (s : State) : Host.Outcome State Fault Refusal := .next s.resync

/-- VHOST_DOWN (R398, R409): the island loses everything; the device side runs on. -/
def State.vhostDown (s : State) : State := { s.setIsl {} with rails := { s.rails with vhost := false } }
def execVhostDown (s : State) : Host.Outcome State Fault Refusal := .next s.vhostDown

end Sys2Proof.Machine
end

