-- ==== Sys2Proof/Machine/Contention.lean ====
section
/-! DEFINITION. The contention detectors (spec/04 R122, R126). -/

namespace Sys2Proof.Machine

/-- Shafts of pair `k` driven from both ends now. -/
def State.shaftClash (s : State) (k : Nat) : Option Nat :=
  (List.range 1024).find? (fun n => s.endDrives k n && s.endDrives (k + 48) n)

/-- Crossing ladder segments of pair `k` driven from both ends now, as 2 × tile column + line (Table RTE-12). -/
def State.ladderClash (s : State) (k : Nat) : Option Nat :=
  (List.range 16).find? (fun i => s.ladT1 k (i / 2) (i % 2) && s.ladT3 k (i / 2) (i % 2))

/-- The wire that the detectors of pair `k` see: class 0 shaft, 1 ladder, and number (Table CMD-16); of several the
lowest shaft, else the lowest ladder segment (log 58). -/
def State.clash (s : State) (k : Nat) : Option (Nat × Nat) :=
  match s.shaftClash k with
  | some n => some (0, n)
  | none => (s.ladderClash k).map (fun i => (1, i))

/-- Region `r` of the pair is held; both ends of its wires stop driving. A region that is held already stays held as it
is. -/
def State.holdClash (s : State) (k r : Nat) : State :=
  let s := if (s.region r).held then s
    else
      let t := s.holdRegion r 3
      t.setRegion r { t.region r with relMode := 2, group := [k, k + 48] }
  s.dropShafts r

/-- CONTENTION_DETECT of pair `k` (R126). -/
def State.contention (s : State) (k : Nat) : State :=
  match s.clash k with
  | none => s
  | some (cls, n) =>
    let data := packLE [(k, 1), (cls, 1), (n, 2), (s.active k, 1), (s.active (k + 48), 1)]
    ((s.holdClash k k).holdClash k (k + 48)).faultHw 0x0104 k data

def execContentionDetect (k : Fin 48) (s : State) : Host.Outcome State Fault Refusal := .next (s.contention k.val)

end Sys2Proof.Machine
end

