-- ==== Sys2Proof/Machine/CsrAccess.lean ====
section
/-! DEFINITION. Accesses to the CSR space (spec/01 R32 to R36, R541, spec/07 R202, R217, R218, spec/00 R7): what registers
read as, what writes do, and the requests that arrive over the network. -/

namespace Sys2Proof.Machine

/-! ## What registers read as -/

/-- A Zhevley fault table entry (Table ZVL-8). -/
def State.ftabWord (s : State) (i : Nat) : Nat :=
  match s.chain.ftab[i]? with
  | some e => e.origin + e.code * 2 ^ 12 + min 15 ((s.timePs - e.ps) / 10 ^ 9) * 2 ^ 20 + 2 ^ 24 + e.conseq.toNat * 2 ^ 25
  | none => 0

/-- Registers of a queue controller (Table MEM-10). -/
def State.readQc (s : State) (q off : Nat) : Nat :=
  let x := s.queue q
  match off with
  | 0x000 => bits x.desc.toNat 0 32
  | 0x004 => bits x.desc.toNat 32 32
  | 0x008 => bits x.desc.toNat 64 32
  | 0x00C => bits x.desc.toNat 96 32
  | 0x010 => bits x.desc.toNat 128 32
  | 0x020 => s.qcStatus q
  | 0x024 => x.occ
  | 0x028 => x.wr
  | 0x02C => if s.qMode q = 3 then 0 else x.rd
  | 0x030 => bits x.curt 0 32
  | 0x034 => bits x.oldest 0 32
  | _ => if 0x800 ≤ off then s.reg (scrubReg (bayOf (queueRegion q)) off) else s.reg (QC q off)

/-- Registers of a mailbox window (Tables HDL-3, HDL-4). -/
def State.readMb (s : State) (m off : Nat) : Nat :=
  let b := s.mbox m
  if off < 0x100 then bits b.req.toNat (8 * off) 32
  else if off < 0x200 then bits b.rsp.toNat (8 * (off - 0x100)) 32
  else if 0x300 ≤ off then bits (mget (fun _ => (0 : BitVec 256)) b.evt ((off - 0x300) / 32)).toNat (8 * (off % 32)) 32
  else match off with
    | 0x204 =>
      let st := match b.st with
        | .idle => 0
        | .waiting => 1
        | .serving => 2
        | .done => 3
      st + s.hl.up.toNat * 4 + b.aged.toNat * 8 + b.overrun.toNat * 256 + s.evtCnt m * 2 ^ 16
    | 0x20C => b.wr + b.rd * 256
    | 0x210 => b.lost
    | _ => s.reg (MB m off)

/-- What the register at address `a` reads as. -/
def State.readReg (s : State) (a : Nat) : Nat :=
  match blockOf a with
  | .router n off =>
    match off with
    | 0x0000 => n % 8 + n / 8 * 16
    | 0x0030 => (s.region n).held.toNat + (s.region (n + 48)).held.toNat * 2
    | _ => s.reg a
  | .qc q off => s.readQc q off
  | .ck off =>
    match off with
    | 0x0204 => setBits (s.reg a) 2 1 s.powerPending.toNat
    | 0x0810 => bits s.frameNo 0 32
    | _ => s.reg a
  | .zv _ off => if 0x824 ≤ off then s.ftabWord ((off - 0x824) / 4) else if off = 0x80C then s.genLoaded else s.reg a
  | .pb off => if off = 4 then setBits (s.reg a) 9 1 s.probeRestrict.toNat else s.reg a
  | .mb m off => s.readMb m off
  | _ => s.reg a

/-- What a read sets off: the upper halves are latched (Tables TCK-6, MEM-10). -/
def State.readEffect (s : State) (a : Nat) : State :=
  match blockOf a with
  | .ck off => if off = 0x810 then s.setReg (CK 0x814) (bits s.frameNo 32 16) else s
  | .qc q off =>
    if off = 0x030 then s.setReg (QC q 0x38) (bits (s.queue q).curt 32 16 + bits (s.queue q).oldest 32 16 * 2 ^ 16) else s
  | _ => s

/-! ## What writes do (R7 to R9) -/

/-- A write that does no more than its access codes. -/
def State.plainWrite (s : State) (a v : Nat) : State := s.setReg a (applyWrite ((regFields a).getD []) (s.reg a) v)

/-- QC_CMD (Table MEM-14). -/
def State.qcCmd (s : State) (q v : Nat) : State :=
  let s := if v.testBit 0 then s.clearQueue q else s
  let s := if v.testBit 1 then s.resumeQueue q else s
  let s := if v.testBit 2 then s.clrQueueCnt q else s
  if v.testBit 3 then s.lutSwapNext q else s

/-- CK_TICK_CMD (Table TCK-9). -/
def State.tickCmd (s : State) (v : Nat) : State :=
  let s := if v.testBit 0 then s.tickPreset else s
  let s := if v.testBit 1 then s.acquire else s
  let s := if v.testBit 2 then s.alignDone else s
  if v.testBit 3 then s.clearSlips else s

/-- LN_CMD (Table IOL-6). -/
def State.laneCmd (s : State) (n v : Nat) : State :=
  let s := if v.testBit 0 then s.clrLaneCnt n else s
  let s := if v.testBit 1 then s.laneSlip n else s
  if v.testBit 2 then s.laneLost n else s

/-- MB_DOORBELL (Table HDL-4). -/
def State.doorbell (s : State) (m v : Nat) : State :=
  let s := if v.testBit 1 then s.ackMb m else s
  let s := if v.testBit 0 then s.ringMb m else s
  (if v.testBit 2 then s.clrLost m else s).islFollows m

/-- Is the register one that an armed or capturing sounding locks (Table PRB-5)? -/
def pbLocked (off : Nat) : Bool :=
  off = 0 || decide (0x20 ≤ off ∧ off < 0x30) || decide (0x40 ≤ off ∧ off < 0x80) || decide (0x100 ≤ off ∧ off < 0x200)

/-- Registers of the clock and power block (R61, R158). -/
def State.writeCk (s : State) (off v : Nat) : State :=
  if clockWritable off then s.writeClock off v
  else match off with
    | 0x0800 => s.writeTickCtrl v
    | 0x0804 => if 8 ≤ bits v 0 13 ∧ bits v 0 13 ≤ 4096 then { s with tick := { s.tick with pendP := some (bits v 0 13) } } else s
    | 0x0824 => s.tickCmd v
    | 0x0830 => if 1 ≤ bits v 0 7 ∧ bits v 0 7 ≤ 96 then { s with tick := { s.tick with pendW := some (bits v 0 7) } } else s
    | _ => s.plainWrite (CK off) v

/-- A write of `v` to the register at address `a` by one that may write it; the register exists. -/
def State.writeReg (s : State) (a v : Nat) : State :=
  match blockOf a with
  | .router n off =>
    match off with
    | 0x0010 =>
      let s := s.plainWrite a v
      if v.testBit 0 then s.slackEnter n else s
    | 0x0080 => if v.testBit 0 then s.clrRouterCnt n else s
    | _ => s.plainWrite a v
  | .qc q off =>
    match off with
    | 0x080 => s.qcCmd q v
    | 0x090 => s.startAccess q v
    | _ => s.plainWrite a v
  | .ck off => s.writeCk off v
  | .ln n off => if off = 0x040 then s.laneCmd n v else s.plainWrite a v
  | .zv p off =>
    match off with
    | 0x030 =>
      let s := if v.testBit 0 then s.clrPortCnt p else s
      if v.testBit 1 then s.measure p else s
    | 0x040 => (s.plainWrite a v).checkSide s.P (p % 2)
    | 0x81C => (s.plainWrite a v).caldAfter s
    | _ => s.plainWrite a v
  | .pb off =>
    if off = 0x300 then
      let s := if v.testBit 0 then s.endSounding 5 else s
      let s := if v.testBit 1 then s.pbFree else s
      if v.testBit 2 then s.pbClrDrop else s
    else if s.sounding && pbLocked off then s
    else s.notePins.plainWrite a v
  | .mb m off =>
    if off < 0x100 then s.writeReq m (off / 4) v
    else match off with
      | 0x200 => s.doorbell m v
      | 0x204 => if v.testBit 8 && s.pathOpen m then s.setMbox m { s.mbox m with overrun := false } else s
      | 0x20C => s.writeRd m (bits v 8 4)
      | _ => if s.pathOpen m then s.plainWrite a v else s
  | _ => s

/-- Does the register at address `a` stand in a router or in T4, which VMEM supplies (R12)? -/
def tierReg (a : Nat) : Bool :=
  match blockOf a with
  | .router _ _ => true
  | .qc _ _ => true
  | _ => false

/-- REGISTER_WRITE (R7): a write by the register's own writer. A router and the memory tier take none without VMEM (R12). -/
def State.registerWrite (s : State) (a v : Nat) : State :=
  if a % 4 = 0 && (regFields a).isSome then (if tierReg a then s.powered (fun t => t.writeReg a v) else s.writeReg a v) else s

def execRegisterWrite (addr : Word) (v : Word) (s : State) : Host.Outcome State Fault Refusal :=
  .next (s.registerWrite addr.toNat v.toNat)

/-! ## The memory window (R35, R541) -/

/-- May node `n` reach block `k` through the window (R35)? -/
def State.windowOk (s : State) (n k : Nat) : Bool :=
  let code := s.blockCode k
  match s.blockRegion k with
  | some r => n = 3 || n = regionNode r
  | none =>
    (n = 3 || n = probeNode) &&
      (code = 0x480 || (spareCode code true && (match s.lent 0 k with
        | some m => s.holder = m
        | none => false)))

/-- Read the window at offset `off`: the word is checked whole (R541). -/
def State.windowRead (s : State) (off : Nat) (wide : Bool) : Nat × State :=
  let k := off / 32768
  let w := off % 32768 / 8
  let ((v, _, ue), s) := s.readWord k w
  let s := if ue then s.foundUE k w 3 else s
  (if wide then v else bits v (8 * (off % 8)) 32, s)

/-- Write the window (R541). -/
def State.windowWrite (s : State) (off : Nat) (wide : Bool) (v : Nat) : State :=
  let k := off / 32768
  let w := off % 32768 / 8
  if wide then s.putWord k w v
  else
    let ((old, _, ue), s) := s.readWord k w
    let s := if ue then s.foundUE k w 3 else s
    s.putWord k w (setBits old (8 * (off % 8)) 32 v)

/-! ## One access (R32 to R36, R202, R218) -/

/-- Serving node of an address (Table NOC-2); `none` for an address outside Table ARC-5. -/
def servingNode (a : Nat) : Option Nat :=
  match blockOf a with
  | .router n _ => some (routerNode n)
  | .qc q _ => some (clusterNode (q / 12))
  | .ck _ => some 0x43
  | .ln n _ => some (quadNode (n / 4))
  | .zv p _ => some (zvNode p)
  | .pb _ => some probeNode
  | .rg r _ => some (regionNode r)
  | .mb _ _ => some 3
  | .mem off => some (regionNode (defaultRegion (off / 32768)))
  | .nothing => none

/-- Gate of the block at address `a` (Table CLK-4). -/
def gateOf (a : Nat) : Option Nat :=
  match blockOf a with
  | .ln n _ => some (n / 4)
  | .zv p _ => some (0x28 + p)
  | .pb _ => some 0x2C
  | _ => none

/-- May node `n` read, or write, at address `a` (R33 to R35)? Mailbox windows are written by Headland, by the region that
owns them, and MB7 by the probe block (DEDUCED log 46). -/
def State.accessOk (s : State) (n a : Nat) (write : Bool) : Bool :=
  match blockOf a with
  | .mem off => s.windowOk n (off / 32768)
  | b =>
    n = 3 ||
    match nodeKind n, b with
    | .region r, .qc q _ => !write && q / 4 = r
    | .region r, .rg k _ => !write && k = r
    | .region r, .mb m _ => s.mboxRegion m = some r && 2 ≤ m && m ≤ 5
    | .region _, _ => false
    | .probe, .mb m _ => !write || m = 7
    | _, _ => !write

/-- Status of an access from node `n` by its address and rights: alignment, the map, the serving node, the gate, rights.
That a closed gate (R461) comes before the rights (R33, R34) is the model's choice (DESIGN CHOICE log 123), and so is that the
map (R36) comes before the rights of a region endpoint (R34, DESIGN CHOICE log 160). -/
def State.accessStatus (s : State) (n dst a : Nat) (write wide : Bool) : Nat :=
  let mem := match blockOf a with
    | .mem _ => true
    | _ => false
  if a % (if wide then 8 else 4) ≠ 0 then stBAD_ARG
  else if servingNode a ≠ some dst then stBAD_ARG
  else if !mem && (wide || (regFields a).isNone) then stBAD_ARG
  else if (match gateOf a with
    | some g => !s.gateOpen g
    | none => false) then stGATED
  else if !s.accessOk n a write then stDENIED
  else 0

/-- The access itself: status and data read. -/
def State.access (s : State) (n dst a : Nat) (write wide : Bool) (v : Nat) : (Nat × Nat) × State :=
  let st := s.accessStatus n dst a write wide
  if st = stGATED then
    ((st, 0), match gateOf a with
      | some g => s.setBit (CK (0x400 + 4 * g)) 4 true
      | none => s)
  else if st ≠ 0 then ((st, 0), s)
  else match blockOf a with
    | .mem off =>
      if write then ((0, 0), s.windowWrite off wide v)
      else
        let (x, s) := s.windowRead off wide
        ((0, x), s)
    | _ => if write then ((0, 0), s.writeReg a (v % 2 ^ 32)) else ((0, s.readReg a), s.readEffect a)

/-! ## Requests over the network (R217, R224) -/

/-- A CSR request that has arrived from `src` at `dst` is executed and answered (R217). A held region
endpoint answers NOT_READY (R224) before it looks at the alignment of R32 (DESIGN CHOICE log 124). -/
def State.serveRequest (s : State) (src dst : Nat) (p : Packet) : State :=
  let held := match nodeKind dst with
    | .region r => !ownRegisters p && s.epHeld r
    | _ => false
  if held then s.respond dst p stNOT_READY 0
  else
    let ((st, x), t) := s.access src dst p.addr (p.typ = 1) p.wide p.payload
    t.respond (if ownRegisters p then routerNode (nodeRouter dst) else dst) p st x

/-- The network carries the oldest request from `src` to `dst`; the command serves it when it is of its type. -/
def State.csrRequest (s : State) (src dst typ : Nat) : State :=
  let t := s.carry src dst 0
  match t.arrived src dst 0 with
  | some p => if p.typ = typ then (t.takePacket src dst 0).serveRequest src dst p else t
  | none => t

/-- CSR_READ_REQUEST and CSR_WRITE_REQUEST. -/
def execCsrReadRequest (src dst : BitVec 8) (s : State) : Host.Outcome State Fault Refusal :=
  .next (s.csrRequest src.toNat dst.toNat 0)
def execCsrWriteRequest (src dst : BitVec 8) (s : State) : Host.Outcome State Fault Refusal :=
  .next (s.csrRequest src.toNat dst.toNat 1)

/-- Headland's request packet for an access at address `a` of node `dst`. -/
def headlandPacket (dst a : Nat) (write : Bool) (v tag : Nat) : Packet :=
  { hdr := mkHdr dst 3 0 write.toNat 0 tag 0 a v 0 0, data := [] }

/-- Does Headland reach address `a` without the packet network: region status and its own windows always, the clock and
power block and the Zhevley ports while the routers are unpowered (R13, R224)? -/
def State.managed (s : State) (a : Nat) : Bool :=
  match blockOf a with
  | .rg _ _ => true
  | .mb _ _ => true
  | .ck _ => !s.routersOn
  | .zv _ _ => !s.routersOn
  | _ => false

/-- The response of node `who` to Headland's request `p` (Table NOC-5). -/
def headlandResponse (who : Nat) (p : Packet) (st x : Nat) : Packet :=
  { hdr := mkHdr 3 who 1 (p.typ + 2) 0 p.tag st p.addr x 0 0, data := [] }

/-- Who answers request `p` to node `dst`: a router on its way that discards it (R23, R227), the router whose own registers it
names (R202), or the endpoint. -/
def State.replier (s : State) (p : Packet) (dst : Nat) : Nat :=
  match s.stopsAt p with
  | some x => routerNode x
  | none => if ownRegisters p then routerNode (nodeRouter dst) else dst

/-- A free tag of Headland's (R216). -/
def State.freeTag (s : State) : Option Nat := (List.range (maxRequests 3)).find? (fun t => !s.tagBusy 3 t)

/-- Does Headland's request `p` to node `dst` wait: for a tag (R216), behind an earlier request to that target or its response
(R217), or for a router in slack water on its way or on that of its response (R226; DEDUCED log 145)? -/
def State.tripWaits (s : State) (p : Packet) (dst : Nat) : Bool :=
  let who := s.replier p dst
  s.freeTag.isNone || s.net.any (fun q => q.onPath 3 dst 0 || q.onPath who 3 1)
    || s.slackOnRoute p || s.slackOnRoute (headlandResponse who p 0 0)

/-- Does Headland's access at address `a` wait before it begins? -/
def State.headlandWaits (s : State) (a : Nat) : Bool :=
  match servingNode a with
  | some dst => !s.managed a && s.routersOn && s.tripWaits (headlandPacket dst a false 0 0) dst
  | none => false

/-- A packet of one flit crosses the routers of its route: each counts it (R229), and one whose output leads nowhere discards it
and counts that (R23, R227); the number is that router's. -/
def State.cross (s : State) (p : Packet) : List Hop → Option Nat × State
  | [] => (none, s)
  | h :: rest =>
    if s.dead p h then (some h.router, s.inc (NR h.router 0x44))
    else (if h.out = 8 then s else s.count (NR h.router (0x100 + 16 * h.out + 4 * p.vc)) 0 32 1).cross p rest

/-- Packet `p` on its own way. -/
def State.crossing (s : State) (p : Packet) : Option Nat × State := s.cross p p.routed.hops

/-- The response `q` to Headland's request crosses the network: a discarded one ends the request TIMEOUT (R219,
R375). -/
def State.headlandAnswer (s : State) (q : Packet) (st x : Nat) : (Nat × Nat) × State :=
  let (lost, s) := s.crossing q
  (if lost.isSome then (stTIMEOUT, 0) else (st, x), s)

/-- Node `who` answers Headland's request `p`. -/
def State.headlandReply (s : State) (who : Nat) (p : Packet) (st x : Nat) : (Nat × Nat) × State :=
  s.headlandAnswer (headlandResponse who p st x) st x

/-- Headland's own request `p` from node 0x03 to node `dst` over the network (R375), executed there by `f`: a disabled port on the
route answers BAD_ARG, a held endpoint NOT_READY; with the routers unpowered it ends under R219 (DEDUCED log 48). -/
def State.headlandTrip (s : State) (p : Packet) (dst : Nat) (f : State → (Nat × Nat) × State) : (Nat × Nat) × State :=
  if !s.routersOn then ((stTIMEOUT, 0), s)
  else
    let held := match nodeKind dst with
      | .region r => !ownRegisters p && s.epHeld r
      | _ => false
    let who := s.replier p dst
    match s.crossing p with
    | (some _, s) => s.headlandReply who p stBAD_ARG 0
    | (none, s) =>
      if held then s.headlandReply who p stNOT_READY 0
      else
        let r := f s
        r.2.headlandReply who p r.1.1 r.1.2

/-- Headland's own access (R375). -/
def State.headlandAccess (s : State) (a : Nat) (write wide : Bool) (v : Nat) : (Nat × Nat) × State :=
  match servingNode a with
  | none => ((stBAD_ARG, 0), s)
  | some dst =>
    if s.managed a then s.access 3 dst a write wide v
    else s.headlandTrip (headlandPacket dst a write v (s.freeTag.getD 0)) dst (fun t => t.access 3 dst a write wide v)

end Sys2Proof.Machine
end

