-- ==== Sys2Proof/Machine/Operands.lean ====
section
/-! DEFINITION. Operand forms of mailbox requests (spec/12 R360 to R363, the LEN columns of Tables CMD-4 to CMD-14): lengths,
TGT, RMASK, Q, stream headers, and the reserved bits and encodings that R10 refuses. -/

namespace Sys2Proof.Machine

/-! ## Fields of a payload -/

/-- Field of `n` bytes at payload offset `off` (R360). -/
def Service.u (v : Service) (off n : Nat) : Nat := fieldAt v.pay off n
/-- Byte string of `n` bytes at offset `off`. -/
def Service.str (v : Service) (off n : Nat) : List Byte := bytesLE (v.u off n) n
/-- TGT at offset `off` (R361): the frame, and whether its reserved bytes are 0. -/
def Service.tgt (v : Service) (off : Nat) : Nat := v.u off 6
def Service.tgtOk (v : Service) (off : Nat) : Bool := v.u (off + 6) 2 = 0
/-- The regions that RMASK at offset 0 names. -/
def Service.rmask (v : Service) : List Nat := (List.range 96).filter (fun r => v.pay.testBit r)
/-- Q at offset `off`, and whether it names a controller. -/
def Service.q (v : Service) (off : Nat) : Nat := bits (v.u off 2) 0 9
def Service.qOk (v : Service) (off : Nat) : Bool := decide (v.u off 2 < 384)
/-- FINAL and the data bytes of a stream command (R362). -/
def Service.fin (v : Service) : Bool := v.pay.testBit 32
def Service.data (v : Service) : List Byte := v.str 8 (v.len - 8)
/-- The frame that asks for the next tick. -/
def nextTickFrame : Nat := 2 ^ 48 - 1

/-! ## LEN (R347, R360) -/

/-- Body of a life-cycle transition (Table LCS-5): `some true` signed, `some false` empty, `none` for a pair not listed. The
states are positions. -/
def lcBody (frm dst : Nat) : Option Bool :=
  match frm, dst with
  | 1, 2 => some true
  | 2, 3 => some true
  | 3, 4 => some true
  | 2, 7 => some true
  | 3, 7 => some true
  | 4, 5 => some false
  | 4, 7 => some false
  | 5, 7 => some true
  | 3, 6 => some true
  | 4, 6 => some true
  | 5, 6 => some true
  | _, _ => none

/-- Position of a state code (R416); 0 for a byte that is no state code. -/
def lcPos (code : Nat) : Nat := ((List.range 8).find? (fun p => p ≠ 0 && lcCode p = code)).getD 0

/-- The opcodes with their least and greatest LEN. -/
def opTable : List (Nat × Nat × Nat) := [
  (0x0101, 0, 0), (0x0102, 0, 0),
  (0x0201, 12, 12), (0x0202, 9, 248), (0x0203, 0, 0), (0x0204, 0, 0), (0x0205, 1, 1), (0x0206, 0, 0), (0x0207, 1, 1),
  (0x0301, 52, 52), (0x0302, 8, 8), (0x0303, 0, 0),
  (0x0401, 9, 9), (0x0402, 1, 1),
  (0x0501, 32, 32), (0x0502, 10, 10), (0x0503, 4, 4), (0x0504, 8, 8), (0x0505, 16, 248),
  (0x0601, 8, 8), (0x0602, 16, 16), (0x0603, 8, 8),
  (0x0701, 10, 10), (0x0702, 12, 12), (0x0703, 14, 14), (0x0704, 9, 9), (0x0705, 9, 9), (0x0706, 16, 16), (0x0707, 4, 4),
  (0x0801, 4, 4), (0x0802, 8, 8), (0x0803, 0, 0), (0x0804, 2, 2), (0x0805, 1, 1), (0x0806, 2, 2), (0x0807, 1, 1),
  (0x0808, 0, 0), (0x0810, 12, 248), (0x0811, 4, 4), (0x0812, 0, 0),
  (0x0901, 0, 0), (0x0902, 4, 220), (0x0903, 2, 2), (0x0904, 2, 2), (0x0905, 48, 48), (0x0906, 44, 44), (0x0907, 0, 0),
  (0x0908, 152, 152),
  (0x0A01, 4, 4), (0x0A02, 4, 4), (0x0A03, 8, 8), (0x0A04, 12, 12), (0x0A05, 0, 0),
  (0x0B01, 1, 1), (0x0B02, 9, 248), (0x0B03, 0, 0), (0x0B04, 1, 1), (0x0B05, 4, 4), (0x0B06, 0, 0),
  (0x0C01, 2, 2), (0x0C02, 0, 0),
  (0x0D01, 1, 1), (0x0D02, 9, 248), (0x0D03, 0, 0), (0x0D04, 9, 9)]

/-- Is the opcode defined? -/
def opDefined (op : Nat) : Bool := opTable.any (fun e => e.1 = op)

/-- Is LEN one that the opcode admits? 0x0902 takes 4 or 220 by the unit's state `lc` and TARGET (R425). -/
def lenOk (lc : Nat) (v : Service) : Bool :=
  opTable.all (fun (op, lo, hi) => op ≠ v.op || decide (lo ≤ v.len ∧ v.len ≤ hi)) &&
  (v.op ≠ 0x0902 ||
    match lcBody lc (lcPos (v.u 0 1)) with
    | some true => v.len = 220
    | some false => v.len = 4
    | none => v.len = 4 || v.len = 220)

/-! ## BAD_ARG under R10 -/

/-- Reserved bits of a schedule table's CTRL and REQ_TGT words, and reserved encodings of N_STEPS (Tables CTX-6, CTX-7). -/
def schedWordsOk (ctrl tgt : Nat) : Bool :=
  decide (bits ctrl 0 5 ≤ 16) && bits ctrl 5 3 = 0 && bits ctrl 9 7 = 0 && bits ctrl 25 7 = 0 && bits tgt 27 5 = 0

/-- Reserved fields and encodings of a descriptor (Tables MEM-11, MEM-12). -/
def descWordsOk (d : Nat) : Bool :=
  decide (dMode d ≤ 5 ∧ dSrc d ≤ 2 ∧ dOvf d ≤ 2) && bits d 3 1 = 0 && bits d 10 2 = 0 && bits d 23 1 = 0 && bits d 31 1 = 0
    && bits d 51 13 = 0 && bits d 83 13 = 0 && bits d 144 16 = 0

/-- May a word be written whole to a register with these fields: reserved bits 0, no reserved encoding (R10)? -/
def wordOk (fs : List Fld) (x : Nat) : Bool :=
  fs.all (fun f => f.acc ≠ .rw || !f.reservedVal (x.testBit 0) (bits x f.lo f.w)) &&
    (fs.foldl (fun y f => setBits y f.lo f.w 0) x = 0)

/-- The header of a stream command: reserved bits of FLAGS and bytes 5 to 7 (R362). -/
def Service.streamOk (v : Service) : Bool := v.u 4 4 ≤ 1

/-- Does the value `x` keep the reserved bits and encodings of the register at address `a` (R10)? The memory window has none. -/
def regWordOk (a x : Nat) : Bool :=
  match blockOf a with
  | .mem _ => true
  | _ => match regFields a with
    | some fs => wordOk fs x
    | none => true

/-- Does the payload keep reserved bits at 0 and every field in its range (R10, R365)? -/
def argOk (v : Service) : Bool :=
  let z (off n : Nat) : Bool := v.u off n = 0
  let tgt : Bool := v.tgtOk 0
  match v.op with
  | 0x0201 =>
    let src := v.u 0 1
    let kind := v.u 2 1
    let rel := v.u 3 1
    (src = 0 || src = 1 || src = 2 || src = 4) && decide (v.u 1 1 ≤ 3) && (src = 0 || v.u 1 1 = 0) && (kind = 1 || kind = 2)
      && decide (rel ≤ 2) && (kind = 2 || rel = 0) && z 10 2 && (rel = 1 || v.tgt 4 = nextTickFrame)
  | 0x0202 => v.streamOk
  | 0x0207 => decide (1 ≤ v.u 0 1 ∧ v.u 0 1 ≤ 6)
  | 0x0301 => schedWordsOk (v.u 12 4) (v.u 16 4)
  | 0x0302 => tgt
  | 0x0401 => tgt && decide (v.u 8 1 < 96)
  | 0x0402 => decide (v.u 0 1 < 96)
  | 0x0501 => tgt && v.qOk 8 && z 10 2 && descWordsOk (v.u 12 20)
  | 0x0502 => tgt && v.qOk 8
  | 0x0503 => v.qOk 0 && decide (v.u 2 1 < 8) && z 3 1
  | 0x0504 => v.qOk 0 && decide (1 ≤ v.u 2 2 ∧ v.u 2 2 ≤ 30)
  | 0x0505 => v.qOk 0 && decide (1 ≤ v.u 2 2 ∧ v.len = 8 + 8 * v.u 2 2)
  | 0x0601 => decide (v.u 4 1 ≤ 1) && z 5 3
  | 0x0602 => decide (v.u 4 1 ≤ 1) && z 5 3 && regWordOk (v.u 0 4) (v.u 8 4)
  | 0x0603 => decide (v.u 0 1 < 8 ∧ v.u 1 1 < 6) && z 2 2 && z 7 1 && wordOk ((nrFields 4).getD []) (v.u 4 2)
  | 0x0701 => tgt && decide (8 ≤ v.u 8 2 ∧ v.u 8 2 ≤ 4096)
  | 0x0702 => tgt && wordOk ((ckFields 0x800).getD []) (v.u 8 4)
  | 0x0703 => tgt
  | 0x0704 => tgt && decide (1 ≤ v.u 8 1 ∧ v.u 8 1 ≤ 96)
  | 0x0705 => tgt && decide (v.u 8 1 ≤ 2)
  | 0x0706 => tgt && clockWritable (v.u 8 4) && wordOk ((ckFields (v.u 8 4)).getD []) (v.u 12 4)
  | 0x0707 => decide (signed (v.u 0 2) 16 < signed (v.u 2 2) 16)
  | 0x0801 => decide (v.u 0 2 ≤ 1 ∧ v.u 2 2 < 4096)
  | 0x0802 => decide (v.u 0 4 ≤ 1)
  | 0x0806 => decide (v.u 0 1 ≤ 3 ∧ v.u 1 1 ≤ 3)
  | 0x0810 => decide (v.u 0 2 < 4096) && z 2 2 && decide (v.u 6 2 + 12 = v.len) && !decide (0x0806 ≤ v.u 4 2 ∧ v.u 4 2 ≤ 0x0812)
  | 0x0811 => decide (v.u 0 1 < 32 ∧ v.u 1 1 ≤ 1)
  | 0x0902 => z 1 3 && lcPos (v.u 0 1) ≠ 0
  | 0x0903 => decide (v.u 0 2 < 32)
  | 0x0904 => decide (1 ≤ v.u 0 1 ∧ v.u 0 1 ≤ 64) && z 1 1
  | 0x0906 => v.u 0 4 = 1
  | 0x0A01 => decide (v.u 0 2 ≤ 2 ∧ v.u 2 2 < [2304, 768, 8].getD (v.u 0 1) 0)
  | 0x0A02 => decide (v.u 0 2 ≤ 2 ∧ v.u 2 2 < [2304, 768, 8].getD (v.u 0 1) 0)
  | 0x0A04 => tgt && !z 8 4
  | 0x0B01 => decide (v.u 0 1 ≤ 3)
  | 0x0B02 => v.streamOk
  | 0x0B04 => decide (v.u 0 1 ≤ 3) || v.u 0 1 = 0x10 || v.u 0 1 = 0x11
  | 0x0B05 => decide (v.u 0 1 ≤ 3 ∧ v.u 1 1 ≤ 3)
  | 0x0D01 => decide (v.u 0 1 ≤ 1)
  | 0x0D02 => v.streamOk
  | 0x0D04 => tgt && decide (v.u 8 1 ≤ 1)
  | _ => true

end Sys2Proof.Machine
end

