-- ==== Sys2Proof/Machine/Headland.lean ====
section
/-! DEFINITION. Headland (spec/11, spec/12 R360 to R369): the choice of the next request and its checks, the end of a
service, job slices with event posting and the fault log, restarts. -/

namespace Sys2Proof.Machine

/-! ## Who may send what (R367, R368, Tables CMD-2, CMD-3) -/

/-- Is region `r` one of those of mailbox `m`: its region or the stacked-pair partner (R367)? -/
def State.ownRegion (s : State) (m r : Nat) : Bool :=
  match s.mboxRegion m with
  | some k => r = k || r = partner k
  | none => false

/-- Table CMD-2, column MB2 to MB5. 0x0302 names the regions whose tables the mailbox has staged. -/
def State.regionAllowed (s : State) (v : Service) : Bool :=
  match v.op / 256 with
  | 1 => true
  | 2 => v.op = 0x0204 || v.op = 0x0206
  | 3 => (v.op ≠ 0x0301 || v.rmask.all (s.ownRegion v.mb))
      && (v.op ≠ 0x0302 || (s.mbox v.mb).staged.all (fun x => s.ownRegion v.mb x.1))
  | 4 => s.ownRegion v.mb (if v.op = 0x0401 then v.u 8 1 else v.u 0 1)
  | 5 => s.ownRegion v.mb (queueRegion (v.q (if v.op = 0x0501 || v.op = 0x0502 then 8 else 0)))
  | _ => v.op = 0x0901 || v.op = 0x0B04 || v.op = 0x0C01

/-- Is the request the wake that any mailbox may send in SLEEP and DEEP_SLEEP (R369, R465; DEDUCED log 168)? -/
def State.wakes (s : State) (v : Service) : Bool := s.mode ≠ 0 && v.op = 0x0705 && v.u 8 1 = 0

/-- Table CMD-2. -/
def State.mbAllowed (s : State) (v : Service) : Bool :=
  s.wakes v ||
  match v.mb with
  | 0 => true
  | 6 => true
  | 1 => !decide (0x0806 ≤ v.op ∧ v.op ≤ 0x0812) && !decide (0x0907 ≤ v.op ∧ v.op ≤ 0x0908)
  | 7 =>
    v.op / 256 = 1 || v.op / 256 = 0x0A || v.op = 0x0204 || v.op = 0x0402 || v.op = 0x0601 || v.op = 0x0901 || v.op = 0x0C01
  | _ => s.regionAllowed v

/-- Table CMD-3. -/
def State.lcAllowed (s : State) (v : Service) : Bool :=
  let fam := v.op / 256
  match s.lc with
  | 3 => true
  | 4 => true
  | 5 => v.op ≠ 0x0905 && v.op ≠ 0x0906
  | 6 =>
    fam = 1 || fam = 2 || v.op = 0x0901 || v.op = 0x0907 || v.op = 0x0908 || v.op = 0x0B04 || v.op = 0x0C01
  | 7 => v.op = 0x0101 || v.op = 0x0901
  | _ => fam = 1 || v.op = 0x0901 || v.mb = 6

/-! ## Preconditions that a power mode or a full load sets (R261, R369) -/

/-- Is the command refused with POWER_MODE (R369)? -/
def State.modeRefuses (s : State) (v : Service) : Bool :=
  let fam := v.op / 256
  s.mode ≠ 0 &&
    (v.op = 0x0201 || fam = 3 || fam = 4 || fam = 5 || v.op = 0x0603 || (decide (0x0701 ≤ v.op) && decide (v.op ≤ 0x0704))
      || ((v.op = 0x0601 || v.op = 0x0602) &&
        match blockOf (v.u 0 4) with
        | .qc _ _ => true
        | .mem _ => true
        | .router _ _ => s.mode = 2
        | _ => false))

/-- Does a full load run (R261)? -/
def State.fullLoading (s : State) : Bool := s.ld.phase ≠ .idle && s.ld.kind = 1

/-- The first refusal of a request, by status and detail, before the preconditions of its own command (R347); `extra` is
header bytes 6 and 7. -/
def State.refusal (s : State) (v : Service) (extra : Nat) : Option (Nat × Nat) :=
  let fam := v.op / 256
  if 248 < v.len || !lenOk s.lc v then some (stBAD_LENGTH, 0)
  else if !opDefined v.op then some (stBAD_OPCODE, 0)
  else if !s.mbAllowed v || !s.lcAllowed v then some (stDENIED, 0)
  else if extra ≠ 0 || !argOk v then some (stBAD_ARG, 0)
  else if s.modeRefuses v then some (stNOT_READY, dPOWER_MODE)
  else if s.fullLoading && (fam = 3 || fam = 4 || fam = 5) then some (stNOT_READY, 0)
  else none

/-! ## Service order (R348) -/

def State.waits (s : State) (m : Nat) : Bool := (s.mbox m).st = .waiting

/-- The aged request with the oldest ring. -/
def State.oldestAged (s : State) : Option Nat :=
  ((List.range 8).filter (fun m => s.waits m && (s.mbox m).aged)).foldl (fun best m =>
    match best with
    | none => some m
    | some b => if (s.mbox m).ringNo < (s.mbox b).ringNo then some m else some b) none

/-- The mailbox served next. -/
def State.nextRequest (s : State) : Option Nat :=
  match s.oldestAged with
  | some m => some m
  | none =>
    let turn := (List.range 4).map (fun i => 2 + (s.hl.rr - 2 + 1 + i) % 4)
    (([6, 0, 1] ++ turn ++ [7] : List Nat)).find? s.waits

/-- The request in a window (R345). -/
def State.readRequest (s : State) (m : Nat) : Service :=
  let x := (s.mbox m).req.toNat
  let len := fieldAt x 2 2
  { mb := m, op := fieldAt x 0 2, len := len, tag := fieldAt x 4 2, pay := bits x 64 (8 * min len 248) }

/-- SERVICE_START: the request is copied and checked (R347, R348). -/
def State.serviceStart (s : State) : State :=
  if !s.hl.up || s.hl.halted || s.hl.serving.isSome || s.hl.slice then s
  else match s.nextRequest with
    | none => s
    | some m =>
      let v := s.readRequest m
      let refused := s.refusal v (fieldAt (s.mbox m).req.toNat 6 2)
      let s := s.setMbox m { s.mbox m with st := .serving, aged := false }
      let rr := if 2 ≤ m ∧ m ≤ 5 then m else s.hl.rr
      let s := { s with hl := { s.hl with serving := some v, rr := rr } }
      match refused with
      | some (st, d) => s.err v st d
      | none => s

def execServiceStart (s : State) : Host.Outcome State Fault Refusal := .next s.serviceStart

/-- A request command does its work on the request in service, when that is its own. -/
def State.request (s : State) (op : Nat) (f : Service → State → State) : State :=
  match s.hl.serving with
  | some v => if v.op = op && !s.hl.halted then f v s else s
  | none => s

/-- SERVICE_TIMEOUT (R349): nothing is applied. -/
def State.serviceTimeout (s : State) : State :=
  match s.hl.serving with
  | some v => s.err v stTIMEOUT 0
  | none => s

def execServiceTimeout (s : State) : Host.Outcome State Fault Refusal := .next s.serviceTimeout

/-! ## Job slices (R350, R352 to R354, R519) -/

/-- Post a latched event and log it. -/
def State.postLatch (s : State) (l : Latch) : State :=
  let data := if l.hw then setBits l.data 160 32 (min l.merged (2 ^ 32 - 1)) else l.data
  let s := s.postGeneral l.code (eventLen l) data
  s.logEntry 1 l.code (if l.code = 0x0B then data % 65536 else 0) data

/-- Post a directed event; an EV_LOAD_DONE with a status other than OK is logged. -/
def State.postDirected (s : State) (d : Directed) : State :=
  let s := s.postTo d.mb d.code (eventLen ⟨d.code, 0, d.data, 0⟩) d.tag d.data
  if d.bad then s.logEntry 1 d.code d.detail d.data else s

/-- Is the last swap cycle of a commanded change over (R141)? -/
def State.reportDone (s : State) (p : SwapReport) : Bool :=
  !(List.range 96).any (fun r => s.swapPending r && decide ((s.region r).change = some p.id))
    && decide (p.swaps = 0 ∨ p.cyc < s.tick.cyc)

/-- EV_SWAP_DONE of finished commanded changes (R141, Table CMD-15). -/
def State.finishReports (s : State) : State :=
  let fin := s.hl.reports.filter s.reportDone
  let s := { s with hl := { s.hl with reports := s.hl.reports.filter (fun p => !s.reportDone p) } }
  fin.foldl (fun t p => t.direct { mb := p.mb, tag := p.tag, code := 2, data := packLE [(p.target, 6), (p.last, 2), (p.swaps, 1)] }) s

/-- JOB_SLICE: everything that awaits posting is posted, general events first. -/
def State.jobSlice (s : State) : State :=
  if !s.hl.up || s.hl.halted || s.hl.serving.isSome then s
  else
    let s := s.finishReports
    let latches := s.hl.latches
    let directed := s.hl.directed
    let s := { s with hl := { s.hl with latches := [], directed := [], slice := false } }
    directed.foldl State.postDirected (latches.foldl State.postLatch s)

def execJobSlice (s : State) : Host.Outcome State Fault Refusal := .next s.jobSlice

/-! ## Restart (R355 to R359) -/

/-- The load that runs ends with INTERNAL; an interrupted boot load is started again when Headland is up (R356). -/
def State.abandonLoad (s : State) : State :=
  if s.ld.phase = .idle then s
  else
    let s := if s.ld.boot then { s with bt := { s.bt with n := s.bt.n - 1 } } else s
    let s := s.setLd { s.ld with boot := false }
    s.failLoad { status := stINTERNAL, detail := 1 }

/-- Restart cause 1 lockstep, 2 watchdog, 3 activation (R355, R356, Table HDL-7). -/
def State.restart (s : State) (cause : Nat) : State :=
  let s := match s.hl.serving with
    | some v => s.respondMb v.mb v.op v.tag stINTERNAL (bytesLE 1 4)
    | none => s
  let hl := { s.hl with serving := none, up := false, restarting := true, halted := false, cause := cause, count := s.hl.count + 1, slice := false }
  let s := { s with hl := hl, reqs := s.reqs.filter (fun p => p.node ≠ 3) }
  let s := forAll 8 (fun m t => t.setMbox m { t.mbox m with staged := [] }) s
  let s := s.abandonLoad
  let s := s.setStore { s.store with img := {}, fw := {}, sealing := none }
  let b := s.chain.bcast
  s.setChain { s.chain with bcast := if b.st = 1 then { b with st := 2 } else b, fwd := [] }

/-- LOCKSTEP_MISMATCH (R355): during a restart it starts the restart again. -/
def execLockstepMismatch (s : State) : Host.Outcome State Fault Refusal :=
  .next (if s.hl.up || s.hl.restarting then s.restart 1 else s)

/-- WATCHDOG_EXPIRY (R355): the watchdog runs only while HL_UP = 1. -/
def execWatchdogExpiry (s : State) : Host.Outcome State Fault Refusal := .next (if s.hl.up then s.restart 2 else s)

/-- Does the boot ROM verify firmware slot `k` (R359, R436)? -/
def State.fwOk (s : State) (k : Nat) : Bool :=
  let b := (s.slot (0x10 + k)).bytes
  Config.firmwareVerifies b && decide (s.fwFloor ≤ Config.firmwareRollback b)

/-- Data of EV_HEADLAND_RESTART (R357). -/
def State.restartData (s : State) : Nat :=
  let lost := (s.hl.discarded.take 8).map (fun (m, t) => (m + t % 256 * 256, 2))
  packLE ([(s.hl.cause, 1), (s.hl.run, 1), (s.hl.nDiscarded, 2), (s.hl.count, 4)] ++ lost
    ++ List.replicate (8 - lost.length) (0xFFFF, 2))

/-- Headland runs firmware slot `k` and resumes. -/
def State.resume (s : State) (k : Nat) : State :=
  let s := { s with hl := { s.hl with up := true, restarting := false, run := k, newFw := decide (k = s.hl.sel) } }
  let data := s.restartData
  let s := forAll 8 (fun m t => if t.hasRequester m then t.postTo m 0x0D 24 0xFFFF data else t) s
  let s := s.logEntry 1 0x0D 0 data
  let s := { s with hl := { s.hl with discarded := [], nDiscarded := 0 } }
  let s := if k = s.hl.sel || s.scrapped then s else s.fault 0x0111 s.hl.sel
  let s := s.selfReport 6 0
  s.bootResume

/-- RESTART_DONE: the selected slot, or else the other one, runs; with neither, Headland stays halted (R359). In SCRAPPED it
runs from the boot ROM alone (R433). -/
def State.restartDone (s : State) : State :=
  if !s.hl.restarting then s
  else if s.scrapped then s.resume s.hl.run
  else if s.fwOk s.hl.sel then s.resume s.hl.sel
  else if s.fwOk (1 - s.hl.sel) then s.resume (1 - s.hl.sel)
  else { s with hl := { s.hl with restarting := false } }

def execRestartDone (s : State) : Host.Outcome State Fault Refusal := .next s.restartDone

end Sys2Proof.Machine
end

