-- ==== Sys2Proof/Machine/ReqLoad.lean ====
section
/-! DEFINITION. Requests of families 0x01xx and 0x02xx (spec/12 R370, R371, spec/08 R254, R261, R266, spec/09 R279). -/

namespace Sys2Proof.Machine

/-- A response payload from (value, bytes) pairs. -/
def body (l : List (Nat × Nat)) : List Byte := bytesLE (packLE l) (l.map (·.2)).sum

/-! ## 0x01xx -/

/-- IDENTIFY: LC_STATE is the state that LC_READ reports. -/
def State.identify (v : Service) (s : State) : State :=
  s.ok v (s.unitBytes ++ body [(0x000B5049, 4), (if Config.grade3 then 3 else 2, 1), (lcCode s.lcBurnt, 1), (s.hl.run, 1), (0, 1),
    ((Config.fwVersion (s.slot (0x10 + s.hl.run)).bytes).toNat, 4), (Config.romVersion.toNat, 4)])

def execIdentify (s : State) : Host.Outcome State Fault Refusal := .next (s.request 0x0101 State.identify)

/-- FLAGS of STATUS (Table CMD-4). -/
def State.statusFlags (s : State) : Nat :=
  (!s.run.configured).toNat + s.beached.toNat * 2 + s.locked.toNat * 4 + (s.bit (CK 0x80C) 1).toNat * 8
    + (s.bit (CK 0x80C) 2).toNat * 16 + (decide (s.ld.phase ≠ .idle)).toNat * 32 + s.isHead.toNat * 64

/-- STATUS. -/
def State.status (v : Service) (s : State) : State :=
  s.ok v (body [(s.frameNo, 6), (0, 2), (s.genLoaded, 4), (s.genAnn, 4), (s.zaddr, 2), (s.statusFlags, 2), (s.seqReport.1, 1), (s.mode, 1),
    (s.fld (CK 0x208) 0 16, 2), (0, 8)])

def execStatus (s : State) : Host.Outcome State Fault Refusal := .next (s.request 0x0102 State.status)

/-! ## 0x02xx -/

/-- Does the start-up sequencer still run? -/
def State.sequencing (s : State) : Bool := s.sq.on && decide (s.sq.slot < 6)

/-- The refusal of a LOAD_START, or the release target (R261, R289, R462). -/
def State.loadRefusal (s : State) (v : Service) : Except (Nat × Nat) Nat :=
  let src := v.u 0 1
  if s.ld.phase ≠ .idle || s.powerPending then .error (stBUSY, 0)
  else if v.u 2 1 = 2 && s.sequencing then .error (stNOT_READY, 0)
  else if src = 0 && (s.slot (v.u 1 1)).st ≠ 2 then .error (stNOT_READY, dEMPTY_SLOT)
  else if v.u 3 1 = 1 then
    match s.target (v.tgt 4) with
    | some f => .ok f
    | none => .error (stSTALE, 0)
  else .ok 0

/-- LOAD_START. A stream from MB0 that the boot procedure waits for is its boot load (Table CFG-10); any other full load
ends a boot procedure that waits (DEDUCED log 47). -/
def State.loadStart (v : Service) (s : State) : State :=
  match s.loadRefusal v with
  | .error (st, d) => s.err v st d
  | .ok f =>
    let src := v.u 0 1
    let kind := v.u 2 1
    let s :=
      if v.mb = 0 && src = 4 && kind = 1 && s.bt.on && s.bt.source = 4 then
        let t := s.beginBoot
        t.setLd { t.ld with tag := v.tag }
      else
        let t := if kind = 1 then { s with bt := { s.bt with on := false } } else s
        t.beginLoad src (if src = 0 then v.u 1 1 else 0xFF) kind (v.u 3 1) f v.mb v.tag false
    s.ok v []

def execLoadStart (s : State) : Host.Outcome State Fault Refusal := .next (s.request 0x0201 State.loadStart)

/-- LOAD_DATA (R254, R279, R362): FINAL has no meaning for a load, whose header gives its length. -/
def State.loadData (v : Service) (s : State) : State :=
  let mine := s.ld.phase ≠ .idle && s.ld.source = 4 && s.ld.mb = v.mb
  if mine && s.ld.stalled then s.err v stBUSY 0
  else if !mine || !s.ld.wants then s.err v stNOT_READY dNO_STREAM
  else if v.u 0 4 ≠ s.ld.took then s.err v stBAD_ARG 0
  else (s.feed v.data).ok v []

def execLoadData (s : State) : Host.Outcome State Fault Refusal := .next (s.request 0x0202 State.loadData)

/-- LOAD_ABORT: by the starter, MB0 or MB6 (R371). -/
def State.loadAbort (v : Service) (s : State) : State :=
  if s.ld.phase = .idle then s.err v stNOT_READY 0
  else if v.mb ≠ s.ld.mb ∧ v.mb ≠ 0 ∧ v.mb ≠ 6 then s.err v stDENIED 0
  else (s.failLoad { status := stCONFLICT, detail := dABORTED }).ok v []

def execLoadAbort (s : State) : Host.Outcome State Fault Refusal := .next (s.request 0x0203 State.loadAbort)

/-- LOAD_REPORT (Table CFG-16). -/
def State.readReport (v : Service) (s : State) : State := s.ok v (bytesLE s.ld.report.toNat 24)
def execLoadReport (s : State) : Host.Outcome State Fault Refusal := .next (s.request 0x0204 State.readReport)

/-- LOAD_GROUP. -/
def State.loadGroup (v : Service) (s : State) : State :=
  if s.ld.phase ≠ .idle then s.err v stBUSY 0 else (s.setLd { s.ld with grp := v.u 0 1 }).ok v []

def execLoadGroup (s : State) : Host.Outcome State Fault Refusal := .next (s.request 0x0205 State.loadGroup)

/-- SEQ_STATUS. -/
def State.seqStatus (v : Service) (s : State) : State :=
  let (slot, step, st) := s.seqReport
  s.ok v (body [(slot, 1), (step, 1), (st, 1), (0, 1), (if s.sq.released then s.sq.frames else 0, 4)])

def execSeqStatus (s : State) : Host.Outcome State Fault Refusal := .next (s.request 0x0206 State.seqStatus)

/-- SEQ_COMPLETE (R266): the step completes at the next tick edge. -/
def State.declareStep (v : Service) (s : State) : State :=
  if s.sequencing && s.sq.released && s.sq.step = v.u 0 1 then (s.setSq { s.sq with declared := true }).ok v []
  else s.err v stNOT_READY dNO_WAIT

def execSeqComplete (s : State) : Host.Outcome State Fault Refusal := .next (s.request 0x0207 State.declareStep)

end Sys2Proof.Machine
end

