-- ==== Sys2Proof/Machine/ReqContext.lean ====
section
/-! DEFINITION. Requests of families 0x03xx and 0x04xx (spec/12 R372, R373, spec/05 R139, R140, spec/09 R290, R294). -/

namespace Sys2Proof.Machine

/-! ## 0x03xx -/

/-- SCHED_STAGE: one table for every region that RMASK names. -/
def State.schedStage (v : Service) (s : State) : State :=
  let t : List Word := (List.range 10).map (fun i => BitVec.ofNat 32 (v.u (12 + 4 * i) 4))
  let b := s.mbox v.mb
  let staged := v.rmask.foldl (fun m r => mput (fun _ => ([] : List Word)) m r t) b.staged
  (s.setMbox v.mb { b with staged }).ok v []

def execSchedStage (s : State) : Host.Outcome State Fault Refusal := .next (s.request 0x0301 State.schedStage)

/-- Swap slots that a plan takes at edge `t`. -/
def planUse (tbl : Nat → List Word) (plan : List PlanReg) (t : Nat) : Nat :=
  (plan.map (fun p => if p.shifts.any (fun (j, h) => nominal (tableSteps (tbl p.r)) j + h = t) then p.size else 0)).sum

/-- Does the plan defer a swap that is due at edge `t`, so that nothing behind it is granted there (R147)? -/
def planDefers (tbl : Nat → List Word) (plan : List PlanReg) (t : Nat) : Bool :=
  plan.any (fun p => (p.shifts.zip (0 :: p.shifts.map (·.2))).any (fun ((j, h), was) =>
    let st := nominal (tableSteps (tbl p.r)) j
    decide (st + was ≤ t ∧ t < st + h)))

/-- Swap slots that a plan leaves at edge `t` to candidates that come after it (R139, R147). -/
def planFree (tbl : Nat → List Word) (plan : List PlanReg) (w t : Nat) : Nat :=
  if planDefers tbl plan t then 0 else w - planUse tbl plan t

/-- Edges at which commanded swaps outside the plan are granted, in region order, from edge `t` on, where it leaves `free`
slots (R139). -/
def grantExtras (free : Nat → Nat) : Nat → Nat → List (Nat × Nat) → List (Nat × Nat)
  | 0, _, _ => []
  | n + 1, t, l =>
    let g := fit (·.2) (free t) l
    g.map (fun x => (x.1, t)) ++ grantExtras free n (t + 1) (l.drop g.length)

/-- May the step 0 of region `r` swap at the target tick though it is no candidate of the new plan (R139)? A region whose
schedule does not run (`run`) is in the context of step 0 (R133), unless the release comes first: either counts (DEDUCED
log 154). -/
def extraSwap (run : Bool) (old new : Nat → List Word) (r : Nat) : Bool :=
  let o := tableSteps (old r)
  let c := ((tableSteps (new r)).headD (0, 0)).1
  !(candidates (new r)).any (fun x => x.1 = 0)
    && (tableReq (old r) || (o.getLastD (0, 0)).1 ≠ c || (!run && (o.headD (0, 0)).1 ≠ c))

/-- Do the commanded swaps of the target frame keep R47 (R139, R140)? -/
def extrasKeep (P w : Nat) (run : Nat → Bool) (old new : Nat → List Word) (named : List Nat) (coupled : Nat → Bool) : Bool :=
  let plan := wavePlan P w new coupled
  let lead := (List.range 96).filter (fun r => (r < 48 || !coupled (r - 48)) && extraSwap (run r) old new r
    && (named.contains r || (coupled r && named.contains (partner r))))
  let ex := grantExtras (planFree new plan w) P 0 (lead.map (fun r => (r, if r < 48 && coupled r then 2 else 1)))
  ex.length = lead.length && ex.all (fun (r, x) =>
    let st := tableSteps (new r)
    match st.length with
    | 0 => decide (x + 2 ≤ P)
    | n + 1 => decide (nominal st (n + 1) + planShift plan coupled r n + x ≤ P))

/-- Does a change name region `r` with a new table? -/
def Change.names (c : Change) (r : Nat) : Bool := match c with
  | .sched t => t.any (fun x => x.1 = r)
  | _ => false

/-- Does an accepted commanded change name region `r`? -/
def State.changeNames (s : State) (r : Nat) : Bool := s.anyChange (·.names r)

/-- The changes of `go`, which commit at one tick after those of `l`: do the tables, P and W in force from there keep Table
CTX-3 and R47, the commanded swaps of that frame included (R48, R139, R140, R151)? -/
def State.commitKeeps (s : State) (l go : List Accepted) : Bool :=
  let k := s.confNow
  let named := (List.range 96).filter (fun r => go.any (fun a => a.what.names r))
  s.releases.all (fun free =>
    let a := s.planAfter free l
    let b := s.planAfter free (l ++ go)
    (k.schedule (named ++ (named.map partner).filter k.isCoupled) b.table b.p b.w).isNone
      && extrasKeep b.p b.w s.schedRun a.table b.table named k.isCoupled)

/-- Would the change `what` keep R47 and Table CTX-3 at the tick of its target frame `f` and at every later tick at which an
accepted change commits (R48, R140, R151, DEDUCED log 31)? -/
def State.changeKeeps (s : State) (f : Nat) (what : Change) : Bool :=
  let t := s.accept f 0 0 what
  let l := t.commitsAhead
  (List.range l.length).all (fun n =>
    !(l.take (n + 1)).flatten.any (fun a => a.target = f && a.what = what) || t.commitKeeps (l.take n).flatten (l.getD n []))

/-- The frame that a TGT names, whether or not Headland accepts it: the next tick where it is refused STALE. -/
def State.targetNear (s : State) (f : Nat) : Nat := (s.target f).getD s.nextTarget

/-- SCHED_COMMIT (R139, R140, R372). -/
def State.schedCommit (v : Service) (s : State) : State :=
  let b := s.mbox v.mb
  let l := b.staged
  if l.isEmpty then s.err v stNOT_READY dNOTHING_STAGED
  else if l.any (fun x => (s.region x.1).held) then s.err v stNOT_READY 0
  else if l.any (fun x => s.changeNames x.1) then s.err v stBUSY 0
  else if !s.changeKeeps (s.targetNear (v.tgt 0)) (.sched l) then s.err v stCHECK_FAIL dSCHEDULE
  else match s.target (v.tgt 0) with
    | none => s.err v stSTALE 0
    | some f => ((s.accept f v.mb v.tag (.sched l)).setMbox v.mb { b with staged := [] }).ok v []

def execSchedCommit (s : State) : Host.Outcome State Fault Refusal := .next (s.request 0x0302 State.schedCommit)

/-- SCHED_DISCARD. -/
def State.schedDiscard (v : Service) (s : State) : State := (s.setMbox v.mb { s.mbox v.mb with staged := [] }).ok v []
def execSchedDiscard (s : State) : Host.Outcome State Fault Refusal := .next (s.request 0x0303 State.schedDiscard)

/-! ## 0x04xx -/

/-- Are the contexts that region `r` would run, and those of its schedule, loaded (R290)? -/
def State.releaseOk (s : State) (r : Nat) : Bool :=
  let st := tableSteps (s.releaseTable r)
  s.loaded r (st.headD (0, 0)).1 && st.all (fun x => s.loaded r x.1)

/-- Has the load that holds region `r` committed, or is it held by contention or a failed load (R290)? -/
def State.releasable (s : State) (r : Nat) : Bool :=
  let x := s.region r
  x.held && (x.committed || x.cause = 3 || x.cause = 4) && !s.run.hold

/-- Regions that one release frees: those of the same load that no newer load holds, the partner of one held for contention or
after a failed load, and coupled partners (R289, R290). -/
def State.releaseGroup (s : State) (r : Nat) : List Nat :=
  let g := r :: (s.region r).group.filter (fun k => s.releasable k && (s.region k).group.contains r)
  let c := (s.region r).cause
  let g := if (c = 3 || c = 4) && (s.region (partner r)).cause ≠ 1 then g ++ [partner r] else g
  (List.range 96).filter (fun k => (s.region k).held && (g.contains k || (s.tied k && g.contains (partner k))))

/-- Is no region that a release of region `r` frees held by a load that has not committed (R290)? -/
def State.groupReleasable (s : State) (r : Nat) : Bool := s.releasable r && (s.releaseGroup r).all s.releasable

/-- REGION_RELEASE (R290). -/
def State.regionRelease (v : Service) (s : State) : State :=
  let r := v.u 8 1
  if !s.groupReleasable r then s.err v stNOT_READY 0
  else if !(s.releaseGroup r).all s.releaseOk then s.err v stCHECK_FAIL dSCHEDULE
  else match s.target (v.tgt 0) with
    | none => s.err v stSTALE 0
    | some f => (s.accept f v.mb v.tag (.release r)).ok v []

def execRegionRelease (s : State) : Host.Outcome State Fault Refusal := .next (s.request 0x0401 State.regionRelease)

/-- REGION_STATUS (Table CMD-7). -/
def State.regionStatus (v : Service) (s : State) : State :=
  let r := v.u 0 1
  let x := s.region r
  s.ok v (body [(s.active r, 1), (s.fld (RG r 0) 16 8, 1), (x.held.toNat, 1), (x.cause, 1), (x.committed.toNat, 1), (0, 3)])

def execRegionStatus (s : State) : Host.Outcome State Fault Refusal := .next (s.request 0x0402 State.regionStatus)

end Sys2Proof.Machine
end

