-- ==== Sys2Proof/Machine/ReqQueue.lean ====
section
/-! DEFINITION. Requests of families 0x05xx and 0x06xx (spec/12 R374 to R376, spec/06 R174, R176, R191, spec/07 R225 to
R228, spec/16 R487, spec/17 R501). -/

namespace Sys2Proof.Machine

/-! ## 0x05xx -/

/-- Does a partial load carry the descriptor of controller `q`, in a frame taken or one that stands in the buffer, or stage it
until release (R294)? -/
def State.loadCarries (s : State) (q : Nat) : Bool :=
  (s.ld.phase ≠ .idle && s.ld.kind = 2 && s.ld.targetRegion (queueRegion q)
      && (s.ld.carries (0x20 + q / 16)
        || (bufferedAddrs s.ld.recLen (s.ld.records - s.ld.recN) s.ld.buf).contains (0x21FC0020 + q / 16)))
    || (s.queue q).stDesc.isSome

/-- Is a change of controller `q` accepted and not yet in force? -/
def State.descPending (s : State) (q : Nat) : Bool :=
  s.anyChange (fun c => match c with
    | .qdesc k _ => k = q
    | .lutSwap k => k = q
    | _ => false)

/-- Descriptor of controller `q` with the changes accepted (log 31). -/
def State.futureDesc (s : State) (q : Nat) : Nat :=
  s.hl.changes.foldl (fun d a => match a.what with
    | .qdesc k x => if k = q then x.toNat else d
    | _ => d) (s.desc q)

/-- Does a new descriptor of `q` keep R170 to R173? -/
def State.newDescOk (s : State) (q d : Nat) : Bool :=
  descOk (ownerEntry s.globF 0x40) q d && !laneClash (fun p => if p = q then d else s.futureDesc p) q

/-- QDESC_SET (R174). -/
def State.qdescSet (v : Service) (s : State) : State :=
  let q := v.q 8
  let d := v.u 12 20
  if s.loadCarries q then s.err v stNOT_READY 0
  else if s.descPending q then s.err v stBUSY 0
  else if !s.newDescOk q d then s.err v stCHECK_FAIL dQUEUE
  else match s.target (v.tgt 0) with
    | none => s.err v stSTALE 0
    | some f => (s.accept f v.mb v.tag (.qdesc q (BitVec.ofNat 160 d))).ok v []

def execQdescSet (s : State) : Host.Outcome State Fault Refusal := .next (s.request 0x0501 State.qdescSet)

/-- LUT_SWAP (R191). -/
def State.lutSwap (v : Service) (s : State) : State :=
  let q := v.q 8
  let d := s.futureDesc q
  if s.loadCarries q then s.err v stNOT_READY 0
  else if !(dMode d = 5 && dDouble d) then s.err v stCHECK_FAIL dQUEUE
  else match s.target (v.tgt 0) with
    | none => s.err v stSTALE 0
    | some f => (s.accept f v.mb v.tag (.lutSwap q)).ok v []

def execLutSwap (s : State) : Host.Outcome State Fault Refusal := .next (s.request 0x0502 State.lutSwap)

/-- Headland's access at register offset `off` of controller `q`, which the controller executes by `f` (R229, R375): status. -/
def State.queueTrip (s : State) (q off : Nat) (write : Bool) (v : Nat) (f : State → State) : Nat × State :=
  let dst := clusterNode (q / 12)
  let x := s.headlandTrip (headlandPacket dst (QC q off) write v (s.freeTag.getD 0)) dst (fun t => ((0, 0), f t))
  (x.1.1, x.2)

/-- QUEUE_CMD. Without VMEM neither the network nor the memory tier answers (R12, R219, log 48). -/
def State.queueCmd (v : Service) (s : State) : State :=
  let q := v.q 0
  if s.loadCarries q then s.err v stNOT_READY 0
  else if s.headlandWaits (QC q 0x80) then s
  else
    let x := s.queueTrip q 0x80 true (v.u 2 1) (fun t => t.qcCmd q (v.u 2 1))
    if x.1 = 0 then x.2.ok v [] else x.2.err v x.1 0

def execQueueCmd (s : State) : Host.Outcome State Fault Refusal := .next (s.request 0x0503 State.queueCmd)

/-- The three further accesses that a word takes beside the one that writes QC_ACC_CTRL: QC_ACC_DLO, QC_ACC_DHI and one look at
QC_ACC_CTRL (DESIGN CHOICE, log 183). -/
def State.accRest (s : State) (q : Nat) (write : Bool) : State :=
  let s := (s.queueTrip q 0x94 write 0 id).2
  let s := (s.queueTrip q 0x98 write 0 id).2
  (s.queueTrip q 0x90 false 0 id).2

/-- QC_ACC_CTRL with GO for word `o`: the controller serves the access (R176). -/
def State.accGo (s : State) (q o : Nat) (write : Bool) : State :=
  (((s.setFld (QC q 0x90) 0 19 o).setBit (QC q 0x90) 24 write).setBit (QC q 0x90) 29 true).serveAccess q

/-- One word through QC_ACC_CTRL, a read: status; value, CE and UE. -/
def State.accRead (s : State) (q o : Nat) : (Nat × Nat × Bool × Bool) × State :=
  let (st, t) := s.queueTrip q 0x90 true o (fun t => t.accGo q o false)
  let t := if st = 0 then t.accRest q false else t
  ((st, t.reg (QC q 0x94) + t.reg (QC q 0x98) * 2 ^ 32, t.bit (QC q 0x90) 30, t.bit (QC q 0x90) 31), t)

/-- One word through QC_ACC_CTRL, a write: status. -/
def State.accPut (s : State) (q o x : Nat) : Nat × State :=
  let (st, t) := s.queueTrip q 0x90 true o (fun t => ((t.setReg (QC q 0x94) x).setReg (QC q 0x98) (x / 2 ^ 32)).accGo q o true)
  (st, if st = 0 then t.accRest q true else t)

/-- Read `n` words: status; values, CE mask, UE mask. -/
def State.accReads (s : State) (q o : Nat) : Nat → (Nat × List Nat × Nat × Nat) × State
  | 0 => ((0, [], 0, 0), s)
  | n + 1 =>
    let ((st, x, ce, ue), s) := s.accRead q o
    if st ≠ 0 then ((st, [], 0, 0), s)
    else
      let ((st, xs, c, u), s) := s.accReads q (o + 1) n
      ((st, x :: xs, ce.toNat + 2 * c, ue.toNat + 2 * u), s)

/-- Write words from word `o` on: status. -/
def State.accPuts (s : State) (q o : Nat) : List Nat → Nat × State
  | [] => (0, s)
  | x :: xs =>
    let (st, s) := s.accPut q o x
    if st ≠ 0 then (st, s) else s.accPuts q (o + 1) xs

/-- The refusal that QWORD_READ and QWORD_WRITE share; TIMEOUT without VMEM (R12, log 48). -/
def State.qwordRefusal (s : State) (v : Service) : Option Nat :=
  let q := v.q 0
  if s.loadCarries q || s.qMode q = 0 then some stNOT_READY
  else if s.wq q < v.u 4 4 + v.u 2 2 then some stBAD_ARG
  else if !s.routersOn then some stTIMEOUT else none

/-- QWORD_READ. -/
def State.qwordRead (v : Service) (s : State) : State :=
  match s.qwordRefusal v with
  | some st => s.err v st 0
  | none =>
    if s.headlandWaits (QC (v.q 0) 0x90) then s
    else
      let ((st, xs, ce, ue), s) := s.accReads (v.q 0) (v.u 4 4) (v.u 2 2)
      if st = 0 then s.ok v (body ([(ce, 4), (ue, 4)] ++ xs.map (fun x => (x, 8)))) else s.err v st 0

def execQwordRead (s : State) : Host.Outcome State Fault Refusal := .next (s.request 0x0504 State.qwordRead)

/-- QWORD_WRITE. -/
def State.qwordWrite (v : Service) (s : State) : State :=
  match s.qwordRefusal v with
  | some st => s.err v st 0
  | none =>
    if s.headlandWaits (QC (v.q 0) 0x90) then s
    else
      let (st, s) := s.accPuts (v.q 0) (v.u 4 4) ((List.range (v.u 2 2)).map (fun i => v.u (8 + 8 * i) 8))
      if st = 0 then s.ok v [] else s.err v st 0

def execQwordWrite (s : State) : Host.Outcome State Fault Refusal := .next (s.request 0x0505 State.qwordWrite)

/-! ## 0x06xx -/

/-- Registers that show configuration-tier cells: queue descriptors, scrub-engine settings, schedule tables (R26, R130). -/
def tierCell (a : Nat) : Bool :=
  match blockOf a with
  | .qc _ off => decide (off < 0x20) || off = 0x800
  | .rg _ off => off = 4 || off = 8 || decide (0x20 ≤ off ∧ off < 0x40)
  | _ => false

/-- Does READBACK_DISABLE refuse a read by mailbox `m` (R434; DEDUCED log 143)? -/
def State.readbackOff (s : State) (m a : Nat) : Bool := m = 6 && s.sec 0 && tierCell a

/-- CSR_READ: the status of the network response passes through. An access that meets a router in slack water waits (R227):
the request stays in service. -/
def State.csrRead (v : Service) (s : State) : State :=
  if s.readbackOff v.mb (v.u 0 4) then s.err v stDENIED 0
  else if s.headlandWaits (v.u 0 4) then s
  else
  let ((st, x), s) := s.headlandAccess (v.u 0 4) false (v.u 4 1 = 1) 0
  if st = 0 then s.ok v (bytesLE x 8) else s.err v st 0

def execCsrRead (s : State) : Host.Outcome State Fault Refusal := .next (s.request 0x0601 State.csrRead)

/-- Bits of the register at address `a` that 0x0602 may write (R376). -/
def csrMask (a : Nat) : Nat :=
  match blockOf a with
  | .router _ off =>
    if off = 0x80 ∨ off = 0x280 ∨ off = 0x200 ∨ off = 0x204 ∨ off = 0x208 ∨ off = 0x220 ∨ off = 0x224 ∨ off = 0x228 then 0xFFFFFFFF else 0
  | .zv _ off => if off = 0x30 ∨ off = 0x14 then 0xFFFFFFFF else if off = 0 then 0x3E else if off = 4 then 0x300 else 0
  | .ck off => if off = 0x80C then 0xF00 else if off = 0x824 then 8 else 0
  | .qc _ off => if off = 0x20 then 0xF0000 else 0
  | .ln _ off => if off = 0x18 ∨ off = 0x40 then 0xFFFFFFFF else 0
  | _ => 0

/-- Does a write of `x` leave the fields outside the mask as R376 asks: RW at the current value, WO and W1C at 0? -/
def State.csrKeeps (s : State) (a x : Nat) : Bool :=
  ((regFields a).getD []).all (fun f => (csrMask a).testBit f.lo ||
    match f.acc with
    | .rw => bits x f.lo f.w = s.fld a f.lo f.w
    | .ro => true
    | _ => bits x f.lo f.w = 0)

/-- Is lane `n` named by a queue descriptor or a tee (R487)? -/
def State.laneNamed (s : State) (n : Nat) : Bool :=
  s.bit (LN n 8) 0 || (List.range 384).any (fun q => descLane q (s.desc q) = some n)

/-- Headland's refusal of a write to a register: one that R376 does not list, a field beside the listed ones that changes
(R376), an active port, a lane in use (R487), a restricted probe (R501). Reserved bits have been checked before (R347). -/
def State.csrRefusal (s : State) (a x : Nat) : Option Nat :=
  if csrMask a = 0 then some stDENIED
  else if !s.csrKeeps a x then some stDENIED
  else match blockOf a with
    | .router _ off => if off = 0x280 && s.probeRestrict && x % 256 ≠ probeNode then some stDENIED else none
    | .zv p off => if off = 0 && (s.upPort = some p || s.dnPort = some p) then some stNOT_READY else none
    | .ln n off => if off = 0x18 && x % 32 ≠ 0 && s.laneNamed n then some stNOT_READY else none
    | _ => none

/-- CSR_WRITE: the memory window is no target of R376; an address without a register is answered by the access. -/
def State.csrWrite (v : Service) (s : State) : State :=
  let a := v.u 0 4
  let x := v.u 8 4
  let known := match blockOf a with
    | .mem _ => true
    | _ => (regFields a).isSome
  match (if known then s.csrRefusal a x else none) with
  | some st => s.err v st 0
  | none =>
    if s.headlandWaits a then s
    else
      let ((st, _), s) := s.headlandAccess a true (v.u 4 1 = 1) (v.u 8 8)
      if st = 0 then s.ok v [] else s.err v st 0

def execCsrWrite (s : State) : Host.Outcome State Fault Refusal := .next (s.request 0x0602 State.csrWrite)

/-- ROUTER_SET (R225 to R228): slack water runs within the service. `drained` says that 20 µs were enough to drain the router;
it has drained where no packet of the model's network holds an output of it. `d` and `len` are D and the total length. Unpowered routers answer nothing (R12, log 48). -/
def State.routerSet (drained : Bool) (d len : Nat) (v : Service) (s : State) : State :=
  let n := 8 * v.u 1 1 + v.u 0 1
  if (List.range 48).any s.slackActive then s.err v stBUSY 0
  else if !s.routersOn then s.err v stTIMEOUT 0
  else
    let s := (s.plainWrite (NR n 4) (v.u 4 2)).setFld (NR n 0xC) 0 8 (v.u 6 1)
    let s := s.slackEnter n
    let t := if drained then s.slackDrained n d else s
    if t.bit (NR n 0x10) 2 then
      let u := t.slackEnd n len
      u.ok v (bytesLE (u.reg (NR n 0x14)) 4)
    else (t.slackAbort n).err v stTIMEOUT 0

def execRouterSet (drained : Bool) (d : Fin 256) (len : Nat) (s : State) : Host.Outcome State Fault Refusal :=
  .next (s.request 0x0603 (State.routerSet drained d.val len))

end Sys2Proof.Machine
end

