-- ==== Sys2Proof/Machine/ReqClock.lean ====
section
/-! DEFINITION. Requests of family 0x07xx (spec/12 R377, spec/02 R48, R50, spec/05 R151, spec/15 R451, R453, R462, R466). -/

namespace Sys2Proof.Machine

/-- A change that carries a TGT at offset 0 is taken for its target frame, or refused STALE (R57). -/
def State.takeAt (s : State) (v : Service) (what : Change) : State :=
  match s.target (v.tgt 0) with
  | none => s.err v stSTALE 0
  | some f => (s.accept f v.mb v.tag what).ok v []

/-- TICK_P (R48). -/
def State.setP (v : Service) (s : State) : State :=
  let what := Change.tickP (v.u 8 2)
  if !s.changeKeeps (s.targetNear (v.tgt 0)) what then s.err v stCHECK_FAIL dSCHEDULE else s.takeAt v what

def execTickP (s : State) : Host.Outcome State Fault Refusal := .next (s.request 0x0701 State.setP)

/-- TICK_CTRL. -/
def State.setTickCtrl (v : Service) (s : State) : State := s.takeAt v (.tickCtrl (v.u 8 4))
def execTickCtrl (s : State) : Host.Outcome State Fault Refusal := .next (s.request 0x0702 State.setTickCtrl)

/-- FRAME_PRESET (R50): the target frame itself takes the number. -/
def State.setPreset (v : Service) (s : State) : State :=
  if s.src = 2 then s.err v stNOT_READY 0 else s.takeAt v (.preset (v.u 8 6))

def execFramePreset (s : State) : Host.Outcome State Fault Refusal := .next (s.request 0x0703 State.setPreset)

/-- SWAP_WAVE (R151). -/
def State.setWave (v : Service) (s : State) : State :=
  let what := Change.wave (v.u 8 1)
  if !s.changeKeeps (s.targetNear (v.tgt 0)) what then s.err v stCHECK_FAIL dSCHEDULE else s.takeAt v what

def execSwapWave (s : State) : Host.Outcome State Fault Refusal := .next (s.request 0x0704 State.setWave)

/-- POWER_MODE (R462). -/
def State.setPower (v : Service) (s : State) : State :=
  let m := v.u 8 1
  if m = s.mode then s.ok v []
  else if s.mode = 2 ∧ m = 1 then s.err v stNOT_READY dPOWER_MODE
  else if s.ld.phase ≠ .idle || (List.range 96).any (fun r => (s.region r).held) || s.powerPending then s.err v stBUSY 0
  else s.takeAt v (.power m)

def execPowerMode (s : State) : Host.Outcome State Fault Refusal := .next (s.request 0x0705 State.setPower)

/-- The clock registers with the changes accepted (log 31). -/
def State.futureClock (s : State) (off : Nat) : Nat :=
  s.hl.changes.foldl (fun x a => match a.what with
    | .clockSet o y => if o = off then applyWrite ((ckFields off).getD []) x y else x
    | _ => x) (s.clockImg off)

/-- Does some GCK take SPLL `n` as its source, now or by its setting (R453)? -/
def State.spllUsed (s : State) (n : Nat) : Bool :=
  (List.range 16).any (fun g => (s.gckOf g).src = n + 8 || bits (s.futureClock (0x100 + 4 * g)) 0 4 = n + 8)

/-- CLOCK_SET (R451, R453). -/
def State.setClock (v : Service) (s : State) : State :=
  let off := v.u 8 4
  let x := applyWrite ((ckFields off).getD []) (s.futureClock off) (v.u 12 4)
  let busy := match spllOf off with
    | some n => x ≠ s.futureClock off && s.spllUsed n
    | none => false
  if !clockLimits Config.grade3 (fun o => if o = off then x else s.futureClock o) then s.err v stBAD_ARG 0
  else if busy then s.err v stBUSY 0
  else s.takeAt v (.clockSet off (v.u 12 4))

def execClockSet (s : State) : Host.Outcome State Fault Refusal := .next (s.request 0x0706 State.setClock)

/-- TEMP_LIMITS: the last TJ is compared with the new limits (R466, DEDUCED log 49). -/
def State.tempLimits (v : Service) (s : State) : State :=
  let s := s.setReg (CK 0x20C) (v.u 0 4)
  (s.tempSample (s.fld (CK 0x208) 0 16)).ok v []

def execTempLimits (s : State) : Host.Outcome State Fault Refusal := .next (s.request 0x0707 State.tempLimits)

end Sys2Proof.Machine
end

