-- ==== Sys2Proof/Machine/ReqChain.lean ====
section
/-! DEFINITION. Requests of family 0x08xx (spec/12 R378 to R380, spec/10 R306, R309, R327, R333). -/

namespace Sys2Proof.Machine

/-- A command marked H: refused NOT_HEAD on any other unit (R378). -/
def State.headOnly (f : Service → State → State) (v : Service) (s : State) : State :=
  if s.isHead then f v s else s.err v stNOT_READY dNOT_HEAD

/-- CHAIN_ROLE: at the next superframe start. -/
def State.chainRole (v : Service) (s : State) : State :=
  (s.setChain { s.chain with role := some (v.u 0 1 = 1, v.u 2 2) }).ok v []

def execChainRole (s : State) : Host.Outcome State Fault Refusal := .next (s.request 0x0801 State.chainRole)

/-- CHAIN_GEN: from the next SUPER (R327). -/
def State.chainGen (v : Service) (s : State) : State :=
  (s.setChain { s.chain with genSet := if v.u 0 1 = 1 then some (v.u 4 4) else none }).ok v []

def execChainGen (s : State) : Host.Outcome State Fault Refusal := .next (s.request 0x0802 (State.headOnly State.chainGen))

/-- CHAIN_CAL: the head raises EPOCH in the next SUPER, another unit measures its UP ports (R309). -/
def State.chainCal (v : Service) (s : State) : State :=
  let s := if s.isHead then s.setChain { s.chain with epochNext := true } else (s.measure 0).measure 2
  s.ok v []

def execChainCal (s : State) : Host.Outcome State Fault Refusal := .next (s.request 0x0803 State.chainCal)

/-- One entry of ROSTER_READ, for position `k`. -/
def State.rosterEntry (s : State) (k : Nat) : List (Nat × Nat) :=
  match s.chain.roster.find? (fun e => e.pos = k) with
  | some e => [(e.addr, 2), (k, 2), (e.fin.toNat + e.beached.toNat * 4, 1), (0, 3), (e.uid.toNat, 16)]
  | none => [((s.fld (ZV 0 0x804) 0 12 + k) % 4096, 2), (k, 2), (2, 1), (0, 3), (0, 16)]

/-- ROSTER_READ (R308): a position without an entry is vacant. -/
def State.rosterRead (v : Service) (s : State) : State :=
  let len := s.fld (ZV 0 0x810) 0 12
  let first := v.u 0 2
  let n := min 10 (len - first)
  s.ok v (body ([(len, 2), (n, 1), (0, 1)] ++ (List.range n).flatMap (fun i => s.rosterEntry (first + i))))

def execRosterRead (s : State) : Host.Outcome State Fault Refusal := .next (s.request 0x0804 (State.headOnly State.rosterRead))

/-- FAULT_READ (R332). -/
def State.faultRead (v : Service) (s : State) : State :=
  let l := (s.chain.recs.drop (v.u 0 1)).take 10
  s.ok v (body ([(s.chain.recs.length, 2), (l.length, 1), (0, 1)] ++ l.flatMap (fun e =>
    [(e.rep.origin, 2), (e.rep.code, 1), (0, 1), (e.rep.reporter, 2), (0, 2), (e.rep.frame, 6), (0, 2), (e.suppressed, 4),
      ((s.timePs - e.ps) / 10 ^ 9, 4)])))

def execFaultRead (s : State) : Host.Outcome State Fault Refusal := .next (s.request 0x0805 (State.headOnly State.faultRead))

/-- BCAST_START (R333, R334): the opening BCAST leaves; with HEAD_TOO the head loads the image as well, as any unit takes a
broadcast. A slot that holds a partial image is refused with KIND (DESIGN CHOICE log 134). -/
def State.bcastStart (v : Service) (s : State) : State :=
  let k := v.u 0 1
  let flags := v.u 1 1
  let x := s.slot k
  if x.st ≠ 2 then s.err v stNOT_READY dEMPTY_SLOT
  else if x.bytes.getD 13 0 ≠ 1 then s.err v stCHECK_FAIL dKIND
  else if s.chain.bcast.st = 1 || s.ld.phase ≠ .idle then s.err v stBUSY 0
  else
    let b : Bcast := { st := 1, slot := k, flags := flags, gen := x.gen, startPs := s.timePs, mb := v.mb, tag := v.tag }
    let s := s.setChain { s.chain with bcast := b }
    let s := s.sendMsg downPorts tBcast 0 0xFFF (bytesLE x.gen 4 ++ bytesLE flags 1)
    let s := if flags.testBit 1 && s.takesBcast x.gen flags then
      s.beginChain.setLd { s.beginChain.ld with mb := v.mb, tag := v.tag } else s
    s.ok v []

def execBcastStart (s : State) : Host.Outcome State Fault Refusal := .next (s.request 0x0806 (State.headOnly State.bcastStart))

/-- BCAST_STATUS. -/
def State.bcastStatus (v : Service) (s : State) : State :=
  let b := s.chain.bcast
  let l := (b.fails.drop (v.u 0 1)).take 8
  s.ok v (body ([(b.st, 1), (l.length, 1), (0, 2), (b.gen, 4), (b.ok, 2), (b.failN, 2), (b.bytes, 4)]
    ++ l.flatMap (fun (a, r) => [(a, 2), (r, 24)])))

def execBcastStatus (s : State) : Host.Outcome State Fault Refusal := .next (s.request 0x0807 (State.headOnly State.bcastStatus))

/-- BCAST_ABORT: the closing BCAST carries byte 0x01, and units still loading end ABORTED; their reports are still collected for
100 ms (R378). -/
def State.bcastAbort (v : Service) (s : State) : State :=
  let b := s.chain.bcast
  if b.st ≠ 1 then s.err v stNOT_READY 0
  else
    let s := (s.setChain { s.chain with bcast := { b with closed := true, aborted := true } }).sendMsg downPorts tBcast 0 0xFFF [1]
    let s := if b.flags.testBit 1 && s.ld.source = 3 && s.ld.phase ≠ .idle then
      s.failLoad { status := stCONFLICT, detail := dABORTED } else s
    s.ok v []

def execBcastAbort (s : State) : Host.Outcome State Fault Refusal := .next (s.request 0x0808 (State.headOnly State.bcastAbort))

/-- FORWARD (R379): one MBREQ with the inner request; to 0xFFF with no unit that could answer it is complete at once (R380). -/
def State.forward (v : Service) (s : State) : State :=
  let dst := v.u 0 2
  if dst = s.zaddr then s.err v stBAD_ARG 0
  else match (List.range 32).find? (fun k => !s.chain.fwd.any (fun f => f.slot = k)) with
    | none => s.err v stBUSY 0
    | some k =>
      let units := s.chainUnits
      let f : Fwd :=
        { slot := k, dst := dst, op := v.u 4 2, tag := v.u 8 2, ps := s.timePs
          units := units, fin := decide (dst = 0xFFF ∧ units = 0) }
      let s := s.setChain { s.chain with fwd := s.chain.fwd ++ [f] }
      (s.sendMsg downPorts tMbreq 0 dst (v.str 4 (v.len - 4))).ok v [BitVec.ofNat 8 k]

def execForward (s : State) : Host.Outcome State Fault Refusal := .next (s.request 0x0810 (State.headOnly State.forward))

/-- The inner response of a slot: header of 8 bytes and payload. A slot of 0xFFF gives the summary of R380; when every
answer received was OK and some unit did not answer, its STATUS is TIMEOUT (DEDUCED log 50). -/
def State.fwdReply (s : State) (f : Fwd) : List Byte :=
  if f.dst ≠ 0xFFF then (bytesLE f.rsp.toNat (8 + min 248 (fieldAt f.rsp.toNat 2 2)))
  else
    let st := if f.first ≠ 0 then f.first else if f.answered < f.units then stTIMEOUT else 0
    rspBytes f.op f.tag st (body ([(f.answered, 2), (f.okN, 2), (f.failed, 2), (f.events, 2)]
      ++ f.fails.flatMap (fun (a, x, d) => [(a, 2), (x, 1), (0, 1), (d, 2), (0, 2)])))

/-- FETCH. -/
def State.fetch (v : Service) (s : State) : State :=
  match s.chain.fwd.find? (fun f => f.slot = v.u 0 1) with
  | none => s.err v stBAD_ARG 0
  | some f =>
    if !f.fin then s.err v stNOT_READY 0
    else
      let r := s.fwdReply f
      let s := if v.u 1 1 = 1 then s.setChain { s.chain with fwd := s.chain.fwd.filter (fun x => x.slot ≠ f.slot) } else s
      s.ok v (r.take 8 ++ ((r.drop 8).drop (v.u 2 2)).take 240)

def execFetch (s : State) : Host.Outcome State Fault Refusal := .next (s.request 0x0811 (State.headOnly State.fetch))

/-- REMOTE_EVENTS: entries returned are removed. -/
def State.remoteEvents (v : Service) (s : State) : State :=
  let l := s.chain.remote.take 6
  let lost := s.chain.remoteLost
  let s := s.setChain { s.chain with remote := s.chain.remote.drop 6 }
  s.ok v (body ([(l.length, 1), (0, 1), (lost, 2)] ++ l.flatMap (fun (a, e) => [(a, 2), (0, 2), (e.toNat, 32)])))

def execRemoteEvents (s : State) : Host.Outcome State Fault Refusal := .next (s.request 0x0812 (State.headOnly State.remoteEvents))

end Sys2Proof.Machine
end

