-- ==== Sys2Proof/Machine/ReqLife.lean ====
section
/-! DEFINITION. Requests of family 0x09xx (spec/12 R381, spec/14 R422 to R440). -/

namespace Sys2Proof.Machine

/-- LC_READ: PENDING is the burnt intent ahead of the state (R430). -/
def State.lcRead (v : Service) (s : State) : State :=
  let waiting := if s.lcBurnt < s.lcIntent then lcCode s.lcIntent else 0
  let keys := s.custSet.toNat + ((List.range 4).map (fun n => (s.imgUsed n).toNat * 2 ^ (n + 1))).sum
  s.ok v (body [(lcCode s.lcBurnt, 1), (waiting, 1), (s.otp gSec, 2), (s.imgRollback, 1), (s.fwRollback, 1), (s.life.debugTok.toNat, 1),
    (keys, 1), (0, 8)])

def execLcRead (s : State) : Host.Outcome State Fault Refusal := .next (s.request 0x0901 State.lcRead)

/-! ## Burns (R428, R429) -/

/-- BUSY of the burning commands (R429). -/
def State.burnBusy (s : State) : Bool := s.ld.phase ≠ .idle || s.store.sealing.isSome || s.programming

/-- Does the hold-up check allow a burn at `mv` (R428)? -/
def State.burnHeld (s : State) (mv : Nat) : Bool := holdsUp s.holdupC mv burnNeed

/-- Take a burn after its hold-up check, and answer. While the engine burns, the request waits: its service goes on with the
command's next coming (R429). -/
def State.takeBurn (s : State) (v : Service) (mv g x : Nat) : State :=
  if s.life.burning then s
  else if !s.burnHeld mv then (s.sense mv).err v stNO_HOLDUP 0 else ((s.sense mv).burn g x).ok v []

/-! ## LC_TRANSITION (R424 to R427) -/

/-- A signed body names this unit, its state and the target (R425). -/
def State.bodyOk (s : State) (v : Service) : Bool :=
  v.u 4 4 = 0x52434C59 && v.u 8 1 = lcCode s.lc && v.u 9 1 = v.u 0 1 && v.u 10 2 = 0 && v.u 12 16 = s.unitId

/-- Further conditions of Table LCS-5. -/
def State.lcCondition (s : State) (dst : Nat) : Bool :=
  match s.lc, dst with
  | 1, 2 => s.otp gTrim ≠ 0
  | 2, 3 => s.otp gIdentity ≠ 0
  | 4, 5 => s.custSet
  | _, _ => true

/-- Is an intent pending? -/
def State.intentPending (s : State) : Bool := s.life.accepted ≠ 0 || decide (s.lcBurnt < s.lcIntent)

/-- Digest of the key that Table LCS-5 names. -/
def State.lcKey (s : State) (dst : Nat) : BitVec 384 :=
  if s.lc = 5 ∧ dst = 7 then BitVec.ofNat 384 s.custDigest else Config.vendorRequestKey

/-- Does the signature of a body verify? -/
def lcSigned (v : Service) : Bool :=
  ecdsaVerify (BitVec.ofNat 768 (fieldBE v.pay 28 96)) (sha384 (v.str 4 120))
    (BitVec.ofNat 384 (fieldBE v.pay 124 48)) (BitVec.ofNat 384 (fieldBE v.pay 172 48))

/-- The checks of R426 before the hold-up check. -/
def State.lcRefusal (s : State) (v : Service) : Option (Nat × Nat) :=
  let dst := lcPos (v.u 0 1)
  let full := v.len = 220
  if full && !s.bodyOk v then some (stBAD_ARG, 0)
  else if (lcBody s.lc dst).isNone || !s.lcCondition dst || s.intentPending then some (stDENIED, dLIFECYCLE)
  else if s.burnBusy then some (stBUSY, 0)
  else if full && sha384 (v.str 28 96) ≠ s.lcKey dst then some (stDENIED, dKEY)
  else if full && !lcSigned v then some (stCHECK_FAIL, dSIGNATURE)
  else none

/-- LC_TRANSITION: the intent is burnt, and the target counts as pending from the answer on: a debug session ends where the
target's debug path is closed (R427). -/
def State.lcTransition (mv : Nat) (v : Service) (s : State) : State :=
  match s.lcRefusal v with
  | some (st, d) => s.err v st d
  | none =>
    if s.life.burning then s
    else if !s.burnHeld mv then (s.sense mv).err v stNO_HOLDUP 0
    else
      let s := (s.sense mv).burn gIntent (v.u 0 1)
      (s.setLife { s.life with accepted := v.u 0 1, debugTok := s.life.debugTok && decide (lcPos (v.u 0 1) < 5) }).ok v []

def execLcTransition (mv : Nat) (s : State) : Host.Outcome State Fault Refusal := .next (s.request 0x0902 (State.lcTransition mv))

/-- SEC_BURN (R434): bits that are set are ignored; with none left there is nothing to burn. -/
def State.secBurn (mv : Nat) (v : Service) (s : State) : State :=
  let m := v.u 0 2
  if s.lc < 3 then s.err v stDENIED dLIFECYCLE
  else if s.burnBusy then s.err v stBUSY 0
  else if m &&& s.otp gSec = m then s.ok v []
  else s.takeBurn v mv gSec m

def execSecBurn (mv : Nat) (s : State) : Host.Outcome State Fault Refusal := .next (s.request 0x0903 (State.secBurn mv))

/-- ROLLBACK_SET (R435). -/
def State.rollbackSet (mv : Nat) (v : Service) (s : State) : State :=
  let x := v.u 0 1
  if x < s.imgRollback then s.err v stBAD_ARG 0
  else if s.burnBusy then s.err v stBUSY 0
  else if x = s.imgRollback then s.ok v []
  else s.takeBurn v mv gImgRb (2 ^ x - 1)

def execRollbackSet (mv : Nat) (s : State) : Host.Outcome State Fault Refusal := .next (s.request 0x0904 (State.rollbackSet mv))

/-- CUSTOMER_KEY (R422): in SEALED or OPEN, once. -/
def State.customerKey (mv : Nat) (v : Service) (s : State) : State :=
  if s.lc < 3 then s.err v stDENIED dLIFECYCLE
  else if s.custSet then s.err v stDENIED 0
  else if s.burnBusy then s.err v stBUSY 0
  else s.takeBurn v mv gCust (fieldBE v.pay 0 48 + 2 ^ 384)

def execCustomerKey (mv : Nat) (s : State) : Host.Outcome State Fault Refusal := .next (s.request 0x0905 (State.customerKey mv))

/-- The lowest image key slot that is free. -/
def State.freeImgKey (s : State) : Option Nat := (List.range 4).find? (fun n => !s.imgUsed n)

/-- IMAGE_KEY (R423). -/
def State.imageKey (mv : Nat) (v : Service) (s : State) : State :=
  if s.burnBusy then s.err v stBUSY 0
  else if s.life.burning then s
  else match keyUnwrap (BitVec.ofNat 256 s.transport) (BitVec.ofNat 320 (fieldBE v.pay 4 40)) with
    | none => s.err v stCHECK_FAIL dSIGNATURE
    | some k => match s.freeImgKey with
      | none => s.err v stDENIED 0
      | some n => s.takeBurn v mv (gImg + n) (k.toNat + 2 ^ 256)

def execImageKey (mv : Nat) (s : State) : Host.Outcome State Fault Refusal := .next (s.request 0x0906 (State.imageKey mv))

/-! ## Debug (R438 to R440) -/

/-- DEBUG_CHALLENGE: the nonce comes from the unit's random source, a free value (R438, log 1). -/
def State.debugChallenge (v : Service) (s : State) : State :=
  if s.sec 4 then s.err v stDENIED 0
  else if v.mb = 0 ∧ s.lc < 4 then s.err v stDENIED dLIFECYCLE
  else
    let (x, s) := s.draw
    let n := BitVec.ofNat 256 x
    (s.setLife { s.life with nonce := some n }).ok v (s.unitBytes ++ (bytesLE n.toNat 32).reverse)

def execDebugChallenge (s : State) : Host.Outcome State Fault Refusal := .next (s.request 0x0907 State.debugChallenge)

/-- The checks of R440. -/
def State.tokenRefusal (s : State) (v : Service) : Option (Nat × Nat) :=
  let scope := v.u 52 1
  if v.u 0 4 ≠ 0x4B544459 ∨ v.u 4 16 ≠ s.unitId ∨ scope = 0 ∨ 3 < scope ∨ v.u 53 3 ≠ 0 then some (stBAD_ARG, 0)
  else match s.life.nonce with
    | none => some (stNOT_READY, 0)
    | some n =>
      if fieldBE v.pay 20 32 ≠ n.toNat then some (stSTALE, 0)
      else if !ecdsaVerify Config.authServiceKey (sha384 (v.str 0 56))
          (BitVec.ofNat 384 (fieldBE v.pay 56 48)) (BitVec.ofNat 384 (fieldBE v.pay 104 48)) then some (stCHECK_FAIL, dSIGNATURE)
      else if s.sec 4 || s.lc = 7 then some (stDENIED, 0)
      else none

/-- DEBUG_RESPONSE: an accepted token consumes the nonce and applies SCOPE until the next VAUX power-on reset. -/
def State.debugResponse (v : Service) (s : State) : State :=
  match s.tokenRefusal v with
  | some (st, d) => s.err v st d
  | none =>
    let scope := v.u 52 1
    (s.setLife { s.life with
      nonce := none, debugTok := s.life.debugTok || scope.testBit 0, liftTok := s.life.liftTok || scope.testBit 1 }).ok v []

def execDebugResponse (s : State) : Host.Outcome State Fault Refusal := .next (s.request 0x0908 State.debugResponse)

end Sys2Proof.Machine
end

