-- ==== Sys2Proof/Machine/ReqProbe.lean ====
section
/-! DEFINITION. Requests of family 0x0Axx (spec/12 R382, spec/08 R244, R245, spec/17 R494 to R501). -/

namespace Sys2Proof.Machine

/-! ## Loans -/

/-- Owner code of a resource of class `c`, and whether it is spare (Table CFG-6). -/
def State.resourceSpare (s : State) (c i : Nat) : Bool :=
  match c with
  | 0 => spareCode (s.blockCode i) true
  | 1 => spareCode (s.pinCode i) false
  | _ => spareCode (s.timerCode i) false

/-- LOAN_REQUEST (R244, R245). -/
def State.loanRequest (v : Service) (s : State) : State :=
  let c := v.u 0 1
  let i := v.u 2 2
  if s.fullLoading then s.err v stBUSY 0
  else if !s.resourceSpare c i then s.err v stCONFLICT 0
  else match s.lent c i with
    | some m => if m = v.mb then s.ok v [] else s.err v stBUSY 0
    | none => { s with hl := { s.hl with loanList := s.hl.loanList ++ [(c, i, v.mb)] } }.ok v []

def execLoanRequest (s : State) : Host.Outcome State Fault Refusal := .next (s.request 0x0A01 State.loanRequest)

/-- LOAN_RELEASE: a sounding whose buffer loses the block ends (log 52). -/
def State.loanRelease (v : Service) (s : State) : State :=
  let l := (v.u 0 1, v.u 2 2, v.mb)
  if s.hl.loanList.contains l then (s.endLoans (fun x => x = l)).ok v [] else s.err v stBAD_ARG 0

def execLoanRelease (s : State) : Host.Outcome State Fault Refusal := .next (s.request 0x0A02 State.loanRelease)

/-- LOAN_LIST: at most 60 entries. -/
def State.readLoans (v : Service) (s : State) : State :=
  let l := s.hl.loanList.take 60
  s.ok v (body ([(l.length, 2)] ++ l.flatMap (fun (c, i, m) => [(c, 1), (m, 1), (i, 2)])))

def execLoanList (s : State) : Host.Outcome State Fault Refusal := .next (s.request 0x0A05 State.readLoans)

/-! ## PROBE_SET (R494, R500, R501) -/

/-- May mailbox `m` name block `k`, pin `k` (R494)? -/
def State.mayBlock (s : State) (m k : Nat) : Bool := s.blockCode k = 0x480 || (s.resourceSpare 0 k && s.lent 0 k = some m)
def State.mayPin (s : State) (m k : Nat) : Bool := s.pinCode k = 0x480 || (s.resourceSpare 1 k && s.lent 1 k = some m)

/-- Does PROBE_RESTRICT refuse the value `x` (Table PRB-3)? -/
def pbRestricted (off x : Nat) : Bool :=
  (decide (0x100 ≤ off ∧ off < 0x200) && (bits x 0 3 = 1 || bits x 0 3 = 2 || bits x 0 3 = 4))
    || (off = 0x30 && x % 256 ≠ probeNode) || (off = 0 && bits x 0 2 = 2)

/-- An entry of PB_PINm whose pin cannot be used (R500): no VIO, or named by another enabled entry. -/
def State.pinTaken (s : State) (off x : Nat) : Bool :=
  let k := bits x 0 10
  s.bankVio (k / 48) = 0 ||
    (List.range 16).any (fun m => 0x200 + 4 * m ≠ off && s.bit (PB (0x200 + 4 * m)) 16 && s.fld (PB (0x200 + 4 * m)) 0 10 = k)

/-- The refusal of a write of `x` at `off` for mailbox `m`. -/
def State.probeRefusal (s : State) (m off x : Nat) : Option Nat :=
  let buf := decide (0x40 ≤ off ∧ off < 0x80) && x.testBit 12
  let pin := decide (0x200 ≤ off ∧ off < 0x240) && x.testBit 16
  match pbFields off with
  | none => some stBAD_ARG
  | some fs =>
    if !wordOk fs x || (off = 0 && bits x 0 2 = 2 && x.testBit 3) || (buf && decide (2304 ≤ bits x 0 12)) then some stBAD_ARG
    else if pin && s.pinTaken off x then some stBAD_ARG
    else if s.holder ≠ 0xF ∧ s.holder ≠ m then some stBUSY
    else if s.sounding && pbLocked off then some stBUSY
    else if s.probeRestrict && pbRestricted off x then some stDENIED
    else if (buf && !s.mayBlock m (bits x 0 12)) || (pin && !s.mayPin m (bits x 0 10)) then some stDENIED
    else none

/-- PROBE_SET: the mailbox becomes the holder when there is none. -/
def State.probeSet (v : Service) (s : State) : State :=
  let off := v.u 0 4
  let x := v.u 4 4
  match s.probeRefusal v.mb off x with
  | some st => s.err v st 0
  | none =>
    if s.headlandWaits (PB off) then s else
    let h := if s.holder = 0xF then v.mb else s.holder
    let t := s.setFld (PB 4) 16 4 h
    let ((st, _), u) := t.headlandAccess (PB off) true false x
    if st = 0 then u.ok v []
    else (u.setFld (PB 4) 16 4 s.holder).err v st 0

def execProbeSet (s : State) : Host.Outcome State Fault Refusal := .next (s.request 0x0A03 State.probeSet)

/-! ## PROBE_ARM (R496, R497) -/

/-- PROBE_ARM. Behind a closed gate Headland cannot arm the block: GATED, as for any access to it (R461, DEDUCED log 166). -/
def State.probeArm (v : Service) (s : State) : State :=
  let bad := s.bufBlocks.any (fun k => !s.mayBlock s.holder k)
  if (s.holder ≠ 0xF ∧ s.holder ≠ v.mb) then s.err v stBUSY 0
  else if s.sounding then s.err v stBUSY 0
  else if s.bufBlocks.isEmpty || bad then s.err v stNOT_READY 0
  else if !s.gateOpen 0x2C then s.err v stGATED 0
  else match s.target (v.tgt 0) with
    | none => s.err v stSTALE 0
    | some f =>
      let t := s.accept f v.mb v.tag (.arm (v.u 8 4))
      let t := (t.setReg (PB 8) 0).setReg (PB 4) (setBits (s.reg (PB 4)) 0 7 1)
      let p := s.probe
      (t.setProbe { p with target := f, storing := false, wp := 0, frames := v.u 8 4, left := 0, counting := false }).ok v []

def execProbeArm (s : State) : Host.Outcome State Fault Refusal := .next (s.request 0x0A04 State.probeArm)

end Sys2Proof.Machine
end

