-- ==== Sys2Proof/Machine/ReqStore.lean ====
section
/-! DEFINITION. Requests of families 0x0Bxx, 0x0Cxx and 0x0Dxx (spec/12 R362, R363, R383 to R385, spec/08 R261, R268 to R274,
spec/11 R358, spec/18 R520). -/

namespace Sys2Proof.Machine

/-! ## 0x0Bxx -/

/-- Is slot `k` in the hands of the engine: programming, sealing or erasure? -/
def State.slotBusy (s : State) (k : Nat) : Bool :=
  (match s.store.prog with
    | some (j, _) => j = k
    | none => false)
    || (match s.store.next with
    | some (j, _) => j = k
    | none => false)
    || (match s.store.sealing with
      | some j => j.slot = k
      | none => false)
    || s.store.erase.contains k

/-- Does a load or a broadcast read slot `k` (R261)? -/
def State.slotRead (s : State) (k : Nat) : Bool :=
  (s.ld.phase ≠ .idle && s.ld.source = 0 && s.ld.slot = k) || (s.chain.bcast.st = 1 && s.chain.bcast.slot = k)

/-- STORE_OPEN (R268, R271, R272, R383). -/
def State.storeOpen (v : Service) (s : State) : State :=
  let k := v.u 0 1
  if (s.store.img.on && s.store.img.slot ≠ k) || s.slotBusy k || s.slotRead k then s.err v stBUSY 0
  else if 100000 ≤ (s.slot k).prog then s.err v stSTORE_WORN 0
  else if k = s.goldenSlot ∧ (s.slot k).st = 2 then s.err v stDENIED 0
  else (s.openSlot false k v.mb).ok v []

def execStoreOpen (s : State) : Host.Outcome State Fault Refusal := .next (s.request 0x0B01 State.storeOpen)

/-- Data of a stream of image or firmware slots (R362, R363). -/
def State.streamData (fw : Bool) (mv : Nat) (v : Service) (s : State) : State :=
  let x := s.stream fw
  if !x.on || x.mb ≠ v.mb || x.fin then s.err v stNOT_READY dNO_STREAM
  else if v.u 0 4 ≠ x.took then s.err v stBAD_ARG 0
  else match s.streamTake fw v.data v.fin mv with
    | .refused st => (s.sense mv).err v st 0
    | .took t => t.ok v []

def execStoreData (mv : Nat) (s : State) : Host.Outcome State Fault Refusal := .next (s.request 0x0B02 (State.streamData false mv))

/-- A seal starts (R269, R358): the stream is over. -/
def State.startSeal (fw : Bool) (v : Service) (s : State) : State :=
  let x := s.stream fw
  if !x.on || x.mb ≠ v.mb then s.err v stNOT_READY dNO_STREAM
  else if !x.fin then s.err v stNOT_READY 0
  else if s.store.sealing.isSome then s.err v stBUSY 0
  else
    let t := s.setStream fw {}
    (t.setStore { t.store with sealing := some ⟨x.slot, v.mb, v.tag, s.timePs⟩ }).ok v []

def execStoreSeal (s : State) : Host.Outcome State Fault Refusal := .next (s.request 0x0B03 (State.startSeal false))

/-- STORE_INFO. -/
def State.storeInfo (v : Service) (s : State) : State :=
  let x := s.slot (v.u 0 1)
  s.ok v (body [(x.st, 1), (0, 3), (x.prog, 4), (x.gen, 4), (x.len, 4)])

def execStoreInfo (s : State) : Host.Outcome State Fault Refusal := .next (s.request 0x0B04 State.storeInfo)

/-- BOOT_RECORD_SET (R270, R273, R274): the hold-up check uses the new HOLDUP_C and the 64 bytes of the copy. -/
def State.bootRecordSet (mv : Nat) (v : Service) (s : State) : State :=
  let b := v.u 0 1
  let g := v.u 1 1
  let c := v.u 2 2
  let same := b = s.bootSlot && g = s.goldenSlot
  if !same && !((s.slot b).st = 2 && (s.slot g).st = 2) then s.err v stNOT_READY 0
  else if !holdsUp c mv (chunkNeed 64) then (s.sense mv).err v stNO_HOLDUP 0
  else ((s.sense mv).writeBootRec b g c).ok v []

def execBootRecordSet (mv : Nat) (s : State) : Host.Outcome State Fault Refusal := .next (s.request 0x0B05 (State.bootRecordSet mv))

/-- BOOT_RECORD_GET: zeros while no copy is valid (DEDUCED log 53). -/
def State.bootRecordGet (v : Service) (s : State) : State := s.ok v (bytesLE (s.bootRec.getD 0) 64)
def execBootRecordGet (s : State) : Host.Outcome State Fault Refusal := .next (s.request 0x0B06 State.bootRecordGet)

/-! ## 0x0Cxx -/

/-- A log entry as it is read (Table FLT-5). -/
def LogEntry.fields (e : LogEntry) : List (Nat × Nat) :=
  [(e.seq, 4), (e.kind, 1), (e.event, 1), (e.detail, 2), (e.frame, 6), (0, 2), (e.ps / 10 ^ 9, 4), (e.count, 4), (e.data, 8)]

/-- LOG_READ (R520). -/
def State.logRead (v : Service) (s : State) : State :=
  let l := (s.log.drop (v.u 0 2)).take 7
  s.ok v (body ([(s.log.length, 2), (l.length, 1), (0, 1)] ++ l.flatMap LogEntry.fields))

def execLogRead (s : State) : Host.Outcome State Fault Refusal := .next (s.request 0x0C01 State.logRead)

/-- LOG_CLEAR: SEQ keeps counting. -/
def State.logClear (v : Service) (s : State) : State := { s with log := [] }.ok v []
def execLogClear (s : State) : Host.Outcome State Fault Refusal := .next (s.request 0x0C02 State.logClear)

/-! ## 0x0Dxx -/

/-- FW_OPEN (R358, R271). -/
def State.fwOpen (v : Service) (s : State) : State :=
  let k := 0x10 + v.u 0 1
  if v.u 0 1 = s.hl.run then s.err v stDENIED 0
  else if s.slotBusy k then s.err v stBUSY 0
  else if 100000 ≤ (s.slot k).prog then s.err v stSTORE_WORN 0
  else (s.openSlot true k v.mb).ok v []

def execFwOpen (s : State) : Host.Outcome State Fault Refusal := .next (s.request 0x0D01 State.fwOpen)
def execFwData (mv : Nat) (s : State) : Host.Outcome State Fault Refusal := .next (s.request 0x0D02 (State.streamData true mv))
def execFwSeal (s : State) : Host.Outcome State Fault Refusal := .next (s.request 0x0D03 (State.startSeal true))

/-- FW_ACTIVATE: the restart comes at the target tick. -/
def State.fwActivate (v : Service) (s : State) : State :=
  let k := v.u 8 1
  if (s.slot (0x10 + k)).st ≠ 2 then s.err v stNOT_READY 0 else s.takeAt v (.activate k)

def execFwActivate (s : State) : Host.Outcome State Fault Refusal := .next (s.request 0x0D04 State.fwActivate)

end Sys2Proof.Machine
end

