-- ==== Sys2Proof/Machine/Supplies.lean ====
section
/-! DEFINITION. Supplies (spec/18 R507, R510, spec/19 R524, R525). -/

namespace Sys2Proof.Machine

def State.setRails (s : State) (x : Rails) : State := { s with rails := x }

/-- Every region is held at once and every region-owned pin parked; queue controllers, lane ingest and the sequencer stop
(R507, R510). No command releases a region then: a full load restores the unit. -/
def State.holdUnit (s : State) : State :=
  let s := forAll 96 (fun r t =>
    let t := t.holdRegion r 0
    t.setRegion r { t.region r with relMode := 2, group := [] }) s
  { s with run := { configured := s.run.configured, hold := true }, sq := { s.sq with on := false, slot := 0 } }

/-- Shared flip-flops lost their power: free values (log 1). -/
def State.loseShared (s : State) : State := forAll 96 (fun r t =>
  let (v, t) := t.draw
  t.setShared r (v % 2 ^ 512)) s

/-- A brown-out ends the load that runs and counts as no attempt (R507). The status and detail of its report are not
stated: free values (log 59). -/
def State.brownLoad (s : State) : State :=
  if s.ld.phase = .idle then s
  else
    let (v, s) := s.draw
    (s.setLd { s.ld with boot := false }).failLoad { status := v % 256, detail := v / 256 % 65536 }

/-- VCORE_BROWNOUT with the lowest VCORE in mV (R507). -/
def State.brownOut (s : State) (mv : Nat) : State :=
  if s.bt.brown || !s.on then s
  else
    let s := s.setRails { s.rails with vcore := false }
    let s := { s with bt := { s.bt with on := false, brown := true } }
    let s := s.brownLoad.holdUnit.loseFabric.loseShared
    (s.beach 1).logEntry 2 0 0 (mv % 65536)

def execVcoreBrownout (mv : Nat) (s : State) : Host.Outcome State Fault Refusal := .next (s.brownOut mv)

/-- The boot source as the straps name it: source and slot (Table CFG-10). -/
def State.bootSource (s : State) : Option (Nat × Nat) :=
  if s.boot = 0 then some (0, s.bootSlot) else if s.boot ≤ 4 then some (s.boot, 0xFF) else none

/-- VCORE_RECOVERED (R507): the procedure of R276 from the boot source. It begins once Headland is up and the loader is free;
a full load that was started meanwhile and commits has restored the unit, and ends it (log 129). -/
def State.vcoreBack (s : State) : State :=
  if !s.bt.brown then s
  else
    let s := s.setRails { s.rails with vcore := true }
    let s := { s with bt := { s.bt with brown := false } }
    match s.bootSource with
    | none => s
    | some (source, slot) =>
      if s.lc = 7 then s
      else State.bootResume { s with bt := { started := true, on := true, source, slot, reload := true } }

def execVcoreRecovered (s : State) : Host.Outcome State Fault Refusal := .next s.vcoreBack

/-- The blocks of T4 are cleared (R163). -/
def State.clearBlocks (s : State) : State := { s with mem := [], flips := [], ueSeen := [] }

/-- Insert a number into a rising list without repeats. -/
def insNat (x : Nat) : List Nat → List Nat
  | [] => [x]
  | y :: ys => if x < y then x :: y :: ys else if x = y then y :: ys else y :: insNat x ys

/-- Rail `rail` is valid (R525); T4 clears its blocks as it comes up. -/
def State.railUp (s : State) (rail : Rail) : State :=
  match rail with
  | .vcore => s.setRails { s.rails with vcore := true }
  | .vmem => (s.setRails { s.rails with vmem := true }).clearBlocks
  | .vtx => s.setRails { s.rails with vtx := true }
  | .vtt => s.setRails { s.rails with vtt := true }
  | .vio b => s.setRails { s.rails with vio := insNat b.val s.rails.vio }
  | .vhost => s.setRails { s.rails with vhost := true }

def execRailValid (rail : Rail) (s : State) : Host.Outcome State Fault Refusal := .next (s.railUp rail)

/-- The pins of bank `b` go to high impedance (Table ELP-4). -/
def State.vioLost (s : State) (b : Nat) : State := s.setRails { s.rails with vio := s.rails.vio.filter (· ≠ b) }

def execVioPresenceLoss (b : Fin 16) (s : State) : Host.Outcome State Fault Refusal := .next (s.vioLost b.val)

/-- T4 without power executes none of the operations that its ports have captured (R12). -/
def State.forgetOps (s : State) : State :=
  forAll 384 (fun k t => t.setPort k { t.port k with fresh := false }) s

/-- RAIL_FALL of VMEM, VTX or VTT (R510). Without VMEM the routers hold no packet (DEDUCED log 86).
The other rails fall as the commands of their own say; of VCORE the lowest voltage is not given here: a free value (log 1). -/
def State.railDown (s : State) (rail : Rail) : State :=
  match rail with
  | .vcore =>
    let s := s.draw.2.brownOut (s.draw.1 % 811)
    s.setRails { s.rails with vcore := false }
  | .vhost => s.vhostDown
  | .vmem =>
    let s := (s.setRails { s.rails with vmem := false }).holdUnit.forgetOps
    { s with net := [], noc := { s.noc with served := [], bulk := [], turn := [] } }
  | .vtx => (s.setRails { s.rails with vtx := false }).holdUnit
  | .vtt => (s.setRails { s.rails with vtt := false }).holdUnit
  | .vio b => s.vioLost b.val

def execRailFall (rail : Rail) (s : State) : Host.Outcome State Fault Refusal := .next (s.railDown rail)

end Sys2Proof.Machine
end

