-- ==== Sys2Proof/Machine/TickEdge.lean ====
section
/-! DEFINITION. A tick, the commands that commit at it, and a clock edge (spec/02 R42 to R57, spec/03 R76 to R86, spec/04
R103, spec/05 R139 to R144, spec/10 R313 to R319). The commands of one fabric edge come in this order: FABRIC_SWAP_REQUEST,
CLOCK_EDGE, CONTENTION_DETECT, PROBE_TRIGGER, TICK, TARGET_TICK_COMMIT, the other commands of a tick edge,
SCHEDULED_SWAP, SWAP (log 56). -/

namespace Sys2Proof.Machine

/-! ## Clock edges -/

/-- Has the running frame reached its last cycle? -/
def State.lastCycle (s : State) : Bool := decide (s.P + s.tick.ext ≤ s.tick.count + 1)

/-- The shaft ends of the regions that the coming tick edge holds keep what they drive in the running cycle (Table RGN-1). -/
def State.snapHold (s : State) : State :=
  if s.ld.phase = .hold && !s.ld.full && decide (s.ld.startCyc < s.tick.cyc + (s.P + s.tick.ext - s.tick.count)) then
    (s.ld.held.filter (fun r => !(s.region r).held)).foldl (fun t r => t.snapShafts r) s
  else s

/-- The macrocell flip-flops of region `r` at an edge of `clk`, as the wires of `s` stand; nothing is captured in a swap
cycle (R143, log 57). -/
def State.captureRegion (s : State) (clk : ClkSrc) (r : Nat) (t : State) : State :=
  if s.clocked r && !(s.region r).swapCycle then
    let (bk, sh) := s.captured r clk
    (t.setBank r (s.active r) bk).setShared r sh
  else t

/-- The crossing registers of region `r` at an edge of `clk` (R103, R144). -/
def State.captureCross (s : State) (clk : ClkSrc) (r : Nat) (t : State) : State :=
  if s.xclkIs r clk && !(s.region r).held && !s.run.hold && !s.clk.stopped then
    t.setCross r (ofBits 256 (s.crossTake r))
  else t

/-- Level that the command brings for pin `p` of bank `b`. -/
def pinLevel (pins : List (Fin 768 × Bool)) (b p : Nat) : Option Bool :=
  (pins.find? (fun x => x.1.val = 48 * b + p)).map (·.2)

/-- The input registers of bank `b` at an edge of `clk` (R472); boundary scan takes the pins from them (R489). -/
def State.capturePins (s : State) (clk : ClkSrc) (pins : List (Fin 768 × Bool)) (b : Nat) (t : State) : State :=
  if s.clk.stopped || s.scanned then t
  else { t with fab := { t.fab with
    pinIn := mput (fun _ => (0 : BitVec 48)) t.fab.pinIn b (BitVec.ofNat 48 (s.pinTake b clk (pinLevel pins b))) } }

/-- Everything that captures at an edge of `clk`: `s` as it stands in the cycle that ends, `t` what the edge makes. -/
def State.captureAll (s : State) (clk : ClkSrc) (pins : List (Fin 768 × Bool)) (t : State) : State :=
  let t := forAll 96 (s.captureRegion clk) t
  let t := forAll 96 (s.captureCross clk) t
  forAll 16 (s.capturePins clk pins) t

/-- The cycle count and time move on. -/
def State.nextCycle (s : State) : State :=
  let s := s.endSwapCycles.passCycles 1
  { s with tick := { s.tick with count := s.tick.count + 1 } }

/-- An edge of the fabric clock ends the running cycle: probe channels, exchange slices, fabric, ports (R103, R144, R166,
R317, R492). -/
def State.fabricEdge (s : State) (pins : List (Fin 768 × Bool)) : State :=
  let now := if s.wakesNow then { s with clk := { s.clk with stopped := false } } else s
  let t := if s.lastCycle then s.probeEdge.snapHold else s.probeEdge
  let t := (t.captureSide 0).captureSide 1
  let t := now.captureAll (.gck 0) pins t
  let t := forAll 384 now.portEdge t
  (t.nextCycle.exchangeAdvance 0).exchangeAdvance 1

/-- CLOCK_EDGE (R76): GCK0 is the fabric clock; its edge at the end of a frame is followed by the tick. A lane or an input that
boundary scan has taken clocks nothing (R489). -/
def State.clockEdge (s : State) (clk : ClkSrc) (pins : List (Fin 768 × Bool)) : State :=
  if clk = .gck 0 then (if s.P + s.tick.ext ≤ s.tick.count then s else s.fabricEdge pins)
  else if s.scanned && (match clk with
    | .gck _ => false
    | _ => true) then s
  else s.captureAll clk pins s

def execClockEdge (clk : ClkSrc) (pins : List (Fin 768 × Bool)) (s : State) : Host.Outcome State Fault Refusal :=
  .next (s.clockEdge clk pins)

/-! ## The tick -/

/-- Is a change of the wave plan due at this tick, so that the schedules start with TARGET_TICK_COMMIT (R139, R148)? -/
def State.planDue (s : State) : Bool :=
  s.hl.changes.any (fun a => a.dueAt s.frameNo && (match a.what with
    | .sched _ => true
    | .wave _ => true
    | .tickP _ => true
    | _ => false))

/-- Step 0 of every region at the tick edge. -/
def State.startSchedules (s : State) : State := forAll 96 State.tickSchedule s

/-- Queue controllers at the tick; those of a unit that is stopped or held stand still (Tables CLK-5, CLK-6). -/
def State.tickQueues (ended : Nat) (jumped : Bool) (s : State) : State :=
  if s.clk.stopped then s
  else forAll 384 (fun q t => if t.run.hold && t.qMode q ≠ 0 then t else t.tickQueue ended jumped q) s

/-- The head's SOF (R313, R333, Table ZVL-1); low rate carries none (R336). -/
def State.sendSof (s : State) : State :=
  if s.isHead && s.mode = 0 then
    s.sendZ (downPorts.filter (fun p => !s.low p))
      (.set setSof (s.superStart.toNat + (s.chain.bcast.st = 1 : Bool).toNat * 2 + s.frameNo % 64 * 4))
  else s

/-- The head's broadcast goes on as time passes: 2 GB/s (R335, log 44). -/
def State.sendBroadcast (s : State) : State :=
  let b := s.chain.bcast
  if b.st ≠ 1 then s else State.sendImages 200000 ((s.timePs - b.startPs) / 500) s

/-- TICK: the wrap of the generator and what every tier does at it (Table TCK-4). The cycles of the frame that no
CLOCK_EDGE has ended elapse without a capture (log 56). -/
def State.tickEdge (s : State) : State :=
  let ended := s.frameNo
  let realigned := s.tick.ext ≠ 0
  let jumped := s.jumps
  let oldP := s.P
  let s := if s.tick.count < s.P + s.tick.ext then s.snapHold else s
  let s := s.tickGenerator
  let s := if s.P = oldP then s else (s.checkSide s.P 0).checkSide s.P 1
  let s := s.tickQueues ended jumped
  let s := if s.hl.up && s.planDue then s else s.startSchedules
  let s := (s.seqTick.probeTick realigned).selfPower
  let s := s.sendSof
  let s := (s.exchangeTick ended realigned 0).exchangeTick ended realigned 1
  ((s.exchangeAdvance 0).exchangeAdvance 1).sendBroadcast.testLines.trimFollow

def execTick (s : State) : Host.Outcome State Fault Refusal := .next s.tickEdge

/-- TICK_SOURCE_LOSS (R45): holdover, EV_FAULT TICK_LOST, and the report that waits 1 ms (R330). -/
def State.sourceLoss (s : State) : State :=
  if !s.lossDue then s
  else
    let s := s.enterHoldover.faultHw 0x0102 0 0
    s.waitReport (s.report s.zaddr 4 0x0102)

def execTickSourceLoss (s : State) : Host.Outcome State Fault Refusal := .next s.sourceLoss

/-! ## Changes at their target tick (R56, R57) -/

/-- Counters that an accepted SCHED_COMMIT clears at its tick: RG_SWAP_CNT, RG_REQ_STAT, SHIFT_MAX (Table CTX-8). -/
def State.clearSwapCounts (s : State) (r : Nat) : State :=
  ((s.setReg (RG r 0x0C) 0).setReg (RG r 0x10) 0).setFld (RG r 0x14) 16 13 0

/-- The tables of a commanded change come into force (R139). -/
def State.putTables (s : State) (l : List (Nat × List Word)) : State :=
  let s := l.foldl (fun t x => t.setTable x.1 x.2) s
  (l.flatMap (fun x => s.pairOf x.1)).foldl State.clearSwapCounts s

/-- The swap of a named region in cycle 0: a candidate of the new plan takes its place there, any other is ordered after
the plan (R139). -/
def State.commandSwap (id : Nat) (s : State) (r : Nat) : State :=
  if (s.region r).held || s.clk.stopped then s
  else
    let s := if s.schedRun r then s else s.startStep r 0 s.tick.cyc (s.tick.cyc + s.shift r 0) none
    if s.swapPending r && (s.region r).cls ≠ .request then
      let planned := (candidates (s.table r)).any (fun x => x.1 = 0)
      s.setRegion r { s.region r with cls := if planned then .planned else .commanded, change := some id }
    else s

/-- Step 0 of the candidates that a commanded change names, a coupled pair by either region, and the report that EV_SWAP_DONE will carry (R141). -/
def State.commandSwaps (s : State) (a : Accepted) (l : List (Nat × List Word)) : State :=
  let id := s.hl.nextId
  let lead := (List.range 96).filter (fun r => s.leads r && l.any (fun x => (s.pairOf r).contains x.1))
  let s := { s with hl := { s.hl with nextId := id + 1, reports := s.hl.reports ++ [⟨id, a.mb, a.tag, a.target, 0, 0, 0⟩] } }
  lead.foldl (State.commandSwap id) s

/-- A commanded release: the regions leave the hold at this tick edge (R289, R290). -/
def State.commandRelease (s : State) (a : Accepted) (r : Nat) : State :=
  if !s.groupReleasable r then s
  else
    let g := s.releaseGroup r
    g.foldl (fun t k => t.setRegion k { t.region k with
      relMode := 0, relCyc := s.tick.cyc, relMb := a.mb, relTag := a.tag, group := g }) s

/-- A new P governs the frame that starts (R56, R320). -/
def State.putP (s : State) (p : Nat) : State := ((s.setFld (CK 0x804) 0 13 p).checkSide p 0).checkSide p 1

/-- What a change does at its target tick, the start of schedules and of a restart apart. The number of a FRAME_PRESET
stands from the tick itself on (`State.numberFrame`). -/
def State.commitChange (s : State) (a : Accepted) : State :=
  match a.what with
  | .sched l => s.putTables l
  | .qdesc q d => s.applyDesc q d.toNat
  | .lutSwap q => s.flipHalf q
  | .tickP p => s.putP p
  | .tickCtrl v => (s.writeTickCtrl v).applyPending
  | .preset _ => s
  | .wave w => s.setFld (CK 0x830) 0 7 w
  | .power m => s.powerCommit m
  | .clockSet off v => s.writeClock off v
  | .release r => s.commandRelease a r
  | .arm frames => s.soundingStart frames
  | .activate _ => s

/-- The start of schedules and swaps, and a restart, once every change stands. -/
def State.finishChange (s : State) (a : Accepted) : State :=
  match a.what with
  | .sched l => s.commandSwaps a l
  | .activate slot => { s with hl := { s.hl with sel := slot } }.restart 3
  | _ => s

/-- Is the change a matter of hardware, that no restart loses (Table HDL-7)? A sounding starts in the probe block. -/
def Accepted.hardware (a : Accepted) : Bool := a.arms

/-- TARGET_TICK_COMMIT: every change whose target is reached commits at this tick edge, in the order of `commitOrder` (log 171);
those that fall into a restart are discarded (R57, R356). -/
def State.targetCommit (s : State) : State :=
  if s.tick.count ≠ 0 then s
  else
    let due := commitOrder s.frameNo (s.hl.changes.filter (fun a => a.dueAt s.frameNo))
    let plan := s.hl.up && s.planDue
    let go := if s.hl.up then due else due.filter Accepted.hardware
    let lost := if s.hl.up then [] else due.filter (fun a => !a.hardware)
    let s := { s with hl := { s.hl with
      changes := s.hl.changes.filter (fun a => !a.dueAt s.frameNo)
      discarded := s.hl.discarded ++ lost.map (fun a => (a.mb, a.tag))
      nDiscarded := s.hl.nDiscarded + lost.length } }
    let s := go.foldl State.commitChange s
    let s := if plan then s.startSchedules else s
    go.foldl State.finishChange s

def execTargetTickCommit (s : State) : Host.Outcome State Fault Refusal := .next s.targetCommit

end Sys2Proof.Machine
end

