-- ==== Sys2Proof/Machine/Upset.lean ====
section
/-! DEFINITION. Upsets of one stored or travelling bit (spec/18 R511, Table FLT-3, spec/07 R207). -/

namespace Sys2Proof.Machine

/-- Flip bit `i` of a number. -/
def flip (x i : Nat) : Nat := x ^^^ 2 ^ i

/-- One bit of one copy of an OTP group. -/
def State.upsetOtp (s : State) (g c i : Nat) : State :=
  if otpBits g ≤ i then s
  else { s with life := { s.life with otp := mput otpReset s.life.otp (3 * g + c) (BitVec.ofNat 512 (flip (s.otpCopy g c) i)) } }

/-- One bit of the registers of port `k`, its inputs, read data or status lines: wrong until the next capture. -/
def State.upsetPort (s : State) (k i : Nat) : State :=
  let p := s.port k
  if 160 ≤ i then s.setPort k { p with lines := BitVec.ofNat 16 (flip p.lines.toNat (i - 160)) }
  else if 96 ≤ i then s.setPort k { p with out := { p.out with data := BitVec.ofNat 64 (flip p.out.data.toNat (i - 96)) } }
  else
  let q : Port := { p with inp := BitVec.ofNat 96 (flip p.inp.toNat i) }
  s.setPort k (if q.fresh && decide (8 ≤ q.op) then { q with res := refusedOp, fresh := false } else q)

/-- One of the 72 bits of a word. -/
def State.upsetWord (s : State) (k w i : Nat) : State :=
  { s with flips := mput (fun _ => 0) s.flips (wordKey k w) (flip (s.flipMask k w) i) }

/-- One bit of a frame index entry, or one more. -/
def State.upsetIndex (s : State) (q i : Nat) : State :=
  let x := s.queue q
  s.setQueue q { x with idxErr := mput (fun _ => 0) x.idxErr i (mget (fun _ => 0) x.idxErr i + 1) }

/-- The hop of a packet at router `n`. -/
def Packet.hopAt (p : Packet) (n : Nat) : Option Hop := p.hops.find? (fun h => h.router = n)

/-- The oldest packet of a path that router `n` has flits of to receive: its place, itself and its hop there; `f` says which. -/
def State.struck (s : State) (n src dst v : Nat) (f : Packet → Hop → Bool) : Option (Nat × Packet × Hop) :=
  s.net.zipIdx.findSome? (fun (p, k) =>
    match p.hopAt n with
    | some h => if p.onPath src dst v && f p h then some (k, p, h) else none
    | none => none)

/-- Has the header of the packet come to a hop, and not gone on? -/
def headThere (_ : Packet) (h : Hop) : Bool := !h.buf.isEmpty && h.sent = 0

/-- Network cycles pass until a header of that path stands in router `n`, if one comes. -/
def State.bringHead (s : State) (n src dst v : Nat) : State :=
  State.runNet (fun t => (t.struck n src dst v headThere).isSome) s.netTime s

/-- The header flit of the packet is uncorrectable as router `n` receives it: the packet is discarded there, counted, and
EV_FAULT NOC_UE posted (R207). -/
def State.upsetHeader (s : State) (n src dst v : Nat) : State :=
  if (s.struck n src dst v (fun _ h => h.sent = 0)).isNone then s
  else
    let s := s.bringHead n src dst v
    match s.struck n src dst v headThere with
    | some (k, _, h) =>
      let t := { s with net := s.net.eraseIdx k }
      (t.inc (NR n 0x4C)).faultHw 0x0105 (8 * n + h.inp) (packLE [(n % 8, 1), (n / 8, 1), (h.inp, 1)])
    | none => s

/-- A data flit of the packet is uncorrectable as router `n` receives it: the packet goes on with its poison mark, header
bit 27 (R207). -/
def State.upsetData (s : State) (n src dst v : Nat) : State :=
  match s.struck n src dst v (fun p h => decide (h.sent + h.buf.length < p.flits) && !p.data.isEmpty) with
  | some (k, _, _) =>
    { s with net := modifyAt (fun p => { p with hdr := BitVec.ofNat 256 (setBits p.hdr.toNat 27 1 1) }) s.net k }
  | none => s

/-- UPSET by storage (Table FLT-3). Hardened cells and bits that a vote or a code puts right have no effect beyond what a
counter records. -/
def State.upset (s : State) (u : UpsetAt) : State :=
  match u with
  | .config => s
  | .otp g c i => s.upsetOtp g.val c.val i.val
  | .bank _ _ _ => s
  | .shared r e => s.setShared r.val (flip (s.sharedBits r.val) e.val)
  | .crossing r j => s.setCross r.val (flip (s.crossReg r.val) j.val)
  | .port r p i => s.upsetPort (4 * r.val + p.val) i.val
  | .memory k w i => s.powered (fun t => t.upsetWord k.val w.val i.val)
  | .index q i => s.powered (fun t => t.upsetIndex q.val i.val)
  | .scrub b => s.powered (fun t => t.scrubVote b.val)
  | .control => s
  | .flitOne n => s.powered (fun t => t.inc (NR n.val 0x48))
  | .flitHeader n src dst v => s.upsetHeader n.val src.toNat dst.toNat v.val
  | .flitData n src dst v => s.upsetData n.val src.toNat dst.toNat v.val
  | .sramOne => s
  | .sramTwo => if s.hl.up then { s with hl := { s.hl with halted := true } } else s
  | .core => if s.hl.up || s.hl.restarting then s.restart 1 else s

def execUpset (u : UpsetAt) (s : State) : Host.Outcome State Fault Refusal := .next (s.upset u)

end Sys2Proof.Machine
end

