-- ==== Sys2Proof/Machine/Dispatch.lean ====
section
/-! DEFINITION. One arm per command: the call of its meaning. -/

namespace Sys2Proof.Machine

/-- The effect of a command on everything but the queue. -/
def exec (i : Instr) (s : State) : Host.Outcome State Fault Refusal :=
  match i with
  | .vauxPorRelease boot park mv => Sys2Proof.Machine.execVauxPorRelease boot park mv s
  | .burnRetry mv => Sys2Proof.Machine.execBurnRetry mv s
  | .otpBurnDone => Sys2Proof.Machine.execOtpBurnDone s
  | .fwRollbackRaise mv => Sys2Proof.Machine.execFwRollbackRaise mv s
  | .bootLoadStart => Sys2Proof.Machine.execBootLoadStart s
  | .tick => Sys2Proof.Machine.execTick s
  | .sourceEvent c => Sys2Proof.Machine.execSourceEvent c s
  | .tickSourceLoss => Sys2Proof.Machine.execTickSourceLoss s
  | .tickPreset => Sys2Proof.Machine.execTickPreset s
  | .reacquire => Sys2Proof.Machine.execReacquire s
  | .alignDone => Sys2Proof.Machine.execAlignDone s
  | .clearSlips => Sys2Proof.Machine.execClearSlips s
  | .targetTickCommit => Sys2Proof.Machine.execTargetTickCommit s
  | .scheduledSwap r => Sys2Proof.Machine.execScheduledSwap r s
  | .fabricSwapRequest r => Sys2Proof.Machine.execFabricSwapRequest r s
  | .swap => Sys2Proof.Machine.execSwap s
  | .contentionDetect k => Sys2Proof.Machine.execContentionDetect k s
  | .fmpNop r p => Sys2Proof.Machine.execFmpNop r p s
  | .fmpRead r p => Sys2Proof.Machine.execFmpRead r p s
  | .fmpWrite r p => Sys2Proof.Machine.execFmpWrite r p s
  | .push r p => Sys2Proof.Machine.execPush r p s
  | .pop r p => Sys2Proof.Machine.execPop r p s
  | .lookup r p => Sys2Proof.Machine.execLookup r p s
  | .histAdd r p => Sys2Proof.Machine.execHistAdd r p s
  | .readout r p => Sys2Proof.Machine.execReadout r p s
  | .laneWord n w ctrl => Sys2Proof.Machine.execLaneWord n w ctrl s
  | .readoutRecordSend q => Sys2Proof.Machine.execReadoutRecordSend q s
  | .scrubVisit b portFree => Sys2Proof.Machine.execScrubVisit b portFree s
  | .qcClear q => Sys2Proof.Machine.execQcClear q s
  | .qcResume q => Sys2Proof.Machine.execQcResume q s
  | .qcClrCnt q => Sys2Proof.Machine.execQcClrCnt q s
  | .qcLutSwap q => Sys2Proof.Machine.execQcLutSwap q s
  | .qcAccess q v => Sys2Proof.Machine.execQcAccess q v s
  | .qcAccessDone q => Sys2Proof.Machine.execQcAccessDone q s
  | .packetInject node hdr data => Sys2Proof.Machine.execPacketInject node hdr data s
  | .csrReadRequest src dst => Sys2Proof.Machine.execCsrReadRequest src dst s
  | .csrWriteRequest src dst => Sys2Proof.Machine.execCsrWriteRequest src dst s
  | .csrResponse src dst => Sys2Proof.Machine.execCsrResponse src dst s
  | .csrTimeout node tag => Sys2Proof.Machine.execCsrTimeout node tag s
  | .bulkData src dst => Sys2Proof.Machine.execBulkData src dst s
  | .tracePacket src dst => Sys2Proof.Machine.execTracePacket src dst s
  | .txRingPoll r => Sys2Proof.Machine.execTxRingPoll r s
  | .filterMatch n f oport hdr ready => Sys2Proof.Machine.execFilterMatch n f oport hdr ready s
  | .nrSlackEnter n => Sys2Proof.Machine.execNrSlackEnter n s
  | .slackDrained n d => Sys2Proof.Machine.execSlackDrained n d s
  | .slackEnd n len => Sys2Proof.Machine.execSlackEnd n len s
  | .slackAbort n => Sys2Proof.Machine.execSlackAbort n s
  | .nrClrCnt n => Sys2Proof.Machine.execNrClrCnt n s
  | .pspWord w => Sys2Proof.Machine.execPspWord w s
  | .pspIdle => Sys2Proof.Machine.execPspIdle s
  | .sspNibble x => Sys2Proof.Machine.execSspNibble x s
  | .sspCsRise => Sys2Proof.Machine.execSspCsRise s
  | .imageHeader => Sys2Proof.Machine.execImageHeader s
  | .loadHoldEdge => Sys2Proof.Machine.execLoadHoldEdge s
  | .frameRecord => Sys2Proof.Machine.execFrameRecord s
  | .imageTrailer => Sys2Proof.Machine.execImageTrailer s
  | .trailerStageDone => Sys2Proof.Machine.execTrailerStageDone s
  | .setStageDone => Sys2Proof.Machine.execSetStageDone s
  | .loadStall => Sys2Proof.Machine.execLoadStall s
  | .seqSlotRelease => Sys2Proof.Machine.execSeqSlotRelease s
  | .seqStepComplete => Sys2Proof.Machine.execSeqStepComplete s
  | .seqTimeout => Sys2Proof.Machine.execSeqTimeout s
  | .chunkProgramDone => Sys2Proof.Machine.execChunkProgramDone s
  | .sealDone => Sys2Proof.Machine.execSealDone s
  | .regionReleaseEdge => Sys2Proof.Machine.execRegionReleaseEdge s
  | .sof p param c => Sys2Proof.Machine.execSof p param c s
  | .cal p seq => Sys2Proof.Machine.execCal p seq s
  | .echo p seq rt => Sys2Proof.Machine.execEcho p seq rt s
  | .idle p param => Sys2Proof.Machine.execIdle p param s
  | .keep p param => Sys2Proof.Machine.execKeep p param s
  | .sleep p => Sys2Proof.Machine.execSleep p s
  | .wake p => Sys2Proof.Machine.execWake p s
  | .exchangeMessage p param slices crcOk late => Sys2Proof.Machine.execExchangeMessage p param slices crcOk late s
  | .superMsg p m => Sys2Proof.Machine.execSuperMsg p m s
  | .enumMsg p m => Sys2Proof.Machine.execEnumMsg p m s
  | .enumRpt p m => Sys2Proof.Machine.execEnumRpt p m s
  | .cald p m => Sys2Proof.Machine.execCald p m s
  | .faultMsg p m => Sys2Proof.Machine.execFaultMsg p m s
  | .mbreq p m => Sys2Proof.Machine.execMbreq p m s
  | .mbrsp p m => Sys2Proof.Machine.execMbrsp p m s
  | .bcast p m => Sys2Proof.Machine.execBcast p m s
  | .image p m => Sys2Proof.Machine.execImage p m s
  | .loadRpt p m => Sys2Proof.Machine.execLoadRpt p m s
  | .bcastEnd => Sys2Proof.Machine.execBcastEnd s
  | .superframeStart => Sys2Proof.Machine.execSuperframeStart s
  | .calComplete p => Sys2Proof.Machine.execCalComplete p s
  | .linkDown p => Sys2Proof.Machine.execLinkDown p s
  | .linkUp p => Sys2Proof.Machine.execLinkUp p s
  | .bypassReturn up => Sys2Proof.Machine.execBypassReturn up s
  | .faultReportWait => Sys2Proof.Machine.execFaultReportWait s
  | .ring m => Sys2Proof.Machine.execRing m s
  | .ack m => Sys2Proof.Machine.execAck m s
  | .clrLost m => Sys2Proof.Machine.execClrLost m s
  | .evtRdWrite m v => Sys2Proof.Machine.execEvtRdWrite m v s
  | .requestAged m => Sys2Proof.Machine.execRequestAged m s
  | .serviceStart => Sys2Proof.Machine.execServiceStart s
  | .serviceTimeout => Sys2Proof.Machine.execServiceTimeout s
  | .jobSlice => Sys2Proof.Machine.execJobSlice s
  | .watchdogExpiry => Sys2Proof.Machine.execWatchdogExpiry s
  | .lockstepMismatch => Sys2Proof.Machine.execLockstepMismatch s
  | .restartDone => Sys2Proof.Machine.execRestartDone s
  | .identify => Sys2Proof.Machine.execIdentify s
  | .status => Sys2Proof.Machine.execStatus s
  | .loadStart => Sys2Proof.Machine.execLoadStart s
  | .loadData => Sys2Proof.Machine.execLoadData s
  | .loadAbort => Sys2Proof.Machine.execLoadAbort s
  | .loadReport => Sys2Proof.Machine.execLoadReport s
  | .loadGroup => Sys2Proof.Machine.execLoadGroup s
  | .seqStatus => Sys2Proof.Machine.execSeqStatus s
  | .seqComplete => Sys2Proof.Machine.execSeqComplete s
  | .schedStage => Sys2Proof.Machine.execSchedStage s
  | .schedCommit => Sys2Proof.Machine.execSchedCommit s
  | .schedDiscard => Sys2Proof.Machine.execSchedDiscard s
  | .regionRelease => Sys2Proof.Machine.execRegionRelease s
  | .regionStatus => Sys2Proof.Machine.execRegionStatus s
  | .qdescSet => Sys2Proof.Machine.execQdescSet s
  | .lutSwap => Sys2Proof.Machine.execLutSwap s
  | .queueCmd => Sys2Proof.Machine.execQueueCmd s
  | .qwordRead => Sys2Proof.Machine.execQwordRead s
  | .qwordWrite => Sys2Proof.Machine.execQwordWrite s
  | .csrRead => Sys2Proof.Machine.execCsrRead s
  | .csrWrite => Sys2Proof.Machine.execCsrWrite s
  | .routerSet drained d len => Sys2Proof.Machine.execRouterSet drained d len s
  | .tickP => Sys2Proof.Machine.execTickP s
  | .tickCtrl => Sys2Proof.Machine.execTickCtrl s
  | .framePreset => Sys2Proof.Machine.execFramePreset s
  | .swapWave => Sys2Proof.Machine.execSwapWave s
  | .powerMode => Sys2Proof.Machine.execPowerMode s
  | .clockSet => Sys2Proof.Machine.execClockSet s
  | .tempLimits => Sys2Proof.Machine.execTempLimits s
  | .chainRole => Sys2Proof.Machine.execChainRole s
  | .chainGen => Sys2Proof.Machine.execChainGen s
  | .chainCal => Sys2Proof.Machine.execChainCal s
  | .rosterRead => Sys2Proof.Machine.execRosterRead s
  | .faultRead => Sys2Proof.Machine.execFaultRead s
  | .bcastStart => Sys2Proof.Machine.execBcastStart s
  | .bcastStatus => Sys2Proof.Machine.execBcastStatus s
  | .bcastAbort => Sys2Proof.Machine.execBcastAbort s
  | .forward => Sys2Proof.Machine.execForward s
  | .forwardTimeout slot => Sys2Proof.Machine.execForwardTimeout slot s
  | .fetch => Sys2Proof.Machine.execFetch s
  | .remoteEvents => Sys2Proof.Machine.execRemoteEvents s
  | .lcRead => Sys2Proof.Machine.execLcRead s
  | .lcTransition mv => Sys2Proof.Machine.execLcTransition mv s
  | .secBurn mv => Sys2Proof.Machine.execSecBurn mv s
  | .rollbackSet mv => Sys2Proof.Machine.execRollbackSet mv s
  | .customerKey mv => Sys2Proof.Machine.execCustomerKey mv s
  | .imageKey mv => Sys2Proof.Machine.execImageKey mv s
  | .debugChallenge => Sys2Proof.Machine.execDebugChallenge s
  | .debugResponse => Sys2Proof.Machine.execDebugResponse s
  | .loanRequest => Sys2Proof.Machine.execLoanRequest s
  | .loanRelease => Sys2Proof.Machine.execLoanRelease s
  | .probeSet => Sys2Proof.Machine.execProbeSet s
  | .probeArm => Sys2Proof.Machine.execProbeArm s
  | .loanList => Sys2Proof.Machine.execLoanList s
  | .storeOpen => Sys2Proof.Machine.execStoreOpen s
  | .storeData mv => Sys2Proof.Machine.execStoreData mv s
  | .storeSeal => Sys2Proof.Machine.execStoreSeal s
  | .storeInfo => Sys2Proof.Machine.execStoreInfo s
  | .bootRecordSet mv => Sys2Proof.Machine.execBootRecordSet mv s
  | .bootRecordGet => Sys2Proof.Machine.execBootRecordGet s
  | .logRead => Sys2Proof.Machine.execLogRead s
  | .logClear => Sys2Proof.Machine.execLogClear s
  | .fwOpen => Sys2Proof.Machine.execFwOpen s
  | .fwData mv => Sys2Proof.Machine.execFwData mv s
  | .fwSeal => Sys2Proof.Machine.execFwSeal s
  | .fwActivate => Sys2Proof.Machine.execFwActivate s
  | .bwRequest frame => Sys2Proof.Machine.execBwRequest frame s
  | .bwStatus frame => Sys2Proof.Machine.execBwStatus frame s
  | .bwResponse frame => Sys2Proof.Machine.execBwResponse frame s
  | .bwAck frame => Sys2Proof.Machine.execBwAck frame s
  | .bwEvents frame => Sys2Proof.Machine.execBwEvents frame s
  | .bwEvtMask frame => Sys2Proof.Machine.execBwEvtMask frame s
  | .search frame => Sys2Proof.Machine.execSearch frame s
  | .bwIdentify frame => Sys2Proof.Machine.execBwIdentify frame s
  | .assign frame => Sys2Proof.Machine.execAssign frame s
  | .barrierResponse => Sys2Proof.Machine.execBarrierResponse s
  | .heartbeat => Sys2Proof.Machine.execHeartbeat s
  | .heartbeatLoss => Sys2Proof.Machine.execHeartbeatLoss s
  | .resync => Sys2Proof.Machine.execResync s
  | .vhostDown => Sys2Proof.Machine.execVhostDown s
  | .trimWindow e => Sys2Proof.Machine.execTrimWindow e s
  | .clockDead src edges => Sys2Proof.Machine.execClockDead src edges s
  | .spll0ReferenceMove => Sys2Proof.Machine.execSpll0ReferenceMove s
  | .pllLock pll => Sys2Proof.Machine.execPllLock pll s
  | .rampStep n => Sys2Proof.Machine.execRampStep n s
  | .gateClose g boundary => Sys2Proof.Machine.execGateClose g boundary s
  | .deepSleepReached => Sys2Proof.Machine.execDeepSleepReached s
  | .wakeComplete => Sys2Proof.Machine.execWakeComplete s
  | .tempSample tj => Sys2Proof.Machine.execTempSample tj s
  | .laneAligned n lat => Sys2Proof.Machine.execLaneAligned n lat s
  | .laneAlignmentLoss n => Sys2Proof.Machine.execLaneAlignmentLoss n s
  | .lnClrCnt n => Sys2Proof.Machine.execLnClrCnt n s
  | .realignLane n => Sys2Proof.Machine.execRealignLane n s
  | .laneTransmit src q => Sys2Proof.Machine.execLaneTransmit src q s
  | .throttleSignal n => Sys2Proof.Machine.execThrottleSignal n s
  | .bypass => Sys2Proof.Machine.execBypass s
  | .samplePreload pins => Sys2Proof.Machine.execSamplePreload pins s
  | .extest => Sys2Proof.Machine.execExtest s
  | .idcode => Sys2Proof.Machine.execIdcode s
  | .extestPulse => Sys2Proof.Machine.execExtestPulse s
  | .extestTrain => Sys2Proof.Machine.execExtestTrain s
  | .probeTrigger => Sys2Proof.Machine.execProbeTrigger s
  | .soundingEnd => Sys2Proof.Machine.execSoundingEnd s
  | .pbStop => Sys2Proof.Machine.execPbStop s
  | .pbFree => Sys2Proof.Machine.execPbFree s
  | .pbClrDrop => Sys2Proof.Machine.execPbClrDrop s
  | .zvClrCnt p => Sys2Proof.Machine.execZvClrCnt p s
  | .zvMeasure p => Sys2Proof.Machine.execZvMeasure p s
  | .vcoreBrownout mv => Sys2Proof.Machine.execVcoreBrownout mv s
  | .vcoreRecovered => Sys2Proof.Machine.execVcoreRecovered s
  | .railFall rail => Sys2Proof.Machine.execRailFall rail s
  | .registerWrite addr v => Sys2Proof.Machine.execRegisterWrite addr v s
  | .clockEdge clk pins => Sys2Proof.Machine.execClockEdge clk pins s
  | .slotWheel q => Sys2Proof.Machine.execSlotWheel q s
  | .upset u => Sys2Proof.Machine.execUpset u s
  | .vauxFall => Sys2Proof.Machine.execVauxFall s
  | .railValid rail => Sys2Proof.Machine.execRailValid rail s
  | .vioPresenceLoss b => Sys2Proof.Machine.execVioPresenceLoss b s
  | .pllUnlock pll => Sys2Proof.Machine.execPllUnlock pll s
  | .clockAlive src => Sys2Proof.Machine.execClockAlive src s
  | .sleepReached => Sys2Proof.Machine.execSleepReached s

end Sys2Proof.Machine
end

