-- ==== Sys2Proof/WellFormed.lean ====
section
/-! DEFINITION. Which commands are well formed: the bounds that the spec gives the operands whose types admit more. What
the block itself checks (CRCs, lengths of frames and messages against their contents, addresses) is no part of this: an
ill-formed message is a command like any other. -/

namespace Sys2Proof

/-- Bytes of a message payload (Table ZVL-2: LEN is 0 to 544). -/
def ZMsg.wf (m : ZMsg) : Bool := decide (m.payload.length ≤ 544)

/-- A count of fabric cycles within a frame: P is at most 4096 and a realignment lengthens one frame by less than P
(R40, R42). -/
def countOk (c : Nat) : Bool := decide (c < 8192)

/-- A reading of HOLDUP_SENSE in mV (spec/08 R270): 16 bits. -/
def senseOk (mv : Nat) : Bool := decide (mv ≤ 2000)

/-- A host frame: 10 + LEN bytes, LEN of 9 bits (Table BWP-5). -/
def frameOk (f : List Byte) : Bool := decide (f.length ≤ 521)

/-- The commands whose operands keep the spec's bounds. -/
def Instr.wf : Instr → Bool
  | .vauxPorRelease _ _ mv => senseOk mv
  | .burnRetry mv => senseOk mv
  | .fwRollbackRaise mv => senseOk mv
  | .sourceEvent c => countOk c
  | .packetInject _ _ data => decide (data.length ≤ 64)
  | .slackEnd _ len => decide (len < 2 ^ 20)
  | .sof _ _ c => countOk c
  | .echo _ _ rt => decide (rt < 2 ^ 32)
  | .exchangeMessage _ _ slices _ _ => decide (slices.length ≤ 16)
  | .superMsg _ m => m.wf
  | .enumMsg _ m => m.wf
  | .enumRpt _ m => m.wf
  | .cald _ m => m.wf
  | .faultMsg _ m => m.wf
  | .mbreq _ m => m.wf
  | .mbrsp _ m => m.wf
  | .bcast _ m => m.wf
  | .image _ m => m.wf
  | .loadRpt _ m => m.wf
  | .routerSet _ _ len => decide (len < 2 ^ 20)
  | .lcTransition mv => senseOk mv
  | .secBurn mv => senseOk mv
  | .rollbackSet mv => senseOk mv
  | .customerKey mv => senseOk mv
  | .imageKey mv => senseOk mv
  | .storeData mv => senseOk mv
  | .bootRecordSet mv => senseOk mv
  | .fwData mv => senseOk mv
  | .bwRequest f => frameOk f
  | .bwStatus f => frameOk f
  | .bwResponse f => frameOk f
  | .bwAck f => frameOk f
  | .bwEvents f => frameOk f
  | .bwEvtMask f => frameOk f
  | .search f => frameOk f
  | .bwIdentify f => frameOk f
  | .assign f => frameOk f
  | .laneAligned _ lat => decide (lat < 65536)
  | .vcoreBrownout mv => senseOk mv
  | .clockEdge _ pins => decide (pins.length ≤ 768)
  | _ => true

end Sys2Proof
end

