-- ==== Sys2Proof/Safety.lean ====
section
/-! DEFINITION. The terms in which claims are made: what it is for a command to complete, for a request to be answered, and
for a state to be sound. -/

namespace Sys2Proof.Machine

/-- Command `c` completes in state `s` with a next state of which `P` holds. -/
def Completes (c : Instr) (s : State) (P : State → Prop) : Prop := ∃ t, exec c s = .next t ∧ P t

/-- Request `v` with opcode `op` is in service, and Headland's firmware runs (R348, R511). -/
def State.serves (s : State) (v : Service) (op : Nat) : Prop :=
  s.hl.serving = some v ∧ v.op = op ∧ s.hl.halted = false

/-- In `t` the request `v` that `s` served has been answered with STATUS `status` and payload `body` (R345, R346): the
response stands in the window, the window reads DONE (MB1's response leaves on the chain and MB1 is free, log 35), and a job
slice is due (R350). -/
def State.answered (s t : State) (v : Service) (status : Nat) (body : List Byte) : Prop :=
  (t.mbox v.mb).rsp = putRsp (s.mbox v.mb).rsp (rspBytes v.op v.tag status body) ∧
  (t.mbox v.mb).st = (if v.mb = 1 then .idle else .done) ∧
  t.hl.serving = none ∧ t.hl.slice = true ∧
  (v.mb = 1 → ∃ y : ZMsg, (upPorts, .msg tMbrsp y) ∈ t.chain.sent ∧ y.payload = rspBytes v.op v.tag status body ∧
    y.dst = BitVec.ofNat 12 (s.mbox 1).from_)

/-- Beside Headland's own state, `t` differs from `s` in nothing but the response, the STATE and the age of mailbox `m`, and in
what leaves on the chain for MB1: one MBRSP, numbered. -/
def State.onlyWindow (s t : State) (m : Nat) : Prop :=
  { t with mb := s.mb, hl := s.hl, chain := s.chain } = s ∧ (∀ k, k ≠ m → t.mbox k = s.mbox k) ∧
  { t.mbox m with rsp := (s.mbox m).rsp, st := (s.mbox m).st, aged := (s.mbox m).aged } = s.mbox m ∧
  (m ≠ 1 → t.chain = s.chain) ∧
  (m = 1 → { t.chain with sent := s.chain.sent, seqs := s.chain.seqs } = s.chain ∧
    ∃ y, t.chain.sent = s.chain.sent ++ [(upPorts, .msg tMbrsp y)])

/-- `t` differs from `s` in nothing but the answer in window `m` and the service, which has ended. -/
def State.onlyAnswer (s t : State) (m : Nat) : Prop :=
  s.onlyWindow t m ∧ t.hl = { s.hl with serving := none, slice := true }

/-- The request `v` has been answered OK and its change taken for target frame `f` (R56, R57): one accepted change more, with
the mailbox and the tag, and nothing else. -/
def State.taken (s t : State) (v : Service) (f : Nat) (what : Change) : Prop :=
  s.answered t v 0 [] ∧ s.onlyWindow t v.mb ∧
  t.hl = { s.hl with changes := s.hl.changes ++ [⟨f, v.mb, v.tag, what, s.holdBack f⟩], serving := none, slice := true }

/-- In `t` the unit has handed over `l` to its chain ports since `s`, and behind it nothing but the answer of MB1. -/
def State.sends (s t : State) (v : Service) (l : List (List Nat × ZOut)) : Prop :=
  ∃ rest, t.chain.sent = s.chain.sent ++ l ++ rest ∧ (v.mb ≠ 1 → rest = [])

/-- In `t` the level of CK_TEMP and the EV_TEMP events are those that the junction temperature `tj`, the one before it `old`
and the limits of `limits` give (R466); each event carries `tj` and the level that it reports. -/
def State.tempSeen (s t : State) (old tj limits : Nat) : Prop :=
  let warn := signed (limits % 65536) 16
  let crit := signed (limits / 65536) 16
  let now := signed tj 16
  let level := s.fld (CK 0x208) 16 2
  let rises : Prop := crit ≤ now ∧ (level ≠ 2 ∨ signed old 16 < crit)
  let shows (n : Nat) (l : List Nat) : Prop := t.fld (CK 0x208) 16 2 = n ∧
    t.hl.latches = s.hl.latches ++ l.map (fun k => ⟨0x0C, 0, tj + k * 2 ^ 16, 0⟩)
  (level = 0 → warn ≤ now → now < crit → shows 1 [1]) ∧
  (level = 0 → warn ≤ now → crit ≤ now → shows 2 [1, 2]) ∧
  (¬(level = 0 ∧ warn ≤ now) → rises → shows 2 [2]) ∧
  (level ≠ 0 → ¬rises → now ≤ warn - 16 → shows 0 [0]) ∧
  (¬(level = 0 ∧ warn ≤ now) → ¬rises → ¬(level ≠ 0 ∧ now ≤ warn - 16) → shows level []) ∧
  (rises → s.bit (CK 0x200) 1 = true → s.mode ≠ 2 → ∃ f, t.clk = { s.clk with self := some (f, 2) }) ∧
  (s.bit (CK 0x200) 1 = false ∨ ¬rises → t.clk = s.clk)

/-- The request `v` has been refused with STATUS `status` and DETAIL `detail` (R345), and nothing else is changed. -/
def State.turnedAway (s t : State) (v : Service) (status detail : Nat) : Prop :=
  s.answered t v status (bytesLE detail 4) ∧ s.onlyAnswer t v.mb

/-- No router on the way of Headland's request to address `a` of node `dst`, nor on the way of its response, discards it (R23,
R227). -/
def State.openWay (s : State) (dst a : Nat) : Prop :=
  s.stopsAt (headlandPacket dst a false 0 0) = none ∧ s.stopsAt (headlandResponse dst (headlandPacket dst a false 0 0) 0 0) = none

/-- In `t` packets of Headland's have crossed routers since `s`: the routers' flit counters have moved, and nothing else
(R229). -/
def State.crossed (s t : State) : Prop :=
  { t with csr := s.csr } = s ∧ ∀ a, (∀ n i, n < 48 → i < 32 → a ≠ NR n (0x100 + 4 * i)) → t.reg a = s.reg a

/-- In `t` the source event at count `c` of `s` has been taken (R42 to R45): shown, counted as a slip where it has a phase error,
and followed by a lock, a realignment or nothing. -/
def State.sourceSeen (s t : State) (c : Nat) : Prop :=
  let d := (c + s.ofs) % s.P
  t.reg (CK 0x82C) = d % 4096 + c % 4096 * 2 ^ 16 ∧
  t.fld (CK 0x80C) 16 16 = (if d = 0 then s.fld (CK 0x80C) 16 16 else min (s.fld (CK 0x80C) 16 16 + 1) 65535) ∧
  (∀ a, a ≠ CK 0x82C → a ≠ CK 0x80C → t.reg a = s.reg a) ∧
  t.tick.evt = true ∧ t.tick.quiet = 0 ∧ t.tick.frame = s.tick.frame ∧ t.tick.count = s.tick.count ∧
  (s.tick.ext ≠ 0 → t.tick.ext = s.tick.ext ∧ t.tick.slips = s.tick.slips ∧ t.locked = s.locked) ∧
  (s.tick.ext = 0 → s.locked = true → t.locked = true ∧
    (d = 0 → t.tick.slips = 0 ∧ t.tick.ext = 0) ∧
    (d ≠ 0 → s.tick.slips + 1 < s.slipLimit → t.tick.slips = s.tick.slips + 1 ∧ t.tick.ext = 0) ∧
    (d ≠ 0 → s.slipLimit ≤ s.tick.slips + 1 → t.tick.slips = 0 ∧ t.tick.ext = d)) ∧
  (s.tick.ext = 0 → s.locked = false →
    (d = 0 → t.locked = true ∧ t.tick.acq = false ∧ t.tick.ext = 0) ∧
    (d ≠ 0 → t.locked = false ∧ t.tick.ext = d))

/-- In `t` a calibration on the active UP port `p` has ended (R311): D and E of the unit are those of the port, and with E within its
bound OFS and ADJ are written (R58) and the unit is ALIGNED where the chain is its tick source, otherwise it is not ALIGNED. -/
def State.calibrated (s t : State) (p : Nat) : Prop :=
  let d := (t.reg (ZV p 0xC) + t.reg (ZV p 8)) % 2 ^ 32
  let e := (t.reg (ZV p 0x10) + 1 + t.fld (ZV p 0x14) 16 16) % 2 ^ 32
  let n := s.dCycles d
  let ofs := (s.P - n % s.P) % s.P
  t.reg (ZV 0 0x814) = d ∧ t.reg (ZV 0 0x818) = e ∧
  (e * 15625 * 2 * s.tc.2 ≤ s.tc.1 * 100000 → t.fld (CK 0x808) 0 12 = ofs % 4096 ∧
    t.fld (CK 0x820) 0 16 = (n + ofs) / s.P % 65536 ∧ (s.src = 2 → t.bit (CK 0x80C) 2 = true)) ∧
  (s.tc.1 * 100000 < e * 15625 * 2 * s.tc.2 → t.bit (CK 0x80C) 2 = false)

/-- A sound state: the memory is in its canonical form. -/
def State.sound (s : State) : Prop := Memory.wf s.mem = true

/-- A safe step answers a next state that is sound. -/
def Safe (s : State) : Prop := ∃ t, step s = .next t ∧ t.sound

end Sys2Proof.Machine
end

