-- ==== Sys2Proof/Certificates/Slice0/Obligations.lean ====
section
/-! DEFINITION. The statements for the provers: what each command does where it runs, what it leaves alone, and what every
step keeps. -/

section

open Sys2Proof Sys2Proof.Machine

/-! ## The step, the queue, soundness -/

/-- A step takes the command at the front of the queue and answers what exec answers with the queue's rest; on an empty queue
the block idles (DESIGN CHOICE log 6). -/
def Obligations.StepRunsFront : Prop :=
  (∀ (s : State) (c : Instr) (rest : List Instr), s.pending = c :: rest → step s = exec c { s with pending := rest }) ∧
  (∀ s : State, s.pending = [] → step s = .next s)

/-- Every command completes in every state: exec answers a next state, whatever the command, its operands and the state; none
of them stops the block, and none touches the commands that wait. -/
def Obligations.CommandsLeaveQueue : Prop :=
  ∀ (c : Instr) (s : State), ∃ t : State, Sys2Proof.Machine.exec c s = .next t ∧ t.pending = s.pending

/-- Every step keeps the memory's canonical form: offsets strictly rising, no entry equal to what an unlisted byte reads
as. -/
def Obligations.StepKeepsMemoryForm : Prop :=
  ∀ s t : State, s.sound → step s = .next t → t.sound

/-- From a sound state, any number of steps runs to a sound state: nothing stops the block and the memory keeps its
form. -/
def Obligations.RunsStaySound : Prop :=
  ∀ (n : Nat) (s : State), s.sound → ∃ t : State, Host.Core.run Sys2Proof.core n s = .next t ∧ t.sound

/-- The state after reset: it is sound and no command waits; every register of the CSR map reads its table's reset value (the
fields of spec/02, 05, 06, 07, 10, 11, 15, 16, 17), every region is in context 0 without a schedule, no mailbox holds a
request, and the life-cycle state is OPEN (the model's choice, log 11). -/
def Obligations.ResetState : Prop :=
  State.reset.sound ∧ State.reset.pending = [] ∧
  (∀ a, State.reset.reg a = (regReset a).toNat) ∧
  (∀ r, State.reset.region r = {}) ∧ (∀ q, State.reset.queue q = {}) ∧ (∀ m, (State.reset.mbox m).st = .idle) ∧
  State.reset.P = 16 ∧ State.reset.src = 0 ∧ State.reset.ofs = 0 ∧ State.reset.wMax = 8 ∧ State.reset.frameNo = 0 ∧
  State.reset.mode = 0 ∧ State.reset.locked = false ∧
  State.reset.hl.up = false ∧ State.reset.on = false ∧ State.reset.lc = 4

/-- OTP changes only where bits are burnt, where an upset flips one, or where a burn is cut by the fall of VAUX: every
other command leaves every OTP cell alone (spec/14 R417, R428, spec/18 R511). A burn only sets bits: a bit that stands
in a copy before OTP_BURN_DONE stands in it afterwards, and the bits of the burn that ran stand in all three copies.
Completion: otpBurnDone. -/
def Obligations.BurnsOnlySetBits : Prop :=
  (∀ (c : Instr) (s : State), c ≠ .otpBurnDone → c ≠ .vauxFall → (∀ u, c ≠ .upset u) →
    Completes c s (fun t => t.life.otp = s.life.otp)) ∧
  (∀ s : State, Completes .otpBurnDone s (fun t =>
    (∀ g c i, i < 512 → c < 3 → (s.otpCopy g c).testBit i = true → (t.otpCopy g c).testBit i = true) ∧
    (∀ g v rest, s.life.burns = (g, v) :: rest → s.life.burning = true →
      ∀ c, c < 3 → t.otpCopy g c = s.otpCopy g c ||| v.toNat) ∧
    t.mem = s.mem ∧ t.pending = s.pending))

/-! ## Requests (spec/12) -/

/-- The requests that only read: each is answered OK with its response data and changes nothing else (Tables CMD-4, CMD-5,
CMD-7, CMD-12, CMD-13, CMD-14, R370, R371). The model's choices in them: GEN_LOADED 0 while unconfigured (log 122), LC_STATE
of IDENTIFY as LC_READ reports it (log 73), at most 60 loans of LOAN_LIST (log 75), a boot record of zeros while no copy is
valid (log 53). Completion: identify, status, loadReport, seqStatus, regionStatus, lcRead,
loanList, storeInfo, bootRecordGet, logRead. -/
def Obligations.ReadingRequests : Prop :=
  ∀ (s : State) (v : Service),
    (s.serves v 0x0101 → Completes .identify s (fun t => s.onlyAnswer t v.mb ∧
      s.answered t v 0 (s.unitBytes ++ body [(0x000B5049, 4), (if Config.grade3 then 3 else 2, 1), (lcCode s.lcBurnt, 1),
        (s.hl.run, 1), (0, 1), ((Config.fwVersion (s.slot (0x10 + s.hl.run)).bytes).toNat, 4), (Config.romVersion.toNat, 4)]))) ∧
    (s.serves v 0x0102 → Completes .status s (fun t => s.onlyAnswer t v.mb ∧
      s.answered t v 0 (body [(s.frameNo, 6), (0, 2), (s.genLoaded, 4), (s.genAnn, 4), (s.zaddr, 2), (s.statusFlags, 2),
        (s.seqReport.1, 1), (s.mode, 1), (s.fld (CK 0x208) 0 16, 2), (0, 8)]))) ∧
    (s.serves v 0x0204 → Completes .loadReport s (fun t => s.onlyAnswer t v.mb ∧
      s.answered t v 0 (bytesLE s.ld.report.toNat 24))) ∧
    (s.serves v 0x0206 → Completes .seqStatus s (fun t => s.onlyAnswer t v.mb ∧
      s.answered t v 0 (body [(s.seqReport.1, 1), (s.seqReport.2.1, 1), (s.seqReport.2.2, 1), (0, 1),
        (if s.sq.released then s.sq.frames else 0, 4)]))) ∧
    (s.serves v 0x0402 → Completes .regionStatus s (fun t => s.onlyAnswer t v.mb ∧
      s.answered t v 0 (body [(s.active (v.u 0 1), 1), (s.fld (RG (v.u 0 1) 0) 16 8, 1), ((s.region (v.u 0 1)).held.toNat, 1),
        ((s.region (v.u 0 1)).cause, 1), ((s.region (v.u 0 1)).committed.toNat, 1), (0, 3)]))) ∧
    (s.serves v 0x0901 → Completes .lcRead s (fun t => s.onlyAnswer t v.mb ∧ s.answered t v 0
      (body [(lcCode s.lcBurnt, 1), (if s.lcBurnt < s.lcIntent then lcCode s.lcIntent else 0, 1), (s.otp gSec, 2),
        (s.imgRollback, 1), (s.fwRollback, 1), (s.life.debugTok.toNat, 1), (s.custSet.toNat + (s.imgUsed 0).toNat * 2 +
          (s.imgUsed 1).toNat * 4 + (s.imgUsed 2).toNat * 8 + (s.imgUsed 3).toNat * 16, 1), (0, 8)]))) ∧
    (s.serves v 0x0A05 → Completes .loanList s (fun t => s.onlyAnswer t v.mb ∧
      s.answered t v 0 (body ([((s.hl.loanList.take 60).length, 2)] ++
        (s.hl.loanList.take 60).flatMap (fun (c, i, m) => [(c, 1), (m, 1), (i, 2)]))))) ∧
    (s.serves v 0x0B04 → Completes .storeInfo s (fun t => s.onlyAnswer t v.mb ∧
      s.answered t v 0 (body [((s.slot (v.u 0 1)).st, 1), (0, 3), ((s.slot (v.u 0 1)).prog, 4), ((s.slot (v.u 0 1)).gen, 4),
        ((s.slot (v.u 0 1)).len, 4)]))) ∧
    (s.serves v 0x0B06 → Completes .bootRecordGet s (fun t => s.onlyAnswer t v.mb ∧
      s.answered t v 0 (bytesLE (s.bootRec.getD 0) 64))) ∧
    (s.serves v 0x0C01 → Completes .logRead s (fun t => s.onlyAnswer t v.mb ∧
      s.answered t v 0 (body ([(s.log.length, 2), (((s.log.drop (v.u 0 2)).take 7).length, 1), (0, 1)] ++
        ((s.log.drop (v.u 0 2)).take 7).flatMap LogEntry.fields))))

/-- The head's reading requests are answered OK, with the entries that Table CMD-11 lays out, and change nothing else. The first
four bytes of FAULT_READ's answer, for which the table gives no layout, are those of ROSTER_READ's (the model's reading, log
51); the ADDR of a VACANT roster entry is the address that its position would have (log 74). The nine commands marked H are refused NOT_READY, NOT_HEAD, on a unit that is not the head (R378). Completion:
rosterRead, faultRead, bcastStatus. -/
def Obligations.HeadRequests : Prop :=
  ∀ (s : State) (v : Service),
    (s.isHead = true →
      (s.serves v 0x0804 → Completes .rosterRead s (fun t => s.onlyAnswer t v.mb ∧
        s.answered t v 0 (body ([(s.fld (ZV 0 0x810) 0 12, 2), (min 10 (s.fld (ZV 0 0x810) 0 12 - v.u 0 2), 1), (0, 1)] ++
          (List.range (min 10 (s.fld (ZV 0 0x810) 0 12 - v.u 0 2))).flatMap (fun i => s.rosterEntry (v.u 0 2 + i)))))) ∧
      (s.serves v 0x0805 → Completes .faultRead s (fun t => s.onlyAnswer t v.mb ∧
        s.answered t v 0 (body ([(s.chain.recs.length, 2), (min 10 (s.chain.recs.length - v.u 0 1), 1), (0, 1)] ++
          ((s.chain.recs.drop (v.u 0 1)).take 10).flatMap (fun e => [(e.rep.origin, 2), (e.rep.code, 1), (0, 1), (e.rep.reporter, 2),
            (0, 2), (e.rep.frame, 6), (0, 2), (e.suppressed, 4), ((s.timePs - e.ps) / 10 ^ 9, 4)]))))) ∧
      (s.serves v 0x0807 → Completes .bcastStatus s (fun t => s.onlyAnswer t v.mb ∧
        s.answered t v 0 (body ([(s.chain.bcast.st, 1), (min 8 (s.chain.bcast.fails.length - v.u 0 1), 1), (0, 2),
          (s.chain.bcast.gen, 4), (s.chain.bcast.ok, 2), (s.chain.bcast.failN, 2), (s.chain.bcast.bytes, 4)] ++
          ((s.chain.bcast.fails.drop (v.u 0 1)).take 8).flatMap (fun e => [(e.1, 2), (e.2, 24)])))))) ∧
    (s.isHead = false → ∀ c op, (c, op) ∈ ([(.chainGen, 0x0802), (.rosterRead, 0x0804), (.faultRead, 0x0805),
        (.bcastStart, 0x0806), (.bcastStatus, 0x0807), (.bcastAbort, 0x0808), (.forward, 0x0810), (.fetch, 0x0811),
        (.remoteEvents, 0x0812)] : List (Instr × Nat)) → s.serves v op →
      Completes c s (fun t => s.onlyAnswer t v.mb ∧ s.answered t v stNOT_READY (bytesLE dNOT_HEAD 4)))

/-- The requests that take a change for a target tick: where the command's own conditions hold and the target is in reach,
the change is taken for that frame, nothing else is changed, and the answer is OK (R56, R57, R139, R140, R174, R191,
R290, R377, R451, R453, R462, R50). A new P or W, a lookup swap and a clock setting are judged with the changes accepted before
them put in (the model's reading, log 31). Completion: regionRelease, qdescSet, lutSwap, tickP, tickCtrl, framePreset,
swapWave, powerMode, clockSet, fwActivate. -/
def Obligations.TargetedChanges : Prop :=
  ∀ (s : State) (v : Service) (f : Nat), s.target (v.tgt 0) = some f →
    (s.serves v 0x0401 → s.groupReleasable (v.u 8 1) = true → (s.releaseGroup (v.u 8 1)).all s.releaseOk = true →
      Completes .regionRelease s (fun t => s.taken t v f (.release (v.u 8 1)))) ∧
    (s.serves v 0x0501 → s.loadCarries (v.q 8) = false → s.descPending (v.q 8) = false →
      s.newDescOk (v.q 8) (v.u 12 20) = true →
      Completes .qdescSet s (fun t => s.taken t v f (.qdesc (v.q 8) (BitVec.ofNat 160 (v.u 12 20))))) ∧
    (s.serves v 0x0502 → s.loadCarries (v.q 8) = false → dMode (s.futureDesc (v.q 8)) = 5 →
      dDouble (s.futureDesc (v.q 8)) = true → Completes .lutSwap s (fun t => s.taken t v f (.lutSwap (v.q 8)))) ∧
    (s.serves v 0x0701 → s.changeKeeps f (.tickP (v.u 8 2)) = true → Completes .tickP s (fun t => s.taken t v f (.tickP (v.u 8 2)))) ∧
    (s.serves v 0x0702 → Completes .tickCtrl s (fun t => s.taken t v f (.tickCtrl (v.u 8 4)))) ∧
    (s.serves v 0x0703 → s.src ≠ 2 → Completes .framePreset s (fun t => s.taken t v f (.preset (v.u 8 6)))) ∧
    (s.serves v 0x0704 → s.changeKeeps f (.wave (v.u 8 1)) = true → Completes .swapWave s (fun t => s.taken t v f (.wave (v.u 8 1)))) ∧
    (s.serves v 0x0705 → v.u 8 1 ≠ s.mode → ¬(s.mode = 2 ∧ v.u 8 1 = 1) → s.ld.phase = .idle →
      (∀ r, r < 96 → (s.region r).held = false) → s.powerPending = false →
      Completes .powerMode s (fun t => s.taken t v f (.power (v.u 8 1)))) ∧
    (s.serves v 0x0706 →
      (let x := applyWrite ((ckFields (v.u 8 4)).getD []) (s.futureClock (v.u 8 4)) (v.u 12 4)
       clockLimits Config.grade3 (fun o => if o = v.u 8 4 then x else s.futureClock o) = true ∧
       ∀ n, spllOf (v.u 8 4) = some n → x = s.futureClock (v.u 8 4) ∨ s.spllUsed n = false) →
      Completes .clockSet s (fun t => s.taken t v f (.clockSet (v.u 8 4) (v.u 12 4)))) ∧
    (s.serves v 0x0D04 → (s.slot (0x10 + v.u 8 1)).st = 2 → Completes .fwActivate s (fun t => s.taken t v f (.activate (v.u 8 1))))

/-- SCHED_COMMIT takes the staged tables of its mailbox for the target tick and empties the staging (R139, R140, R372); it
is refused NOTHING_STAGED where none is staged, NOT_READY where a region named is held, BUSY where an accepted change names
one, SCHEDULE where the tables break the rules, and STALE where the target is out of reach, in this order (the model's
reading, log 67), each time changing nothing. Tables are judged with the changes accepted before put in, at their target
frame and at every later one for which a change is accepted (log 31, log 78). Completion: schedCommit. -/
def Obligations.ScheduleCommit : Prop :=
  ∀ (s : State) (v : Service), s.serves v 0x0302 →
    ((s.mbox v.mb).staged = [] → Completes .schedCommit s (fun t => s.turnedAway t v stNOT_READY dNOTHING_STAGED)) ∧
    ((∃ x ∈ (s.mbox v.mb).staged, (s.region x.1).held = true) →
      Completes .schedCommit s (fun t => s.turnedAway t v stNOT_READY 0)) ∧
    ((∀ x ∈ (s.mbox v.mb).staged, (s.region x.1).held = false) → (∃ x ∈ (s.mbox v.mb).staged, s.changeNames x.1 = true) →
      Completes .schedCommit s (fun t => s.turnedAway t v stBUSY 0)) ∧
    ((s.mbox v.mb).staged ≠ [] → (∀ x ∈ (s.mbox v.mb).staged, (s.region x.1).held = false ∧ s.changeNames x.1 = false) →
      (s.changeKeeps (s.targetNear (v.tgt 0)) (.sched (s.mbox v.mb).staged) = false →
        Completes .schedCommit s (fun t => s.turnedAway t v stCHECK_FAIL dSCHEDULE)) ∧
      (s.changeKeeps (s.targetNear (v.tgt 0)) (.sched (s.mbox v.mb).staged) = true →
        (s.target (v.tgt 0) = none → Completes .schedCommit s (fun t => s.turnedAway t v stSTALE 0)) ∧
        (∀ f, s.target (v.tgt 0) = some f → Completes .schedCommit s (fun t => s.answered t v 0 [] ∧
          (t.mbox v.mb).staged = [] ∧
          t.hl.changes = s.hl.changes ++ [⟨f, v.mb, v.tag, .sched (s.mbox v.mb).staged, s.holdBack f⟩] ∧
          { t with mb := s.mb, hl := s.hl, chain := s.chain } = s))))

/-- SCHED_STAGE puts the table of the request under every region that RMASK names, in the requesting mailbox, and
SCHED_DISCARD empties that mailbox's staging; LOG_CLEAR empties the fault log and leaves its numbering; CHAIN_ROLE
holds HEAD and BASE for the next superframe start; LOAD_GROUP sets LOAD_GRP while no load runs; TEMP_LIMITS writes the
two limits, and the last junction temperature is compared with them: the level that they give is shown and EV_TEMP posted
where it changes (the model's reading, log 49) (R238, R372, R466, R520, Table CMD-11). Completion: schedStage, schedDiscard, logClear, chainRole, loadGroup, tempLimits. -/
def Obligations.SettingRequests : Prop :=
  ∀ (s : State) (v : Service),
    (s.serves v 0x0301 → Completes .schedStage s (fun t => s.answered t v 0 [] ∧
      (∀ r, v.pay.testBit r = true → r < 96 → mget (fun _ => ([] : List Word)) (t.mbox v.mb).staged r =
        (List.range 10).map (fun i => BitVec.ofNat 32 (v.u (12 + 4 * i) 4))) ∧
      (∀ r, v.pay.testBit r = false → mget (fun _ => ([] : List Word)) (t.mbox v.mb).staged r =
        mget (fun _ => ([] : List Word)) (s.mbox v.mb).staged r) ∧
      { t with mb := s.mb, hl := s.hl, chain := s.chain } = s)) ∧
    (s.serves v 0x0303 → Completes .schedDiscard s (fun t => s.answered t v 0 [] ∧ (t.mbox v.mb).staged = [] ∧
      { t with mb := s.mb, hl := s.hl, chain := s.chain } = s)) ∧
    (s.serves v 0x0C02 → Completes .logClear s (fun t => s.answered t v 0 [] ∧ t.log = [] ∧ t.logSeq = s.logSeq ∧
      { t with mb := s.mb, hl := s.hl, chain := s.chain, log := s.log } = s)) ∧
    (s.serves v 0x0801 → Completes .chainRole s (fun t => s.answered t v 0 [] ∧
      t.chain.role = some (decide (v.u 0 1 = 1), v.u 2 2) ∧ { t with mb := s.mb, hl := s.hl, chain := s.chain } = s)) ∧
    (s.serves v 0x0205 → s.ld.phase = .idle → Completes .loadGroup s (fun t => s.answered t v 0 [] ∧
      t.ld = { s.ld with grp := v.u 0 1 } ∧ { t with mb := s.mb, hl := s.hl, chain := s.chain, ld := s.ld } = s)) ∧
    (s.serves v 0x0205 → s.ld.phase ≠ .idle → Completes .loadGroup s (fun t => s.turnedAway t v stBUSY 0)) ∧
    (s.serves v 0x0707 → Completes .tempLimits s (fun t => s.answered t v 0 [] ∧ t.reg (CK 0x20C) = v.u 0 4 ∧
      t.fld (CK 0x208) 0 16 = s.fld (CK 0x208) 0 16 ∧ s.tempSeen t (s.fld (CK 0x208) 0 16) (s.fld (CK 0x208) 0 16) (v.u 0 4) ∧
      (∀ a, a ≠ CK 0x20C → a ≠ CK 0x208 → t.reg a = s.reg a) ∧
      { t with mb := s.mb, hl := s.hl, chain := s.chain, csr := s.csr, clk := s.clk } = s ∧
      t.hl = { s.hl with latches := t.hl.latches, serving := none, slice := true }))

/-- The head's commands that act (R309, R327, R333, R378 to R380): CHAIN_GEN and CHAIN_CAL set what the next SUPER carries;
BCAST_START sends the opening BCAST with generation and flags and starts the broadcast, and with HEAD_TOO the head loads it
too where any unit would; BCAST_ABORT sends the closing one, with byte 0x01, and ends the head's own load of it; FORWARD sends
one MBREQ with the inner request and answers its slot; FETCH answers the slot's response; REMOTE_EVENTS returns and removes
up to six events, and leaves the count of lost ones (the model's reading, log 77). Off the head, CHAIN_CAL measures the UP
ports. Completion:
chainGen, chainCal, bcastStart, bcastAbort, forward, fetch, remoteEvents. -/
def Obligations.HeadActs : Prop :=
  ∀ (s : State) (v : Service),
    let same (t : State) : Prop := { t with mb := s.mb, hl := s.hl, chain := s.chain } = s
    (s.isHead = false → s.serves v 0x0803 → ∀ l, l = upPorts.filter (fun p => s.portUp p && !s.low p) →
      Completes .chainCal s (fun t => s.answered t v 0 [] ∧ same t ∧
        t.chain.meas = s.chain.meas.filter (fun x => !l.contains x.1) ++ l.map (fun p => (p, 0, 0)) ∧
        s.sends t v (l.flatMap (fun _ => (List.range 256).map (fun i => (upPorts, .set setCal i)))))) ∧
    (s.isHead = true →
    (s.serves v 0x0802 → Completes .chainGen s (fun t => s.answered t v 0 [] ∧
      t.chain.genSet = (if v.u 0 1 = 1 then some (v.u 4 4) else none) ∧ same t ∧ s.sends t v [])) ∧
    (s.serves v 0x0803 → Completes .chainCal s (fun t => s.answered t v 0 [] ∧ t.chain.epochNext = true ∧ same t ∧ s.sends t v [])) ∧
    (s.serves v 0x0806 → (s.slot (v.u 0 1)).st = 2 → (s.slot (v.u 0 1)).bytes.getD 13 0 = 1 → s.chain.bcast.st ≠ 1 → s.ld.phase = .idle →
      ∀ g, g = (s.slot (v.u 0 1)).gen → Completes .bcastStart s (fun t => s.answered t v 0 [] ∧
        t.chain.bcast = { st := 1, slot := v.u 0 1, flags := v.u 1 1, gen := g, startPs := s.timePs, mb := v.mb, tag := v.tag } ∧
        (∃ m : ZMsg, s.sends t v [(downPorts, .msg tBcast m)] ∧ m.payload = bytesLE g 4 ++ bytesLE (v.u 1 1) 1 ∧
          m.dst = 0xFFF ∧ m.src = BitVec.ofNat 12 s.zaddr ∧ m.crcOk = true) ∧
        ((v.u 1 1).testBit 1 = true → s.takesBcast g (v.u 1 1) = true → t.ld.phase = .header ∧ t.ld.source = 3 ∧ t.ld.kind = 1 ∧
          t.ld.mb = v.mb ∧ t.ld.tag = v.tag) ∧
        ((v.u 1 1).testBit 1 = false ∨ s.takesBcast g (v.u 1 1) = false → same t) ∧ t.store = s.store ∧ t.mem = s.mem)) ∧
    (s.serves v 0x0808 → s.chain.bcast.st = 1 →
      (∀ st, st = { s.chain.bcast with closed := true, aborted := true } →
        (s.chain.bcast.flags.testBit 1 = false ∨ s.ld.source ≠ 3 ∨ s.ld.phase = .idle → Completes .bcastAbort s (fun t =>
          s.answered t v 0 [] ∧ t.chain.bcast = st ∧ same t ∧
          ∃ m : ZMsg, s.sends t v [(downPorts, .msg tBcast m)] ∧ m.payload = [1] ∧ m.dst = 0xFFF)) ∧
        (s.chain.bcast.flags.testBit 1 = true → s.ld.source = 3 → s.ld.phase ≠ .idle → s.ld.boot = false → s.bt.on = false →
          Completes .bcastAbort s (fun t => s.answered t v 0 [] ∧ t.chain.bcast = st ∧ t.store = s.store ∧ t.ld.phase = .idle ∧
            fieldAt t.ld.report.toNat 0 1 = stCONFLICT ∧ fieldAt t.ld.report.toNat 2 2 = dABORTED ∧
            ∃ m : ZMsg, s.sends t v [(downPorts, .msg tBcast m)] ∧ m.payload = [1] ∧ m.dst = 0xFFF)))) ∧
    (s.serves v 0x0810 → v.u 0 2 ≠ s.zaddr → ∀ k, (List.range 32).find? (fun k => !s.chain.fwd.any (fun f => f.slot = k)) = some k →
      Completes .forward s (fun t => s.answered t v 0 [BitVec.ofNat 8 k] ∧
        t.chain.fwd = s.chain.fwd ++ [{ slot := k, dst := v.u 0 2, op := v.u 4 2, tag := v.u 8 2, ps := s.timePs
                                        units := s.chainUnits, fin := decide (v.u 0 2 = 0xFFF ∧ s.chainUnits = 0) }] ∧
        (∃ m : ZMsg, s.sends t v [(downPorts, .msg tMbreq m)] ∧ m.payload = v.str 4 (v.len - 4) ∧
          m.dst = BitVec.ofNat 12 (v.u 0 2) ∧ m.src = BitVec.ofNat 12 s.zaddr) ∧ same t)) ∧
    (s.serves v 0x0811 → ∀ f, s.chain.fwd.find? (fun f => f.slot = v.u 0 1) = some f → f.fin = true →
      Completes .fetch s (fun t => s.answered t v 0 ((s.fwdReply f).take 8 ++ (((s.fwdReply f).drop 8).drop (v.u 2 2)).take 240) ∧
        t.chain.fwd = (if v.u 1 1 = 1 then s.chain.fwd.filter (fun x => x.slot ≠ f.slot) else s.chain.fwd) ∧ same t ∧ s.sends t v [])) ∧
    (s.serves v 0x0812 → Completes .remoteEvents s (fun t => t.chain.remote = s.chain.remote.drop 6 ∧
      s.answered t v 0 (body ([((s.chain.remote.take 6).length, 1), (0, 1), (s.chain.remoteLost, 2)] ++
        (s.chain.remote.take 6).flatMap (fun e => [(e.1, 2), (0, 2), (e.2.toNat, 32)]))) ∧
      t.chain.remoteLost = s.chain.remoteLost ∧ same t ∧ s.sends t v [])))

/-- Load requests (R254, R259, R261, R266, R289, R371): LOAD_START opens the loader on its source and waits for the header; a
stream from MB0 that the boot procedure waits for is its boot load (Table CFG-10); LOAD_DATA appends its bytes; LOAD_ABORT by
the starter, MB0 or MB6 ends the load with CONFLICT, ABORTED, in its report and its event; SEQ_COMPLETE declares the step that
waits; a LOAD_START while a load runs is refused BUSY, and one that names an EMPTY, WRITING or INVALID slot
EMPTY_SLOT. Completion: loadStart, loadData, loadAbort, seqComplete. -/
def Obligations.LoadRequests : Prop :=
  ∀ (s : State) (v : Service),
    (s.serves v 0x0201 → ∀ f, s.loadRefusal v = .ok f →
      (v.mb = 0 → v.u 0 1 = 4 → v.u 2 1 = 1 → s.bt.on = true → s.bt.source = 4 → Completes .loadStart s (fun t => s.answered t v 0 [] ∧
        t.ld.phase = .header ∧ t.ld.source = 4 ∧ t.ld.kind = 1 ∧ t.ld.boot = true ∧ t.ld.mb = 0 ∧ t.ld.tag = v.tag ∧ t.mem = s.mem ∧
        t.csr = s.csr ∧ t.rg = s.rg)) ∧
      (v.mb ≠ 0 ∨ v.u 0 1 ≠ 4 ∨ v.u 2 1 ≠ 1 ∨ s.bt.on = false ∨ s.bt.source ≠ 4 → Completes .loadStart s (fun t => s.answered t v 0 [] ∧ t.ld.phase = .header ∧ t.ld.source = v.u 0 1 ∧ t.ld.kind = v.u 2 1 ∧
        t.ld.release = v.u 3 1 ∧ t.ld.target = f ∧ t.ld.mb = v.mb ∧ t.ld.tag = v.tag ∧ t.ld.grp = s.ld.grp ∧
        t.ld.boot = false ∧ t.ld.report = s.ld.report ∧ t.bt.on = (s.bt.on && decide (v.u 2 1 ≠ 1)) ∧ t.mem = s.mem ∧ t.csr = s.csr ∧
        t.rg = s.rg))) ∧
    (s.serves v 0x0201 → s.ld.phase ≠ .idle → Completes .loadStart s (fun t => s.turnedAway t v stBUSY 0)) ∧
    (s.serves v 0x0201 → s.ld.phase = .idle → s.powerPending = false → v.u 2 1 ≠ 2 ∨ s.sequencing = false → v.u 0 1 = 0 →
      (s.slot (v.u 1 1)).st ≠ 2 → Completes .loadStart s (fun t => s.turnedAway t v stNOT_READY dEMPTY_SLOT)) ∧
    (s.serves v 0x0202 → s.ld.phase ≠ .idle → s.ld.source = 4 → s.ld.mb = v.mb → s.ld.stalled = false → s.ld.wants = true →
      v.u 0 4 = s.ld.took → Completes .loadData s (fun t => s.answered t v 0 [] ∧
        t.ld = { s.ld with buf := s.ld.buf ++ v.data, took := s.ld.took + v.data.length } ∧
        { t with mb := s.mb, hl := s.hl, chain := s.chain, ld := s.ld } = s)) ∧
    (s.serves v 0x0203 → s.ld.phase ≠ .idle → (v.mb = s.ld.mb ∨ v.mb = 0 ∨ v.mb = 6) →
      Completes .loadAbort s (fun t => s.answered t v 0 [] ∧ t.life.otp = s.life.otp ∧
        (s.ld.boot = false → s.bt.on = false → t.ld.phase = .idle ∧ fieldAt t.ld.report.toNat 0 1 = stCONFLICT ∧
          fieldAt t.ld.report.toNat 2 2 = dABORTED ∧ ∃ d ∈ t.hl.directed, d.mb = s.ld.mb ∧ d.tag = s.ld.tag ∧ d.code = 1 ∧
            d.data = t.ld.report.toNat))) ∧
    (s.serves v 0x0203 → s.ld.phase = .idle → Completes .loadAbort s (fun t => s.turnedAway t v stNOT_READY 0)) ∧
    (s.serves v 0x0207 → s.sequencing = true → s.sq.released = true → s.sq.step = v.u 0 1 →
      Completes .seqComplete s (fun t => s.answered t v 0 [] ∧ t.sq = { s.sq with declared := true } ∧
        { t with mb := s.mb, hl := s.hl, chain := s.chain, sq := s.sq } = s))

/-- Queue requests (R162, R176, R294, R374, Table CMD-8). Each goes over the network to its controller, and waits in service
while a router in slack water, an earlier request of Headland's to that target or the want of a tag holds it (R216, R217, R226,
log 145). Where it passes, QUEUE_CMD does what the same bits of QC_CMD do; QWORD_READ answers the words named with their CE and
UE masks, a word with one flipped bit corrected and counted in CE, one with two as it stands and counted in UE, and leaves the
memory; QWORD_WRITE writes the words named and no other byte. The routers count the packets (how many accesses a word takes is
the model's choice, log 183), and the commands stand for the memory cycles of their accesses (log 175). While the routers have
no power the three end TIMEOUT (the model's reading of R12 and R219, log 48). Completion: queueCmd, qwordRead,
qwordWrite. -/
def Obligations.QueueRequests : Prop :=
  ∀ (s : State) (v : Service), s.loadCarries (v.q 0) = false → v.q 0 < 384 →
    let q := v.q 0
    let n (i : Nat) : Nat := popCount (s.flipMask (s.qBlock q (v.u 4 4 + i)) ((v.u 4 4 + i) % 4096)) 72
    let mask (f : Nat) : Nat := ((List.range (v.u 2 2)).map (fun i => if n i = f then 2 ^ i else 0)).sum
    let words : List (Instr × Nat) := [(.qwordRead, 0x0504), (.qwordWrite, 0x0505)]
    let within : Prop := s.qMode q ≠ 0 ∧ v.u 4 4 + v.u 2 2 ≤ s.wq q
    let goes (off : Nat) : Prop := s.routersOn = true ∧ s.headlandWaits (QC q off) = false ∧ s.openWay (clusterNode (q / 12)) (QC q off)
    let only (t : State) (l : List Nat) : Prop := t.rg = s.rg ∧ t.fab = s.fab ∧ (∀ k, k ≠ q → t.queue k = s.queue k) ∧
      { t.queue q with accWait := (s.queue q).accWait } = s.queue q ∧
      ∀ a, (∀ n i, n < 48 → i < 32 → a ≠ NR n (0x100 + 4 * i)) → (∀ off ∈ [0x90, 0x94, 0x98] ++ l, a ≠ QC q off) → t.reg a = s.reg a
    let counts (t : State) (off f : Nat) : Prop :=
      t.reg (QC q off) = min (s.reg (QC q off) + ((List.range (v.u 2 2)).filter (fun i => n i = f)).length) (2 ^ 32 - 1)
    (s.routersOn = false → (s.serves v 0x0503 → Completes .queueCmd s (fun t => s.turnedAway t v stTIMEOUT 0)) ∧
      (within → ∀ x ∈ words, s.serves v x.2 → Completes x.1 s (fun t => s.turnedAway t v stTIMEOUT 0))) ∧
    (s.headlandWaits (QC q 0x80) = true → s.serves v 0x0503 → Completes .queueCmd s (fun t => t = s)) ∧
    (s.headlandWaits (QC q 0x90) = true → within → ∀ x ∈ words, s.serves v x.2 → Completes x.1 s (fun t => t = s)) ∧
    (s.serves v 0x0503 → goes 0x80 → Completes .queueCmd s (fun t => ∃ u w, s.crossed u ∧
      (u.qcCmd q (v.u 2 1)).crossed w ∧ w.answered t v 0 [] ∧ w.onlyAnswer t v.mb)) ∧
    (s.serves v 0x0504 → goes 0x90 → within → (∀ i, i < v.u 2 2 → n i ≤ 2) →
      Completes .qwordRead s (fun t => s.answered t v 0 (body ([(mask 1, 4), (mask 2, 4)] ++ (List.range (v.u 2 2)).map (fun i =>
          let k := s.qBlock q (v.u 4 4 + i)
          let w := (v.u 4 4 + i) % 4096
          (if n i = 2 then s.storedWord k w else s.rawWord k w, 8)))) ∧
        t.mem = s.mem ∧ t.flips = s.flips ∧ only t [0x20, 0x58, 0x5C] ∧ counts t 0x58 1 ∧ counts t 0x5C 2)) ∧
    (s.serves v 0x0505 → goes 0x90 → within → Completes .qwordWrite s (fun t => s.answered t v 0 [] ∧ only t [] ∧
        (∀ i, i < v.u 2 2 → ∀ o, o = v.u 4 4 + i → t.flipMask (s.qBlock q o) (o % 4096) = 0 ∧
          ∀ j, j < 8 → t.byte (8 * wordKey (s.qBlock q o) (o % 4096) + j) = BitVec.ofNat 8 (v.u (8 + 8 * i) 8 / 256 ^ j)) ∧
        ∀ a, (∀ i, i < v.u 2 2 → let o := v.u 4 4 + i
            a < 8 * wordKey (s.qBlock q o) (o % 4096) ∨ 8 * wordKey (s.qBlock q o) (o % 4096) + 8 ≤ a) →
          t.byte a = s.byte a)) ∧
    (s.qMode q = 0 → ∀ x ∈ words, s.serves v x.2 → Completes x.1 s (fun t => s.turnedAway t v stNOT_READY 0)) ∧
    (s.qMode q ≠ 0 → s.wq q < v.u 4 4 + v.u 2 2 → ∀ x ∈ words, s.serves v x.2 → Completes x.1 s (fun t => s.turnedAway t v stBAD_ARG 0))

/-- CSR_READ answers what Headland's access to the addressed register reads, and CSR_WRITE makes that access where R376
lists the register and allows the value; the status of the access passes through (R375), and nothing else is changed. The access
is made at the register itself, where no router on its way is in slack water or discards it; the routers count its packets. A
write of any register outside R376's list, and of the memory, is refused DENIED, a read of an address that no block answers ends
BAD_ARG (R36, R376); a read that READBACK_DISABLE covers is refused DENIED (the model's reading of R434, log 143). An access that
meets a router in slack water, an earlier request to its target or no free tag waits in service (R216, R217, R226; that
Headland's own access is a packet of the model's network which waits so is its choice, log 145). Completion: csrRead,
csrWrite. -/
def Obligations.CsrRequests : Prop :=
  ∀ (s : State) (v : Service),
    let a := v.u 0 4
    let listed : Prop := match blockOf a with
      | .router _ off => off ∈ [0x80, 0x200, 0x204, 0x208, 0x220, 0x224, 0x228, 0x280]
      | .zv _ off => off ∈ [0, 4, 0x14, 0x30]
      | .ck off => off ∈ [0x80C, 0x824]
      | .qc _ off => off = 0x20
      | .ln _ off => off ∈ [0x18, 0x40]
      | _ => False
    let passes (u : State) (st : Nat) (b : List Byte) (t : State) : Prop := t.onlyAnswer u v.mb ∧
      (st = 0 → t.answered u v 0 b) ∧ (st ≠ 0 → t.answered u v st (bytesLE 0 4))
    (∀ dst write wide x, servingNode a = some dst → s.managed a = false → s.routersOn = true → s.openWay dst a →
      (ownRegisters (headlandPacket dst a false 0 0) = true ∨ ∀ r, nodeKind dst = .region r → s.epHeld r = false) →
      ∃ u st y z w, s.crossed u ∧ u.access 3 dst a write wide x = ((st, y), z) ∧ z.crossed w ∧
        s.headlandAccess a write wide x = ((st, y), w)) ∧
    (s.serves v 0x0601 → servingNode a = none → Completes .csrRead s (fun t => s.turnedAway t v stBAD_ARG 0)) ∧
    (s.serves v 0x0601 → s.readbackOff v.mb a = true → Completes .csrRead s (fun t => s.turnedAway t v stDENIED 0)) ∧
    (s.serves v 0x0601 → s.readbackOff v.mb a = false → s.headlandWaits a = true → Completes .csrRead s (fun t => t = s)) ∧
    (s.serves v 0x0601 → s.readbackOff v.mb a = false → s.headlandWaits a = false →
      ∀ st x t, s.headlandAccess a false (v.u 4 1 = 1) 0 = ((st, x), t) →
      Completes .csrRead s (fun u => passes u st (bytesLE x 8) t)) ∧
    (s.serves v 0x0602 → ¬listed → ((∃ off, blockOf a = .mem off) ∨ (regFields a).isSome = true) →
      Completes .csrWrite s (fun t => s.turnedAway t v stDENIED 0)) ∧
    (s.serves v 0x0602 → (regFields a).isSome = true → s.csrRefusal a (v.u 8 4) = none → s.headlandWaits a = true →
      Completes .csrWrite s (fun t => t = s)) ∧
    (s.serves v 0x0602 → (regFields a).isSome = true → s.csrRefusal a (v.u 8 4) = none → s.headlandWaits a = false →
      ∀ st x t, s.headlandAccess a true (v.u 4 1 = 1) (v.u 8 8) = ((st, x), t) → Completes .csrWrite s (fun u => passes u st [] t)) ∧
    (s.serves v 0x0602 → listed → ∀ st, s.csrRefusal a (v.u 8 4) = some st → (regFields a).isSome = true →
      Completes .csrWrite s (fun t => s.turnedAway t v st 0))

/-- ROUTER_SET stages WEIGHT, AGE_MAX and PORT_EN, runs slack water and, where the router drains, puts the staged settings into
force and answers NR_SLACK_TIME with D and the length; where it does not drain, it answers TIMEOUT, the settings in force
stay and ABORT is set (R225 to R228, Table CMD-9); the staged values stay staged then, and while another router is in slack water
it is refused BUSY (both the model's reading, log 69). Routers without power end it TIMEOUT (its reading of R12 and R219, log
48). Completion: routerSet. -/
def Obligations.RouterSet : Prop :=
  ∀ (s : State) (v : Service) (d : Fin 256) (len : Nat), s.serves v 0x0603 →
    ((List.range 48).any s.slackActive = true →
      ∀ b, Completes (.routerSet b d len) s (fun t => s.turnedAway t v stBUSY 0)) ∧
    ((List.range 48).any s.slackActive = false → s.routersOn = false →
      ∀ b, Completes (.routerSet b d len) s (fun t => s.turnedAway t v stTIMEOUT 0)) ∧
    ((List.range 48).any s.slackActive = false → s.routersOn = true → v.u 0 1 < 8 → v.u 1 1 < 6 → ∀ n, n = 8 * v.u 1 1 + v.u 0 1 →
      let ends (t : State) (st : Nat) (b : List Byte) : Prop := s.answered t v st b ∧ t.slackActive n = false ∧
        t.fld (NR n 4) 0 12 = v.u 4 2 % 4096 ∧ t.fld (NR n 0xC) 0 8 = v.u 6 1 ∧ t.mem = s.mem ∧ t.rg = s.rg ∧ t.qs = s.qs
      let applied (t : State) : Prop := ends t 0 (bytesLE (t.reg (NR n 0x14)) 4) ∧ t.fld (NR n 0x14) 0 8 = d.val ∧
        t.fld (NR n 0x14) 8 20 = len % 2 ^ 20 ∧ t.fld (NR n 8) 0 12 = v.u 4 2 % 4096 ∧ t.fld (NR n 0xC) 8 8 = v.u 6 1
      let turned (t : State) : Prop := ends t stTIMEOUT (bytesLE 0 4) ∧ t.reg (NR n 8) = s.reg (NR n 8) ∧
        t.fld (NR n 0xC) 8 8 = s.fld (NR n 0xC) 8 8 ∧ t.bit (NR n 0x10) 3 = true
      Completes (.routerSet false d len) s turned ∧
      (State.drained n s = true → Completes (.routerSet true d len) s applied) ∧
      (∀ w, w = (((s.plainWrite (NR n 4) (v.u 4 2)).setFld (NR n 0xC) 0 8 (v.u 6 1)).slackEnter n) →
        (State.drained n (w.drain n) = true → Completes (.routerSet true d len) s applied) ∧
        (State.drained n (w.drain n) = false → Completes (.routerSet true d len) s turned)))

/-- The burning requests (R422, R423, R426, R428, R429, R434, R435): where their checks pass and the hold-up check allows it,
the burn of the group named is taken ahead of those that wait, with the bits named, and no OTP cell has changed yet; where the
hold-up check refuses, they are answered NO_HOLDUP and no burn is taken; while the engine burns, the request itself waits, in
service. Completion: secBurn, rollbackSet, customerKey, imageKey,
lcTransition. -/
def Obligations.BurnRequests : Prop :=
  ∀ (s : State) (v : Service) (mv : Nat) (c : Instr) (op g x : Nat),
    s.serves v op →
    ((c = .secBurn mv ∧ op = 0x0903 ∧ g = gSec ∧ x = v.u 0 2 ∧ 3 ≤ s.lc ∧ s.burnBusy = false ∧ v.u 0 2 &&& s.otp gSec ≠ v.u 0 2) ∨
     (c = .rollbackSet mv ∧ op = 0x0904 ∧ g = gImgRb ∧ x = 2 ^ v.u 0 1 - 1 ∧ s.imgRollback < v.u 0 1 ∧ s.burnBusy = false) ∨
     (c = .customerKey mv ∧ op = 0x0905 ∧ g = gCust ∧ x = fieldBE v.pay 0 48 + 2 ^ 384 ∧ 3 ≤ s.lc ∧ s.custSet = false ∧
       s.burnBusy = false) ∨
     (c = .imageKey mv ∧ op = 0x0906 ∧ s.burnBusy = false ∧ ∃ k n,
       keyUnwrap (BitVec.ofNat 256 s.transport) (BitVec.ofNat 320 (fieldBE v.pay 4 40)) = some k ∧
       s.freeImgKey = some n ∧ g = gImg + n ∧ x = k.toNat + 2 ^ 256) ∨
     (c = .lcTransition mv ∧ op = 0x0902 ∧ g = gIntent ∧ x = v.u 0 1 ∧ s.lcRefusal v = none)) →
    (s.life.burning = true → Completes c s (fun t => t = s)) ∧
    (s.life.burning = false → s.burnHeld mv = true → Completes c s (fun t => s.answered t v 0 [] ∧
      t.life.burns = (g, BitVec.ofNat 512 x) :: s.life.burns ∧ t.life.burning = true ∧ t.life.otp = s.life.otp ∧
      t.life.accepted = (if op = 0x0902 then x else s.life.accepted) ∧
      (op = 0x0902 → t.life.debugTok = (s.life.debugTok && decide (lcPos x < 5))) ∧ t.mem = s.mem ∧ t.csr = s.csr)) ∧
    (s.life.burning = false → s.burnHeld mv = false → Completes c s (fun t => s.answered t v stNO_HOLDUP (bytesLE 0 4) ∧ t.life = s.life ∧
      t.mem = s.mem ∧ t.csr = s.csr))

/-- DEBUG_CHALLENGE gives a fresh nonce, a free value, in the answer (R438); DEBUG_RESPONSE with a token that passes
R440's checks consumes the nonce and applies its scope, until the next VAUX power-on reset. Completion:
debugChallenge, debugResponse. -/
def Obligations.DebugRequests : Prop :=
  ∀ (s : State) (v : Service),
    (s.serves v 0x0907 → s.sec 4 = false → ¬(v.mb = 0 ∧ s.lc < 4) →
      Completes .debugChallenge s (fun t => t.life.nonce = some (BitVec.ofNat 256 (Config.freeValue s.free)) ∧ t.free = s.free + 1 ∧
        s.answered t v 0 (s.unitBytes ++ (bytesLE (Config.freeValue s.free % 2 ^ 256) 32).reverse) ∧ t.life.otp = s.life.otp)) ∧
    (s.serves v 0x0908 → s.tokenRefusal v = none →
      Completes .debugResponse s (fun t => s.answered t v 0 [] ∧ t.life.nonce = none ∧
        t.life.debugTok = (s.life.debugTok || (v.u 52 1).testBit 0) ∧ t.life.liftTok = (s.life.liftTok || (v.u 52 1).testBit 1) ∧
        t.life.otp = s.life.otp)) ∧
    (s.serves v 0x0908 → ∀ st d, s.tokenRefusal v = some (st, d) → Completes .debugResponse s (fun t => s.turnedAway t v st d))

/-- Loans and the probe block (R244, R245, R494, R496, R497): a spare resource that nobody holds is lent to the asking mailbox; one
that is not spare is refused CONFLICT, one lent to another mailbox, or asked for while a full load runs, BUSY, and its holder is
answered OK again; a loan is released by its holder only; PROBE_SET writes its register, the mailbox becoming the holder, and
waits in service as any access of Headland's does (log 145); PROBE_ARM with a usable buffer arms the block for its target tick;
behind the block's closed gate it is answered GATED (the model's reading of R461 and R496, log 166). Completion: loanRequest, loanRelease, probeSet, probeArm. -/
def Obligations.ProbeRequests : Prop :=
  ∀ (s : State) (v : Service),
    (s.serves v 0x0A01 → s.fullLoading = false → s.resourceSpare (v.u 0 1) (v.u 2 2) = true → s.lent (v.u 0 1) (v.u 2 2) = none →
      Completes .loanRequest s (fun t => s.answered t v 0 [] ∧ t.hl.loanList = s.hl.loanList ++ [(v.u 0 1, v.u 2 2, v.mb)] ∧
        { t with mb := s.mb, hl := s.hl, chain := s.chain } = s)) ∧
    (s.serves v 0x0A01 → s.fullLoading = true → Completes .loanRequest s (fun t => s.turnedAway t v stBUSY 0)) ∧
    (s.serves v 0x0A01 → s.fullLoading = false → s.resourceSpare (v.u 0 1) (v.u 2 2) = false →
      Completes .loanRequest s (fun t => s.turnedAway t v stCONFLICT 0)) ∧
    (s.serves v 0x0A01 → s.fullLoading = false → s.resourceSpare (v.u 0 1) (v.u 2 2) = true →
      ∀ m, s.lent (v.u 0 1) (v.u 2 2) = some m →
      (m ≠ v.mb → Completes .loanRequest s (fun t => s.turnedAway t v stBUSY 0)) ∧
      (m = v.mb → Completes .loanRequest s (fun t => s.answered t v 0 [] ∧ s.onlyAnswer t v.mb))) ∧
    (s.serves v 0x0A02 → (v.u 0 1, v.u 2 2, v.mb) ∈ s.hl.loanList →
      Completes .loanRelease s (fun t => s.answered t v 0 [] ∧ (v.u 0 1, v.u 2 2, v.mb) ∉ t.hl.loanList ∧ t.mem = s.mem)) ∧
    (s.serves v 0x0A02 → (v.u 0 1, v.u 2 2, v.mb) ∉ s.hl.loanList → Completes .loanRelease s (fun t => s.turnedAway t v stBAD_ARG 0)) ∧
    (s.serves v 0x0A03 → ∀ st, s.probeRefusal v.mb (v.u 0 4) (v.u 4 4) = some st →
      Completes .probeSet s (fun t => s.turnedAway t v st 0)) ∧
    (s.serves v 0x0A03 → s.probeRefusal v.mb (v.u 0 4) (v.u 4 4) = none →
      (s.headlandWaits (PB (v.u 0 4)) = true → Completes .probeSet s (fun t => t = s)) ∧
      (s.headlandWaits (PB (v.u 0 4)) = false → ∀ st x t,
        (s.setFld (PB 4) 16 4 (if s.holder = 0xF then v.mb else s.holder)).headlandAccess (PB (v.u 0 4)) true false (v.u 4 4) = ((st, x), t) →
        (st = 0 → Completes .probeSet s (fun u => t.answered u v 0 [] ∧ t.onlyAnswer u v.mb)) ∧
        (st ≠ 0 → Completes .probeSet s (fun u => ∀ w, w = t.setFld (PB 4) 16 4 s.holder →
          w.answered u v st (bytesLE 0 4) ∧ w.onlyAnswer u v.mb)))) ∧
    (s.serves v 0x0A04 → (s.holder = 0xF ∨ s.holder = v.mb) → s.sounding = false → s.bufBlocks ≠ [] →
      (∀ k ∈ s.bufBlocks, s.mayBlock s.holder k = true) →
      (s.gateOpen 0x2C = false → Completes .probeArm s (fun t => s.turnedAway t v stGATED 0)) ∧
      (s.gateOpen 0x2C = true → ∀ f, s.target (v.tgt 0) = some f → Completes .probeArm s (fun t => s.answered t v 0 [] ∧
        t.probe.target = f ∧ t.probe.frames = v.u 8 4 ∧ t.probe.wp = 0 ∧ t.pbState = 1 ∧ t.fld (PB 4) 2 5 = 0 ∧ t.reg (PB 8) = 0 ∧
        (∀ a, a ≠ PB 4 → a ≠ PB 8 → t.reg a = s.reg a) ∧
        t.hl.changes = s.hl.changes ++ [⟨f, v.mb, v.tag, .arm (v.u 8 4), s.holdBack f⟩] ∧ t.mem = s.mem ∧ t.rg = s.rg)))

/-- The image store and the firmware slots (R268, R269, R271, R358, R362): opening a slot counts one program cycle,
empties it and opens its stream; stream data within the chunk is taken; data that fills the chunk, or closes the stream, hands
the chunk to the engine, where the hold-up check allows it and else is answered NO_HOLDUP, and BUSY while a chunk programs; a
seal of a complete stream starts; the boot record is written, in the copy that is not in force and with the next SEQ, where the slots named are VALID, or those in force
already, and the hold-up check allows it (R270, R273, R274, Table CFG-18). Completion: storeOpen, storeData,
storeSeal, bootRecordSet, fwOpen, fwData, fwSeal. -/
def Obligations.StoreRequests : Prop :=
  ∀ (s : State) (v : Service) (mv : Nat),
    (s.serves v 0x0B01 → ¬(s.store.img.on = true ∧ s.store.img.slot ≠ v.u 0 1) → s.slotBusy (v.u 0 1) = false →
      s.slotRead (v.u 0 1) = false → (s.slot (v.u 0 1)).prog < 100000 → ¬(v.u 0 1 = s.goldenSlot ∧ (s.slot (v.u 0 1)).st = 2) →
      Completes .storeOpen s (fun t => s.answered t v 0 [] ∧ t.slot (v.u 0 1) = { st := 1, prog := (s.slot (v.u 0 1)).prog + 1 } ∧
        t.store.img = { on := true, slot := v.u 0 1, mb := v.mb } ∧ { t with mb := s.mb, hl := s.hl, chain := s.chain, store := s.store } = s)) ∧
    (s.serves v 0x0B01 → 100000 ≤ (s.slot (v.u 0 1)).prog → ¬(s.store.img.on = true ∧ s.store.img.slot ≠ v.u 0 1) →
      s.slotBusy (v.u 0 1) = false → s.slotRead (v.u 0 1) = false → Completes .storeOpen s (fun t => s.turnedAway t v stSTORE_WORN 0)) ∧
    (s.serves v 0x0D01 → v.u 0 1 ≠ s.hl.run → s.slotBusy (0x10 + v.u 0 1) = false → (s.slot (0x10 + v.u 0 1)).prog < 100000 →
      Completes .fwOpen s (fun t => s.answered t v 0 [] ∧
        t.slot (0x10 + v.u 0 1) = { st := 1, prog := (s.slot (0x10 + v.u 0 1)).prog + 1 } ∧
        t.store.fw = { on := true, slot := 0x10 + v.u 0 1, mb := v.mb } ∧
        { t with mb := s.mb, hl := s.hl, chain := s.chain, store := s.store } = s)) ∧
    (∀ fw c op, ((fw = false ∧ c = .storeData mv ∧ op = 0x0B02) ∨ (fw = true ∧ c = .fwData mv ∧ op = 0x0D02)) → s.serves v op →
      (s.stream fw).on = true → (s.stream fw).mb = v.mb → (s.stream fw).fin = false → v.u 0 4 = (s.stream fw).took →
      (s.stream fw).took + v.data.length ≤ slotBytes (s.stream fw).slot → (s.stream fw).chunk.length + v.data.length < chunkBytes →
      (s.stream fw).needs ((s.stream fw).chunk.length + v.data.length) ≤ s.freeBuffers → v.fin = false → Completes c s (fun t => s.answered t v 0 [] ∧
        t.stream fw = { s.stream fw with took := (s.stream fw).took + v.data.length, chunk := (s.stream fw).chunk ++ v.data } ∧
        { t with mb := s.mb, hl := s.hl, chain := s.chain, store := s.store } = s)) ∧
    (∀ fw c op, ((fw = false ∧ c = .storeData mv ∧ op = 0x0B02) ∨ (fw = true ∧ c = .fwData mv ∧ op = 0x0D02)) → s.serves v op →
      (s.stream fw).on = true → (s.stream fw).mb = v.mb → (s.stream fw).fin = false → v.u 0 4 = (s.stream fw).took →
      (s.stream fw).took + v.data.length ≤ slotBytes (s.stream fw).slot →
      ∀ all, all = (s.stream fw).chunk ++ v.data → (chunkBytes ≤ all.length ∨ v.fin = true) →
      (holdsUp s.holdupC mv (chunkNeed (min all.length chunkBytes)) = false → Completes c s (fun t => (s.sense mv).turnedAway t v stNO_HOLDUP 0)) ∧
      (holdsUp s.holdupC mv (chunkNeed (min all.length chunkBytes)) = true → s.programming = true → Completes c s (fun t => (s.sense mv).turnedAway t v stBUSY 0)) ∧
      (holdsUp s.holdupC mv (chunkNeed (min all.length chunkBytes)) = true → s.programming = false →
        (s.stream fw).needs all.length ≤ s.freeBuffers → Completes c s (fun t => s.answered t v 0 [] ∧
          t.store.prog = some ((s.stream fw).slot, all.take chunkBytes) ∧
          t.stream fw = { s.stream fw with took := (s.stream fw).took + v.data.length, fin := v.fin
                                           chunk := if v.fin then [] else all.drop chunkBytes } ∧
          t.stream (!fw) = s.stream (!fw) ∧ t.store.slots = s.store.slots ∧
          (v.fin = true → t.store.next = if all.length ≤ chunkBytes then none else some ((s.stream fw).slot, all.drop chunkBytes)) ∧
          { t with mb := s.mb, hl := s.hl, chain := s.chain, store := s.store } = s))) ∧
    (∀ fw c op, ((fw = false ∧ c = .storeSeal ∧ op = 0x0B03) ∨ (fw = true ∧ c = .fwSeal ∧ op = 0x0D03)) → s.serves v op →
      (s.stream fw).on = true → (s.stream fw).mb = v.mb → (s.stream fw).fin = true → s.store.sealing = none →
      Completes c s (fun t => s.answered t v 0 [] ∧ t.stream fw = {} ∧
        t.store.sealing = some ⟨(s.stream fw).slot, v.mb, v.tag, s.timePs⟩ ∧
        { t with mb := s.mb, hl := s.hl, chain := s.chain, store := s.store } = s)) ∧
    (s.serves v 0x0B05 → ((s.slot (v.u 0 1)).st = 2 ∧ (s.slot (v.u 1 1)).st = 2) ∨ (v.u 0 1 = s.bootSlot ∧ v.u 1 1 = s.goldenSlot) →
      holdsUp (v.u 2 2) mv (chunkNeed 64) = true →
      ∀ l, l = packLE [(0x31524259, 4), ((s.bootRec.map (fun r => (fieldAt r 4 4 + 1) % 2 ^ 32)).getD 1, 4), (v.u 0 1, 1), (v.u 1 1, 1),
        (v.u 2 2, 2), (0, 48)] → ∀ r : BitVec 512, r = BitVec.ofNat 512 (l + crc32c (bytesLE l 60) * 2 ^ 480) →
      Completes (.bootRecordSet mv) s (fun t => s.answered t v 0 [] ∧ t.store.slots = s.store.slots ∧
        (s.bootRec = some s.store.rec0.toNat → t.store.rec0 = s.store.rec0 ∧ t.store.rec1 = r) ∧
        (s.bootRec ≠ some s.store.rec0.toNat → t.store.rec0 = r ∧ t.store.rec1 = s.store.rec1) ∧
        { t with mb := s.mb, hl := s.hl, chain := s.chain, store := s.store } = s))

/-! ## Mailboxes and Headland (spec/11) -/

/-- Rings of a mailbox (R343, R346, R354, Tables HDL-4, HDL-5): a RING of a window that takes requests and holds none in
hand makes the request wait, one more ring counted; while a request is in hand it sets OVERRUN; ACK frees a DONE window and
does nothing to another; CLR_LOST clears the lost count; a write of RD within WR − 8 to WR moves RD, another is ignored;
a waiting request ages; while debug is closed, the path to MB6's window is closed and ACK, CLR_LOST and the write of RD do
nothing there (Table HDL-2). No other mailbox changes, and nothing else but Breakwater's copy of MB0's STATE (R401).
Completion: ring, ack, clrLost, evtRdWrite, requestAged. -/
def Obligations.MailboxRegisters : Prop :=
  ∀ (s : State) (m : Fin 8),
    let b := s.mbox m
    let only (t : State) (x : Mbox) : Prop := t.mbox m = x ∧ (∀ k, k ≠ m.val → t.mbox k = s.mbox k) ∧ { t with mb := s.mb } = s
    let follows (t : State) : Prop := t.isl =
      if m.val = 0 ∧ s.on = true ∧ s.isl.devUp = true ∧ (t.mbox 0).st ≠ .done then { s.isl with st := (t.mbox 0).st } else s.isl
    (s.takes m = true → b.st ≠ .waiting → b.st ≠ .serving → Completes (.ring m) s (fun t =>
      t.mbox m = { b with st := .waiting, aged := false, ringNo := s.hl.rings } ∧ (∀ k, k ≠ m.val → t.mbox k = s.mbox k) ∧
      follows t ∧ { t with mb := s.mb, isl := s.isl } = { s with hl := { s.hl with rings := s.hl.rings + 1 } })) ∧
    (s.takes m = true → (b.st = .waiting ∨ b.st = .serving) → Completes (.ring m) s (fun t =>
      t.mbox m = { b with overrun := true } ∧ (∀ k, k ≠ m.val → t.mbox k = s.mbox k) ∧ follows t ∧
      { t with mb := s.mb, isl := s.isl } = s)) ∧
    (s.takes m = false → Completes (.ring m) s (fun t => follows t ∧ { t with isl := s.isl } = s)) ∧
    (b.st = .done → s.pathOpen m = true → Completes (.ack m) s (fun t => t.mbox m = { b with st := .idle } ∧
      (∀ k, k ≠ m.val → t.mbox k = s.mbox k) ∧ follows t ∧ { t with mb := s.mb, isl := s.isl } = s)) ∧
    (b.st ≠ .done ∨ s.pathOpen m = false → Completes (.ack m) s (fun t => follows t ∧ { t with isl := s.isl } = s)) ∧
    (s.pathOpen m = true → Completes (.clrLost m) s (fun t => only t { b with lost := 0 })) ∧
    (s.pathOpen m = false → Completes (.clrLost m) s (fun t => t = s)) ∧
    (∀ v : Word, let rd := v.toNat / 256 % 16
      ((b.wr + 16 - rd) % 16 ≤ 8 → s.pathOpen m = true → Completes (.evtRdWrite m v) s (fun t => only t { b with rd := rd })) ∧
      (8 < (b.wr + 16 - rd) % 16 ∨ s.pathOpen m = false → Completes (.evtRdWrite m v) s (fun t => t = s))) ∧
    (b.st = .waiting → Completes (.requestAged m) s (fun t => only t { b with aged := true })) ∧
    (b.st ≠ .waiting → Completes (.requestAged m) s (fun t => t = s))

/-- Headland takes the next request (R348): an aged one before all others, the oldest ring first; without an aged one MB6,
then MB0, then MB1, then MB2 to MB5 from the one after the last served, then MB7. SERVICE_START copies it out of its
window, which reads SERVING; wherever a request waits, one is taken; where a check of R347 refuses it, it is answered at once and nothing is applied; with no
request waiting, while another is in service, while a job slice is due, or while Headland is not up, nothing happens
(R347 to R350). Completion: serviceStart. -/
def Obligations.ServiceStarts : Prop :=
  (∀ s : State, (∃ k, k < 8 ∧ (s.mbox k).st = .waiting) → s.nextRequest.isSome = true) ∧
  (∀ (s : State) (m : Nat), s.nextRequest = some m →
    (s.mbox m).st = .waiting ∧ m < 8 ∧
    (∀ k, k < 8 → (s.mbox k).st = .waiting → (s.mbox k).aged = true →
      (s.mbox m).aged = true ∧ (s.mbox m).ringNo ≤ (s.mbox k).ringNo) ∧
    ((∀ k, k < 8 → (s.mbox k).st = .waiting → (s.mbox k).aged = false) →
      ((s.mbox 6).st = .waiting → m = 6) ∧
      ((s.mbox 6).st ≠ .waiting → (s.mbox 0).st = .waiting → m = 0) ∧
      ((s.mbox 6).st ≠ .waiting → (s.mbox 0).st ≠ .waiting → (s.mbox 1).st = .waiting → m = 1) ∧
      (m = 7 → ∀ k, k < 7 → (s.mbox k).st ≠ .waiting) ∧
      (2 ≤ m → m ≤ 5 → 2 ≤ s.hl.rr → s.hl.rr ≤ 5 → ∀ k, 2 ≤ k → k ≤ 5 → (s.mbox k).st = .waiting →
        (m + 7 - s.hl.rr) % 4 ≤ (k + 7 - s.hl.rr) % 4))) ∧
  (∀ s : State,
    (s.hl.up = true → s.hl.halted = false → s.hl.serving = none → s.hl.slice = false → ∀ m, s.nextRequest = some m →
      (s.refusal (s.readRequest m) (fieldAt (s.mbox m).req.toNat 6 2) = none →
        Completes .serviceStart s (fun t => t.hl.serving = some (s.readRequest m) ∧
          t.mbox m = { s.mbox m with st := .serving, aged := false } ∧ (∀ k, k ≠ m → t.mbox k = s.mbox k) ∧
          { t with mb := s.mb, hl := s.hl } = s ∧
          t.hl = { s.hl with serving := some (s.readRequest m), rr := if 2 ≤ m ∧ m ≤ 5 then m else s.hl.rr })) ∧
      (∀ st d, s.refusal (s.readRequest m) (fieldAt (s.mbox m).req.toNat 6 2) = some (st, d) →
        Completes .serviceStart s (fun t => s.answered t (s.readRequest m) st (bytesLE d 4) ∧ (∀ k, k ≠ m → t.mbox k = s.mbox k) ∧
          { t with mb := s.mb, hl := s.hl, chain := s.chain } = s))) ∧
    ((s.hl.up = false ∨ s.hl.halted = true ∨ s.hl.serving.isSome = true ∨ s.hl.slice = true ∨ s.nextRequest = none) →
      Completes .serviceStart s (fun t => t = s)))

/-- A service that lasts 250 µs is answered TIMEOUT and applies nothing (R349); a job slice posts everything that waits: a
general event goes to the mailboxes whose mask enables it, a directed one to the ring of the mailbox of its request and to no
other, with its TAG (R350, R352 to R354), whether or not a response waits there for its acknowledge (the model's reading, log
63); a full ring counts it lost. Completion: serviceTimeout, jobSlice. -/
def Obligations.ServiceEnds : Prop :=
  ∀ s : State,
    (∀ v, s.hl.serving = some v → Completes .serviceTimeout s (fun t => s.turnedAway t v stTIMEOUT 0)) ∧
    (s.hl.serving = none → Completes .serviceTimeout s (fun t => t = s)) ∧
    (s.hl.up = true → s.hl.halted = false → s.hl.serving = none → Completes .jobSlice s (fun t =>
      t.hl.latches = [] ∧ t.hl.directed = [] ∧ t.hl.slice = false ∧ t.hl.serving = none ∧ t.hl.changes = s.hl.changes ∧
      { t with mb := s.mb, hl := s.hl, chain := s.chain, log := s.log, logSeq := s.logSeq } = s ∧
      (s.hl.reports = [] → s.hl.directed = [] → ∀ l, s.hl.latches = [l] → ∀ m, m < 8 → m ≠ 1 →
        (s.bit (MB m 0x208) l.code = false → t.mbox m = s.mbox m) ∧
        (s.bit (MB m 0x208) l.code = true → s.evtCnt m < 8 → t.evtCnt m = s.evtCnt m + 1) ∧
        (s.bit (MB m 0x208) l.code = true → s.evtCnt m = 8 →
          t.mbox m = { s.mbox m with lost := min ((s.mbox m).lost + 1) 65535 })) ∧
      (s.hl.reports = [] → s.hl.latches = [] → ∀ d, s.hl.directed = [d] → d.mb < 8 →
        (∀ m, m ≠ d.mb → t.mbox m = s.mbox m) ∧
        (d.mb ≠ 1 → s.evtCnt d.mb < 8 → t.evtCnt d.mb = s.evtCnt d.mb + 1 ∧
          { t.mbox d.mb with evt := (s.mbox d.mb).evt, wr := (s.mbox d.mb).wr } = s.mbox d.mb ∧
          (∀ i, i < 8 → i ≠ (s.mbox d.mb).wr % 8 → mget (fun _ => 0) (t.mbox d.mb).evt i = mget (fun _ => 0) (s.mbox d.mb).evt i) ∧
          ∀ e, e = (mget (fun _ => (0 : BitVec 256)) (t.mbox d.mb).evt ((s.mbox d.mb).wr % 8)).toNat →
            fieldAt e 0 1 = d.code % 256 ∧ fieldAt e 2 2 = d.tag % 65536 ∧ fieldAt e 4 4 = s.frameNo % 2 ^ 32 ∧
            fieldAt e 8 24 = d.data % 2 ^ 192) ∧
        (d.mb ≠ 1 → s.evtCnt d.mb = 8 → t.mbox d.mb = { s.mbox d.mb with lost := min ((s.mbox d.mb).lost + 1) 65535 }))))

/-- A restart (R355, R356): on a lockstep mismatch or when the watchdog expires, the request in service is answered INTERNAL,
staged tables are gone, Headland is not up and the count rises; the slots and OTP stay, and memory but for
a full load in hand. That open streams are gone (log 64) and that with no load in hand nothing else changes but what leaves on the
chain and the requests that Headland had out, so that latched and remote events and the debug nonce stay (log 65), is the
model's reading. At its end the selected firmware slot runs where the boot ROM verifies it, else the other one; with neither
Headland stays down (R357, R359); in SCRAPPED the boot ROM serves alone (R433). Completion: watchdogExpiry,
lockstepMismatch, restartDone. -/
def Obligations.HeadlandRestarts : Prop :=
  (∀ (s : State) (c : Instr) (cause : Nat),
    ((c = .watchdogExpiry ∧ cause = 2 ∧ s.hl.up = true) ∨ (c = .lockstepMismatch ∧ cause = 1 ∧ (s.hl.up = true ∨ s.hl.restarting = true))) →
      Completes c s (fun t => t.hl.up = false ∧ t.hl.restarting = true ∧ t.hl.cause = cause ∧ t.hl.count = s.hl.count + 1 ∧
        t.hl.serving = none ∧ (∀ m, m < 8 → (t.mbox m).staged = []) ∧ t.store.img.on = false ∧ t.store.fw.on = false ∧
        t.store.slots = s.store.slots ∧
        (∀ v, s.hl.serving = some v → v.mb < 8 → (t.mbox v.mb).rsp =
          putRsp (s.mbox v.mb).rsp (rspBytes v.op v.tag stINTERNAL (bytesLE 1 4))) ∧
        (s.ld.full = false → s.ld.kind ≠ 1 → t.mem = s.mem) ∧ t.life.otp = s.life.otp ∧
        (s.ld.phase = .idle → { t with hl := s.hl, mb := s.mb, chain := s.chain, store := s.store, reqs := s.reqs } = s))) ∧
  (∀ s : State, s.hl.restarting = true →
    let runs (t : State) (k : Nat) : Prop := t.hl.run = k ∧ t.hl.up = true ∧ t.hl.restarting = false ∧ t.life.otp = s.life.otp ∧
      (s.bt.on = false → t.mem = s.mem ∧ t.fab = s.fab ∧ t.qs = s.qs ∧ t.rg = s.rg ∧ t.csr = s.csr)
    (s.scrapped = true → Completes .restartDone s (fun t => runs t s.hl.run)) ∧
    (s.scrapped = false → s.fwOk s.hl.sel = true → Completes .restartDone s (fun t => runs t s.hl.sel)) ∧
    (s.scrapped = false → s.fwOk s.hl.sel = false → s.fwOk (1 - s.hl.sel) = true →
      Completes .restartDone s (fun t => runs t (1 - s.hl.sel))) ∧
    (s.scrapped = false → s.fwOk s.hl.sel = false → s.fwOk (1 - s.hl.sel) = false → Completes .restartDone s (fun t =>
      t = { s with hl := { s.hl with restarting := false } })))

/-! ## Breakwater (spec/13) -/

/-- Host frames addressed to the unit (R396 to R401, R404, Table BWP-6): each is answered with a reply frame of its own type
and sequence number, and does what its type says; only the island, MB0, its event mask and, for a request, Headland's
count of rings change. A request with the SEQ of the one in hand is answered OK and forwarded no second time, another BUSY; with
the device side down a request, a RESPONSE or an ACK is answered NOT_READY. The device side is seen through the island's copies (R407). Completion: bwRequest, bwStatus,
bwResponse, bwAck, bwEvents, bwEvtMask. -/
def Obligations.HostFrames : Prop :=
  ∀ (s : State) (b : List Byte) (f : HostFrame), s.rails.vhost = true → readFrame b = some f →
    s.hostAddr ≠ 0 → f.addr = s.hostAddr → f.addr ≠ 0xFFF →
    let answers (t u : State) (status : Nat) (data : List Byte) : Prop :=
      t.isl.reply = some (writeFrame f.addr f.typ f.seq (u.replyHead status ++ data)) ∧ t.isl.presence = false ∧
      { t with isl := s.isl, mb := s.mb, hl := s.hl, csr := s.csr } = s
    let i := s.island
    (f.typ = 1 → f.pay.length = 8 + natLE ((f.pay.drop 2).take 2) → natLE ((f.pay.drop 2).take 2) ≤ 248 → s.isl.devUp = true →
      i.st = .idle → s.on = true → s.takes 0 = true → (s.mbox 0).busy = false → Completes (.bwRequest b) s (fun t =>
        answers t t 0 [] ∧ t.isl.st = .waiting ∧ t.isl.lastSeq = f.seq ∧ (t.mbox 0).st = .waiting ∧
        (t.mbox 0).req = BitVec.ofNat 2048 (setBits (s.mbox 0).req.toNat 0 (8 * f.pay.length) (natLE f.pay)) ∧
        (∀ m, m ≠ 0 → t.mbox m = s.mbox m) ∧ t.csr = s.csr ∧ t.hl = { s.hl with rings := s.hl.rings + 1 })) ∧
    (f.typ = 1 → f.pay.length = 8 + natLE ((f.pay.drop 2).take 2) → natLE ((f.pay.drop 2).take 2) ≤ 248 → s.isl.devUp = true →
      i.st ≠ .idle → Completes (.bwRequest b) s (fun t => answers t s (if f.seq = s.isl.lastSeq then 0 else stBUSY) [] ∧
        t.isl.st = i.st ∧ t.isl.lastSeq = s.isl.lastSeq ∧ t.mb = s.mb ∧ t.hl = s.hl ∧ t.csr = s.csr)) ∧
    (s.isl.devUp = false → (f.typ = 1 → f.pay.length = 8 + natLE ((f.pay.drop 2).take 2) → natLE ((f.pay.drop 2).take 2) ≤ 248 →
        Completes (.bwRequest b) s (fun t => answers t s stNOT_READY [] ∧ t.mb = s.mb ∧ t.hl = s.hl ∧ t.csr = s.csr)) ∧
      (f.typ = 3 → f.pay = [] → Completes (.bwResponse b) s (fun t => answers t s stNOT_READY [] ∧ t.mb = s.mb ∧ t.hl = s.hl ∧ t.csr = s.csr)) ∧
      (f.typ = 4 → f.pay = [] → Completes (.bwAck b) s (fun t => answers t s stNOT_READY [] ∧ t.mb = s.mb ∧ t.hl = s.hl ∧ t.csr = s.csr))) ∧
    (f.typ = 2 → f.pay = [] → Completes (.bwStatus b) s (fun t =>
      answers t s 0 (bytesLE i.lost 2 ++ bytesLE s.isl.lastSeq 1 ++ [0]) ∧ t.isl.resync = false ∧ t.mb = s.mb ∧ t.hl = s.hl)) ∧
    (f.typ = 3 → f.pay = [] → i.st = .done → s.isl.devUp = true → Completes (.bwResponse b) s (fun t =>
      answers t s 0 (bytesLE s.isl.rsp.toNat (8 + fieldAt s.isl.rsp.toNat 2 2)) ∧ t.isl.st = .done ∧ t.mb = s.mb ∧ t.hl = s.hl)) ∧
    (f.typ = 4 → f.pay = [] → i.st = .done → s.isl.devUp = true → Completes (.bwAck b) s (fun t =>
      answers t t 0 [] ∧ t.isl.st = .idle ∧ (t.mbox 0).st ≠ .done ∧ t.hl = s.hl ∧ ∀ m, m ≠ 0 → t.mbox m = s.mbox m)) ∧
    (f.typ = 5 → ∀ k n l : Byte, f.pay = [k, n, l] → k.toNat ≤ i.evtCnt → 1 ≤ n.toNat → n.toNat ≤ 7 → l.toNat ≤ 1 →
      Completes (.bwEvents b) s (fun t => answers t t 0 (t.ringEntries n.toNat) ∧ t.isl.rd = (i.rd + k.toNat) % 16 ∧ t.isl.wr = i.wr ∧
        t.isl.evt = i.evt ∧ t.isl.lost = (if l = 1 then 0 else i.lost) ∧ (t.mbox 0).evt = (s.mbox 0).evt ∧ (t.mbox 0).wr = (s.mbox 0).wr ∧
        (s.on = true → s.isl.devUp = true → (t.mbox 0).lost = (if l = 1 then 0 else (s.mbox 0).lost) ∧
          (s.evtCnt 0 ≤ 8 → t.evtCnt 0 + k.toNat = s.evtCnt 0)) ∧
        (s.on = false ∨ s.isl.devUp = false → t.mbox 0 = s.mbox 0) ∧ t.hl = s.hl ∧ ∀ m, m ≠ 0 → t.mbox m = s.mbox m)) ∧
    (f.typ = 6 → f.pay.length = 4 → s.isl.devUp = true → s.on = true → Completes (.bwEvtMask b) s (fun t =>
      answers t s 0 [] ∧ t.reg (MB 0 0x208) = natLE f.pay ∧ (∀ a, a ≠ MB 0 0x208 → t.reg a = s.reg a) ∧ t.mb = s.mb ∧ t.hl = s.hl))

/-- Bus frames (R398, R402, R403): SEARCH lets the units whose ID begins with the bits sent pull the presence byte low,
IDENTIFY and ASSIGN are answered by the one unit whose ID they carry, and ASSIGN gives it the host address named, 0 taking
the assignment back; another unit gives no reply and keeps its address. A host frame of any type that R404 refuses, and
any frame while VHOST is absent, changes no state but the island's: no reply stands. An IDENTIFY or ASSIGN with the unit's
ID and a wrong LEN is answered BAD_LENGTH (R404, the model's reading, log 88). Completion: search, bwIdentify, assign. -/
def Obligations.BusFrames : Prop :=
  (∀ (s : State) (b : List Byte) (f : HostFrame), s.rails.vhost = true → readFrame b = some f → f.addr = 0 →
    let quiet (t : State) : Prop := { t with isl := s.isl } = s
    (f.typ = 8 → f.pay.length = 18 → ∀ p g : Byte, f.pay.take 2 = [p, g] → p.toNat ≤ 128 → g.toNat ≤ 3 →
      Completes (.search b) s (fun t => quiet t ∧ t.isl.reply = none ∧ t.isl.haddr = s.isl.haddr ∧
        (t.isl.presence = true ↔ (∀ i, i < p.toNat → idBit (f.pay.drop 2) i = idBit s.unitBytes i) ∧
          (g.toNat.testBit 0 = true → s.irq = true) ∧ (g.toNat.testBit 1 = true → s.hostAddr = 0)))) ∧
    (f.typ = 9 → f.pay.length = 16 → f.pay = s.unitBytes → Completes (.bwIdentify b) s (fun t => quiet t ∧
      t.isl.reply = some (writeFrame s.hostAddr 9 f.seq (s.replyHead 0 ++ s.identity)) ∧ t.isl.haddr = s.isl.haddr)) ∧
    (f.typ = 9 → f.pay.length ≠ 16 → f.pay.take 16 = s.unitBytes → Completes (.bwIdentify b) s (fun t => quiet t ∧
      t.isl.reply = some (writeFrame s.hostAddr 9 f.seq (s.replyHead stBAD_LENGTH)))) ∧
    (f.typ = 9 → f.pay.take 16 ≠ s.unitBytes → Completes (.bwIdentify b) s (fun t => quiet t ∧ t.isl.reply = none)) ∧
    (f.typ = 10 → f.pay.length ≠ 18 → f.pay.take 16 = s.unitBytes → Completes (.assign b) s (fun t => quiet t ∧
      t.isl.reply = some (writeFrame s.hostAddr 10 f.seq (s.replyHead stBAD_LENGTH)) ∧ t.isl.haddr = s.isl.haddr)) ∧
    (f.typ = 10 → f.pay.length = 18 → f.pay.take 16 = s.unitBytes → natLE (f.pay.drop 16) < 0xFFF → Completes (.assign b) s (fun t =>
      quiet t ∧ t.isl.haddr = (if natLE (f.pay.drop 16) = 0 then none else some (natLE (f.pay.drop 16))) ∧
      t.isl.reply = some (writeFrame s.hostAddr 10 f.seq (t.replyHead 0 ++ t.identity)))) ∧
    (f.typ = 10 → f.pay.take 16 ≠ s.unitBytes → Completes (.assign b) s (fun t => quiet t ∧ t.isl.reply = none ∧ t.isl.haddr = s.isl.haddr))) ∧
  (∀ (s : State) (b : List Byte) (c : Instr), c ∈ ([.bwRequest b, .bwStatus b, .bwResponse b, .bwAck b, .bwEvents b, .bwEvtMask b,
      .search b, .bwIdentify b, .assign b] : List Instr) →
    (s.rails.vhost = true → readFrame b = none → Completes c s (fun t => t = { s with isl := { s.island with reply := none, presence := false } })) ∧
    (s.rails.vhost = false → Completes c s (fun t => t = s)))

/-- The barrier (R398, R401, R409 to R411): the whole response crosses into the island, which shows DONE; a heartbeat tells
nothing more; 100 µs without one and the island takes the device side for down; after RESYNC it mirrors MB0 and shows
RESYNC; VHOST_DOWN takes everything the island holds and leaves the device side alone. Completion: barrierResponse,
heartbeat, heartbeatLoss, resync, vhostDown. -/
def Obligations.Barrier : Prop :=
  ∀ s : State,
    (s.on = true → s.isl.devUp = true → (s.mbox 0).st = .done → (s.isl.st = .waiting ∨ s.isl.st = .serving) →
      Completes .barrierResponse s (fun t => t = { s with isl := { s.isl with st := .done, rsp := (s.mbox 0).rsp } })) ∧
    Completes .heartbeat s (fun t => t = s) ∧
    Completes .heartbeatLoss s (fun t => t = { s with isl := { s.island with devUp := false } }) ∧
    (s.on = true → s.isl.devUp = false → Completes .resync s (fun t =>
      t = { s with isl := ({ s.isl with st := (s.mbox 0).st, rsp := (s.mbox 0).rsp, devUp := true, resync := true } : Island).copy s,
                   rails := { s.rails with vhost := true } })) ∧
    Completes .vhostDown s (fun t => t = { s with isl := {}, rails := { s.rails with vhost := false } })

/-! ## The tick generator (spec/02) -/

/-- Frame numbers (R52). -/
def Obligations.LaterFrame : Prop :=
  ∀ a b : Nat, a < 2 ^ 48 → b < 2 ^ 48 →
    (laterFrame a b = true ↔ 1 ≤ (a + (2 ^ 48 - b)) % 2 ^ 48 ∧ (a + (2 ^ 48 - b)) % 2 ^ 48 ≤ 2 ^ 47 - 1)

/-- The generator's commands (R41, R45, R50, R58, R61): PRESET asks for CK_FRAME_PRESET at the next tick unless SRC = 0b10;
REACQUIRE enters acquisition, LOCKED 0 and HOLDOVER as it was; ALIGN_DONE sets ALIGNED with SRC = 0b10 only; CLEAR_SLIPS clears the slip count; the loss of
the source, once due, enters holdover, sets its sticky bit and reports. The frame number, the cycle count and every other
register stay. Completion: tickPreset, reacquire, alignDone, clearSlips, tickSourceLoss, each in every state. -/
def Obligations.TickCommands : Prop :=
  ∀ s : State,
    let rest (t : State) : Prop := (∀ a, a ≠ CK 0x80C → t.reg a = s.reg a) ∧ t.tick.frame = s.tick.frame ∧ t.tick.count = s.tick.count ∧
      t.tick.ext = s.tick.ext ∧ { t with csr := s.csr, tick := s.tick } = s
    (s.src ≠ 2 → Completes .tickPreset s (fun t =>
      t = { s with tick := { s.tick with preset := true } })) ∧
    (s.src = 2 → Completes .tickPreset s (fun t => t = s)) ∧
    Completes .reacquire s (fun t => rest t ∧ t.locked = false ∧ t.tick.acq = true ∧ t.tick.slips = 0 ∧
      t.fld (CK 0x80C) 1 31 = s.fld (CK 0x80C) 1 31) ∧
    (s.src = 2 → Completes .alignDone s (fun t => rest t ∧ t.bit (CK 0x80C) 2 = true ∧ t.tick = s.tick ∧
      t.fld (CK 0x80C) 0 2 = s.fld (CK 0x80C) 0 2 ∧ t.fld (CK 0x80C) 3 29 = s.fld (CK 0x80C) 3 29)) ∧
    (s.src ≠ 2 → Completes .alignDone s (fun t => t = s)) ∧
    Completes .clearSlips s (fun t => rest t ∧ t.fld (CK 0x80C) 16 16 = 0 ∧ t.fld (CK 0x80C) 0 16 = s.fld (CK 0x80C) 0 16 ∧
      t.tick = s.tick) ∧
    (s.lossDue = true → Completes .tickSourceLoss s (fun t => t.locked = false ∧ t.bit (CK 0x80C) 1 = true ∧
      t.bit (CK 0x80C) 9 = true ∧ t.tick = { s.tick with acq := true, slips := 0, quiet := 0 } ∧ t.lossDue = false ∧ (∀ a, a ≠ CK 0x80C → t.reg a = s.reg a) ∧
      t.chain.waits = s.chain.waits ++ [s.report s.zaddr 4 0x0102] ∧
      { t with csr := s.csr, tick := s.tick, hl := s.hl, chain := s.chain } = s)) ∧
    (s.lossDue = false → Completes .tickSourceLoss s (fun t => t = s))

/-- A source event at count c (R42 to R45): with phase error d = (c + OFS) mod P, a locked generator counts a slip or resets
the count, and realigns with the SLIP_LIMIT-th consecutive slip; one in acquisition locks at once or realigns; the event is
shown in CK_TICK_PHASE; the frame number and the cycle count do not change, nor does any other register. Asleep, with
SRC = 0b00, or with the TICK pair taken by boundary scan (R489, the model's reading, log 148), an event has no effect (R464).
Completion: sourceEvent, in every state. -/
def Obligations.SourceEvents : Prop :=
  ∀ (s : State) (c : Nat),
    (s.src = 0 ∨ s.mode ≠ 0 ∨ (s.src = 1 ∧ s.scanned = true) → Completes (.sourceEvent c) s (fun t => t = s)) ∧
    (s.src ≠ 0 → s.mode = 0 → (s.src = 1 → s.scanned = false) → Completes (.sourceEvent c) s (fun t =>
      s.sourceSeen t c ∧ { t with csr := s.csr, tick := s.tick } = s))

/-- TICK (R41, R42, R44, R49, R50, R61, R158, Table TCK-4): the generator's tick, after which every tier takes its own step; no
OTP cell and no command in hand is touched by it, and of the accepted changes only the FRAME_PRESET that it carries. A realigned
frame locks the generator also after a REACQUIRE inside it (the model's choice, log 118). The tiers: a queue with a lookup swap
asked for swaps its halves (R191), a pipeline opens the next frame at its write place (R183; CURT counts on across a preset, its
choice, log 117), a FIFO under drain queues a
drain record of the words that are not queued yet (R180); a running schedule restarts at step 0, where a context that differs
and is loaded makes its swap pending (R131, R134; where step 0 starts later, the old STEP shows until then, its reading, log
115), unless TARGET_TICK_COMMIT changes the plan first; the head sends its SOF
(R313), and an enabled side its exchange contribution, made of the slices captured, VALID as R318 says. At the generator's tick the frame that ends has lasted
P + d cycles, which CK_TICK_LEN shows; the number rises by one but for a preset, a correction or the first tick after a full
load; the count starts again; values held pending for SRC, P and W come into force; a realignment locks, and with SRC = 0b00
every tick does. Completion: tick, in every state. -/
def Obligations.TickCommand : Prop :=
  (∀ s : State, Completes .tick s (fun t => t.tick = s.tickGenerator.tick ∧ t.timePs = s.tickGenerator.timePs ∧
    t.hl.changes = s.tickGenerator.hl.changes ∧ t.hl.serving = s.hl.serving ∧ t.life.otp = s.life.otp ∧ t.store = s.store ∧
    (s.chain.bcast.st ≠ 1 → t.ld = s.ld) ∧ t.isl = s.isl ∧ t.tap = s.tap)) ∧
  (∀ s : State,
    let t := s.tickGenerator
    t.tick.count = 0 ∧ t.tick.ext = 0 ∧ t.fld (CK 0x828) 0 13 = (s.P + s.tick.ext) % 2 ^ 13 ∧
    t.timePs = s.timePs + (s.P + s.tick.ext - s.tick.count) * s.fabricPs ∧
    (∀ v, s.presetDue = some v → t.frameNo = v % 2 ^ 48 ∧ t.bit (CK 0x80C) 11 = true) ∧
    (s.presetDue = none → s.tick.preset = true →
      t.frameNo = (s.reg (CK 0x818) + s.fld (CK 0x81C) 0 16 * 2 ^ 32) % 2 ^ 48 ∧ t.bit (CK 0x80C) 11 = true) ∧
    (s.presetDue = none → s.tick.preset = false → ∀ j, s.tick.jump = some j →
      t.frameNo = (s.frameNo + 1 + j) % 2 ^ 48 ∧ t.bit (CK 0x80C) 10 = true) ∧
    (s.presetDue = none → s.tick.preset = false → s.tick.jump = none → s.tick.zero = true → t.frameNo = 0) ∧
    (s.presetDue = none → s.tick.preset = false → s.tick.jump = none → s.tick.zero = false →
      t.frameNo = (s.frameNo + 1) % 2 ^ 48) ∧
    (s.presetDue = none → t.hl.changes = s.hl.changes.map Accepted.aged) ∧
    (∀ v, s.presetDue = some v →
      t.hl.changes = (s.hl.changes.filter (fun a => (a.presetAt s.plainFrame).isNone)).map Accepted.aged) ∧
    (∀ v, s.presetDue = some v → ∃ a ∈ s.hl.changes, a.what = .preset v ∧ laterFrame a.target s.plainFrame = false) ∧
    t.tick.pendSrc = none ∧ t.tick.pendP = none ∧ t.tick.pendW = none ∧
    (∀ p, s.tick.pendP = some p → t.P = p % 2 ^ 13) ∧ (s.tick.pendP = none → t.P = s.P) ∧
    (∀ w, s.tick.pendW = some w → t.wMax = w % 2 ^ 7) ∧ (s.tick.pendW = none → t.wMax = s.wMax) ∧
    (∀ x, s.tick.pendSrc = some x → t.src = x % 4) ∧ (s.tick.pendSrc = none → t.src = s.src) ∧
    (s.tick.ext ≠ 0 → t.bit (CK 0x80C) 8 = true) ∧
    (s.tick.ext ≠ 0 → s.tick.pendSrc = none → t.locked = true) ∧
    (∀ x, s.tick.pendSrc = some x → x ≠ s.src → t.locked = decide (x % 4 = 0)) ∧
    (t.src = 0 → s.tick.acq = true → t.locked = true) ∧
    (s.tick.ext = 0 → s.tick.pendSrc = none → s.src ≠ 0 ∨ s.tick.acq = false → t.locked = s.locked) ∧
    { t with csr := s.csr, tick := s.tick, timePs := s.timePs, hl := s.hl, chain := s.chain, rg := s.rg } = s ∧
    (∀ r, r < 96 → t.region r = if s.tick.count < s.P + s.tick.ext then { s.region r with swapCycle := false, pinStart := false }
      else s.region r) ∧
    { t.chain with lines := s.chain.lines, calib := s.chain.calib } = s.chain ∧ (s.tick.pendSrc = none → t.chain.calib = s.chain.calib)) ∧
  (∀ s : State, s.clk.self = none → ∀ u, u = s.tickGenerator → Completes .tick s (fun t =>
    (∀ q, q < 384 → s.clk.stopped = false → s.run.hold = false →
      (s.qMode q ≠ 0 → (t.queue q).lutPend = false ∧ (t.queue q).half =
        (if (s.queue q).lutPend = true ∧ dDouble (s.desc q) = true then 1 - (s.queue q).half else (s.queue q).half)) ∧
      (s.qMode q = 3 → s.jumps = false → (t.queue q).curt = addFrame (s.queue q).curt 1 ∧ (t.queue q).wr = (s.queue q).wr ∧
        mget (fun _ => 0) (t.queue q).idx ((t.queue q).curt % 16384) = (s.queue q).wr) ∧
      (s.qMode q = 1 → dDrain (s.desc q) = true → (s.queue q).ro.length < 16 → ∀ free c, free = (s.queue q).occ - (s.queue q).draining →
        c = (if dMaxf (s.desc q) = 0 then free else min (dMaxf (s.desc q)) free) → (t.queue q).occ = (s.queue q).occ ∧
        (t.queue q).ro = (s.queue q).ro ++ (if c = 0 then [] else [.drain s.frameNo c]))) ∧
    (∀ r, r < 96 → s.schedRun r = true → (s.region r).held = false → s.clk.stopped = false → s.leads r = true →
      (u.hl.up = false ∨ u.planDue = false) → t.active r = s.active r ∧
      (s.stepCtx r 0 ≠ s.active r → s.canEnter r (s.stepCtx r 0) = true → t.swapPending r = true ∧ t.pendCtx r = s.stepCtx r 0 ∧
        (t.region r).cls = .planned ∧ (t.region r).pendStep = 0 ∧ (t.region r).due = t.tick.cyc) ∧
      (s.stepCtx r 0 = s.active r ∨ s.canEnter r (s.stepCtx r 0) = false →
        t.stepNo r = 0 ∨ ((t.region r).wait0 = true ∧ t.stepNo r = s.stepNo r))) ∧
    (s.isHead = true → s.mode = 0 → (downPorts.filter (fun p => !s.low p), .set setSof ((decide (u.frameNo % 64 = 0)).toNat +
      (decide (s.chain.bcast.st = 1)).toNat * 2 + u.frameNo % 64 * 4)) ∈ t.chain.sent) ∧
    (∀ k, k < 2 → s.xEn k = true → s.mode = 0 → s.clk.stopped = false → (s.side k).cap.length = s.xS k → ∃ x,
      ((if k = 0 then upPorts else downPorts).filter (fun p => !s.low p), .xch x (s.side k).cap) ∈ t.chain.sent ∧
      x < 256 ∧ x % 128 = s.frameNo % 128 ∧ (128 ≤ x ↔ s.tick.ext = 0 ∧ s.beached = false ∧ u.bit (CK 0x80C) 2 = true ∧
        (s.side k).heldSeen = false ∧ s.sideHeld k = false ∧ s.tickStepDone = true ∧ s.chain.pDiff = false))))

/-- TARGET_TICK_COMMIT in cycle 0 (R56, R57, R289, R290, R453, R462, R497, Table CMD-9): with one accepted change, whose target
frame has come, the change takes effect as a whole and is no longer waiting: a release makes the release of the regions of its
group due at this tick edge, where REGION_RELEASE_EDGE frees them, or, where one of them may not be released, does nothing (the
model's reading, log 111); a power mode starts its sequence (TARGET reads it from this tick on, its reading, log 106); a clock
setting is written, and the ramp of a GCK
starts; an arming starts to store. Of two changes both take effect, the one with the earlier target first and, for one target, in
the order of acceptance (its choice, log 171): any two that start no schedule and no restart do what each does alone, one after
the other. Where one of them is for a later frame it alone waits on. One whose target is later waits on, in another cycle nothing
happens, and during a restart of Headland the change is discarded (R356). The number of a FRAME_PRESET stands from the tick
itself on (TickCommand), so nothing is left of it here. Completion: targetTickCommit. -/
def Obligations.TargetTickCommit : Prop :=
  ∀ (s : State) (a : Accepted),
    let plain (c : Change) : Prop := match c with
      | .sched _ => False
      | .wave _ => False
      | .tickP _ => False
      | .activate _ => False
      | _ => True
    (s.tick.count ≠ 0 → Completes .targetTickCommit s (fun t => t = s)) ∧
    (s.tick.count = 0 → s.hl.up = true → s.hl.changes = [a] → laterFrame a.target s.frameNo = true ∨ a.wait ≠ 0 →
      Completes .targetTickCommit s (fun t => t = s)) ∧
    (∀ b, s.tick.count = 0 → s.hl.up = true → s.hl.changes = [a, b] → a.wait = 0 → b.wait = 0 → laterFrame a.target s.frameNo = false →
      (laterFrame b.target s.frameNo = false → Completes .targetTickCommit s (fun t =>
        let inOrder : Prop := subFrame s.frameNo b.target ≤ subFrame s.frameNo a.target
        (∀ v w, a.what = .wave v → b.what = .wave w → t.hl.changes = [] ∧ (inOrder → t.wMax = w % 2 ^ 7) ∧ (¬inOrder → t.wMax = v % 2 ^ 7)) ∧
        (∀ p q, a.what = .tickP p → b.what = .tickP q → t.hl.changes = [] ∧ (inOrder → t.P = q % 2 ^ 13) ∧ (¬inOrder → t.P = p % 2 ^ 13)) ∧
        (∀ p w, (a.what = .tickP p ∧ b.what = .wave w) ∨ (a.what = .wave w ∧ b.what = .tickP p) →
          t.hl.changes = [] ∧ t.P = p % 2 ^ 13 ∧ t.wMax = w % 2 ^ 7) ∧
        (plain a.what → plain b.what → ∀ x y, (inOrder ∧ x = a ∧ y = b) ∨ (¬inOrder ∧ x = b ∧ y = a) →
          Completes .targetTickCommit { s with hl := { s.hl with changes := [x] } } (fun u =>
            Completes .targetTickCommit { u with hl := { u.hl with changes := [y] } } (fun w => t = w))))) ∧
      (laterFrame b.target s.frameNo = true → Completes .targetTickCommit s (fun t =>
        (∀ v, a.what = .wave v → t.hl.changes = [b] ∧ t.wMax = v % 2 ^ 7) ∧
        (∀ p, a.what = .tickP p → t.hl.changes = [b] ∧ t.P = p % 2 ^ 13)))) ∧
    (s.tick.count = 0 → s.hl.up = true → s.hl.changes = [a] → a.wait = 0 → laterFrame a.target s.frameNo = false →
      Completes .targetTickCommit s (fun t =>
        (∀ p, a.what = .tickP p → t.hl.changes = [] ∧ t.P = p % 2 ^ 13 ∧ t.tick = s.tick) ∧
        (∀ w, a.what = .wave w → t.hl.changes = [] ∧ t.wMax = w % 2 ^ 7 ∧ t.tick = s.tick) ∧
        (∀ v, a.what = .preset v → t = { s with hl := { s.hl with changes := [] } }) ∧
        (∀ v, a.what = .tickCtrl v → v % 4 ≤ 2 → t.hl.changes = [] ∧ t.src = v % 4 ∧ { t with csr := s.csr, tick := s.tick, hl := s.hl, chain := s.chain } = s ∧
          { t.chain with calib := s.chain.calib } = s.chain) ∧
        (∀ q, a.what = .lutSwap q → t.hl.changes = [] ∧ (t.queue q).half = (if dDouble (s.desc q) then 1 - (s.queue q).half else (s.queue q).half) ∧
          (∀ k, k ≠ q → t.queue k = s.queue k) ∧ { t with qs := s.qs, hl := s.hl } = s) ∧
        (∀ q d, a.what = .qdesc q d → t.hl.changes = [] ∧ t.desc q = d.toNat ∧ ∀ k, k < 384 → k ≠ q → t.queue k = s.queue k) ∧
        (∀ r x, a.what = .sched [(r, x)] → r < 96 → x.length = 10 → t.hl.changes = [] ∧ t.table r = x ∧
          ∀ k, k < 96 → k ≠ r → t.table k = s.table k) ∧
        (∀ r, a.what = .release r →
          (s.groupReleasable r = true → (∀ k ∈ s.releaseGroup r, t.region k = { s.region k with
              relMode := 0, relCyc := s.tick.cyc, relMb := a.mb, relTag := a.tag, group := s.releaseGroup r }) ∧
            (∀ k ∈ s.releaseGroup r, (s.region k).held = true → s.run.hold = false → t.releaseDue k = true) ∧
            (∀ k, k ∉ s.releaseGroup r → t.region k = s.region k) ∧ { t with rg := s.rg, hl := s.hl } = s) ∧
          (s.groupReleasable r = false → { t with hl := s.hl } = s) ∧ t.hl.changes = []) ∧
        (∀ m, a.what = .power m → t.hl.changes = [] ∧ t.mode = s.mode ∧
          (s.mode = 0 → m ≠ 0 → t.modeTarget = m % 4 ∧ t.clk.moving = true ∧ t.clk.stopped = true) ∧
          (s.mode ≠ 0 → m = 0 → t.modeTarget = 0 ∧ t.clk.moving = true ∧ (s.mode = 1 → t.clk.stopped = false) ∧
            (upPorts ++ downPorts, .set setWake 0) ∈ t.chain.sent) ∧
          (m = s.mode → s.clk.moving = false → { t with hl := s.hl } = s)) ∧
        (∀ n v, a.what = .clockSet (0x100 + 4 * n) v → n < 16 →
          ∀ x, x = applyWrite ((ckFields (0x100 + 4 * n)).getD []) (s.reg (CK (0x100 + 4 * n))) v →
          t.hl.changes = [] ∧ t.fld (CK (0x100 + 4 * n)) 0 10 = bits x 0 10 ∧ (∀ k, k < 16 → k ≠ n → t.gckOf k = s.gckOf k) ∧
          (bits x 0 10 ≠ s.fld (CK (0x100 + 4 * n)) 0 10 → bits x 0 4 = (s.gckOf n).src → bits x 4 6 + 1 ≠ (s.gckOf n).div →
            (t.gckOf n).ramp = .down ∧ (t.gckOf n).div = (s.gckOf n).div ∧ t.bit (CK (0x100 + 4 * n)) 10 = true) ∧
          { t with csr := s.csr, clk := s.clk, hl := s.hl } = s) ∧
        (∀ n, a.what = .arm n → t.hl.changes = [] ∧ (s.pbState = 1 → s.probe.storing = false → t.probe.storing = true ∧
          t.probe.left = n ∧ t.probe.counting = !s.bit (PB 0) 3 ∧ t.pbState = (if s.bit (PB 0) 3 then 1 else 2) ∧
          { t with csr := s.csr, probe := s.probe, hl := s.hl } = s)) ∧
        (∀ slot, a.what = .activate slot → t.hl.sel = slot ∧ t.hl.restarting = true ∧ t.hl.up = false ∧ t.hl.cause = 3))) ∧
    (s.tick.count = 0 → s.hl.up = false → s.hl.changes = [a] → a.wait = 0 → laterFrame a.target s.frameNo = false → a.hardware = false →
      Completes .targetTickCommit s (fun t => t = { s with hl := { s.hl with
        changes := [], discarded := s.hl.discarded ++ [(a.mb, a.tag)], nDiscarded := s.hl.nDiscarded + 1 } }))

/-! ## Contexts and swaps (spec/05), clock edges and contention (spec/03, spec/04) -/

/-- SWAP (R137, R142, R146, R147, R148): the candidates that are due are taken planned ones first, then commanded, then requests,
older ones first and lower regions first; they are granted as far as W reaches and none after the first that does not fit; a
planned one keeps its place but waits for the edge that the plan gives it (the model's reading, log 153). No more regions than
W swap at one edge; each granted candidate takes its pending context,
no longer has a swap pending, is in its swap cycle and counts one swap; a region of no granted candidate keeps its context,
its swap and its schedule; PEAK never falls, and nothing but the swap registers and the swap reports changes. Completion: swap, in
every state. -/
def Obligations.Swaps : Prop :=
  ∀ s : State,
    let rank (c : SwapClass) : Nat := if c = .planned then 0 else if c = .commanded then 1 else 2
    let size (l : List Nat) : Nat := (l.map (fun r => (s.pairOf r).length)).sum
    let left := s.wMax - if s.fab.swapAt = s.tick.cyc then s.fab.swapN else 0
    (∀ r, r ∈ s.dueSwaps ↔ s.clk.stopped = false ∧ r < 96 ∧ s.swapPending r = true ∧ s.leads r = true ∧ (s.region r).held = false ∧
      (s.region r).due ≤ s.tick.cyc) ∧
    s.dueSwaps.Pairwise (fun a b => rank (s.region a).cls < rank (s.region b).cls ∨ (rank (s.region a).cls = rank (s.region b).cls ∧
      ((s.region a).due < (s.region b).due ∨ ((s.region a).due = (s.region b).due ∧ a < b)))) ∧
    (∃ n, n ≤ s.dueSwaps.length ∧ s.granted = (s.dueSwaps.take n).filter (fun r => decide ((s.region r).grant ≤ s.tick.cyc)) ∧
      ∀ y, s.dueSwaps[n]? = some y → left < size s.granted + (s.pairOf y).length) ∧
    size s.granted ≤ left ∧ left ≤ s.wMax ∧
    Completes .swap s (fun t =>
      (∀ k, k ∈ s.granted → ∀ r, r ∈ s.pairOf k → t.active r = s.pendCtx k ∧ t.swapPending r = false ∧
        (t.region r).swapCycle = true ∧ t.reg (RG r 0x0C) = (s.reg (RG r 0x0C) + 1) % 2 ^ 32) ∧
      (∀ r, r < 96 → (∀ k, k ∈ s.granted → r ∉ s.pairOf k) → t.region r = s.region r ∧
        t.reg (RG r 0) = s.reg (RG r 0) ∧ t.reg (RG r 0x0C) = s.reg (RG r 0x0C) ∧ t.reg (RG r 0x10) = s.reg (RG r 0x10) ∧
        t.reg (RG r 0x14) = s.reg (RG r 0x14)) ∧
      s.fld (CK 0x834) 0 7 ≤ t.fld (CK 0x834) 0 7 ∧
      { t with csr := s.csr, rg := s.rg, fab := s.fab, hl := s.hl } = s ∧ t.hl = { s.hl with reports := t.hl.reports } ∧
      t.fab = { s.fab with swapAt := t.fab.swapAt, swapN := t.fab.swapN, deferAt := t.fab.deferAt })

/-- SCHEDULED_SWAP (R131, R132, R134, R136): when the nominal start of the next step plus the shift so far has come, a step
whose context is loaded in the region, and in its partner where they are coupled, and differs from the active one makes a swap pending, which drops a request that waits; any other
step starts at its planned start without a swap. Nothing changes outside the registers of the candidate's regions.
A swap that its own deferral moves on is due from before it (the model's reading of R134, log 152).
FABRIC_SWAP_REQUEST (R135, R137): with REQ_EN, a running schedule and a strobe of 1, the request falls due two cycles
later for the context that the target macrocells spell; one whose target is active or not loaded, or that meets a pending
swap, is counted as dropped; with a strobe of 0, in a held region, or at the edge that ends a swap cycle, nothing is
sampled. Completion: scheduledSwap, fabricSwapRequest. -/
def Obligations.PendingSwaps : Prop :=
  (∀ (s : State) (r : Fin 96),
    let j := s.stepNo r + 1
    let st := nominal (tableSteps (s.table r)) j
    let rest (t : State) : Prop := { t with csr := s.csr, rg := s.rg } = s ∧
      (∀ k, k < 96 → k ∉ s.pairOf r → t.region k = s.region k) ∧
      (∀ a, (∀ k, k ∈ s.pairOf r → a ≠ RG k 0 ∧ a ≠ RG k 0x10 ∧ a ≠ RG k 0x14) → t.reg a = s.reg a)
    (s.schedRun r = true → (s.region r).held = false → s.clk.stopped = false → s.leads r = true → j < s.nSteps r →
      (s.region r).wait0 = false → s.swapPending r = false ∨ (s.region r).cls = .request →
      s.frameStart + st + s.shift r (j - 1) ≤ s.tick.cyc →
      (s.stepCtx r j ≠ s.active r → s.canEnter r (s.stepCtx r j) = true → Completes (.scheduledSwap r) s (fun t =>
        t.swapPending r = true ∧ t.pendCtx r = s.stepCtx r j ∧ (t.region r).cls = .planned ∧ (t.region r).pendStep = j ∧
        (t.region r).grant = s.frameStart + st + s.shift r j ∧ t.active r = s.active r ∧ t.stepNo r = s.stepNo r ∧ rest t)) ∧
      (s.stepCtx r j = s.active r ∨ s.canEnter r (s.stepCtx r j) = false → s.frameStart + st + s.shift r j ≤ s.tick.cyc → Completes (.scheduledSwap r) s (fun t =>
        (∀ k, k ∈ s.pairOf r → t.stepNo k = j % 16 ∧ t.fld (RG k 0x14) 0 13 = s.shift r j % 2 ^ 13) ∧ t.swapPending r = false ∧
        t.active r = s.active r ∧ rest t))) ∧
    (s.schedRun r = true → (s.region r).held = false → s.clk.stopped = false → s.leads r = true → (s.region r).wait0 = true →
      s.swapPending r = false → s.stepCtx r 0 = s.active r ∨ s.canEnter r (s.stepCtx r 0) = false → s.frameStart + s.shift r 0 ≤ s.tick.cyc →
      Completes (.scheduledSwap r) s (fun t => (∀ k, k ∈ s.pairOf r → t.stepNo k = 0 ∧ (t.region k).wait0 = false) ∧
        t.active r = s.active r ∧ rest t)) ∧
    ((s.schedRun r = false ∨ (s.region r).held = true ∨ s.clk.stopped = true) → Completes (.scheduledSwap r) s (fun t => t = s))) ∧
  (∀ (s : State) (r : Fin 96),
    let tgt := (s.qOut r (s.fld (RG r 8) 0 9)).toNat + 2 * (s.qOut r (s.fld (RG r 8) 9 9)).toNat + 4 * (s.qOut r (s.fld (RG r 8) 18 9)).toNat
    let on := s.reqEn r = true ∧ s.schedRun r = true ∧ (s.region r).held = false ∧ (s.region r).swapCycle = false ∧
      s.clk.stopped = false ∧ s.leads r = true ∧ s.qOut r (s.fld (RG r 4) 16 9) = true
    (on → tgt ≠ s.active r → s.canEnter r tgt = true → s.swapPending r = false → Completes (.fabricSwapRequest r) s (fun t =>
      t.swapPending r = true ∧ t.pendCtx r = tgt ∧ t.bit (RG r 0) 7 = true ∧ (t.region r).cls = .request ∧
      (t.region r).due = s.tick.cyc + 2 ∧ t.active r = s.active r ∧
      (∀ a, (∀ k, k ∈ s.pairOf r → a ≠ RG k 0) → t.reg a = s.reg a) ∧ (∀ k, k ≠ r.val → t.region k = s.region k) ∧ { t with csr := s.csr, rg := s.rg } = s)) ∧
    (on → (tgt = s.active r ∨ s.canEnter r tgt = false ∨ s.swapPending r = true) → Completes (.fabricSwapRequest r) s (fun t =>
      t.fld (RG r 0x10) 16 16 = min (s.fld (RG r 0x10) 16 16 + 1) 65535 ∧ t.fld (RG r 0x10) 0 16 = s.fld (RG r 0x10) 0 16 ∧
      (∀ a, a ≠ RG r 0x10 → t.reg a = s.reg a) ∧ { t with csr := s.csr } = s)) ∧
    ((s.qOut r (s.fld (RG r 4) 16 9) = false ∨ (s.region r).held = true ∨ (s.region r).swapCycle = true) →
      Completes (.fabricSwapRequest r) s (fun t => t = s)))

/-- A clock edge (R53, R79, R84, R85, R103, R143): every region that is clocked and not in its swap cycle takes the next
values of the bank of its active context and of its shared bits, every other bank stays; an edge of the fabric clock
moves the cycle count and time on; registers, memory and configuration stay, but for what the fabric ports count.
Completion: clockEdge. -/
def Obligations.ClockEdges : Prop :=
  ∀ (s : State) (clk : ClkSrc) (pins : List (Fin 768 × Bool)),
    let taken (t : State) : Prop := ∀ r, r < 96 →
      (s.clocked r = true → (s.region r).swapCycle = false → t.bank r (s.active r) = (s.captured r clk).1 ∧
        t.sharedBits r = (s.captured r clk).2 ∧ ∀ c, c < 8 → c ≠ s.active r → t.bank r c = s.bank r c) ∧
      (s.clocked r = false ∨ (s.region r).swapCycle = true → t.sharedBits r = s.sharedBits r ∧ ∀ c, c < 8 → t.bank r c = s.bank r c)
    (clk ≠ .gck 0 → Completes (.clockEdge clk pins) s (fun t => taken t ∧ { t with fab := s.fab } = s ∧ t.fab.tf = s.fab.tf ∧
      t.fab.port = s.fab.port)) ∧
    (clk = .gck 0 → s.tick.count < s.P + s.tick.ext → s.wakesNow = false → Completes (.clockEdge clk pins) s (fun t => taken t ∧
      t.tick = { s.tick with count := s.tick.count + 1, cyc := s.tick.cyc + 1 } ∧ t.timePs = s.timePs + s.fabricPs ∧
      t.fab.tf = s.fab.tf ∧ (s.stores = false → t.mem = s.mem) ∧ t.glob = s.glob ∧ t.life = s.life ∧ t.store = s.store ∧ t.mb = s.mb)) ∧
    (clk = .gck 0 → s.P + s.tick.ext ≤ s.tick.count → Completes (.clockEdge clk pins) s (fun t => t = s))

/-- CONTENTION_DETECT (R122, R126): where a cross-tier wire of the pair is driven from both ends, both regions are held
for contention and stop driving the pair's wires, and EV_FAULT is latched; where none is, nothing happens. Completion:
contentionDetect. -/
def Obligations.Contention : Prop :=
  ∀ (s : State) (k : Fin 48),
    (∀ w, s.clash k = some w → Completes (.contentionDetect k) s (fun t =>
      (∀ r, (r = k.val ∨ r = k.val + 48) → (t.region r).held = true ∧ ((s.region r).held = false → (t.region r).cause = 3) ∧
        mget (fun _ => (0 : BitVec 1024)) t.fab.shaftOn r = 0) ∧
      (∀ r, r ≠ k.val → r ≠ k.val + 48 → t.region r = s.region r) ∧
      t.hl.latches.any (fun l => l.code = 0x0B ∧ l.src = 0x0104 * 65536 + k.val + 1) = true ∧
      { t with fab := s.fab, rg := s.rg, hl := s.hl } = s)) ∧
    (s.clash k = none → Completes (.contentionDetect k) s (fun t => t = s))

/-! ## Fabric memory ports (spec/06 Table MEM-3) -/

/-- FMP_NOP, FMP_READ and FMP_WRITE (R162, R165 to R167): the operation that the port captured is executed once; a NOP has
no effect; a READ of a word of the region's own blocks gives the word, corrected where one bit has flipped; a WRITE changes
the eight bytes of its word and no other byte; an access to another region's block, or to one that a lower-numbered port
takes in the same cycle, which is counted, is refused with ERR and has no effect; and a port that captured nothing, or
another operation, does nothing. No other port changes. Completion: fmpNop, fmpRead, fmpWrite. -/
def Obligations.PortMemory : Prop :=
  ∀ (s : State) (r : Fin 96) (p : Fin 4),
    let k := 4 * r.val + p.val
    let pt := s.port k
    let gives (t : State) (x : PortRes) : Prop := t.port k = { pt with res := x, fresh := false } ∧ (∀ j, j ≠ k → t.port j = s.port j) ∧
      { t with fab := s.fab, csr := s.csr, mem := s.mem, flips := s.flips, ueSeen := s.ueSeen, hl := s.hl, free := s.free } = s
    (pt.fresh = true → pt.op = 0 → Completes (.fmpNop r p) s (fun t => gives t {} ∧ { t with fab := s.fab } = s)) ∧
    (pt.fresh = true → ∀ b w, b = 96 * bayOf r + pt.addr / 4096 % 128 → w = pt.addr % 4096 → pt.addr / 4096 % 128 < 96 →
      (pt.op = 1 → s.blockRegion b = some r.val → s.collides k pt = false → s.flipMask b w = 0 →
        Completes (.fmpRead r p) s (fun t => gives t { data := BitVec.ofNat 64 (s.rawWord b w), rvalid := true } ∧ { t with fab := s.fab } = s)) ∧
      (pt.op = 1 → s.blockRegion b = some r.val → s.collides k pt = false → popCount (s.flipMask b w) 72 = 1 →
        Completes (.fmpRead r p) s (fun t => gives t { data := BitVec.ofNat 64 (s.rawWord b w), rvalid := true, ce := true } ∧
          { t with fab := s.fab } = s)) ∧
      (pt.op = 1 → s.blockRegion b = some r.val → s.collides k pt = false → popCount (s.flipMask b w) 72 = 2 →
        Completes (.fmpRead r p) s (fun t => gives t { data := BitVec.ofNat 64 (s.storedWord b w), rvalid := true, ue := true } ∧
          t.mem = s.mem ∧ wordKey b w ∈ t.ueSeen)) ∧
      (pt.op = 1 → s.blockRegion b ≠ some r.val →
        Completes (.fmpRead r p) s (fun t => gives t { err := true } ∧ { t with fab := s.fab } = s)) ∧
      (pt.op = 2 → s.blockRegion b = some r.val → s.collides k pt = false →
        Completes (.fmpWrite r p) s (fun t => gives t {} ∧ t.csr = s.csr ∧ t.hl = s.hl ∧ t.flipMask b w = 0 ∧
          (∀ i, i < 8 → t.byte (8 * wordKey b w + i) = BitVec.ofNat 8 (pt.wdata / 256 ^ i % 256)) ∧
          (∀ a, a < 8 * wordKey b w ∨ 8 * wordKey b w + 8 ≤ a → t.byte a = s.byte a))) ∧
      (pt.op = 2 → s.blockRegion b ≠ some r.val →
        Completes (.fmpWrite r p) s (fun t => gives t { err := true } ∧ { t with fab := s.fab } = s)) ∧
      (pt.op = 1 → s.blockRegion b = some r.val → s.collides k pt = false → 3 ≤ popCount (s.flipMask b w) 72 →
        Completes (.fmpRead r p) s (fun t => t.mem = s.mem ∧ ∃ y, gives t y ∧ y.rvalid = true ∧ y.err = false)) ∧
      (s.blockRegion b = some r.val → s.collides k pt = true → ∀ c n, ((c = .fmpRead r p ∧ n = 1) ∨ (c = .fmpWrite r p ∧ n = 2)) →
        pt.op = n → Completes c s (fun t => gives t { err := true } ∧ { t with fab := s.fab, csr := s.csr } = s ∧
          t.fld (QC k 0x60) 0 16 = min (s.fld (QC k 0x60) 0 16 + 1) 65535 ∧ ∀ a, a ≠ QC k 0x60 → t.reg a = s.reg a))) ∧
    (pt.fresh = true → 96 ≤ pt.addr / 4096 % 128 →
      (pt.op = 1 → Completes (.fmpRead r p) s (fun t => gives t { err := true } ∧ { t with fab := s.fab } = s)) ∧
      (pt.op = 2 → Completes (.fmpWrite r p) s (fun t => gives t { err := true } ∧ { t with fab := s.fab } = s))) ∧
    (∀ c n, (c, n) ∈ ([(.fmpNop r p, 0), (.fmpRead r p, 1), (.fmpWrite r p, 2), (.push r p, 3), (.pop r p, 4), (.lookup r p, 5),
        (.histAdd r p, 6), (.readout r p, 7)] : List (Instr × Nat)) →
      pt.fresh = false ∨ pt.op ≠ n → Completes c s (fun t => t = s))

/-- PUSH, POP, LOOKUP, HIST_ADD and READOUT (R177, R179, R182, R185, R188, R189, R190, R193): a push into a FIFO or a
pipeline with room appends the word, one into an open derandomizer record lengthens the record and the last one closes it,
one that finds no room for a record is refused with ERR and its later pushes up to LAST with it, a record's header word being
counted in OCC from its first push (the model's choice, log 176); one into a full FIFO is discarded under DROP, takes the place of
the head under OVERWRITE and stops the queue under STOP, one that finds its write buffer full is refused, one into a queue fed by
its lane is refused; a POP finds the head where the
prefetch holds it behind the word of a POP still under way, and no record that waits to be sent stands before it (the model's
choice after DRAIN_EN goes to 0, log 155); the clock edge presents that word, and the one after it removes it; a lookup gives
the entry of the active half; an add joins the buffered adds; a readout of a pipeline's frame queues the place and length that
the index gives it or, expired, no word, one of a histogram its block. No byte of memory and no other queue changes. Completion: push, pop, lookup, histAdd, readout. -/
def Obligations.PortQueues : Prop :=
  ∀ (s : State) (r : Fin 96) (p : Fin 4),
    let k := 4 * r.val + p.val
    let pt := s.port k
    let x := s.queue k
    let d := s.desc k
    let gives (t : State) (y : PortRes) : Prop := t.port k = { pt with res := y, fresh := false } ∧ (∀ j, j ≠ k → t.port j = s.port j) ∧
      (∀ j, j ≠ k → t.queue j = s.queue j) ∧ t.mem = s.mem ∧
      { t with fab := s.fab, qs := s.qs, csr := s.csr, ueSeen := s.ueSeen, hl := s.hl, free := s.free } = s
    (pt.fresh = true →
      (pt.op = 3 → dSrc d ≠ 1 → Completes (.push r p) s (fun t => gives t { err := true } ∧ t.qs = s.qs ∧ t.csr = s.csr)) ∧
      (pt.op = 3 → dSrc d = 1 → (dMode d = 1 ∨ dMode d = 3) → x.stopped = false → x.bufFull false = false → x.occ < s.wq k →
        Completes (.push r p) s (fun t => gives t {} ∧ (t.queue k).occ = x.occ + 1 ∧ (t.queue k).wr = (x.wr + 1) % s.wq k ∧
          (t.queue k).wbuf = x.wbuf ++ [.word x.wr (BitVec.ofNat 64 pt.wdata) false] ∧ t.hl = s.hl ∧
          ∀ a, a ≠ QC k 0x40 → t.reg a = s.reg a)) ∧
      (pt.op = 3 → dSrc d = 1 → dMode d = 1 → dOvf d = 0 → x.stopped = false → x.bufFull false = false → x.occ = s.wq k →
        Completes (.push r p) s (fun t => gives t {} ∧ (t.queue k).occ = x.occ ∧ (t.queue k).wbuf = x.wbuf ∧ (t.queue k).ovf = true ∧
          t.reg (QC k 0x44) = min (s.reg (QC k 0x44) + 1) (2 ^ 32 - 1))) ∧
      (pt.op = 3 → dSrc d = 1 → dMode d = 1 → dOvf d = 1 → x.stopped = false → x.bufFull false = false → x.occ = s.wq k → 0 < s.wq k →
        Completes (.push r p) s (fun t => gives t {} ∧ (t.queue k).occ = x.occ ∧ (t.queue k).rd = (x.rd + 1) % s.wq k ∧
          (t.queue k).wbuf = x.wbuf ++ [.word x.wr (BitVec.ofNat 64 pt.wdata) false] ∧ (t.queue k).ovf = true ∧
          t.reg (QC k 0x44) = min (s.reg (QC k 0x44) + 1) (2 ^ 32 - 1))) ∧
      (pt.op = 3 → dSrc d = 1 → dMode d = 1 → dOvf d = 2 → x.stopped = false → x.bufFull false = false → x.occ = s.wq k →
        Completes (.push r p) s (fun t => gives t {} ∧ (t.queue k).stopped = true ∧ (t.queue k).occ = x.occ ∧ (t.queue k).wbuf = x.wbuf ∧
          t.reg (QC k 0x44) = min (s.reg (QC k 0x44) + 1) (2 ^ 32 - 1))) ∧
      (pt.op = 3 → dSrc d = 1 → dMode d = 1 → x.stopped = true →
        Completes (.push r p) s (fun t => gives t {} ∧ (t.queue k).occ = x.occ ∧ (t.queue k).wbuf = x.wbuf ∧
          t.reg (QC k 0x44) = min (s.reg (QC k 0x44) + 1) (2 ^ 32 - 1))) ∧
      (pt.op = 3 → dSrc d = 1 → (dMode d = 1 ∨ dMode d = 3) → x.stopped = false → x.bufFull false = true →
        Completes (.push r p) s (fun t => gives t { err := true } ∧ (t.queue k).occ = x.occ ∧ (t.queue k).wbuf = x.wbuf ∧
          t.reg (QC k 0x48) = min (s.reg (QC k 0x48) + 1) (2 ^ 32 - 1))) ∧
      (pt.op = 3 → dSrc d = 1 → dMode d = 2 → x.skipping = false → x.bufFull false = false → x.openRec = none → x.stopped = false →
        x.occ + dRecMax d + 1 ≤ s.wq k → pt.last = false → 1 < dRecMax d →
        Completes (.push r p) s (fun t => gives t {} ∧ (t.queue k).openRec = some ⟨x.wr, 1, false, s.frameNo, 0⟩ ∧ (t.queue k).occ = x.occ + 2)) ∧
      (pt.op = 3 → dSrc d = 1 → dMode d = 2 → x.skipping = false → x.bufFull false = false → ∀ e, x.openRec = some e →
        pt.last = true → Completes (.push r p) s (fun t => gives t {} ∧ (t.queue k).openRec = none ∧ (t.queue k).skipping = e.trunc ∧
          (t.queue k).occ = x.occ + 1)) ∧
      (pt.op = 3 → dSrc d = 1 → dMode d = 2 → x.skipping = false → x.bufFull false = false → x.openRec = none →
        (x.stopped = true ∨ s.wq k < x.occ + dRecMax d + 1) →
        Completes (.push r p) s (fun t => gives t { err := true } ∧ (t.queue k).occ = x.occ ∧ (t.queue k).wbuf = x.wbuf ∧
          (t.queue k).skipping = !pt.last ∧ (t.queue k).refusing = true ∧
          (t.queue k).stopped = (x.stopped || decide (dOvf d = 2)) ∧
          t.reg (QC k 0x44) = min (s.reg (QC k 0x44) + 1) (2 ^ 32 - 1))) ∧
      (pt.op = 3 → dSrc d = 1 → dMode d = 2 → x.skipping = true →
        Completes (.push r p) s (fun t => gives t { err := x.refusing } ∧ (t.queue k).occ = x.occ ∧ (t.queue k).wbuf = x.wbuf ∧
          (t.queue k).skipping = !pt.last ∧ t.csr = s.csr)) ∧
      (pt.op = 3 → dSrc d = 1 → dMode d = 2 → x.skipping = false → x.bufFull false = false → ∀ e, x.openRec = some e →
        pt.last = false → e.len + 1 < dRecMax d →
        Completes (.push r p) s (fun t => gives t {} ∧ (t.queue k).openRec = some { e with len := e.len + 1 } ∧ (t.queue k).occ = x.occ + 1)) ∧
      (pt.op = 4 → (dMode d = 1 ∨ dMode d = 2) → dDrain d = false → Completes (.pop r p) s (fun t => t.qs = s.qs ∧ t.csr = s.csr ∧
        gives t { pop := some (decide ((if pt.out.pop.map (·.1) = some true then 1 else 0) < x.pre.length) && !x.sendsHead, 0) })) ∧
      (pt.op = 4 → dMode d ≠ 1 → dMode d ≠ 2 → Completes (.pop r p) s (fun t => gives t { err := true } ∧ t.qs = s.qs ∧ t.csr = s.csr)) ∧
      (pt.op = 5 → dMode d = 5 → pt.addr < s.entries k → ∀ o, o = pt.addr + x.half * s.entries k →
        s.flipMask (s.qBlock k o) (o % 4096) = 0 →
        Completes (.lookup r p) s (fun t => gives t { data := BitVec.ofNat 64 (s.rawWord (s.qBlock k o) (o % 4096)), rvalid := true } ∧
          t.qs = s.qs ∧ t.csr = s.csr)) ∧
      (pt.op = 5 → dMode d ≠ 5 → Completes (.lookup r p) s (fun t => gives t { err := true } ∧ t.qs = s.qs ∧ t.csr = s.csr)) ∧
      (pt.op = 6 → dMode d = 4 → pt.addr < s.nBins k → x.flight.any (fun f => f.1 = pt.addr) = false → x.adds.length < 16 →
        Completes (.histAdd r p) s (fun t => gives t {} ∧ (t.queue k).adds = x.adds ++ [(pt.addr, pt.wdata % 2 ^ 32)] ∧ t.csr = s.csr)) ∧
      (pt.op = 6 → dMode d = 4 → pt.addr < s.nBins k → x.flight.any (fun f => f.1 = pt.addr) = false → 16 ≤ x.adds.length →
        Completes (.histAdd r p) s (fun t => gives t { err := true } ∧ (t.queue k).adds = x.adds ∧ (t.queue k).ovf = true)) ∧
      (pt.op = 7 → x.leaving = none → dMode d = 4 → x.ro.length < 16 → pt.addr / 4096 % 128 < dBlks d →
        Completes (.readout r p) s (fun t => gives t {} ∧ t.csr = s.csr ∧ (t.queue k).ro = x.ro ++
          [.bins (pt.addr / 4096 % 128) (pt.wdata.testBit 63) s.frameNo pt.dest (pt.wdata / 2 ^ 48 % 4)])) ∧
      (pt.op = 7 → x.leaving = none → dMode d = 3 → x.ro.length < 16 → ∀ f, f = pt.wdata % 2 ^ 48 →
        (laterFrame x.curt f = true → s.retained k f = true → Completes (.readout r p) s (fun t => gives t {} ∧ t.csr = s.csr ∧
          (t.queue k).ro = x.ro ++ [.frame f (mget (fun _ => 0) x.idx (f % 16384)) ((mget (fun _ => 0) x.idx ((f + 1) % 16384) + s.wq k -
            mget (fun _ => 0) x.idx (f % 16384)) % s.wq k) (x.overfull.contains f) false pt.dest (pt.wdata / 2 ^ 48 % 4)])) ∧
        (laterFrame x.curt f = true → s.retained k f = false → Completes (.readout r p) s (fun t => gives t {} ∧ t.csr = s.csr ∧
          (t.queue k).ro = x.ro ++ [.frame f 0 0 false true pt.dest (pt.wdata / 2 ^ 48 % 4)])) ∧
        (laterFrame x.curt f = false → Completes (.readout r p) s (fun t => gives t { err := true } ∧ t.qs = s.qs ∧ t.csr = s.csr))) ∧
      (pt.op = 7 → x.leaving = none → 16 ≤ x.ro.length → Completes (.readout r p) s (fun t => gives t { err := true } ∧ t.qs = s.qs ∧ t.csr = s.csr))) ∧
    (∀ pins h rest, s.tick.count < s.P + s.tick.ext → s.teeLane r p = none → (s.region r).held = false → (s.region r).swapCycle = false →
        s.clk.stopped = false →
      x.pre = h :: rest → x.sendsHead = false →
      (pt.out.pop = none → pt.res.pop = some (true, 0) → Completes (.clockEdge (.gck 0) pins) s (fun t =>
          (t.port k).out.rvalid = true ∧ (t.port k).out.data = h.data ∧ (t.port k).out.ce = h.ce ∧ (t.port k).out.ue = h.ue ∧
          (t.port k).out.pop = some (true, h.off) ∧ t.queue k = s.queue k)) ∧
      (pt.out.pop = some (true, h.off) → Completes (.clockEdge (.gck 0) pins) s (fun t =>
          (t.queue k).pre = rest ∧ (t.queue k).occ = x.occ - 1 ∧ (t.queue k).rd = (x.rd + 1) % s.wq k)))

/-! ## Queue controllers (spec/06) -/

/-- The commands of QC_CMD and QC_ACC_CTRL (R174, R176, R186, R191, R193, Table MEM-14): CLEAR empties the queue, with its
pending readouts and their packets that have not begun to enter the network, and keeps its descriptor, the other queues and
memory; a record that has been sent is counted first; adds of a histogram that have not reached their bins are discarded (the
model's choice, log 181). RESUME leaves the STOP state; CLR_CNT clears the controller's nine counters (not the bay's scrub
counters: the model's choice, log 180); LUT_SWAP waits for the next tick; GO starts an access that waits for the wheel; while one is
pending OFFSET and WRITE take the value written, no further access starts, and the pending one is served with the fields as they
then stand (the model's choice, log 22). QC_ACCESS_DONE stands for the memory cycles of the access that it serves, and 64 pass
before the wheel serves the next (the model's choice, log 175). A controller whose router has no power takes none of them.
Completion: qcClear, qcResume, qcClrCnt, qcLutSwap, qcAccess, qcAccessDone. -/
def Obligations.QueueCommands : Prop :=
  ∀ (s : State) (q : Fin 384),
    let x := s.queue q
    let others (t : State) : Prop := ∀ k, k ≠ q.val → t.queue k = s.queue k
    (s.routersOn = false → ∀ (v : Word) c, c ∈ ([.qcClear q, .qcResume q, .qcClrCnt q, .qcLutSwap q, .qcAccess q v, .qcAccessDone q] : List Instr) →
      Completes c s (fun t => t = s)) ∧
    (s.routersOn = true →
    Completes (.qcClear q) s (fun t => others t ∧ (t.queue q).occ = 0 ∧ (t.queue q).wbuf = [] ∧ (t.queue q).pre = [] ∧
      (t.queue q).ro = [] ∧ (t.queue q).closed = [] ∧ (t.queue q).openRec = none ∧ (t.queue q).adds = [] ∧
      (t.queue q).leaving = none ∧ t.net = s.net.filter (fun p => p.own ≠ q.val || p.left ≠ 0) ∧
      (t.queue q).desc = x.desc ∧ (t.queue q).half = (if dDouble (s.desc q) then x.half else 0) ∧ (t.queue q).stopped = x.stopped ∧
      (s.qMode q = 3 → (t.queue q).curt = subFrame s.frameNo (dFofs (s.desc q)) ∧ (t.queue q).oldest = (t.queue q).curt ∧
        t.bit (QC q 0x20) 18 = true) ∧ t.mem = s.mem ∧
      (x.leaving = none ∨ State.recordLeft q s = false →
        (∀ a, a ≠ QC q 0x20 → t.reg a = s.reg a) ∧ { t with qs := s.qs, csr := s.csr, net := s.net } = s) ∧
      (x.leaving.isSome = true → State.recordLeft q s = true → t.reg (QC q 0x4C) = min (s.reg (QC q 0x4C) + 1) (2 ^ 32 - 1))) ∧
    Completes (.qcResume q) s (fun t => others t ∧ t.queue q = { x with stopped := false } ∧ { t with qs := s.qs } = s) ∧
    Completes (.qcClrCnt q) s (fun t => (∀ i, i < 9 → t.reg (QC q (0x40 + 4 * i)) = 0) ∧
      (∀ a, (∀ i, i < 9 → a ≠ QC q (0x40 + 4 * i)) → t.reg a = s.reg a) ∧ { t with csr := s.csr } = s) ∧
    Completes (.qcLutSwap q) s (fun t => others t ∧ t.queue q = { x with lutPend := true } ∧ { t with qs := s.qs } = s) ∧
    (∀ v : Word, s.accBusy q = false → s.qMode q ≠ 0 → v.toNat % 2 ^ 19 < s.wq q → Completes (.qcAccess q v) s (fun t =>
      t.accBusy q = true ∧ t.fld (QC q 0x90) 0 19 = v.toNat % 2 ^ 19 ∧ t.accWrite q = v.toNat.testBit 24 ∧
      (∀ a, a ≠ QC q 0x90 → t.reg a = s.reg a) ∧ { t with csr := s.csr } = s)) ∧
    (∀ v : Word, s.accBusy q = false → (s.qMode q = 0 ∨ s.wq q ≤ v.toNat % 2 ^ 19) → Completes (.qcAccess q v) s (fun t =>
      t.accBusy q = false ∧ t.bit (QC q 0x90) 25 = true ∧ { t with csr := s.csr } = s)) ∧
    (∀ v : Word, s.accBusy q = true → Completes (.qcAccess q v) s (fun t => t.accBusy q = true ∧
      t.fld (QC q 0x90) 0 19 = v.toNat % 2 ^ 19 ∧ t.accWrite q = v.toNat.testBit 24 ∧ t.fld (QC q 0x90) 25 7 = s.fld (QC q 0x90) 25 7 ∧
      (∀ a, a ≠ QC q 0x90 → t.reg a = s.reg a) ∧ { t with csr := s.csr } = s)) ∧
    (s.accBusy q = true → ∀ o, o = s.fld (QC q 0x90) 0 19 →
      (s.qMode q ≠ 0 → o < s.wq q → s.accWrite q = true → Completes (.qcAccessDone q) s (fun t =>
        t.accBusy q = false ∧ t.bit (QC q 0x90) 25 = false ∧ others t ∧ t.queue q = { x with accWait := 64 } ∧
        (∀ i, i < 8 → t.byte (8 * wordKey (s.qBlock q o) (o % 4096) + i) =
          BitVec.ofNat 8 ((s.reg (QC q 0x94) + s.reg (QC q 0x98) * 2 ^ 32) / 256 ^ i % 256)) ∧
        (∀ a, a < 8 * wordKey (s.qBlock q o) (o % 4096) ∨ 8 * wordKey (s.qBlock q o) (o % 4096) + 8 ≤ a → t.byte a = s.byte a))) ∧
      (s.qMode q ≠ 0 → o < s.wq q → s.accWrite q = false → s.flipMask (s.qBlock q o) (o % 4096) = 0 →
        Completes (.qcAccessDone q) s (fun t => t.accBusy q = false ∧ others t ∧ t.queue q = { x with accWait := 64 } ∧
        t.reg (QC q 0x94) = s.rawWord (s.qBlock q o) (o % 4096) % 2 ^ 32 ∧ t.reg (QC q 0x98) = s.rawWord (s.qBlock q o) (o % 4096) / 2 ^ 32 ∧
        { t with csr := s.csr, qs := s.qs } = s)) ∧
      (s.qMode q = 0 ∨ s.wq q ≤ o → Completes (.qcAccessDone q) s (fun t => t.accBusy q = false ∧ t.bit (QC q 0x90) 25 = true ∧
        { t with csr := s.csr } = s))) ∧
    (s.accBusy q = false → Completes (.qcAccessDone q) s (fun t => t = s)))

/-- The slot wheel (R175, R176): each memory cycle moves the wheel by one position; in a write slot, and in a read slot in which
the read side has nothing, the oldest word that waits is written to its place, and no other byte changes; in a read slot, and in a
write slot in which the write side has nothing, the bin of the oldest add is read, or with no add the next word of the queue is
prefetched (not while DRAIN_EN = 1: the model's choice, log 177), or with neither and no record to read Headland's read is served, if
64 memory cycles have passed since the last access; with nothing pending only the wheel moves; asleep, held or without power the
controller stands still. SCRUB_VISIT (R195 to R197): a running engine moves on by one word, the next bay's blocks
untouched; a word with one bit flipped is written back corrected where port A is free; an uncorrectable one is
counted, reported and left. Completion: slotWheel, scrubVisit. -/
def Obligations.SlotWheel : Prop :=
  (∀ (s : State) (q : Fin 384),
    let x := s.queue q
    let next (y : Queue) : Queue := { y with wheel := (x.wheel + 1) % 16, accWait := x.accWait - 1 }
    let v := s.setQueue q (next x)
    let slot := writeSlot (x.wheel % 16) (dSlots (s.desc q))
    let whole (o : Nat) : Prop := s.flipMask (s.qBlock q o) (o % 4096) = 0
    let turns (t : State) (y : Queue) : Prop := t.queue q = next y ∧ ∀ k, k ≠ q.val → t.queue k = s.queue k
    let stores (t : State) (o n : Nat) : Prop :=
      (∀ i, i < 8 → t.byte (8 * wordKey (s.qBlock q o) (o % 4096) + i) = BitVec.ofNat 8 (n / 256 ^ i % 256)) ∧
      (∀ a, a < 8 * wordKey (s.qBlock q o) (o % 4096) ∨ 8 * wordKey (s.qBlock q o) (o % 4096) + 8 ≤ a → t.byte a = s.byte a)
    (s.clk.stopped = false → s.run.hold = false → s.routersOn = true → x.leaving = none →
      (slot = true ∨ v.readPending q = false →
        (∀ o n l rest, x.wbuf = .word o n l :: rest → Completes (.slotWheel q) s (fun t =>
          turns t { x with wbuf := rest } ∧ stores t o n.toNat ∧
          { t with qs := s.qs, mem := s.mem, flips := s.flips, ueSeen := s.ueSeen } = s)) ∧
        (∀ o n, x.wbuf = [.header o n] → Completes (.slotWheel q) s (fun t =>
          turns t { x with wbuf := [] } ∧ stores t o n.toNat ∧
          { t with qs := s.qs, mem := s.mem, flips := s.flips, ueSeen := s.ueSeen } = s)) ∧
        (∀ b n rest, x.wbuf = [] → x.flight = (b, n, false) :: rest → whole (s.binWord q b) → Completes (.slotWheel q) s (fun t =>
          turns t { x with flight := rest } ∧ { t with qs := s.qs, mem := s.mem, flips := s.flips, ueSeen := s.ueSeen } = s ∧
          ∀ o w, o = s.binWord q b → w = s.rawWord (s.qBlock q o) (o % 4096) →
            (dBinW (s.desc q) = true → stores t o (min (w % 2 ^ 64 + n) (2 ^ 64 - 1))) ∧
            (dBinW (s.desc q) = false → b % 2 = 0 → stores t o (w / 2 ^ 32 * 2 ^ 32 + min (w % 2 ^ 32 + n) (2 ^ 32 - 1))) ∧
            (dBinW (s.desc q) = false → b % 2 = 1 → stores t o (w % 2 ^ 32 + min (w / 2 ^ 32 + n) (2 ^ 32 - 1) * 2 ^ 32)))) ∧
        (x.wbuf = [] → x.flight = [] → s.accBusy q = true → s.accWrite q = true → x.accWait ≤ 1 → s.qMode q ≠ 0 →
          ∀ o, o = s.fld (QC q 0x90) 0 19 → o < s.wq q → Completes (.slotWheel q) s (fun t => t.accBusy q = false ∧
            stores t o (s.reg (QC q 0x94) + s.reg (QC q 0x98) * 2 ^ 32) ∧ (t.queue q).accWait = 64))) ∧
      (slot = false ∨ v.writePending q = false →
        (∀ b n rest, x.adds = (b, n) :: rest → x.flight.length < 8 → whole (s.binWord q b) → Completes (.slotWheel q) s (fun t =>
          { t with qs := s.qs } = s ∧
          (x.flight.any (fun f => f.1 = b) = false → turns t { x with adds := rest, flight := x.flight ++ [(b, n, false)] }) ∧
          (x.flight.any (fun f => f.1 = b) = true → turns t { x with adds := rest, flight := x.flight.map (fun f =>
            if f.1 = b then (b, min (f.2.1 + n) (s.binMax q), f.2.2) else f) }))) ∧
        (x.adds = [] → s.canPrefetch q = true → ∀ o, o = (x.rd + x.pre.length) % s.wq q → whole o → Completes (.slotWheel q) s (fun t =>
          { t with qs := s.qs } = s ∧
          turns t { x with pre := x.pre ++ [⟨o, BitVec.ofNat 64 (s.rawWord (s.qBlock q o) (o % 4096)), false, false⟩] })) ∧
        (x.adds = [] → s.canPrefetch q = false → s.readoutReads q = false → s.accBusy q = true → s.accWrite q = false → x.accWait ≤ 1 →
          s.qMode q ≠ 0 → ∀ o, o = s.fld (QC q 0x90) 0 19 → o < s.wq q → whole o → Completes (.slotWheel q) s (fun t =>
            t.accBusy q = false ∧ (t.queue q).accWait = 64 ∧ { t with csr := s.csr, qs := s.qs } = s ∧
            t.reg (QC q 0x94) = s.rawWord (s.qBlock q o) (o % 4096) % 2 ^ 32 ∧
            t.reg (QC q 0x98) = s.rawWord (s.qBlock q o) (o % 4096) / 2 ^ 32))) ∧
      (v.writePending q = false → v.readPending q = false → Completes (.slotWheel q) s (fun t => t = v))) ∧
    ((s.clk.stopped = true ∨ s.run.hold = true ∨ s.routersOn = false) → Completes (.slotWheel q) s (fun t => t = s))) ∧
  (∀ (s : State) (b : Fin 24) (free : Bool),
    let p := s.reg (scrubReg b 0x804)
    let k := 96 * b.val + p / 2 ^ 16 % 128
    let w := p % 4096
    (s.scrubRun b = false ∨ s.rails.vmem = false → Completes (.scrubVisit b free) s (fun t => t = s)) ∧
    (s.scrubRun b = true → s.rails.vmem = true → s.flipMask k w = 0 → Completes (.scrubVisit b free) s (fun t =>
      { t with csr := s.csr, scrubN := s.scrubN } = s ∧
      (w < 4095 → t.reg (scrubReg b 0x804) = w + 1 + p / 2 ^ 16 % 128 * 2 ^ 16) ∧
      (w = 4095 → p / 2 ^ 16 % 128 < 95 → t.reg (scrubReg b 0x804) = (p / 2 ^ 16 % 128 + 1) * 2 ^ 16) ∧
      (w = 4095 → p / 2 ^ 16 % 128 = 95 → t.reg (scrubReg b 0x804) = 0 ∧
        t.reg (scrubReg b 0x808) = (s.reg (scrubReg b 0x808) + 1) % 2 ^ 32))) ∧
    (s.scrubRun b = true → s.rails.vmem = true → popCount (s.flipMask k w) 72 = 1 → Completes (.scrubVisit b free) s (fun t =>
      (∀ a, t.byte a = s.byte a) ∧ t.flipMask k w = (if free then 0 else s.flipMask k w) ∧
      t.reg (scrubReg b 0x80C) = (if free then min (s.reg (scrubReg b 0x80C) + 1) (2 ^ 32 - 1) else s.reg (scrubReg b 0x80C)))) ∧
    (s.scrubRun b = true → s.rails.vmem = true → popCount (s.flipMask k w) 72 = 2 → Completes (.scrubVisit b free) s (fun t =>
      t.mem = s.mem ∧ t.flips = s.flips ∧ wordKey k w ∈ t.ueSeen ∧
      t.reg (scrubReg b 0x810) = min (s.reg (scrubReg b 0x810) + 1) (2 ^ 32 - 1))))

/-- LANE_WORD and READOUT_RECORD_SEND (R178, R179, R183, R185, R187, R482 to R484, R487): a word of a running lane whose block delivers
it joins the FIFO or the pipeline that the lane feeds and, with the tee on, the tee's four words, or is counted as dropped
there; in 8b/10b a control character other than K28.5 is a code error; in far-end loopback a word is sent again instead (the model's
choice, log 167); a full pipeline gives up its oldest frame, and drops the word where that is the open one, marked overfull. The record
at the head of the readout queue is sent to its destination as header words, data and trailer in packets of at most 64 words, the
command itself reading its words (the model's choice, log 139): an expired frame without data, a retained one with its words, the
bins of a histogram's block, cleared where asked, a drain record with the words now at the head of the queue (after an OVERWRITE
those that follow: the model's choice, log 79), a derandomizer record within the frame's allowance; once its packets have entered
the network the entry is free and counted, and drained words leave the queue; until then the record is
held at its controller. The network carries what it can meanwhile (the model's choice, log 137). Completion: laneWord,
readoutRecordSend. -/
def Obligations.QueueTraffic : Prop :=
  ∀ s : State,
    (∀ (n : Fin 96) (w : DWord), s.laneRuns n = true → s.bit (LN n 8) 0 = false → ∀ q, s.laneQueue n = some q → s.qMode q = 1 →
      (s.queue q).stopped = false → (s.queue q).bufFull true = false → (s.queue q).occ < s.wq q →
      Completes (.laneWord n w false) s (fun t => (t.queue q).occ = (s.queue q).occ + 1 ∧
        (t.queue q).wbuf = (s.queue q).wbuf ++ [.word (s.queue q).wr w true] ∧ (∀ k, k ≠ q → t.queue k = s.queue k) ∧
        t.mem = s.mem ∧ { t with qs := s.qs, csr := s.csr, lane := s.lane } = s ∧
        ∀ a, a ≠ LN n 0x24 → a ≠ QC q 0x40 → t.reg a = s.reg a)) ∧
    (∀ (n : Fin 96) (w : DWord), s.laneRuns n = true → s.bit (LN n 8) 0 = false → ∀ q, s.laneQueue n = some q → s.qMode q = 3 →
      (s.queue q).bufFull true = false → ∀ x, x = s.queue q →
      let joins (t : State) (occ oldest : Nat) : Prop := (t.queue q).occ = occ ∧ (t.queue q).oldest = oldest ∧
        (t.queue q).wr = (x.wr + 1) % s.wq q ∧ (t.queue q).wbuf = x.wbuf ++ [.word x.wr w true]
      (x.occ < s.wq q → Completes (.laneWord n w false) s (fun t => joins t (x.occ + 1) x.oldest)) ∧
      (x.occ = s.wq q → 0 < s.wq q → x.oldest ≠ x.curt → 0 < s.frameLen q x.oldest → Completes (.laneWord n w false) s (fun t =>
        joins t (x.occ - s.frameLen q x.oldest + 1) (addFrame x.oldest 1))) ∧
      (x.occ = s.wq q → x.oldest = x.curt → Completes (.laneWord n w false) s (fun t => x.curt ∈ (t.queue q).overfull ∧
        (t.queue q).wbuf = x.wbuf ∧ (t.queue q).occ = x.occ ∧ t.reg (QC q 0x44) = min (s.reg (QC q 0x44) + 1) (2 ^ 32 - 1)))) ∧
    (∀ (n : Fin 96) (w : DWord), s.laneRuns n = true → s.bit (LN n 8) 0 = true → ∀ l, l = s.laneOf n → Completes (.laneWord n w false) s (fun t =>
      (l.tee.length < 4 → t.laneOf n = { l with tee := l.tee ++ [(w, false, l.gap)], gap := false }) ∧
      (4 ≤ l.tee.length → t.laneOf n = { l with gap := false } ∧ t.reg (LN n 0x30) = min (s.reg (LN n 0x30) + 1) (2 ^ 32 - 1)) ∧
      (∀ k, k ≠ n.val → t.laneOf k = s.laneOf k) ∧ t.mem = s.mem ∧ (s.laneQueue n = none → { t with lane := s.lane, csr := s.csr } = s))) ∧
    (∀ (n : Fin 96) (w : DWord) c, s.laneFar n = false →
      let bad : Prop := s.laneCode n = 1 ∧ c = true ∧ w.toNat % 256 ≠ 0xBC
      (s.laneRuns n = false ∨ (s.laneDelivers n w c = false ∧ ¬bad) → Completes (.laneWord n w c) s (fun t => t = s)) ∧
      (s.laneRuns n = true → bad → Completes (.laneWord n w c) s (fun t =>
        t.reg (LN n 0x20) = min (s.reg (LN n 0x20) + 1) (2 ^ 32 - 1) ∧ (∀ a, a ≠ LN n 0x20 → t.reg a = s.reg a) ∧
        { t with csr := s.csr } = s))) ∧
    (∀ (n : Fin 96) (w : DWord) c, s.laneFar n = true → Completes (.laneWord n w c) s (fun t =>
      t.laneOf n = { s.laneOf n with tx := (s.laneOf n).tx ++ [(w, if c then w.toNat % 256 else 0)] } ∧ (∀ k, k ≠ n.val → t.laneOf k = s.laneOf k) ∧
      { t with lane := s.lane } = s)) ∧
    (∀ q : Fin 384,
      let x := s.queue q
      let words (fr kind : Nat) (data : List Nat) (n : Nat) (e c : Bool) : List Nat :=
        [fr % 2 ^ 48 + kind * 2 ^ 48, data.length % 2 ^ 19 + q.val * 2 ^ 19 + x.seq % 65536 * 2 ^ 28] ++ data ++
          [n % 2 ^ 19 + e.toNat * 2 ^ 19 + c.toNat * 2 ^ 20]
      let packets (dest lane : Nat) (l : List Nat) : List Packet := (packetsOf l.length l).map (fun ws =>
        ({ hdr := mkHdr dest (clusterNode (q.val / 12)) 2 4 (ws.length / 4) 0 0 0 0 lane 0, data := ws.map (BitVec.ofNat 64),
           own := q.val } : Packet).routed)
      let sent (b : State) (dest lane : Nat) (l : List Nat) (e c : Bool) (used : Nat) : State :=
        ({ b with net := s.net ++ packets dest lane l } : State).setQueue q
          { x with seq := (x.seq + 1) % 65536, leaving := some (e, c), drained := x.drained + used }
      let goes (v : State) (P : State → State → Prop) : Prop := ∀ u, u = State.runNet (State.recordLeft q) v.netTime v →
        Completes (.readoutRecordSend q) s (fun t => t.net = u.net ∧ t.mem = v.mem ∧ (∀ k, k ≠ q.val → t.queue k = s.queue k) ∧
          (State.recordLeft q u = false → t = u) ∧ (State.recordLeft q u = true → (t.queue q).leaving = none ∧
            t.reg (QC q 0x4C) = min (u.reg (QC q 0x4C) + 1) (2 ^ 32 - 1) ∧ P u t))
      let clean (o n : Nat) : Prop := ∀ i, i < n → x.unwritten ((o + i) % s.wq q) = false ∧
        s.flipMask (s.qBlock q ((o + i) % s.wq q)) ((o + i) % s.wq q % 4096) = 0
      let stored (o n : Nat) : List Nat := (List.range n).map (fun i =>
        s.rawWord (s.qBlock q ((o + i) % s.wq q)) ((o + i) % s.wq q % 4096))
      (s.clk.stopped = true ∨ s.run.hold = true ∨ s.routersOn = false → Completes (.readoutRecordSend q) s (fun t => t = s)) ∧
      (s.clk.stopped = false → s.run.hold = false → s.routersOn = true → x.leaving.isSome = true →
        ∀ u, u = State.runNet (State.recordLeft q) s.netTime s → State.recordLeft q u = false →
        Completes (.readoutRecordSend q) s (fun t => t = u)) ∧
      (s.clk.stopped = false → s.run.hold = false → s.routersOn = true → x.leaving.isSome = true →
        ∀ u f a l o ex dest lane, u = State.runNet (State.recordLeft q) s.netTime s → State.recordLeft q u = true →
        x.ro = [.frame f a l o ex dest lane] → Completes (.readoutRecordSend q) s (fun t => t.net = u.net ∧ t.mem = s.mem ∧
          t.queue q = { x with leaving := none, ro := [] } ∧ t.reg (QC q 0x4C) = min (u.reg (QC q 0x4C) + 1) (2 ^ 32 - 1))) ∧
      (s.clk.stopped = false → s.run.hold = false → s.routersOn = true → x.leaving = none → State.recordLeft q s = true →
        (x.ro = [] → Completes (.readoutRecordSend q) s (fun t => t = s)) ∧
        (∀ f a l o dest lane rest, x.ro = .frame f a l o true dest lane :: rest →
          goes (sent s dest lane (words f 3 [] 0 true false) true false 0) (fun u t => (t.queue q).ro = rest ∧ (t.queue q).occ = x.occ ∧
            t.reg (QC q 0x50) = min (u.reg (QC q 0x50) + 1) (2 ^ 32 - 1))) ∧
        (∀ f a l o dest lane rest, x.ro = .frame f a l o false dest lane :: rest →
          (s.retained q f = true → clean a l →
            goes (sent s dest lane (words f 3 (stored a l) l false o) false o 0) (fun u t => (t.queue q).ro = rest ∧ (t.queue q).occ = x.occ ∧
              t.reg (QC q 0x54) = if o then min (u.reg (QC q 0x54) + 1) (2 ^ 32 - 1) else u.reg (QC q 0x54))) ∧
          (s.retained q f = false →
            goes (sent s dest lane (words f 3 (List.replicate l 0) 0 false true) false true 0) (fun u t => (t.queue q).ro = rest ∧
              (t.queue q).occ = x.occ ∧ t.reg (QC q 0x54) = min (u.reg (QC q 0x54) + 1) (2 ^ 32 - 1)))) ∧
        (∀ b fr dest lane rest, clean (4096 * b) 4096 →
          (x.ro = .bins b false fr dest lane :: rest →
            goes (sent s dest lane (words fr 4 (stored (4096 * b) 4096) 4096 false false) false false 0) (fun _ t =>
              (t.queue q).ro = rest ∧ (t.queue q).occ = x.occ)) ∧
          (x.ro = .bins b true fr dest lane :: rest →
            goes (sent (s.clearBins q b 4096) dest lane (words fr 4 (stored (4096 * b) 4096) 4096 false false) false false 0) (fun _ t =>
              (t.queue q).ro = rest ∧ (t.queue q).occ = x.occ ∧ ∀ k, k = 8 * wordKey (s.qBlock q (4096 * b)) 0 →
              ∀ i, t.byte i = if k ≤ i ∧ i < k + 32768 then 0 else s.byte i))) ∧
        (∀ f c rest, x.ro = .drain f c :: rest → clean x.rd c →
          goes (sent s (dDest (s.desc q)) (dDrainLane (s.desc q)) (words f 1 (stored x.rd c) c false false) false false 0) (fun _ t =>
            (t.queue q).ro = rest ∧ (t.queue q).occ = x.occ - c ∧ (t.queue q).rd = (x.rd + c) % s.wq q)) ∧
        (∀ r rest, x.ro = .record r :: rest → clean (r.off + 1) r.len → (∀ i, i ≤ r.len → x.unwritten ((r.off + i) % s.wq q) = false) →
          (dMaxf (s.desc q) = 0 ∨ x.drained + r.len + 3 ≤ dMaxf (s.desc q)) →
          goes (sent s (dDest (s.desc q)) (dDrainLane (s.desc q)) (words r.frame 2 (stored (r.off + 1) r.len) r.len false r.trunc) false r.trunc
              (r.len + 3)) (fun u t =>
            (t.queue q).ro = rest ++ (if s.qMode q = 2 ∧ dDrain (s.desc q) = true then
              (x.closed.take (16 - rest.length)).map .record else []) ∧
            (t.queue q).occ = x.occ - (r.len + 1 - r.popped) ∧ (t.queue q).rd = (x.rd + (r.len + 1 - r.popped)) % s.wq q ∧
            (t.queue q).drained = x.drained + r.len + 3 ∧
            t.reg (QC q 0x54) = if r.trunc then min (u.reg (QC q 0x54) + 1) (2 ^ 32 - 1) else u.reg (QC q 0x54))) ∧
        (∀ r rest, x.ro = .record r :: rest → dMaxf (s.desc q) ≠ 0 → dMaxf (s.desc q) < x.drained + r.len + 3 →
          Completes (.readoutRecordSend q) s (fun t => t = s))))

/-! ## The packet network (spec/07) -/

/-- PACKET_INJECT (R206, R216): a packet whose header is right enters with the SRC of its node; a request takes its tag, and
waits outside while the tag is in use or beyond the node's number of requests; a wrong header is counted and discarded, a
request with one being answered BAD_ARG, which ends no other request of its tag; a node without an endpoint injects nothing, nor does any while the routers have no
power. Completion: packetInject, in every state. -/
def Obligations.PacketInjection : Prop :=
  ∀ (s : State) (n : BitVec 8) (hdr : BitVec 256) (data : List DWord),
    (nodeKind n.toNat = .nothing ∨ s.routersOn = false → Completes (.packetInject n hdr data) s (fun t => t = s)) ∧
    (nodeKind n.toNat ≠ .nothing → s.routersOn = true →
      ∀ p : Packet, p = { hdr := BitVec.ofNat 256 (setBits hdr.toNat 8 8 n.toNat), data := data } →
      (headerOk p = true → 2 ≤ p.typ → Completes (.packetInject n hdr data) s (fun t =>
        t = { s with net := s.net ++ [p.routed] } ∧ p.src = n.toNat)) ∧
      (headerOk p = true → p.typ < 2 → p.tag < maxRequests n.toNat → s.tagBusy n.toNat p.tag = false →
        Completes (.packetInject n hdr data) s (fun t => t = { s with
          net := s.net ++ [({ p with req := s.noc.reqN + 1 } : Packet).routed]
          reqs := s.reqs ++ [⟨n.toNat, p.tag, s.noc.reqN + 1⟩], noc := { s.noc with reqN := s.noc.reqN + 1 } })) ∧
      (headerOk p = true → p.typ < 2 → 0 < maxRequests n.toNat → (maxRequests n.toNat ≤ p.tag ∨ s.tagBusy n.toNat p.tag = true) →
        Completes (.packetInject n hdr data) s (fun t => t = s)) ∧
      (headerOk p = true → p.typ < 2 → maxRequests n.toNat = 0 → Completes (.packetInject n hdr data) s (fun t =>
        t.reg (NR (nodeRouter n.toNat) 0x40) = min (s.reg (NR (nodeRouter n.toNat) 0x40) + 1) (2 ^ 32 - 1) ∧
        (∀ a, a ≠ NR (nodeRouter n.toNat) 0x40 → t.reg a = s.reg a) ∧ { t with csr := s.csr } = s)) ∧
      (headerOk p = false → Completes (.packetInject n hdr data) s (fun t =>
        t.reg (NR (nodeRouter n.toNat) 0x40) = min (s.reg (NR (nodeRouter n.toNat) 0x40) + 1) (2 ^ 32 - 1) ∧
        (∀ a, a ≠ NR (nodeRouter n.toNat) 0x40 → t.reg a = s.reg a) ∧
        { t with csr := s.csr, net := s.net, reqs := s.reqs, noc := s.noc } = s ∧
        (2 ≤ p.typ → { t with csr := s.csr } = s) ∧
        (p.typ < 2 → t.noc = { s.noc with reqN := s.noc.reqN + 1 } ∧
          (p.tag < maxRequests n.toNat → s.tagBusy n.toNat p.tag = false → t.reqs = s.reqs ++ [⟨n.toNat, p.tag, s.noc.reqN + 1⟩]) ∧
          (maxRequests n.toNat ≤ p.tag ∨ s.tagBusy n.toNat p.tag = true → t.reqs = s.reqs) ∧
          ∃ q, t.net = s.net ++ [q] ∧ q.typ = p.typ + 2 ∧ q.dst = n.toNat ∧ q.tag = p.tag ∧ q.status = 4 ∧ q.req = s.noc.reqN + 1))))

/-- CSR requests over the network (R202, R210, R216 to R219, R221, R224): the network carries the oldest packet of the path as
far as it goes (log 137); where it arrives and is a request of that type, the node executes the access and one response
with its status and tag goes back, a held region endpoint answering NOT_READY; a response ends the request it answers and,
at a region with its RX ring enabled, fills the response slot of its tag, while a held region or one without a ring discards
and counts it (what a held endpoint still answers is the model's reading, log 124); one that answers no request is counted late
(its choice where none has timed out, log 157); a timeout ends the request and frees its tag. The network's own cycles change nothing but packets, their bookkeeping and
counters. Completion: csrReadRequest, csrWriteRequest, csrResponse, csrTimeout. -/
def Obligations.CsrOverNetwork : Prop :=
  (∀ (s : State) (src dst v : Nat), let u := s.carry src dst v
    { u with net := s.net, noc := s.noc, csr := s.csr } = s) ∧
  (∀ (s : State) (src dst : BitVec 8) c typ, ((c = .csrReadRequest src dst ∧ typ = 0) ∨ (c = .csrWriteRequest src dst ∧ typ = 1)) →
    ∀ u, u = s.carry src.toNat dst.toNat 0 →
    (u.arrived src.toNat dst.toNat 0 = none → Completes c s (fun t => t = u)) ∧
    (∀ p, u.arrived src.toNat dst.toNat 0 = some p → ∀ w, w = u.takePacket src.toNat dst.toNat 0 →
      let answered (t z : State) (st : Nat) : Prop := ∃ y, t = { z with net := z.net ++ [y] } ∧ y.dst = p.src ∧ y.typ = typ + 2 ∧
        y.tag = p.tag ∧ y.status = st % 256
      (p.typ ≠ typ → Completes c s (fun t => t = u)) ∧
      (p.typ = typ → (ownRegisters p = true ∨ ∀ r, nodeKind dst.toNat = .region r → w.epHeld r = false) →
        ∀ st x z, w.access src.toNat dst.toNat p.addr (typ = 1) p.wide p.payload = ((st, x), z) → Completes c s (fun t => answered t z st)) ∧
      (p.typ = typ → ownRegisters p = false → ∀ r, nodeKind dst.toNat = .region r → w.epHeld r = true →
        Completes c s (fun t => answered t w stNOT_READY)))) ∧
  (∀ (s : State) (src dst : BitVec 8) u, u = s.carry src.toNat dst.toNat 1 →
    (u.arrived src.toNat dst.toNat 1 = none → Completes (.csrResponse src dst) s (fun t => t = u)) ∧
    (∀ p, u.arrived src.toNat dst.toNat 1 = some p → ∀ w, w = u.takePacket src.toNat dst.toNat 1 →
      (w.answers dst.toNat p = none → Completes (.csrResponse src dst) s (fun t =>
        t.reg (NR (nodeRouter dst.toNat) 0x50) = min (w.reg (NR (nodeRouter dst.toNat) 0x50) + 1) (2 ^ 32 - 1) ∧
        (∀ a, a ≠ NR (nodeRouter dst.toNat) 0x50 → t.reg a = w.reg a) ∧ { t with csr := w.csr } = w)) ∧
      (∀ x, w.answers dst.toNat p = some x →
        ((∀ r, nodeKind dst.toNat ≠ .region r) → Completes (.csrResponse src dst) s (fun t => t = { w with reqs := w.reqs.erase x })) ∧
        (∀ r, nodeKind dst.toNat = .region r → w.epHeld r = false → ringEn (w.rxRing r) = true → Completes (.csrResponse src dst) s (fun t =>
          t.reqs = w.reqs.erase x ∧ t.ringWord r (w.rxRing r) (4 + 2 * p.tag) = 1 + p.status * 256 ∧
          t.ringWord r (w.rxRing r) (5 + 2 * p.tag) = p.payload ∧
          (∀ a, a / 32768 ≠ ringBlock r (w.rxRing r) → t.byte a = w.byte a) ∧
          { t with reqs := w.reqs, mem := w.mem, flips := w.flips, ueSeen := w.ueSeen } = w)) ∧
        (∀ r, nodeKind dst.toNat = .region r → w.epHeld r = true ∨ ringEn (w.rxRing r) = false → Completes (.csrResponse src dst) s (fun t =>
          t.reqs = w.reqs.erase x ∧ t.reg (NR (r % 48) 0x54) = min (w.reg (NR (r % 48) 0x54) + 1) (2 ^ 32 - 1) ∧
          (∀ a, a ≠ NR (r % 48) 0x54 → t.reg a = w.reg a) ∧ { t with reqs := w.reqs, csr := w.csr } = w))))) ∧
  (∀ (s : State) (src tag : BitVec 8),
    (s.tagBusy src.toNat tag.toNat = false → Completes (.csrTimeout src tag) s (fun t => t = s)) ∧
    (s.tagBusy src.toNat tag.toNat = true → ∀ l, l = s.reqs.filter (fun x => !(x.node = src.toNat && x.tag = tag.toNat)) →
      ((∀ r, nodeKind src.toNat ≠ .region r) → Completes (.csrTimeout src tag) s (fun t => t = { s with reqs := l } ∧
        t.tagBusy src.toNat tag.toNat = false)) ∧
      (∀ r, nodeKind src.toNat = .region r → s.epHeld r = false → ringEn (s.rxRing r) = true → Completes (.csrTimeout src tag) s (fun t =>
        t.reqs = l ∧ t.ringWord r (s.rxRing r) (4 + 2 * tag.toNat) = 1 + stTIMEOUT * 256 ∧
        t.ringWord r (s.rxRing r) (5 + 2 * tag.toNat) = 0 ∧ t.rg = s.rg ∧ t.qs = s.qs ∧ t.csr = s.csr ∧ t.net = s.net)) ∧
      (∀ r, nodeKind src.toNat = .region r → s.epHeld r = true ∨ ringEn (s.rxRing r) = false → Completes (.csrTimeout src tag) s (fun t =>
        t.reqs = l ∧ t.reg (NR (r % 48) 0x54) = min (s.reg (NR (r % 48) 0x54) + 1) (2 ^ 32 - 1) ∧
        (∀ a, a ≠ NR (r % 48) 0x54 → t.reg a = s.reg a) ∧ { t with reqs := s.reqs, csr := s.csr } = s))))

/-- Bulk and trace packets (R207, R220 to R222, R224, R485, R486, R499): one that the network has carried to a region (the
model's choice, log 137) with its ring enabled and room lies in the ring, which shows it; a ring keeps one word free (the model's
choice, log 26); a bulk packet without room waits, unless FULL_DROP = 1; that one, a trace packet without room, and any packet that
is poisoned or comes to a held endpoint or a ring that is off is discarded and counted. A quad takes it, its header word first where
TX_HDR asks for it, in 64b/66b as a block of type 0xC5, into its lane's stream, in which under THROTTLE a throttle block stands in
every 64 (no packet under a test mode reaches the balls: the model's choice, log 167), or counts it where the lane does not send, or
where it is poisoned (the model's reading, log 89); TX_RING_POLL of an empty ring does nothing, and of another injects the next entry
and moves the read offset (once the endpoint's earlier packets have entered the network: the model's choice, log 137). Completion:
bulkData, tracePacket, laneTransmit, txRingPoll. -/
def Obligations.BulkPackets : Prop :=
  (∀ (s : State) (src dst : BitVec 8) v c, ((c = .bulkData src dst ∧ v = 2) ∨ (c = .tracePacket src dst ∧ v = 3)) →
    ∀ r, nodeKind dst.toNat = .region r → ∀ u, u = s.carry src.toNat dst.toNat v → ∀ d, d = u.rxRing r →
    let left := u.net.eraseP (fun q => q.onPath src.toNat dst.toNat v && u.foremost q)
    (u.arrived src.toNat dst.toNat v = none → Completes c s (fun t => t = u)) ∧
    (∀ p, u.arrived src.toNat dst.toNat v = some p →
      (v = 2 → u.rxWaits r p = true → Completes c s (fun t => { t with ueSeen := u.ueSeen, hl := u.hl, free := u.free } = u ∧
        (u.flipMask (ringBlock r d) 0 = 0 → u.flipMask (ringBlock r d) 1 = 0 → t = u))) ∧
      (u.epHeld r = false → ringEn d = true → p.poison = false → (entryWords p).length ≤ u.ringFree r d → bits d 8 4 ≤ 6 →
        Completes c s (fun t => t.net = left ∧
          t.ringWord r d 0 = (u.ringWord r d 0 % ringSize d + (entryWords p).length) % ringSize d ∧
          t.rg = s.rg ∧ t.qs = s.qs ∧ t.fab = s.fab ∧ t.reqs = s.reqs ∧
          ∀ a, a / 32768 ≠ ringBlock r d → t.byte a = s.byte a)) ∧
      (u.epHeld r = false → ringEn d = true → p.poison = false → u.ringFree r d < (entryWords p).length → v = 3 ∨ ringFullDrop d = true →
        Completes c s (fun t => t.net = left ∧
          { t with net := u.net, csr := u.csr, ueSeen := u.ueSeen, hl := u.hl, free := u.free } = u ∧
          t.reg (NR (r % 48) 0x54) = min (u.reg (NR (r % 48) 0x54) + 1) (2 ^ 32 - 1) ∧
          ∀ a, a ≠ NR (r % 48) 0x54 → t.reg a = u.reg a)) ∧
      (u.epHeld r = true ∨ ringEn d = false ∨ p.poison = true → Completes c s (fun t => t.net = left ∧ { t with net := u.net, csr := u.csr } = u ∧
        t.reg (NR (r % 48) 0x54) = min (u.reg (NR (r % 48) 0x54) + 1) (2 ^ 32 - 1) ∧
        ∀ a, a ≠ NR (r % 48) 0x54 → t.reg a = u.reg a)))) ∧
  (∀ (s : State) (src : BitVec 8) (q : Fin 24) u, u = s.carry src.toNat (quadNode q) 2 →
    (u.arrived src.toNat (quadNode q) 2 = none → Completes (.laneTransmit src q) s (fun t => t = u)) ∧
    (∀ p, u.arrived src.toNat (quadNode q) 2 = some p → ∀ n, n = 4 * q.val + p.h 160 2 →
      (p.poison = false → u.laneSends n = true → ∀ l : List (DWord × Nat), l = (if u.bit (LN n 0xC) 0 then
          [(BitVec.ofNat 64 (p.h 160 32 + p.h 192 32 * 2 ^ 32), if u.laneCode n = 2 then 0xC5 else 0)] else []) ++ p.data.map (fun w => (w, 0)) →
        Completes (.laneTransmit src q) s (fun t =>
          (∃ ws run, (u.laneCode n ≠ 2 ∨ u.laneThr n = false → ws = l) ∧ ws.filter (fun w => w ≠ thrBlock) = l ∧
            (u.laneCode n = 2 → u.laneThr n = true → ∀ i, i + 64 ≤ ws.length → thrBlock ∈ (ws.drop i).take 64) ∧
            t.laneOf n = { s.laneOf n with
              tx := (s.laneOf n).tx ++ (if u.laneTraffic n then ws else []), run := run
              busyPs := max u.timePs (s.laneOf n).busyPs + ws.length * u.laneWordPs n }) ∧
          (∀ k, k ≠ n → t.laneOf k = s.laneOf k) ∧
          t.net = u.net.eraseP (fun y => y.onPath src.toNat (quadNode q) 2 && u.foremost y) ∧ { t with net := u.net, lane := u.lane } = u)) ∧
      ((p.poison = true ∨ u.laneSends n = false) → Completes (.laneTransmit src q) s (fun t =>
        t.reg (LN n 0x34) = min (u.reg (LN n 0x34) + 1) (2 ^ 32 - 1) ∧
        t.net = u.net.eraseP (fun y => y.onPath src.toNat (quadNode q) 2 && u.foremost y) ∧ { t with net := u.net, csr := u.csr } = u)))) ∧
  (∀ (s : State) (r : Fin 96) d, d = s.txRing r →
    (ringEn d = false ∨ s.epHeld r = true ∨ s.routersOn = false → Completes (.txRingPoll r) s (fun t => t = s)) ∧
    (ringEn d = true → s.epHeld r = false → s.routersOn = true → (∀ w, s.flipMask (ringBlock r d) w = 0) →
      ∀ rd, rd = s.ringWord r d 1 % ringSize d →
      (s.ringWord r d 0 % ringSize d = rd → Completes (.txRingPoll r) s (fun t => t = s)) ∧
      (s.ringWord r d 0 % ringSize d ≠ rd → State.allLeft (regionNode r) s = true →
        ∀ w : Nat → Nat, (∀ i, w i = s.ringWord r d (16 + (rd + i) % ringSize d)) →
        ∀ hdr : BitVec 256, hdr = BitVec.ofNat 256 (w 0 + w 1 * 2 ^ 64 + w 2 * 2 ^ 128 + w 3 * 2 ^ 192) →
        ∀ y : Packet, y = { hdr := BitVec.ofNat 256 (setBits hdr.toNat 8 8 (regionNode r)),
                            data := (List.range (4 * bits hdr.toNat 22 5)).map (fun i => BitVec.ofNat 64 (w (4 + i))) } →
        headerOk y = true → 2 ≤ y.typ → Completes (.txRingPoll r) s (fun t =>
          t = ({ s with net := s.net ++ [y.routed] } : State).putRing r d 1 ((rd + 4 + 4 * bits hdr.toNat 22 5) % ringSize d) ∧
          t.ringWord r d 0 = s.ringWord r d 0))))

/-- Slack water, filters and counters (R225 to R231, Tables NOC-7, NOC-11): ENTER starts slack water where no router is in
it; SLACK_DRAINED lets the packets that hold an output drain (log 137) and, once they have, puts the staged settings into force;
SLACK_END ends it with its length and D, SLACK_ABORT ends it with the settings of before; a filter that matches counts and,
with EMIT, sends a trace packet where the emitter may (what the state's time leaves open of the 16 cycles between two is an
operand, log 146); CLR_CNT clears the router's counters; routers without power do nothing. Completion: nrSlackEnter,
slackDrained, slackEnd, slackAbort, filterMatch, nrClrCnt. -/
def Obligations.Routers : Prop :=
  ∀ (s : State) (n : Fin 48),
    let only (t : State) (l : List Nat) : Prop := (∀ a, a ∉ l → t.reg a = s.reg a) ∧ { t with csr := s.csr } = s
    (s.routersOn = false → ∀ d len f o hdr ready, ∀ c ∈ ([.nrSlackEnter n, .slackDrained n d, .slackEnd n len, .slackAbort n,
      .filterMatch n f o hdr ready, .nrClrCnt n] : List Instr), Completes c s (fun t => t = s)) ∧
    (s.routersOn = true →
    ((List.range 48).any s.slackActive = false → Completes (.nrSlackEnter n) s (fun t => t.slackActive n = true ∧
      t.bit (NR n 0x10) 2 = false ∧ only t [NR n 0x10])) ∧
    ((List.range 48).any s.slackActive = true → Completes (.nrSlackEnter n) s (fun t => t = s)) ∧
    (∀ d : Fin 256, s.slackActive n = true → s.bit (NR n 0x10) 2 = false → ∀ u, u = s.drain n →
      { u with net := s.net, noc := s.noc, csr := s.csr } = s ∧
      (State.drained n u = false → Completes (.slackDrained n d) s (fun t => t = u)) ∧
      (State.drained n u = true → Completes (.slackDrained n d) s (fun t =>
        t.bit (NR n 0x10) 2 = true ∧ t.reg (NR n 8) = u.reg (NR n 4) ∧ t.fld (NR n 0xC) 8 8 = u.fld (NR n 0xC) 0 8 ∧
        t.fld (NR n 0xC) 0 8 = u.fld (NR n 0xC) 0 8 ∧ t.noc = { u.noc with slackD := d.val } ∧
        (∀ a, a ∉ [NR n 0x10, NR n 8, NR n 0xC] → t.reg a = u.reg a) ∧ { t with csr := u.csr, noc := u.noc } = u))) ∧
    (∀ len, s.slackActive n = true → s.bit (NR n 0x10) 2 = true → Completes (.slackEnd n len) s (fun t => t.slackActive n = false ∧
      t.fld (NR n 0x14) 8 20 = len % 2 ^ 20 ∧ t.fld (NR n 0x14) 0 8 = s.noc.slackD % 256 ∧
      (∀ a, a ∉ [NR n 0x10, NR n 0x14] → t.reg a = s.reg a) ∧ { t with csr := s.csr, noc := s.noc } = s)) ∧
    (s.slackActive n = true → s.bit (NR n 0x10) 2 = false → Completes (.slackAbort n) s (fun t => t.slackActive n = false ∧
      t.bit (NR n 0x10) 3 = true ∧ (∀ a, a ≠ NR n 0x10 → t.reg a = s.reg a) ∧ { t with csr := s.csr, noc := s.noc } = s)) ∧
    (s.slackActive n = false → ∀ d len, ∀ c ∈ ([.slackDrained n d, .slackEnd n len, .slackAbort n] : List Instr), Completes c s (fun t => t = s)) ∧
    (∀ (f : Fin 2) (o : Fin 8) (hdr : BitVec 256) (ready : Bool), ∀ a, a = NR n (0x200 + 0x20 * f.val) →
      ((s.bit (a + 8) 0 = false → Completes (.filterMatch n f o hdr ready) s (fun t => t = s)) ∧
      (s.bit (a + 8) 0 = true → (s.bit (a + 8) 4 = true ∨ s.fld (a + 8) 1 3 = o.val) →
        (bits hdr.toNat 0 22 ^^^ s.fld a 0 22) &&& s.fld (a + 4) 0 22 = 0 → s.bit (a + 8) 5 = false →
        Completes (.filterMatch n f o hdr ready) s (fun t => t.reg (a + 0xC) = min (s.reg (a + 0xC) + 1) (2 ^ 32 - 1) ∧ only t [a + 0xC])) ∧
      (s.bit (a + 8) 0 = true → (s.bit (a + 8) 4 = true ∨ s.fld (a + 8) 1 3 = o.val) →
        (bits hdr.toNat 0 22 ^^^ s.fld a 0 22) &&& s.fld (a + 4) 0 22 = 0 → s.bit (a + 8) 5 = true →
        (s.slackActive n = false → s.traceReady n ready = true → Completes (.filterMatch n f o hdr ready) s (fun t =>
          (∃ y, t.net = s.net ++ [y] ∧ y.typ = 5 ∧ y.vc = 3 ∧ y.dst = s.fld (NR n 0x280) 0 8 ∧ y.tag = f.val ∧ y.src = routerNode n) ∧
          t.reg (a + 0xC) = min (s.reg (a + 0xC) + 1) (2 ^ 32 - 1) ∧ (∀ k, k ≠ a + 0xC → t.reg k = s.reg k) ∧
          t.traceReady n false = false ∧
          (∃ y, t.noc.traced.find? (fun y => y.1 = n.val) = some y ∧ ∀ x ∈ s.noc.traced.find? (fun x => x.1 = n.val), x.2 + 16 ≤ y.2) ∧ { t with csr := s.csr, net := s.net, noc := s.noc } = s)) ∧
        (s.slackActive n = true ∨ s.traceReady n ready = false → Completes (.filterMatch n f o hdr ready) s (fun t =>
          t.reg (NR n 0x58) = min (s.reg (NR n 0x58) + 1) (2 ^ 32 - 1) ∧ only t [a + 0xC, NR n 0x58]))))) ∧
    Completes (.nrClrCnt n) s (fun t => (∀ i, i < 8 → t.reg (NR n (0x40 + 4 * i)) = 0 ∧ t.reg (NR n (0x180 + 4 * i)) = 0) ∧
      (∀ i, i < 32 → t.reg (NR n (0x100 + 4 * i)) = 0) ∧ t.reg (NR n 0x20C) = 0 ∧ t.reg (NR n 0x22C) = 0 ∧ { t with csr := s.csr } = s ∧
      ∀ a, (∀ o, o < 0x400 → a ≠ NR n o) → t.reg a = s.reg a))

/-! ## Lanes and boundary scan (spec/16) -/

/-- Lanes (R479 to R481, R486, R489): a lane aligns where it is enabled, its quad's PLL is locked and boundary scan has not taken
it; with FL = 1 it keeps the latency that it finds (TARGET_UI = 0) or takes TARGET_UI, and one whose natural latency is above that does
not align, sets LAT_FAIL and latches EV_LINK_DOWN once; a loss of alignment clears
ALIGNED, sets DOWN_SEEN, counts in LN_GAP_CNT and latches EV_LINK_DOWN, and REALIGN is one, also of a lane that is not aligned;
CLR_CNT clears the six counters; the throttle line of a lane with THR follows its queue.
The TAP's instructions (R488, R489) change the TAP and nothing else; IDCODE puts the unit's code into the data
register, BYPASS a 0; SAMPLE/PRELOAD shifts in the boundary register (what its cells capture at inputs is a free value);
under EXTEST, EXTEST_PULSE and EXTEST_TRAIN every user pin of a bank with VIO drives its boundary cell, and no lane and
no Zhevley port carries its owner's traffic (that all three take pins and lanes is the model's reading, log 148); where the life cycle refuses one of these three, BYPASS is loaded in its place (in SCRAPPED too: log 60). Completion: laneAligned,
laneAlignmentLoss, realignLane, lnClrCnt, throttleSignal, bypass, idcode, samplePreload, extest, extestPulse,
extestTrain. -/
def Obligations.Lanes : Prop :=
  (∀ (s : State) (n : Fin 96),
    let lost (t : State) : Prop := t.aligned n = false ∧ t.bit (LN n 0x10) 8 = true ∧ (t.laneOf n).gap = true ∧
      t.reg (LN n 0x28) = min (s.reg (LN n 0x28) + 1) (2 ^ 32 - 1) ∧ t.hl.latches.any (fun l => l.code = 6 ∧ l.src = 0x101 + n.val) = true ∧
      (∀ k, k ≠ n.val → t.laneOf k = s.laneOf k) ∧ t.mem = s.mem ∧ t.qs = s.qs ∧ t.rg = s.rg
    let may : Prop := s.rxEn n = true ∧ s.bit (LN (4 * (n.val / 4)) 0x808) 0 = true ∧ s.gateOpen (n.val / 4) = true ∧ s.rails.vtx = true ∧
      s.rails.vtt = true ∧ s.scanned = false
    let target := s.fld (LN n 4) 0 16
    let locked (t : State) : Prop := t.bit (LN n 0x10) 0 = true ∧ t.bit (LN n 0x10) 1 = true
    let only (t : State) (l : List Nat) : Prop := (∀ a, a ∉ l → t.reg a = s.reg a) ∧ { t with csr := s.csr, hl := s.hl } = s
    (s.aligned n = false → may → ∀ lat,
      (s.bit (LN n 0) 7 = false → Completes (.laneAligned n lat) s (fun t =>
        t.aligned n = true ∧ locked t ∧ only t [LN n 0x10] ∧ t.hl = s.hl)) ∧
      (s.bit (LN n 0) 7 = true → target = 0 → Completes (.laneAligned n lat) s (fun t =>
        t.aligned n = true ∧ locked t ∧ t.fld (LN n 0x14) 0 16 = lat % 65536 ∧ only t [LN n 0x10, LN n 0x14] ∧ t.hl = s.hl)) ∧
      (s.bit (LN n 0) 7 = true → target ≠ 0 → lat ≤ target → Completes (.laneAligned n lat) s (fun t =>
        t.aligned n = true ∧ locked t ∧ t.bit (LN n 0x10) 3 = false ∧ t.fld (LN n 0x14) 0 16 = target ∧
        only t [LN n 0x10, LN n 0x14] ∧ t.hl = s.hl)) ∧
      (s.bit (LN n 0) 7 = true → target ≠ 0 → target < lat → Completes (.laneAligned n lat) s (fun t =>
        t.aligned n = false ∧ locked t ∧ t.bit (LN n 0x10) 3 = true ∧ only t [LN n 0x10] ∧
        (s.bit (LN n 0x10) 3 = true → t.hl = s.hl) ∧
        (s.bit (LN n 0x10) 3 = false → t.hl.latches.any (fun l => l.code = 6 ∧ l.src = 0x101 + n.val) = true)))) ∧
    (s.aligned n = true ∨ ¬may → ∀ lat, Completes (.laneAligned n lat) s (fun t => t = s)) ∧
    (s.aligned n = true → Completes (.laneAlignmentLoss n) s lost) ∧
    (s.aligned n = false → Completes (.laneAlignmentLoss n) s (fun t => t = s)) ∧
    Completes (.realignLane n) s lost ∧
    Completes (.lnClrCnt n) s (fun t => (∀ i, i < 6 → t.reg (LN n (0x20 + 4 * i)) = 0) ∧
      (∀ a, (∀ i, i < 6 → a ≠ LN n (0x20 + 4 * i)) → t.reg a = s.reg a) ∧ { t with csr := s.csr } = s) ∧
    (s.bit (LN n 0xC) 1 = true → s.laneSends n = true → Completes (.throttleSignal n) s (fun t =>
      t.laneOf n = { s.laneOf n with thr := (s.queue (bayQueue (n.val / 4) (s.fld (LN n 0xC) 2 4))).throttle } ∧
      (∀ k, k ≠ n.val → t.laneOf k = s.laneOf k) ∧ { t with lane := s.lane } = s)) ∧
    (s.bit (LN n 0xC) 1 = false → Completes (.throttleSignal n) s (fun t => t = s))) ∧
  (∀ s : State,
    let tap (t : State) (ir : TapIr) : Prop := t.tap.ir = ir ∧ { t with tap := s.tap } = s
    Completes .bypass s (fun t => tap t .bypass ∧ t.tap.dr = 0 ∧ t.tap.boundary = s.tap.boundary) ∧
    Completes .idcode s (fun t => tap t .idcode ∧ t.tap.dr = idcodeWord ∧ t.tap.boundary = s.tap.boundary) ∧
    (∀ l, Completes (.samplePreload l) s (fun t => t.tap.ir = .sample ∧ t.tap.boundary = l ∧ { t with tap := s.tap, free := s.free } = s)) ∧
    (s.scanRefused = false → ∀ x ∈ ([(.extest, .extest), (.extestPulse, .extestPulse), (.extestTrain, .extestTrain)] : List (Instr × TapIr)),
      Completes x.1 s (fun t => tap t x.2 ∧ t.tap.boundary = s.tap.boundary ∧
        (∀ b p v, s.on = true → b ∈ s.rails.vio → s.tap.boundary[Config.boundaryCell (48 * b + p)]? = some v → t.pinOut b p = .drive v) ∧
        (∀ b p, b ∉ s.rails.vio → t.pinOut b p = .z 0) ∧
        (∀ n, t.laneSends n = false ∧ t.laneRuns n = false) ∧ ∀ p, t.portOn p = false)) ∧
    (s.scanRefused = true → ∀ c ∈ ([.extest, .extestPulse, .extestTrain] : List Instr), Completes c s (fun t => tap t .bypass ∧ t.tap.dr = 0)))

/-! ## The Zhevley line (spec/10) -/

/-- Ordered sets (R302, R309, R312, R313, R336 to R338, R460, Table ZVL-1): an SOF of the active upstream port is forwarded, kept
for the frame comparison with the number of its own frame where it announces a SUPER, behind a mark for one that was missed (the
model's reading, log 174), and with SRC = 0b10 in RUN a source event, shown, counted and followed as R42 to R45 say; a
CAL is answered by an ECHO with its number on both ports of its direction, and the last of 256 tells a DN port that its hop has
been measured; an ECHO joins the measurement that runs; IDLE, and KEEP at low rate, show the neighbour's state; a SLEEP puts
the port at low rate, in RUN the other port of its direction takes over from an active one if it can, which otherwise stays active,
and the marks that trim FOSC are lost with it (R450);
a WAKE takes a port back to full rate, where its hop is measured before it may become active. A port that is off, or whose
link is down, takes none of them (the model's choice for a port off, log 119); in far-end loopback it sends them back as they came
(the model's choice, log 184). Completion: sof, cal, echo, idle, keep, sleep, wake. -/
def Obligations.OrderedSets : Prop :=
  ∀ (s : State) (p : Fin 4) (x : Byte),
    (∀ c, s.fromUp p = true → s.low p = false → Completes (.sof p x c) s (fun t =>
      t.chain = { s.chain with sent := s.chain.sent ++ [(downPorts.filter (fun q => !s.low q), .set setSof x.toNat)] } ∧
      t.tick.sofs = s.tick.sofs ++ (if s.sofMissed (s.frameStart + c) (x.toNat / 4 % 64) then [none] else []) ++
        (if x.toNat.testBit 0 then [some (s.numberSof ⟨s.frameStart + c, none⟩)] else []) ∧
      t.tick.sofLast = some (s.frameStart + c, x.toNat / 4 % 64) ∧
      { t with chain := s.chain, tick := s.tick, csr := s.csr } = s ∧
      (s.src = 2 → s.mode = 0 → s.sourceSeen t c) ∧
      (s.src ≠ 2 ∨ s.mode ≠ 0 → t.csr = s.csr ∧ { t.tick with sofs := s.tick.sofs, sofLast := s.tick.sofLast } = s.tick))) ∧
    (∀ c, s.portFar p = false → s.fromUp p = false ∨ s.low p = true → Completes (.sof p x c) s (fun t => t = s)) ∧
    (s.portFar p = true → ∀ c rt, ∀ e ∈ ([(.sof p x c, .set setSof x.toNat), (.cal p x, .set setCal x.toNat), (.echo p x rt, .set setEcho x.toNat),
      (.idle p x, .set setIdle x.toNat), (.keep p x, .set setKeep x.toNat), (.sleep p, .set setSleep 0), (.wake p, .set setWake 0)] :
        List (Instr × ZOut)), Completes e.1 s (fun t => (t.line p).out = (s.line p).out ++ [e.2] ∧
          (∀ q, q ≠ p.val → t.line q = s.line q) ∧
          t = { s with chain := { s.chain with lines := t.chain.lines } })) ∧
    (s.portUp p = true → ¬(p.val % 2 = 1 ∧ x.toNat = 255) → Completes (.cal p x) s (fun t =>
      t = { s with chain := { s.chain with sent := s.chain.sent ++
        [(if p.val % 2 = 1 then downPorts else upPorts, .set setEcho x.toNat)] } })) ∧
    (s.portUp p = true → p.val % 2 = 1 → x.toNat = 255 → Completes (.cal p x) s (fun t =>
      t.chain = { s.chain with sent := s.chain.sent ++ [(downPorts, .set setEcho 255)], slow := s.chain.slow.filter (· ≠ p.val) } ∧
      { t with chain := s.chain, csr := s.csr } = s ∧ (s.mode ≠ 0 → t.csr = s.csr) ∧
      (s.mode = 0 → s.dnPort = none → s.low p = false → p.val = 1 → t.dnPort = some 1))) ∧
    (∀ rt n sum, s.portUp p = true → s.chain.meas = [(p.val, n, sum)] → Completes (.echo p x rt) s (fun t =>
      t = { s with chain := { s.chain with meas := [(p.val, n + 1, sum + rt)] } })) ∧
    (s.portUp p = true → ∀ c, (c = .idle p x ∨ (c = .keep p x ∧ s.low p = true)) → Completes c s (fun t =>
      t.fld (ZV p 4) 3 4 = x.toNat % 16 ∧ t.fld (ZV p 4) 0 3 = s.fld (ZV p 4) 0 3 ∧ (∀ a, a ≠ ZV p 4 → t.reg a = s.reg a) ∧
      { t with csr := s.csr } = s)) ∧
    (s.portUp p = true → s.low p = false → (s.mode ≠ 0 ∨ ((s.upPort = some p.val → p.val = 2 ∨ s.canTake 2 = false) ∧
        (s.dnPort = some p.val → p.val = 3 ∨ s.canTake 3 = false))) → Completes (.sleep p) s (fun t =>
      t.low p = true ∧ t.upPort = s.upPort ∧ t.dnPort = s.dnPort ∧ (∀ a, a ≠ ZV p 4 → a ≠ CK 0x14 → t.reg a = s.reg a) ∧ { t with csr := s.csr } = s ∧
      t.fld (CK 0x14) 0 12 = s.fld (CK 0x14) 0 12 ∧
      (s.fld (CK 0x14) 12 2 = 0 → t.reg (CK 0x14) = s.reg (CK 0x14)) ∧
      (s.fld (CK 0x14) 12 2 = 3 → s.upPort = some p.val → t.bit (CK 0x14) 14 = true ∧ t.fld (CK 0x14) 12 2 ≠ 3))) ∧
    (s.portUp p = true → s.low p = false → s.mode = 0 → ∀ up : Bool, (p.val = if up then 0 else 1) →
      (if up then s.upPort else s.dnPort) = some p.val → s.canTake (p.val + 2) = true →
      Completes (.sleep p) s (fun t =>
        t.low p = true ∧ (if up then t.upPort else t.dnPort) = some (p.val + 2) ∧ (up = true → t.bit (CK 0x80C) 2 = false) ∧
        (∃ l ∈ t.hl.latches, l.code = 7) ∧ t.chain.waits = s.chain.waits ∧ t.mem = s.mem ∧ t.rg = s.rg ∧ t.qs = s.qs)) ∧
    (s.portUp p = true → s.low p = true → s.mode = 0 → Completes (.wake p) s (fun t => t.low p = false ∧ t.mem = s.mem ∧ t.rg = s.rg ∧
      t.qs = s.qs ∧ t.hl = s.hl ∧ t.fab = s.fab ∧ p.val ∈ t.chain.slow ∧ p.val ∉ t.chain.measured ∧
      (p.val % 2 = 0 → s.isHead = false → (p.val, 0, 0) ∈ t.chain.meas))) ∧
    (s.portUp p = true → s.low p = false → s.mode ≠ 0 → s.bit (CK 0x200) 0 = true → s.upPort = some p.val → s.clk.self = none →
      Completes (.wake p) s (fun t => t.clk = { s.clk with self := some (s.nextTarget, 0) } ∧
      t.chain = { s.chain with sent := s.chain.sent ++ [(downPorts, .set setWake 0)] } ∧ { t with clk := s.clk, chain := s.chain } = s)) ∧
    (s.portUp p = true → s.low p = true → s.mode ≠ 0 → s.bit (CK 0x200) 0 = true → s.upPort = some p.val → s.clk.self = none →
      Completes (.wake p) s (fun t => t.clk = { s.clk with self := some (s.nextTarget, 0) } ∧ t.low p = false ∧ t.hl = s.hl ∧
        (downPorts, .set setWake 0) ∈ t.chain.sent)) ∧
    (s.portUp p = false → s.portFar p = false →
      (∀ rt, ∀ c ∈ ([.cal p x, .echo p x rt, .idle p x, .keep p x, .wake p] : List Instr), Completes c s (fun t => t = s)) ∧
      Completes (.sleep p) s (fun t => t.chain = s.chain ∧ (∀ a, a ≠ CK 0x14 → t.reg a = s.reg a)))

/-- Links, measurements and timeouts (R300, R309, R322 to R325, R330, R338, R339, R379): a link that fails is shown, counted,
latched as EV_LINK and no longer measured or active, and the unit at its far end is reported, at once or after 1 ms; one that
comes up is shown, measured where it is an UP port, and becomes active where none of its direction is (the model's choice, log
34); MEASURE of an UP port sends 256 CAL sets; the hop delay of a complete measurement is the average, to the nearest 1/256 UI,
ASYM added, and the port is fit to be active again; with the CALD of the active upstream port the measurement ends a calibration of
the unit (R311); a return to the near port makes it active; the oldest report that waits
leaves; CLR_CNT clears the port's counters; a FORWARD slot that runs out ends with STATUS TIMEOUT. Completion: linkDown,
linkUp, zvMeasure, calComplete, bypassReturn, faultReportWait, zvClrCnt, forwardTimeout. -/
def Obligations.ChainLinks : Prop :=
  ∀ (s : State) (p : Fin 4),
    let calm (t : State) : Prop := t.mem = s.mem ∧ t.rg = s.rg ∧ t.qs = s.qs ∧ t.mb = s.mb ∧ t.life = s.life ∧ t.ld = s.ld
    (s.link p = true → Completes (.linkDown p) s (fun t => t.link p = false ∧ t.bit (ZV p 4) 8 = true ∧
      t.reg (ZV p 0x28) = min (s.reg (ZV p 0x28) + 1) (2 ^ 32 - 1) ∧ (∃ l ∈ t.hl.latches, l.code = 6 ∧ l.src = p.val + 1) ∧
      (∀ x ∈ t.chain.meas, x.1 ≠ p.val) ∧ p.val ∉ t.chain.measured ∧ p.val ∉ t.chain.heard ∧ p.val ∉ t.chain.calib ∧
      t.upPort ≠ some p.val ∧ t.dnPort ≠ some p.val ∧
      (s.assigned = true → p.val < 2 → t.knownFault (s.farUnit p).1 1 = true) ∧
      (s.assigned = true → 2 ≤ p.val → t.chain.waits = s.chain.waits ++ [s.report (s.farUnit p).1 2 p]) ∧ calm t)) ∧
    (s.link p = false → Completes (.linkDown p) s (fun t => t.chain = s.chain ∧ t.hl = s.hl ∧ calm t ∧
      ∀ a, a ≠ CK 0x14 → t.reg a = s.reg a)) ∧
    (s.link p = false → s.portOn p = true → Completes (.linkUp p) s (fun t => t.link p = true ∧ t.hl = s.hl ∧ calm t ∧
      (p.val % 2 = 0 → s.isHead = false → s.low p = false → (p.val, 0, 0) ∈ t.chain.meas) ∧
      (p.val < 2 → s.low p = false → p.val ∉ s.chain.slow → (p.val = 0 → s.isHead = false ∧ s.upPort = none) → (p.val = 1 → s.dnPort = none) →
        (if p.val = 0 then t.upPort else t.dnPort) = some p.val))) ∧
    (s.link p = true ∨ s.portOn p = false → Completes (.linkUp p) s (fun t => t = s)) ∧
    (p.val % 2 = 0 → s.portUp p = true → s.low p = false → s.isHead = false → Completes (.zvMeasure p) s (fun t => t.csr = s.csr ∧ calm t ∧
      t.hl = s.hl ∧ t.chain.meas = s.chain.meas.filter (fun x => x.1 ≠ p.val) ++ [(p.val, 0, 0)] ∧
      t.chain.sent = s.chain.sent ++ (List.range 256).map (fun i => (upPorts, .set setCal i)))) ∧
    (p.val % 2 = 1 ∨ s.portUp p = false ∨ s.low p = true ∨ s.isHead = true → Completes (.zvMeasure p) s (fun t => t = s)) ∧
    (∀ n sum rest, s.chain.meas = (p.val, n, sum) :: rest →
      (n = 256 → Completes (.calComplete p) s (fun t => p.val ∈ t.chain.measured ∧ p.val ∈ t.chain.calib ∧
        p.val ∉ t.chain.slow ∧ (∀ x ∈ t.chain.meas, x.1 ≠ p.val) ∧ calm t ∧
        (∃ avg : Int, 512 * avg ≤ (sum : Int) - 102400 * 256 + 256 ∧ (sum : Int) - 102400 * 256 ≤ 512 * avg + 256 ∧
          t.reg (ZV p 8) = unsigned (avg + signed (s.fld (ZV p 0x14) 0 16) 16) 32) ∧
        ((if p.val % 2 = 0 then s.upPort else s.dnPort).isSome = true →
          (s.chain.heard.contains p.val = false ∨ s.upPort ≠ some p.val → ∀ a, a ≠ ZV p 8 → t.reg a = s.reg a) ∧
          (s.chain.heard.contains p.val = true → s.upPort = some p.val → s.calibrated t p)))) ∧
      (n < 256 → Completes (.calComplete p) s (fun t => t = s))) ∧
    ((∀ x ∈ s.chain.meas, x.1 ≠ p.val) → Completes (.calComplete p) s (fun t => t = s)) ∧
    (∀ up : Bool, ∀ q, q = (if up then 0 else 1) → (if up then s.upPort else s.dnPort) = some (q + 2) → s.superStart = true → s.portUp q = true →
      s.low q = false → q ∉ s.chain.slow → s.fld (ZV q 4) 3 3 = 3 → s.bit (ZV 0 0x820) 4 = false →
      (up = true → s.chain.measured.contains 0 = true) → Completes (.bypassReturn up) s (fun t =>
        (if up then t.upPort else t.dnPort) = some q ∧ calm t)) ∧
    (∀ up : Bool, s.superStart = false → Completes (.bypassReturn up) s (fun t => t = s)) ∧
    (∀ r rest, s.chain.waits = r :: rest → s.knownFault r.origin r.code = false → s.isHead = false → Completes .faultReportWait s (fun t =>
      t.chain.waits = rest ∧ t.knownFault r.origin r.code = true ∧ (∃ m, t.chain.sent = s.chain.sent ++ [(upPorts ++ downPorts, .msg tFault m)] ∧
        m.payload = r.bytes) ∧ { t with chain := s.chain } = s)) ∧
    (s.chain.waits = [] → Completes .faultReportWait s (fun t => t = s)) ∧
    Completes (.zvClrCnt p) s (fun t => t.reg (ZV p 0x20) = 0 ∧ t.reg (ZV p 0x24) = 0 ∧ t.reg (ZV p 0x28) = 0 ∧ { t with csr := s.csr } = s ∧
      ∀ a, a ∉ [ZV p 0x20, ZV p 0x24, ZV p 0x28, ZV p 0x48, ZV p 0x4C, ZV p 0x50] → t.reg a = s.reg a) ∧
    (∀ (k : Fin 32) (f : Fwd), s.chain.fwd = [f] → f.slot = k.val → f.fin = false → Completes (.forwardTimeout k) s (fun t =>
      (∃ g, t.chain.fwd = [g] ∧ g.fin = true ∧ g.slot = f.slot ∧
        (f.dst ≠ 0xFFF → g.rsp = BitVec.ofNat 2048 (natLE (rspBytes f.op f.tag stTIMEOUT (bytesLE 0 4))))) ∧
      { t with chain := s.chain } = s))

/-- Messages (R303, R306 to R308, R310, R330 to R334, R346, R379, Tables ZVL-3 to ZVL-6): each is taken as its type says where
it comes from the right side, and one whose CRC fails is counted and nothing more (an IMAGE ends the unit's load as well, and of a
SUPER its SOF waits no longer). ENUM numbers an unassigned unit; a SUPER is compared with the number of the SOF that announced it
(R51), the oldest that waits, less those whose SUPER its SEQ shows to be lost (the model's reading, log 174); ENUM_RPT and LOAD_RPT
go towards the head, which keeps them; CALD sets D and E of the port, and a change on the active upstream port ends in a calibration
where the unit's own measurement has been made; FAULT reports, new ones, are entered and passed on;
MBREQ fills a free MB1, is answered BUSY at another, and for another unit is passed on; MBRSP ends a FORWARD slot, one to all units when every position has answered; a BCAST and an IMAGE are
passed on. A unit without an address accepts only what is addressed to 0xFFF (R308). A port that is off takes nothing (the
model's choice, log 119), one in far-end loopback sends it back (log 184). Completion: superMsg, enumMsg, enumRpt, cald, faultMsg, mbreq, mbrsp, bcast, image, loadRpt. -/
def Obligations.Messages : Prop :=
  ∀ (s : State) (p : Fin 4) (m : ZMsg),
    let calm (t : State) : Prop := t.mem = s.mem ∧ t.rg = s.rg ∧ t.qs = s.qs ∧ t.life = s.life ∧ t.store = s.store
    (s.portFar p = true → ∀ e ∈ ([(.superMsg p m, tSuper), (.enumMsg p m, tEnum), (.enumRpt p m, tEnumRpt), (.cald p m, tCald),
      (.faultMsg p m, tFault), (.mbreq p m, tMbreq), (.mbrsp p m, tMbrsp), (.bcast p m, tBcast), (.image p m, tImage), (.loadRpt p m, tLoadRpt)] :
        List (Instr × Nat)), Completes e.1 s (fun t => (t.line p).out = (s.line p).out ++ [.msg e.2 m] ∧
          (∀ q, q ≠ p.val → t.line q = s.line q) ∧ t = { s with chain := { s.chain with lines := t.chain.lines } })) ∧
    (m.crcOk = false → s.portUp p = true → Completes (.superMsg p m) s (fun t =>
      t.reg (ZV p 0x24) = min (s.reg (ZV p 0x24) + 1) (2 ^ 32 - 1) ∧ (∀ a, a ≠ ZV p 0x24 → t.reg a = s.reg a) ∧
      (s.fromUp p = false → { t with csr := s.csr } = s) ∧
      (s.fromUp p = true → { t with csr := s.csr } = { s with tick := { s.tick with
        sofs := s.tick.sofs.drop 1, superSeq := s.tick.superSeq.map (fun x => (x + 1) % 65536) } }))) ∧
    (m.crcOk = false → s.portUp p = false → s.portFar p = false → Completes (.superMsg p m) s (fun t => t = s)) ∧
    (m.crcOk = false → ∀ c ∈ ([.enumMsg p m, .enumRpt p m, .cald p m, .faultMsg p m, .mbreq p m, .mbrsp p m, .bcast p m, .loadRpt p m] : List Instr),
      (s.portUp p = true → Completes c s (fun t => t.reg (ZV p 0x24) = min (s.reg (ZV p 0x24) + 1) (2 ^ 32 - 1) ∧
        (∀ a, a ≠ ZV p 0x24 → t.reg a = s.reg a) ∧ { t with csr := s.csr } = s)) ∧
      (s.portUp p = false → s.portFar p = false → Completes c s (fun t => t = s))) ∧
    (m.crcOk = false → s.portUp p = true → s.chain.rx.loads = false → Completes (.image p m) s (fun t =>
      t.reg (ZV p 0x24) = min (s.reg (ZV p 0x24) + 1) (2 ^ 32 - 1) ∧ (∀ a, a ≠ ZV p 0x24 → t.reg a = s.reg a) ∧ { t with csr := s.csr } = s)) ∧
    (m.crcOk = false → s.fromUp p = true → s.low p = false → s.ld.source = 3 → s.ld.phase ≠ .idle → s.chain.rx.loads = true →
      s.ld.boot = false → s.bt.on = false → Completes (.image p m) s (fun t => t.ld.phase = .idle ∧ t.chain.rx.loads = false)) ∧
    (m.crcOk = true → s.fromUp p = true → s.accepts m = true →
      (∀ a k, a = fieldAt (natLE m.payload) 0 2 % 4096 + p.val / 2 + 1 → k = (fieldAt (natLE m.payload) 2 2 + p.val / 2 + 1) % 4096 → a ≤ 0xFFE →
        s.assigned = false → Completes (.enumMsg p m) s (fun t => t.zaddr = a ∧ t.zpos = k ∧ t.assigned = true ∧ calm t ∧ t.hl = s.hl ∧
          (∀ x, x ≠ ZV 0 0x800 → t.reg x = s.reg x) ∧ ∃ y, t.chain.sent = s.chain.sent ++ [(upPorts, .msg tEnumRpt y)])) ∧
      (∀ l : List (Option Sof), l = s.tick.sofs.drop ((s.tick.superSeq.map (fun x => (m.seq.toNat + 65536 - (x + 1) % 65536) % 65536)).getD 0) →
        ∀ k : Tick, k = { s.tick with sofs := l.drop 1, superSeq := some m.seq.toNat } → ∀ frame, frame = fieldAt (natLE m.payload) 0 6 →
        (l.head?.join = none → fieldAt (natLE m.payload) 10 2 % 8192 = s.P → s.isHead = false →
          fieldAt (natLE m.payload) 16 2 = s.fld (ZV 0 0x810) 16 16 → fieldAt (natLE m.payload) 6 4 = s.genLoaded →
          Completes (.superMsg p m) s (fun t => t.genAnn = s.genLoaded ∧ t.chain.superSeen = true ∧ t.tick = k ∧ t.hl = s.hl ∧ calm t ∧
            t.chain.sent = s.chain.sent ++ [(downPorts, .msg tSuper m)] ∧ t.beached = s.beached)) ∧
        (l.head?.join = none → Completes (.superMsg p m) s (fun t => t.tick = k)) ∧
        (∀ cyc own rest, l = some ⟨cyc, some own⟩ :: rest → Completes (.superMsg p m) s (fun t =>
          (s.src = 2 → addFrame frame (s.fld (CK 0x820) 0 16) ≠ own →
            t.tick = { k with jump := some (addFrame (s.tick.jump.getD 0) (subFrame (addFrame frame (s.fld (CK 0x820) 0 16)) own)) }) ∧
          (s.src ≠ 2 ∨ addFrame frame (s.fld (CK 0x820) 0 16) = own → t.tick = k))) ∧
        (∀ cyc rest, l = some ⟨cyc, none⟩ :: rest → Completes (.superMsg p m) s (fun t =>
          t.tick = { k with cmp := some (⟨cyc, none⟩, frame) }))) ∧
      (m.dst.toNat ≠ 0xFFF → (s.assigned = false ∨ m.dst.toNat ≠ s.zaddr) → Completes (.mbreq p m) s (fun t =>
        t = { s with chain := { s.chain with sent := s.chain.sent ++ [(downPorts, .msg tMbreq m)] } })) ∧
      (m.dst.toNat = s.zaddr → s.assigned = true → s.takes 1 = true → (s.mbox 1).st ≠ .idle → Completes (.mbreq p m) s (fun t =>
        { t with chain := s.chain } = s ∧ { t.chain with sent := s.chain.sent, seqs := s.chain.seqs } = s.chain ∧
        (m.dst.toNat ≠ 0xFFF → ∃ y, t.chain.sent = s.chain.sent ++ [(upPorts, .msg tMbrsp y)] ∧ y.dst = BitVec.ofNat 12 m.src.toNat ∧
          y.payload = rspBytes (fieldAt (natLE (m.payload.take 256)) 0 2) (fieldAt (natLE (m.payload.take 256)) 4 2) stBUSY [0, 0, 0, 0]))) ∧
      (m.dst.toNat = s.zaddr → s.assigned = true → s.takes 1 = true → (s.mbox 1).st = .idle → Completes (.mbreq p m) s (fun t =>
        (t.mbox 1).st = .waiting ∧ (t.mbox 1).req = BitVec.ofNat 2048 (natLE (m.payload.take 256)) ∧ (t.mbox 1).from_ = m.src.toNat ∧
        (∀ k, k ≠ 1 → t.mbox k = s.mbox k) ∧ { t with mb := s.mb, hl := s.hl } = s ∧ t.hl = { s.hl with rings := s.hl.rings + 1 })) ∧
      (m.payload.length = 0 → Completes (.bcast p m) s (fun t => t.chain = { s.chain with
        rx := {}, sent := s.chain.sent ++ [(downPorts, .msg tBcast m)] } ∧ { t with chain := s.chain } = s)) ∧
      (m.payload = [1] → s.chain.rx.loads = true → s.ld.source = 3 → s.ld.phase ≠ .idle → s.ld.boot = false → s.bt.on = false →
        Completes (.bcast p m) s (fun t => t.ld.phase = .idle ∧ t.chain.rx = {})) ∧
      (5 ≤ m.payload.length → s.takesBcast (fieldAt (natLE m.payload) 0 4) (fieldAt (natLE m.payload) 4 1) = false →
        Completes (.bcast p m) s (fun t => t.chain = { s.chain with
          rx := { on := true }, sent := s.chain.sent ++ [(downPorts, .msg tBcast m)] } ∧ { t with chain := s.chain } = s)) ∧
      (s.low p = false → s.chain.rx.loads = false → Completes (.image p m) s (fun t => t.chain = { s.chain with
        sent := s.chain.sent ++ [(downPorts, .msg tImage m)] } ∧ { t with chain := s.chain } = s)) ∧
      (s.low p = false → s.chain.rx.loads = true → m.seq.toNat = s.chain.rx.seq % 65536 → s.ld.source = 3 → s.ld.wants = true →
        Completes (.image p m) s (fun t => t.ld = { s.ld with buf := s.ld.buf ++ m.payload, took := s.ld.took + m.payload.length } ∧
          t.chain.rx.seq = s.chain.rx.seq + 1 ∧ { t with chain := s.chain, ld := s.ld } = s))) ∧
    (m.crcOk = true → s.fromDn p = true →
      (s.isHead = false → (Completes (.enumRpt p m) s (fun t => t.chain = { s.chain with sent := s.chain.sent ++ [(upPorts, .msg tEnumRpt m)] } ∧
          { t with chain := s.chain } = s)) ∧
        (Completes (.mbrsp p m) s (fun t => t.chain = { s.chain with sent := s.chain.sent ++ [(upPorts, .msg tMbrsp m)] } ∧
          { t with chain := s.chain } = s)) ∧
        Completes (.loadRpt p m) s (fun t => t.chain = { s.chain with sent := s.chain.sent ++ [(upPorts, .msg tLoadRpt m)] } ∧
          { t with chain := s.chain } = s)) ∧
      (s.isHead = true → (Completes (.enumRpt p m) s (fun t => (∃ e, e ∈ t.chain.roster ∧ e.pos = fieldAt (natLE m.payload) 2 2 % 4096 ∧
            e.addr = fieldAt (natLE m.payload) 0 2 % 4096) ∧
          (∀ e ∈ s.chain.roster, e.pos ≠ fieldAt (natLE m.payload) 2 2 % 4096 → e ∈ t.chain.roster) ∧
          (∀ a, a ≠ ZV 0 0x810 → t.reg a = s.reg a) ∧ { t with chain := s.chain, csr := s.csr } = s)) ∧
        (s.chain.bcast.st = 1 → fieldAt (natLE m.payload) 0 1 = 0 → Completes (.loadRpt p m) s (fun t =>
          t.chain = { s.chain with bcast := { s.chain.bcast with ok := s.chain.bcast.ok + 1 } } ∧ { t with chain := s.chain } = s)) ∧
        (s.chain.bcast.st = 1 → fieldAt (natLE m.payload) 0 1 ≠ 0 → s.chain.bcast.fails.length < 64 → Completes (.loadRpt p m) s (fun t =>
          t.chain = { s.chain with bcast := { s.chain.bcast with
            failN := s.chain.bcast.failN + 1, fails := s.chain.bcast.fails ++ [(m.src.toNat, fieldAt (natLE m.payload) 0 24)] } } ∧
          { t with chain := s.chain } = s)) ∧
        (m.flg.getLsbD 0 = false → ∀ f, s.chain.fwd = [f] → f.fin = false → f.dst = 0xFFF →
          f.op = fieldAt (natLE m.payload) 0 2 → f.tag = fieldAt (natLE m.payload) 4 2 → m.payload.length ≤ 256 → 8 ≤ m.payload.length →
          Completes (.mbrsp p m) s (fun t => ∃ g, t.chain = { s.chain with fwd := [g] } ∧ { t with chain := s.chain } = s ∧
            g.answered = f.answered + 1 ∧ (g.fin = true ↔ f.units ≤ f.answered + 1) ∧
            (fieldAt (natLE m.payload) 6 1 = 0 → g.okN = f.okN + 1 ∧ g.failed = f.failed) ∧
            (fieldAt (natLE m.payload) 6 1 ≠ 0 → g.okN = f.okN ∧ g.failed = f.failed + 1))) ∧
        (m.flg.getLsbD 0 = false → ∀ f, s.chain.fwd = [f] → f.fin = false → f.dst = m.src.toNat → f.dst ≠ 0xFFF →
          f.op = fieldAt (natLE m.payload) 0 2 → f.tag = fieldAt (natLE m.payload) 4 2 → m.payload.length ≤ 256 → 8 ≤ m.payload.length →
          Completes (.mbrsp p m) s (fun t =>
            t.chain = { s.chain with fwd := [{ f with fin := true, rsp := BitVec.ofNat 2048 (natLE (m.payload.take 256)) }] } ∧
            { t with chain := s.chain } = s)))) ∧
    (m.crcOk = true → p.val % 2 = 0 → s.portUp p = true → s.isHead = false → s.accepts m = true →
      ∀ d e, d = fieldAt (natLE m.payload) 0 4 → e = fieldAt (natLE m.payload) 4 4 → Completes (.cald p m) s (fun t =>
      p.val ∈ t.chain.heard ∧ t.reg (ZV p 0xC) = d ∧ t.reg (ZV p 0x10) = e ∧
      let fresh : Prop := s.chain.heard.contains p.val = false ∨ d ≠ s.reg (ZV p 0xC) ∨ e ≠ s.reg (ZV p 0x10)
      (fresh → s.upPort = some p.val → s.chain.calib.contains p.val = true → s.calibrated t p) ∧
      (¬fresh ∨ s.upPort ≠ some p.val ∨ s.chain.calib.contains p.val = false →
        (∀ a, a ≠ ZV p 0xC → a ≠ ZV p 0x10 → t.reg a = s.reg a) ∧ { t with csr := s.csr, chain := s.chain } = s))) ∧
    (m.crcOk = true → s.fromAny p = true → ∀ o c, o = fieldAt (natLE m.payload) 0 2 % 4096 → c = fieldAt (natLE m.payload) 2 1 →
      (s.knownFault o c = true → Completes (.faultMsg p m) s (fun t => t = s)) ∧
      (s.knownFault o c = false → s.accepts m = true → s.isHead = false → s.chain.waits.length ≤ 3 → Completes (.faultMsg p m) s (fun t => t.knownFault o c = true ∧
        t.chain.sent = s.chain.sent ++ [((upPorts ++ downPorts).filter (· ≠ p.val), .msg tFault m)] ∧
        { t with chain := s.chain } = s)))

/-- Superframes, the neighbour exchange and the head's broadcast (R307, R314, R319, R327, R333, R378, Table ZVL-4): in the first
frame of a superframe the head sends its SUPER; in another frame nothing happens; a contribution that comes in time is kept
for its frame, one of a frame that awaits none is not, nor one marked invalid; one that comes too late is counted and not
kept, and one whose CRC fails is counted; a broadcast ends 100 ms after its closing BCAST, as ABORTED where BCAST_ABORT closed
it. Completion: superframeStart, exchangeMessage, bcastEnd. -/
def Obligations.Superframes : Prop :=
  ∀ s : State,
    (s.frameNo % 64 ≠ 0 → Completes .superframeStart s (fun t => t = s)) ∧
    (s.frameNo % 64 = 0 → s.isHead = true → s.chain.role = none → s.chain.move = none → Completes .superframeStart s (fun t =>
      t.mem = s.mem ∧ t.rg = s.rg ∧ t.qs = s.qs ∧ t.tick = s.tick ∧ t.hl = s.hl ∧ t.genAnn = s.chain.genSet.getD s.genLoaded % 2 ^ 32 ∧
      t.chain.epochNext = false ∧ ∃ m rest, t.chain.sent = s.chain.sent ++ (downPorts, .msg tSuper m) :: rest ∧ m.payload.length = 24 ∧
        fieldAt (natLE m.payload) 0 6 = s.frameNo ∧ fieldAt (natLE m.payload) 10 2 = s.P ∧ fieldAt (natLE m.payload) 6 4 = t.genAnn)) ∧
    (∀ (p : Fin 4) (x : Byte) (l : List (BitVec 128)) (ok late : Bool), s.portFar p = true → Completes (.exchangeMessage p x l ok late) s (fun t =>
      (t.line p).out = (s.line p).out ++ [.xch x.toNat l] ∧ t = { s with chain := { s.chain with lines := t.chain.lines } })) ∧
    (∀ (p : Fin 4) (x : Byte) (l : List (BitVec 128)), s.fromAny p = true → s.xEn (p.val % 2) = true →
      (Completes (.exchangeMessage p x l false false) s (fun t => t.reg (ZV p 0x24) = min (s.reg (ZV p 0x24) + 1) (2 ^ 32 - 1) ∧
        { t with csr := s.csr } = s)) ∧
      ((∀ e ∈ (s.side (p.val % 2)).ticks, e.1 % 128 = x.toNat % 128 → s.tick.cyc + 4 ≤ e.2 + s.xL (p.val % 2)) →
        128 ≤ x.toNat → l.length = s.xS (p.val % 2) →
        (x.toNat % 128 = s.frameNo % 128 ∨ ∃ e ∈ (s.side (p.val % 2)).ticks, e.1 % 128 = x.toNat % 128) →
        Completes (.exchangeMessage p x l true false) s (fun t =>
          (x.toNat % 128, l) ∈ (t.side (p.val % 2)).got ∧ t.side (1 - p.val % 2) = s.side (1 - p.val % 2) ∧ { t with chain := s.chain } = s)) ∧
      ((∀ e ∈ (s.side (p.val % 2)).ticks, e.1 % 128 ≠ x.toNat % 128) → (x.toNat < 128 ∨ x.toNat % 128 ≠ s.frameNo % 128) →
        Completes (.exchangeMessage p x l true false) s (fun t =>
          (∀ e ∈ (t.side (p.val % 2)).got, e.1 ≠ x.toNat % 128) ∧ { t with chain := s.chain } = s)) ∧
      (∀ late : Bool, (late = true ∨ ∃ e ∈ (s.side (p.val % 2)).ticks, e.1 % 128 = x.toNat % 128 ∧ e.2 + s.xL (p.val % 2) < s.tick.cyc + 4) →
        Completes (.exchangeMessage p x l true late) s (fun t => (t.side (p.val % 2)).got = (s.side (p.val % 2)).got ∧
          t.reg (ZV (p.val % 2) 0x50) = min (s.reg (ZV (p.val % 2) 0x50) + 1) (2 ^ 32 - 1) ∧
          (∀ a, a ≠ ZV (p.val % 2) 0x50 → t.reg a = s.reg a)))) ∧
    (s.chain.bcast.st = 1 → s.chain.bcast.closed = true → Completes .bcastEnd s (fun t =>
      t = { s with chain := { s.chain with bcast := { s.chain.bcast with st := if s.chain.bcast.aborted then 3 else 2 } } })) ∧
    (s.chain.bcast.st ≠ 1 ∨ s.chain.bcast.closed = false → Completes .bcastEnd s (fun t => t = s))

/-! ## Accesses without a register, host addresses (spec/01, spec/13) -/

/-- Places that no block answers for: an access outside the ranges of Table ARC-5, or to an offset without a register, ends with
BAD_ARG, reads 0 and changes nothing (R36). That this comes before the DENIED of R34 for a region endpoint is the model's choice (log
160), and so is that it comes before the GATED of R461 where the block's gate is closed (log 123). -/
def Obligations.UnassignedAccess : Prop :=
  ∀ (s : State) (node dst a v : Nat) (write wide : Bool),
    (servingNode a = none ∨ ((∀ off, blockOf a ≠ .mem off) ∧ regFields a = none)) →
      s.access node dst a write wide v = ((0x04, 0), s) ∧
      (servingNode a = none → s.headlandAccess a write wide v = ((0x04, 0), s))

/-- Host addresses (R398): the address set by the last ASSIGN, otherwise the chain address; ASSIGN with 0x000 returns the unit
to its chain address as the island holds it, with 0xFFF it is refused; the removal of VHOST loses what was assigned. -/
def Obligations.HostAddress : Prop :=
  ∀ s : State,
    (s.isl.haddr = none → s.hostAddr = s.island.zaddr) ∧ (s.on = true → s.isl.devUp = true → s.island.zaddr = s.zaddr) ∧
    (∀ h, s.isl.haddr = some h → s.hostAddr = h) ∧
    (∀ (b : List Byte) (f : HostFrame), s.rails.vhost = true → readFrame b = some f → f.addr = 0 → f.typ = 10 →
      f.pay.length = 18 → f.pay.take 16 = s.unitBytes →
      (∀ h, h = natLE (f.pay.drop 16) → 0 < h → h < 0xFFF → Completes (.assign b) s (fun t => t.isl.haddr = some h ∧ t.hostAddr = h)) ∧
      (natLE (f.pay.drop 16) = 0 → Completes (.assign b) s (fun t => t.isl.haddr = none ∧ t.hostAddr = s.island.zaddr)) ∧
      (natLE (f.pay.drop 16) = 0xFFF → Completes (.assign b) s (fun t => t.isl.haddr = s.isl.haddr ∧
        t.isl.reply = some (writeFrame s.hostAddr 10 f.seq (s.replyHead 0x04))))) ∧
    Completes .vhostDown s (fun t => t.isl.haddr = none ∧ t.hostAddr = t.island.zaddr)

/-! ## Loading and start-up (spec/08, spec/09) -/

/-- Sources and starts (R249 to R256, R276, Table CFG-10): BOOT_LOAD_START with BOOT = 0b000 and a VALID boot slot starts the
boot load from it, with a port or the chain it waits for the first bytes; a word of the port that a load waits on joins its
stream, a nibble of the serial port completes a byte, low nibble first; after a failed load PSP_ERR stands, and words are
discarded, until a word comes after an idle time of the port, before or after the failure (R251); a rise of SSP_CS_N ends the
skipping, and a load whose image has begun and has not come whole, its trailer included (R253); boundary scan takes the pins (R489, the model's reading, log 148); a stall
ends the load that waits. Registers stay. Completion: bootLoadStart, pspWord, pspIdle, sspNibble, sspCsRise, loadStall. -/
def Obligations.LoadSources : Prop :=
  ∀ s : State,
    (s.on = true → s.bt.started = false → s.ld.phase = .idle → s.hl.up = true → s.lc ≠ 7 →
      (s.boot = 0 → (s.slot s.bootSlot).st = 2 → Completes .bootLoadStart s (fun t => t.bt.started = true ∧ t.bt.on = true ∧
        t.ld.phase = .header ∧ t.ld.boot = true ∧ t.ld.source = 0 ∧ t.ld.slot = s.bootSlot ∧ t.ld.buf = (s.slot s.bootSlot).bytes ∧
        { t with bt := s.bt, ld := s.ld, sq := s.sq } = s)) ∧
      (1 ≤ s.boot → s.boot ≤ 4 → Completes .bootLoadStart s (fun t => t.bt.started = true ∧ t.bt.on = true ∧ t.bt.source = s.boot ∧
        { t with bt := s.bt } = s))) ∧
    ((s.on = false ∨ s.bt.started = true ∨ s.lc = 7) → Completes .bootLoadStart s (fun t => t = s)) ∧
    (∀ w : Word, s.ld.pspErr = false ∨ s.ld.pspGap = true → s.gateOpen 0x2D = true → s.scanned = false → s.bootWaits 1 = true →
      Completes (.pspWord w) s (fun t => t.ld.phase = .header ∧ t.ld.boot = true ∧ t.ld.source = 1 ∧ t.ld.buf = bytesLE w.toNat 4 ∧
        t.ld.pspErr = false ∧ { t with bt := s.bt, ld := s.ld, sq := s.sq } = s)) ∧
    (∀ w : Word, s.ld.pspErr = false ∨ s.ld.pspGap = true → s.gateOpen 0x2D = true → s.scanned = false → s.bootWaits 1 = false → s.ld.source = 1 →
      s.ld.wants = true → s.ld.stalled = false → Completes (.pspWord w) s (fun t =>
        t.ld = { s.ld with pspErr := false, pspGap := false, buf := s.ld.buf ++ bytesLE w.toNat 4, took := s.ld.took + 4 } ∧
        { t with ld := s.ld } = s)) ∧
    (∀ w : Word, (s.ld.pspErr = true ∧ s.ld.pspGap = false) ∨ s.gateOpen 0x2D = false ∨ s.scanned = true →
      Completes (.pspWord w) s (fun t => t = s)) ∧
    Completes .pspIdle s (fun t => t = { s with ld := { s.ld with pspGap := true } }) ∧
    (∀ x : BitVec 4, s.ld.sspSkip = true ∨ s.gateOpen 0x2E = false ∨ s.scanned = true → Completes (.sspNibble x) s (fun t => t = s)) ∧
    (∀ x : BitVec 4, s.ld.sspSkip = false → s.gateOpen 0x2E = true → s.scanned = false → s.bootWaits 2 = false → s.ld.source = 2 → s.ld.wants = true →
      s.ld.stalled = false →
      (s.ld.sspNib = none → Completes (.sspNibble x) s (fun t => t = { s with ld := { s.ld with sspNib := some x.toNat, sspOpen := true } })) ∧
      (∀ lo, s.ld.sspNib = some lo → Completes (.sspNibble x) s (fun t => t.ld = { s.ld with
        sspNib := none, sspOpen := true, buf := s.ld.buf ++ [BitVec.ofNat 8 (lo + 16 * x.toNat)], took := s.ld.took + 1 } ∧ { t with ld := s.ld } = s))) ∧
    (s.scanned = false → (s.ld.source ≠ 2 ∨ s.ld.begun = false) → Completes .sspCsRise s (fun t =>
      t = { s with ld := { s.ld with sspSkip := false, sspNib := none, sspOpen := false } })) ∧
    (s.scanned = false → s.ld.source = 2 → s.ld.begun = true →
      (s.ld.wants = true ∨ s.ld.phase = .hold → s.ld.complete = false → s.ld.boot = false → s.bt.on = false →
        Completes .sspCsRise s (fun t => t.ld.phase = .idle ∧ t.ld.sspSkip = false ∧ t.life.otp = s.life.otp)) ∧
      ((s.ld.wants = false ∧ s.ld.phase ≠ .hold) ∨ (s.ld.phase ≠ .header ∧ 516 + s.ld.records * s.ld.recLen ≤ s.ld.took) →
        Completes .sspCsRise s (fun t => t = { s with ld := { s.ld with sspSkip := false, sspNib := none, sspOpen := false } }))) ∧
    (s.scanned = true → Completes .sspCsRise s (fun t => t = s)) ∧
    (s.ld.wants = true → s.ld.begun = true → s.waitsRails = false → Completes .loadStall s (fun t => t.life.otp = s.life.otp ∧
      (s.ld.boot = false → s.bt.on = false → t.ld.phase = .idle ∧ (s.ld.full = false → s.ld.kind ≠ 1 → t.mem = s.mem)))) ∧
    (s.ld.wants = false → Completes .loadStall s (fun t => t = s))

/-- The stages of a load (R233, R257, R260, R278 to R281, Table CFG-13): the header stage accepts a header that breaks no rule
and ends the load at one that does, or at a change that awaits its tick in a target region (R294); at the hold edge the load
goes on, a full one with the configuration cleared; a record within the rules is taken from the stream; the trailer's 260
bytes end it; each stage hands on to the next or ends the load, and the set stage commits; a full load waits for the rails at
its hold edge (R524, the model's reading, log 55) and before its commit (the model's choice, log 165); one that fails outside the boot
procedure leaves the unit unconfigured and posts BOOT_FAIL (R277; that this holds of a commanded load is the model's reading, log 179). A stage whose turn it is not does nothing. Completion: imageHeader, loadHoldEdge, frameRecord, imageTrailer, trailerStageDone, setStageDone. -/
def Obligations.LoadStages : Prop :=
  ∀ s : State,
    (s.ld.phase = .header → 256 ≤ s.ld.buf.length → ∀ l, l = { s.ld.start (s.ld.buf.take 256) with buf := (s.ld.start (s.ld.buf.take 256)).buf.drop 256 } →
      (s.headerStage l.kind l = none → l.full = true → Completes .imageHeader s (fun t => t.ld.phase = .hold ∧ t.ld.buf = l.buf ∧
        t.ld.held = List.range 96 ∧ t.ld.startPs = s.timePs ∧ { t with ld := s.ld } = s)) ∧
      (∀ f, s.headerStage l.kind l = some f → l.boot = false → s.bt.on = false → Completes .imageHeader s (fun t => t.ld.phase = .idle ∧ t.life.otp = s.life.otp ∧
        (l.kind ≠ 1 → t.mem = s.mem))) ∧
      (s.headerStage l.kind l = none → l.full = false → s.awaits l = true → l.kind ≠ 1 → l.boot = false → s.bt.on = false →
        Completes .imageHeader s (fun t => t.ld.phase = .idle ∧ t.rg = s.rg ∧ t.mem = s.mem)) ∧
      (s.headerStage l.kind l = none → l.full = false → s.awaits l = false → Completes .imageHeader s (fun t => t.ld.phase = .hold ∧
        t.ld.buf = l.buf ∧ t.mem = s.mem ∧ t.ld.held = s.heldBy l (bufferedAddrs l.recLen l.records l.buf)))) ∧
    (s.ld.phase = .hold → s.tick.count = 0 → s.ld.startCyc < s.tick.cyc → s.waitsRails = false → s.ld.full = false →
      Completes .loadHoldEdge s (fun t => (t.ld.phase = .records ∨ t.ld.phase = .trailer) ∧ t.mem = s.mem ∧ t.qs = s.qs ∧ t.glob = s.glob ∧
        (∀ r, r ∈ s.ld.held → (t.region r).held = true) ∧ (∀ r, r ∉ s.ld.held → t.region r = s.region r))) ∧
    (s.ld.phase = .hold → s.tick.count = 0 → s.ld.startCyc < s.tick.cyc → s.waitsRails = false → s.ld.full = true →
      Completes .loadHoldEdge s (fun t => (t.ld.phase = .records ∨ t.ld.phase = .trailer) ∧ t.hl.loanList = [] ∧ t.life.otp = s.life.otp ∧
        t.glob = [] ∧ t.mem = [] ∧ t.run.configured = false ∧ ∀ r, r < 96 → (t.region r).held = true)) ∧
    (s.waitsRails = true → Completes .loadHoldEdge s (fun t => t = s)) ∧
    (s.ld.phase = .records → s.ld.recLen ≤ s.ld.buf.length → ∀ t', s.recordStage s.ld (s.ld.buf.take s.ld.recLen) = .ok t' → t'.chunk = none →
      Completes .frameRecord s (fun t => t.ld.buf = s.ld.buf.drop s.ld.recLen ∧ t.ld.phase ≠ .idle ∧ { t with ld := s.ld } = s)) ∧
    (s.ld.phase = .trailer → 260 ≤ s.ld.buf.length → Completes .imageTrailer s (fun t => t.ld = { s.ld with
      phase := .trailerStage, trailer := BitVec.ofNat 2080 (natLE (s.ld.buf.take 260)), buf := [] } ∧ { t with ld := s.ld } = s)) ∧
    (s.ld.phase = .trailerStage → s.trailerStage s.ld = none → Completes .trailerStageDone s (fun t =>
      t = { s with ld := { s.ld with phase := .setStage } })) ∧
    (s.ld.phase = .trailerStage → s.trailerStage s.ld ≠ none → s.ld.boot = false → s.bt.on = false → Completes .trailerStageDone s (fun t =>
      t.ld.phase = .idle ∧ t.life.otp = s.life.otp ∧
      (s.ld.full = true → s.bt.brown = false → s.bt.told = false → t.run.configured = false ∧ t.bt.told = true ∧
        ∃ l ∈ t.hl.latches, l.code = 0x0B ∧ l.data % 2 ^ 32 = 0x0107))) ∧
    (s.ld.phase = .setStage → s.setStage s.ld ≠ none → s.ld.full = false → s.ld.boot = false → s.bt.on = false → Completes .setStageDone s (fun t =>
      t.ld.phase = .idle ∧ t.life.otp = s.life.otp)) ∧
    (s.ld.phase = .setStage → s.setStage s.ld = none → s.ld.full = false → s.bt.on = false → Completes .setStageDone s (fun t =>
      t.ld.phase = .idle ∧ t.run = s.run ∧ ∀ r ∈ s.ld.held, (t.region r).committed = true)) ∧
    (s.ld.full = true → s.rails.vcore = false ∨ s.chainRails = false → Completes .setStageDone s (fun t => t = s)) ∧
    (s.ld.phase = .setStage → s.setStage s.ld = none → s.ld.full = true → s.rails.vcore = true → s.chainRails = true → Completes .setStageDone s (fun t =>
      t.run.configured = true ∧ t.chain.unconf = false ∧ t.run.hold = false ∧ t.glob = s.ld.glob ∧ t.ld.phase = .idle ∧ t.sq.on = true ∧ t.sq.slot = 0 ∧ t.life.otp = s.life.otp)) ∧
    (s.ld.phase = .idle → ∀ c ∈ ([.imageHeader, .loadHoldEdge, .frameRecord, .imageTrailer, .trailerStageDone, .setStageDone] : List Instr),
      Completes c s (fun t => t = s))

/-- The sequencer, releases and the store's engine (R265, R266, R269, R289 to R291, R358, Table CFG-15): a slot that is due is
released, one without a condition completes at once; a waiting step completes when its condition holds; a timeout is
posted once; a region whose release is due leaves its hold, one whose target frame falls into a Headland restart waits for a
command (R356); a chunk that has been programmed joins the slot's bytes, and a
seal that ends makes its slot VALID or INVALID with one EV_LOAD_DONE. Completion: seqSlotRelease, seqStepComplete, seqTimeout,
regionReleaseEdge, chunkProgramDone, sealDone. -/
def Obligations.Sequencing : Prop :=
  ∀ s : State,
    (s.seqDue = true → stepWaits s.sq.step = true → Completes .seqSlotRelease s (fun t =>
      t = { s with sq := { s.sq with released := true, frames := 0 } })) ∧
    (s.seqDue = true → stepWaits s.sq.step = false → Completes .seqSlotRelease s (fun t => t.sq.slot = s.sq.slot + 1 ∧ t.sq.released = false ∧
      (s.sq.step = 2 → t.run.outputs = true) ∧ (s.sq.step = 3 → t.run.setReset = true ∧ ∀ r, r < 96 → (t.region r).srGate = true) ∧
      (s.sq.step = 4 → t.run.writes = true ∧ ∀ r, r < 96 → (t.region r).ceGate = true) ∧
      (s.sq.step = 5 → t.run.sched = true ∧ ∀ r, r < 96 → t.schedRun r = true ∧ t.stepNo r = 0 ∧ (t.region r).extra = 0) ∧
      t.mem = s.mem ∧ t.qs = s.qs ∧ t.hl = s.hl ∧ t.fab = s.fab)) ∧
    (s.seqDue = false → Completes .seqSlotRelease s (fun t => t = s)) ∧
    (s.sq.on = true → s.sq.released = true → s.tick.count = 0 → (s.sq.declared = true ∨ s.seqCond s.sq.step = true) → Completes .seqStepComplete s (fun t =>
      t = { s with sq := { s.sq with slot := s.sq.slot + 1, released := false, ticks := 0, timedOut := false, declared := false } })) ∧
    (s.sq.on = true → s.sq.released = true → s.sq.timedOut = false → Completes .seqTimeout s (fun t => t.sq = { s.sq with timedOut := true } ∧
      t.hl.latches.length = s.hl.latches.length + 1 ∧ { t with sq := s.sq, hl := s.hl } = s)) ∧
    (s.sq.timedOut = true → Completes .seqTimeout s (fun t => t = s)) ∧
    (∀ r, (List.range 96).filter s.releaseDue = [r] → s.hl.up = true → Completes .regionReleaseEdge s (fun t => (t.region r).held = false ∧
      (t.region r).srGate = true ∧ (t.region r).ceGate = true ∧ t.stepNo r = 0 ∧ t.swapPending r = false ∧
      (∀ k, k ≠ r → t.region k = s.region k) ∧ t.tick = s.tick ∧ t.ld = s.ld)) ∧
    (∀ r, (List.range 96).filter s.releaseDue = [r] → s.hl.up = false → (s.region r).relMode = 1 → Completes .regionReleaseEdge s (fun t =>
      (t.region r).held = true ∧ (t.region r).relMode = 2 ∧ (∀ k, k ≠ r → t.region k = s.region k) ∧ t.csr = s.csr ∧ t.ld = s.ld)) ∧
    ((List.range 96).filter s.releaseDue = [] → Completes .regionReleaseEdge s (fun t => t = s)) ∧
    (∀ k b, s.store.prog = some (k, b) → s.store.erase = [] → Completes .chunkProgramDone s (fun t =>
      t.store.prog = s.store.next ∧ t.store.next = none ∧ t.store.mv = s.store.mv ∧ (t.slot k).bytes = (s.slot k).bytes ++ b ∧ (∀ j, j ≠ k → t.slot j = s.slot j) ∧ { t with store := s.store } = s)) ∧
    (s.store.prog = none → s.store.erasing = false → Completes .chunkProgramDone s (fun t => t = s)) ∧
    (∀ j, s.store.sealing = some j → s.store.prog = none → Completes .sealDone s (fun t => t.store.sealing = none ∧
      (t.slot j.slot).st = (if (s.sealCheck j.slot).isNone then 2 else 3) ∧ (t.slot j.slot).bytes = (s.slot j.slot).bytes ∧
      (t.slot j.slot).prog = (s.slot j.slot).prog ∧ (∀ k, k ≠ j.slot → t.slot k = s.slot k) ∧
      (∃ d, t.hl = { s.hl with directed := s.hl.directed ++ [d] } ∧ d.mb = j.mb ∧ d.tag = j.tag ∧ d.code = 1) ∧
      { t with store := s.store, hl := s.hl } = s))

/-! ## Clocks, power, supplies (spec/15, spec/18, spec/19) -/

/-- Clocks (R444, R445, R447, R449, R452, R454, R455, R460, R466, R509, Table CLK-8): a PLL that may lock shows lock, and a GCK
that waits for it ramps; one that loses lock is reported; a dead source is shown DEAD and latched as EV_CLK_DEAD, and a crystal
dead off its frequency loses ALIVE when its edges stop; one that comes alive is shown ALIVE; SPLL0 moves to a crystal at
1.000 GHz (which of the divider settings is a free value, log 1); a trim window moves TRIM_CODE by at most one step once
trimmed, and with the one that makes FOSC TRIMMED SPLL0 stands at N = 50 at once (the slew of R445 is left out: the model's reading,
log 81); a ramp steps the divider by one; a gate that is not wanted closes; a temperature is shown, and every limit that it
reaches or leaves is reported (log 49). Completion: pllLock, pllUnlock, clockDead, clockAlive, spll0ReferenceMove, trimWindow, rampStep, gateClose,
tempSample. -/
def Obligations.Clocks : Prop :=
  ∀ s : State,
    let calm (t : State) : Prop := t.mem = s.mem ∧ t.qs = s.qs ∧ t.rg = s.rg ∧ t.tick = s.tick ∧ t.fab = s.fab ∧ t.mb = s.mb ∧ t.life = s.life
    let still : Prop := ∀ k, (s.gckOf k).ramp ≠ .waitSrc
    let latched (t : State) (code src : Nat) : Prop := ∃ l ∈ t.hl.latches, l.code = code ∧ l.src = src + 1
    (∀ n : Fin 6, s.mayLock (.spll n) = true → Completes (.pllLock (.spll n)) s (fun t => t.spllLock n = true ∧
      t.bit (CK (0x48 + 0x10 * n.val)) 1 = false ∧ calm t ∧ (still → t.hl = s.hl ∧ ∀ k, t.gckOf k = s.gckOf k) ∧
      (1 ≤ n.val → ∀ k, k < 16 → (s.gckOf k).ramp = .waitSrc → (s.rampTo k).1 = n.val + 8 → (t.gckOf k).ramp ≠ .waitSrc))) ∧
    (∀ q : Fin 24, s.mayLock (.quad q) = true → Completes (.pllLock (.quad q)) s (fun t => t.bit (LN (4 * q.val) 0x808) 0 = true ∧
      (∀ a, a ≠ LN (4 * q.val) 0x808 → t.reg a = s.reg a) ∧ { t with csr := s.csr } = s)) ∧
    (s.mayLock .zvl = true → Completes (.pllLock .zvl) s (fun t => t.clk.zvlLock = true ∧ t.alive 4 = true ∧ calm t ∧
      (still → t.hl = s.hl))) ∧
    (∀ p, s.mayLock p = false → Completes (.pllLock p) s (fun t => t = s)) ∧
    (∀ n : Fin 6, s.spllLock n = true → Completes (.pllUnlock (.spll n)) s (fun t => t.spllLock n = false ∧
      t.bit (CK (0x48 + 0x10 * n.val)) 8 = true ∧ t.bit (CK (0x48 + 0x10 * n.val)) 1 = s.clk.dead.contains (s.spllRef n) ∧
      latched t 5 n ∧ (∀ a, a ≠ CK (0x48 + 0x10 * n.val) → t.reg a = s.reg a) ∧ { t with csr := s.csr, hl := s.hl } = s)) ∧
    (∀ q : Fin 24, s.bit (LN (4 * q.val) 0x808) 0 = true → Completes (.pllUnlock (.quad q)) s (fun t => t.bit (LN (4 * q.val) 0x808) 0 = false ∧
      (∀ i, i < 4 → t.aligned (4 * q.val + i) = false) ∧ latched t 5 (0x10 + q.val) ∧ calm t)) ∧
    (s.clk.zvlLock = true → Completes (.pllUnlock .zvl) s (fun t => latched t 5 0x100 ∧ t.clk = { s.clk with zvlLock := false } ∧ { t with clk := s.clk, hl := s.hl } = s)) ∧
    (∀ (c : Fin 14) e, s.mayDie c e = true → c.val < 8 → Completes (.clockDead c e) s (fun t => t.bit (CK 0) (8 + c.val) = true ∧ calm t ∧
      c.val ∈ t.clk.dead ∧ t.alive c = e ∧ latched t 4 c)) ∧
    (∀ (c : Fin 14) e, s.mayDie c e = true → 8 ≤ c.val → Completes (.clockDead c e) s (fun t => t.spllLock (c.val - 8) = false ∧ calm t ∧
      t.clk = { s.clk with dead := s.clk.dead ++ [c.val] } ∧ latched t 4 c)) ∧
    (∀ (c : Fin 14) e, s.mayDie c e = false →
      (((c.val = 2 ∨ c.val = 3) ∧ c.val ∈ s.clk.dead ∧ e = false) → Completes (.clockDead c e) s (fun t => t.alive c = false ∧
        (∀ a, a ≠ CK 0 → t.reg a = s.reg a) ∧ { t with csr := s.csr } = s)) ∧
      (¬((c.val = 2 ∨ c.val = 3) ∧ c.val ∈ s.clk.dead ∧ e = false) → Completes (.clockDead c e) s (fun t => t = s))) ∧
    (∀ c : Fin 8, c.val < 4 → Completes (.clockAlive c) s (fun t => t.alive c = true ∧ c.val ∉ t.clk.dead ∧ calm t ∧
      (still → s.bit (CK 4) 0 = false → t.hl = s.hl))) ∧
    (s.clk.spll0Hold = true → s.trimPresent 1 = true → Completes .spll0ReferenceMove s (fun t => t.fld (CK 0x40) 1 2 = 1 ∧
      t.clk.spll0Hold = false ∧ t.clk.fastPs.isSome = true ∧ calm t ∧ (∀ a, a ≠ CK 0x40 → a ≠ CK 0x44 → t.reg a = s.reg a) ∧
      (∀ hz x goal, hz = s.fld (CK 8) 0 16 → 10000 ≤ hz → x = (t.fld (CK 0x40) 7 9 * 2 ^ 24 + t.reg (CK 0x44)) * hz →
        goal = 1000000 * t.fld (CK 0x40) 16 5 * (t.fld (CK 0x40) 3 4 + 1) * 2 ^ 24 → x ≤ goal + hz ∧ goal ≤ x + hz))) ∧
    (s.clk.spll0Hold = false → Completes .spll0ReferenceMove s (fun t => t = s)) ∧
    (∀ e : Int, s.bit (CK 0x10) 0 = true → s.alive 0 = true → s.trimRef ≠ 0 → s.bit (CK 0x14) 11 = true → Completes (.trimWindow e) s (fun t =>
      (signed (t.fld (CK 0x14) 0 11) 11 - signed (s.fld (CK 0x14) 0 11) 11).natAbs ≤ 1 ∧ t.fld (CK 0x14) 12 2 = s.trimRef % 4 ∧ calm t ∧
      ∀ a, a ≠ CK 0x14 → t.reg a = s.reg a)) ∧
    (∀ e : Int, s.bit (CK 0x10) 0 = true → s.alive 0 = true → s.trimRef ≠ 0 → s.bit (CK 0x14) 11 = false → 1 ≤ s.clk.good → -300 ≤ e → e ≤ 300 →
      Completes (.trimWindow e) s (fun t => t.bit (CK 0x14) 11 = true ∧ t.clk.fastPs.isSome = true ∧ (s.fld (CK 0x40) 1 2 = 0 → t.fld (CK 0x40) 7 9 = 50) ∧
        (s.fld (CK 0x40) 1 2 ≠ 0 → t.reg (CK 0x40) = s.reg (CK 0x40)) ∧ calm t)) ∧
    (∀ e : Int, s.bit (CK 0x10) 0 = false → Completes (.trimWindow e) s (fun t => t = s)) ∧
    (∀ n : Fin 16, (s.gckOf n).ramp = .down → (s.rampTo n).2 < (s.gckOf n).div → (s.gckOf n).viaBoot = false → still → Completes (.rampStep n) s (fun t =>
      (t.gckOf n).div = (s.gckOf n).div - 1 ∧ (∀ k, k ≠ n.val → t.gckOf k = s.gckOf k) ∧ calm t ∧ t.hl = s.hl)) ∧
    (∀ n : Fin 16, (s.gckOf n).ramp = .idle → still → Completes (.rampStep n) s (fun t => t = s)) ∧
    (∀ (g : Fin 47) b, s.gateWanted g = false → s.gateOpen g = true → 0x18 ≤ g.val → g.val < 0x28 → Completes (.gateClose g b) s (fun t =>
      t.gateOpen g = false ∧ (∀ a, a ≠ CK (0x400 + 4 * g.val) → t.reg a = s.reg a) ∧ { t with csr := s.csr } = s)) ∧
    (∀ (g : Fin 47) b, s.gateWanted g = true → Completes (.gateClose g b) s (fun t => t = s)) ∧
    (∀ tj : BitVec 16, Completes (.tempSample tj) s (fun t => t.fld (CK 0x208) 0 16 = tj.toNat ∧ calm t ∧
      (∀ a, a ≠ CK 0x208 → t.reg a = s.reg a) ∧
      s.tempSeen t (s.fld (CK 0x208) 0 16) tj.toNat (s.fld (CK 0x20C) 0 16 + 65536 * s.fld (CK 0x20C) 16 16)))

/-- Power modes and supplies (R336, R462 to R466, R507, R510, R524, R525, Tables CLK-5, CLK-6, ELP-4): the mode entered is shown
when its sequence is over, with 16 SLEEP sets sent and the ports at low rate; a brown-out of VCORE and a falling rail hold every
region, stop the sequencer, and take the chain's ports where the chain needs the rail; a recovered VCORE starts the boot
procedure anew; a load that a brown-out finds ends (with what status is a free value, log 59); packets in the network are lost in
DEEP_SLEEP and at a fall of VMEM (the model's reading, log 86), which also takes the operations that ports have captured; a rail that is
valid, or a bank supply that is lost, is so shown; a fall of VHOST takes the host port back to
its reset; the fall of VAUX leaves only what does not need power, and memory reads 0 after it. The lowest voltage of a
RAIL_FALL of VCORE is a free value (log 1). Completion: sleepReached, deepSleepReached, wakeComplete,
vcoreBrownout, vcoreRecovered, railFall, railValid, vioPresenceLoss, vauxFall. -/
def Obligations.PowerAndSupplies : Prop :=
  ∀ s : State,
    let held (t : State) : Prop := (∀ r, r < 96 → (t.region r).held = true) ∧ t.run.hold = true ∧ t.sq.on = false ∧ t.life = s.life ∧ t.mem = s.mem ∧
      t.tick = s.tick
    (s.clk.moving = true → s.mode = 0 → s.modeTarget ≠ 0 → Completes .sleepReached s (fun t => t.mode = 1 ∧ t.clk.moving = decide (s.modeTarget ≠ 1) ∧
      t.mem = s.mem ∧ t.qs = s.qs ∧ t.rg = s.rg ∧ t.tick = s.tick ∧ (∀ p, p < 4 → s.portOn p = true → t.low p = true) ∧
      t.chain.sent = s.chain.sent ++ List.replicate 16 (upPorts ++ downPorts, .set setSleep 0))) ∧
    (s.clk.moving = true → s.mode = 1 → s.modeTarget = 2 → Completes .deepSleepReached s (fun t => t.mode = 2 ∧ t.clk.moving = false ∧ t.net = [] ∧
      t.mem = s.mem ∧ t.qs = s.qs ∧ t.rg = s.rg ∧ t.tick = s.tick)) ∧
    (s.clk.moving = true → s.modeTarget = 0 → s.mode = 1 → Completes .wakeComplete s (fun t => t.mode = 0 ∧ t.clk.moving = false ∧
      t.mem = s.mem ∧ t.qs = s.qs ∧ t.rg = s.rg ∧ t.tick.frame = s.tick.frame ∧ t.tick.count = s.tick.count ∧
      ∀ p, p < 4 → t.low p = false)) ∧
    (s.clk.moving = true → s.modeTarget = 0 → s.mode = 2 → s.tick.count = 0 → Completes .wakeComplete s (fun t => t.mode = 0 ∧ t.mem = [] ∧
      t.clk.stopped = false ∧ (∀ q, q < 384 → (t.queue q).occ = 0 ∧ t.desc q = s.desc q) ∧ t.sq.on = s.run.configured ∧ t.sq.slot = 0)) ∧
    (s.clk.moving = false → ∀ c ∈ ([.sleepReached, .deepSleepReached, .wakeComplete] : List Instr), Completes c s (fun t => t = s)) ∧
    (∀ mv, s.on = true → s.bt.brown = false → s.ld.phase = .idle → Completes (.vcoreBrownout mv) s (fun t => held t ∧ t.rails.vcore = false ∧ t.bt.brown = true ∧
      t.store = s.store ∧ ((s.isHead = false ∧ s.beached = false) → t.beached = true))) ∧
    (∀ mv, s.on = true → s.bt.brown = false → s.ld.phase ≠ .idle → Completes (.vcoreBrownout mv) s (fun t => t.ld.phase = .idle ∧
      (∀ r, r < 96 → (t.region r).held = true) ∧ t.run.hold = true ∧ t.sq.on = false ∧ t.rails.vcore = false ∧ t.bt.brown = true ∧
      t.life = s.life ∧ t.store.slots = s.store.slots)) ∧
    (∀ mv, s.on = false ∨ s.bt.brown = true → Completes (.vcoreBrownout mv) s (fun t => t = s)) ∧
    (s.bt.brown = true → s.hl.up = true → s.lc ≠ 7 → s.ld.phase = .idle → s.boot = 0 → (s.slot s.bootSlot).st = 2 →
      Completes .vcoreRecovered s (fun t => t.rails.vcore = true ∧ t.bt.brown = false ∧ t.bt.reload = true ∧ t.ld.phase = .header ∧ t.ld.boot = true ∧
        { t with rails := s.rails, bt := s.bt, ld := s.ld, sq := s.sq } = s)) ∧
    (s.bt.brown = false → Completes .vcoreRecovered s (fun t => t = s)) ∧
    (s.on = true → s.bt.brown = false → s.ld.phase = .idle → Completes (.railFall .vcore) s (fun t => held t ∧ t.rails.vcore = false ∧
      t.bt.brown = true ∧ t.store = s.store)) ∧
    (s.on = false ∨ s.bt.brown = true → Completes (.railFall .vcore) s (fun t => t.rails = { s.rails with vcore := false } ∧
      { t with rails := s.rails, free := s.free } = s)) ∧
    Completes (.railFall .vhost) s (fun t => t.isl = {} ∧ t.rails = { s.rails with vhost := false } ∧ { t with isl := s.isl, rails := s.rails } = s) ∧
    (∀ rail, (rail = .vmem ∨ rail = .vtx ∨ rail = .vtt) → Completes (.railFall rail) s (fun t => held t ∧ t.bt = s.bt ∧ (∀ p, t.portOn p = false) ∧
      (rail = .vmem → t.rails.vmem = false ∧ t.net = [] ∧ ∀ k, k < 384 → (t.port k).fresh = false) ∧ (rail = .vtx → t.rails.vtx = false) ∧ (rail = .vtt → t.rails.vtt = false))) ∧
    (∀ b : Fin 16, ∀ c ∈ ([.railFall (.vio b), .vioPresenceLoss b] : List Instr), Completes c s (fun t => b.val ∉ t.rails.vio ∧ { t with rails := s.rails } = s)) ∧
    Completes (.railValid .vcore) s (fun t => t = { s with rails := { s.rails with vcore := true } }) ∧
    Completes (.railValid .vmem) s (fun t => t = { s with rails := { s.rails with vmem := true }, mem := [], flips := [], ueSeen := [] }) ∧
    Completes (.railValid .vtx) s (fun t => t = { s with rails := { s.rails with vtx := true } }) ∧
    Completes (.railValid .vtt) s (fun t => t = { s with rails := { s.rails with vtt := true } }) ∧
    Completes (.railValid .vhost) s (fun t => t = { s with rails := { s.rails with vhost := true } }) ∧
    (∀ b : Fin 16, Completes (.railValid (.vio b)) s (fun t => b.val ∈ t.rails.vio ∧ { t with rails := s.rails } = s)) ∧
    (s.on = true → s.store.prog = none → Completes .vauxFall s (fun t => t.on = false ∧ t.csr = [] ∧ t.mem = [] ∧ t.qs = [] ∧ t.rg = [] ∧ t.rails = s.rails ∧
      t.hl = { sel := s.hl.sel } ∧ t.store.slots = s.store.slots ∧ t.store.rec0 = s.store.rec0 ∧ t.store.rec1 = s.store.rec1 ∧
      (s.life.burning = false → t.life.otp = s.life.otp ∧ t.isl = s.island))) ∧
    (s.on = false → Completes .vauxFall s (fun t => t = s))

/-- VAUX_POR_RELEASE, BURN_RETRY and FW_ROLLBACK_RAISE (R249, R417, R428, R436): the power-on reset samples the straps and
starts Headland from the selected firmware slot, or from the other one where only that starts, or not at all (the model's
reading, log 142); in SCRAPPED the boot ROM serves alone (R433); a burn that waits starts where the hold-up check allows it;
firmware of the selected slot that has run raises its counter by one burn, which waits for the engine and for the hold-up check,
and is done with once the counter stands there (the model's reading, log 170). None of them sets an OTP bit yet. Completion: vauxPorRelease, burnRetry,
fwRollbackRaise. -/
def Obligations.PowerOn : Prop :=
  ∀ (s : State) (mv : Nat),
    (s.on = false → ∀ boot park, Completes (.vauxPorRelease boot park mv) s (fun t => t.on = true ∧ t.boot = boot.toNat ∧ t.park = park.toNat ∧
      t.hl = (if s.lc = 7 ∨ s.fwStarts s.hl.sel = true then { s.hl with up := true, run := s.hl.sel, newFw := true }
        else if s.fwStarts (1 - s.hl.sel) = true then { s.hl with up := true, run := 1 - s.hl.sel, newFw := false } else s.hl) ∧
      t.life.otp = s.life.otp ∧ t.csr = s.csr ∧ t.mem = s.mem ∧ t.store.mv = min mv 2000)) ∧
    (s.on = true → ∀ boot park, Completes (.vauxPorRelease boot park mv) s (fun t => t = s)) ∧
    (s.on = true → s.life.burns ≠ [] → s.life.burning = false → s.life.recDue = false → Completes (.burnRetry mv) s (fun t =>
      t.life = { s.life with burning := holdsUp s.holdupC mv burnNeed } ∧ { t with life := s.life, store := s.store } = s)) ∧
    (s.on = false → Completes (.burnRetry mv) s (fun t => t = s)) ∧
    (s.hl.newFw = true → s.hl.up = true → ∀ v, v = min 32 (Config.firmwareRollback (s.slot (0x10 + s.hl.run)).bytes) →
      (s.fwRollback < v → s.life.burning = false → holdsUp s.holdupC mv burnNeed = true → Completes (.fwRollbackRaise mv) s (fun t =>
        t.life = { s.life with burns := (gFwRb, BitVec.ofNat 512 (2 ^ v - 1)) :: s.life.burns, burning := true } ∧
        { t with life := s.life, store := s.store } = s)) ∧
      (s.fwRollback < v → s.life.burning = true ∨ holdsUp s.holdupC mv burnNeed = false → Completes (.fwRollbackRaise mv) s (fun t =>
        { t with store := s.store } = s)) ∧
      (v ≤ s.fwRollback → Completes (.fwRollbackRaise mv) s (fun t => t.hl = { s.hl with newFw := false } ∧ t.life = s.life))) ∧
    (s.hl.newFw = false → Completes (.fwRollbackRaise mv) s (fun t => t = s))

/-! ## Probes, registers, upsets (spec/17, spec/01, spec/18) -/

/-- Soundings and trace drops (R494, R496 to R498, Table PRB-2): a sounding that has run its frames, or filled its buffer,
ends with END 1 or 2; STOP ends it with END 5; FREE ends it and frees the block; with a sounding goes an arming that still
awaits its tick; a pattern that matches starts the count; CLR_DROP clears PB_DROP. No other register and nothing outside the
probe block changes. Completion: soundingEnd, pbStop, pbFree, pbClrDrop, probeTrigger. -/
def Obligations.Soundings : Prop :=
  ∀ s : State,
    let only (t : State) (l : List Nat) : Prop := (∀ a, a ∉ l → t.reg a = s.reg a) ∧ { t with csr := s.csr } = s
    let ends (t : State) : Prop := (∀ a, a ≠ PB 4 → t.reg a = s.reg a) ∧ t.hl.changes = s.hl.changes.filter (fun a => !a.arms) ∧
      { t with csr := s.csr, hl := { t.hl with changes := s.hl.changes } } = s
    (s.sounding = true → s.probe.storing = true → s.framesDone = true → Completes .soundingEnd s (fun t => t.pbState = 3 ∧ t.fld (PB 4) 4 3 = 1 ∧ ends t)) ∧
    (s.sounding = true → s.probe.storing = true → s.framesDone = false → s.bufFull = true → Completes .soundingEnd s (fun t => t.pbState = 3 ∧
      t.fld (PB 4) 4 3 = 2 ∧ ends t)) ∧
    (s.sounding = true → Completes .pbStop s (fun t => t.pbState = 3 ∧ t.fld (PB 4) 4 3 = 5 ∧ t.holder = s.holder ∧ ends t)) ∧
    (s.sounding = false → ∀ c ∈ ([.pbStop, .soundingEnd] : List Instr), Completes c s (fun t => t = s)) ∧
    Completes .pbFree s (fun t => t.holder = 0xF ∧ t.sounding = false ∧ (s.sounding = true → ends t) ∧ (s.sounding = false → only t [PB 4])) ∧
    Completes .pbClrDrop s (fun t => t.reg (PB 0x1C) = 0 ∧ only t [PB 0x1C]) ∧
    (s.pbState = 1 → s.probe.storing = true → s.bit (PB 0) 3 = true → ∀ w rest, s.probe.words = w :: rest →
      ((w.toNat ^^^ (s.reg (PB 0x20) + s.reg (PB 0x24) * 2 ^ 32)) &&& (s.reg (PB 0x28) + s.reg (PB 0x2C) * 2 ^ 32)) = 0 →
      Completes .probeTrigger s (fun t => t.pbState = 2 ∧ t.bit (PB 4) 2 = true ∧ t.reg (PB 0x14) = s.frameNo % 2 ^ 32 ∧
        t.reg (PB 0x18) = s.frameNo / 2 ^ 32 ∧ only t [PB 4, PB 0x14, PB 0x18])) ∧
    (s.bit (PB 0) 3 = false → Completes .probeTrigger s (fun t => t = s))

/-- REGISTER_WRITE and UPSET (R7 to R9, R36, R61, R158, R162, R310, R498, R511, Tables FLT-3, PRB-5): a write to a router, queue
controller, lane, Zhevley or probe register without an effect of its own changes that register by its access codes and no
other; what a running sounding locks stays (Table PRB-5); a status bit of code W1C goes with a 1 and stays with a 0; SRC, P and W
are held until the tick, NR_CFG and NR_PORT_EN until the slack water; a write to an address without a register changes nothing, nor
does one to a router or a queue controller without power (R12), where upsets of memory, index, scrub and flits change nothing either;
a flipped memory bit leaves the bytes and shows in the word's check; hardened storage is left as it was; a flipped OTP bit
changes one copy; each bit of a fabric port's registers flips alone; a vote of a scrub engine is counted in any cycle (R198); a
packet with an uncorrectable header is discarded where it stands, the whole of it (the model's choice, log 125), after the
network cycles that bring it there (log 137), one with an uncorrectable data flit goes on poisoned (R207). Completion:
registerWrite, upset. -/
def Obligations.RegistersAndUpsets : Prop :=
  ∀ s : State,
    let plain (x : Block) : Prop := match x with
      | .router _ off => s.routersOn = true ∧ off ≠ 0x10 ∧ off ≠ 0x80
      | .qc _ off => s.routersOn = true ∧ off ≠ 0x80 ∧ off ≠ 0x90
      | .ln _ off => off ≠ 0x40
      | .zv _ off => off ≠ 0x30 ∧ off ≠ 0x40 ∧ off ≠ 0x81C
      | .pb off => off ≠ 0x300 ∧ (s.sounding = true → pbLocked off = false)
      | _ => False
    (∀ (a v : Word) fs, plain (blockOf a.toNat) → a.toNat % 4 = 0 → regFields a.toNat = some fs →
      Completes (.registerWrite a v) s (fun t => t.reg a.toNat = applyWrite fs (s.reg a.toNat) v.toNat % 2 ^ 32 ∧
        (∀ b, b ≠ a.toNat → t.reg b = s.reg b) ∧ { t with csr := s.csr, probe := s.probe } = s)) ∧
    (∀ (a v : Word) off, blockOf a.toNat = .pb off → off ≠ 0x300 → s.sounding = true → pbLocked off = true →
      Completes (.registerWrite a v) s (fun t => t = s)) ∧
    (∀ (a v : Word) (n : Nat), n < 96 → a.toNat = LN n 0x10 → Completes (.registerWrite a v) s (fun t =>
      t.bit a.toNat 8 = (s.bit a.toNat 8 && !v.getLsbD 8) ∧ t.fld a.toNat 0 8 = s.fld a.toNat 0 8)) ∧
    (s.routersOn = false → (∀ (a v : Word), (∃ n off, blockOf a.toNat = .router n off ∨ blockOf a.toNat = .qc n off) →
        Completes (.registerWrite a v) s (fun t => t = s)) ∧
      ∀ u, ((∃ k w i, u = .memory k w i) ∨ (∃ q i, u = .index q i) ∨ (∃ b, u = .scrub b) ∨ ∃ n, u = .flitOne n) →
        Completes (.upset u) s (fun t => t = s)) ∧
    (∀ (a v : Word) (q i : Nat), s.routersOn = true → q < 384 → a.toNat = QC q 0x20 → 16 ≤ i → i < 20 → Completes (.registerWrite a v) s (fun t =>
      t.bit a.toNat i = (s.bit a.toNat i && !v.getLsbD i) ∧ t.fld a.toNat 0 16 = s.fld a.toNat 0 16)) ∧
    (∀ (a v : Word) (n : Nat), s.routersOn = true → n < 48 → a.toNat = NR n 4 → Completes (.registerWrite a v) s (fun t =>
      t.fld a.toNat 0 4 = (if bits v.toNat 0 4 = 0 then s.fld a.toNat 0 4 else bits v.toNat 0 4) ∧
      t.fld a.toNat 4 8 = (if bits v.toNat 4 8 ≤ 7 then s.fld a.toNat 4 8 else bits v.toNat 4 8) ∧ t.reg (NR n 8) = s.reg (NR n 8))) ∧
    (∀ (a v : Word) (n : Nat), s.routersOn = true → n < 48 → a.toNat = NR n 0xC → Completes (.registerWrite a v) s (fun t =>
      t.fld a.toNat 0 8 = bits v.toNat 0 8 ∧ t.fld a.toNat 8 8 = s.fld a.toNat 8 8)) ∧
    (∀ a v : Word, a.toNat = CK 0x800 → Completes (.registerWrite a v) s (fun t => t.src = s.src ∧
      t.tick = { s.tick with pendSrc := if bits v.toNat 0 2 = 3 then s.tick.pendSrc else some (bits v.toNat 0 2) } ∧
      t.slipLimit = (if bits v.toNat 4 4 = 0 then s.slipLimit else bits v.toNat 4 4) ∧
      t.lossFrames = (if bits v.toNat 16 16 = 0 then s.lossFrames else bits v.toNat 16 16) ∧
      (∀ b, b ≠ CK 0x800 → t.reg b = s.reg b) ∧ { t with csr := s.csr, tick := s.tick } = s)) ∧
    (∀ a v : Word, a.toNat = CK 0x804 → Completes (.registerWrite a v) s (fun t =>
      t = (if 8 ≤ bits v.toNat 0 13 ∧ bits v.toNat 0 13 ≤ 4096 then { s with tick := { s.tick with pendP := some (bits v.toNat 0 13) } } else s))) ∧
    (∀ a v : Word, a.toNat = CK 0x830 → Completes (.registerWrite a v) s (fun t =>
      t = (if 1 ≤ bits v.toNat 0 7 ∧ bits v.toNat 0 7 ≤ 96 then { s with tick := { s.tick with pendW := some (bits v.toNat 0 7) } } else s))) ∧
    (∀ a v : Word, a.toNat = ZV 0 0x81C → Completes (.registerWrite a v) s (fun t => t.pad = bits v.toNat 0 12 ∧
      (s.pad = bits v.toNat 0 12 → t.chain = s.chain) ∧ (s.pad ≠ bits v.toNat 0 12 → ∃ m, t.chain.sent = s.chain.sent ++ [(downPorts, .msg tCald m)] ∧
        m.payload = bytesLE t.dOut 4 ++ bytesLE t.eOut 4) ∧ { t with csr := s.csr, chain := s.chain } = s)) ∧
    (∀ a v : Word, (a.toNat % 4 ≠ 0 ∨ regFields a.toNat = none) → Completes (.registerWrite a v) s (fun t => t = s)) ∧
    (s.routersOn = true → ∀ k w i, Completes (.upset (.memory k w i)) s (fun t => t.flipMask k w = s.flipMask k w ^^^ 2 ^ i.val ∧ t.rawWord k w = s.rawWord k w ∧
      { t with flips := s.flips } = s)) ∧
    (∀ u, (u = .config ∨ u = .control ∨ u = .sramOne ∨ ∃ r c e, u = .bank r c e) → Completes (.upset u) s (fun t => t = s)) ∧
    (∀ (g : Fin 12) (c : Fin 3) (i : Fin 512), i.val < otpBits g.val → Completes (.upset (.otp g c i)) s (fun t =>
      t.otpCopy g.val c.val = s.otpCopy g.val c.val ^^^ 2 ^ i.val ∧
      (∀ k d, (k ≠ g.val ∨ d ≠ c.val) → d < 3 → t.otpCopy k d = s.otpCopy k d) ∧ { t with life := s.life } = s)) ∧
    (∀ r e, Completes (.upset (.shared r e)) s (fun t => t.sharedBits r = s.sharedBits r ^^^ 2 ^ e.val ∧ { t with fab := s.fab } = s)) ∧
    (s.routersOn = true → ∀ n, Completes (.upset (.flitOne n)) s (fun t => t.reg (NR n 0x48) = min (s.reg (NR n 0x48) + 1) (2 ^ 32 - 1) ∧
      (∀ a, a ≠ NR n 0x48 → t.reg a = s.reg a) ∧ { t with csr := s.csr } = s)) ∧
    (∀ r j, Completes (.upset (.crossing r j)) s (fun t => t.crossReg r = s.crossReg r ^^^ 2 ^ j.val ∧
      (∀ k, k ≠ r.val → t.crossReg k = s.crossReg k) ∧ { t with fab := s.fab } = s)) ∧
    (∀ (r : Fin 96) (p : Fin 4) i, Completes (.upset (.port r p i)) s (fun t =>
      (∀ k x y, k = 4 * r.val + p.val → x = s.port k → y = t.port k →
        (i.val < 96 → y.inp = BitVec.ofNat 96 (x.inp.toNat ^^^ 2 ^ i.val) ∧ y.out = x.out ∧ y.lines = x.lines ∧
          (x.fresh = false → y = { x with inp := y.inp })) ∧
        (96 ≤ i.val → i.val < 160 → y = { x with out := { x.out with data := BitVec.ofNat 64 (x.out.data.toNat ^^^ 2 ^ (i.val - 96)) } }) ∧
        (160 ≤ i.val → y = { x with lines := BitVec.ofNat 16 (x.lines.toNat ^^^ 2 ^ (i.val - 160)) })) ∧
      (∀ k, k ≠ 4 * r.val + p.val → t.port k = s.port k) ∧ { t with fab := s.fab } = s)) ∧
    (s.routersOn = true → ∀ q i, Completes (.upset (.index q i)) s (fun t =>
      mget (fun _ => 0) (t.queue q).idxErr i = mget (fun _ => 0) (s.queue q).idxErr i + 1 ∧ (t.queue q).idx = (s.queue q).idx ∧
      (∀ k, k ≠ q.val → t.queue k = s.queue k) ∧ { t with qs := s.qs } = s)) ∧
    (s.routersOn = true → ∀ b : Fin 24, Completes (.upset (.scrub b)) s (fun t =>
      t.reg (scrubReg b 0x814) = min (s.reg (scrubReg b 0x814) + 1) (2 ^ 32 - 1) ∧ t.fld (scrubReg b 0x804) 0 12 = 0 ∧
      t.fld (scrubReg b 0x804) 16 7 = s.fld (scrubReg b 0x804) 16 7 ∧ { t with csr := s.csr } = s)) ∧
    (∀ n src dst v, s.struck n.val src.toNat dst.toNat v.val (fun _ h => h.sent = 0) = none →
      Completes (.upset (.flitHeader n src dst v)) s (fun t => t = s)) ∧
    (∀ n src dst v, (s.struck n.val src.toNat dst.toNat v.val (fun _ h => h.sent = 0)).isSome = true →
      ∀ u, u = s.bringHead n.val src.toNat dst.toNat v.val →
      (u.struck n.val src.toNat dst.toNat v.val headThere = none → Completes (.upset (.flitHeader n src dst v)) s (fun t => t = u)) ∧
      (∀ k p h, u.struck n.val src.toNat dst.toNat v.val headThere = some (k, p, h) → Completes (.upset (.flitHeader n src dst v)) s (fun t =>
        t.net = u.net.eraseIdx k ∧ t.reg (NR n 0x4C) = min (u.reg (NR n 0x4C) + 1) (2 ^ 32 - 1) ∧
        (∀ a, a ≠ NR n 0x4C → t.reg a = u.reg a) ∧ t.hl.latches.any (fun l => l.code = 0x0B) = true ∧
        { t with net := u.net, csr := u.csr, hl := u.hl } = u))) ∧
    (∀ n src dst v f, f = (fun (p : Packet) (h : Hop) => decide (h.sent + h.buf.length < p.flits) && !p.data.isEmpty) →
      (s.struck n.val src.toNat dst.toNat v.val f = none → Completes (.upset (.flitData n src dst v)) s (fun t => t = s)) ∧
      (∀ k p h, s.struck n.val src.toNat dst.toNat v.val f = some (k, p, h) → Completes (.upset (.flitData n src dst v)) s (fun t =>
        (t.net[k]?).map Packet.poison = some true ∧ (t.net[k]?).map Packet.data = some p.data ∧
        (∀ j, j ≠ k → t.net[j]? = s.net[j]?) ∧ { t with net := s.net } = s))) ∧
    (s.hl.up = true → Completes (.upset .sramTwo) s (fun t => t = { s with hl := { s.hl with halted := true } })) ∧
    Completes (.upset .core) s (fun t => exec .lockstepMismatch s = .next t)

end
end

