-- ==== Sys2Proof/Laws/Map.lean ====
section
/-! SUPPORT. Sparse storage: reading back what was stored, and the canonical form. -/

namespace Sys2Proof.Machine

variable {α : Type}

theorem mget_filter_ne (d : Nat → α) (m : List (Nat × α)) (k a : Nat) (h : a ≠ k) :
    mget d (m.filter (fun e => e.1 ≠ k)) a = mget d m a := by
  induction m with
  | nil => rfl
  | cons e m ih =>
    obtain ⟨j, w⟩ := e
    by_cases hk : j = k
    · subst hk
      simpa [mget, Ne.symm h] using ih
    · simp only [ne_eq, hk, not_false_eq_true, decide_true, List.filter_cons_of_pos, mget]
      rw [← ih]

theorem mget_of_all_ne (d : Nat → α) (m : List (Nat × α)) (k : Nat) (h : ∀ e ∈ m, e.1 ≠ k) : mget d m k = d k := by
  induction m with
  | nil => rfl
  | cons e m ih =>
    have he := h e (by simp)
    simp [mget, he, ih (fun x hx => h x (by simp [hx]))]

/-- Reading the key just stored. -/
@[simp] theorem mget_mput_same [DecidableEq α] (d : Nat → α) (m : List (Nat × α)) (k : Nat) (v : α) :
    mget d (mput d m k v) k = v := by
  have gone (l : List (Nat × α)) : mget d (l.filter (fun e => e.1 ≠ k)) k = d k :=
    mget_of_all_ne d _ k (by simp)
  induction m with
  | nil => by_cases h : v = d k <;> simp [mput, mget, h]
  | cons e m ih =>
    obtain ⟨j, w⟩ := e
    simp only [mput]
    split
    · split
      · next h1 h2 => simp only [mget]; rw [if_neg (by omega), gone, h2]
      · simp [mget]
    · split
      · split
        · next h => rw [gone, h]
        · simp [mget]
      · next h1 h2 => simp only [mget]; rw [if_neg (fun x => h2 x.symm), ih]

/-- Storing at one key leaves every other key alone. -/
@[simp] theorem mget_mput_ne [DecidableEq α] (d : Nat → α) (m : List (Nat × α)) (k a : Nat) (v : α) (h : a ≠ k) :
    mget d (mput d m k v) a = mget d m a := by
  induction m with
  | nil => by_cases hv : v = d k <;> simp [mput, mget, hv, h.symm]
  | cons e m ih =>
    obtain ⟨j, w⟩ := e
    simp only [mput]
    split
    · split
      · simp only [mget]; rw [mget_filter_ne d m k a h]
      · simp [mget, h.symm]
    · split
      · next hk =>
        subst hk
        split
        · rw [mget_filter_ne d m k a h]; simp [mget, h.symm]
        · simp [mget, h.symm]
      · simp only [mget]; rw [ih]

theorem mget_mput [DecidableEq α] (d : Nat → α) (m : List (Nat × α)) (k a : Nat) (v : α) :
    mget d (mput d m k v) a = if a = k then v else mget d m a := by
  split
  · next h => subst h; simp
  · next h => exact mget_mput_ne d m k a v h

theorem mem_mput_key [DecidableEq α] (d : Nat → α) (m : List (Nat × α)) (k : Nat) (v : α) (e : Nat × α)
    (h : e ∈ mput d m k v) : e.1 = k ∨ e ∈ m := by
  induction m with
  | nil =>
    simp only [mput] at h
    split at h
    · simp at h
    · simp at h; exact .inl (by rw [h])
  | cons x m ih =>
    obtain ⟨j, w⟩ := x
    simp only [mput] at h
    split at h
    · split at h
      · rcases List.mem_cons.1 h with rfl | h
        · exact .inr (by simp)
        · exact .inr (by simp [(List.mem_filter.1 h).1])
      · rcases List.mem_cons.1 h with rfl | h
        · exact .inl rfl
        · exact .inr h
    · split at h
      · split at h
        · exact .inr (by simp [(List.mem_filter.1 h).1])
        · rcases List.mem_cons.1 h with rfl | h
          · exact .inl rfl
          · exact .inr (by simp [h])
      · rcases List.mem_cons.1 h with rfl | h
        · exact .inr (by simp)
        · rcases ih h with h | h
          · exact .inl h
          · exact .inr (by simp [h])

theorem mwf_iff [DecidableEq α] (d : Nat → α) (m : List (Nat × α)) :
    mwf d m = true ↔ m.Pairwise (fun a b => a.1 < b.1) ∧ ∀ e ∈ m, e.2 ≠ d e.1 := by
  simp [mwf]

theorem mwf_filter [DecidableEq α] (d : Nat → α) (m : List (Nat × α)) (p : Nat × α → Bool) (h : mwf d m = true) :
    mwf d (m.filter p) = true := by
  rw [mwf_iff] at h ⊢
  exact ⟨h.1.sublist List.filter_sublist, fun e he => h.2 e (List.mem_filter.1 he).1⟩

/-- Storing keeps the canonical form. -/
@[simp] theorem mwf_mput [DecidableEq α] (d : Nat → α) (m : List (Nat × α)) (k : Nat) (v : α) (h : mwf d m = true) :
    mwf d (mput d m k v) = true := by
  induction m with
  | nil => by_cases hv : v = d k <;> simp [mput, mwf, hv]
  | cons e m ih =>
    obtain ⟨j, w⟩ := e
    have hm : mwf d m = true := by
      rw [mwf_iff] at h ⊢
      exact ⟨(List.pairwise_cons.1 h.1).2, fun e he => h.2 e (by simp [he])⟩
    have hf := mwf_filter d m (fun e => e.1 ≠ k) hm
    have ih := ih hm
    rw [mwf_iff] at h hf ih hm ⊢
    have hj := (List.pairwise_cons.1 h.1).1
    have hw := h.2 (j, w) (by simp)
    simp only [mput]
    split
    · next hkj =>
      split
      · refine ⟨List.pairwise_cons.2 ⟨fun e he => hj e (List.mem_filter.1 he).1, hf.1⟩, ?_⟩
        intro e he
        rcases List.mem_cons.1 he with rfl | he
        · exact hw
        · exact hf.2 e he
      · next hv =>
        refine ⟨List.pairwise_cons.2 ⟨?_, h.1⟩, ?_⟩
        · intro e he
          rcases List.mem_cons.1 he with rfl | he
          · exact hkj
          · exact Nat.lt_trans hkj (hj e he)
        · intro e he
          rcases List.mem_cons.1 he with rfl | he
          · exact hv
          · exact h.2 e he
    · next hkj =>
      split
      · next hk =>
        subst hk
        split
        · exact hf
        · next hv =>
          refine ⟨List.pairwise_cons.2 ⟨hj, hm.1⟩, ?_⟩
          intro e he
          rcases List.mem_cons.1 he with rfl | he
          · exact hv
          · exact hm.2 e he
      · next hk =>
        refine ⟨List.pairwise_cons.2 ⟨?_, ih.1⟩, ?_⟩
        · intro e he
          rcases mem_mput_key d m k v e he with he | he
          · simp only; omega
          · exact hj e he
        · intro e he
          rcases List.mem_cons.1 he with rfl | he
          · exact hw
          · exact ih.2 e he

@[simp] theorem mwf_nil [DecidableEq α] (d : Nat → α) : mwf d ([] : List (Nat × α)) = true := rfl

@[simp] theorem mget_nil (d : Nat → α) (k : Nat) : mget d [] k = d k := rfl

/-- Replacing an element keeps the length. -/
theorem modifyAt_length (f : α → α) (l : List α) (i : Nat) : (modifyAt f l i).length = l.length := by
  induction l generalizing i with
  | nil => rfl
  | cons x l ih => cases i <;> simp [modifyAt, ih]

end Sys2Proof.Machine
end

