-- ==== Sys2Proof/Laws/Kept.lean ====
section
/-! SUPPORT. What the operations keep: the queue of commands (`pending`), the memory (`mem`) and the OTP cells (`life.otp`),
one lemma per operation. `_kept` says that all three stay, `_potp` that queue and OTP stay and `_pmem` that queue and
memory stay; where the memory changes, `_wf` says that its canonical form stays. A lemma about an operation that takes a
function asks the same of the function. -/

namespace Sys2Proof.Machine

@[simp] theorem pend_ite (c : Prop) [Decidable c] (a b : State) :
    (if c then a else b).pending = if c then a.pending else b.pending := apply_ite _ _ _ _
@[simp] theorem mem_ite (c : Prop) [Decidable c] (a b : State) :
    (if c then a else b).mem = if c then a.mem else b.mem := apply_ite _ _ _ _
@[simp] theorem otp_ite (c : Prop) [Decidable c] (a b : State) :
    (if c then a else b).life.otp = if c then a.life.otp else b.life.otp := by
  split <;> rfl
@[simp] theorem foldl_kept {α : Type} (f : State → α → State) (h : ∀ t x, (f t x).pending = t.pending ∧ (f t x).mem = t.mem ∧ (f t x).life.otp = t.life.otp) (l : List α) (s : State) :
  (l.foldl f s).pending = s.pending ∧ (l.foldl f s).mem = s.mem ∧ (l.foldl f s).life.otp = s.life.otp := by
  induction l generalizing s with
  | nil => simp
  | cons a l ih => simp [ih, h]
@[simp] theorem forAll_kept (n : Nat) (f : Nat → State → State) (h : ∀ k t, (f k t).pending = t.pending ∧ (f k t).mem = t.mem ∧ (f k t).life.otp = t.life.otp) (s : State) :
  (forAll n f s).pending = s.pending ∧ (forAll n f s).mem = s.mem ∧ (forAll n f s).life.otp = s.life.otp := by
  unfold forAll; exact foldl_kept _ (fun t x => h x t) _ _

@[simp] theorem foldl_pmem {α : Type} (f : State → α → State) (h : ∀ t x, (f t x).pending = t.pending ∧ (f t x).mem = t.mem) (l : List α) (s : State) :
  (l.foldl f s).pending = s.pending ∧ (l.foldl f s).mem = s.mem := by
  induction l generalizing s with
  | nil => simp
  | cons a l ih => simp [ih, h]
@[simp] theorem forAll_pmem (n : Nat) (f : Nat → State → State) (h : ∀ k t, (f k t).pending = t.pending ∧ (f k t).mem = t.mem) (s : State) :
  (forAll n f s).pending = s.pending ∧ (forAll n f s).mem = s.mem := by
  unfold forAll; exact foldl_pmem _ (fun t x => h x t) _ _
@[simp] theorem foldl_potp {α : Type} (f : State → α → State) (h : ∀ t x, (f t x).pending = t.pending ∧ (f t x).life.otp = t.life.otp) (l : List α) (s : State) :
  (l.foldl f s).pending = s.pending ∧ (l.foldl f s).life.otp = s.life.otp := by
  induction l generalizing s with
  | nil => simp
  | cons a l ih => simp [ih, h]
@[simp] theorem forAll_potp (n : Nat) (f : Nat → State → State) (h : ∀ k t, (f k t).pending = t.pending ∧ (f k t).life.otp = t.life.otp) (s : State) :
  (forAll n f s).pending = s.pending ∧ (forAll n f s).life.otp = s.life.otp := by
  unfold forAll; exact foldl_potp _ (fun t x => h x t) _ _
@[simp] theorem foldl_pend {α : Type} (f : State → α → State) (h : ∀ t x, (f t x).pending = t.pending) (l : List α) (s : State) :
  (l.foldl f s).pending = s.pending := by
  induction l generalizing s with
  | nil => simp
  | cons a l ih => simp [ih, h]
@[simp] theorem forAll_pend (n : Nat) (f : Nat → State → State) (h : ∀ k t, (f k t).pending = t.pending) (s : State) :
  (forAll n f s).pending = s.pending := by
  unfold forAll; exact foldl_pend _ (fun t x => h x t) _ _
@[simp] theorem wf_ite (c : Prop) [Decidable c] (a b : List Host.Cell) :
    Memory.wf (if c then a else b) = if c then Memory.wf a else Memory.wf b := apply_ite _ _ _ _
theorem foldl_wf {α : Type} (f : State → α → State) (h : ∀ t x, Memory.wf t.mem = true → Memory.wf (f t x).mem = true) (l : List α) (s : State) (hs : Memory.wf s.mem = true) :
  Memory.wf (l.foldl f s).mem = true := by
  induction l generalizing s with
  | nil => simpa
  | cons a l ih => simpa using ih _ (h _ _ hs)
theorem forAll_wf (n : Nat) (f : Nat → State → State) (h : ∀ k t, Memory.wf t.mem = true → Memory.wf (f k t).mem = true) (s : State) (hs : Memory.wf s.mem = true) :
  Memory.wf (forAll n f s).mem = true := foldl_wf _ (fun t x => h x t) _ _ hs
theorem putBytes_wf (m : List Host.Cell) (a : Nat) (l : List Byte) (h : Memory.wf m = true) :
    Memory.wf (putBytes m a l) = true := by
  induction l generalizing m a with
  | nil => simpa [putBytes]
  | cons b l ih => exact ih _ _ (mwf_mput _ _ _ _ h)
@[simp] theorem putWord_wf (s : State) (k w v : Nat) (h : Memory.wf s.mem = true) :
    Memory.wf (s.putWord k w v).mem = true := putBytes_wf _ _ _ h
@[simp] theorem wf_nil : Memory.wf [] = true := rfl

@[simp] theorem State.powered_pending (s : State) (f : State → State) (h : (f s).pending = s.pending) :
    (s.powered f).pending = s.pending := by
  unfold State.powered
  split
  · exact h
  · rfl
@[simp] theorem State.powered_otp (s : State) (f : State → State) (h : (f s).life.otp = s.life.otp) :
    (s.powered f).life.otp = s.life.otp := by
  unfold State.powered
  split
  · exact h
  · rfl
@[simp] theorem State.powered_mem (s : State) (f : State → State) (h : (f s).mem = s.mem) :
    (s.powered f).mem = s.mem := by
  unfold State.powered
  split
  · exact h
  · rfl
@[simp] theorem State.powered_wf (s : State) (f : State → State) (h : Memory.wf s.mem = true) (hf : Memory.wf (f s).mem = true) :
    Memory.wf (s.powered f).mem = true := by
  unfold State.powered
  split
  · exact hf
  · exact h
@[simp] theorem State.setReg_kept (s : State) (a : Nat) (v : Nat) :
    (State.setReg s a v).pending = s.pending ∧ (State.setReg s a v).mem = s.mem ∧
    (State.setReg s a v).life.otp = s.life.otp := ⟨rfl, rfl, rfl⟩
@[simp] theorem State.setFld_kept (s : State) (a : Nat) (lo : Nat) (w : Nat) (v : Nat) :
    (State.setFld s a lo w v).pending = s.pending ∧ (State.setFld s a lo w v).mem = s.mem ∧
    (State.setFld s a lo w v).life.otp = s.life.otp := ⟨rfl, rfl, rfl⟩
@[simp] theorem State.setBit_kept (s : State) (a : Nat) (lo : Nat) (b : Bool) :
    (State.setBit s a lo b).pending = s.pending ∧ (State.setBit s a lo b).mem = s.mem ∧
    (State.setBit s a lo b).life.otp = s.life.otp := ⟨rfl, rfl, rfl⟩
@[simp] theorem State.count_kept (s : State) (a : Nat) (lo : Nat) (w : Nat) (n : Nat) :
    (State.count s a lo w n).pending = s.pending ∧ (State.count s a lo w n).mem = s.mem ∧
    (State.count s a lo w n).life.otp = s.life.otp := ⟨rfl, rfl, rfl⟩
@[simp] theorem State.inc_kept (s : State) (a : Nat) :
    (State.inc s a).pending = s.pending ∧ (State.inc s a).mem = s.mem ∧ (State.inc s a).life.otp = s.life.otp := ⟨rfl, rfl, rfl⟩
@[simp] theorem State.zeroRegs_kept (s : State) (l : List Nat) :
    (State.zeroRegs s l).pending = s.pending ∧ (State.zeroRegs s l).mem = s.mem ∧
    (State.zeroRegs s l).life.otp = s.life.otp := by
  simp [State.zeroRegs]
@[simp] theorem State.setRegion_kept (s : State) (r : Nat) (x : Region) :
    (State.setRegion s r x).pending = s.pending ∧ (State.setRegion s r x).mem = s.mem ∧
    (State.setRegion s r x).life.otp = s.life.otp := ⟨rfl, rfl, rfl⟩
@[simp] theorem State.setQueue_kept (s : State) (q : Nat) (x : Queue) :
    (State.setQueue s q x).pending = s.pending ∧ (State.setQueue s q x).mem = s.mem ∧
    (State.setQueue s q x).life.otp = s.life.otp := ⟨rfl, rfl, rfl⟩
@[simp] theorem State.setMbox_kept (s : State) (m : Nat) (x : Mbox) :
    (State.setMbox s m x).pending = s.pending ∧ (State.setMbox s m x).mem = s.mem ∧
    (State.setMbox s m x).life.otp = s.life.otp := ⟨rfl, rfl, rfl⟩
@[simp] theorem State.setPort_kept (s : State) (k : Nat) (x : Port) :
    (State.setPort s k x).pending = s.pending ∧ (State.setPort s k x).mem = s.mem ∧
    (State.setPort s k x).life.otp = s.life.otp := ⟨rfl, rfl, rfl⟩
@[simp] theorem State.setLane_kept (s : State) (n : Nat) (x : Lane) :
    (State.setLane s n x).pending = s.pending ∧ (State.setLane s n x).mem = s.mem ∧
    (State.setLane s n x).life.otp = s.life.otp := ⟨rfl, rfl, rfl⟩
@[simp] theorem State.setGck_kept (s : State) (n : Nat) (x : Gck) :
    (State.setGck s n x).pending = s.pending ∧ (State.setGck s n x).mem = s.mem ∧
    (State.setGck s n x).life.otp = s.life.otp := ⟨rfl, rfl, rfl⟩
@[simp] theorem State.draw_kept (s : State) :
    (State.draw s).2.pending = s.pending ∧ (State.draw s).2.mem = s.mem ∧ (State.draw s).2.life.otp = s.life.otp := ⟨rfl, rfl, rfl⟩
@[simp] theorem State.setTable_kept (s : State) (r : Nat) (t : List Word) :
    (State.setTable s r t).pending = s.pending ∧ (State.setTable s r t).mem = s.mem ∧
    (State.setTable s r t).life.otp = s.life.otp := by
  simp [State.setTable]
@[simp] theorem State.putWord_potp (s : State) (k : Nat) (w : Nat) (v : Nat) :
    (State.putWord s k w v).pending = s.pending ∧ (State.putWord s k w v).life.otp = s.life.otp := by
  simp [State.putWord]
@[simp] theorem State.readWord_kept (s : State) (k : Nat) (w : Nat) :
    (State.readWord s k w).2.pending = s.pending ∧ (State.readWord s k w).2.mem = s.mem ∧
    (State.readWord s k w).2.life.otp = s.life.otp := by
  unfold State.readWord
  split
  · simp
  · simp
  · simp
  · simp only [State.draw]; split <;> simp
@[simp] theorem State.latch_kept (s : State) (code : Nat) (src : Nat) (data : Nat) :
    (State.latch s code src data).pending = s.pending ∧ (State.latch s code src data).mem = s.mem ∧
    (State.latch s code src data).life.otp = s.life.otp := ⟨rfl, rfl, rfl⟩
@[simp] theorem State.announce_kept (s : State) (code : Nat) (data : Nat) :
    (State.announce s code data).pending = s.pending ∧ (State.announce s code data).mem = s.mem ∧
    (State.announce s code data).life.otp = s.life.otp := ⟨rfl, rfl, rfl⟩
@[simp] theorem State.direct_kept (s : State) (d : Directed) :
    (State.direct s d).pending = s.pending ∧ (State.direct s d).mem = s.mem ∧
    (State.direct s d).life.otp = s.life.otp := ⟨rfl, rfl, rfl⟩
@[simp] theorem State.fault_kept (s : State) (detail : Nat) (data : Nat) :
    (State.fault s detail data).pending = s.pending ∧ (State.fault s detail data).mem = s.mem ∧
    (State.fault s detail data).life.otp = s.life.otp := ⟨rfl, rfl, rfl⟩
@[simp] theorem State.faultHw_kept (s : State) (detail : Nat) (src : Nat) (data : Nat) :
    (State.faultHw s detail src data).pending = s.pending ∧ (State.faultHw s detail src data).mem = s.mem ∧
    (State.faultHw s detail src data).life.otp = s.life.otp := ⟨rfl, rfl, rfl⟩
@[simp] theorem State.ringEvent_kept (s : State) (m : Nat) (code : Nat) (len : Nat) (tag : Nat) (data : Nat) :
    (State.ringEvent s m code len tag data).pending = s.pending ∧
    (State.ringEvent s m code len tag data).mem = s.mem ∧
    (State.ringEvent s m code len tag data).life.otp = s.life.otp := by
  simp [State.ringEvent]
@[simp] theorem State.logEntry_kept (s : State) (kind : Nat) (event : Nat) (detail : Nat) (data : Nat) :
    (State.logEntry s kind event detail data).pending = s.pending ∧
    (State.logEntry s kind event detail data).mem = s.mem ∧
    (State.logEntry s kind event detail data).life.otp = s.life.otp := by
  simp [State.logEntry]
@[simp] theorem State.lock_kept (s : State) :
    (State.lock s).pending = s.pending ∧ (State.lock s).mem = s.mem ∧ (State.lock s).life.otp = s.life.otp := ⟨rfl, rfl, rfl⟩
@[simp] theorem State.acquire_kept (s : State) :
    (State.acquire s).pending = s.pending ∧ (State.acquire s).mem = s.mem ∧ (State.acquire s).life.otp = s.life.otp := ⟨rfl, rfl, rfl⟩
@[simp] theorem State.sourceEvent_kept (s : State) (c : Nat) :
    (State.sourceEvent s c).pending = s.pending ∧ (State.sourceEvent s c).mem = s.mem ∧
    (State.sourceEvent s c).life.otp = s.life.otp := by
  simp [State.sourceEvent]
@[simp] theorem State.enterHoldover_kept (s : State) :
    (State.enterHoldover s).pending = s.pending ∧ (State.enterHoldover s).mem = s.mem ∧
    (State.enterHoldover s).life.otp = s.life.otp := ⟨rfl, rfl, rfl⟩
@[simp] theorem State.tickPreset_kept (s : State) :
    (State.tickPreset s).pending = s.pending ∧ (State.tickPreset s).mem = s.mem ∧
    (State.tickPreset s).life.otp = s.life.otp := by
  simp [State.tickPreset]
@[simp] theorem State.alignDone_kept (s : State) :
    (State.alignDone s).pending = s.pending ∧ (State.alignDone s).mem = s.mem ∧
    (State.alignDone s).life.otp = s.life.otp := by
  simp [State.alignDone]
@[simp] theorem State.clearSlips_kept (s : State) :
    (State.clearSlips s).pending = s.pending ∧ (State.clearSlips s).mem = s.mem ∧
    (State.clearSlips s).life.otp = s.life.otp := ⟨rfl, rfl, rfl⟩
@[simp] theorem State.writeTickCtrl_kept (s : State) (v : Nat) :
    (State.writeTickCtrl s v).pending = s.pending ∧ (State.writeTickCtrl s v).mem = s.mem ∧
    (State.writeTickCtrl s v).life.otp = s.life.otp := by
  simp [State.writeTickCtrl]
@[simp] theorem State.applySrc_kept (s : State) (v : Nat) :
    (State.applySrc s v).pending = s.pending ∧ (State.applySrc s v).mem = s.mem ∧
    (State.applySrc s v).life.otp = s.life.otp := by
  simp [State.applySrc]
@[simp] theorem State.compareSof_kept (s : State) (own : Nat) (announced : Nat) :
    (State.compareSof s own announced).pending = s.pending ∧ (State.compareSof s own announced).mem = s.mem ∧
    (State.compareSof s own announced).life.otp = s.life.otp := by
  simp [State.compareSof]
@[simp] theorem State.endSwapCycles_kept (s : State) :
    (State.endSwapCycles s).pending = s.pending ∧ (State.endSwapCycles s).mem = s.mem ∧
    (State.endSwapCycles s).life.otp = s.life.otp := by
  unfold State.endSwapCycles
  refine forAll_kept 96 _ (fun r t => ?_) s
  split <;> simp
@[simp] theorem State.runLine_kept (s : State) (p : Nat) :
    (s.runLine p).pending = s.pending ∧ (s.runLine p).mem = s.mem ∧ (s.runLine p).life.otp = s.life.otp := by
  simp [State.runLine]
@[simp] theorem State.passCycles_kept (s : State) (n : Nat) :
    (s.passCycles n).pending = s.pending ∧ (s.passCycles n).mem = s.mem ∧ (s.passCycles n).life.otp = s.life.otp := by
  simp [State.passCycles]
@[simp] theorem State.elapse_kept (s : State) :
    (State.elapse s).pending = s.pending ∧ (State.elapse s).mem = s.mem ∧ (State.elapse s).life.otp = s.life.otp := by
  simp only [State.elapse, (State.passCycles_kept _ _).1, (State.passCycles_kept _ _).2.1, (State.passCycles_kept _ _).2.2]
  split <;> simp
@[simp] theorem State.closeFrame_kept (s : State) :
    (State.closeFrame s).pending = s.pending ∧ (State.closeFrame s).mem = s.mem ∧
    (State.closeFrame s).life.otp = s.life.otp := by
  simp [State.closeFrame]
@[simp] theorem State.dropPresets_kept (s : State)  :
    (s.dropPresets).pending = s.pending ∧ (s.dropPresets).mem = s.mem ∧ (s.dropPresets).life.otp = s.life.otp := by
  unfold State.dropPresets; repeat' (first | split | simp)
@[simp] theorem State.numberFrame_kept (s : State) :
    (State.numberFrame s).pending = s.pending ∧ (State.numberFrame s).mem = s.mem ∧
    (State.numberFrame s).life.otp = s.life.otp := by
  simp [State.numberFrame]
@[simp] theorem State.applyPending_kept (s : State) :
    (State.applyPending s).pending = s.pending ∧ (State.applyPending s).mem = s.mem ∧
    (State.applyPending s).life.otp = s.life.otp := by
  simp only [State.applyPending]
  repeat' (first | split | simp)
@[simp] theorem State.tickSof_kept (s : State) :
    (State.tickSof s).pending = s.pending ∧ (State.tickSof s).mem = s.mem ∧ (State.tickSof s).life.otp = s.life.otp := by
  simp only [State.tickSof]
  repeat' (first | split | simp)
@[simp] theorem State.tickGenerator_kept (s : State) :
    (State.tickGenerator s).pending = s.pending ∧ (State.tickGenerator s).mem = s.mem ∧
    (State.tickGenerator s).life.otp = s.life.otp := by
  simp [State.tickGenerator]
@[simp] theorem State.accept_kept (s : State) (target : Nat) (mb : Nat) (tag : Nat) (what : Change) :
    (State.accept s target mb tag what).pending = s.pending ∧ (State.accept s target mb tag what).mem = s.mem ∧
    (State.accept s target mb tag what).life.otp = s.life.otp := ⟨rfl, rfl, rfl⟩
@[simp] theorem State.setRamping_kept (s : State) (n : Nat) (b : Bool) :
    (State.setRamping s n b).pending = s.pending ∧ (State.setRamping s n b).mem = s.mem ∧
    (State.setRamping s n b).life.otp = s.life.otp := ⟨rfl, rfl, rfl⟩
@[simp] theorem State.rampEnd_kept (s : State) (n : Nat) :
    (State.rampEnd s n).pending = s.pending ∧ (State.rampEnd s n).mem = s.mem ∧
    (State.rampEnd s n).life.otp = s.life.otp := by
  simp [State.rampEnd]
@[simp] theorem State.forceMux_kept (s : State) (c : Nat) :
    (State.forceMux s c).pending = s.pending ∧ (State.forceMux s c).mem = s.mem ∧
    (State.forceMux s c).life.otp = s.life.otp := ⟨rfl, rfl, rfl⟩
@[simp] theorem State.rampSwitch_kept (s : State) (n : Nat) :
    (State.rampSwitch s n).pending = s.pending ∧ (State.rampSwitch s n).mem = s.mem ∧
    (State.rampSwitch s n).life.otp = s.life.otp := by
  simp [State.rampSwitch]
@[simp] theorem State.rampTurn_kept (s : State) (n : Nat) :
    (State.rampTurn s n).pending = s.pending ∧ (State.rampTurn s n).mem = s.mem ∧
    (State.rampTurn s n).life.otp = s.life.otp := by
  simp [State.rampTurn]
@[simp] theorem State.rampGo_kept (s : State) (n : Nat) :
    (State.rampGo s n).pending = s.pending ∧ (State.rampGo s n).mem = s.mem ∧
    (State.rampGo s n).life.otp = s.life.otp := by
  simp [State.rampGo]
@[simp] theorem State.rampReady_kept (s : State) :
    (State.rampReady s).pending = s.pending ∧ (State.rampReady s).mem = s.mem ∧
    (State.rampReady s).life.otp = s.life.otp := by
  simp [State.rampReady]
@[simp] theorem State.rampNow_kept (s : State) (n : Nat) :
    (State.rampNow s n).pending = s.pending ∧ (State.rampNow s n).mem = s.mem ∧
    (State.rampNow s n).life.otp = s.life.otp := by
  simp [State.rampNow]
@[simp] theorem State.rampStart_kept (s : State) (n : Nat) :
    (State.rampStart s n).pending = s.pending ∧ (State.rampStart s n).mem = s.mem ∧
    (State.rampStart s n).life.otp = s.life.otp := ⟨rfl, rfl, rfl⟩
@[simp] theorem State.rampStep_kept (s : State) (n : Nat) :
    (State.rampStep s n).pending = s.pending ∧ (State.rampStep s n).mem = s.mem ∧
    (State.rampStep s n).life.otp = s.life.otp := by
  simp only [State.rampStep]
  repeat' (first | split | simp)
@[simp] theorem State.unlockEvent_kept (s : State) (src : Nat) (pll : Nat) :
    (State.unlockEvent s src pll).pending = s.pending ∧ (State.unlockEvent s src pll).mem = s.mem ∧
    (State.unlockEvent s src pll).life.otp = s.life.otp := ⟨rfl, rfl, rfl⟩
@[simp] theorem State.spllUnlock_kept (s : State) (n : Nat) (hold : Bool) :
    (State.spllUnlock s n hold).pending = s.pending ∧ (State.spllUnlock s n hold).mem = s.mem ∧
    (State.spllUnlock s n hold).life.otp = s.life.otp := by
  simp [State.spllUnlock]
@[simp] theorem State.laneLost_kept (s : State) (n : Nat) :
    (State.laneLost s n).pending = s.pending ∧ (State.laneLost s n).mem = s.mem ∧
    (State.laneLost s n).life.otp = s.life.otp := ⟨rfl, rfl, rfl⟩
@[simp] theorem State.laneDown_kept (s : State) (n : Nat) :
    (State.laneDown s n).pending = s.pending ∧ (State.laneDown s n).mem = s.mem ∧
    (State.laneDown s n).life.otp = s.life.otp := by
  simp [State.laneDown]
@[simp] theorem State.quadUnlock_kept (s : State) (q : Nat) :
    (State.quadUnlock s q).pending = s.pending ∧ (State.quadUnlock s q).mem = s.mem ∧
    (State.quadUnlock s q).life.otp = s.life.otp := by
  simp [State.quadUnlock]
@[simp] theorem State.zvlUnlock_kept (s : State) :
    (State.zvlUnlock s).pending = s.pending ∧ (State.zvlUnlock s).mem = s.mem ∧
    (State.zvlUnlock s).life.otp = s.life.otp := by
  simp [State.zvlUnlock]
@[simp] theorem State.pllUnlock_kept (s : State) (pll : Pll) :
    (State.pllUnlock s pll).pending = s.pending ∧ (State.pllUnlock s pll).mem = s.mem ∧
    (State.pllUnlock s pll).life.otp = s.life.otp := by
  unfold State.pllUnlock
  split <;> simp
@[simp] theorem State.locks_kept (s : State) (pll : Pll) :
    (State.locks s pll).pending = s.pending ∧ (State.locks s pll).mem = s.mem ∧
    (State.locks s pll).life.otp = s.life.otp := by
  unfold State.locks
  split <;> simp
@[simp] theorem State.roundStep_kept (s : State) (e : Int) :
    (State.roundStep s e).2.pending = s.pending ∧ (State.roundStep s e).2.mem = s.mem ∧
    (State.roundStep s e).2.life.otp = s.life.otp := by
  simp only [State.roundStep]
  repeat' (first | split | simp)
@[simp] theorem State.trimFollow_kept (s : State) :
    (State.trimFollow s).pending = s.pending ∧ (State.trimFollow s).mem = s.mem ∧
    (State.trimFollow s).life.otp = s.life.otp := by
  simp only [State.trimFollow]
  repeat' (first | split | simp)
@[simp] theorem State.fastNow_kept (s : State) :
    (State.fastNow s).pending = s.pending ∧ (State.fastNow s).mem = s.mem ∧
    (State.fastNow s).life.otp = s.life.otp := ⟨rfl, rfl, rfl⟩
@[simp] theorem State.spll0Full_kept (s : State) :
    (State.spll0Full s).pending = s.pending ∧ (State.spll0Full s).mem = s.mem ∧
    (State.spll0Full s).life.otp = s.life.otp := by
  simp only [State.spll0Full]
  repeat' (first | split | simp)
@[simp] theorem State.trimWindow_kept (s : State) (e : Int) :
    (State.trimWindow s e).pending = s.pending ∧ (State.trimWindow s e).mem = s.mem ∧
    (State.trimWindow s e).life.otp = s.life.otp := by
  simp [State.trimWindow]
@[simp] theorem State.refDead_kept (s : State) (c : Nat) :
    (State.refDead s c).pending = s.pending ∧ (State.refDead s c).mem = s.mem ∧
    (State.refDead s c).life.otp = s.life.otp := by
  simp [State.refDead]
@[simp] theorem State.failoverOf_kept (s : State) (c : Nat) :
    (State.failoverOf s c).pending = s.pending ∧ (State.failoverOf s c).mem = s.mem ∧
    (State.failoverOf s c).life.otp = s.life.otp := by
  simp [State.failoverOf]
@[simp] theorem State.failover_kept (s : State) :
    (State.failover s).pending = s.pending ∧ (State.failover s).mem = s.mem ∧
    (State.failover s).life.otp = s.life.otp := by
  simp [State.failover]
@[simp] theorem State.clockDead_kept (s : State) (c : Nat) (edges : Bool) :
    (State.clockDead s c edges).pending = s.pending ∧ (State.clockDead s c edges).mem = s.mem ∧
    (State.clockDead s c edges).life.otp = s.life.otp := by
  simp [State.clockDead]
@[simp] theorem State.spll0Move_kept (s : State) :
    (State.spll0Move s).pending = s.pending ∧ (State.spll0Move s).mem = s.mem ∧
    (State.spll0Move s).life.otp = s.life.otp := by
  simp only [State.spll0Move]
  repeat' (first | split | simp)
@[simp] theorem State.clockAlive_kept (s : State) (c : Nat) :
    (State.clockAlive s c).pending = s.pending ∧ (State.clockAlive s c).mem = s.mem ∧
    (State.clockAlive s c).life.otp = s.life.otp := by
  simp [State.clockAlive]
@[simp] theorem State.spllRestart_kept (s : State) (n : Nat) :
    (State.spllRestart s n).pending = s.pending ∧ (State.spllRestart s n).mem = s.mem ∧
    (State.spllRestart s n).life.otp = s.life.otp := ⟨rfl, rfl, rfl⟩
@[simp] theorem State.openGates_kept (s : State) :
    (State.openGates s).pending = s.pending ∧ (State.openGates s).mem = s.mem ∧
    (State.openGates s).life.otp = s.life.otp := by
  simp [State.openGates]
@[simp] theorem State.writeClock_kept (s : State) (off : Nat) (v : Nat) :
    (State.writeClock s off v).pending = s.pending ∧ (State.writeClock s off v).mem = s.mem ∧
    (State.writeClock s off v).life.otp = s.life.otp := by
  simp only [State.writeClock]
  repeat' (first | split | simp)
@[simp] theorem State.commitClocks_kept (s : State) (g : Nat → Nat) :
    (s.commitClocks g).pending = s.pending ∧ (s.commitClocks g).mem = s.mem ∧
    (s.commitClocks g).life.otp = s.life.otp := by
  unfold State.commitClocks
  simp only [State.openGates_kept, State.rampReady_kept, State.failover_kept, State.trimFollow_kept]
  have a := foldl_kept (fun (t : State) off => t.setReg (CK off) (applyWrite ((ckFields off).getD []) (t.reg (CK off)) (g off))) (fun t x => by simp)
  have b := foldl_kept State.spllRestart (fun t x => by simp)
  rw [(forAll_kept _ _ ?_ _).1, (forAll_kept _ _ ?_ _).2.1, (forAll_kept _ _ ?_ _).2.2]
  · simp [a, b]
  all_goals
    intro k t
    split
    · simp
    · split <;> simp
@[simp] theorem State.tempEvent_kept (s : State) (tj : Nat) (level : Nat) :
    (State.tempEvent s tj level).pending = s.pending ∧ (State.tempEvent s tj level).mem = s.mem ∧
    (State.tempEvent s tj level).life.otp = s.life.otp := ⟨rfl, rfl, rfl⟩
@[simp] theorem State.tempSample_kept (s : State) (tj : Nat) :
    (State.tempSample s tj).pending = s.pending ∧ (State.tempSample s tj).mem = s.mem ∧
    (State.tempSample s tj).life.otp = s.life.otp := by
  simp [State.tempSample]
@[simp] theorem State.updThrottle_kept (s : State) (q : Nat) :
    (State.updThrottle s q).pending = s.pending ∧ (State.updThrottle s q).mem = s.mem ∧
    (State.updThrottle s q).life.otp = s.life.otp := by
  simp [State.updThrottle]
@[simp] theorem State.foundUE_kept (s : State) (k : Nat) (w : Nat) (by_ : Nat) :
    (State.foundUE s k w by_).pending = s.pending ∧ (State.foundUE s k w by_).mem = s.mem ∧
    (State.foundUE s k w by_).life.otp = s.life.otp := by
  simp [State.foundUE]
@[simp] theorem State.queueRead_kept (s : State) (q : Nat) (o : Nat) (by_ : Nat) :
    (State.queueRead s q o by_).2.pending = s.pending ∧ (State.queueRead s q o by_).2.mem = s.mem ∧
    (State.queueRead s q o by_).2.life.otp = s.life.otp := by
  unfold State.queueRead
  have h := State.readWord_kept s (s.qBlock q o) (o % 4096)
  generalize s.readWord (s.qBlock q o) (o % 4096) = x at h ⊢
  obtain ⟨⟨v, ce, ue⟩, t⟩ := x
  simp only at h ⊢
  simp [h]
@[simp] theorem State.queueWrite_potp (s : State) (q : Nat) (o : Nat) (v : Nat) :
    (State.queueWrite s q o v).pending = s.pending ∧ (State.queueWrite s q o v).life.otp = s.life.otp := by
  simp [State.queueWrite]
@[simp] theorem State.queueWrite_wf (s : State) (q : Nat) (o : Nat) (v : Nat) (h : Memory.wf s.mem = true) :
    Memory.wf (State.queueWrite s q o v).mem = true := by
  simp [State.queueWrite, h]
@[simp] theorem State.episode_kept (s : State) (q : Nat) :
    (State.episode s q).pending = s.pending ∧ (State.episode s q).mem = s.mem ∧
    (State.episode s q).life.otp = s.life.otp := by
  simp [State.episode]
@[simp] theorem State.discard_kept (s : State) (q : Nat) :
    (State.discard s q).pending = s.pending ∧ (State.discard s q).mem = s.mem ∧
    (State.discard s q).life.otp = s.life.otp := by
  simp [State.discard]
@[simp] theorem State.reject_kept (s : State) (q : Nat) :
    (State.reject s q).pending = s.pending ∧ (State.reject s q).mem = s.mem ∧
    (State.reject s q).life.otp = s.life.otp := by
  simp [State.reject]
@[simp] theorem State.closeEpisode_kept (s : State) (q : Nat) :
    (State.closeEpisode s q).pending = s.pending ∧ (State.closeEpisode s q).mem = s.mem ∧
    (State.closeEpisode s q).life.otp = s.life.otp := by
  simp [State.closeEpisode]
@[simp] theorem State.closeIfLow_kept (s : State) (q : Nat) :
    (State.closeIfLow s q).pending = s.pending ∧ (State.closeIfLow s q).mem = s.mem ∧
    (State.closeIfLow s q).life.otp = s.life.otp := by
  simp [State.closeIfLow]
@[simp] theorem State.append_kept (s : State) (q : Nat) (v : Nat) (lane : Bool) :
    (State.append s q v lane).pending = s.pending ∧ (State.append s q v lane).mem = s.mem ∧
    (State.append s q v lane).life.otp = s.life.otp := ⟨rfl, rfl, rfl⟩
@[simp] theorem State.dropHead_kept (s : State) (q : Nat) :
    (State.dropHead s q).pending = s.pending ∧ (State.dropHead s q).mem = s.mem ∧
    (State.dropHead s q).life.otp = s.life.otp := by
  simp [State.dropHead]
@[simp] theorem State.fifoWord_kept (s : State) (q : Nat) (v : Nat) (lane : Bool) :
    (State.fifoWord s q v lane).pending = s.pending ∧ (State.fifoWord s q v lane).mem = s.mem ∧
    (State.fifoWord s q v lane).life.otp = s.life.otp := by
  unfold State.fifoWord
  split <;> simp
@[simp] theorem State.expire_kept (s : State) (q : Nat) :
    (State.expire s q).pending = s.pending ∧ (State.expire s q).mem = s.mem ∧
    (State.expire s q).life.otp = s.life.otp := ⟨rfl, rfl, rfl⟩
@[simp] theorem State.expireEmpty_kept (q n : Nat) (s : State) :
    (State.expireEmpty q n s).pending = s.pending ∧ (State.expireEmpty q n s).mem = s.mem ∧
    (State.expireEmpty q n s).life.otp = s.life.otp := by
  induction n generalizing s with
  | zero => simp [State.expireEmpty]
  | succ n ih =>
    simp only [State.expireEmpty]
    split
    · simp [ih]
    · simp
@[simp] theorem State.expireFull_kept (q n : Nat) (s : State) :
    (State.expireFull q n s).pending = s.pending ∧ (State.expireFull q n s).mem = s.mem ∧
    (State.expireFull q n s).life.otp = s.life.otp := by
  induction n generalizing s with
  | zero => simp [State.expireFull]
  | succ n ih => simp [State.expireFull, ih]
@[simp] theorem State.pipeWord_kept (s : State) (q v : Nat) (lane : Bool) :
    (s.pipeWord q v lane).pending = s.pending ∧ (s.pipeWord q v lane).mem = s.mem ∧
    (s.pipeWord q v lane).life.otp = s.life.otp := by
  simp [State.pipeWord]
@[simp] theorem State.closeRec_kept (s : State) (q : Nat) (r : Rec) :
    (State.closeRec s q r).pending = s.pending ∧ (State.closeRec s q r).mem = s.mem ∧
    (State.closeRec s q r).life.otp = s.life.otp := ⟨rfl, rfl, rfl⟩
@[simp] theorem State.derandWord_kept (s : State) (q : Nat) (v : Nat) (last : Bool) :
    (State.derandWord s q v last).2.pending = s.pending ∧ (State.derandWord s q v last).2.mem = s.mem ∧
    (State.derandWord s q v last).2.life.otp = s.life.otp := by
  simp only [State.derandWord]
  split
  · simp
  · split
    · simp
    · split
      · simp
      · split <;> simp
@[simp] theorem State.restartHistory_kept (s : State) (q : Nat) :
    (State.restartHistory s q).pending = s.pending ∧ (State.restartHistory s q).mem = s.mem ∧
    (State.restartHistory s q).life.otp = s.life.otp := by
  simp [State.restartHistory]
@[simp] theorem State.queueRecords_kept (s : State) (q : Nat) :
    (State.queueRecords s q).pending = s.pending ∧ (State.queueRecords s q).mem = s.mem ∧
    (State.queueRecords s q).life.otp = s.life.otp := by
  simp [State.queueRecords]
@[simp] theorem State.queueDrain_kept (s : State) (q : Nat) (ended : Nat) :
    (State.queueDrain s q ended).pending = s.pending ∧ (State.queueDrain s q ended).mem = s.mem ∧
    (State.queueDrain s q ended).life.otp = s.life.otp := by
  simp [State.queueDrain]
@[simp] theorem State.flipHalf_kept (s : State) (q : Nat) :
    (s.flipHalf q).pending = s.pending ∧ (s.flipHalf q).mem = s.mem ∧ (s.flipHalf q).life.otp = s.life.otp := by
  unfold State.flipHalf; repeat' (first | split | simp)
@[simp] theorem State.openFrame_kept (s : State) (q : Nat) :
    (s.openFrame q).pending = s.pending ∧ (s.openFrame q).mem = s.mem ∧ (s.openFrame q).life.otp = s.life.otp := by
  simp [State.openFrame]
@[simp] theorem State.tickQueue_kept (ended : Nat) (jumped : Bool) (q : Nat) (s : State) :
    (State.tickQueue ended jumped q s).pending = s.pending ∧ (State.tickQueue ended jumped q s).mem = s.mem ∧
    (State.tickQueue ended jumped q s).life.otp = s.life.otp := by
  unfold State.tickQueue
  split
  · simp
  · dsimp only
    repeat' split
    all_goals simp
@[simp] theorem State.writeBin_potp (s : State) (q : Nat) :
    (s.writeBin q).pending = s.pending ∧ (s.writeBin q).life.otp = s.life.otp := by
  simp only [State.writeBin]
  split <;> simp
@[simp] theorem State.writeBin_wf (s : State) (q : Nat) (h : Memory.wf s.mem = true) :
    Memory.wf (s.writeBin q).mem = true := by
  simp only [State.writeBin]
  split <;> simp [h]
@[simp] theorem State.readBin_kept (s : State) (q : Nat) :
    (s.readBin q).pending = s.pending ∧ (s.readBin q).mem = s.mem ∧ (s.readBin q).life.otp = s.life.otp := by
  simp only [State.readBin]
  split
  · simp
  · next b n rest _ =>
    have h := State.queueRead_kept s q (s.binWord q b) 1
    generalize s.queueRead q (s.binWord q b) 1 = x at h ⊢
    obtain ⟨⟨v, ce, ue⟩, t⟩ := x
    simp only at h ⊢
    split <;> simp [h]
@[simp] theorem State.prefetch_kept (s : State) (q : Nat) :
    (State.prefetch s q).pending = s.pending ∧ (State.prefetch s q).mem = s.mem ∧
    (State.prefetch s q).life.otp = s.life.otp := by
  unfold State.prefetch
  have h := State.queueRead_kept s q (((s.queue q).rd + (s.queue q).pre.length) % s.wq q) 1
  generalize s.queueRead q (((s.queue q).rd + (s.queue q).pre.length) % s.wq q) 1 = x at h ⊢
  obtain ⟨⟨v, ce, ue⟩, t⟩ := x
  simp only at h ⊢
  simp [h]
@[simp] theorem State.serveAccess_potp (s : State) (q : Nat) :
    (State.serveAccess s q).pending = s.pending ∧ (State.serveAccess s q).life.otp = s.life.otp := by
  simp only [State.serveAccess]
  have hk := State.queueRead_kept ((s.setBit (QC q 0x90) 29 false).setBit (QC q 0x90) 25 false) q (s.fld (QC q 0x90) 0 19) 1
  generalize State.queueRead _ q (s.fld (QC q 0x90) 0 19) 1 = x at hk ⊢
  obtain ⟨⟨v, ce, ue⟩, t⟩ := x
  simp at hk
  simp [hk]
@[simp] theorem State.serveAccess_wf (s : State) (q : Nat) (h : Memory.wf s.mem = true) :
    Memory.wf (State.serveAccess s q).mem = true := by
  simp only [State.serveAccess]
  have hk := State.queueRead_kept ((s.setBit (QC q 0x90) 29 false).setBit (QC q 0x90) 25 false) q (s.fld (QC q 0x90) 0 19) 1
  generalize State.queueRead _ q (s.fld (QC q 0x90) 0 19) 1 = x at hk ⊢
  obtain ⟨⟨v, ce, ue⟩, t⟩ := x
  simp at hk
  simp [hk, h]
@[simp] theorem State.serveWrite_potp (s : State) (q : Nat) :
    (s.serveWrite q).pending = s.pending ∧ (s.serveWrite q).life.otp = s.life.otp := by
  simp only [State.serveWrite]
  split
  · simp
  · split <;> simp
@[simp] theorem State.serveWrite_wf (s : State) (q : Nat) (h : Memory.wf s.mem = true) :
    Memory.wf (s.serveWrite q).mem = true := by
  simp only [State.serveWrite]
  split
  · simp [h]
  · split <;> simp [h]
@[simp] theorem State.serveRead_potp (s : State) (q : Nat) :
    (State.serveRead s q).pending = s.pending ∧ (State.serveRead s q).life.otp = s.life.otp := by
  simp [State.serveRead]
@[simp] theorem State.serveRead_wf (s : State) (q : Nat) (h : Memory.wf s.mem = true) :
    Memory.wf (State.serveRead s q).mem = true := by
  simp [State.serveRead, h]
@[simp] theorem State.drainWords_kept (s : State) (q : Nat) (n : Nat) :
    (State.drainWords s q n).pending = s.pending ∧ (State.drainWords s q n).mem = s.mem ∧
    (State.drainWords s q n).life.otp = s.life.otp := by
  simp [State.drainWords]
@[simp] theorem State.endRecord_kept (s : State) (q : Nat) :
    (State.endRecord s q).pending = s.pending ∧ (State.endRecord s q).mem = s.mem ∧
    (State.endRecord s q).life.otp = s.life.otp := by
  simp only [State.endRecord]
  repeat' split
  all_goals simp
@[simp] theorem State.clearQueue_kept (s : State) (q : Nat) :
    (State.clearQueue s q).pending = s.pending ∧ (State.clearQueue s q).mem = s.mem ∧
    (State.clearQueue s q).life.otp = s.life.otp := by
  simp [State.clearQueue]
@[simp] theorem State.slotWheel_potp (s : State) (q : Nat) :
    (State.slotWheel s q).pending = s.pending ∧ (State.slotWheel s q).life.otp = s.life.otp := by
  simp [State.slotWheel]
@[simp] theorem State.slotWheel_wf (s : State) (q : Nat) (h : Memory.wf s.mem = true) :
    Memory.wf (State.slotWheel s q).mem = true := by
  simp [State.slotWheel, h]
@[simp] theorem State.resumeQueue_kept (s : State) (q : Nat) :
    (State.resumeQueue s q).pending = s.pending ∧ (State.resumeQueue s q).mem = s.mem ∧
    (State.resumeQueue s q).life.otp = s.life.otp := ⟨rfl, rfl, rfl⟩
@[simp] theorem State.clrQueueCnt_kept (s : State) (q : Nat) :
    (State.clrQueueCnt s q).pending = s.pending ∧ (State.clrQueueCnt s q).mem = s.mem ∧
    (State.clrQueueCnt s q).life.otp = s.life.otp := by
  simp [State.clrQueueCnt]
@[simp] theorem State.lutSwapNext_kept (s : State) (q : Nat) :
    (State.lutSwapNext s q).pending = s.pending ∧ (State.lutSwapNext s q).mem = s.mem ∧
    (State.lutSwapNext s q).life.otp = s.life.otp := ⟨rfl, rfl, rfl⟩
@[simp] theorem State.startAccess_potp (s : State) (q : Nat) (v : Nat) :
    (State.startAccess s q v).pending = s.pending ∧ (State.startAccess s q v).life.otp = s.life.otp := by
  simp [State.startAccess]
@[simp] theorem State.startAccess_wf (s : State) (q : Nat) (v : Nat) (h : Memory.wf s.mem = true) :
    Memory.wf (State.startAccess s q v).mem = true := by
  simp [State.startAccess, h]
@[simp] theorem State.setScrubVisits_kept (s : State) (b : Nat) (n : Nat) :
    (State.setScrubVisits s b n).pending = s.pending ∧ (State.setScrubVisits s b n).mem = s.mem ∧
    (State.setScrubVisits s b n).life.otp = s.life.otp := ⟨rfl, rfl, rfl⟩
@[simp] theorem State.scrubNext_kept (s : State) (b : Nat) :
    (State.scrubNext s b).pending = s.pending ∧ (State.scrubNext s b).mem = s.mem ∧
    (State.scrubNext s b).life.otp = s.life.otp := by
  simp [State.scrubNext]
@[simp] theorem State.scrubVisit_potp (s : State) (b : Nat) (portFree : Bool) :
    (State.scrubVisit s b portFree).pending = s.pending ∧ (State.scrubVisit s b portFree).life.otp = s.life.otp := by
  simp only [State.scrubVisit]
  have hk := State.readWord_kept s (96 * b + bits (s.reg (scrubReg b 0x804)) 16 7) (bits (s.reg (scrubReg b 0x804)) 0 12)
  generalize s.readWord (96 * b + bits (s.reg (scrubReg b 0x804)) 16 7) (bits (s.reg (scrubReg b 0x804)) 0 12) = x at hk ⊢
  obtain ⟨⟨v, ce, ue⟩, t⟩ := x
  simp only at hk ⊢
  simp [hk]
@[simp] theorem State.scrubVisit_wf (s : State) (b : Nat) (portFree : Bool) (h : Memory.wf s.mem = true) :
    Memory.wf (State.scrubVisit s b portFree).mem = true := by
  simp only [State.scrubVisit]
  have hk := State.readWord_kept s (96 * b + bits (s.reg (scrubReg b 0x804)) 16 7) (bits (s.reg (scrubReg b 0x804)) 0 12)
  generalize s.readWord (96 * b + bits (s.reg (scrubReg b 0x804)) 16 7) (bits (s.reg (scrubReg b 0x804)) 0 12) = x at hk ⊢
  obtain ⟨⟨v, ce, ue⟩, t⟩ := x
  simp only at hk ⊢
  simp [hk, h]
@[simp] theorem State.scrubVote_kept (s : State) (b : Nat) :
    (State.scrubVote s b).pending = s.pending ∧ (State.scrubVote s b).mem = s.mem ∧
    (State.scrubVote s b).life.otp = s.life.otp := by
  simp [State.scrubVote]
@[simp] theorem State.setTf_kept (s : State) (key : Nat) (v : Nat) :
    (State.setTf s key v).pending = s.pending ∧ (State.setTf s key v).mem = s.mem ∧
    (State.setTf s key v).life.otp = s.life.otp := ⟨rfl, rfl, rfl⟩
@[simp] theorem State.setBank_kept (s : State) (r : Nat) (c : Nat) (v : Nat) :
    (State.setBank s r c v).pending = s.pending ∧ (State.setBank s r c v).mem = s.mem ∧
    (State.setBank s r c v).life.otp = s.life.otp := ⟨rfl, rfl, rfl⟩
@[simp] theorem State.setShared_kept (s : State) (r : Nat) (v : Nat) :
    (State.setShared s r v).pending = s.pending ∧ (State.setShared s r v).mem = s.mem ∧
    (State.setShared s r v).life.otp = s.life.otp := ⟨rfl, rfl, rfl⟩
@[simp] theorem State.setCross_kept (s : State) (r : Nat) (v : Nat) :
    (State.setCross s r v).pending = s.pending ∧ (State.setCross s r v).mem = s.mem ∧
    (State.setCross s r v).life.otp = s.life.otp := ⟨rfl, rfl, rfl⟩
@[simp] theorem State.setSide_kept (s : State) (k : Nat) (x : Side) :
    (State.setSide s k x).pending = s.pending ∧ (State.setSide s k x).mem = s.mem ∧
    (State.setSide s k x).life.otp = s.life.otp := ⟨rfl, rfl, rfl⟩
theorem portOp_kept (s : State) (k op : Nat) (f : Port → State → PortRes × State) (h : ∀ p t, (f p t).2.pending = t.pending ∧ (f p t).2.mem = t.mem ∧ (f p t).2.life.otp = t.life.otp) :
    (s.portOp k op f).pending = s.pending ∧ (s.portOp k op f).mem = s.mem ∧ (s.portOp k op f).life.otp = s.life.otp := by
  unfold State.portOp
  simp only
  split
  · simp [h]
  · simp
@[simp] theorem State.portRead_kept (k : Nat) (p : Port) (s : State) :
    (State.portRead k p s).2.pending = s.pending ∧ (State.portRead k p s).2.mem = s.mem ∧
    (State.portRead k p s).2.life.otp = s.life.otp := by
  unfold State.portRead State.direct_
  split
  · simp
  · next b _ =>
    have h := State.readWord_kept s b (bits p.addr 0 12)
    generalize s.readWord b (bits p.addr 0 12) = x at h ⊢
    obtain ⟨⟨v, ce, ue⟩, t⟩ := x
    simp only at h ⊢
    split
    · simp
    · simp [h]
@[simp] theorem State.portWrite_potp (k : Nat) (p : Port) (s : State) :
    (State.portWrite k p s).2.pending = s.pending ∧ (State.portWrite k p s).2.life.otp = s.life.otp := by
  unfold State.portWrite State.direct_
  split
  · simp
  · split <;> simp
@[simp] theorem State.portWrite_wf (k : Nat) (p : Port) (s : State) (h : Memory.wf s.mem = true) :
    Memory.wf (State.portWrite k p s).2.mem = true := by
  unfold State.portWrite State.direct_
  split
  · simp [h]
  · split <;> simp [h]
@[simp] theorem State.portPush_kept (k : Nat) (p : Port) (s : State) :
    (State.portPush k p s).2.pending = s.pending ∧ (State.portPush k p s).2.mem = s.mem ∧
    (State.portPush k p s).2.life.otp = s.life.otp := by
  unfold State.portPush
  have h := State.derandWord_kept s k p.wdata p.last
  generalize s.derandWord k p.wdata p.last = x at h ⊢
  obtain ⟨b, t⟩ := x
  simp only at h ⊢
  split
  · simp
  · split
    · simp [h]
    · split
      · simp
      · simp
@[simp] theorem State.portPop_kept (k : Nat) (x1 : Port) (s : State) :
    (State.portPop k x1 s).2.pending = s.pending ∧ (State.portPop k x1 s).2.mem = s.mem ∧
    (State.portPop k x1 s).2.life.otp = s.life.otp := by
  unfold State.portPop
  split <;> simp
@[simp] theorem State.portLookup_kept (k : Nat) (p : Port) (s : State) :
    (State.portLookup k p s).2.pending = s.pending ∧ (State.portLookup k p s).2.mem = s.mem ∧
    (State.portLookup k p s).2.life.otp = s.life.otp := by
  unfold State.portLookup
  have h := State.queueRead_kept s k (p.addr + (s.queue k).half * s.entries k) 0
  generalize s.queueRead k (p.addr + (s.queue k).half * s.entries k) 0 = x at h ⊢
  obtain ⟨⟨v, ce, ue⟩, t⟩ := x
  simp only at h ⊢
  split
  · simp
  · simp [h]
@[simp] theorem State.portHist_kept (k : Nat) (p : Port) (s : State) :
    (State.portHist k p s).2.pending = s.pending ∧ (State.portHist k p s).2.mem = s.mem ∧
    (State.portHist k p s).2.life.otp = s.life.otp := by
  simp only [State.portHist]
  repeat' split
  all_goals simp
@[simp] theorem State.readIndex_kept (s : State) (q : Nat) (f : Nat) :
    (State.readIndex s q f).pending = s.pending ∧ (State.readIndex s q f).mem = s.mem ∧
    (State.readIndex s q f).life.otp = s.life.otp := by
  simp only [State.readIndex]
  repeat' (first | split | simp)
@[simp] theorem State.portReadout_kept (k : Nat) (p : Port) (s : State) :
    (State.portReadout k p s).2.pending = s.pending ∧ (State.portReadout k p s).2.mem = s.mem ∧
    (State.portReadout k p s).2.life.otp = s.life.otp := by
  simp only [State.portReadout]
  repeat' split
  all_goals simp
@[simp] theorem State.removeHead_kept (s : State) (k : Nat) :
    (State.removeHead s k).pending = s.pending ∧ (State.removeHead s k).mem = s.mem ∧
    (State.removeHead s k).life.otp = s.life.otp := by
  simp [State.removeHead]
@[simp] theorem State.commitPop_kept (s : State) (k : Nat) (captured : Bool) :
    (State.commitPop s k captured).pending = s.pending ∧ (State.commitPop s k captured).mem = s.mem ∧
    (State.commitPop s k captured).life.otp = s.life.otp := by
  unfold State.commitPop
  split <;> simp
@[simp] theorem State.presentTee_kept (s : State) (k : Nat) (n : Nat) :
    (State.presentTee s k n).pending = s.pending ∧ (State.presentTee s k n).mem = s.mem ∧
    (State.presentTee s k n).life.otp = s.life.otp := by
  simp only [State.presentTee]
  repeat' (first | split | simp)
@[simp] theorem State.portEdge_kept (s : State) (k : Nat) (t : State) :
    (State.portEdge s k t).pending = t.pending ∧ (State.portEdge s k t).mem = t.mem ∧
    (State.portEdge s k t).life.otp = t.life.otp := by
  simp only [State.portEdge]
  repeat' (first | split | simp)
@[simp] theorem State.send_kept (s : State) (p : Packet) :
    (State.send s p).pending = s.pending ∧ (State.send s p).mem = s.mem ∧ (State.send s p).life.otp = s.life.otp := ⟨rfl, rfl, rfl⟩
@[simp] theorem State.respond_kept (s : State) (who : Nat) (p : Packet) (status : Nat) (data : Nat) :
    (State.respond s who p status data).pending = s.pending ∧ (State.respond s who p status data).mem = s.mem ∧
    (State.respond s who p status data).life.otp = s.life.otp := ⟨rfl, rfl, rfl⟩
@[simp] theorem State.takeTag_kept (s : State) (n tag : Nat) :
    (s.takeTag n tag).pending = s.pending ∧ (s.takeTag n tag).mem = s.mem ∧ (s.takeTag n tag).life.otp = s.life.otp := by
  simp [State.takeTag]
@[simp] theorem State.badRequest_kept (s : State) (n : Nat) (p : Packet) :
    (s.badRequest n p).pending = s.pending ∧ (s.badRequest n p).mem = s.mem ∧ (s.badRequest n p).life.otp = s.life.otp := by
  unfold State.badRequest; split <;> simp
@[simp] theorem State.ringRead_kept (s : State) (r d w : Nat) :
    ((s.ringRead r d w).2).pending = s.pending ∧ ((s.ringRead r d w).2).mem = s.mem ∧ ((s.ringRead r d w).2).life.otp = s.life.otp := by
  unfold State.ringRead
  have h := State.readWord_kept s (ringBlock r d) w
  generalize s.readWord (ringBlock r d) w = x at h ⊢
  obtain ⟨⟨v, ce, ue⟩, t⟩ := x
  dsimp only at h ⊢
  split <;> simp [h]
@[simp] theorem State.setHop_kept (s : State) (k i : Nat) (f : Hop → Hop) :
    (s.setHop k i f).pending = s.pending ∧ (s.setHop k i f).mem = s.mem ∧ (s.setHop k i f).life.otp = s.life.otp := by
  simp [State.setHop]
@[simp] theorem State.setServed_kept (s : State) (key v : Nat) :
    (s.setServed key v).pending = s.pending ∧ (s.setServed key v).mem = s.mem ∧ (s.setServed key v).life.otp = s.life.otp := by
  simp [State.setServed]
@[simp] theorem State.dropAt_kept (s : State) (c : Cand) :
    (s.dropAt c).pending = s.pending ∧ (s.dropAt c).mem = s.mem ∧ (s.dropAt c).life.otp = s.life.otp := by
  simp only [State.dropAt]
  split <;> simp
@[simp] theorem State.dropDead_kept (s : State)  :
    (s.dropDead).pending = s.pending ∧ (s.dropDead).mem = s.mem ∧ (s.dropDead).life.otp = s.life.otp := by
  unfold State.dropDead
  exact foldl_kept _ (fun t c => by simp) _ _
@[simp] theorem State.grantHead_kept (s : State) (l : List Cand) (c : Cand) :
    (s.grantHead l c).pending = s.pending ∧ (s.grantHead l c).mem = s.mem ∧ (s.grantHead l c).life.otp = s.life.otp := by
  simp only [State.grantHead]
  split
  · simp
  · split <;> simp
@[simp] theorem State.grantHeads_kept (s : State)  :
    (s.grantHeads).pending = s.pending ∧ (s.grantHeads).mem = s.mem ∧ (s.grantHeads).life.otp = s.life.otp := by
  unfold State.grantHeads
  exact foldl_kept _ (fun t c => by simp) _ _
@[simp] theorem State.moveFlit_kept (s : State) (c : Cand) :
    (s.moveFlit c).pending = s.pending ∧ (s.moveFlit c).mem = s.mem ∧ (s.moveFlit c).life.otp = s.life.otp := by
  simp only [State.moveFlit]
  repeat' split
  all_goals simp
@[simp] theorem State.sendFrom_kept (s : State) (x o : Nat) (ready : List (Cand × Bool)) :
    (s.sendFrom x o ready).pending = s.pending ∧ (s.sendFrom x o ready).mem = s.mem ∧ (s.sendFrom x o ready).life.otp = s.life.otp := by
  simp only [State.sendFrom]
  repeat' split
  all_goals simp
@[simp] theorem State.ageFlit_kept (s : State) (c : Cand) :
    (s.ageFlit c).pending = s.pending ∧ (s.ageFlit c).mem = s.mem ∧ (s.ageFlit c).life.otp = s.life.otp := by
  simp only [State.ageFlit]
  split <;> simp
@[simp] theorem State.sendFlits_kept (s : State)  :
    (s.sendFlits).pending = s.pending ∧ (s.sendFlits).mem = s.mem ∧ (s.sendFlits).life.otp = s.life.otp := by
  unfold State.sendFlits
  have h := foldl_kept (fun t x => State.sendFrom t x.1 x.2 ((s.cands.filter (fun c => c.h.holds && c.ready s.noc.cyc)).map (fun c => (c, s.credit c))))
    (fun t x => by simp) (((s.cands.filter (fun c => c.h.holds && c.ready s.noc.cyc)).map (fun c => (c.h.router, c.h.out))).eraseDups)
    ((s.cands.filter (fun c => c.h.holds && c.ready s.noc.cyc)).foldl State.ageFlit s)
  have g := foldl_kept State.ageFlit (fun t x => by simp) (s.cands.filter (fun c => c.h.holds && c.ready s.noc.cyc)) s
  exact ⟨h.1.trans g.1, h.2.1.trans g.2.1, h.2.2.trans g.2.2⟩
@[simp] theorem State.injectFrom_kept (s : State) (n : Nat) :
    (s.injectFrom n).pending = s.pending ∧ (s.injectFrom n).mem = s.mem ∧ (s.injectFrom n).life.otp = s.life.otp := by
  simp only [State.injectFrom]
  repeat' split
  all_goals simp
@[simp] theorem State.injectFlits_kept (s : State)  :
    (s.injectFlits).pending = s.pending ∧ (s.injectFlits).mem = s.mem ∧ (s.injectFlits).life.otp = s.life.otp := by
  unfold State.injectFlits
  exact foldl_kept _ (fun t c => by simp) _ _
@[simp] theorem State.netCycle_kept (s : State)  :
    (s.netCycle).pending = s.pending ∧ (s.netCycle).mem = s.mem ∧ (s.netCycle).life.otp = s.life.otp := by
  simp [State.netCycle]
@[simp] theorem State.runNet_kept (stop : State → Bool) (n : Nat) (s : State) :
    (State.runNet stop n s).pending = s.pending ∧ (State.runNet stop n s).mem = s.mem ∧
    (State.runNet stop n s).life.otp = s.life.otp := by
  induction n generalizing s with
  | zero => simp [State.runNet]
  | succ n ih => simp only [State.runNet]; split <;> simp [ih]
@[simp] theorem State.carry_kept (s : State) (src dst v : Nat) :
    (s.carry src dst v).pending = s.pending ∧ (s.carry src dst v).mem = s.mem ∧ (s.carry src dst v).life.otp = s.life.otp := by
  simp [State.carry]
@[simp] theorem State.countSunk_kept (s : State) (n : Nat) :
    (s.countSunk n).pending = s.pending ∧ (s.countSunk n).mem = s.mem ∧ (s.countSunk n).life.otp = s.life.otp := by
  simp [State.countSunk]
@[simp] theorem State.inject_kept (s : State) (n : Nat) (hdr : BitVec 256) (data : List DWord) :
    (State.inject s n hdr data).pending = s.pending ∧ (State.inject s n hdr data).mem = s.mem ∧
    (State.inject s n hdr data).life.otp = s.life.otp := by
  simp only [State.inject]
  repeat' split
  all_goals simp
@[simp] theorem State.takePacket_kept (s : State) (src : Nat) (dst : Nat) (v : Nat) :
    (State.takePacket s src dst v).pending = s.pending ∧ (State.takePacket s src dst v).mem = s.mem ∧
    (State.takePacket s src dst v).life.otp = s.life.otp := ⟨rfl, rfl, rfl⟩
theorem deliver_kept (s : State) (src dst v : Nat) (f : Packet → State → State) (h : ∀ p t, (f p t).pending = t.pending ∧ (f p t).mem = t.mem ∧ (f p t).life.otp = t.life.otp) :
    (s.deliver src dst v f).pending = s.pending ∧ (s.deliver src dst v f).mem = s.mem ∧
    (s.deliver src dst v f).life.otp = s.life.otp := by
  simp only [State.deliver]
  split <;> simp [h]
theorem deliver_potp (s : State) (src dst v : Nat) (f : Packet → State → State) (h : ∀ p t, (f p t).pending = t.pending ∧ (f p t).life.otp = t.life.otp) :
    (s.deliver src dst v f).pending = s.pending ∧ (s.deliver src dst v f).life.otp = s.life.otp := by
  simp only [State.deliver]
  split <;> simp [h]
theorem deliver_wf (s : State) (src dst v : Nat) (f : Packet → State → State) (h : ∀ p t, Memory.wf t.mem = true → Memory.wf (f p t).mem = true) (hs : Memory.wf s.mem = true) :
    Memory.wf (s.deliver src dst v f).mem = true := by
  simp only [State.deliver]
  split
  · exact h _ _ (by simp [hs])
  · simp [hs]
@[simp] theorem State.epDisc_kept (s : State) (r : Nat) :
    (State.epDisc s r).pending = s.pending ∧ (State.epDisc s r).mem = s.mem ∧
    (State.epDisc s r).life.otp = s.life.otp := ⟨rfl, rfl, rfl⟩
@[simp] theorem State.putRing_potp (s : State) (r : Nat) (d : Nat) (w : Nat) (v : Nat) :
    (State.putRing s r d w v).pending = s.pending ∧ (State.putRing s r d w v).life.otp = s.life.otp := by
  simp [State.putRing]
@[simp] theorem State.putRing_wf (s : State) (r : Nat) (d : Nat) (w : Nat) (v : Nat) (h : Memory.wf s.mem = true) :
    Memory.wf (State.putRing s r d w v).mem = true := by
  simp [State.putRing, h]
@[simp] theorem State.putEntry_potp (s : State) (r : Nat) (d : Nat) (x3 : Nat) (x4 : List Nat) :
    (State.putEntry s r d x3 x4).pending = s.pending ∧ (State.putEntry s r d x3 x4).life.otp = s.life.otp := by
  induction x4 generalizing s x3 with
  | nil => simp [State.putEntry]
  | cons v vs ih => simp [State.putEntry, ih]
@[simp] theorem State.putEntry_wf (s : State) (r : Nat) (d : Nat) (x3 : Nat) (x4 : List Nat) (h : Memory.wf s.mem = true) :
    Memory.wf (State.putEntry s r d x3 x4).mem = true := by
  induction x4 generalizing s x3 with
  | nil => simp [State.putEntry, h]
  | cons v vs ih => simp only [State.putEntry]; exact ih _ _ (by simp [h])
@[simp] theorem State.putPacket_potp (s : State) (r d wr : Nat) (e : List Nat) :
    (s.putPacket r d wr e).pending = s.pending ∧ (s.putPacket r d wr e).life.otp = s.life.otp := by
  simp [State.putPacket]
@[simp] theorem State.putPacket_wf (s : State) (r d wr : Nat) (e : List Nat) (hs : Memory.wf s.mem = true) :
    Memory.wf (s.putPacket r d wr e).mem = true := by
  simp [State.putPacket, hs]
@[simp] theorem State.readEntry_kept (s : State) (r d o n : Nat) :
    ((s.readEntry r d o n).2).pending = s.pending ∧ ((s.readEntry r d o n).2).mem = s.mem ∧ ((s.readEntry r d o n).2).life.otp = s.life.otp := by
  induction n generalizing s o with
  | zero => simp [State.readEntry]
  | succ n ih => simp [State.readEntry, ih]
@[simp] theorem State.rxPacket_potp (s : State) (r : Nat) (p : Packet) :
    (State.rxPacket s r p).pending = s.pending ∧ (State.rxPacket s r p).life.otp = s.life.otp := by
  simp only [State.rxPacket]
  repeat' split
  all_goals simp
@[simp] theorem State.rxPacket_wf (s : State) (r : Nat) (p : Packet) (h : Memory.wf s.mem = true) :
    Memory.wf (State.rxPacket s r p).mem = true := by
  simp only [State.rxPacket]
  repeat' split
  all_goals simp [h]
@[simp] theorem State.rxResponse_potp (s : State) (r : Nat) (tag : Nat) (status : Nat) (data : Nat) :
    (State.rxResponse s r tag status data).pending = s.pending ∧
    (State.rxResponse s r tag status data).life.otp = s.life.otp := by
  simp [State.rxResponse]
@[simp] theorem State.rxResponse_wf (s : State) (r : Nat) (tag : Nat) (status : Nat) (data : Nat) (h : Memory.wf s.mem = true) :
    Memory.wf (State.rxResponse s r tag status data).mem = true := by
  simp [State.rxResponse, h]
@[simp] theorem State.ringLook_kept (s : State) (r : Nat) :
    (State.ringLook s r).pending = s.pending ∧ (State.ringLook s r).mem = s.mem ∧
    (State.ringLook s r).life.otp = s.life.otp := by
  simp [State.ringLook]
@[simp] theorem State.bulkRegion_potp (s : State) (src dst r : Nat) :
    (s.bulkRegion src dst r).pending = s.pending ∧ (s.bulkRegion src dst r).life.otp = s.life.otp := by
  simp only [State.bulkRegion]
  repeat' split
  all_goals simp
@[simp] theorem State.bulkRegion_wf (s : State) (src dst r : Nat) (hs : Memory.wf s.mem = true) :
    Memory.wf (s.bulkRegion src dst r).mem = true := by
  simp only [State.bulkRegion]
  repeat' split
  all_goals simp [hs]
@[simp] theorem State.sinkResponse_potp (s : State) (dst : Nat) (p : Packet) :
    (s.sinkResponse dst p).pending = s.pending ∧ (s.sinkResponse dst p).life.otp = s.life.otp := by
  simp only [State.sinkResponse]
  repeat' split
  all_goals simp
@[simp] theorem State.sinkResponse_wf (s : State) (dst : Nat) (p : Packet) (hs : Memory.wf s.mem = true) :
    Memory.wf (s.sinkResponse dst p).mem = true := by
  simp only [State.sinkResponse]
  repeat' split
  all_goals simp [hs]
@[simp] theorem State.bulkData_potp (s : State) (src : Nat) (dst : Nat) :
    (State.bulkData s src dst).pending = s.pending ∧ (State.bulkData s src dst).life.otp = s.life.otp := by
  unfold State.bulkData
  split
  · simp
  · simp
  · exact deliver_potp _ _ _ _ _ (fun p t => by split <;> simp)
@[simp] theorem State.bulkData_wf (s : State) (src : Nat) (dst : Nat) (h : Memory.wf s.mem = true) :
    Memory.wf (State.bulkData s src dst).mem = true := by
  unfold State.bulkData
  split
  · exact h
  · simp [h]
  · exact deliver_wf _ _ _ _ _ (fun p t ht => by split <;> simp [ht]) h
@[simp] theorem State.csrResponse_potp (s : State) (src dst : Nat) :
    (s.csrResponse src dst).pending = s.pending ∧ (s.csrResponse src dst).life.otp = s.life.otp := by
  exact deliver_potp _ _ _ _ _ (fun p t => by simp)
@[simp] theorem State.csrResponse_wf (s : State) (src dst : Nat) (h : Memory.wf s.mem = true) :
    Memory.wf (s.csrResponse src dst).mem = true := by
  exact deliver_wf _ _ _ _ _ (fun p t ht => by simp [ht]) h
@[simp] theorem State.csrTimeout_potp (s : State) (node : Nat) (tag : Nat) :
    (State.csrTimeout s node tag).pending = s.pending ∧ (State.csrTimeout s node tag).life.otp = s.life.otp := by
  simp only [State.csrTimeout]
  split
  · split <;> simp
  · simp
@[simp] theorem State.csrTimeout_wf (s : State) (node : Nat) (tag : Nat) (h : Memory.wf s.mem = true) :
    Memory.wf (State.csrTimeout s node tag).mem = true := by
  simp only [State.csrTimeout]
  split
  · split <;> simp [h]
  · exact h
@[simp] theorem State.flush_kept (s : State) (n : Nat) :
    (s.flush n).pending = s.pending ∧ (s.flush n).mem = s.mem ∧ (s.flush n).life.otp = s.life.otp := by
  simp [State.flush]
@[simp] theorem State.txSend_potp (s : State) (r d rd : Nat) (hdr : BitVec 256) :
    (s.txSend r d rd hdr).pending = s.pending ∧ (s.txSend r d rd hdr).life.otp = s.life.otp := by
  simp only [State.txSend]
  split <;> simp
@[simp] theorem State.txEntry_potp (s : State) (r d rd : Nat) :
    (s.txEntry r d rd).pending = s.pending ∧ (s.txEntry r d rd).life.otp = s.life.otp := by
  simp [State.txEntry]
@[simp] theorem State.txSend_wf (s : State) (r d rd : Nat) (hdr : BitVec 256) (hs : Memory.wf s.mem = true) :
    Memory.wf (s.txSend r d rd hdr).mem = true := by
  simp only [State.txSend]
  split <;> simp [hs]
@[simp] theorem State.txEntry_wf (s : State) (r d rd : Nat) (hs : Memory.wf s.mem = true) :
    Memory.wf (s.txEntry r d rd).mem = true := by
  simp [State.txEntry, hs]
@[simp] theorem State.txPoll_potp (s : State) (r : Nat) :
    (State.txPoll s r).pending = s.pending ∧ (State.txPoll s r).life.otp = s.life.otp := by
  simp only [State.txPoll]
  repeat' split
  all_goals simp
@[simp] theorem State.txPoll_wf (s : State) (r : Nat) (h : Memory.wf s.mem = true) :
    Memory.wf (State.txPoll s r).mem = true := by
  simp only [State.txPoll]
  repeat' split
  all_goals simp [h]
@[simp] theorem State.traceSent_kept (s : State) (n : Nat) :
    (s.traceSent n).pending = s.pending ∧ (s.traceSent n).mem = s.mem ∧ (s.traceSent n).life.otp = s.life.otp := ⟨rfl, rfl, rfl⟩
@[simp] theorem State.filterMatch_kept (s : State) (n f oport hdr : Nat) (r : Bool) :
    (s.filterMatch n f oport hdr r).pending = s.pending ∧ (s.filterMatch n f oport hdr r).mem = s.mem ∧ (s.filterMatch n f oport hdr r).life.otp = s.life.otp := by
  simp only [State.filterMatch]
  repeat' split
  all_goals simp
@[simp] theorem State.slackEnter_kept (s : State) (n : Nat) :
    (State.slackEnter s n).pending = s.pending ∧ (State.slackEnter s n).mem = s.mem ∧
    (State.slackEnter s n).life.otp = s.life.otp := by
  simp [State.slackEnter]
@[simp] theorem State.drain_kept (s : State) (n : Nat) :
    (s.drain n).pending = s.pending ∧ (s.drain n).mem = s.mem ∧ (s.drain n).life.otp = s.life.otp := by
  simp [State.drain]
@[simp] theorem State.fromOldest_kept (s : State) (n : Nat) :
    (s.fromOldest n).pending = s.pending ∧ (s.fromOldest n).mem = s.mem ∧ (s.fromOldest n).life.otp = s.life.otp := by
  unfold State.fromOldest
  exact foldl_kept _ (fun t c => by simp) _ _
@[simp] theorem State.slackDrained_kept (s : State) (n : Nat) (d : Nat) :
    (State.slackDrained s n d).pending = s.pending ∧ (State.slackDrained s n d).mem = s.mem ∧
    (State.slackDrained s n d).life.otp = s.life.otp := by
  simp only [State.slackDrained]
  repeat' split
  all_goals simp
@[simp] theorem State.slackEnd_kept (s : State) (n : Nat) (len : Nat) :
    (State.slackEnd s n len).pending = s.pending ∧ (State.slackEnd s n len).mem = s.mem ∧
    (State.slackEnd s n len).life.otp = s.life.otp := by
  simp only [State.slackEnd]
  repeat' split
  all_goals simp
@[simp] theorem State.slackAbort_kept (s : State) (n : Nat) :
    (State.slackAbort s n).pending = s.pending ∧ (State.slackAbort s n).mem = s.mem ∧
    (State.slackAbort s n).life.otp = s.life.otp := by
  simp only [State.slackAbort]
  repeat' split
  all_goals simp
@[simp] theorem State.clrRouterCnt_kept (s : State) (n : Nat) :
    (State.clrRouterCnt s n).pending = s.pending ∧ (State.clrRouterCnt s n).mem = s.mem ∧
    (State.clrRouterCnt s n).life.otp = s.life.otp := by
  simp [State.clrRouterCnt]
@[simp] theorem State.readWords_kept (s : State) (q : Nat) (o : Nat) (x3 : Nat) :
    (State.readWords s q o x3).2.pending = s.pending ∧ (State.readWords s q o x3).2.mem = s.mem ∧
    (State.readWords s q o x3).2.life.otp = s.life.otp := by
  induction x3 generalizing s o with
  | zero => simp [State.readWords]
  | succ n ih =>
    unfold State.readWords
    have h := State.queueRead_kept s q (o % s.wq q) 1
    generalize s.queueRead q (o % s.wq q) 1 = x at h ⊢
    obtain ⟨⟨v, ce, ue⟩, t⟩ := x
    have h2 := ih t (o + 1)
    simp only at h ⊢
    generalize t.readWords q (o + 1) n = y at h2 ⊢
    obtain ⟨⟨vs, u, c⟩, t2⟩ := y
    simp only at h2 ⊢
    simp [h2, h]
@[simp] theorem State.sendRecord_kept (s : State) (q : Nat) (dest : Nat) (lane : Nat) (fr : Nat) (kind : Nat) (data : List Nat) (sent : Nat) (expired : Bool) (trunc : Bool) (ue : Bool) (ce : Bool) :
    (State.sendRecord s q dest lane fr kind data sent expired trunc ue ce).pending = s.pending ∧
    (State.sendRecord s q dest lane fr kind data sent expired trunc ue ce).mem = s.mem ∧
    (State.sendRecord s q dest lane fr kind data sent expired trunc ue ce).life.otp = s.life.otp := by
  simp [State.sendRecord]
@[simp] theorem State.sendWords_kept (s : State) (q o n dest lane fr kind : Nat) (trunc : Bool) :
    (s.sendWords q o n dest lane fr kind trunc).pending = s.pending ∧
    (s.sendWords q o n dest lane fr kind trunc).mem = s.mem ∧
    (s.sendWords q o n dest lane fr kind trunc).life.otp = s.life.otp := by
  unfold State.sendWords
  have hk := State.readWords_kept s q o n
  generalize s.readWords q o n = x at hk ⊢
  obtain ⟨⟨v, ue, ce⟩, t⟩ := x
  simp only at hk ⊢
  simp [hk]
@[simp] theorem State.clearBins_potp (s : State) (q b n : Nat) :
    (s.clearBins q b n).pending = s.pending ∧ (s.clearBins q b n).life.otp = s.life.otp := by
  unfold State.clearBins
  exact forAll_potp _ _ (fun k t => by simp) _
@[simp] theorem State.clearBins_wf (s : State) (q b n : Nat) (h : Memory.wf s.mem = true) :
    Memory.wf (s.clearBins q b n).mem = true := by
  unfold State.clearBins
  exact forAll_wf _ _ (fun k t ht => by simp [ht]) _ h
@[simp] theorem State.sendBins_potp (s : State) (q b n dest lane fr : Nat) (clear : Bool) :
    (s.sendBins q b n dest lane fr clear).pending = s.pending ∧
    (s.sendBins q b n dest lane fr clear).life.otp = s.life.otp := by
  unfold State.sendBins
  have hk := State.readWords_kept s q (4096 * b) n
  generalize s.readWords q (4096 * b) n = x at hk ⊢
  obtain ⟨⟨v, ue, ce⟩, t⟩ := x
  simp only at hk ⊢
  split <;> simp [hk]
@[simp] theorem State.sendBins_wf (s : State) (q b n dest lane fr : Nat) (clear : Bool) (h : Memory.wf s.mem = true) :
    Memory.wf (s.sendBins q b n dest lane fr clear).mem = true := by
  unfold State.sendBins
  have hk := State.readWords_kept s q (4096 * b) n
  generalize s.readWords q (4096 * b) n = x at hk ⊢
  obtain ⟨⟨v, ue, ce⟩, t⟩ := x
  simp only at hk ⊢
  split <;> simp [hk, h]
@[simp] theorem State.sendNext_potp (s : State) (q : Nat) :
    (s.sendNext q).pending = s.pending ∧ (s.sendNext q).life.otp = s.life.otp := by
  simp only [State.sendNext]
  repeat' split
  all_goals simp
@[simp] theorem State.sendNext_wf (s : State) (q : Nat) (hs : Memory.wf s.mem = true) :
    Memory.wf (s.sendNext q).mem = true := by
  simp only [State.sendNext]
  repeat' split
  all_goals simp [hs]
@[simp] theorem State.leave_kept (s : State) (q : Nat) :
    (State.leave s q).pending = s.pending ∧ (State.leave s q).mem = s.mem ∧
    (State.leave s q).life.otp = s.life.otp := by
  simp [State.leave]
@[simp] theorem State.sendReadout_potp (s : State) (q : Nat) :
    (s.sendReadout q).pending = s.pending ∧ (s.sendReadout q).life.otp = s.life.otp := by
  simp only [State.sendReadout]
  repeat' split
  all_goals simp
@[simp] theorem State.sendReadout_wf (s : State) (q : Nat) (h : Memory.wf s.mem = true) :
    Memory.wf (s.sendReadout q).mem = true := by
  simp only [State.sendReadout]
  repeat' split
  all_goals simp [h]
@[simp] theorem State.notePins_kept (s : State) :
    (State.notePins s).pending = s.pending ∧ (State.notePins s).mem = s.mem ∧
    (State.notePins s).life.otp = s.life.otp := ⟨rfl, rfl, rfl⟩
@[simp] theorem State.snapSafe_kept (s : State) :
    (State.snapSafe s).pending = s.pending ∧ (State.snapSafe s).mem = s.mem ∧
    (State.snapSafe s).life.otp = s.life.otp := by
  simp [State.snapSafe]
@[simp] theorem State.teeWord_kept (s : State) (n : Nat) (w : DWord) (ctrl : Bool) :
    (State.teeWord s n w ctrl).pending = s.pending ∧ (State.teeWord s n w ctrl).mem = s.mem ∧
    (State.teeWord s n w ctrl).life.otp = s.life.otp := by
  simp [State.teeWord]
@[simp] theorem State.laneBad_kept (s : State) (n : Nat) (w : DWord) (ctrl : Bool) :
    (State.laneBad s n w ctrl).pending = s.pending ∧ (State.laneBad s n w ctrl).mem = s.mem ∧
    (State.laneBad s n w ctrl).life.otp = s.life.otp := by
  unfold State.laneBad; split <;> simp
@[simp] theorem State.laneWord_kept (s : State) (n : Nat) (w : DWord) (ctrl : Bool) :
    (s.laneWord n w ctrl).pending = s.pending ∧ (s.laneWord n w ctrl).mem = s.mem ∧
    (s.laneWord n w ctrl).life.otp = s.life.otp := by
  unfold State.laneWord
  repeat' (first | split | simp)
@[simp] theorem State.laneAligned_kept (s : State) (n : Nat) (lat : Nat) :
    (State.laneAligned s n lat).pending = s.pending ∧ (State.laneAligned s n lat).mem = s.mem ∧
    (State.laneAligned s n lat).life.otp = s.life.otp := by
  simp [State.laneAligned]
@[simp] theorem State.laneLoss_kept (s : State) (n : Nat) :
    (State.laneLoss s n).pending = s.pending ∧ (State.laneLoss s n).mem = s.mem ∧
    (State.laneLoss s n).life.otp = s.life.otp := by
  simp [State.laneLoss]
@[simp] theorem State.clrLaneCnt_kept (s : State) (n : Nat) :
    (State.clrLaneCnt s n).pending = s.pending ∧ (State.clrLaneCnt s n).mem = s.mem ∧
    (State.clrLaneCnt s n).life.otp = s.life.otp := by
  simp [State.clrLaneCnt]
@[simp] theorem State.laneSlip_kept (s : State) (n : Nat) :
    (State.laneSlip s n).pending = s.pending ∧ (State.laneSlip s n).mem = s.mem ∧
    (State.laneSlip s n).life.otp = s.life.otp := by
  simp [State.laneSlip]
@[simp] theorem State.quadPacket_kept (s : State) (q : Nat) (p : Packet) :
    (State.quadPacket s q p).pending = s.pending ∧ (State.quadPacket s q p).mem = s.mem ∧
    (State.quadPacket s q p).life.otp = s.life.otp := by
  simp [State.quadPacket]
@[simp] theorem State.laneTransmit_kept (s : State) (src : Nat) (q : Nat) :
    (State.laneTransmit s src q).pending = s.pending ∧ (State.laneTransmit s src q).mem = s.mem ∧
    (State.laneTransmit s src q).life.otp = s.life.otp := by
  unfold State.laneTransmit
  exact deliver_kept _ _ _ _ _ (fun p t => by simp)
@[simp] theorem State.throttleSignal_kept (s : State) (n : Nat) :
    (State.throttleSignal s n).pending = s.pending ∧ (State.throttleSignal s n).mem = s.mem ∧
    (State.throttleSignal s n).life.otp = s.life.otp := by
  simp [State.throttleSignal]
@[simp] theorem State.commitQuad_kept (s : State) (q : Nat) (f : Nat) :
    (State.commitQuad s q f).pending = s.pending ∧ (State.commitQuad s q f).mem = s.mem ∧
    (State.commitQuad s q f).life.otp = s.life.otp := by
  simp [State.commitQuad]
@[simp] theorem State.disableLanes_kept (s : State) :
    (State.disableLanes s).pending = s.pending ∧ (State.disableLanes s).mem = s.mem ∧
    (State.disableLanes s).life.otp = s.life.otp := by
  simp [State.disableLanes]
@[simp] theorem State.setTap_kept (s : State) (t : Tap) :
    (State.setTap s t).pending = s.pending ∧ (State.setTap s t).mem = s.mem ∧
    (State.setTap s t).life.otp = s.life.otp := ⟨rfl, rfl, rfl⟩
@[simp] theorem State.sendZ_kept (s : State) (ports : List Nat) (o : ZOut) :
    (State.sendZ s ports o).pending = s.pending ∧ (State.sendZ s ports o).mem = s.mem ∧
    (State.sendZ s ports o).life.otp = s.life.otp := ⟨rfl, rfl, rfl⟩
@[simp] theorem State.sendMsg_kept (s : State) (ports : List Nat) (type : Nat) (flg : Nat) (dst : Nat) (payload : List Byte) :
    (State.sendMsg s ports type flg dst payload).pending = s.pending ∧
    (State.sendMsg s ports type flg dst payload).mem = s.mem ∧
    (State.sendMsg s ports type flg dst payload).life.otp = s.life.otp := ⟨rfl, rfl, rfl⟩
@[simp] theorem State.passOn_kept (s : State) (ports : List Nat) (type : Nat) (m : ZMsg) :
    (State.passOn s ports type m).pending = s.pending ∧ (State.passOn s ports type m).mem = s.mem ∧
    (State.passOn s ports type m).life.otp = s.life.otp := ⟨rfl, rfl, rfl⟩
@[simp] theorem State.sense_kept (s : State) (mv : Nat) :
    (State.sense s mv).pending = s.pending ∧ (State.sense s mv).mem = s.mem ∧
    (State.sense s mv).life.otp = s.life.otp := ⟨rfl, rfl, rfl⟩
@[simp] theorem State.burn_kept (s : State) (g : Nat) (v : Nat) :
    (State.burn s g v).pending = s.pending ∧ (State.burn s g v).mem = s.mem ∧
    (State.burn s g v).life.otp = s.life.otp := ⟨rfl, rfl, rfl⟩
@[simp] theorem State.burnCopy_pmem (s : State) (g : Nat) (c : Nat) (v : Nat) :
    (State.burnCopy s g c v).pending = s.pending ∧ (State.burnCopy s g c v).mem = s.mem := by
  simp [State.burnCopy]
@[simp] theorem State.burnCopy_wf (s : State) (g : Nat) (c : Nat) (v : Nat) (h : Memory.wf s.mem = true) :
    Memory.wf (State.burnCopy s g c v).mem = true := by
  simp [State.burnCopy, h]
@[simp] theorem State.takeScan_kept (s : State) (ir : TapIr) :
    (State.takeScan s ir).pending = s.pending ∧ (State.takeScan s ir).mem = s.mem ∧
    (State.takeScan s ir).life.otp = s.life.otp := by
  simp [State.takeScan]
@[simp] theorem State.overrun_kept (s : State) (m : Nat) :
    (State.overrun s m).pending = s.pending ∧ (State.overrun s m).mem = s.mem ∧
    (State.overrun s m).life.otp = s.life.otp := ⟨rfl, rfl, rfl⟩
@[simp] theorem State.ackMb_kept (s : State) (m : Nat) :
    (State.ackMb s m).pending = s.pending ∧ (State.ackMb s m).mem = s.mem ∧ (State.ackMb s m).life.otp = s.life.otp := by
  simp [State.ackMb]
@[simp] theorem State.ringMb_kept (s : State) (m : Nat) :
    (State.ringMb s m).pending = s.pending ∧ (State.ringMb s m).mem = s.mem ∧
    (State.ringMb s m).life.otp = s.life.otp := by
  simp [State.ringMb]
@[simp] theorem State.islFollows_kept (s : State) (m : Nat) :
    (s.islFollows m).pending = s.pending ∧ (s.islFollows m).mem = s.mem ∧ (s.islFollows m).life.otp = s.life.otp := by
  simp only [State.islFollows]; split <;> simp
@[simp] theorem State.clrLost_kept (s : State) (m : Nat) :
    (State.clrLost s m).pending = s.pending ∧ (State.clrLost s m).mem = s.mem ∧
    (State.clrLost s m).life.otp = s.life.otp := by
  unfold State.clrLost; split <;> simp
@[simp] theorem State.writeReq_kept (s : State) (m : Nat) (i : Nat) (v : Nat) :
    (State.writeReq s m i v).pending = s.pending ∧ (State.writeReq s m i v).mem = s.mem ∧
    (State.writeReq s m i v).life.otp = s.life.otp := by
  simp [State.writeReq]
@[simp] theorem State.writeRd_kept (s : State) (m : Nat) (rd : Nat) :
    (State.writeRd s m rd).pending = s.pending ∧ (State.writeRd s m rd).mem = s.mem ∧
    (State.writeRd s m rd).life.otp = s.life.otp := by
  simp [State.writeRd]
@[simp] theorem State.ageRequest_kept (s : State) (m : Nat) :
    (State.ageRequest s m).pending = s.pending ∧ (State.ageRequest s m).mem = s.mem ∧
    (State.ageRequest s m).life.otp = s.life.otp := by
  simp [State.ageRequest]
@[simp] theorem State.respondMb_kept (s : State) (m : Nat) (op : Nat) (tag : Nat) (status : Nat) (body : List Byte) :
    (State.respondMb s m op tag status body).pending = s.pending ∧
    (State.respondMb s m op tag status body).mem = s.mem ∧
    (State.respondMb s m op tag status body).life.otp = s.life.otp := by
  simp [State.respondMb]
@[simp] theorem State.reply_kept (s : State) (v : Service) (status : Nat) (body : List Byte) :
    (State.reply s v status body).pending = s.pending ∧ (State.reply s v status body).mem = s.mem ∧
    (State.reply s v status body).life.otp = s.life.otp := by
  simp [State.reply]
@[simp] theorem State.ok_kept (s : State) (v : Service) (body : List Byte) :
    (State.ok s v body).pending = s.pending ∧ (State.ok s v body).mem = s.mem ∧
    (State.ok s v body).life.otp = s.life.otp := by
  simp [State.ok]
@[simp] theorem State.err_kept (s : State) (v : Service) (status : Nat) (detail : Nat) :
    (State.err s v status detail).pending = s.pending ∧ (State.err s v status detail).mem = s.mem ∧
    (State.err s v status detail).life.otp = s.life.otp := by
  simp [State.err]
@[simp] theorem State.drainMb1_kept (s : State) :
    (State.drainMb1 s).pending = s.pending ∧ (State.drainMb1 s).mem = s.mem ∧
    (State.drainMb1 s).life.otp = s.life.otp := by
  simp [State.drainMb1]
@[simp] theorem State.postTo_kept (s : State) (m : Nat) (code : Nat) (len : Nat) (tag : Nat) (data : Nat) :
    (State.postTo s m code len tag data).pending = s.pending ∧ (State.postTo s m code len tag data).mem = s.mem ∧
    (State.postTo s m code len tag data).life.otp = s.life.otp := by
  simp [State.postTo]
@[simp] theorem State.postGeneral_kept (s : State) (code : Nat) (len : Nat) (data : Nat) :
    (State.postGeneral s code len data).pending = s.pending ∧ (State.postGeneral s code len data).mem = s.mem ∧
    (State.postGeneral s code len data).life.otp = s.life.otp := by
  simp [State.postGeneral]
@[simp] theorem State.showPend_kept (s : State) (r ctx : Nat) (cls : SwapClass) :
    (s.showPend r ctx cls).pending = s.pending ∧ (s.showPend r ctx cls).mem = s.mem ∧ (s.showPend r ctx cls).life.otp = s.life.otp := by
  simp [State.showPend]
@[simp] theorem State.pend_kept (s : State) (r : Nat) (ctx : Nat) (cls : SwapClass) (due : Nat) (grant : Nat) (step : Nat) (change : Option Nat) :
    (State.pend s r ctx cls due grant step change).pending = s.pending ∧
    (State.pend s r ctx cls due grant step change).mem = s.mem ∧
    (State.pend s r ctx cls due grant step change).life.otp = s.life.otp := by
  have h := foldl_kept (fun t k => t.showPend k ctx cls) (fun t k => by simp) (s.pairOf r) s
  simp only [State.pend]
  simp [h]
@[simp] theorem State.unpend_kept (s : State) (r : Nat) :
    (State.unpend s r).pending = s.pending ∧ (State.unpend s r).mem = s.mem ∧
    (State.unpend s r).life.otp = s.life.otp := ⟨rfl, rfl, rfl⟩
@[simp] theorem State.dropReq_kept (s : State) (r : Nat) :
    (State.dropReq s r).pending = s.pending ∧ (State.dropReq s r).mem = s.mem ∧
    (State.dropReq s r).life.otp = s.life.otp := ⟨rfl, rfl, rfl⟩
@[simp] theorem State.unpendAll_kept (s : State) (r : Nat) :
    (s.unpendAll r).pending = s.pending ∧ (s.unpendAll r).mem = s.mem ∧ (s.unpendAll r).life.otp = s.life.otp := by
  unfold State.unpendAll
  exact foldl_kept _ (fun t k => by simp) _ _
@[simp] theorem State.dropPendingReq_kept (s : State) (r : Nat) :
    (State.dropPendingReq s r).pending = s.pending ∧ (State.dropPendingReq s r).mem = s.mem ∧
    (State.dropPendingReq s r).life.otp = s.life.otp := by
  simp [State.dropPendingReq]
@[simp] theorem State.setStep_kept (s : State) (r : Nat) (j : Nat) (h : Nat) :
    (State.setStep s r j h).pending = s.pending ∧ (State.setStep s r j h).mem = s.mem ∧
    (State.setStep s r j h).life.otp = s.life.otp := ⟨rfl, rfl, rfl⟩
@[simp] theorem State.startStep_kept (s : State) (r : Nat) (j : Nat) (due : Nat) (grant : Nat) (change : Option Nat) :
    (State.startStep s r j due grant change).pending = s.pending ∧
    (State.startStep s r j due grant change).mem = s.mem ∧
    (State.startStep s r j due grant change).life.otp = s.life.otp := by
  simp [State.startStep]
@[simp] theorem State.dropUnloaded_kept (s : State)  :
    (s.dropUnloaded).pending = s.pending ∧ (s.dropUnloaded).mem = s.mem ∧ (s.dropUnloaded).life.otp = s.life.otp := by
  unfold State.dropUnloaded
  exact forAll_kept _ _ (fun k t => by split <;> simp) _
@[simp] theorem State.tickSchedule_kept (r : Nat) (s : State) :
    (State.tickSchedule r s).pending = s.pending ∧ (State.tickSchedule r s).mem = s.mem ∧
    (State.tickSchedule r s).life.otp = s.life.otp := by
  simp [State.tickSchedule]
@[simp] theorem State.scheduledSwap_kept (s : State) (r : Nat) :
    (State.scheduledSwap s r).pending = s.pending ∧ (State.scheduledSwap s r).mem = s.mem ∧
    (State.scheduledSwap s r).life.otp = s.life.otp := by
  simp [State.scheduledSwap]
@[simp] theorem State.fabricRequest_kept (s : State) (r : Nat) :
    (State.fabricRequest s r).pending = s.pending ∧ (State.fabricRequest s r).mem = s.mem ∧
    (State.fabricRequest s r).life.otp = s.life.otp := by
  simp [State.fabricRequest]
@[simp] theorem State.reportSwap_kept (s : State) (id : Option Nat) (n : Nat) :
    (State.reportSwap s id n).pending = s.pending ∧ (State.reportSwap s id n).mem = s.mem ∧
    (State.reportSwap s id n).life.otp = s.life.otp := by
  unfold State.reportSwap
  split <;> simp
@[simp] theorem State.enterContext_kept (s : State) (r : Nat) (ctx : Nat) :
    (State.enterContext s r ctx).pending = s.pending ∧ (State.enterContext s r ctx).mem = s.mem ∧
    (State.enterContext s r ctx).life.otp = s.life.otp := by
  simp [State.enterContext]
@[simp] theorem State.grant_kept (s : State) (r : Nat) (l : List Nat) :
    (State.grant s r l).pending = s.pending ∧ (State.grant s r l).mem = s.mem ∧ (State.grant s r l).life.otp = s.life.otp := by
  simp only [State.grant]
  repeat' (first | split | simp)
@[simp] theorem State.swap_kept (s : State) :
    (State.swap s).pending = s.pending ∧ (State.swap s).mem = s.mem ∧ (State.swap s).life.otp = s.life.otp := by
  have := foldl_kept (fun t (x : Nat × List Nat) => t.grant x.1 x.2) (fun t x => State.grant_kept t x.1 x.2)
    (s.granted.map (fun r => (r, s.pairOf r))) s
  simp [State.swap, this]
@[simp] theorem State.setChain_kept (s : State) (c : Chain) :
    (State.setChain s c).pending = s.pending ∧ (State.setChain s c).mem = s.mem ∧
    (State.setChain s c).life.otp = s.life.otp := ⟨rfl, rfl, rfl⟩
theorem zmsg_kept (s : State) (p : Nat) (m : ZMsg) (f : State → State) (h : ∀ t, (f t).pending = t.pending ∧ (f t).mem = t.mem ∧ (f t).life.otp = t.life.otp) :
    (s.zmsg p m f).pending = s.pending ∧ (s.zmsg p m f).mem = s.mem ∧ (s.zmsg p m f).life.otp = s.life.otp := by
  unfold State.zmsg
  split
  · simp [h]
  · split <;> simp
theorem zmsg_potp (s : State) (p : Nat) (m : ZMsg) (f : State → State) (h : ∀ t, (f t).pending = t.pending ∧ (f t).life.otp = t.life.otp) :
    (s.zmsg p m f).pending = s.pending ∧ (s.zmsg p m f).life.otp = s.life.otp := by
  unfold State.zmsg
  split
  · simp [h]
  · split <;> simp
theorem zmsg_wf (s : State) (p : Nat) (m : ZMsg) (f : State → State) (h : ∀ t, Memory.wf t.mem = true → Memory.wf (f t).mem = true) (hs : Memory.wf s.mem = true) :
    Memory.wf (s.zmsg p m f).mem = true := by
  unfold State.zmsg
  split
  · exact h _ hs
  · split <;> simp [hs]
@[simp] theorem State.headRecord_kept (s : State) (r : FRep) :
    (State.headRecord s r).pending = s.pending ∧ (State.headRecord s r).mem = s.mem ∧
    (State.headRecord s r).life.otp = s.life.otp := by
  simp only [State.headRecord]
  repeat' (first | split | simp)
@[simp] theorem State.enterFault_kept (s : State) (origin : Nat) (code : Nat) (conseq : Bool) :
    (State.enterFault s origin code conseq).pending = s.pending ∧
    (State.enterFault s origin code conseq).mem = s.mem ∧
    (State.enterFault s origin code conseq).life.otp = s.life.otp := ⟨rfl, rfl, rfl⟩
@[simp] theorem State.originate_kept (s : State) (r : FRep) :
    (State.originate s r).pending = s.pending ∧ (State.originate s r).mem = s.mem ∧
    (State.originate s r).life.otp = s.life.otp := by
  simp [State.originate]
@[simp] theorem State.selfReport_kept (s : State) (code : Nat) (detail : Nat) :
    (State.selfReport s code detail).pending = s.pending ∧ (State.selfReport s code detail).mem = s.mem ∧
    (State.selfReport s code detail).life.otp = s.life.otp := by
  simp [State.selfReport]
@[simp] theorem State.waitReport_kept (s : State) (r : FRep) :
    (State.waitReport s r).pending = s.pending ∧ (State.waitReport s r).mem = s.mem ∧
    (State.waitReport s r).life.otp = s.life.otp := ⟨rfl, rfl, rfl⟩
@[simp] theorem State.faultWait_kept (s : State) :
    (State.faultWait s).pending = s.pending ∧ (State.faultWait s).mem = s.mem ∧
    (State.faultWait s).life.otp = s.life.otp := by
  unfold State.faultWait
  split <;> simp
@[simp] theorem State.faultIn_kept (s : State) (p : Nat) (m : ZMsg) :
    (State.faultIn s p m).pending = s.pending ∧ (State.faultIn s p m).mem = s.mem ∧
    (State.faultIn s p m).life.otp = s.life.otp := by
  simp [State.faultIn]
@[simp] theorem State.sendCald_kept (s : State) :
    (State.sendCald s).pending = s.pending ∧ (State.sendCald s).mem = s.mem ∧
    (State.sendCald s).life.otp = s.life.otp := ⟨rfl, rfl, rfl⟩
@[simp] theorem State.writeOfs_kept (s : State) (d : Nat) :
    (State.writeOfs s d).pending = s.pending ∧ (State.writeOfs s d).mem = s.mem ∧
    (State.writeOfs s d).life.otp = s.life.otp := ⟨rfl, rfl, rfl⟩
@[simp] theorem State.takeDelay_kept (s : State) (p : Nat) :
    (State.takeDelay s p).pending = s.pending ∧ (State.takeDelay s p).mem = s.mem ∧
    (State.takeDelay s p).life.otp = s.life.otp := ⟨rfl, rfl, rfl⟩
@[simp] theorem State.writeLReq_kept (s : State) :
    (State.writeLReq s).pending = s.pending ∧ (State.writeLReq s).mem = s.mem ∧
    (State.writeLReq s).life.otp = s.life.otp := by
  simp [State.writeLReq]
@[simp] theorem State.caldAfter_kept (s old : State) :
    (s.caldAfter old).pending = s.pending ∧ (s.caldAfter old).mem = s.mem ∧ (s.caldAfter old).life.otp = s.life.otp := by
  unfold State.caldAfter; split <;> simp
@[simp] theorem State.calibrate_kept (s : State) (p : Nat) :
    (State.calibrate s p).pending = s.pending ∧ (State.calibrate s p).mem = s.mem ∧
    (State.calibrate s p).life.otp = s.life.otp := by
  simp [State.calibrate]
@[simp] theorem State.measure_kept (s : State) (p : Nat) :
    (State.measure s p).pending = s.pending ∧ (State.measure s p).mem = s.mem ∧
    (State.measure s p).life.otp = s.life.otp := by
  simp [State.measure]
@[simp] theorem State.echo_kept (s : State) (p : Nat) (rt : Nat) :
    (State.echo s p rt).pending = s.pending ∧ (State.echo s p rt).mem = s.mem ∧
    (State.echo s p rt).life.otp = s.life.otp := by
  simp [State.echo]
@[simp] theorem State.hop_kept (s : State) (n : Nat) (sum : Nat) (asym : Nat) :
    (State.hop s n sum asym).2.pending = s.pending ∧ (State.hop s n sum asym).2.mem = s.mem ∧
    (State.hop s n sum asym).2.life.otp = s.life.otp := by
  simp only [State.hop]
  repeat' (first | split | simp)
@[simp] theorem State.caldIn_kept (s : State) (p : Nat) (m : ZMsg) :
    (State.caldIn s p m).pending = s.pending ∧ (State.caldIn s p m).mem = s.mem ∧
    (State.caldIn s p m).life.otp = s.life.otp := by
  simp [State.caldIn]
@[simp] theorem State.setActive_kept (s : State) (up : Bool) (code : Nat) :
    (State.setActive s up code).pending = s.pending ∧ (State.setActive s up code).mem = s.mem ∧
    (State.setActive s up code).life.otp = s.life.otp := by
  simp [State.setActive]
@[simp] theorem State.bypassEvent_kept (s : State) :
    (State.bypassEvent s).pending = s.pending ∧ (State.bypassEvent s).mem = s.mem ∧
    (State.bypassEvent s).life.otp = s.life.otp := ⟨rfl, rfl, rfl⟩
@[simp] theorem State.switchUp_kept (s : State) (p : Nat) :
    (State.switchUp s p).pending = s.pending ∧ (State.switchUp s p).mem = s.mem ∧
    (State.switchUp s p).life.otp = s.life.otp := by
  simp only [State.switchUp]
  repeat' split
  all_goals simp
@[simp] theorem State.switchTo_kept (s : State) (up : Bool) (alt : Nat) :
    (State.switchTo s up alt).pending = s.pending ∧ (State.switchTo s up alt).mem = s.mem ∧
    (State.switchTo s up alt).life.otp = s.life.otp := by
  unfold State.switchTo
  split <;> simp
@[simp] theorem State.loseActive_kept (s : State) (up : Bool) :
    (State.loseActive s up).pending = s.pending ∧ (State.loseActive s up).mem = s.mem ∧
    (State.loseActive s up).life.otp = s.life.otp := by
  unfold State.loseActive
  split
  · simp
  · simp only []
    split <;> simp
@[simp] theorem State.slowActive_kept (s : State) (up : Bool) :
    (State.slowActive s up).pending = s.pending ∧ (State.slowActive s up).mem = s.mem ∧
    (State.slowActive s up).life.otp = s.life.otp := by
  unfold State.slowActive
  split <;> simp
@[simp] theorem State.activate_kept (s : State) (p : Nat) :
    (State.activate s p).pending = s.pending ∧ (State.activate s p).mem = s.mem ∧
    (State.activate s p).life.otp = s.life.otp := by
  simp [State.activate]
@[simp] theorem State.hopKnown_kept (s : State) (p : Nat) :
    (State.hopKnown s p).pending = s.pending ∧ (State.hopKnown s p).mem = s.mem ∧
    (State.hopKnown s p).life.otp = s.life.otp := by
  simp only [State.hopKnown]
  split <;> simp
@[simp] theorem State.calComplete_kept (s : State) (p : Nat) :
    (State.calComplete s p).pending = s.pending ∧ (State.calComplete s p).mem = s.mem ∧
    (State.calComplete s p).life.otp = s.life.otp := by
  unfold State.calComplete
  split
  · simp
  · next n sum _ =>
    split
    · simp
    · have h := State.hop_kept s n sum (s.fld (ZV p 0x14) 0 16)
      generalize s.hop n sum (s.fld (ZV p 0x14) 0 16) = x at h ⊢
      obtain ⟨a, t⟩ := x
      dsimp only at h ⊢
      repeat' split
      all_goals simp [h]
@[simp] theorem State.farUnit_kept (s : State) (p : Nat) :
    (State.farUnit s p).2.pending = s.pending ∧ (State.farUnit s p).2.mem = s.mem ∧
    (State.farUnit s p).2.life.otp = s.life.otp := by
  unfold State.farUnit
  split <;> simp
@[simp] theorem State.linkDown_kept (s : State) (p : Nat) :
    (State.linkDown s p).pending = s.pending ∧ (State.linkDown s p).mem = s.mem ∧
    (State.linkDown s p).life.otp = s.life.otp := by
  simp [State.linkDown]
@[simp] theorem State.linkUp_kept (s : State) (p : Nat) :
    (State.linkUp s p).pending = s.pending ∧ (State.linkUp s p).mem = s.mem ∧
    (State.linkUp s p).life.otp = s.life.otp := by
  simp [State.linkUp]
@[simp] theorem State.bypassReturn_kept (s : State) (up : Bool) :
    (State.bypassReturn s up).pending = s.pending ∧ (State.bypassReturn s up).mem = s.mem ∧
    (State.bypassReturn s up).life.otp = s.life.otp := by
  simp [State.bypassReturn]
@[simp] theorem State.recordSof_kept (s : State) (cyc : Nat) (param : Nat) :
    (State.recordSof s cyc param).pending = s.pending ∧ (State.recordSof s cyc param).mem = s.mem ∧
    (State.recordSof s cyc param).life.otp = s.life.otp := ⟨rfl, rfl, rfl⟩
@[simp] theorem State.sofIn_kept (s : State) (p : Nat) (param : Nat) (c : Nat) :
    (State.sofIn s p param c).pending = s.pending ∧ (State.sofIn s p param c).mem = s.mem ∧
    (State.sofIn s p param c).life.otp = s.life.otp := by
  simp [State.sofIn]
@[simp] theorem State.nbState_kept (s : State) (p : Nat) (v : Nat) :
    (State.nbState s p v).pending = s.pending ∧ (State.nbState s p v).mem = s.mem ∧
    (State.nbState s p v).life.otp = s.life.otp := by
  simp [State.nbState]
@[simp] theorem State.sleepIn_kept (s : State) (p : Nat) :
    (State.sleepIn s p).pending = s.pending ∧ (State.sleepIn s p).mem = s.mem ∧
    (State.sleepIn s p).life.otp = s.life.otp := by
  simp only [State.sleepIn]
  repeat' (first | split | simp)
@[simp] theorem State.fullRate_kept (s : State) (p : Nat) :
    (s.fullRate p).pending = s.pending ∧ (s.fullRate p).mem = s.mem ∧ (s.fullRate p).life.otp = s.life.otp := by
  simp [State.fullRate]
@[simp] theorem State.wakeIn_kept (s : State) (p : Nat) :
    (State.wakeIn s p).pending = s.pending ∧ (State.wakeIn s p).mem = s.mem ∧
    (State.wakeIn s p).life.otp = s.life.otp := by
  simp [State.wakeIn]
@[simp] theorem State.clrPortCnt_kept (s : State) (p : Nat) :
    (State.clrPortCnt s p).pending = s.pending ∧ (State.clrPortCnt s p).mem = s.mem ∧
    (State.clrPortCnt s p).life.otp = s.life.otp := by
  simp [State.clrPortCnt]
@[simp] theorem State.beach_kept (s : State) (cause : Nat) :
    (State.beach s cause).pending = s.pending ∧ (State.beach s cause).mem = s.mem ∧
    (State.beach s cause).life.otp = s.life.otp := by
  simp [State.beach]
@[simp] theorem State.genCheck_kept (s : State) :
    (State.genCheck s).pending = s.pending ∧ (State.genCheck s).mem = s.mem ∧
    (State.genCheck s).life.otp = s.life.otp := by
  simp [State.genCheck]
@[simp] theorem State.unbeach_kept (s : State) :
    (State.unbeach s).pending = s.pending ∧ (State.unbeach s).mem = s.mem ∧ (State.unbeach s).life.otp = s.life.otp := by
  simp [State.unbeach]
@[simp] theorem State.sendEnumRpt_kept (s : State) :
    (State.sendEnumRpt s).pending = s.pending ∧ (State.sendEnumRpt s).mem = s.mem ∧
    (State.sendEnumRpt s).life.otp = s.life.otp := ⟨rfl, rfl, rfl⟩
@[simp] theorem State.takeAddr_kept (s : State) (a : Nat) (k : Nat) :
    (State.takeAddr s a k).pending = s.pending ∧ (State.takeAddr s a k).mem = s.mem ∧
    (State.takeAddr s a k).life.otp = s.life.otp := ⟨rfl, rfl, rfl⟩
@[simp] theorem State.enumIn_kept (s : State) (p : Nat) (m : ZMsg) :
    (State.enumIn s p m).pending = s.pending ∧ (State.enumIn s p m).mem = s.mem ∧
    (State.enumIn s p m).life.otp = s.life.otp := by
  simp [State.enumIn]
@[simp] theorem State.moveAddr_kept (s : State) :
    (State.moveAddr s).pending = s.pending ∧ (State.moveAddr s).mem = s.mem ∧
    (State.moveAddr s).life.otp = s.life.otp := by
  unfold State.moveAddr
  split <;> simp
@[simp] theorem State.putRoster_kept (s : State) (e : Roster) :
    (State.putRoster s e).pending = s.pending ∧ (State.putRoster s e).mem = s.mem ∧
    (State.putRoster s e).life.otp = s.life.otp := ⟨rfl, rfl, rfl⟩
@[simp] theorem State.enumRptIn_kept (s : State) (p : Nat) (m : ZMsg) :
    (State.enumRptIn s p m).pending = s.pending ∧ (State.enumRptIn s p m).mem = s.mem ∧
    (State.enumRptIn s p m).life.otp = s.life.otp := by
  simp [State.enumRptIn]
@[simp] theorem State.postRange_kept (s : State) (k : Nat) :
    (s.postRange k).pending = s.pending ∧ (s.postRange k).mem = s.mem ∧ (s.postRange k).life.otp = s.life.otp := by
  unfold State.postRange; split <;> simp
@[simp] theorem State.crownHead_kept (s : State) :
    (State.crownHead s).pending = s.pending ∧ (State.crownHead s).mem = s.mem ∧
    (State.crownHead s).life.otp = s.life.otp := by
  simp only [State.crownHead]
  repeat' split
  all_goals simp
@[simp] theorem State.roleTaken_kept (s : State) (head : Bool) :
    (State.roleTaken s head).pending = s.pending ∧ (State.roleTaken s head).mem = s.mem ∧
    (State.roleTaken s head).life.otp = s.life.otp := by
  unfold State.roleTaken
  split
  · simp
  · split <;> simp
@[simp] theorem State.applyRole_kept (s : State) :
    (State.applyRole s).pending = s.pending ∧ (State.applyRole s).mem = s.mem ∧
    (State.applyRole s).life.otp = s.life.otp := by
  unfold State.applyRole
  split <;> simp
@[simp] theorem State.sendSuper_kept (s : State) :
    (State.sendSuper s).pending = s.pending ∧ (State.sendSuper s).mem = s.mem ∧
    (State.sendSuper s).life.otp = s.life.otp := by
  simp [State.sendSuper]
@[simp] theorem State.sendEnum_kept (s : State) :
    (State.sendEnum s).pending = s.pending ∧ (State.sendEnum s).mem = s.mem ∧
    (State.sendEnum s).life.otp = s.life.otp := by
  simp [State.sendEnum]
@[simp] theorem State.superframe_kept (s : State) :
    (State.superframe s).pending = s.pending ∧ (State.superframe s).mem = s.mem ∧
    (State.superframe s).life.otp = s.life.otp := by
  simp [State.superframe]
@[simp] theorem State.superIn_kept (s : State) (p : Nat) (m : ZMsg) :
    (State.superIn s p m).pending = s.pending ∧ (State.superIn s p m).mem = s.mem ∧
    (State.superIn s p m).life.otp = s.life.otp := by
  simp only [State.superIn]
  repeat' (first | split | simp)
@[simp] theorem State.checkSide_kept (s : State) (p k : Nat) :
    (State.checkSide s p k).pending = s.pending ∧ (State.checkSide s p k).mem = s.mem ∧
    (State.checkSide s p k).life.otp = s.life.otp := by
  simp [State.checkSide]
@[simp] theorem State.captureSide_kept (s : State) (k : Nat) :
    (State.captureSide s k).pending = s.pending ∧ (State.captureSide s k).mem = s.mem ∧
    (State.captureSide s k).life.otp = s.life.otp := by
  simp [State.captureSide]
@[simp] theorem State.present_kept (s : State) (k : Nat) (f : Nat) (t0 : Nat) :
    (State.present s k f t0).pending = s.pending ∧ (State.present s k f t0).mem = s.mem ∧
    (State.present s k f t0).life.otp = s.life.otp := by
  simp only [State.present]
  repeat' (first | split | simp)
@[simp] theorem State.exchangeAdvance_kept (s : State) (k : Nat) :
    (State.exchangeAdvance s k).pending = s.pending ∧ (State.exchangeAdvance s k).mem = s.mem ∧
    (State.exchangeAdvance s k).life.otp = s.life.otp := by
  simp [State.exchangeAdvance]
@[simp] theorem State.exchangeTick_kept (s : State) (f : Nat) (realigned : Bool) (k : Nat) :
    (State.exchangeTick s f realigned k).pending = s.pending ∧ (State.exchangeTick s f realigned k).mem = s.mem ∧
    (State.exchangeTick s f realigned k).life.otp = s.life.otp := by
  simp [State.exchangeTick]
@[simp] theorem State.exchangeIn__kept (s : State) (p : Nat) (param : Nat) (sl : List (BitVec 128)) (crcOk : Bool) (late : Bool) :
    (State.exchangeIn_ s p param sl crcOk late).pending = s.pending ∧
    (State.exchangeIn_ s p param sl crcOk late).mem = s.mem ∧
    (State.exchangeIn_ s p param sl crcOk late).life.otp = s.life.otp := by
  simp [State.exchangeIn_]
@[simp] theorem State.mbreqEnter_kept (s : State) (m : ZMsg) :
    (State.mbreqEnter s m).pending = s.pending ∧ (State.mbreqEnter s m).mem = s.mem ∧
    (State.mbreqEnter s m).life.otp = s.life.otp := by
  simp [State.mbreqEnter]
@[simp] theorem State.mbreqIn_kept (s : State) (p : Nat) (m : ZMsg) :
    (State.mbreqIn s p m).pending = s.pending ∧ (State.mbreqIn s p m).mem = s.mem ∧
    (State.mbreqIn s p m).life.otp = s.life.otp := by
  simp [State.mbreqIn]
@[simp] theorem State.remoteEvent_kept (s : State) (m : ZMsg) :
    (State.remoteEvent s m).pending = s.pending ∧ (State.remoteEvent s m).mem = s.mem ∧
    (State.remoteEvent s m).life.otp = s.life.otp := by
  simp [State.remoteEvent]
@[simp] theorem State.mbrspIn_kept (s : State) (p : Nat) (m : ZMsg) :
    (State.mbrspIn s p m).pending = s.pending ∧ (State.mbrspIn s p m).mem = s.mem ∧
    (State.mbrspIn s p m).life.otp = s.life.otp := by
  simp only [State.mbrspIn]
  repeat' (first | split | simp)
@[simp] theorem State.fwdTimeout_kept (s : State) (slot : Nat) :
    (State.fwdTimeout s slot).pending = s.pending ∧ (State.fwdTimeout s slot).mem = s.mem ∧
    (State.fwdTimeout s slot).life.otp = s.life.otp := ⟨rfl, rfl, rfl⟩
@[simp] theorem State.putChunk_potp (s : State) (k ch v : Nat) : (s.putChunk k ch v).pending = s.pending ∧ (s.putChunk k ch v).life.otp = s.life.otp :=
  forAll_potp _ _ (fun k t => by simp) _
@[simp] theorem State.putChunk_wf (s : State) (k ch v : Nat) (h : Memory.wf s.mem = true) : Memory.wf (s.putChunk k ch v).mem = true :=
  forAll_wf _ _ (fun k t ht => by simp [ht]) _ h
@[simp] theorem State.setLoaded_kept (s : State) (r : Nat) (c : Nat) (b : Bool) :
    (State.setLoaded s r c b).pending = s.pending ∧ (State.setLoaded s r c b).mem = s.mem ∧
    (State.setLoaded s r c b).life.otp = s.life.otp := ⟨rfl, rfl, rfl⟩
@[simp] theorem State.initBank_kept (s : State) (r : Nat) (c : Nat) :
    (State.initBank s r c).pending = s.pending ∧ (State.initBank s r c).mem = s.mem ∧
    (State.initBank s r c).life.otp = s.life.otp := ⟨rfl, rfl, rfl⟩
@[simp] theorem State.initShared_kept (s : State) (r : Nat) :
    (State.initShared s r).pending = s.pending ∧ (State.initShared s r).mem = s.mem ∧
    (State.initShared s r).life.otp = s.life.otp := ⟨rfl, rfl, rfl⟩
@[simp] theorem State.initRegion_kept (s : State) (r : Nat) :
    (State.initRegion s r).pending = s.pending ∧ (State.initRegion s r).mem = s.mem ∧
    (State.initRegion s r).life.otp = s.life.otp := by
  simp [State.initRegion]
@[simp] theorem State.snapShafts_kept (s : State) (r : Nat) :
    (State.snapShafts s r).pending = s.pending ∧ (State.snapShafts s r).mem = s.mem ∧
    (State.snapShafts s r).life.otp = s.life.otp := ⟨rfl, rfl, rfl⟩
@[simp] theorem State.dropShafts_kept (s : State) (r : Nat) :
    (State.dropShafts s r).pending = s.pending ∧ (State.dropShafts s r).mem = s.mem ∧
    (State.dropShafts s r).life.otp = s.life.otp := ⟨rfl, rfl, rfl⟩
@[simp] theorem State.holdRegion_kept (s : State) (r : Nat) (cause : Nat) :
    (State.holdRegion s r cause).pending = s.pending ∧ (State.holdRegion s r cause).mem = s.mem ∧
    (State.holdRegion s r cause).life.otp = s.life.otp := by
  simp [State.holdRegion]
@[simp] theorem State.applyDesc_kept (s : State) (q : Nat) (d : Nat) :
    (State.applyDesc s q d).pending = s.pending ∧ (State.applyDesc s q d).mem = s.mem ∧
    (State.applyDesc s q d).life.otp = s.life.otp := by
  simp [State.applyDesc]
@[simp] theorem State.setRings_kept (s : State) (r : Nat) (x : Nat × Nat) :
    (State.setRings s r x).pending = s.pending ∧ (State.setRings s r x).mem = s.mem ∧
    (State.setRings s r x).life.otp = s.life.otp := ⟨rfl, rfl, rfl⟩
@[simp] theorem State.emptyRings_potp (s : State) (r : Nat) :
    (s.emptyRings r).pending = s.pending ∧ (s.emptyRings r).life.otp = s.life.otp := by
  unfold State.emptyRings
  exact foldl_potp _ (fun t x => by split <;> simp) _ _
@[simp] theorem State.emptyRings_wf (s : State) (r : Nat) (h : Memory.wf s.mem = true) :
    Memory.wf (s.emptyRings r).mem = true := by
  unfold State.emptyRings
  refine foldl_wf _ (fun t x ht => ?_) _ _ h
  split <;> simp [ht]
@[simp] theorem State.regionReady_kept (s : State) (mb : Nat) (tag : Nat) (r : Nat) (kind : Nat) :
    (State.regionReady s mb tag r kind).pending = s.pending ∧ (State.regionReady s mb tag r kind).mem = s.mem ∧
    (State.regionReady s mb tag r kind).life.otp = s.life.otp := ⟨rfl, rfl, rfl⟩
theorem kept_trans {a b c : State} (h : c.pending = b.pending ∧ c.mem = b.mem ∧ c.life.otp = b.life.otp)
    (g : b.pending = a.pending ∧ b.mem = a.mem ∧ b.life.otp = a.life.otp) :
    c.pending = a.pending ∧ c.mem = a.mem ∧ c.life.otp = a.life.otp :=
  ⟨h.1.trans g.1, h.2.1.trans g.2.1, h.2.2.trans g.2.2⟩
theorem stagedDesc_kept (r k : Nat) (t : State) : (match (t.queue (4 * r + k)).stDesc with
    | some d => (t.setQueue (4 * r + k) { t.queue (4 * r + k) with stDesc := none }).applyDesc (4 * r + k) d.toNat
    | none => t).pending = t.pending ∧ (match (t.queue (4 * r + k)).stDesc with
    | some d => (t.setQueue (4 * r + k) { t.queue (4 * r + k) with stDesc := none }).applyDesc (4 * r + k) d.toNat
    | none => t).mem = t.mem ∧ (match (t.queue (4 * r + k)).stDesc with
    | some d => (t.setQueue (4 * r + k) { t.queue (4 * r + k) with stDesc := none }).applyDesc (4 * r + k) d.toNat
    | none => t).life.otp = t.life.otp := by
    split <;> simp
@[simp] theorem State.applyStaged_kept (s : State) (r : Nat) :
    (s.applyStaged r).pending = s.pending ∧ (s.applyStaged r).mem = s.mem ∧ (s.applyStaged r).life.otp = s.life.otp := by
  unfold State.applyStaged
  refine kept_trans (forAll_kept _ _ (stagedDesc_kept r) _) ?_
  repeat' split
  all_goals simp
@[simp] theorem State.freeRegion_potp (s : State) (r : Nat) :
    (s.freeRegion r).pending = s.pending ∧ (s.freeRegion r).life.otp = s.life.otp := by
  simp [State.freeRegion]
@[simp] theorem State.freeRegion_wf (s : State) (r : Nat) (h : Memory.wf s.mem = true) :
    Memory.wf (s.freeRegion r).mem = true := by
  simp [State.freeRegion, h]
@[simp] theorem State.releaseAll_potp (s : State) (l : List Nat) :
    (s.releaseAll l).pending = s.pending ∧ (s.releaseAll l).life.otp = s.life.otp := by
  have a := foldl_kept (fun t r => t.setStep r 0 (t.shift r 0)) (fun t x => by simp) l (l.foldl State.freeRegion (l.foldl State.applyStaged s))
  have b := foldl_potp State.freeRegion (fun t x => by simp) l (l.foldl State.applyStaged s)
  have c := foldl_kept State.applyStaged (fun t x => by simp) l s
  exact ⟨a.1.trans (b.1.trans c.1), a.2.2.trans (b.2.trans c.2.2)⟩
@[simp] theorem State.releaseAll_wf (s : State) (l : List Nat) (h : Memory.wf s.mem = true) :
    Memory.wf (s.releaseAll l).mem = true := by
  have a := foldl_kept (fun t r => t.setStep r 0 (t.shift r 0)) (fun t x => by simp) l (l.foldl State.freeRegion (l.foldl State.applyStaged s))
  have c := foldl_kept State.applyStaged (fun t x => by simp) l s
  exact (congrArg Memory.wf a.2.1).trans (foldl_wf State.freeRegion (fun t x ht => State.freeRegion_wf t x ht) l _ ((congrArg Memory.wf c.2.1).trans h))
@[simp] theorem State.loseRelease_kept (s : State) (r : Nat) :
    (State.loseRelease s r).pending = s.pending ∧ (State.loseRelease s r).mem = s.mem ∧
    (State.loseRelease s r).life.otp = s.life.otp := by
  simp [State.loseRelease]
@[simp] theorem State.releaseEdge_potp (s : State) :
    (s.releaseEdge).pending = s.pending ∧ (s.releaseEdge).life.otp = s.life.otp := by
  dsimp only [State.releaseEdge]
  refine ⟨(foldl_kept _ (fun t x => by simp) _ _).1.trans ((State.releaseAll_potp _ _).1.trans (foldl_kept _ (fun t x => by simp) _ _).1), (foldl_kept _ (fun t x => by simp) _ _).2.2.trans ((State.releaseAll_potp _ _).2.trans (foldl_kept _ (fun t x => by simp) _ _).2.2)⟩
@[simp] theorem State.releaseEdge_wf (s : State) (h : Memory.wf s.mem = true) :
    Memory.wf (s.releaseEdge).mem = true := by
  dsimp only [State.releaseEdge]
  exact (congrArg Memory.wf (foldl_kept _ (fun t x => by simp) _ _).2.1).trans (State.releaseAll_wf _ _ ((congrArg Memory.wf (foldl_kept _ (fun t x => by simp) _ _).2.1).trans h))
@[simp] theorem State.endSounding_kept (s : State) (e : Nat) :
    (State.endSounding s e).pending = s.pending ∧ (State.endSounding s e).mem = s.mem ∧
    (State.endSounding s e).life.otp = s.life.otp := by
  simp [State.endSounding]
@[simp] theorem State.endLoans_kept (s : State) (p : Nat × Nat × Nat → Bool) :
    (s.endLoans p).pending = s.pending ∧ (s.endLoans p).mem = s.mem ∧ (s.endLoans p).life.otp = s.life.otp := by
  simp only [State.endLoans]
  split <;> split <;> simp
@[simp] theorem State.fullLoadLoans_kept (s : State) :
    (State.fullLoadLoans s).pending = s.pending ∧ (State.fullLoadLoans s).mem = s.mem ∧
    (State.fullLoadLoans s).life.otp = s.life.otp := by
  simp only [State.fullLoadLoans]
  split <;> simp
@[simp] theorem State.setLd_kept (s : State) (l : Loader) :
    (State.setLd s l).pending = s.pending ∧ (State.setLd s l).mem = s.mem ∧ (State.setLd s l).life.otp = s.life.otp := ⟨rfl, rfl, rfl⟩
@[simp] theorem State.clearConfig_potp (s : State) :
    (State.clearConfig s).pending = s.pending ∧ (State.clearConfig s).life.otp = s.life.otp := by
  simp [State.clearConfig]
@[simp] theorem State.clearConfig_wf (s : State) (h : Memory.wf s.mem = true) :
    Memory.wf (State.clearConfig s).mem = true := by
  simp [State.clearConfig, h]
@[simp] theorem State.unconfigure_potp (s : State) :
    (State.unconfigure s).pending = s.pending ∧ (State.unconfigure s).life.otp = s.life.otp := by
  simp [State.unconfigure]
@[simp] theorem State.unconfigure_wf (s : State) (h : Memory.wf s.mem = true) :
    Memory.wf (State.unconfigure s).mem = true := by
  simp [State.unconfigure, h]
@[simp] theorem State.postReport_kept (s : State) (f : Fail) (accepted : Bool) :
    (State.postReport s f accepted).pending = s.pending ∧ (State.postReport s f accepted).mem = s.mem ∧
    (State.postReport s f accepted).life.otp = s.life.otp := by
  simp [State.postReport]
@[simp] theorem State.setSlot_kept (s : State) (k : Nat) (x : Slot) :
    (State.setSlot s k x).pending = s.pending ∧ (State.setSlot s k x).mem = s.mem ∧
    (State.setSlot s k x).life.otp = s.life.otp := ⟨rfl, rfl, rfl⟩
@[simp] theorem State.beginLoad_kept (s : State) (source : Nat) (slot : Nat) (kind : Nat) (release : Nat) (target : Nat) (mb : Nat) (tag : Nat) (boot : Bool) :
    (State.beginLoad s source slot kind release target mb tag boot).pending = s.pending ∧
    (State.beginLoad s source slot kind release target mb tag boot).mem = s.mem ∧
    (State.beginLoad s source slot kind release target mb tag boot).life.otp = s.life.otp := by
  simp [State.beginLoad]
@[simp] theorem State.beginBoot_kept (s : State) :
    (State.beginBoot s).pending = s.pending ∧ (State.beginBoot s).mem = s.mem ∧
    (State.beginBoot s).life.otp = s.life.otp := ⟨rfl, rfl, rfl⟩
@[simp] theorem State.tellUnconfigured_kept (s : State) :
    (State.tellUnconfigured s).pending = s.pending ∧ (State.tellUnconfigured s).mem = s.mem ∧
    (State.tellUnconfigured s).life.otp = s.life.otp := by
  unfold State.tellUnconfigured
  split <;> simp
@[simp] theorem State.bootFail_potp (s : State)  :
    (s.bootFail).pending = s.pending ∧ (s.bootFail).life.otp = s.life.otp := by
  simp only [State.bootFail]
  split <;> simp
@[simp] theorem State.bootFail_wf (s : State)  (hs : Memory.wf s.mem = true) :
    Memory.wf (s.bootFail).mem = true := by
  simp only [State.bootFail]
  split <;> simp [hs]
@[simp] theorem State.bootLoop_potp (n : Nat) (s : State) :
    (State.bootLoop n s).pending = s.pending ∧ (State.bootLoop n s).life.otp = s.life.otp := by
  induction n generalizing s with
  | zero => simp [State.bootLoop]
  | succ n ih =>
    simp only [State.bootLoop]
    repeat' split
    all_goals simp [ih]
@[simp] theorem State.bootLoop_wf (n : Nat) (s : State) (hs : Memory.wf s.mem = true) :
    Memory.wf (State.bootLoop n s).mem = true := by
  induction n generalizing s with
  | zero => simp [State.bootLoop, hs]
  | succ n ih =>
    simp only [State.bootLoop]
    repeat' split
    all_goals first | exact ih _ hs | simp [hs]
@[simp] theorem State.bootFailed_potp (s : State) (d : Nat) :
    (s.bootFailed d).pending = s.pending ∧ (s.bootFailed d).life.otp = s.life.otp := by
  simp only [State.bootFailed]
  repeat' split
  all_goals simp
@[simp] theorem State.bootFailed_wf (s : State) (d : Nat) (hs : Memory.wf s.mem = true) :
    Memory.wf (s.bootFailed d).mem = true := by
  simp only [State.bootFailed]
  repeat' split
  all_goals simp [hs]
@[simp] theorem State.bootResume_potp (s : State)  :
    (s.bootResume).pending = s.pending ∧ (s.bootResume).life.otp = s.life.otp := by
  simp only [State.bootResume]
  repeat' split
  all_goals simp
@[simp] theorem State.bootResume_wf (s : State)  (hs : Memory.wf s.mem = true) :
    Memory.wf (s.bootResume).mem = true := by
  simp only [State.bootResume]
  repeat' split
  all_goals simp [hs]
@[simp] theorem State.bootStart_potp (s : State)  :
    (s.bootStart).pending = s.pending ∧ (s.bootStart).life.otp = s.life.otp := by
  simp only [State.bootStart]
  repeat' split
  all_goals simp
@[simp] theorem State.bootStart_wf (s : State)  (hs : Memory.wf s.mem = true) :
    Memory.wf (s.bootStart).mem = true := by
  simp only [State.bootStart]
  repeat' split
  all_goals simp [hs]
@[simp] theorem State.unloadTarget_kept (s : State) (r : Nat) (c : Nat) :
    (State.unloadTarget s r c).pending = s.pending ∧ (State.unloadTarget s r c).mem = s.mem ∧
    (State.unloadTarget s r c).life.otp = s.life.otp := ⟨rfl, rfl, rfl⟩
theorem eachTarget_kept (s : State) (l : Loader) (f : Nat → Nat → State → State) (h : ∀ r c t, (f r c t).pending = t.pending ∧ (f r c t).mem = t.mem ∧ (f r c t).life.otp = t.life.otp) :
    (s.eachTarget l f).pending = s.pending ∧ (s.eachTarget l f).mem = s.mem ∧
    (s.eachTarget l f).life.otp = s.life.otp := by
  unfold State.eachTarget
  exact forAll_kept _ _ (fun k t => forAll_kept _ _ (fun c u => by split <;> simp [h]) _) _
@[simp] theorem State.failRegion_kept (s : State) (l : Loader) (tied : Bool) (r : Nat) :
    (s.failRegion l tied r).pending = s.pending ∧ (s.failRegion l tied r).mem = s.mem ∧ (s.failRegion l tied r).life.otp = s.life.otp := by
  simp only [State.failRegion]; split <;> simp
@[simp] theorem State.rejectLoad_potp (s : State) (f : Fail) (accepted : Bool) :
    (s.rejectLoad f accepted).pending = s.pending ∧ (s.rejectLoad f accepted).life.otp = s.life.otp := by
  have hE (l : Loader) := eachTarget_kept s l (fun r c t => t.unloadTarget r c) (fun r c t => by simp)
  have hA (l : Loader) (b : Nat → Bool) (k : List Nat) (s : State) := foldl_kept (fun t r => t.failRegion l (b r) r) (fun t x => by simp) k s
  simp only [State.rejectLoad]
  repeat' split
  all_goals simp [hE, hA]
@[simp] theorem State.rejectLoad_wf (s : State) (f : Fail) (accepted : Bool) (h : Memory.wf s.mem = true) :
    Memory.wf (s.rejectLoad f accepted).mem = true := by
  have hE (l : Loader) := eachTarget_kept s l (fun r c t => t.unloadTarget r c) (fun r c t => by simp)
  have hA (l : Loader) (b : Nat → Bool) (k : List Nat) (s : State) := foldl_kept (fun t r => t.failRegion l (b r) r) (fun t x => by simp) k s
  simp only [State.rejectLoad]
  repeat' split
  all_goals simp [hE, hA, h]
@[simp] theorem State.failLoad_potp (s : State) (f : Fail) :
    (s.failLoad f).pending = s.pending ∧ (s.failLoad f).life.otp = s.life.otp := by
  simp [State.failLoad]
@[simp] theorem State.failLoad_wf (s : State) (f : Fail) (h : Memory.wf s.mem = true) :
    Memory.wf (s.failLoad f).mem = true := by
  simp [State.failLoad, h]
@[simp] theorem State.acceptHeader_kept (s : State) (l : Loader) :
    (s.acceptHeader l).pending = s.pending ∧ (s.acceptHeader l).mem = s.mem ∧
    (s.acceptHeader l).life.otp = s.life.otp := by
  dsimp only [State.acceptHeader]
  have hE := eachTarget_kept (s.setLd { l with phase := .hold, startPs := s.timePs, startCyc := s.tick.cyc, held := s.heldBy l (bufferedAddrs l.recLen l.records l.buf) })
    l (fun r c t => if (s.heldBy l (bufferedAddrs l.recLen l.records l.buf)).contains r = true then t else t.setLoaded r c false) (fun r c t => by split <;> simp)
  repeat' split
  · simp
  · simp_all
@[simp] theorem State.imageHeader_potp (s : State) :
    s.imageHeader.pending = s.pending ∧ s.imageHeader.life.otp = s.life.otp := by
  dsimp only [State.imageHeader]
  repeat' split
  all_goals simp
@[simp] theorem State.imageHeader_wf (s : State) (h : Memory.wf s.mem = true) : Memory.wf s.imageHeader.mem = true := by
  dsimp only [State.imageHeader]
  repeat' split
  all_goals simp [h]
@[simp] theorem State.holdEdge_potp (s : State) :
    (State.holdEdge s).pending = s.pending ∧ (State.holdEdge s).life.otp = s.life.otp := by
  simp [State.holdEdge]
@[simp] theorem State.holdEdge_wf (s : State) (h : Memory.wf s.mem = true) :
    Memory.wf (State.holdEdge s).mem = true := by
  simp [State.holdEdge, h]
@[simp] theorem State.lateHold_kept (s : State) (l : Loader) (addr : Nat) :
    (State.lateHold s l addr).pending = s.pending ∧ (State.lateHold s l addr).mem = s.mem ∧
    (State.lateHold s l addr).life.otp = s.life.otp := by
  simp [State.lateHold]
@[simp] theorem State.frameRecord_potp (s : State) :
    s.frameRecord.pending = s.pending ∧ s.frameRecord.life.otp = s.life.otp := by
  dsimp only [State.frameRecord]
  split
  · simp
  · split
    · simp
    · split <;> simp
@[simp] theorem State.frameRecord_wf (s : State) (h : Memory.wf s.mem = true) : Memory.wf s.frameRecord.mem = true := by
  dsimp only [State.frameRecord]
  split
  · exact h
  · split
    · simp [h]
    · split <;> simp [h]
@[simp] theorem State.imageTrailer_kept (s : State) :
    (State.imageTrailer s).pending = s.pending ∧ (State.imageTrailer s).mem = s.mem ∧
    (State.imageTrailer s).life.otp = s.life.otp := by
  simp [State.imageTrailer]
@[simp] theorem State.trailerDone_potp (s : State) :
    s.trailerDone.pending = s.pending ∧ s.trailerDone.life.otp = s.life.otp := by
  dsimp only [State.trailerDone]
  split
  · simp
  · split <;> simp
@[simp] theorem State.trailerDone_wf (s : State) (h : Memory.wf s.mem = true) : Memory.wf s.trailerDone.mem = true := by
  dsimp only [State.trailerDone]
  split
  · exact h
  · split <;> simp [h]
@[simp] theorem State.commitPort_kept (l : Loader) (p : Nat) (s : State) :
    (State.commitPort l p s).pending = s.pending ∧ (State.commitPort l p s).mem = s.mem ∧
    (State.commitPort l p s).life.otp = s.life.otp := by
  simp [State.commitPort]
@[simp] theorem State.commitUnit_kept (s : State) (l : Loader) :
    (State.commitUnit s l).pending = s.pending ∧ (State.commitUnit s l).mem = s.mem ∧
    (State.commitUnit s l).life.otp = s.life.otp := by
  simp only [State.commitUnit]
  repeat' split
  all_goals simp
@[simp] theorem State.commitRegion_kept (l : Loader) (r : Nat) (s : State) :
    (State.commitRegion l r s).pending = s.pending ∧ (State.commitRegion l r s).mem = s.mem ∧
    (State.commitRegion l r s).life.otp = s.life.otp := by
  simp [State.commitRegion]
@[simp] theorem State.commitQueue_kept (l : Loader) (q : Nat) (s : State) :
    (State.commitQueue l q s).pending = s.pending ∧ (State.commitQueue l q s).mem = s.mem ∧
    (State.commitQueue l q s).life.otp = s.life.otp := ⟨rfl, rfl, rfl⟩
@[simp] theorem State.commitTick_kept (s : State) (g : Nat → Nat) :
    (s.commitTick g).pending = s.pending ∧ (s.commitTick g).mem = s.mem ∧ (s.commitTick g).life.otp = s.life.otp := by
  simp [State.commitTick]
@[simp] theorem State.commitReload_kept (s : State) (l : Loader) :
    (State.commitReload s l).pending = s.pending ∧ (State.commitReload s l).mem = s.mem ∧
    (State.commitReload s l).life.otp = s.life.otp := by
  simp [State.commitReload]
@[simp] theorem State.commitFull_kept (s : State) :
    (State.commitFull s).pending = s.pending ∧ (State.commitFull s).mem = s.mem ∧
    (State.commitFull s).life.otp = s.life.otp := by
  simp [State.commitFull]
@[simp] theorem State.commitTarget_kept (l : Loader) (r : Nat) (c : Nat) (s : State) :
    (State.commitTarget l r c s).pending = s.pending ∧ (State.commitTarget l r c s).mem = s.mem ∧
    (State.commitTarget l r c s).life.otp = s.life.otp := by
  simp [State.commitTarget]
@[simp] theorem State.stageRegion_kept (l : Loader) (late : Bool) (r : Nat) (s : State) :
    (State.stageRegion l late r s).pending = s.pending ∧ (State.stageRegion l late r s).mem = s.mem ∧
    (State.stageRegion l late r s).life.otp = s.life.otp := by
  simp [State.stageRegion]
@[simp] theorem State.commitPartial_kept (s : State) :
    s.commitPartial.pending = s.pending ∧ s.commitPartial.mem = s.mem ∧ s.commitPartial.life.otp = s.life.otp := by
  have hE (l : Loader) := eachTarget_kept s l (State.commitTarget l) (fun r c t => by simp)
  have hF (l : Loader) (late : Bool) (k : List Nat) (s : State) := foldl_kept (fun t r => State.stageRegion l late r t) (fun t x => by simp) k s
  dsimp only [State.commitPartial]
  split <;> split <;> simp [hE, hF]
@[simp] theorem State.setDone_potp (s : State) : s.setDone.pending = s.pending ∧ s.setDone.life.otp = s.life.otp := by
  simp only [State.setDone]
  repeat' split
  all_goals simp
@[simp] theorem State.setDone_wf (s : State) (h : Memory.wf s.mem = true) : Memory.wf s.setDone.mem = true := by
  simp only [State.setDone]
  repeat' split
  all_goals simp [h]
@[simp] theorem State.loadStall_potp (s : State) :
    (State.loadStall s).pending = s.pending ∧ (State.loadStall s).life.otp = s.life.otp := by
  simp [State.loadStall]
@[simp] theorem State.loadStall_wf (s : State) (h : Memory.wf s.mem = true) :
    Memory.wf (State.loadStall s).mem = true := by
  simp [State.loadStall, h]
@[simp] theorem State.feed_kept (s : State) (b : List Byte) :
    (State.feed s b).pending = s.pending ∧ (State.feed s b).mem = s.mem ∧ (State.feed s b).life.otp = s.life.otp := ⟨rfl, rfl, rfl⟩
@[simp] theorem State.pspWord_kept (s : State) (w : Word) :
    (State.pspWord s w).pending = s.pending ∧ (State.pspWord s w).mem = s.mem ∧
    (State.pspWord s w).life.otp = s.life.otp := by
  simp [State.pspWord]
@[simp] theorem State.sspNibble_kept (s : State) (x : Nat) :
    (State.sspNibble s x).pending = s.pending ∧ (State.sspNibble s x).mem = s.mem ∧
    (State.sspNibble s x).life.otp = s.life.otp := by
  simp only [State.sspNibble]
  repeat' (first | split | simp)
@[simp] theorem State.sspCsRise_potp (s : State) :
    (State.sspCsRise s).pending = s.pending ∧ (State.sspCsRise s).life.otp = s.life.otp := by
  simp [State.sspCsRise]
@[simp] theorem State.sspCsRise_wf (s : State) (h : Memory.wf s.mem = true) :
    Memory.wf (State.sspCsRise s).mem = true := by
  simp [State.sspCsRise, h]
@[simp] theorem State.beginChain_kept (s : State) :
    (State.beginChain s).pending = s.pending ∧ (State.beginChain s).mem = s.mem ∧
    (State.beginChain s).life.otp = s.life.otp := by
  simp [State.beginChain]
@[simp] theorem State.bcastIn_potp (s : State) (p : Nat) (m : ZMsg) :
    (s.bcastIn p m).pending = s.pending ∧ (s.bcastIn p m).life.otp = s.life.otp := by
  dsimp only [State.bcastIn]
  repeat' split
  all_goals simp
@[simp] theorem State.bcastIn_wf (s : State) (p : Nat) (m : ZMsg) (h : Memory.wf s.mem = true) :
    Memory.wf (s.bcastIn p m).mem = true := by
  dsimp only [State.bcastIn]
  repeat' split
  all_goals simp [h]
@[simp] theorem State.bcastBroken_potp (s : State) :
    (State.bcastBroken s).pending = s.pending ∧ (State.bcastBroken s).life.otp = s.life.otp := by
  simp [State.bcastBroken]
@[simp] theorem State.bcastBroken_wf (s : State) (h : Memory.wf s.mem = true) :
    Memory.wf (State.bcastBroken s).mem = true := by
  simp [State.bcastBroken, h]
@[simp] theorem State.imageIn_potp (s : State) (p : Nat) (m : ZMsg) :
    (State.imageIn s p m).pending = s.pending ∧ (State.imageIn s p m).life.otp = s.life.otp := by
  simp only [State.imageIn]
  repeat' split
  all_goals simp [State.zmsg]
  all_goals repeat' split
  all_goals simp
@[simp] theorem State.imageIn_wf (s : State) (p : Nat) (m : ZMsg) (h : Memory.wf s.mem = true) :
    Memory.wf (State.imageIn s p m).mem = true := by
  simp only [State.imageIn]
  repeat' split
  all_goals simp [State.zmsg, h]
  all_goals repeat' split
  all_goals simp [h]
@[simp] theorem State.loadRptIn_kept (s : State) (p : Nat) (m : ZMsg) :
    (State.loadRptIn s p m).pending = s.pending ∧ (State.loadRptIn s p m).mem = s.mem ∧
    (State.loadRptIn s p m).life.otp = s.life.otp := by
  simp [State.loadRptIn]
@[simp] theorem State.bcastEnd_kept (s : State) :
    (State.bcastEnd s).pending = s.pending ∧ (State.bcastEnd s).mem = s.mem ∧
    (State.bcastEnd s).life.otp = s.life.otp := by
  simp [State.bcastEnd]
@[simp] theorem State.sendImages_kept (n u : Nat) (s : State) :
    (State.sendImages n u s).pending = s.pending ∧ (State.sendImages n u s).mem = s.mem ∧
    (State.sendImages n u s).life.otp = s.life.otp := by
  induction n generalizing s with
  | zero => simp [State.sendImages]
  | succ n ih =>
    dsimp only [State.sendImages]
    split
    · simp
    · split
      · simp
      · split
        · simp
        · rw [(ih _).1, (ih _).2.1, (ih _).2.2]
          split <;> simp
@[simp] theorem State.setSq_kept (s : State) (x : Seq) :
    (State.setSq s x).pending = s.pending ∧ (State.setSq s x).mem = s.mem ∧ (State.setSq s x).life.otp = s.life.otp := ⟨rfl, rfl, rfl⟩
@[simp] theorem State.seqNext_kept (s : State) :
    (State.seqNext s).pending = s.pending ∧ (State.seqNext s).mem = s.mem ∧ (State.seqNext s).life.otp = s.life.otp := ⟨rfl, rfl, rfl⟩
@[simp] theorem State.seqDo_kept (s : State) (code : Nat) :
    (State.seqDo s code).pending = s.pending ∧ (State.seqDo s code).mem = s.mem ∧
    (State.seqDo s code).life.otp = s.life.otp := by
  unfold State.seqDo
  split <;> simp
@[simp] theorem State.seqRelease_kept (s : State) :
    (State.seqRelease s).pending = s.pending ∧ (State.seqRelease s).mem = s.mem ∧
    (State.seqRelease s).life.otp = s.life.otp := by
  simp [State.seqRelease]
@[simp] theorem State.seqComplete_kept (s : State) :
    (State.seqComplete s).pending = s.pending ∧ (State.seqComplete s).mem = s.mem ∧
    (State.seqComplete s).life.otp = s.life.otp := by
  simp [State.seqComplete]
@[simp] theorem State.seqTimeout_kept (s : State) :
    (State.seqTimeout s).pending = s.pending ∧ (State.seqTimeout s).mem = s.mem ∧
    (State.seqTimeout s).life.otp = s.life.otp := by
  simp [State.seqTimeout]
@[simp] theorem State.seqTick_kept (s : State) :
    (State.seqTick s).pending = s.pending ∧ (State.seqTick s).mem = s.mem ∧ (State.seqTick s).life.otp = s.life.otp := by
  simp [State.seqTick]
@[simp] theorem State.setProbe_kept (s : State) (x : Probe) :
    (State.setProbe s x).pending = s.pending ∧ (State.setProbe s x).mem = s.mem ∧
    (State.setProbe s x).life.otp = s.life.otp := ⟨rfl, rfl, rfl⟩
@[simp] theorem State.sampleWord_kept (s : State) :
    (State.sampleWord s).2.pending = s.pending ∧ (State.sampleWord s).2.mem = s.mem ∧
    (State.sampleWord s).2.life.otp = s.life.otp := ⟨rfl, rfl, rfl⟩
@[simp] theorem State.storeWord_potp (s : State) (v : Nat) :
    (State.storeWord s v).pending = s.pending ∧ (State.storeWord s v).life.otp = s.life.otp := by
  simp [State.storeWord]
@[simp] theorem State.storeWord_wf (s : State) (v : Nat) (h : Memory.wf s.mem = true) :
    Memory.wf (State.storeWord s v).mem = true := by
  simp [State.storeWord, h]
@[simp] theorem State.emitTrace_kept (s : State) (w : DWord) :
    (State.emitTrace s w).pending = s.pending ∧ (State.emitTrace s w).mem = s.mem ∧
    (State.emitTrace s w).life.otp = s.life.otp := by
  simp [State.emitTrace]
@[simp] theorem State.probeEdge_potp (s : State) :
    (State.probeEdge s).pending = s.pending ∧ (State.probeEdge s).life.otp = s.life.otp := by
  simp [State.probeEdge]
@[simp] theorem State.probeEdge_wf (s : State) (h : Memory.wf s.mem = true) :
    Memory.wf (State.probeEdge s).mem = true := by
  simp [State.probeEdge, h]
@[simp] theorem State.tracePacket_potp (s : State) (src dst : Nat) :
    (s.tracePacket src dst).pending = s.pending ∧ (s.tracePacket src dst).life.otp = s.life.otp := by
  unfold State.tracePacket
  apply deliver_potp
  intro p t
  split
  · simp
  · split
    · exact forAll_potp _ _ (fun k u => by simp) _
    · simp
  · simp
@[simp] theorem State.tracePacket_wf (s : State) (src dst : Nat) (h : Memory.wf s.mem = true) :
    Memory.wf (s.tracePacket src dst).mem = true := by
  unfold State.tracePacket
  refine deliver_wf _ _ _ _ _ (fun p t ht => ?_) h
  split
  · simp [ht]
  · split
    · exact forAll_wf _ _ (fun k u hu => by simp [hu]) _ ht
    · simp [ht]
  · exact ht
@[simp] theorem State.soundingStart_kept (s : State) (frames : Nat) :
    (State.soundingStart s frames).pending = s.pending ∧ (State.soundingStart s frames).mem = s.mem ∧
    (State.soundingStart s frames).life.otp = s.life.otp := by
  simp [State.soundingStart]
@[simp] theorem State.probeTrigger_kept (s : State) :
    (State.probeTrigger s).pending = s.pending ∧ (State.probeTrigger s).mem = s.mem ∧
    (State.probeTrigger s).life.otp = s.life.otp := by
  simp [State.probeTrigger]
@[simp] theorem State.probeTick_kept (s : State) (realigned : Bool) :
    (State.probeTick s realigned).pending = s.pending ∧ (State.probeTick s realigned).mem = s.mem ∧
    (State.probeTick s realigned).life.otp = s.life.otp := by
  simp [State.probeTick]
@[simp] theorem State.soundingEnd_kept (s : State) :
    (State.soundingEnd s).pending = s.pending ∧ (State.soundingEnd s).mem = s.mem ∧
    (State.soundingEnd s).life.otp = s.life.otp := by
  simp [State.soundingEnd]
@[simp] theorem State.pbFree_kept (s : State) :
    (State.pbFree s).pending = s.pending ∧ (State.pbFree s).mem = s.mem ∧ (State.pbFree s).life.otp = s.life.otp := by
  simp [State.pbFree]
@[simp] theorem State.pbClrDrop_kept (s : State) :
    (State.pbClrDrop s).pending = s.pending ∧ (State.pbClrDrop s).mem = s.mem ∧
    (State.pbClrDrop s).life.otp = s.life.otp := ⟨rfl, rfl, rfl⟩
@[simp] theorem State.probeNarrow_kept (s : State) :
    (State.probeNarrow s).pending = s.pending ∧ (State.probeNarrow s).mem = s.mem ∧
    (State.probeNarrow s).life.otp = s.life.otp := by
  simp [State.probeNarrow]
@[simp] theorem State.gatePending_kept (s : State) (g : Nat) (n : Nat) :
    (State.gatePending s g n).pending = s.pending ∧ (State.gatePending s g n).mem = s.mem ∧
    (State.gatePending s g n).life.otp = s.life.otp := by
  simp only [State.gatePending]
  repeat' (first | split | simp)
@[simp] theorem State.gateLoad_potp (s : State) (source : Nat) :
    (State.gateLoad s source).pending = s.pending ∧ (State.gateLoad s source).life.otp = s.life.otp := by
  simp [State.gateLoad]
@[simp] theorem State.gateLoad_wf (s : State) (source : Nat) (h : Memory.wf s.mem = true) :
    Memory.wf (State.gateLoad s source).mem = true := by
  simp [State.gateLoad, h]
@[simp] theorem State.gateEffect_potp (s : State) (g : Nat) :
    (State.gateEffect s g).pending = s.pending ∧ (State.gateEffect s g).life.otp = s.life.otp := by
  simp [State.gateEffect]
@[simp] theorem State.gateEffect_wf (s : State) (g : Nat) (h : Memory.wf s.mem = true) :
    Memory.wf (State.gateEffect s g).mem = true := by
  simp [State.gateEffect, h]
@[simp] theorem State.gateClose_potp (s : State) (g : Nat) (boundary : Bool) :
    (State.gateClose s g boundary).pending = s.pending ∧ (State.gateClose s g boundary).life.otp = s.life.otp := by
  simp only [State.gateClose]
  repeat' (first | split | simp)
@[simp] theorem State.gateClose_wf (s : State) (g : Nat) (boundary : Bool) (h : Memory.wf s.mem = true) :
    Memory.wf (State.gateClose s g boundary).mem = true := by
  simp only [State.gateClose]
  repeat' (first | split | simp [h])
@[simp] theorem State.setMode_kept (s : State) (m : Nat) :
    (State.setMode s m).pending = s.pending ∧ (State.setMode s m).mem = s.mem ∧
    (State.setMode s m).life.otp = s.life.otp := ⟨rfl, rfl, rfl⟩
@[simp] theorem State.scrubAll_kept (s : State) (on : Bool) :
    (State.scrubAll s on).pending = s.pending ∧ (State.scrubAll s on).mem = s.mem ∧
    (State.scrubAll s on).life.otp = s.life.otp := by
  simp [State.scrubAll]
@[simp] theorem State.stopAll_kept (s : State) :
    (State.stopAll s).pending = s.pending ∧ (State.stopAll s).mem = s.mem ∧ (State.stopAll s).life.otp = s.life.otp := by
  simp [State.stopAll]
@[simp] theorem State.resumeAll_kept (s : State) :
    (State.resumeAll s).pending = s.pending ∧ (State.resumeAll s).mem = s.mem ∧
    (State.resumeAll s).life.otp = s.life.otp := by
  simp [State.resumeAll]
@[simp] theorem State.sendWake_kept (s : State) :
    (State.sendWake s).pending = s.pending ∧ (State.sendWake s).mem = s.mem ∧
    (State.sendWake s).life.otp = s.life.otp := ⟨rfl, rfl, rfl⟩
@[simp] theorem State.spllStop_kept (s : State) (n : Nat) :
    (State.spllStop s n).pending = s.pending ∧ (State.spllStop s n).mem = s.mem ∧
    (State.spllStop s n).life.otp = s.life.otp := by
  simp [State.spllStop]
@[simp] theorem State.pllsStop_kept (s : State) :
    (State.pllsStop s).pending = s.pending ∧ (State.pllsStop s).mem = s.mem ∧
    (State.pllsStop s).life.otp = s.life.otp := by
  have a := fun (x : Nat) (y : State) => forAll_kept 24 (fun q t => t.setBit (LN (4 * q) 0x808) 0 false) (fun k t => by simp) y
  have b := forAll_kept 6 (fun n t => if (s.gckOf 0).src = n + 8 then t else t.spllStop n)
    (fun k t => by by_cases h : (s.gckOf 0).src = k + 8 <;> simp [h]) s
  simp only [State.pllsStop, a 0, b, and_self]
@[simp] theorem State.powerCommit_kept (s : State) (m : Nat) :
    (State.powerCommit s m).pending = s.pending ∧ (State.powerCommit s m).mem = s.mem ∧
    (State.powerCommit s m).life.otp = s.life.otp := by
  simp [State.powerCommit]
@[simp] theorem State.selfPower_kept (s : State) :
    (State.selfPower s).pending = s.pending ∧ (State.selfPower s).mem = s.mem ∧
    (State.selfPower s).life.otp = s.life.otp := by
  unfold State.selfPower
  split <;> simp
@[simp] theorem State.modeReached_kept (s : State) (m : Nat) :
    (State.modeReached s m).pending = s.pending ∧ (State.modeReached s m).mem = s.mem ∧
    (State.modeReached s m).life.otp = s.life.otp := by
  simp [State.modeReached]
@[simp] theorem State.portsLow_kept (s : State) :
    (State.portsLow s).pending = s.pending ∧ (State.portsLow s).mem = s.mem ∧
    (State.portsLow s).life.otp = s.life.otp := by
  simp [State.portsLow]
@[simp] theorem State.sleepReached_kept (s : State) :
    (State.sleepReached s).pending = s.pending ∧ (State.sleepReached s).mem = s.mem ∧
    (State.sleepReached s).life.otp = s.life.otp := by
  simp [State.sleepReached]
@[simp] theorem State.deepReached_kept (s : State) :
    (State.deepReached s).pending = s.pending ∧ (State.deepReached s).mem = s.mem ∧
    (State.deepReached s).life.otp = s.life.otp := by
  simp [State.deepReached]
@[simp] theorem State.loseFabric_kept (s : State) :
    (State.loseFabric s).pending = s.pending ∧ (State.loseFabric s).mem = s.mem ∧
    (State.loseFabric s).life.otp = s.life.otp := by
  simp [State.loseFabric]
@[simp] theorem State.queueLost_kept (q : Nat) (s : State) :
    (State.queueLost q s).pending = s.pending ∧ (State.queueLost q s).mem = s.mem ∧
    (State.queueLost q s).life.otp = s.life.otp := by
  simp [State.queueLost]
@[simp] theorem State.coldRegion_kept (r : Nat) (t : State) :
    (State.coldRegion r t).pending = t.pending ∧ (State.coldRegion r t).mem = t.mem ∧
    (State.coldRegion r t).life.otp = t.life.otp := by
  dsimp only [State.coldRegion]
  split <;> simp
@[simp] theorem State.clearTier_potp (s : State) :
    s.clearTier.pending = s.pending ∧ s.clearTier.life.otp = s.life.otp := ⟨rfl, rfl⟩
@[simp] theorem State.coldRun_kept (s : State) :
    s.coldRun.pending = s.pending ∧ s.coldRun.mem = s.mem ∧ s.coldRun.life.otp = s.life.otp := ⟨rfl, rfl, rfl⟩
@[simp] theorem State.coldStart_potp (s : State) :
    s.coldStart.pending = s.pending ∧ s.coldStart.life.otp = s.life.otp := by
  simp [State.coldStart]
@[simp] theorem State.coldStart_wf (s : State) : Memory.wf s.coldStart.mem = true := by
  have : s.clearTier.mem = [] := rfl
  simp [State.coldStart, this]
@[simp] theorem State.portsFull_kept (s : State) :
    (State.portsFull s).pending = s.pending ∧ (State.portsFull s).mem = s.mem ∧
    (State.portsFull s).life.otp = s.life.otp := by
  unfold State.portsFull
  exact forAll_kept _ _ (fun k t => by split <;> simp) _
@[simp] theorem State.wakeComplete_potp (s : State) :
    s.wakeComplete.pending = s.pending ∧ s.wakeComplete.life.otp = s.life.otp := by
  unfold State.wakeComplete
  repeat' split
  all_goals simp
@[simp] theorem State.wakeComplete_wf (s : State) (h : Memory.wf s.mem = true) :
    Memory.wf s.wakeComplete.mem = true := by
  unfold State.wakeComplete
  repeat' split
  all_goals simp [h]
@[simp] theorem setLife_life (s : State) (x : Life) : (s.setLife x).life = x := rfl
@[simp] theorem State.setLife_pmem (s : State) (x : Life) :
    (s.setLife x).pending = s.pending ∧ (s.setLife x).mem = s.mem := ⟨rfl, rfl⟩
@[simp] theorem State.setStore_kept (s : State) (x : Store) :
    (State.setStore s x).pending = s.pending ∧ (State.setStore s x).mem = s.mem ∧
    (State.setStore s x).life.otp = s.life.otp := ⟨rfl, rfl, rfl⟩
@[simp] theorem State.startBurn_kept (s : State) :
    (s.startBurn).pending = s.pending ∧ (s.startBurn).mem = s.mem ∧ (s.startBurn).life.otp = s.life.otp := by
  unfold State.startBurn
  repeat' split
  all_goals simp
@[simp] theorem State.writeBootRec_kept (s : State) (boot : Nat) (golden : Nat) (c : Nat) :
    (State.writeBootRec s boot golden c).pending = s.pending ∧ (State.writeBootRec s boot golden c).mem = s.mem ∧
    (State.writeBootRec s boot golden c).life.otp = s.life.otp := by
  simp [State.writeBootRec]
@[simp] theorem State.emptySlot_kept (s : State) (k : Nat) :
    (State.emptySlot s k).pending = s.pending ∧ (State.emptySlot s k).mem = s.mem ∧
    (State.emptySlot s k).life.otp = s.life.otp := ⟨rfl, rfl, rfl⟩
@[simp] theorem State.rollForward_kept (s : State) :
    (s.rollForward).pending = s.pending ∧ (s.rollForward).mem = s.mem ∧ (s.rollForward).life.otp = s.life.otp := by
  unfold State.rollForward
  repeat' split
  all_goals simp
@[simp] theorem State.startErase_kept (s : State) :
    (State.startErase s).pending = s.pending ∧ (State.startErase s).mem = s.mem ∧
    (State.startErase s).life.otp = s.life.otp := by
  simp [State.startErase]
@[simp] theorem State.rollState_kept (s : State) :
    (s.rollState).pending = s.pending ∧ (s.rollState).mem = s.mem ∧ (s.rollState).life.otp = s.life.otp := by
  unfold State.rollState
  repeat' split
  all_goals simp
@[simp] theorem State.senseFree_kept (s : State) :
    (s.senseFree).pending = s.pending ∧ (s.senseFree).mem = s.mem ∧ (s.senseFree).life.otp = s.life.otp := ⟨rfl, rfl, rfl⟩
@[simp] theorem State.nextBurn_kept (s : State) :
    (s.nextBurn).pending = s.pending ∧ (s.nextBurn).mem = s.mem ∧ (s.nextBurn).life.otp = s.life.otp := by
  unfold State.nextBurn; split <;> simp
@[simp] theorem State.nextErase_kept (s : State) :
    (s.nextErase).pending = s.pending ∧ (s.nextErase).mem = s.mem ∧ (s.nextErase).life.otp = s.life.otp := by
  unfold State.nextErase; split <;> simp
@[simp] theorem State.eraseDone_kept (s : State) :
    (s.eraseDone).pending = s.pending ∧ (s.eraseDone).mem = s.mem ∧ (s.eraseDone).life.otp = s.life.otp := by
  unfold State.eraseDone
  repeat' split
  all_goals simp
@[simp] theorem State.rollRecord_kept (s : State)  :
    (s.rollRecord).pending = s.pending ∧ (s.rollRecord).mem = s.mem ∧ (s.rollRecord).life.otp = s.life.otp := by
  simp only [State.rollRecord]; split <;> simp
@[simp] theorem State.startHeadland_kept (s : State)  :
    (s.startHeadland).pending = s.pending ∧ (s.startHeadland).mem = s.mem ∧ (s.startHeadland).life.otp = s.life.otp := by
  simp only [State.startHeadland]; split <;> simp
@[simp] theorem State.porRelease_kept (s : State) (boot park mv : Nat) :
    (s.porRelease boot park mv).pending = s.pending ∧ (s.porRelease boot park mv).mem = s.mem ∧
    (s.porRelease boot park mv).life.otp = s.life.otp := by
  simp only [State.porRelease]
  repeat' split
  all_goals simp
@[simp] theorem State.burnt_kept (s : State) (t : State) (g : Nat) :
    (s.burnt t g).pending = s.pending ∧ (s.burnt t g).mem = s.mem ∧ (s.burnt t g).life.otp = s.life.otp := by
  simp only [State.burnt]
  repeat' split
  all_goals simp
@[simp] theorem State.burnDone_pmem (s : State) :
    s.burnDone.pending = s.pending ∧ s.burnDone.mem = s.mem := by
  simp only [State.burnDone]
  repeat' split
  all_goals simp
@[simp] theorem State.raiseFw_kept (s : State) (mv : Nat) :
    (s.raiseFw mv).pending = s.pending ∧ (s.raiseFw mv).mem = s.mem ∧ (s.raiseFw mv).life.otp = s.life.otp := by
  unfold State.raiseFw
  repeat' split
  all_goals simp
@[simp] theorem State.cutBurn_pmem (s : State) : (s.cutBurn).pending = s.pending ∧ (s.cutBurn).mem = s.mem := by
  unfold State.cutBurn State.draw
  split
  · split
    · simp
    · simp
  · simp
@[simp] theorem State.finishChunk_kept (s : State) :
    (State.finishChunk s).pending = s.pending ∧ (State.finishChunk s).mem = s.mem ∧
    (State.finishChunk s).life.otp = s.life.otp := by
  unfold State.finishChunk
  split <;> simp
@[simp] theorem State.vauxFall_pend (s : State) : s.vauxFall.pending = s.pending := by
  unfold State.vauxFall
  split <;> simp
@[simp] theorem State.vauxFall_wf (s : State) (h : Memory.wf s.mem = true) : Memory.wf s.vauxFall.mem = true := by
  unfold State.vauxFall
  split <;> simp [h]
@[simp] theorem State.chunkDone_kept (s : State) :
    s.chunkDone.pending = s.pending ∧ s.chunkDone.mem = s.mem ∧ s.chunkDone.life.otp = s.life.otp := by
  simp only [State.chunkDone]
  repeat' split
  all_goals simp
@[simp] theorem State.setStream_kept (s : State) (fw : Bool) (x : Stream) :
    (State.setStream s fw x).pending = s.pending ∧ (State.setStream s fw x).mem = s.mem ∧
    (State.setStream s fw x).life.otp = s.life.otp := ⟨rfl, rfl, rfl⟩
@[simp] theorem State.openSlot_kept (s : State) (fw : Bool) (k : Nat) (mb : Nat) :
    (State.openSlot s fw k mb).pending = s.pending ∧ (State.openSlot s fw k mb).mem = s.mem ∧
    (State.openSlot s fw k mb).life.otp = s.life.otp := ⟨rfl, rfl, rfl⟩
@[simp] theorem State.sealDone_kept (s : State) :
    (State.sealDone s).pending = s.pending ∧ (State.sealDone s).mem = s.mem ∧
    (State.sealDone s).life.otp = s.life.otp := by
  unfold State.sealDone
  split <;> simp
@[simp] theorem State.setIsl_kept (s : State) (x : Island) :
    (State.setIsl s x).pending = s.pending ∧ (State.setIsl s x).mem = s.mem ∧
    (State.setIsl s x).life.otp = s.life.otp := ⟨rfl, rfl, rfl⟩
@[simp] theorem State.bwReply_kept (s : State) (f : HostFrame) (a : Nat) (status : Nat) (data : List Byte) :
    (State.bwReply s f a status data).pending = s.pending ∧ (State.bwReply s f a status data).mem = s.mem ∧
    (State.bwReply s f a status data).life.otp = s.life.otp := by
  simp [State.bwReply]
@[simp] theorem State.hostRequest_kept (s : State) (f : HostFrame) :
    (State.hostRequest s f).pending = s.pending ∧ (State.hostRequest s f).mem = s.mem ∧
    (State.hostRequest s f).life.otp = s.life.otp := by
  simp [State.hostRequest]
@[simp] theorem State.hostStatus_kept (s : State) (f : HostFrame) :
    (State.hostStatus s f).pending = s.pending ∧ (State.hostStatus s f).mem = s.mem ∧
    (State.hostStatus s f).life.otp = s.life.otp := by
  simp [State.hostStatus]
@[simp] theorem State.hostResponse_kept (s : State) (f : HostFrame) :
    (State.hostResponse s f).pending = s.pending ∧ (State.hostResponse s f).mem = s.mem ∧
    (State.hostResponse s f).life.otp = s.life.otp := by
  simp [State.hostResponse]
@[simp] theorem State.hostAck_kept (s : State) (f : HostFrame) :
    (State.hostAck s f).pending = s.pending ∧ (State.hostAck s f).mem = s.mem ∧
    (State.hostAck s f).life.otp = s.life.otp := by
  simp [State.hostAck]
@[simp] theorem State.mirror_kept (s : State)  :
    (s.mirror).pending = s.pending ∧ (s.mirror).mem = s.mem ∧ (s.mirror).life.otp = s.life.otp := by
  simp [State.mirror]
@[simp] theorem State.hostConsume_kept (s : State) (n : Nat) (clear : Bool) :
    (s.hostConsume n clear).pending = s.pending ∧ (s.hostConsume n clear).mem = s.mem ∧ (s.hostConsume n clear).life.otp = s.life.otp := by
  simp only [State.hostConsume]
  repeat' split
  all_goals simp
@[simp] theorem State.hostEvents_kept (s : State) (f : HostFrame) :
    (State.hostEvents s f).pending = s.pending ∧ (State.hostEvents s f).mem = s.mem ∧
    (State.hostEvents s f).life.otp = s.life.otp := by
  simp only [State.hostEvents]
  repeat' split
  all_goals simp
@[simp] theorem State.hostMask_kept (s : State) (f : HostFrame) :
    (State.hostMask s f).pending = s.pending ∧ (State.hostMask s f).mem = s.mem ∧
    (State.hostMask s f).life.otp = s.life.otp := by
  simp [State.hostMask]
@[simp] theorem State.hostSearch_kept (s : State) (f : HostFrame) :
    (State.hostSearch s f).pending = s.pending ∧ (State.hostSearch s f).mem = s.mem ∧
    (State.hostSearch s f).life.otp = s.life.otp := ⟨rfl, rfl, rfl⟩
@[simp] theorem State.hostIdentify_kept (s : State) (f : HostFrame) :
    (State.hostIdentify s f).pending = s.pending ∧ (State.hostIdentify s f).mem = s.mem ∧
    (State.hostIdentify s f).life.otp = s.life.otp := by
  simp [State.hostIdentify]
@[simp] theorem State.hostAssign_kept (s : State) (f : HostFrame) :
    (State.hostAssign s f).pending = s.pending ∧ (State.hostAssign s f).mem = s.mem ∧
    (State.hostAssign s f).life.otp = s.life.otp := by
  simp [State.hostAssign]
@[simp] theorem State.hostFrame_kept (s : State) (typ : Nat) (b : List Byte) :
    (State.hostFrame s typ b).pending = s.pending ∧ (State.hostFrame s typ b).mem = s.mem ∧
    (State.hostFrame s typ b).life.otp = s.life.otp := by
  simp only [State.hostFrame]
  repeat' split
  all_goals simp
@[simp] theorem State.barrierResponse_kept (s : State) :
    (State.barrierResponse s).pending = s.pending ∧ (State.barrierResponse s).mem = s.mem ∧
    (State.barrierResponse s).life.otp = s.life.otp := by
  simp [State.barrierResponse]
@[simp] theorem State.heartbeatLoss_kept (s : State) :
    (State.heartbeatLoss s).pending = s.pending ∧ (State.heartbeatLoss s).mem = s.mem ∧
    (State.heartbeatLoss s).life.otp = s.life.otp := ⟨rfl, rfl, rfl⟩
@[simp] theorem State.resync_kept (s : State) :
    (State.resync s).pending = s.pending ∧ (State.resync s).mem = s.mem ∧ (State.resync s).life.otp = s.life.otp := by
  simp [State.resync]
@[simp] theorem State.vhostDown_kept (s : State) :
    (State.vhostDown s).pending = s.pending ∧ (State.vhostDown s).mem = s.mem ∧
    (State.vhostDown s).life.otp = s.life.otp := ⟨rfl, rfl, rfl⟩
@[simp] theorem State.holdClash_kept (s : State) (k : Nat) (r : Nat) :
    (State.holdClash s k r).pending = s.pending ∧ (State.holdClash s k r).mem = s.mem ∧
    (State.holdClash s k r).life.otp = s.life.otp := by
  simp [State.holdClash]
@[simp] theorem State.contention_kept (s : State) (k : Nat) :
    (State.contention s k).pending = s.pending ∧ (State.contention s k).mem = s.mem ∧
    (State.contention s k).life.otp = s.life.otp := by
  unfold State.contention
  split <;> simp
@[simp] theorem State.readEffect_kept (s : State) (a : Nat) :
    (State.readEffect s a).pending = s.pending ∧ (State.readEffect s a).mem = s.mem ∧
    (State.readEffect s a).life.otp = s.life.otp := by
  unfold State.readEffect
  split <;> simp
@[simp] theorem State.plainWrite_kept (s : State) (a : Nat) (v : Nat) :
    (State.plainWrite s a v).pending = s.pending ∧ (State.plainWrite s a v).mem = s.mem ∧
    (State.plainWrite s a v).life.otp = s.life.otp := ⟨rfl, rfl, rfl⟩
@[simp] theorem State.qcCmd_kept (s : State) (q : Nat) (v : Nat) :
    (State.qcCmd s q v).pending = s.pending ∧ (State.qcCmd s q v).mem = s.mem ∧
    (State.qcCmd s q v).life.otp = s.life.otp := by
  simp [State.qcCmd]
@[simp] theorem State.tickCmd_kept (s : State) (v : Nat) :
    (State.tickCmd s v).pending = s.pending ∧ (State.tickCmd s v).mem = s.mem ∧
    (State.tickCmd s v).life.otp = s.life.otp := by
  simp [State.tickCmd]
@[simp] theorem State.laneCmd_kept (s : State) (n : Nat) (v : Nat) :
    (State.laneCmd s n v).pending = s.pending ∧ (State.laneCmd s n v).mem = s.mem ∧
    (State.laneCmd s n v).life.otp = s.life.otp := by
  simp [State.laneCmd]
@[simp] theorem State.doorbell_kept (s : State) (m : Nat) (v : Nat) :
    (State.doorbell s m v).pending = s.pending ∧ (State.doorbell s m v).mem = s.mem ∧
    (State.doorbell s m v).life.otp = s.life.otp := by
  simp [State.doorbell]
@[simp] theorem State.writeCk_kept (s : State) (off : Nat) (v : Nat) :
    (State.writeCk s off v).pending = s.pending ∧ (State.writeCk s off v).mem = s.mem ∧
    (State.writeCk s off v).life.otp = s.life.otp := by
  simp only [State.writeCk]
  repeat' (first | split | simp)
@[simp] theorem State.writeReg_potp (s : State) (a : Nat) (v : Nat) :
    (State.writeReg s a v).pending = s.pending ∧ (State.writeReg s a v).life.otp = s.life.otp := by
  simp only [State.writeReg]
  repeat' (first | split | simp)
@[simp] theorem State.writeReg_wf (s : State) (a : Nat) (v : Nat) (h : Memory.wf s.mem = true) :
    Memory.wf (State.writeReg s a v).mem = true := by
  simp only [State.writeReg]
  repeat' (first | split | simp [h])
@[simp] theorem State.registerWrite_potp (s : State) (a : Nat) (v : Nat) :
    (State.registerWrite s a v).pending = s.pending ∧ (State.registerWrite s a v).life.otp = s.life.otp := by
  simp [State.registerWrite]
@[simp] theorem State.registerWrite_wf (s : State) (a : Nat) (v : Nat) (h : Memory.wf s.mem = true) :
    Memory.wf (State.registerWrite s a v).mem = true := by
  simp [State.registerWrite, h]
@[simp] theorem State.windowRead_kept (s : State) (off : Nat) (wide : Bool) :
    (State.windowRead s off wide).2.pending = s.pending ∧ (State.windowRead s off wide).2.mem = s.mem ∧
    (State.windowRead s off wide).2.life.otp = s.life.otp := by
  simp [State.windowRead]
@[simp] theorem State.windowWrite_potp (s : State) (off : Nat) (wide : Bool) (v : Nat) :
    (State.windowWrite s off wide v).pending = s.pending ∧ (State.windowWrite s off wide v).life.otp = s.life.otp := by
  simp [State.windowWrite]
@[simp] theorem State.windowWrite_wf (s : State) (off : Nat) (wide : Bool) (v : Nat) (h : Memory.wf s.mem = true) :
    Memory.wf (State.windowWrite s off wide v).mem = true := by
  simp [State.windowWrite, h]
@[simp] theorem State.access_potp (s : State) (n : Nat) (dst : Nat) (a : Nat) (write : Bool) (wide : Bool) (v : Nat) :
    (State.access s n dst a write wide v).2.pending = s.pending ∧
    (State.access s n dst a write wide v).2.life.otp = s.life.otp := by
  simp only [State.access]
  repeat' (first | split | simp)
@[simp] theorem State.access_wf (s : State) (n : Nat) (dst : Nat) (a : Nat) (write : Bool) (wide : Bool) (v : Nat) (h : Memory.wf s.mem = true) :
    Memory.wf (State.access s n dst a write wide v).2.mem = true := by
  simp only [State.access]
  repeat' (first | split | simp [h])
@[simp] theorem State.serveRequest_potp (s : State) (src dst : Nat) (p : Packet) :
    (s.serveRequest src dst p).pending = s.pending ∧ (s.serveRequest src dst p).life.otp = s.life.otp := by
  simp only [State.serveRequest]
  repeat' split
  all_goals simp
@[simp] theorem State.serveRequest_wf (s : State) (src dst : Nat) (p : Packet) (hs : Memory.wf s.mem = true) :
    Memory.wf (s.serveRequest src dst p).mem = true := by
  simp only [State.serveRequest]
  repeat' split
  all_goals simp [hs]
@[simp] theorem State.csrRequest_potp (s : State) (src dst typ : Nat) :
    (s.csrRequest src dst typ).pending = s.pending ∧ (s.csrRequest src dst typ).life.otp = s.life.otp := by
  simp only [State.csrRequest]
  repeat' split
  all_goals simp
@[simp] theorem State.csrRequest_wf (s : State) (src dst typ : Nat) (hs : Memory.wf s.mem = true) :
    Memory.wf (s.csrRequest src dst typ).mem = true := by
  simp only [State.csrRequest]
  repeat' split
  all_goals simp [hs]
@[simp] theorem State.cross_kept (s : State) (p : Packet) (l : List Hop) :
    (s.cross p l).2.pending = s.pending ∧ (s.cross p l).2.mem = s.mem ∧ (s.cross p l).2.life.otp = s.life.otp := by
  induction l generalizing s with
  | nil => simp [State.cross]
  | cons h l ih => simp only [State.cross]; repeat' split
                   all_goals simp [ih]
@[simp] theorem State.crossing_kept (s : State) (p : Packet) :
    (s.crossing p).2.pending = s.pending ∧ (s.crossing p).2.mem = s.mem ∧ (s.crossing p).2.life.otp = s.life.otp :=
  s.cross_kept p _
@[simp] theorem State.headlandAnswer_kept (s : State) (q : Packet) (st x : Nat) :
    (s.headlandAnswer q st x).2.pending = s.pending ∧ (s.headlandAnswer q st x).2.mem = s.mem ∧
    (s.headlandAnswer q st x).2.life.otp = s.life.otp := by
  have h := s.crossing_kept q
  unfold State.headlandAnswer
  generalize s.crossing q = y at h ⊢
  exact h
@[simp] theorem State.headlandReply_kept (s : State) (who : Nat) (p : Packet) (st x : Nat) :
    (s.headlandReply who p st x).2.pending = s.pending ∧ (s.headlandReply who p st x).2.mem = s.mem ∧
    (s.headlandReply who p st x).2.life.otp = s.life.otp := s.headlandAnswer_kept ..
theorem State.headlandTrip_rel (s : State) (p : Packet) (dst : Nat) (f : State → (Nat × Nat) × State) (P : State → Prop)
    (R : (Nat × Nat) × State → Prop) (hr : ∀ s who p st x, P s → R (State.headlandReply s who p st x))
    (hx : ∀ s, P s → P (f s).2) (hc : P (s.crossing p).2) (ho : R ((stTIMEOUT, 0), s)) :
    R (s.headlandTrip p dst f) := by
  unfold State.headlandTrip
  split
  · exact ho
  · generalize s.crossing p = x at hc ⊢
    obtain ⟨_ | y, t⟩ := x
    · dsimp only at hc ⊢
      split <;> split
      all_goals first
        | exact hr _ _ _ _ _ hc
        | exact hr _ _ _ _ _ (hx _ hc)
    · exact hr _ _ _ _ _ hc
theorem State.headlandTrip_potp (s : State) (p : Packet) (dst : Nat) (f : State → (Nat × Nat) × State)
    (hf : ∀ t, (f t).2.pending = t.pending ∧ (f t).2.life.otp = t.life.otp) :
    (s.headlandTrip p dst f).2.pending = s.pending ∧ (s.headlandTrip p dst f).2.life.otp = s.life.otp :=
  s.headlandTrip_rel p dst f (fun t => t.pending = s.pending ∧ t.life.otp = s.life.otp)
    (fun x => x.2.pending = s.pending ∧ x.2.life.otp = s.life.otp) (fun _ _ _ _ _ h => by simp [h]) (fun _ h => by simp [hf, h])
    (by simp) ⟨rfl, rfl⟩
theorem State.headlandTrip_wf (s : State) (p : Packet) (dst : Nat) (f : State → (Nat × Nat) × State)
    (hf : ∀ t, Memory.wf t.mem = true → Memory.wf (f t).2.mem = true)
    (hs : Memory.wf s.mem = true) : Memory.wf (s.headlandTrip p dst f).2.mem = true :=
  s.headlandTrip_rel p dst f (fun t => Memory.wf t.mem = true) (fun x => Memory.wf x.2.mem = true)
    (fun _ _ _ _ _ h => by simp [h]) (fun _ h => hf _ h) (by simp [hs]) hs
@[simp] theorem State.headlandAccess_potp (s : State) (a : Nat) (write : Bool) (wide : Bool) (v : Nat) :
    (State.headlandAccess s a write wide v).2.pending = s.pending ∧
    (State.headlandAccess s a write wide v).2.life.otp = s.life.otp := by
  have h (p dst w) := s.headlandTrip_potp p dst (fun t => t.access 3 dst a write wide w) (fun t => by simp)
  simp only [State.headlandAccess]
  repeat' (first | split | simp [h])
@[simp] theorem State.headlandAccess_wf (s : State) (a : Nat) (write : Bool) (wide : Bool) (v : Nat) (h : Memory.wf s.mem = true) :
    Memory.wf (State.headlandAccess s a write wide v).2.mem = true := by
  have ht (p dst w) := s.headlandTrip_wf p dst (fun t => t.access 3 dst a write wide w) (fun t hh => by simp [hh]) h
  simp only [State.headlandAccess]
  repeat' (first | split | simp [h, ht])
@[simp] theorem State.serviceStart_kept (s : State) :
    (State.serviceStart s).pending = s.pending ∧ (State.serviceStart s).mem = s.mem ∧
    (State.serviceStart s).life.otp = s.life.otp := by
  simp only [State.serviceStart]
  repeat' (first | split | simp)
theorem request_kept (s : State) (op : Nat) (f : Service → State → State) (h : ∀ p t, (f p t).pending = t.pending ∧ (f p t).mem = t.mem ∧ (f p t).life.otp = t.life.otp) :
    (s.request op f).pending = s.pending ∧ (s.request op f).mem = s.mem ∧ (s.request op f).life.otp = s.life.otp := by
  unfold State.request
  split
  · split <;> simp [h]
  · simp
theorem request_potp (s : State) (op : Nat) (f : Service → State → State) (h : ∀ p t, (f p t).pending = t.pending ∧ (f p t).life.otp = t.life.otp) :
    (s.request op f).pending = s.pending ∧ (s.request op f).life.otp = s.life.otp := by
  unfold State.request
  split
  · split <;> simp [h]
  · simp
theorem request_wf (s : State) (op : Nat) (f : Service → State → State) (h : ∀ p t, Memory.wf t.mem = true → Memory.wf (f p t).mem = true) (hs : Memory.wf s.mem = true) :
    Memory.wf (s.request op f).mem = true := by
  unfold State.request
  split
  · split
    · exact h _ _ hs
    · exact hs
  · exact hs
@[simp] theorem State.serviceTimeout_kept (s : State) :
    (State.serviceTimeout s).pending = s.pending ∧ (State.serviceTimeout s).mem = s.mem ∧
    (State.serviceTimeout s).life.otp = s.life.otp := by
  unfold State.serviceTimeout
  split <;> simp
@[simp] theorem State.postLatch_kept (s : State) (l : Latch) :
    (State.postLatch s l).pending = s.pending ∧ (State.postLatch s l).mem = s.mem ∧
    (State.postLatch s l).life.otp = s.life.otp := by
  simp [State.postLatch]
@[simp] theorem State.postDirected_kept (s : State) (d : Directed) :
    (State.postDirected s d).pending = s.pending ∧ (State.postDirected s d).mem = s.mem ∧
    (State.postDirected s d).life.otp = s.life.otp := by
  simp [State.postDirected]
@[simp] theorem State.finishReports_kept (s : State) :
    (State.finishReports s).pending = s.pending ∧ (State.finishReports s).mem = s.mem ∧
    (State.finishReports s).life.otp = s.life.otp := by
  simp [State.finishReports]
@[simp] theorem State.jobSlice_kept (s : State) :
    (State.jobSlice s).pending = s.pending ∧ (State.jobSlice s).mem = s.mem ∧
    (State.jobSlice s).life.otp = s.life.otp := by
  simp [State.jobSlice]
@[simp] theorem State.abandonLoad_potp (s : State) :
    (State.abandonLoad s).pending = s.pending ∧ (State.abandonLoad s).life.otp = s.life.otp := by
  simp [State.abandonLoad]
@[simp] theorem State.abandonLoad_wf (s : State) (h : Memory.wf s.mem = true) :
    Memory.wf (State.abandonLoad s).mem = true := by
  simp [State.abandonLoad, h]
@[simp] theorem State.restart_potp (s : State) (cause : Nat) :
    (s.restart cause).pending = s.pending ∧ (s.restart cause).life.otp = s.life.otp := by
  simp only [State.restart]
  split <;> simp
@[simp] theorem State.restart_wf (s : State) (cause : Nat) (h : Memory.wf s.mem = true) :
    Memory.wf (s.restart cause).mem = true := by
  simp only [State.restart]
  split <;> simp [h]
@[simp] theorem State.resume_potp (s : State) (k : Nat) :
    (s.resume k).pending = s.pending ∧ (s.resume k).life.otp = s.life.otp := by
  simp only [State.resume]
  repeat' split
  all_goals simp
@[simp] theorem State.resume_wf (s : State) (k : Nat) (hs : Memory.wf s.mem = true) :
    Memory.wf (s.resume k).mem = true := by
  simp only [State.resume]
  repeat' split
  all_goals simp [hs]
@[simp] theorem State.restartDone_potp (s : State) :
    (State.restartDone s).pending = s.pending ∧ (State.restartDone s).life.otp = s.life.otp := by
  simp [State.restartDone]
@[simp] theorem State.restartDone_wf (s : State) (h : Memory.wf s.mem = true) :
    Memory.wf (State.restartDone s).mem = true := by
  simp [State.restartDone, h]
@[simp] theorem State.identify_kept (v : Service) (s : State) :
    (State.identify v s).pending = s.pending ∧ (State.identify v s).mem = s.mem ∧
    (State.identify v s).life.otp = s.life.otp := by
  simp [State.identify]
@[simp] theorem State.status_kept (v : Service) (s : State) :
    (State.status v s).pending = s.pending ∧ (State.status v s).mem = s.mem ∧
    (State.status v s).life.otp = s.life.otp := by
  simp [State.status]
@[simp] theorem State.loadStart_kept (v : Service) (s : State) :
    (State.loadStart v s).pending = s.pending ∧ (State.loadStart v s).mem = s.mem ∧
    (State.loadStart v s).life.otp = s.life.otp := by
  unfold State.loadStart
  split <;> simp
@[simp] theorem State.loadData_kept (v : Service) (s : State) :
    (State.loadData v s).pending = s.pending ∧ (State.loadData v s).mem = s.mem ∧
    (State.loadData v s).life.otp = s.life.otp := by
  simp [State.loadData]
@[simp] theorem State.loadAbort_potp (v : Service) (s : State) :
    (State.loadAbort v s).pending = s.pending ∧ (State.loadAbort v s).life.otp = s.life.otp := by
  simp [State.loadAbort]
@[simp] theorem State.loadAbort_wf (v : Service) (s : State) (h : Memory.wf s.mem = true) :
    Memory.wf (State.loadAbort v s).mem = true := by
  simp [State.loadAbort, h]
@[simp] theorem State.readReport_kept (v : Service) (s : State) :
    (State.readReport v s).pending = s.pending ∧ (State.readReport v s).mem = s.mem ∧
    (State.readReport v s).life.otp = s.life.otp := by
  simp [State.readReport]
@[simp] theorem State.loadGroup_kept (v : Service) (s : State) :
    (State.loadGroup v s).pending = s.pending ∧ (State.loadGroup v s).mem = s.mem ∧
    (State.loadGroup v s).life.otp = s.life.otp := by
  simp [State.loadGroup]
@[simp] theorem State.seqStatus_kept (v : Service) (s : State) :
    (State.seqStatus v s).pending = s.pending ∧ (State.seqStatus v s).mem = s.mem ∧
    (State.seqStatus v s).life.otp = s.life.otp := by
  simp [State.seqStatus]
@[simp] theorem State.declareStep_kept (v : Service) (s : State) :
    (State.declareStep v s).pending = s.pending ∧ (State.declareStep v s).mem = s.mem ∧
    (State.declareStep v s).life.otp = s.life.otp := by
  simp [State.declareStep]
@[simp] theorem State.schedStage_kept (v : Service) (s : State) :
    (State.schedStage v s).pending = s.pending ∧ (State.schedStage v s).mem = s.mem ∧
    (State.schedStage v s).life.otp = s.life.otp := by
  simp [State.schedStage]
@[simp] theorem State.schedCommit_kept (v : Service) (s : State) :
    (State.schedCommit v s).pending = s.pending ∧ (State.schedCommit v s).mem = s.mem ∧
    (State.schedCommit v s).life.otp = s.life.otp := by
  unfold State.schedCommit
  split <;> simp
@[simp] theorem State.schedDiscard_kept (v : Service) (s : State) :
    (State.schedDiscard v s).pending = s.pending ∧ (State.schedDiscard v s).mem = s.mem ∧
    (State.schedDiscard v s).life.otp = s.life.otp := by
  simp [State.schedDiscard]
@[simp] theorem State.regionRelease_kept (v : Service) (s : State) :
    (State.regionRelease v s).pending = s.pending ∧ (State.regionRelease v s).mem = s.mem ∧
    (State.regionRelease v s).life.otp = s.life.otp := by
  unfold State.regionRelease
  split <;> simp
@[simp] theorem State.regionStatus_kept (v : Service) (s : State) :
    (State.regionStatus v s).pending = s.pending ∧ (State.regionStatus v s).mem = s.mem ∧
    (State.regionStatus v s).life.otp = s.life.otp := by
  simp [State.regionStatus]
@[simp] theorem State.qdescSet_kept (v : Service) (s : State) :
    (State.qdescSet v s).pending = s.pending ∧ (State.qdescSet v s).mem = s.mem ∧
    (State.qdescSet v s).life.otp = s.life.otp := by
  unfold State.qdescSet
  split <;> simp
@[simp] theorem State.lutSwap_kept (v : Service) (s : State) :
    (State.lutSwap v s).pending = s.pending ∧ (State.lutSwap v s).mem = s.mem ∧
    (State.lutSwap v s).life.otp = s.life.otp := by
  unfold State.lutSwap
  split <;> simp
theorem State.queueTrip_snd (s : State) (q off : Nat) (write : Bool) (v : Nat) (f : State → State) :
    (s.queueTrip q off write v f).2 = (s.headlandTrip (headlandPacket (clusterNode (q / 12)) (QC q off) write v (s.freeTag.getD 0))
      (clusterNode (q / 12)) (fun t => ((0, 0), f t))).2 := by
  have h : ∀ x : (Nat × Nat) × State, ((x.1.1, x.2) : Nat × State).2 = x.2 := fun _ => rfl
  exact h _
theorem State.queueTrip_fst (s : State) (q off : Nat) (write : Bool) (v : Nat) (f : State → State) :
    (s.queueTrip q off write v f).1 = (s.headlandTrip (headlandPacket (clusterNode (q / 12)) (QC q off) write v (s.freeTag.getD 0))
      (clusterNode (q / 12)) (fun t => ((0, 0), f t))).1.1 := by
  have h : ∀ x : (Nat × Nat) × State, ((x.1.1, x.2) : Nat × State).1 = x.1.1 := fun _ => rfl
  exact h _
theorem State.queueTrip_potp (s : State) (q off : Nat) (write : Bool) (v : Nat) (f : State → State)
    (hf : ∀ t, (f t).pending = t.pending ∧ (f t).life.otp = t.life.otp) :
    (s.queueTrip q off write v f).2.pending = s.pending ∧ (s.queueTrip q off write v f).2.life.otp = s.life.otp := by
  rw [State.queueTrip_snd]
  exact s.headlandTrip_potp _ _ (fun t => ((0, 0), f t)) hf
theorem State.queueTrip_wf (s : State) (q off : Nat) (write : Bool) (v : Nat) (f : State → State)
    (hf : ∀ t, Memory.wf t.mem = true → Memory.wf (f t).mem = true) (hs : Memory.wf s.mem = true) :
    Memory.wf (s.queueTrip q off write v f).2.mem = true := by
  rw [State.queueTrip_snd]
  exact s.headlandTrip_wf _ _ (fun t => ((0, 0), f t)) hf hs
@[simp] theorem State.queueCmd_potp (v : Service) (s : State) :
    (State.queueCmd v s).pending = s.pending ∧ (State.queueCmd v s).life.otp = s.life.otp := by
  have h := s.queueTrip_potp (v.q 0) 0x80 true (v.u 2 1) (fun t => t.qcCmd (v.q 0) (v.u 2 1)) (fun t => by simp)
  simp [State.queueCmd, h]
@[simp] theorem State.queueCmd_wf (v : Service) (s : State) (hs : Memory.wf s.mem = true) :
    Memory.wf (State.queueCmd v s).mem = true := by
  have h := s.queueTrip_wf (v.q 0) 0x80 true (v.u 2 1) (fun t => t.qcCmd (v.q 0) (v.u 2 1)) (fun t ht => by simp [ht]) hs
  simp [State.queueCmd, h, hs]
@[simp] theorem State.accRest_potp (s : State) (q : Nat) (write : Bool) :
    (s.accRest q write).pending = s.pending ∧ (s.accRest q write).life.otp = s.life.otp := by
  have h (t : State) (off : Nat) (w : Bool) := t.queueTrip_potp q off w 0 id (fun _ => ⟨rfl, rfl⟩)
  unfold State.accRest
  simp only [h, and_self]
@[simp] theorem State.accRest_wf (s : State) (q : Nat) (write : Bool) (hs : Memory.wf s.mem = true) :
    Memory.wf (s.accRest q write).mem = true := by
  have h (t : State) (ht : Memory.wf t.mem = true) (off : Nat) (w : Bool) := t.queueTrip_wf q off w 0 id (fun _ h => h) ht
  exact h _ (h _ (h _ hs _ _) _ _) _ _
@[simp] theorem State.accGo_potp (s : State) (q o : Nat) (write : Bool) :
    (s.accGo q o write).pending = s.pending ∧ (s.accGo q o write).life.otp = s.life.otp := by
  simp [State.accGo]
@[simp] theorem State.accGo_wf (s : State) (q o : Nat) (write : Bool) (hs : Memory.wf s.mem = true) :
    Memory.wf (s.accGo q o write).mem = true := by
  simp [State.accGo, hs]
@[simp] theorem State.accRead_potp (s : State) (q : Nat) (o : Nat) :
    (State.accRead s q o).2.pending = s.pending ∧ (State.accRead s q o).2.life.otp = s.life.otp := by
  have h := s.queueTrip_potp q 0x90 true o (fun t => t.accGo q o false) (fun t => by simp)
  unfold State.accRead
  generalize s.queueTrip q 0x90 true o (fun t => t.accGo q o false) = x at h ⊢
  obtain ⟨st, t⟩ := x
  dsimp only at h ⊢
  split <;> simp [h]
@[simp] theorem State.accRead_wf (s : State) (q : Nat) (o : Nat) (hs : Memory.wf s.mem = true) :
    Memory.wf (State.accRead s q o).2.mem = true := by
  have h := s.queueTrip_wf q 0x90 true o (fun t => t.accGo q o false) (fun t ht => by simp [ht]) hs
  unfold State.accRead
  generalize s.queueTrip q 0x90 true o (fun t => t.accGo q o false) = x at h ⊢
  obtain ⟨st, t⟩ := x
  dsimp only at h ⊢
  split <;> simp [h]
@[simp] theorem State.accPut_potp (s : State) (q : Nat) (o : Nat) (x : Nat) :
    (State.accPut s q o x).2.pending = s.pending ∧ (State.accPut s q o x).2.life.otp = s.life.otp := by
  have h := s.queueTrip_potp q 0x90 true o (fun t => ((t.setReg (QC q 0x94) x).setReg (QC q 0x98) (x / 2 ^ 32)).accGo q o true)
    (fun t => by simp)
  unfold State.accPut
  generalize s.queueTrip q 0x90 true o
    (fun t => ((t.setReg (QC q 0x94) x).setReg (QC q 0x98) (x / 2 ^ 32)).accGo q o true) = y at h ⊢
  obtain ⟨st, t⟩ := y
  dsimp only at h ⊢
  split <;> simp [h]
@[simp] theorem State.accPut_wf (s : State) (q : Nat) (o : Nat) (x : Nat) (hs : Memory.wf s.mem = true) :
    Memory.wf (State.accPut s q o x).2.mem = true := by
  have h := s.queueTrip_wf q 0x90 true o (fun t => ((t.setReg (QC q 0x94) x).setReg (QC q 0x98) (x / 2 ^ 32)).accGo q o true)
    (fun t ht => by simp [ht]) hs
  unfold State.accPut
  generalize s.queueTrip q 0x90 true o
    (fun t => ((t.setReg (QC q 0x94) x).setReg (QC q 0x98) (x / 2 ^ 32)).accGo q o true) = y at h ⊢
  obtain ⟨st, t⟩ := y
  dsimp only at h ⊢
  split <;> simp [h]
theorem State.accReads_rel (s : State) (q o n : Nat) (P : State → Prop) (hr : ∀ t o, P t → P (State.accRead t q o).2)
    (hs : P s) : P (s.accReads q o n).2 := by
  induction n generalizing s o with
  | zero => exact hs
  | succ n ih =>
    unfold State.accReads
    have h := hr s o hs
    generalize s.accRead q o = x at h ⊢
    obtain ⟨⟨st, v, ce, ue⟩, t⟩ := x
    have h2 := ih t (o + 1) h
    dsimp only
    split
    · exact h
    · generalize t.accReads q (o + 1) n = y at h2 ⊢
      obtain ⟨⟨st, vs, u, c⟩, t2⟩ := y
      exact h2
theorem State.accPuts_rel (s : State) (q o : Nat) (l : List Nat) (P : State → Prop)
    (hr : ∀ t o x, P t → P (State.accPut t q o x).2) (hs : P s) : P (s.accPuts q o l).2 := by
  induction l generalizing s o with
  | nil => exact hs
  | cons x l ih =>
    unfold State.accPuts
    have h := hr s o x hs
    generalize s.accPut q o x = y at h ⊢
    obtain ⟨st, t⟩ := y
    dsimp only
    split
    · exact h
    · exact ih t (o + 1) h
theorem State.qwordRead_rel (v : Service) (s : State) (P : State → Prop) (hr : ∀ t q o, P t → P (State.accRead t q o).2)
    (hok : ∀ t b, P t → P (State.ok t v b)) (he : ∀ t a b, P t → P (State.err t v a b)) (hs : P s) : P (State.qwordRead v s) := by
  unfold State.qwordRead
  split
  · exact he _ _ _ hs
  · split
    · exact hs
    · have h := s.accReads_rel (v.q 0) (v.u 4 4) (v.u 2 2) P (fun t o ht => hr t _ o ht) hs
      generalize s.accReads (v.q 0) (v.u 4 4) (v.u 2 2) = x at h ⊢
      obtain ⟨⟨st, a, b, c⟩, t⟩ := x
      dsimp only
      split
      · exact hok _ _ h
      · exact he _ _ _ h
theorem State.qwordWrite_rel (v : Service) (s : State) (P : State → Prop) (hr : ∀ t q o x, P t → P (State.accPut t q o x).2)
    (hok : ∀ t b, P t → P (State.ok t v b)) (he : ∀ t a b, P t → P (State.err t v a b)) (hs : P s) : P (State.qwordWrite v s) := by
  unfold State.qwordWrite
  split
  · exact he _ _ _ hs
  · split
    · exact hs
    · have h := s.accPuts_rel (v.q 0) (v.u 4 4) ((List.range (v.u 2 2)).map (fun i => v.u (8 + 8 * i) 8)) P
        (fun t o x ht => hr t _ o x ht) hs
      generalize s.accPuts (v.q 0) (v.u 4 4) ((List.range (v.u 2 2)).map (fun i => v.u (8 + 8 * i) 8)) = x at h ⊢
      obtain ⟨st, t⟩ := x
      dsimp only
      split
      · exact hok _ _ h
      · exact he _ _ _ h
@[simp] theorem State.qwordRead_potp (v : Service) (s : State) :
    (State.qwordRead v s).pending = s.pending ∧ (State.qwordRead v s).life.otp = s.life.otp :=
  State.qwordRead_rel v s (fun t => t.pending = s.pending ∧ t.life.otp = s.life.otp) (fun _ _ _ h => by simp [h])
    (fun _ _ h => by simp [h]) (fun _ _ _ h => by simp [h]) ⟨rfl, rfl⟩
@[simp] theorem State.qwordRead_wf (v : Service) (s : State) (hs : Memory.wf s.mem = true) :
    Memory.wf (State.qwordRead v s).mem = true :=
  State.qwordRead_rel v s (fun t => Memory.wf t.mem = true) (fun _ _ _ h => by simp [h]) (fun _ _ h => by simp [h])
    (fun _ _ _ h => by simp [h]) hs
@[simp] theorem State.qwordWrite_potp (v : Service) (s : State) :
    (State.qwordWrite v s).pending = s.pending ∧ (State.qwordWrite v s).life.otp = s.life.otp :=
  State.qwordWrite_rel v s (fun t => t.pending = s.pending ∧ t.life.otp = s.life.otp) (fun _ _ _ _ h => by simp [h])
    (fun _ _ h => by simp [h]) (fun _ _ _ h => by simp [h]) ⟨rfl, rfl⟩
@[simp] theorem State.qwordWrite_wf (v : Service) (s : State) (hs : Memory.wf s.mem = true) :
    Memory.wf (State.qwordWrite v s).mem = true :=
  State.qwordWrite_rel v s (fun t => Memory.wf t.mem = true) (fun _ _ _ _ h => by simp [h]) (fun _ _ h => by simp [h])
    (fun _ _ _ h => by simp [h]) hs
@[simp] theorem State.csrRead_potp (v : Service) (s : State) :
    (State.csrRead v s).pending = s.pending ∧ (State.csrRead v s).life.otp = s.life.otp := by
  simp [State.csrRead]
@[simp] theorem State.csrRead_wf (v : Service) (s : State) (h : Memory.wf s.mem = true) :
    Memory.wf (State.csrRead v s).mem = true := by
  simp [State.csrRead, h]
@[simp] theorem State.csrWrite_potp (v : Service) (s : State) :
    (State.csrWrite v s).pending = s.pending ∧ (State.csrWrite v s).life.otp = s.life.otp := by
  simp only [State.csrWrite]
  repeat' (first | split | simp)
@[simp] theorem State.csrWrite_wf (v : Service) (s : State) (h : Memory.wf s.mem = true) :
    Memory.wf (State.csrWrite v s).mem = true := by
  simp only [State.csrWrite]
  repeat' (first | split | simp [h])
@[simp] theorem State.routerSet_kept (drained : Bool) (d : Nat) (len : Nat) (v : Service) (s : State) :
    (State.routerSet drained d len v s).pending = s.pending ∧ (State.routerSet drained d len v s).mem = s.mem ∧
    (State.routerSet drained d len v s).life.otp = s.life.otp := by
  simp [State.routerSet]
@[simp] theorem State.takeAt_kept (s : State) (v : Service) (what : Change) :
    (State.takeAt s v what).pending = s.pending ∧ (State.takeAt s v what).mem = s.mem ∧
    (State.takeAt s v what).life.otp = s.life.otp := by
  unfold State.takeAt
  split <;> simp
@[simp] theorem State.setP_kept (v : Service) (s : State) :
    (State.setP v s).pending = s.pending ∧ (State.setP v s).mem = s.mem ∧ (State.setP v s).life.otp = s.life.otp := by
  simp [State.setP]
@[simp] theorem State.setTickCtrl_kept (v : Service) (s : State) :
    (State.setTickCtrl v s).pending = s.pending ∧ (State.setTickCtrl v s).mem = s.mem ∧
    (State.setTickCtrl v s).life.otp = s.life.otp := by
  simp [State.setTickCtrl]
@[simp] theorem State.setPreset_kept (v : Service) (s : State) :
    (State.setPreset v s).pending = s.pending ∧ (State.setPreset v s).mem = s.mem ∧
    (State.setPreset v s).life.otp = s.life.otp := by
  simp [State.setPreset]
@[simp] theorem State.setWave_kept (v : Service) (s : State) :
    (State.setWave v s).pending = s.pending ∧ (State.setWave v s).mem = s.mem ∧
    (State.setWave v s).life.otp = s.life.otp := by
  simp [State.setWave]
@[simp] theorem State.setPower_kept (v : Service) (s : State) :
    (State.setPower v s).pending = s.pending ∧ (State.setPower v s).mem = s.mem ∧
    (State.setPower v s).life.otp = s.life.otp := by
  simp [State.setPower]
@[simp] theorem State.setClock_kept (v : Service) (s : State) :
    (State.setClock v s).pending = s.pending ∧ (State.setClock v s).mem = s.mem ∧
    (State.setClock v s).life.otp = s.life.otp := by
  simp [State.setClock]
@[simp] theorem State.tempLimits_kept (v : Service) (s : State) :
    (State.tempLimits v s).pending = s.pending ∧ (State.tempLimits v s).mem = s.mem ∧
    (State.tempLimits v s).life.otp = s.life.otp := by
  simp [State.tempLimits]
theorem headOnly_kept (s : State) (v : Service) (f : Service → State → State) (h : ∀ p t, (f p t).pending = t.pending ∧ (f p t).mem = t.mem ∧ (f p t).life.otp = t.life.otp) :
    (State.headOnly f v s).pending = s.pending ∧ (State.headOnly f v s).mem = s.mem ∧
    (State.headOnly f v s).life.otp = s.life.otp := by
  unfold State.headOnly
  split <;> simp [h]
theorem headOnly_potp (s : State) (v : Service) (f : Service → State → State) (h : ∀ p t, (f p t).pending = t.pending ∧ (f p t).life.otp = t.life.otp) :
    (State.headOnly f v s).pending = s.pending ∧ (State.headOnly f v s).life.otp = s.life.otp := by
  unfold State.headOnly
  split <;> simp [h]
theorem headOnly_wf (s : State) (v : Service) (f : Service → State → State) (h : ∀ p t, Memory.wf t.mem = true → Memory.wf (f p t).mem = true) (hs : Memory.wf s.mem = true) :
    Memory.wf (State.headOnly f v s).mem = true := by
  unfold State.headOnly
  split
  · exact h _ _ hs
  · simp [hs]
@[simp] theorem State.chainRole_kept (v : Service) (s : State) :
    (State.chainRole v s).pending = s.pending ∧ (State.chainRole v s).mem = s.mem ∧
    (State.chainRole v s).life.otp = s.life.otp := by
  simp [State.chainRole]
@[simp] theorem State.chainGen_kept (v : Service) (s : State) :
    (State.chainGen v s).pending = s.pending ∧ (State.chainGen v s).mem = s.mem ∧
    (State.chainGen v s).life.otp = s.life.otp := by
  simp [State.chainGen]
@[simp] theorem State.chainCal_kept (v : Service) (s : State) :
    (State.chainCal v s).pending = s.pending ∧ (State.chainCal v s).mem = s.mem ∧
    (State.chainCal v s).life.otp = s.life.otp := by
  simp [State.chainCal]
@[simp] theorem State.rosterRead_kept (v : Service) (s : State) :
    (State.rosterRead v s).pending = s.pending ∧ (State.rosterRead v s).mem = s.mem ∧
    (State.rosterRead v s).life.otp = s.life.otp := by
  simp [State.rosterRead]
@[simp] theorem State.faultRead_kept (v : Service) (s : State) :
    (State.faultRead v s).pending = s.pending ∧ (State.faultRead v s).mem = s.mem ∧
    (State.faultRead v s).life.otp = s.life.otp := by
  simp [State.faultRead]
@[simp] theorem State.bcastStart_kept (v : Service) (s : State) :
    (State.bcastStart v s).pending = s.pending ∧ (State.bcastStart v s).mem = s.mem ∧
    (State.bcastStart v s).life.otp = s.life.otp := by
  simp [State.bcastStart]
@[simp] theorem State.bcastStatus_kept (v : Service) (s : State) :
    (State.bcastStatus v s).pending = s.pending ∧ (State.bcastStatus v s).mem = s.mem ∧
    (State.bcastStatus v s).life.otp = s.life.otp := by
  simp [State.bcastStatus]
@[simp] theorem State.bcastAbort_potp (v : Service) (s : State) :
    (State.bcastAbort v s).pending = s.pending ∧ (State.bcastAbort v s).life.otp = s.life.otp := by
  simp [State.bcastAbort]
@[simp] theorem State.bcastAbort_wf (v : Service) (s : State) (h : Memory.wf s.mem = true) :
    Memory.wf (State.bcastAbort v s).mem = true := by
  simp [State.bcastAbort, h]
@[simp] theorem State.forward_kept (v : Service) (s : State) :
    (State.forward v s).pending = s.pending ∧ (State.forward v s).mem = s.mem ∧
    (State.forward v s).life.otp = s.life.otp := by
  unfold State.forward
  split <;> simp
@[simp] theorem State.fetch_kept (v : Service) (s : State) :
    (State.fetch v s).pending = s.pending ∧ (State.fetch v s).mem = s.mem ∧ (State.fetch v s).life.otp = s.life.otp := by
  unfold State.fetch
  split <;> simp
@[simp] theorem State.remoteEvents_kept (v : Service) (s : State) :
    (State.remoteEvents v s).pending = s.pending ∧ (State.remoteEvents v s).mem = s.mem ∧
    (State.remoteEvents v s).life.otp = s.life.otp := by
  simp [State.remoteEvents]
@[simp] theorem State.lcRead_kept (v : Service) (s : State) :
    (State.lcRead v s).pending = s.pending ∧ (State.lcRead v s).mem = s.mem ∧
    (State.lcRead v s).life.otp = s.life.otp := by
  simp [State.lcRead]
@[simp] theorem State.takeBurn_kept (s : State) (v : Service) (mv : Nat) (g : Nat) (x : Nat) :
    (State.takeBurn s v mv g x).pending = s.pending ∧ (State.takeBurn s v mv g x).mem = s.mem ∧
    (State.takeBurn s v mv g x).life.otp = s.life.otp := by
  simp [State.takeBurn]
@[simp] theorem State.lcTransition_kept (mv : Nat) (v : Service) (s : State) :
    (State.lcTransition mv v s).pending = s.pending ∧ (State.lcTransition mv v s).mem = s.mem ∧
    (State.lcTransition mv v s).life.otp = s.life.otp := by
  unfold State.lcTransition
  repeat' split
  all_goals simp
@[simp] theorem State.secBurn_kept (mv : Nat) (v : Service) (s : State) :
    (State.secBurn mv v s).pending = s.pending ∧ (State.secBurn mv v s).mem = s.mem ∧
    (State.secBurn mv v s).life.otp = s.life.otp := by
  simp [State.secBurn]
@[simp] theorem State.rollbackSet_kept (mv : Nat) (v : Service) (s : State) :
    (State.rollbackSet mv v s).pending = s.pending ∧ (State.rollbackSet mv v s).mem = s.mem ∧
    (State.rollbackSet mv v s).life.otp = s.life.otp := by
  simp [State.rollbackSet]
@[simp] theorem State.customerKey_kept (mv : Nat) (v : Service) (s : State) :
    (State.customerKey mv v s).pending = s.pending ∧ (State.customerKey mv v s).mem = s.mem ∧
    (State.customerKey mv v s).life.otp = s.life.otp := by
  simp [State.customerKey]
@[simp] theorem State.imageKey_kept (mv : Nat) (v : Service) (s : State) :
    (State.imageKey mv v s).pending = s.pending ∧ (State.imageKey mv v s).mem = s.mem ∧
    (State.imageKey mv v s).life.otp = s.life.otp := by
  simp only [State.imageKey]
  repeat' (first | split | simp)
@[simp] theorem State.debugChallenge_kept (v : Service) (s : State) :
    (State.debugChallenge v s).pending = s.pending ∧ (State.debugChallenge v s).mem = s.mem ∧
    (State.debugChallenge v s).life.otp = s.life.otp := by
  simp only [State.debugChallenge, State.draw]
  repeat' split
  all_goals simp
@[simp] theorem State.debugResponse_kept (v : Service) (s : State) :
    (State.debugResponse v s).pending = s.pending ∧ (State.debugResponse v s).mem = s.mem ∧
    (State.debugResponse v s).life.otp = s.life.otp := by
  unfold State.debugResponse
  repeat' split
  all_goals simp
@[simp] theorem State.loanRequest_kept (v : Service) (s : State) :
    (State.loanRequest v s).pending = s.pending ∧ (State.loanRequest v s).mem = s.mem ∧
    (State.loanRequest v s).life.otp = s.life.otp := by
  simp only [State.loanRequest]
  repeat' (first | split | simp)
@[simp] theorem State.loanRelease_kept (v : Service) (s : State) :
    (State.loanRelease v s).pending = s.pending ∧ (State.loanRelease v s).mem = s.mem ∧
    (State.loanRelease v s).life.otp = s.life.otp := by
  simp [State.loanRelease]
@[simp] theorem State.readLoans_kept (v : Service) (s : State) :
    (State.readLoans v s).pending = s.pending ∧ (State.readLoans v s).mem = s.mem ∧
    (State.readLoans v s).life.otp = s.life.otp := by
  simp [State.readLoans]
@[simp] theorem State.probeSet_potp (v : Service) (s : State) :
    (State.probeSet v s).pending = s.pending ∧ (State.probeSet v s).life.otp = s.life.otp := by
  simp only [State.probeSet]
  repeat' (first | split | simp)
@[simp] theorem State.probeSet_wf (v : Service) (s : State) (h : Memory.wf s.mem = true) :
    Memory.wf (State.probeSet v s).mem = true := by
  simp only [State.probeSet]
  repeat' (first | split | simp [h])
@[simp] theorem State.probeArm_kept (v : Service) (s : State) :
    (State.probeArm v s).pending = s.pending ∧ (State.probeArm v s).mem = s.mem ∧
    (State.probeArm v s).life.otp = s.life.otp := by
  simp only [State.probeArm]
  repeat' (first | split | simp)
@[simp] theorem State.storeOpen_kept (v : Service) (s : State) :
    (State.storeOpen v s).pending = s.pending ∧ (State.storeOpen v s).mem = s.mem ∧
    (State.storeOpen v s).life.otp = s.life.otp := by
  simp [State.storeOpen]
theorem streamTake_kept (s t : State) (fw : Bool) (b : List Byte) (fin : Bool) (mv : Nat) (h : s.streamTake fw b fin mv = .took t) :
    t.pending = s.pending ∧ t.mem = s.mem ∧ t.life.otp = s.life.otp := by
  unfold State.streamTake at h
  dsimp only at h
  repeat' split at h
  all_goals first | (simp only [reduceCtorEq] at h; done) | (simp only [Taking.took.injEq] at h; subst h; simp)
@[simp] theorem State.streamData_kept (fw : Bool) (mv : Nat) (v : Service) (s : State) :
    (State.streamData fw mv v s).pending = s.pending ∧ (State.streamData fw mv v s).mem = s.mem ∧
    (State.streamData fw mv v s).life.otp = s.life.otp := by
  unfold State.streamData
  dsimp only
  split
  · simp
  · split
    · simp
    · split
      · simp
      · next t heq =>
        simp [streamTake_kept _ _ _ _ _ _ heq]
@[simp] theorem State.startSeal_kept (fw : Bool) (v : Service) (s : State) :
    (State.startSeal fw v s).pending = s.pending ∧ (State.startSeal fw v s).mem = s.mem ∧
    (State.startSeal fw v s).life.otp = s.life.otp := by
  simp [State.startSeal]
@[simp] theorem State.storeInfo_kept (v : Service) (s : State) :
    (State.storeInfo v s).pending = s.pending ∧ (State.storeInfo v s).mem = s.mem ∧
    (State.storeInfo v s).life.otp = s.life.otp := by
  simp [State.storeInfo]
@[simp] theorem State.bootRecordSet_kept (mv : Nat) (v : Service) (s : State) :
    (State.bootRecordSet mv v s).pending = s.pending ∧ (State.bootRecordSet mv v s).mem = s.mem ∧
    (State.bootRecordSet mv v s).life.otp = s.life.otp := by
  simp [State.bootRecordSet]
@[simp] theorem State.bootRecordGet_kept (v : Service) (s : State) :
    (State.bootRecordGet v s).pending = s.pending ∧ (State.bootRecordGet v s).mem = s.mem ∧
    (State.bootRecordGet v s).life.otp = s.life.otp := by
  simp [State.bootRecordGet]
@[simp] theorem State.logRead_kept (v : Service) (s : State) :
    (State.logRead v s).pending = s.pending ∧ (State.logRead v s).mem = s.mem ∧
    (State.logRead v s).life.otp = s.life.otp := by
  simp [State.logRead]
@[simp] theorem State.logClear_kept (v : Service) (s : State) :
    (State.logClear v s).pending = s.pending ∧ (State.logClear v s).mem = s.mem ∧
    (State.logClear v s).life.otp = s.life.otp := by
  simp [State.logClear]
@[simp] theorem State.fwOpen_kept (v : Service) (s : State) :
    (State.fwOpen v s).pending = s.pending ∧ (State.fwOpen v s).mem = s.mem ∧
    (State.fwOpen v s).life.otp = s.life.otp := by
  simp [State.fwOpen]
@[simp] theorem State.fwActivate_kept (v : Service) (s : State) :
    (State.fwActivate v s).pending = s.pending ∧ (State.fwActivate v s).mem = s.mem ∧
    (State.fwActivate v s).life.otp = s.life.otp := by
  simp [State.fwActivate]
@[simp] theorem State.setRails_kept (s : State) (x : Rails) :
    (State.setRails s x).pending = s.pending ∧ (State.setRails s x).mem = s.mem ∧
    (State.setRails s x).life.otp = s.life.otp := ⟨rfl, rfl, rfl⟩
@[simp] theorem State.holdUnit_kept (s : State) :
    (State.holdUnit s).pending = s.pending ∧ (State.holdUnit s).mem = s.mem ∧
    (State.holdUnit s).life.otp = s.life.otp := by
  simp [State.holdUnit]
@[simp] theorem State.loseShared_kept (s : State) :
    (State.loseShared s).pending = s.pending ∧ (State.loseShared s).mem = s.mem ∧
    (State.loseShared s).life.otp = s.life.otp := by
  simp [State.loseShared]
@[simp] theorem State.brownLoad_potp (s : State) :
    s.brownLoad.pending = s.pending ∧ s.brownLoad.life.otp = s.life.otp := by
  unfold State.brownLoad State.draw
  split <;> simp
@[simp] theorem State.brownLoad_wf (s : State) (h : Memory.wf s.mem = true) : Memory.wf s.brownLoad.mem = true := by
  unfold State.brownLoad State.draw
  split <;> simp [h]
@[simp] theorem State.brownOut_potp (s : State) (mv : Nat) :
    (State.brownOut s mv).pending = s.pending ∧ (State.brownOut s mv).life.otp = s.life.otp := by
  simp [State.brownOut]
@[simp] theorem State.brownOut_wf (s : State) (mv : Nat) (h : Memory.wf s.mem = true) :
    Memory.wf (State.brownOut s mv).mem = true := by
  simp [State.brownOut, h]
@[simp] theorem State.vcoreBack_potp (s : State)  :
    (s.vcoreBack).pending = s.pending ∧ (s.vcoreBack).life.otp = s.life.otp := by
  simp only [State.vcoreBack]
  repeat' split
  all_goals simp
@[simp] theorem State.vcoreBack_wf (s : State)  (hs : Memory.wf s.mem = true) :
    Memory.wf (s.vcoreBack).mem = true := by
  simp only [State.vcoreBack]
  repeat' split
  all_goals simp [hs]
@[simp] theorem State.clearBlocks_potp (s : State) :
    (State.clearBlocks s).pending = s.pending ∧ (State.clearBlocks s).life.otp = s.life.otp := by
  simp [State.clearBlocks]
@[simp] theorem State.clearBlocks_wf (s : State) (h : Memory.wf s.mem = true) :
    Memory.wf (State.clearBlocks s).mem = true := by
  simp [State.clearBlocks, h]
@[simp] theorem State.railUp_potp (s : State) (rail : Rail) :
    (State.railUp s rail).pending = s.pending ∧ (State.railUp s rail).life.otp = s.life.otp := by
  unfold State.railUp
  split <;> simp
@[simp] theorem State.railUp_wf (s : State) (rail : Rail) (h : Memory.wf s.mem = true) :
    Memory.wf (State.railUp s rail).mem = true := by
  unfold State.railUp
  split <;> simp [h]
@[simp] theorem State.vioLost_kept (s : State) (b : Nat) :
    (State.vioLost s b).pending = s.pending ∧ (State.vioLost s b).mem = s.mem ∧
    (State.vioLost s b).life.otp = s.life.otp := ⟨rfl, rfl, rfl⟩
@[simp] theorem State.forgetOps_kept (s : State) :
    s.forgetOps.pending = s.pending ∧ s.forgetOps.mem = s.mem ∧ s.forgetOps.life.otp = s.life.otp := by
  unfold State.forgetOps
  refine forAll_kept 384 _ (fun k t => ?_) s
  simp
@[simp] theorem State.railDown_potp (s : State) (rail : Rail) :
    (State.railDown s rail).pending = s.pending ∧ (State.railDown s rail).life.otp = s.life.otp := by
  cases rail <;> simp [State.railDown]
@[simp] theorem State.railDown_wf (s : State) (rail : Rail) (h : Memory.wf s.mem = true) :
    Memory.wf (State.railDown s rail).mem = true := by
  cases rail <;> simp [State.railDown, h]
@[simp] theorem State.snapHold_kept (s : State) :
    (State.snapHold s).pending = s.pending ∧ (State.snapHold s).mem = s.mem ∧
    (State.snapHold s).life.otp = s.life.otp := by
  simp [State.snapHold]
@[simp] theorem State.captureRegion_kept (s : State) (clk : ClkSrc) (r : Nat) (t : State) :
    (State.captureRegion s clk r t).pending = t.pending ∧ (State.captureRegion s clk r t).mem = t.mem ∧
    (State.captureRegion s clk r t).life.otp = t.life.otp := by
  simp [State.captureRegion]
@[simp] theorem State.captureCross_kept (s : State) (clk : ClkSrc) (r : Nat) (t : State) :
    (State.captureCross s clk r t).pending = t.pending ∧ (State.captureCross s clk r t).mem = t.mem ∧
    (State.captureCross s clk r t).life.otp = t.life.otp := by
  simp [State.captureCross]
@[simp] theorem State.capturePins_kept (s : State) (clk : ClkSrc) (pins : List (Fin 768 × Bool)) (b : Nat) (t : State) :
    (State.capturePins s clk pins b t).pending = t.pending ∧ (State.capturePins s clk pins b t).mem = t.mem ∧
    (State.capturePins s clk pins b t).life.otp = t.life.otp := by
  simp [State.capturePins]
@[simp] theorem State.captureAll_kept (s : State) (clk : ClkSrc) (pins : List (Fin 768 × Bool)) (t : State) :
    (State.captureAll s clk pins t).pending = t.pending ∧ (State.captureAll s clk pins t).mem = t.mem ∧
    (State.captureAll s clk pins t).life.otp = t.life.otp := by
  simp [State.captureAll]
@[simp] theorem State.nextCycle_kept (s : State) :
    (State.nextCycle s).pending = s.pending ∧ (State.nextCycle s).mem = s.mem ∧
    (State.nextCycle s).life.otp = s.life.otp := by
  have h := forAll_kept 96 (fun r t => if ((t.region r).swapCycle || (t.region r).pinStart) = true then
    t.setRegion r { t.region r with swapCycle := false, pinStart := false } else t) (fun k t => by split <;> simp) s
  simp only [State.nextCycle]
  simp [h]
@[simp] theorem State.fabricEdge_potp (s : State) (pins : List (Fin 768 × Bool)) :
    (State.fabricEdge s pins).pending = s.pending ∧ (State.fabricEdge s pins).life.otp = s.life.otp := by
  simp [State.fabricEdge]
@[simp] theorem State.fabricEdge_wf (s : State) (pins : List (Fin 768 × Bool)) (h : Memory.wf s.mem = true) :
    Memory.wf (State.fabricEdge s pins).mem = true := by
  simp [State.fabricEdge, h]
@[simp] theorem State.clockEdge_potp (s : State) (clk : ClkSrc) (pins : List (Fin 768 × Bool)) :
    (State.clockEdge s clk pins).pending = s.pending ∧ (State.clockEdge s clk pins).life.otp = s.life.otp := by
  simp [State.clockEdge]
@[simp] theorem State.clockEdge_wf (s : State) (clk : ClkSrc) (pins : List (Fin 768 × Bool)) (h : Memory.wf s.mem = true) :
    Memory.wf (State.clockEdge s clk pins).mem = true := by
  simp [State.clockEdge, h]
@[simp] theorem State.startSchedules_kept (s : State) :
    (State.startSchedules s).pending = s.pending ∧ (State.startSchedules s).mem = s.mem ∧
    (State.startSchedules s).life.otp = s.life.otp := by
  simp [State.startSchedules]
@[simp] theorem State.tickQueues_kept (ended : Nat) (jumped : Bool) (s : State) :
    (State.tickQueues ended jumped s).pending = s.pending ∧ (State.tickQueues ended jumped s).mem = s.mem ∧
    (State.tickQueues ended jumped s).life.otp = s.life.otp := by
  simp [State.tickQueues]
@[simp] theorem State.sendSof_kept (s : State) :
    (State.sendSof s).pending = s.pending ∧ (State.sendSof s).mem = s.mem ∧ (State.sendSof s).life.otp = s.life.otp := by
  simp [State.sendSof]
@[simp] theorem State.sendBroadcast_kept (s : State) :
    (State.sendBroadcast s).pending = s.pending ∧ (State.sendBroadcast s).mem = s.mem ∧
    (State.sendBroadcast s).life.otp = s.life.otp := by
  simp [State.sendBroadcast]
@[simp] theorem State.testPort_kept (p : Nat) (s : State) :
    (State.testPort p s).pending = s.pending ∧ (State.testPort p s).mem = s.mem ∧
    (State.testPort p s).life.otp = s.life.otp := by
  simp only [State.testPort]
  repeat' split
  all_goals simp
@[simp] theorem State.testLane_kept (n : Nat) (s : State) :
    (State.testLane n s).pending = s.pending ∧ (State.testLane n s).mem = s.mem ∧
    (State.testLane n s).life.otp = s.life.otp := by
  simp only [State.testLane]
  repeat' split
  all_goals simp
@[simp] theorem State.testLines_kept (s : State) :
    (State.testLines s).pending = s.pending ∧ (State.testLines s).mem = s.mem ∧
    (State.testLines s).life.otp = s.life.otp := by
  simp only [State.testLines, forAll_kept _ _ State.testLane_kept, forAll_kept _ _ State.testPort_kept, and_self]
@[simp] theorem State.tickEdge_kept (s : State) :
    (State.tickEdge s).pending = s.pending ∧ (State.tickEdge s).mem = s.mem ∧
    (State.tickEdge s).life.otp = s.life.otp := by
  simp [State.tickEdge]
@[simp] theorem State.sourceLoss_kept (s : State) :
    (State.sourceLoss s).pending = s.pending ∧ (State.sourceLoss s).mem = s.mem ∧
    (State.sourceLoss s).life.otp = s.life.otp := by
  simp [State.sourceLoss]
@[simp] theorem State.clearSwapCounts_kept (s : State) (r : Nat) :
    (State.clearSwapCounts s r).pending = s.pending ∧ (State.clearSwapCounts s r).mem = s.mem ∧
    (State.clearSwapCounts s r).life.otp = s.life.otp := ⟨rfl, rfl, rfl⟩
@[simp] theorem State.putTables_kept (s : State) (l : List (Nat × List Word)) :
    (State.putTables s l).pending = s.pending ∧ (State.putTables s l).mem = s.mem ∧
    (State.putTables s l).life.otp = s.life.otp := by
  simp [State.putTables]
@[simp] theorem State.commandSwap_kept (id : Nat) (s : State) (r : Nat) :
    (State.commandSwap id s r).pending = s.pending ∧ (State.commandSwap id s r).mem = s.mem ∧
    (State.commandSwap id s r).life.otp = s.life.otp := by
  simp [State.commandSwap]
@[simp] theorem State.commandSwaps_kept (s : State) (a : Accepted) (l : List (Nat × List Word)) :
    (State.commandSwaps s a l).pending = s.pending ∧ (State.commandSwaps s a l).mem = s.mem ∧
    (State.commandSwaps s a l).life.otp = s.life.otp := by
  simp [State.commandSwaps]
@[simp] theorem State.commandRelease_kept (s : State) (a : Accepted) (r : Nat) :
    (State.commandRelease s a r).pending = s.pending ∧ (State.commandRelease s a r).mem = s.mem ∧
    (State.commandRelease s a r).life.otp = s.life.otp := by
  simp [State.commandRelease]
@[simp] theorem State.putP_kept (s : State) (p : Nat) :
    (State.putP s p).pending = s.pending ∧ (State.putP s p).mem = s.mem ∧ (State.putP s p).life.otp = s.life.otp := by
  simp [State.putP]
@[simp] theorem State.commitChange_kept (s : State) (a : Accepted) :
    (State.commitChange s a).pending = s.pending ∧ (State.commitChange s a).mem = s.mem ∧
    (State.commitChange s a).life.otp = s.life.otp := by
  unfold State.commitChange
  split <;> simp
@[simp] theorem State.finishChange_potp (s : State) (a : Accepted) :
    (State.finishChange s a).pending = s.pending ∧ (State.finishChange s a).life.otp = s.life.otp := by
  unfold State.finishChange
  split <;> simp
@[simp] theorem State.finishChange_wf (s : State) (a : Accepted) (h : Memory.wf s.mem = true) :
    Memory.wf (State.finishChange s a).mem = true := by
  unfold State.finishChange
  split <;> simp [h]
@[simp] theorem State.targetCommit_wf (s : State) (h : Memory.wf s.mem = true) :
    Memory.wf s.targetCommit.mem = true := by
  dsimp only [State.targetCommit]
  split
  · exact h
  · refine foldl_wf _ (fun t x ht => by simp [ht]) _ _ ?_
    split <;> simp [h]
@[simp] theorem State.upsetOtp_pmem (s : State) (g : Nat) (c : Nat) (i : Nat) :
    (State.upsetOtp s g c i).pending = s.pending ∧ (State.upsetOtp s g c i).mem = s.mem := by
  simp [State.upsetOtp]
@[simp] theorem State.upsetOtp_wf (s : State) (g : Nat) (c : Nat) (i : Nat) (h : Memory.wf s.mem = true) :
    Memory.wf (State.upsetOtp s g c i).mem = true := by
  simp [State.upsetOtp, h]
@[simp] theorem State.upsetPort_kept (s : State) (k : Nat) (i : Nat) :
    (State.upsetPort s k i).pending = s.pending ∧ (State.upsetPort s k i).mem = s.mem ∧
    (State.upsetPort s k i).life.otp = s.life.otp := by
  unfold State.upsetPort
  repeat' split
  all_goals simp
@[simp] theorem State.upsetWord_kept (s : State) (k : Nat) (w : Nat) (i : Nat) :
    (State.upsetWord s k w i).pending = s.pending ∧ (State.upsetWord s k w i).mem = s.mem ∧
    (State.upsetWord s k w i).life.otp = s.life.otp := ⟨rfl, rfl, rfl⟩
@[simp] theorem State.upsetIndex_kept (s : State) (q : Nat) (i : Nat) :
    (State.upsetIndex s q i).pending = s.pending ∧ (State.upsetIndex s q i).mem = s.mem ∧
    (State.upsetIndex s q i).life.otp = s.life.otp := ⟨rfl, rfl, rfl⟩
@[simp] theorem State.bringHead_kept (s : State) (n src dst v : Nat) :
    (s.bringHead n src dst v).pending = s.pending ∧ (s.bringHead n src dst v).mem = s.mem ∧ (s.bringHead n src dst v).life.otp = s.life.otp := by
  simp [State.bringHead]
@[simp] theorem State.upsetHeader_kept (s : State) (n : Nat) (src : Nat) (dst : Nat) (v : Nat) :
    (State.upsetHeader s n src dst v).pending = s.pending ∧ (State.upsetHeader s n src dst v).mem = s.mem ∧
    (State.upsetHeader s n src dst v).life.otp = s.life.otp := by
  simp only [State.upsetHeader]
  repeat' split
  all_goals simp
@[simp] theorem State.upsetData_kept (s : State) (n : Nat) (src : Nat) (dst : Nat) (v : Nat) :
    (State.upsetData s n src dst v).pending = s.pending ∧ (State.upsetData s n src dst v).mem = s.mem ∧
    (State.upsetData s n src dst v).life.otp = s.life.otp := by
  unfold State.upsetData
  split <;> simp
@[simp] theorem State.upset_wf (s : State) (u : UpsetAt) (h : Memory.wf s.mem = true) :
    Memory.wf (s.upset u).mem = true := by
  unfold State.upset
  repeat' split
  all_goals simp [h]
@[simp] theorem State.upset_pend (s : State) (u : UpsetAt) : (s.upset u).pending = s.pending := by
  unfold State.upset
  repeat' split
  all_goals simp
end Sys2Proof.Machine
end

