-- ==== Sys2Proof/Laws/State.lean ====
section
/-! SUPPORT. What each update of the state leaves and what it writes: one conjunct per field, so that no proof unfolds a
record update; registers, regions, queues and mailboxes read back. -/

namespace Sys2Proof.Machine

@[simp] theorem State.setReg_frame (s : State) (a v : Nat) :
    (s.setReg a v).pending = s.pending ∧ (s.setReg a v).free = s.free ∧ (s.setReg a v).timePs = s.timePs ∧ (s.setReg a
      v).on = s.on ∧ (s.setReg a v).tick = s.tick ∧ (s.setReg a v).fab = s.fab ∧ (s.setReg a v).rg = s.rg ∧ (s.setReg a
      v).glob = s.glob ∧ (s.setReg a v).mem = s.mem ∧ (s.setReg a v).flips = s.flips ∧ (s.setReg a v).ueSeen = s.ueSeen
      ∧ (s.setReg a v).qs = s.qs ∧ (s.setReg a v).hl = s.hl ∧ (s.setReg a v).mb = s.mb ∧ (s.setReg a v).log = s.log ∧
      (s.setReg a v).logSeq = s.logSeq ∧ (s.setReg a v).clk = s.clk ∧ (s.setReg a v).lane = s.lane ∧ (s.setReg a v).net
      = s.net ∧ (s.setReg a v).reqs = s.reqs ∧ (s.setReg a v).noc = s.noc ∧ (s.setReg a v).run = s.run ∧ (s.setReg a
      v).scrubN = s.scrubN ∧ (s.setReg a v).rails = s.rails ∧ (s.setReg a v).boot = s.boot ∧ (s.setReg a v).park =
      s.park ∧ (s.setReg a v).tap = s.tap ∧ (s.setReg a v).chain = s.chain ∧ (s.setReg a v).ld = s.ld ∧ (s.setReg a
      v).bt = s.bt ∧ (s.setReg a v).sq = s.sq ∧ (s.setReg a v).store = s.store ∧ (s.setReg a v).life = s.life ∧
      (s.setReg a v).isl = s.isl ∧ (s.setReg a v).probe = s.probe :=
  ⟨rfl, rfl, rfl, rfl, rfl, rfl, rfl, rfl, rfl, rfl, rfl, rfl, rfl, rfl, rfl, rfl, rfl, rfl, rfl, rfl, rfl, rfl,
    rfl, rfl, rfl, rfl, rfl, rfl, rfl, rfl, rfl, rfl, rfl, rfl, rfl⟩

@[simp] theorem State.setReg_csr (s : State) (a v : Nat) : (s.setReg a v).csr = mput regReset s.csr a (BitVec.ofNat 32 v) := rfl

@[simp] theorem State.setFld_frame (s : State) (a lo w v : Nat) :
    (s.setFld a lo w v).pending = s.pending ∧ (s.setFld a lo w v).free = s.free ∧ (s.setFld a lo w v).timePs =
      s.timePs ∧ (s.setFld a lo w v).on = s.on ∧ (s.setFld a lo w v).tick = s.tick ∧ (s.setFld a lo w v).fab = s.fab ∧
      (s.setFld a lo w v).rg = s.rg ∧ (s.setFld a lo w v).glob = s.glob ∧ (s.setFld a lo w v).mem = s.mem ∧ (s.setFld a
      lo w v).flips = s.flips ∧ (s.setFld a lo w v).ueSeen = s.ueSeen ∧ (s.setFld a lo w v).qs = s.qs ∧ (s.setFld a lo w
      v).hl = s.hl ∧ (s.setFld a lo w v).mb = s.mb ∧ (s.setFld a lo w v).log = s.log ∧ (s.setFld a lo w v).logSeq =
      s.logSeq ∧ (s.setFld a lo w v).clk = s.clk ∧ (s.setFld a lo w v).lane = s.lane ∧ (s.setFld a lo w v).net = s.net ∧
      (s.setFld a lo w v).reqs = s.reqs ∧ (s.setFld a lo w v).noc = s.noc ∧ (s.setFld a lo w v).run = s.run ∧
      (s.setFld a lo w v).scrubN = s.scrubN ∧ (s.setFld a lo w v).rails = s.rails ∧ (s.setFld a lo w v).boot = s.boot ∧
      (s.setFld a lo w v).park = s.park ∧ (s.setFld a lo w v).tap = s.tap ∧ (s.setFld a lo w v).chain = s.chain ∧
      (s.setFld a lo w v).ld = s.ld ∧ (s.setFld a lo w v).bt = s.bt ∧ (s.setFld a lo w v).sq = s.sq ∧ (s.setFld a lo w
      v).store = s.store ∧ (s.setFld a lo w v).life = s.life ∧ (s.setFld a lo w v).isl = s.isl ∧ (s.setFld a lo w
      v).probe = s.probe :=
  ⟨rfl, rfl, rfl, rfl, rfl, rfl, rfl, rfl, rfl, rfl, rfl, rfl, rfl, rfl, rfl, rfl, rfl, rfl, rfl, rfl, rfl, rfl,
    rfl, rfl, rfl, rfl, rfl, rfl, rfl, rfl, rfl, rfl, rfl, rfl, rfl⟩

@[simp] theorem State.setFld_csr (s : State) (a lo w v : Nat) : (s.setFld a lo w v).csr = mput regReset s.csr a (BitVec.ofNat 32 (setBits (s.reg a) lo w v)) := rfl

@[simp] theorem State.setBit_frame (s : State) (a lo : Nat) (b : Bool) :
    (s.setBit a lo b).pending = s.pending ∧ (s.setBit a lo b).free = s.free ∧ (s.setBit a lo b).timePs = s.timePs ∧
      (s.setBit a lo b).on = s.on ∧ (s.setBit a lo b).tick = s.tick ∧ (s.setBit a lo b).fab = s.fab ∧ (s.setBit a lo
      b).rg = s.rg ∧ (s.setBit a lo b).glob = s.glob ∧ (s.setBit a lo b).mem = s.mem ∧ (s.setBit a lo b).flips = s.flips
      ∧ (s.setBit a lo b).ueSeen = s.ueSeen ∧ (s.setBit a lo b).qs = s.qs ∧ (s.setBit a lo b).hl = s.hl ∧ (s.setBit a lo
      b).mb = s.mb ∧ (s.setBit a lo b).log = s.log ∧ (s.setBit a lo b).logSeq = s.logSeq ∧ (s.setBit a lo b).clk = s.clk
      ∧ (s.setBit a lo b).lane = s.lane ∧ (s.setBit a lo b).net = s.net ∧ (s.setBit a lo b).reqs = s.reqs ∧ (s.setBit a lo b).noc = s.noc ∧ (s.setBit a lo b).run = s.run ∧ (s.setBit a lo b).scrubN = s.scrubN ∧ (s.setBit a lo
      b).rails = s.rails ∧ (s.setBit a lo b).boot = s.boot ∧ (s.setBit a lo b).park = s.park ∧ (s.setBit a lo b).tap =
      s.tap ∧ (s.setBit a lo b).chain = s.chain ∧ (s.setBit a lo b).ld = s.ld ∧ (s.setBit a lo b).bt = s.bt ∧ (s.setBit
      a lo b).sq = s.sq ∧ (s.setBit a lo b).store = s.store ∧ (s.setBit a lo b).life = s.life ∧ (s.setBit a lo b).isl =
      s.isl ∧ (s.setBit a lo b).probe = s.probe :=
  ⟨rfl, rfl, rfl, rfl, rfl, rfl, rfl, rfl, rfl, rfl, rfl, rfl, rfl, rfl, rfl, rfl, rfl, rfl, rfl, rfl, rfl, rfl,
    rfl, rfl, rfl, rfl, rfl, rfl, rfl, rfl, rfl, rfl, rfl, rfl, rfl⟩

@[simp] theorem State.setBit_csr (s : State) (a lo : Nat) (b : Bool) : (s.setBit a lo b).csr = mput regReset s.csr a (BitVec.ofNat 32 (setBits (s.reg a) lo 1 b.toNat)) := rfl

@[simp] theorem State.count_frame (s : State) (a lo w n : Nat) :
    (s.count a lo w n).pending = s.pending ∧ (s.count a lo w n).free = s.free ∧ (s.count a lo w n).timePs = s.timePs ∧
      (s.count a lo w n).on = s.on ∧ (s.count a lo w n).tick = s.tick ∧ (s.count a lo w n).fab = s.fab ∧ (s.count a lo w
      n).rg = s.rg ∧ (s.count a lo w n).glob = s.glob ∧ (s.count a lo w n).mem = s.mem ∧ (s.count a lo w n).flips =
      s.flips ∧ (s.count a lo w n).ueSeen = s.ueSeen ∧ (s.count a lo w n).qs = s.qs ∧ (s.count a lo w n).hl = s.hl ∧
      (s.count a lo w n).mb = s.mb ∧ (s.count a lo w n).log = s.log ∧ (s.count a lo w n).logSeq = s.logSeq ∧ (s.count a
      lo w n).clk = s.clk ∧ (s.count a lo w n).lane = s.lane ∧ (s.count a lo w n).net = s.net ∧ (s.count a lo w n).reqs
      = s.reqs ∧ (s.count a lo w n).noc = s.noc ∧ (s.count a lo w n).run = s.run ∧ (s.count a lo w n).scrubN =
      s.scrubN ∧ (s.count a lo w n).rails = s.rails ∧ (s.count a lo w n).boot = s.boot ∧ (s.count a lo w n).park =
      s.park ∧ (s.count a lo w n).tap = s.tap ∧ (s.count a lo w n).chain = s.chain ∧ (s.count a lo w n).ld = s.ld ∧
      (s.count a lo w n).bt = s.bt ∧ (s.count a lo w n).sq = s.sq ∧ (s.count a lo w n).store = s.store ∧ (s.count a lo w
      n).life = s.life ∧ (s.count a lo w n).isl = s.isl ∧ (s.count a lo w n).probe = s.probe :=
  ⟨rfl, rfl, rfl, rfl, rfl, rfl, rfl, rfl, rfl, rfl, rfl, rfl, rfl, rfl, rfl, rfl, rfl, rfl, rfl, rfl, rfl, rfl,
    rfl, rfl, rfl, rfl, rfl, rfl, rfl, rfl, rfl, rfl, rfl, rfl, rfl⟩

@[simp] theorem State.inc_frame (s : State) (a : Nat) :
    (s.inc a).pending = s.pending ∧ (s.inc a).free = s.free ∧ (s.inc a).timePs = s.timePs ∧ (s.inc a).on = s.on ∧
      (s.inc a).tick = s.tick ∧ (s.inc a).fab = s.fab ∧ (s.inc a).rg = s.rg ∧ (s.inc a).glob = s.glob ∧ (s.inc a).mem =
      s.mem ∧ (s.inc a).flips = s.flips ∧ (s.inc a).ueSeen = s.ueSeen ∧ (s.inc a).qs = s.qs ∧ (s.inc a).hl = s.hl ∧
      (s.inc a).mb = s.mb ∧ (s.inc a).log = s.log ∧ (s.inc a).logSeq = s.logSeq ∧ (s.inc a).clk = s.clk ∧ (s.inc a).lane
      = s.lane ∧ (s.inc a).net = s.net ∧ (s.inc a).reqs = s.reqs ∧ (s.inc a).noc = s.noc ∧ (s.inc a).run = s.run ∧
      (s.inc a).scrubN = s.scrubN ∧ (s.inc a).rails = s.rails ∧ (s.inc a).boot = s.boot ∧ (s.inc a).park = s.park ∧
      (s.inc a).tap = s.tap ∧ (s.inc a).chain = s.chain ∧ (s.inc a).ld = s.ld ∧ (s.inc a).bt = s.bt ∧ (s.inc a).sq =
      s.sq ∧ (s.inc a).store = s.store ∧ (s.inc a).life = s.life ∧ (s.inc a).isl = s.isl ∧ (s.inc a).probe = s.probe :=
  ⟨rfl, rfl, rfl, rfl, rfl, rfl, rfl, rfl, rfl, rfl, rfl, rfl, rfl, rfl, rfl, rfl, rfl, rfl, rfl, rfl, rfl, rfl,
    rfl, rfl, rfl, rfl, rfl, rfl, rfl, rfl, rfl, rfl, rfl, rfl, rfl⟩

@[simp] theorem State.setRegion_frame (s : State) (r : Nat) (x : Region) :
    (s.setRegion r x).pending = s.pending ∧ (s.setRegion r x).free = s.free ∧ (s.setRegion r x).timePs = s.timePs ∧
      (s.setRegion r x).on = s.on ∧ (s.setRegion r x).csr = s.csr ∧ (s.setRegion r x).tick = s.tick ∧ (s.setRegion r
      x).fab = s.fab ∧ (s.setRegion r x).glob = s.glob ∧ (s.setRegion r x).mem = s.mem ∧ (s.setRegion r x).flips =
      s.flips ∧ (s.setRegion r x).ueSeen = s.ueSeen ∧ (s.setRegion r x).qs = s.qs ∧ (s.setRegion r x).hl = s.hl ∧
      (s.setRegion r x).mb = s.mb ∧ (s.setRegion r x).log = s.log ∧ (s.setRegion r x).logSeq = s.logSeq ∧ (s.setRegion r
      x).clk = s.clk ∧ (s.setRegion r x).lane = s.lane ∧ (s.setRegion r x).net = s.net ∧ (s.setRegion r x).reqs = s.reqs ∧ (s.setRegion r x).noc = s.noc ∧ (s.setRegion r x).run = s.run ∧ (s.setRegion r x).scrubN = s.scrubN ∧
      (s.setRegion r x).rails = s.rails ∧ (s.setRegion r x).boot = s.boot ∧ (s.setRegion r x).park = s.park ∧
      (s.setRegion r x).tap = s.tap ∧ (s.setRegion r x).chain = s.chain ∧ (s.setRegion r x).ld = s.ld ∧ (s.setRegion r
      x).bt = s.bt ∧ (s.setRegion r x).sq = s.sq ∧ (s.setRegion r x).store = s.store ∧ (s.setRegion r x).life = s.life ∧
      (s.setRegion r x).isl = s.isl ∧ (s.setRegion r x).probe = s.probe :=
  ⟨rfl, rfl, rfl, rfl, rfl, rfl, rfl, rfl, rfl, rfl, rfl, rfl, rfl, rfl, rfl, rfl, rfl, rfl, rfl, rfl, rfl, rfl,
    rfl, rfl, rfl, rfl, rfl, rfl, rfl, rfl, rfl, rfl, rfl, rfl, rfl⟩

@[simp] theorem State.setRegion_rg (s : State) (r : Nat) (x : Region) : (s.setRegion r x).rg = mput (fun _ => {}) s.rg r x := rfl

@[simp] theorem State.setQueue_frame (s : State) (q : Nat) (x : Queue) :
    (s.setQueue q x).pending = s.pending ∧ (s.setQueue q x).free = s.free ∧ (s.setQueue q x).timePs = s.timePs ∧
      (s.setQueue q x).on = s.on ∧ (s.setQueue q x).csr = s.csr ∧ (s.setQueue q x).tick = s.tick ∧ (s.setQueue q x).fab
      = s.fab ∧ (s.setQueue q x).rg = s.rg ∧ (s.setQueue q x).glob = s.glob ∧ (s.setQueue q x).mem = s.mem ∧ (s.setQueue
      q x).flips = s.flips ∧ (s.setQueue q x).ueSeen = s.ueSeen ∧ (s.setQueue q x).hl = s.hl ∧ (s.setQueue q x).mb =
      s.mb ∧ (s.setQueue q x).log = s.log ∧ (s.setQueue q x).logSeq = s.logSeq ∧ (s.setQueue q x).clk = s.clk ∧
      (s.setQueue q x).lane = s.lane ∧ (s.setQueue q x).net = s.net ∧ (s.setQueue q x).reqs = s.reqs ∧ (s.setQueue q x).noc = s.noc ∧ (s.setQueue q x).run = s.run ∧ (s.setQueue q x).scrubN = s.scrubN ∧ (s.setQueue q x).rails =
      s.rails ∧ (s.setQueue q x).boot = s.boot ∧ (s.setQueue q x).park = s.park ∧ (s.setQueue q x).tap = s.tap ∧
      (s.setQueue q x).chain = s.chain ∧ (s.setQueue q x).ld = s.ld ∧ (s.setQueue q x).bt = s.bt ∧ (s.setQueue q x).sq =
      s.sq ∧ (s.setQueue q x).store = s.store ∧ (s.setQueue q x).life = s.life ∧ (s.setQueue q x).isl = s.isl ∧
      (s.setQueue q x).probe = s.probe :=
  ⟨rfl, rfl, rfl, rfl, rfl, rfl, rfl, rfl, rfl, rfl, rfl, rfl, rfl, rfl, rfl, rfl, rfl, rfl, rfl, rfl, rfl, rfl,
    rfl, rfl, rfl, rfl, rfl, rfl, rfl, rfl, rfl, rfl, rfl, rfl, rfl⟩

@[simp] theorem State.setQueue_qs (s : State) (q : Nat) (x : Queue) : (s.setQueue q x).qs = mput (fun _ => {}) s.qs q x := rfl

@[simp] theorem State.setMbox_frame (s : State) (m : Nat) (x : Mbox) :
    (s.setMbox m x).pending = s.pending ∧ (s.setMbox m x).free = s.free ∧ (s.setMbox m x).timePs = s.timePs ∧
      (s.setMbox m x).on = s.on ∧ (s.setMbox m x).csr = s.csr ∧ (s.setMbox m x).tick = s.tick ∧ (s.setMbox m x).fab =
      s.fab ∧ (s.setMbox m x).rg = s.rg ∧ (s.setMbox m x).glob = s.glob ∧ (s.setMbox m x).mem = s.mem ∧ (s.setMbox m
      x).flips = s.flips ∧ (s.setMbox m x).ueSeen = s.ueSeen ∧ (s.setMbox m x).qs = s.qs ∧ (s.setMbox m x).hl = s.hl ∧
      (s.setMbox m x).log = s.log ∧ (s.setMbox m x).logSeq = s.logSeq ∧ (s.setMbox m x).clk = s.clk ∧ (s.setMbox m
      x).lane = s.lane ∧ (s.setMbox m x).net = s.net ∧ (s.setMbox m x).reqs = s.reqs ∧ (s.setMbox m x).noc = s.noc ∧
      (s.setMbox m x).run = s.run ∧ (s.setMbox m x).scrubN = s.scrubN ∧ (s.setMbox m x).rails = s.rails ∧ (s.setMbox m
      x).boot = s.boot ∧ (s.setMbox m x).park = s.park ∧ (s.setMbox m x).tap = s.tap ∧ (s.setMbox m x).chain = s.chain ∧
      (s.setMbox m x).ld = s.ld ∧ (s.setMbox m x).bt = s.bt ∧ (s.setMbox m x).sq = s.sq ∧ (s.setMbox m x).store =
      s.store ∧ (s.setMbox m x).life = s.life ∧ (s.setMbox m x).isl = s.isl ∧ (s.setMbox m x).probe = s.probe :=
  ⟨rfl, rfl, rfl, rfl, rfl, rfl, rfl, rfl, rfl, rfl, rfl, rfl, rfl, rfl, rfl, rfl, rfl, rfl, rfl, rfl, rfl, rfl,
    rfl, rfl, rfl, rfl, rfl, rfl, rfl, rfl, rfl, rfl, rfl, rfl, rfl⟩

@[simp] theorem State.setMbox_mb (s : State) (m : Nat) (x : Mbox) : (s.setMbox m x).mb = mput (fun _ => {}) s.mb m x := rfl

@[simp] theorem State.setPort_frame (s : State) (k : Nat) (x : Port) :
    (s.setPort k x).pending = s.pending ∧ (s.setPort k x).free = s.free ∧ (s.setPort k x).timePs = s.timePs ∧
      (s.setPort k x).on = s.on ∧ (s.setPort k x).csr = s.csr ∧ (s.setPort k x).tick = s.tick ∧ (s.setPort k x).rg =
      s.rg ∧ (s.setPort k x).glob = s.glob ∧ (s.setPort k x).mem = s.mem ∧ (s.setPort k x).flips = s.flips ∧ (s.setPort
      k x).ueSeen = s.ueSeen ∧ (s.setPort k x).qs = s.qs ∧ (s.setPort k x).hl = s.hl ∧ (s.setPort k x).mb = s.mb ∧
      (s.setPort k x).log = s.log ∧ (s.setPort k x).logSeq = s.logSeq ∧ (s.setPort k x).clk = s.clk ∧ (s.setPort k
      x).lane = s.lane ∧ (s.setPort k x).net = s.net ∧ (s.setPort k x).reqs = s.reqs ∧ (s.setPort k x).noc = s.noc ∧
      (s.setPort k x).run = s.run ∧ (s.setPort k x).scrubN = s.scrubN ∧ (s.setPort k x).rails = s.rails ∧ (s.setPort k
      x).boot = s.boot ∧ (s.setPort k x).park = s.park ∧ (s.setPort k x).tap = s.tap ∧ (s.setPort k x).chain = s.chain ∧
      (s.setPort k x).ld = s.ld ∧ (s.setPort k x).bt = s.bt ∧ (s.setPort k x).sq = s.sq ∧ (s.setPort k x).store =
      s.store ∧ (s.setPort k x).life = s.life ∧ (s.setPort k x).isl = s.isl ∧ (s.setPort k x).probe = s.probe :=
  ⟨rfl, rfl, rfl, rfl, rfl, rfl, rfl, rfl, rfl, rfl, rfl, rfl, rfl, rfl, rfl, rfl, rfl, rfl, rfl, rfl, rfl, rfl,
    rfl, rfl, rfl, rfl, rfl, rfl, rfl, rfl, rfl, rfl, rfl, rfl, rfl⟩

@[simp] theorem State.setLane_frame (s : State) (n : Nat) (x : Lane) :
    (s.setLane n x).pending = s.pending ∧ (s.setLane n x).free = s.free ∧ (s.setLane n x).timePs = s.timePs ∧
      (s.setLane n x).on = s.on ∧ (s.setLane n x).csr = s.csr ∧ (s.setLane n x).tick = s.tick ∧ (s.setLane n x).fab =
      s.fab ∧ (s.setLane n x).rg = s.rg ∧ (s.setLane n x).glob = s.glob ∧ (s.setLane n x).mem = s.mem ∧ (s.setLane n
      x).flips = s.flips ∧ (s.setLane n x).ueSeen = s.ueSeen ∧ (s.setLane n x).qs = s.qs ∧ (s.setLane n x).hl = s.hl ∧
      (s.setLane n x).mb = s.mb ∧ (s.setLane n x).log = s.log ∧ (s.setLane n x).logSeq = s.logSeq ∧ (s.setLane n x).clk
      = s.clk ∧ (s.setLane n x).net = s.net ∧ (s.setLane n x).reqs = s.reqs ∧ (s.setLane n x).noc = s.noc ∧
      (s.setLane n x).run = s.run ∧ (s.setLane n x).scrubN = s.scrubN ∧ (s.setLane n x).rails = s.rails ∧ (s.setLane n
      x).boot = s.boot ∧ (s.setLane n x).park = s.park ∧ (s.setLane n x).tap = s.tap ∧ (s.setLane n x).chain = s.chain ∧
      (s.setLane n x).ld = s.ld ∧ (s.setLane n x).bt = s.bt ∧ (s.setLane n x).sq = s.sq ∧ (s.setLane n x).store =
      s.store ∧ (s.setLane n x).life = s.life ∧ (s.setLane n x).isl = s.isl ∧ (s.setLane n x).probe = s.probe :=
  ⟨rfl, rfl, rfl, rfl, rfl, rfl, rfl, rfl, rfl, rfl, rfl, rfl, rfl, rfl, rfl, rfl, rfl, rfl, rfl, rfl, rfl, rfl,
    rfl, rfl, rfl, rfl, rfl, rfl, rfl, rfl, rfl, rfl, rfl, rfl, rfl⟩

@[simp] theorem State.setLane_lane (s : State) (n : Nat) (x : Lane) : (s.setLane n x).lane = mput (fun _ => {}) s.lane n x := rfl

@[simp] theorem State.setGck_frame (s : State) (n : Nat) (x : Gck) :
    (s.setGck n x).pending = s.pending ∧ (s.setGck n x).free = s.free ∧ (s.setGck n x).timePs = s.timePs ∧ (s.setGck n
      x).on = s.on ∧ (s.setGck n x).csr = s.csr ∧ (s.setGck n x).tick = s.tick ∧ (s.setGck n x).fab = s.fab ∧ (s.setGck
      n x).rg = s.rg ∧ (s.setGck n x).glob = s.glob ∧ (s.setGck n x).mem = s.mem ∧ (s.setGck n x).flips = s.flips ∧
      (s.setGck n x).ueSeen = s.ueSeen ∧ (s.setGck n x).qs = s.qs ∧ (s.setGck n x).hl = s.hl ∧ (s.setGck n x).mb = s.mb
      ∧ (s.setGck n x).log = s.log ∧ (s.setGck n x).logSeq = s.logSeq ∧ (s.setGck n x).lane = s.lane ∧ (s.setGck n
      x).net = s.net ∧ (s.setGck n x).reqs = s.reqs ∧ (s.setGck n x).noc = s.noc ∧ (s.setGck n x).run = s.run ∧
      (s.setGck n x).scrubN = s.scrubN ∧ (s.setGck n x).rails = s.rails ∧ (s.setGck n x).boot = s.boot ∧ (s.setGck n
      x).park = s.park ∧ (s.setGck n x).tap = s.tap ∧ (s.setGck n x).chain = s.chain ∧ (s.setGck n x).ld = s.ld ∧
      (s.setGck n x).bt = s.bt ∧ (s.setGck n x).sq = s.sq ∧ (s.setGck n x).store = s.store ∧ (s.setGck n x).life =
      s.life ∧ (s.setGck n x).isl = s.isl ∧ (s.setGck n x).probe = s.probe :=
  ⟨rfl, rfl, rfl, rfl, rfl, rfl, rfl, rfl, rfl, rfl, rfl, rfl, rfl, rfl, rfl, rfl, rfl, rfl, rfl, rfl, rfl, rfl,
    rfl, rfl, rfl, rfl, rfl, rfl, rfl, rfl, rfl, rfl, rfl, rfl, rfl⟩

@[simp] theorem State.setChain_frame (s : State) (x : Chain) :
    (s.setChain x).pending = s.pending ∧ (s.setChain x).free = s.free ∧ (s.setChain x).timePs = s.timePs ∧ (s.setChain
      x).on = s.on ∧ (s.setChain x).csr = s.csr ∧ (s.setChain x).tick = s.tick ∧ (s.setChain x).fab = s.fab ∧
      (s.setChain x).rg = s.rg ∧ (s.setChain x).glob = s.glob ∧ (s.setChain x).mem = s.mem ∧ (s.setChain x).flips =
      s.flips ∧ (s.setChain x).ueSeen = s.ueSeen ∧ (s.setChain x).qs = s.qs ∧ (s.setChain x).hl = s.hl ∧ (s.setChain
      x).mb = s.mb ∧ (s.setChain x).log = s.log ∧ (s.setChain x).logSeq = s.logSeq ∧ (s.setChain x).clk = s.clk ∧
      (s.setChain x).lane = s.lane ∧ (s.setChain x).net = s.net ∧ (s.setChain x).reqs = s.reqs ∧ (s.setChain x).noc = s.noc ∧ (s.setChain x).run = s.run ∧ (s.setChain x).scrubN = s.scrubN ∧ (s.setChain x).rails = s.rails ∧
      (s.setChain x).boot = s.boot ∧ (s.setChain x).park = s.park ∧ (s.setChain x).tap = s.tap ∧ (s.setChain x).ld =
      s.ld ∧ (s.setChain x).bt = s.bt ∧ (s.setChain x).sq = s.sq ∧ (s.setChain x).store = s.store ∧ (s.setChain x).life
      = s.life ∧ (s.setChain x).isl = s.isl ∧ (s.setChain x).probe = s.probe :=
  ⟨rfl, rfl, rfl, rfl, rfl, rfl, rfl, rfl, rfl, rfl, rfl, rfl, rfl, rfl, rfl, rfl, rfl, rfl, rfl, rfl, rfl, rfl,
    rfl, rfl, rfl, rfl, rfl, rfl, rfl, rfl, rfl, rfl, rfl, rfl, rfl⟩

@[simp] theorem State.setChain_chain (s : State) (x : Chain) : (s.setChain x).chain = x := rfl

@[simp] theorem State.setLd_frame (s : State) (x : Loader) :
    (s.setLd x).pending = s.pending ∧ (s.setLd x).free = s.free ∧ (s.setLd x).timePs = s.timePs ∧ (s.setLd x).on =
      s.on ∧ (s.setLd x).csr = s.csr ∧ (s.setLd x).tick = s.tick ∧ (s.setLd x).fab = s.fab ∧ (s.setLd x).rg = s.rg ∧
      (s.setLd x).glob = s.glob ∧ (s.setLd x).mem = s.mem ∧ (s.setLd x).flips = s.flips ∧ (s.setLd x).ueSeen = s.ueSeen
      ∧ (s.setLd x).qs = s.qs ∧ (s.setLd x).hl = s.hl ∧ (s.setLd x).mb = s.mb ∧ (s.setLd x).log = s.log ∧ (s.setLd
      x).logSeq = s.logSeq ∧ (s.setLd x).clk = s.clk ∧ (s.setLd x).lane = s.lane ∧ (s.setLd x).net = s.net ∧ (s.setLd
      x).reqs = s.reqs ∧ (s.setLd
      x).noc = s.noc ∧ (s.setLd x).run = s.run ∧ (s.setLd x).scrubN = s.scrubN ∧
      (s.setLd x).rails = s.rails ∧ (s.setLd x).boot = s.boot ∧ (s.setLd x).park = s.park ∧ (s.setLd x).tap = s.tap ∧
      (s.setLd x).chain = s.chain ∧ (s.setLd x).bt = s.bt ∧ (s.setLd x).sq = s.sq ∧ (s.setLd x).store = s.store ∧
      (s.setLd x).life = s.life ∧ (s.setLd x).isl = s.isl ∧ (s.setLd x).probe = s.probe :=
  ⟨rfl, rfl, rfl, rfl, rfl, rfl, rfl, rfl, rfl, rfl, rfl, rfl, rfl, rfl, rfl, rfl, rfl, rfl, rfl, rfl, rfl, rfl,
    rfl, rfl, rfl, rfl, rfl, rfl, rfl, rfl, rfl, rfl, rfl, rfl, rfl⟩

@[simp] theorem State.setLd_ld (s : State) (x : Loader) : (s.setLd x).ld = x := rfl

@[simp] theorem State.setStore_frame (s : State) (x : Store) :
    (s.setStore x).pending = s.pending ∧ (s.setStore x).free = s.free ∧ (s.setStore x).timePs = s.timePs ∧ (s.setStore
      x).on = s.on ∧ (s.setStore x).csr = s.csr ∧ (s.setStore x).tick = s.tick ∧ (s.setStore x).fab = s.fab ∧
      (s.setStore x).rg = s.rg ∧ (s.setStore x).glob = s.glob ∧ (s.setStore x).mem = s.mem ∧ (s.setStore x).flips =
      s.flips ∧ (s.setStore x).ueSeen = s.ueSeen ∧ (s.setStore x).qs = s.qs ∧ (s.setStore x).hl = s.hl ∧ (s.setStore
      x).mb = s.mb ∧ (s.setStore x).log = s.log ∧ (s.setStore x).logSeq = s.logSeq ∧ (s.setStore x).clk = s.clk ∧
      (s.setStore x).lane = s.lane ∧ (s.setStore x).net = s.net ∧ (s.setStore x).reqs = s.reqs ∧ (s.setStore x).noc = s.noc ∧ (s.setStore x).run = s.run ∧ (s.setStore x).scrubN = s.scrubN ∧ (s.setStore x).rails = s.rails ∧
      (s.setStore x).boot = s.boot ∧ (s.setStore x).park = s.park ∧ (s.setStore x).tap = s.tap ∧ (s.setStore x).chain =
      s.chain ∧ (s.setStore x).ld = s.ld ∧ (s.setStore x).bt = s.bt ∧ (s.setStore x).sq = s.sq ∧ (s.setStore x).life =
      s.life ∧ (s.setStore x).isl = s.isl ∧ (s.setStore x).probe = s.probe :=
  ⟨rfl, rfl, rfl, rfl, rfl, rfl, rfl, rfl, rfl, rfl, rfl, rfl, rfl, rfl, rfl, rfl, rfl, rfl, rfl, rfl, rfl, rfl,
    rfl, rfl, rfl, rfl, rfl, rfl, rfl, rfl, rfl, rfl, rfl, rfl, rfl⟩

@[simp] theorem State.setStore_store (s : State) (x : Store) : (s.setStore x).store = x := rfl

@[simp] theorem State.setLife_frame (s : State) (x : Life) :
    (s.setLife x).pending = s.pending ∧ (s.setLife x).free = s.free ∧ (s.setLife x).timePs = s.timePs ∧ (s.setLife
      x).on = s.on ∧ (s.setLife x).csr = s.csr ∧ (s.setLife x).tick = s.tick ∧ (s.setLife x).fab = s.fab ∧ (s.setLife
      x).rg = s.rg ∧ (s.setLife x).glob = s.glob ∧ (s.setLife x).mem = s.mem ∧ (s.setLife x).flips = s.flips ∧
      (s.setLife x).ueSeen = s.ueSeen ∧ (s.setLife x).qs = s.qs ∧ (s.setLife x).hl = s.hl ∧ (s.setLife x).mb = s.mb ∧
      (s.setLife x).log = s.log ∧ (s.setLife x).logSeq = s.logSeq ∧ (s.setLife x).clk = s.clk ∧ (s.setLife x).lane =
      s.lane ∧ (s.setLife x).net = s.net ∧ (s.setLife x).reqs = s.reqs ∧ (s.setLife x).noc = s.noc ∧ (s.setLife
      x).run = s.run ∧ (s.setLife x).scrubN = s.scrubN ∧ (s.setLife x).rails = s.rails ∧ (s.setLife x).boot = s.boot ∧
      (s.setLife x).park = s.park ∧ (s.setLife x).tap = s.tap ∧ (s.setLife x).chain = s.chain ∧ (s.setLife x).ld = s.ld
      ∧ (s.setLife x).bt = s.bt ∧ (s.setLife x).sq = s.sq ∧ (s.setLife x).store = s.store ∧ (s.setLife x).isl = s.isl ∧
      (s.setLife x).probe = s.probe :=
  ⟨rfl, rfl, rfl, rfl, rfl, rfl, rfl, rfl, rfl, rfl, rfl, rfl, rfl, rfl, rfl, rfl, rfl, rfl, rfl, rfl, rfl, rfl,
    rfl, rfl, rfl, rfl, rfl, rfl, rfl, rfl, rfl, rfl, rfl, rfl, rfl⟩

@[simp] theorem State.setLife_life (s : State) (x : Life) : (s.setLife x).life = x := rfl

@[simp] theorem State.setIsl_frame (s : State) (x : Island) :
    (s.setIsl x).pending = s.pending ∧ (s.setIsl x).free = s.free ∧ (s.setIsl x).timePs = s.timePs ∧ (s.setIsl x).on =
      s.on ∧ (s.setIsl x).csr = s.csr ∧ (s.setIsl x).tick = s.tick ∧ (s.setIsl x).fab = s.fab ∧ (s.setIsl x).rg = s.rg ∧
      (s.setIsl x).glob = s.glob ∧ (s.setIsl x).mem = s.mem ∧ (s.setIsl x).flips = s.flips ∧ (s.setIsl x).ueSeen =
      s.ueSeen ∧ (s.setIsl x).qs = s.qs ∧ (s.setIsl x).hl = s.hl ∧ (s.setIsl x).mb = s.mb ∧ (s.setIsl x).log = s.log ∧
      (s.setIsl x).logSeq = s.logSeq ∧ (s.setIsl x).clk = s.clk ∧ (s.setIsl x).lane = s.lane ∧ (s.setIsl x).net = s.net
      ∧ (s.setIsl x).reqs = s.reqs ∧ (s.setIsl x).noc = s.noc ∧ (s.setIsl x).run = s.run ∧ (s.setIsl x).scrubN =
      s.scrubN ∧ (s.setIsl x).rails = s.rails ∧ (s.setIsl x).boot = s.boot ∧ (s.setIsl x).park = s.park ∧ (s.setIsl
      x).tap = s.tap ∧ (s.setIsl x).chain = s.chain ∧ (s.setIsl x).ld = s.ld ∧ (s.setIsl x).bt = s.bt ∧ (s.setIsl x).sq
      = s.sq ∧ (s.setIsl x).store = s.store ∧ (s.setIsl x).life = s.life ∧ (s.setIsl x).probe = s.probe :=
  ⟨rfl, rfl, rfl, rfl, rfl, rfl, rfl, rfl, rfl, rfl, rfl, rfl, rfl, rfl, rfl, rfl, rfl, rfl, rfl, rfl, rfl, rfl,
    rfl, rfl, rfl, rfl, rfl, rfl, rfl, rfl, rfl, rfl, rfl, rfl, rfl⟩

@[simp] theorem State.setIsl_isl (s : State) (x : Island) : (s.setIsl x).isl = x := rfl

@[simp] theorem State.setTap_frame (s : State) (x : Tap) :
    (s.setTap x).pending = s.pending ∧ (s.setTap x).free = s.free ∧ (s.setTap x).timePs = s.timePs ∧ (s.setTap x).on =
      s.on ∧ (s.setTap x).csr = s.csr ∧ (s.setTap x).tick = s.tick ∧ (s.setTap x).fab = s.fab ∧ (s.setTap x).rg = s.rg ∧
      (s.setTap x).glob = s.glob ∧ (s.setTap x).mem = s.mem ∧ (s.setTap x).flips = s.flips ∧ (s.setTap x).ueSeen =
      s.ueSeen ∧ (s.setTap x).qs = s.qs ∧ (s.setTap x).hl = s.hl ∧ (s.setTap x).mb = s.mb ∧ (s.setTap x).log = s.log ∧
      (s.setTap x).logSeq = s.logSeq ∧ (s.setTap x).clk = s.clk ∧ (s.setTap x).lane = s.lane ∧ (s.setTap x).net = s.net
      ∧ (s.setTap x).reqs = s.reqs ∧ (s.setTap x).noc = s.noc ∧ (s.setTap x).run = s.run ∧ (s.setTap x).scrubN =
      s.scrubN ∧ (s.setTap x).rails = s.rails ∧ (s.setTap x).boot = s.boot ∧ (s.setTap x).park = s.park ∧ (s.setTap
      x).chain = s.chain ∧ (s.setTap x).ld = s.ld ∧ (s.setTap x).bt = s.bt ∧ (s.setTap x).sq = s.sq ∧ (s.setTap x).store
      = s.store ∧ (s.setTap x).life = s.life ∧ (s.setTap x).isl = s.isl ∧ (s.setTap x).probe = s.probe :=
  ⟨rfl, rfl, rfl, rfl, rfl, rfl, rfl, rfl, rfl, rfl, rfl, rfl, rfl, rfl, rfl, rfl, rfl, rfl, rfl, rfl, rfl, rfl,
    rfl, rfl, rfl, rfl, rfl, rfl, rfl, rfl, rfl, rfl, rfl, rfl, rfl⟩

@[simp] theorem State.setTap_tap (s : State) (x : Tap) : (s.setTap x).tap = x := rfl

@[simp] theorem State.setRails_frame (s : State) (x : Rails) :
    (s.setRails x).pending = s.pending ∧ (s.setRails x).free = s.free ∧ (s.setRails x).timePs = s.timePs ∧ (s.setRails
      x).on = s.on ∧ (s.setRails x).csr = s.csr ∧ (s.setRails x).tick = s.tick ∧ (s.setRails x).fab = s.fab ∧
      (s.setRails x).rg = s.rg ∧ (s.setRails x).glob = s.glob ∧ (s.setRails x).mem = s.mem ∧ (s.setRails x).flips =
      s.flips ∧ (s.setRails x).ueSeen = s.ueSeen ∧ (s.setRails x).qs = s.qs ∧ (s.setRails x).hl = s.hl ∧ (s.setRails
      x).mb = s.mb ∧ (s.setRails x).log = s.log ∧ (s.setRails x).logSeq = s.logSeq ∧ (s.setRails x).clk = s.clk ∧
      (s.setRails x).lane = s.lane ∧ (s.setRails x).net = s.net ∧ (s.setRails x).reqs = s.reqs ∧ (s.setRails x).noc = s.noc ∧ (s.setRails x).run = s.run ∧ (s.setRails x).scrubN = s.scrubN ∧ (s.setRails x).boot = s.boot ∧
      (s.setRails x).park = s.park ∧ (s.setRails x).tap = s.tap ∧ (s.setRails x).chain = s.chain ∧ (s.setRails x).ld =
      s.ld ∧ (s.setRails x).bt = s.bt ∧ (s.setRails x).sq = s.sq ∧ (s.setRails x).store = s.store ∧ (s.setRails x).life
      = s.life ∧ (s.setRails x).isl = s.isl ∧ (s.setRails x).probe = s.probe :=
  ⟨rfl, rfl, rfl, rfl, rfl, rfl, rfl, rfl, rfl, rfl, rfl, rfl, rfl, rfl, rfl, rfl, rfl, rfl, rfl, rfl, rfl, rfl,
    rfl, rfl, rfl, rfl, rfl, rfl, rfl, rfl, rfl, rfl, rfl, rfl, rfl⟩

@[simp] theorem State.setRails_rails (s : State) (x : Rails) : (s.setRails x).rails = x := rfl

@[simp] theorem State.setProbe_frame (s : State) (x : Probe) :
    (s.setProbe x).pending = s.pending ∧ (s.setProbe x).free = s.free ∧ (s.setProbe x).timePs = s.timePs ∧ (s.setProbe
      x).on = s.on ∧ (s.setProbe x).csr = s.csr ∧ (s.setProbe x).tick = s.tick ∧ (s.setProbe x).fab = s.fab ∧
      (s.setProbe x).rg = s.rg ∧ (s.setProbe x).glob = s.glob ∧ (s.setProbe x).mem = s.mem ∧ (s.setProbe x).flips =
      s.flips ∧ (s.setProbe x).ueSeen = s.ueSeen ∧ (s.setProbe x).qs = s.qs ∧ (s.setProbe x).hl = s.hl ∧ (s.setProbe
      x).mb = s.mb ∧ (s.setProbe x).log = s.log ∧ (s.setProbe x).logSeq = s.logSeq ∧ (s.setProbe x).clk = s.clk ∧
      (s.setProbe x).lane = s.lane ∧ (s.setProbe x).net = s.net ∧ (s.setProbe x).reqs = s.reqs ∧ (s.setProbe x).noc = s.noc ∧ (s.setProbe x).run = s.run ∧ (s.setProbe x).scrubN = s.scrubN ∧ (s.setProbe x).rails = s.rails ∧
      (s.setProbe x).boot = s.boot ∧ (s.setProbe x).park = s.park ∧ (s.setProbe x).tap = s.tap ∧ (s.setProbe x).chain =
      s.chain ∧ (s.setProbe x).ld = s.ld ∧ (s.setProbe x).bt = s.bt ∧ (s.setProbe x).sq = s.sq ∧ (s.setProbe x).store =
      s.store ∧ (s.setProbe x).life = s.life ∧ (s.setProbe x).isl = s.isl :=
  ⟨rfl, rfl, rfl, rfl, rfl, rfl, rfl, rfl, rfl, rfl, rfl, rfl, rfl, rfl, rfl, rfl, rfl, rfl, rfl, rfl, rfl, rfl,
    rfl, rfl, rfl, rfl, rfl, rfl, rfl, rfl, rfl, rfl, rfl, rfl, rfl⟩

@[simp] theorem State.setProbe_probe (s : State) (x : Probe) : (s.setProbe x).probe = x := rfl

@[simp] theorem State.setSq_frame (s : State) (x : Seq) :
    (s.setSq x).pending = s.pending ∧ (s.setSq x).free = s.free ∧ (s.setSq x).timePs = s.timePs ∧ (s.setSq x).on =
      s.on ∧ (s.setSq x).csr = s.csr ∧ (s.setSq x).tick = s.tick ∧ (s.setSq x).fab = s.fab ∧ (s.setSq x).rg = s.rg ∧
      (s.setSq x).glob = s.glob ∧ (s.setSq x).mem = s.mem ∧ (s.setSq x).flips = s.flips ∧ (s.setSq x).ueSeen = s.ueSeen
      ∧ (s.setSq x).qs = s.qs ∧ (s.setSq x).hl = s.hl ∧ (s.setSq x).mb = s.mb ∧ (s.setSq x).log = s.log ∧ (s.setSq
      x).logSeq = s.logSeq ∧ (s.setSq x).clk = s.clk ∧ (s.setSq x).lane = s.lane ∧ (s.setSq x).net = s.net ∧ (s.setSq
      x).reqs = s.reqs ∧ (s.setSq
      x).noc = s.noc ∧ (s.setSq x).run = s.run ∧ (s.setSq x).scrubN = s.scrubN ∧
      (s.setSq x).rails = s.rails ∧ (s.setSq x).boot = s.boot ∧ (s.setSq x).park = s.park ∧ (s.setSq x).tap = s.tap ∧
      (s.setSq x).chain = s.chain ∧ (s.setSq x).ld = s.ld ∧ (s.setSq x).bt = s.bt ∧ (s.setSq x).store = s.store ∧
      (s.setSq x).life = s.life ∧ (s.setSq x).isl = s.isl ∧ (s.setSq x).probe = s.probe :=
  ⟨rfl, rfl, rfl, rfl, rfl, rfl, rfl, rfl, rfl, rfl, rfl, rfl, rfl, rfl, rfl, rfl, rfl, rfl, rfl, rfl, rfl, rfl,
    rfl, rfl, rfl, rfl, rfl, rfl, rfl, rfl, rfl, rfl, rfl, rfl, rfl⟩

@[simp] theorem State.setSq_sq (s : State) (x : Seq) : (s.setSq x).sq = x := rfl

/-! ## Reading back -/

/-- A register reads what was last written to it, cut to 32 bits. -/
@[simp] theorem State.reg_setReg_same (s : State) (a v : Nat) : (s.setReg a v).reg a = v % 2 ^ 32 := by
  simp [State.reg]

/-- A write of one register leaves every other one alone. -/
@[simp] theorem State.reg_setReg_ne (s : State) (a b v : Nat) (h : b ≠ a) : (s.setReg a v).reg b = s.reg b := by
  simp [State.reg, h]

theorem State.reg_setFld_ne (s : State) (a b lo w v : Nat) (h : b ≠ a) : (s.setFld a lo w v).reg b = s.reg b := by
  simp [State.setFld, h]

theorem State.reg_setBit_ne (s : State) (a c lo : Nat) (b : Bool) (h : c ≠ a) : (s.setBit a lo b).reg c = s.reg c := by
  simp [State.setBit, State.setFld, h]

theorem State.reg_inc_ne (s : State) (a b : Nat) (h : b ≠ a) : (s.inc a).reg b = s.reg b := by
  simp [State.inc, State.count, State.setFld, h]

/-- A register holds 32 bits. -/
theorem State.reg_lt (s : State) (a : Nat) : s.reg a < 2 ^ 32 := (mget regReset s.csr a).isLt

@[simp] theorem State.region_setRegion_same (s : State) (r : Nat) (x : Region) : (s.setRegion r x).region r = x := by
  simp [State.region]
@[simp] theorem State.region_setRegion_ne (s : State) (r k : Nat) (x : Region) (h : k ≠ r) :
    (s.setRegion r x).region k = s.region k := by simp [State.region, h]
@[simp] theorem State.queue_setQueue_same (s : State) (q : Nat) (x : Queue) : (s.setQueue q x).queue q = x := by
  simp [State.queue]
@[simp] theorem State.queue_setQueue_ne (s : State) (q k : Nat) (x : Queue) (h : k ≠ q) :
    (s.setQueue q x).queue k = s.queue k := by simp [State.queue, h]
@[simp] theorem State.mbox_setMbox_same (s : State) (m : Nat) (x : Mbox) : (s.setMbox m x).mbox m = x := by
  simp [State.mbox]
@[simp] theorem State.mbox_setMbox_ne (s : State) (m k : Nat) (x : Mbox) (h : k ≠ m) :
    (s.setMbox m x).mbox k = s.mbox k := by simp [State.mbox, h]
@[simp] theorem State.port_setPort_same (s : State) (k : Nat) (x : Port) : (s.setPort k x).port k = x := by
  simp [State.port, State.setPort]
@[simp] theorem State.port_setPort_ne (s : State) (k j : Nat) (x : Port) (h : j ≠ k) :
    (s.setPort k x).port j = s.port j := by simp [State.port, State.setPort, h]

/-! ## Memory words (R159, R162) -/

/-- Storing bytes from offset `a` up leaves the bytes outside them alone. -/
theorem byte_putBytes_out (m : List Host.Cell) (a b : Nat) (l : List Byte) (h : b < a ∨ a + l.length ≤ b) :
    mget memDefault (putBytes m a l) b = mget memDefault m b := by
  induction l generalizing m a with
  | nil => rfl
  | cons x l ih =>
    simp only [List.length_cons] at h
    rw [putBytes, ih _ _ (by omega), mget_mput_ne _ _ _ _ _ (by omega)]

/-- Byte `i` of those stored. -/
theorem byte_putBytes_in (m : List Host.Cell) (a i : Nat) (l : List Byte) (h : i < l.length) :
    mget memDefault (putBytes m a l) (a + i) = l[i] := by
  induction l generalizing m a i with
  | nil => simp at h
  | cons x l ih =>
    cases i with
    | zero => rw [putBytes, byte_putBytes_out _ _ _ _ (by omega)]; simp
    | succ i =>
      rw [putBytes, show a + (i + 1) = a + 1 + i by omega]
      exact ih _ _ _ (by simpa using h)

@[simp] theorem bytesLE_length (x n : Nat) : (bytesLE x n).length = n := by
  induction n generalizing x with
  | zero => rfl
  | succ n ih => simp [bytesLE, ih]

/-- A word store leaves every byte outside its eight alone. -/
theorem State.byte_putWord_out (s : State) (k w v a : Nat) (h : a < 8 * wordKey k w ∨ 8 * wordKey k w + 8 ≤ a) :
    (s.putWord k w v).byte a = s.byte a := by
  simp only [State.byte, State.putWord]
  exact byte_putBytes_out _ _ _ _ (by simpa using h)

end Sys2Proof.Machine
end

