-- ==== Sys2Proof/Laws/Answers.lean ====
section
/-! SUPPORT. What an answer to a request does, once for all requests. -/

namespace Sys2Proof.Machine

/-- What leaves on the chain touches nothing but the chain part. -/
theorem State.sendMsg_only (s : State) (ports : List Nat) (type flg dst : Nat) (payload : List Byte) :
    { s.sendMsg ports type flg dst payload with chain := s.chain } = s := rfl

@[simp] theorem State.reply_hl (s : State) (v : Service) (status : Nat) (b : List Byte) :
    (s.reply v status b).hl = { s.hl with serving := none, slice := true } := by
  unfold State.reply State.respondMb
  dsimp only
  split <;> rfl

@[simp] theorem State.reply_mbox (s : State) (v : Service) (status : Nat) (b : List Byte) :
    (s.reply v status b).mbox v.mb = { s.mbox v.mb with
      rsp := putRsp (s.mbox v.mb).rsp (rspBytes v.op v.tag status b), st := if v.mb = 1 then .idle else .done, aged := false } := by
  unfold State.reply State.respondMb
  dsimp only
  split
  · next h => simp [State.mbox, State.sendMsg, State.sendZ, State.setMbox, h]
  · simp [State.mbox, State.setMbox]

theorem State.reply_mbox_ne (s : State) (v : Service) (status : Nat) (b : List Byte) (k : Nat) (h : k ≠ v.mb) :
    (s.reply v status b).mbox k = s.mbox k := by
  unfold State.reply State.respondMb
  dsimp only
  split <;> simp [State.mbox, State.sendMsg, State.sendZ, State.setMbox, h]

/-- An answer leaves every part but mailboxes, service and chain. -/
theorem State.reply_rest (s : State) (v : Service) (status : Nat) (b : List Byte) :
    { s.reply v status b with mb := s.mb, hl := s.hl, chain := s.chain } = s := by
  unfold State.reply State.respondMb
  dsimp only
  split <;> rfl

theorem State.reply_chain (s : State) (v : Service) (status : Nat) (b : List Byte) (h : v.mb ≠ 1) :
    (s.reply v status b).chain = s.chain := by
  unfold State.reply State.respondMb
  dsimp only
  rw [if_neg h]
  rfl

/-- What leaves on the chain for MB1's answer is the one MBRSP, numbered (R345). -/
theorem State.reply_sent (s : State) (v : Service) (status : Nat) (b : List Byte) (h : v.mb = 1) :
    { (s.reply v status b).chain with sent := s.chain.sent, seqs := s.chain.seqs } = s.chain ∧
    ∃ y : ZMsg, (s.reply v status b).chain.sent = s.chain.sent ++ [(upPorts, .msg tMbrsp y)] ∧
      y.payload = rspBytes v.op v.tag status b ∧ y.dst = BitVec.ofNat 12 (s.mbox 1).from_ := by
  unfold State.reply State.respondMb
  simp only [h, if_true]
  exact ⟨rfl, _, rfl, rfl, rfl⟩

theorem State.reply_answered (s : State) (v : Service) (status : Nat) (b : List Byte) :
    s.answered (s.reply v status b) v status b := by
  refine ⟨by simp, by simp, by simp, by simp, fun h => ?_⟩
  obtain ⟨-, y, hy, h1, h2⟩ := s.reply_sent v status b h
  exact ⟨y, by simp [hy], h1, h2⟩

theorem State.reply_onlyWindow (s : State) (v : Service) (status : Nat) (b : List Byte) :
    s.onlyWindow (s.reply v status b) v.mb := by
  refine ⟨s.reply_rest v status b, fun k h => s.reply_mbox_ne v status b k h, by simp, fun h => s.reply_chain v status b h,
    fun h => ?_⟩
  obtain ⟨h0, y, hy, -⟩ := s.reply_sent v status b h
  exact ⟨h0, y, hy⟩

theorem State.reply_onlyAnswer (s : State) (v : Service) (status : Nat) (b : List Byte) :
    s.onlyAnswer (s.reply v status b) v.mb := ⟨s.reply_onlyWindow v status b, s.reply_hl v status b⟩

theorem State.err_turnedAway (s : State) (v : Service) (status detail : Nat) :
    s.turnedAway (s.err v status detail) v status detail :=
  ⟨s.reply_answered v status _, s.reply_onlyAnswer v status _⟩

/-- A request command whose request is in service does that request's work. -/
theorem State.request_serves (s : State) (op : Nat) (f : Service → State → State) (v : Service) (h : s.serves v op) :
    s.request op f = f v s := by
  obtain ⟨h1, h2, h3⟩ := h
  simp [State.request, h1, h2, h3]

end Sys2Proof.Machine
end

