-- ==== Sys2Proof/Laws/Network.lean ====
section
/-! SUPPORT. What the network's own cycles can change: packets, their bookkeeping and counters, and nothing else. -/

namespace Sys2Proof.Machine

/-- `t` differs from `s` in the network's packets, its bookkeeping and registers at most. -/
def State.netOnly (s t : State) : Prop := { t with net := s.net, noc := s.noc, csr := s.csr } = s

theorem State.netOnly_refl (s : State) : s.netOnly s := rfl

theorem State.netOnly_trans {s t u : State} (h : s.netOnly t) (k : t.netOnly u) : s.netOnly u := by
  unfold State.netOnly at *
  rw [← h, ← k]

theorem State.netOnly_foldl {α : Type} (f : State → α → State) (l : List α) (s : State) (h : ∀ t x, State.netOnly t (f t x)) :
    s.netOnly (l.foldl f s) := by
  induction l generalizing s with
  | nil => exact s.netOnly_refl
  | cons x l ih => exact State.netOnly_trans (h s x) (ih _)

theorem State.netOnly_dropAt (s : State) (c : Cand) : s.netOnly (s.dropAt c) := by
  unfold State.dropAt
  split <;> rfl

theorem State.netOnly_grantHead (s : State) (l : List Cand) (c : Cand) : s.netOnly (s.grantHead l c) := by
  unfold State.grantHead
  dsimp only
  split
  · rfl
  · split <;> rfl

theorem State.netOnly_moveFlit (s : State) (c : Cand) : s.netOnly (s.moveFlit c) := by
  unfold State.moveFlit
  cases c.p.hops[c.i + 1]? <;> by_cases h : c.h.out = 8 <;> simp only [h, if_true, if_false] <;> rfl

theorem State.netOnly_sendFrom (s : State) (x o : Nat) (l : List (Cand × Bool)) : s.netOnly (s.sendFrom x o l) := by
  unfold State.sendFrom
  extract_lets l u
  have a : s.netOnly u := by
    unfold u
    split <;> rfl
  split
  · exact a
  · clear_value u
    extract_lets v src w
    have b : u.netOnly w := rfl
    clear_value w
    exact State.netOnly_trans (State.netOnly_trans a b) (w.netOnly_moveFlit _)

theorem State.netOnly_ageFlit (s : State) (c : Cand) : s.netOnly (s.ageFlit c) := by
  unfold State.ageFlit
  dsimp only
  split <;> rfl

theorem State.netOnly_injectFrom (s : State) (n : Nat) : s.netOnly (s.injectFrom n) := by
  unfold State.injectFrom
  extract_lets l
  split
  · rfl
  · extract_lets u v
    have a : s.netOnly v := rfl
    split
    · split
      · exact State.netOnly_trans a rfl
      · exact a
    · exact a

/-- One network cycle. -/
theorem State.netOnly_netCycle (s : State) : s.netOnly s.netCycle := by
  have a : s.netOnly s.dropDead := State.netOnly_foldl _ _ _ fun t c => t.netOnly_dropAt c
  have b : s.dropDead.netOnly s.dropDead.grantHeads := State.netOnly_foldl _ _ _ fun t c => t.netOnly_grantHead _ c
  have c : s.dropDead.grantHeads.netOnly s.dropDead.grantHeads.sendFlits :=
    State.netOnly_trans (State.netOnly_foldl _ _ _ fun t c => t.netOnly_ageFlit c)
      (State.netOnly_foldl _ _ _ fun t x => t.netOnly_sendFrom _ _ _)
  have d : s.dropDead.grantHeads.sendFlits.netOnly s.dropDead.grantHeads.sendFlits.injectFlits :=
    State.netOnly_foldl _ _ _ fun t n => t.netOnly_injectFrom n
  unfold State.netCycle
  generalize s.dropDead.grantHeads.sendFlits.injectFlits = u at d ⊢
  exact State.netOnly_trans (State.netOnly_trans (State.netOnly_trans (State.netOnly_trans a b) c) d) rfl

/-- Any number of network cycles. -/
theorem State.netOnly_runNet (stop : State → Bool) (n : Nat) (s : State) : s.netOnly (State.runNet stop n s) := by
  induction n generalizing s with
  | zero => exact s.netOnly_refl
  | succ n ih =>
    rw [State.runNet]
    split
    · exact s.netOnly_refl
    · exact State.netOnly_trans s.netOnly_netCycle (ih _)

end Sys2Proof.Machine
end

