-- ==== Sys2Proof/Tests/Slice0.lean ====
section
/-! SUPPORT. Tests: what the checks refuse, places and tables of the spec, and for each statement states and operands that
meet its hypotheses. -/

namespace Sys2Proof.Tests

open Sys2Proof Sys2Proof.Machine

set_option maxRecDepth 40000
set_option exponentiation.threshold 10000

/-! ## Commands out of the spec's bounds are refused by the check -/

/-- A message of 545 bytes (Table ZVL-2: LEN is 0 to 544). -/
def longMsg : ZMsg := ⟨0, 0, 0, 0, List.replicate 545 0, true⟩

theorem test_wf_message : (Instr.superMsg 0 longMsg).wf = false := by decide
theorem test_wf_messages : ([.enumMsg 0 longMsg, .enumRpt 0 longMsg, .cald 0 longMsg, .faultMsg 0 longMsg, .mbreq 0 longMsg,
    .mbrsp 0 longMsg, .bcast 0 longMsg, .image 0 longMsg, .loadRpt 0 longMsg] : List Instr).all (fun c => !c.wf) = true := by decide
theorem test_wf_sense : ([.vauxPorRelease 0 0 2001, .burnRetry 2001, .fwRollbackRaise 2001, .lcTransition 2001, .secBurn 2001,
    .rollbackSet 2001, .customerKey 2001, .imageKey 2001, .storeData 2001, .bootRecordSet 2001, .fwData 2001,
    .vcoreBrownout 65536] : List Instr).all (fun c => !c.wf) = true := by decide
theorem test_wf_count : (Instr.sourceEvent 8192).wf = false ∧ (Instr.sof 0 0 8192).wf = false := by decide
theorem test_wf_packet : (Instr.packetInject 0 0 (List.replicate 65 0)).wf = false := by decide
theorem test_wf_slack : (Instr.slackEnd 0 (2 ^ 20)).wf = false ∧ (Instr.routerSet true 0 (2 ^ 20)).wf = false := by decide
theorem test_wf_echo : (Instr.echo 0 0 (2 ^ 32)).wf = false := by decide
theorem test_wf_slices : (Instr.exchangeMessage 0 0 (List.replicate 17 0) true false).wf = false := by decide
/-- A frame of 522 bytes (Table BWP-5). -/
def longFrame : List Byte := List.replicate 522 0

theorem test_wf_host_frames : ([.bwRequest longFrame, .bwStatus longFrame, .bwResponse longFrame,
    .bwAck longFrame, .bwEvents longFrame, .bwEvtMask longFrame, .search longFrame,
    .bwIdentify longFrame, .assign longFrame] : List Instr).all (fun c => !c.wf) = true := by decide
theorem test_wf_latency : (Instr.laneAligned 0 65536).wf = false := by decide
theorem test_wf_pins : (Instr.clockEdge (.gck 0) (List.replicate 769 (0, true))).wf = false := by decide
theorem test_wf_good : (Instr.tick).wf = true ∧ (Instr.burnRetry 2000).wf = true ∧ (Instr.packetInject 0 0 [0, 0, 0, 0]).wf = true := by decide

/-! ## States for witnesses -/

/-- A unit that is on, Headland up. -/
def up : State := { on := true, hl := { up := true } }

/-- Request `op` of MB0 with payload `pay`. -/
def rq (op pay : Nat) : Service := ⟨0, op, 240, 7, pay⟩

/-- It is in service. -/
def asks (op pay : Nat) (s : State) : State := { s with hl := { s.hl with serving := some (rq op pay) } }

/-- Registers set by address. -/
def regs (l : List (Nat × Word)) (s : State) : State := { s with csr := l }

/-- The payload that asks for the next tick, with `x` from byte 8 on. -/
def nextTick (x : Nat) : Nat := 2 ^ 48 - 1 + x * 2 ^ 64

/-- Ports 0 and 1 are active, their links up; `x` replaces registers. -/
def chained (x : List (Nat × Word)) : State :=
  regs (x ++ [(ZV 0 0x820, 0), (ZV 0 4, 1), (ZV 1 4, 1), (ZV 0 0, 1), (ZV 1 0, 1), (CK 0x4A0, 8), (CK 0x4A4, 8)])
    { up with rails := { vmem := true, vtx := true, vtt := true } }

theorem witness_serves (op pay : Nat) (s : State) (h : s.hl.halted = false) : (asks op pay s).serves (rq op pay) op := ⟨rfl, rfl, h⟩

theorem witness_target (op x : Nat) (s : State) : s.target ((rq op (nextTick x)).tgt 0) = some s.nextTarget := by
  have : (rq op (nextTick x)).tgt 0 = 2 ^ 48 - 1 := by
    simp only [rq, Service.tgt, Service.u, fieldAt, bits, nextTick]; omega
  simp [State.target, this]

theorem witness_StepRunsFront : ({ pending := [.tick] } : State).pending = .tick :: [] ∧ State.reset.pending = [] := ⟨rfl, rfl⟩

theorem witness_sound : ({ mem := [(5, 1)] } : State).sound := by unfold State.sound; decide

theorem witness_step : ∃ t, step ({ mem := [(5, 1)], pending := [.ack 3] } : State) = .next t := ⟨_, rfl⟩


/-! ## Witnesses: requests -/

theorem witness_HeadRequests : (regs [(ZV 0 0x800, 0x2000000)] up).isHead = true ∧ up.isHead = false := by decide

/-- Region 3 held by a committed load whose context 0 is loaded. -/
def held3 : State := regs [(RG 3 0, 0x10000)] { up with rg := [(3, { held := true, cause := 1, committed := true })], run := { hold := false } }

/-- Controller 5 with descriptor `d`. -/
def queue5 (d : Nat) : State := { up with qs := [(5, { desc := BitVec.ofNat 160 d })], run := { hold := false } }

theorem witness_TargetedChanges : held3.groupReleasable ((rq 0x0401 (nextTick 3)).u 8 1) = true ∧
    (held3.releaseGroup ((rq 0x0401 (nextTick 3)).u 8 1)).all held3.releaseOk = true ∧
    up.loadCarries ((rq 0x0501 (nextTick 5)).q 8) = false ∧ up.descPending ((rq 0x0501 (nextTick 5)).q 8) = false ∧
    up.newDescOk ((rq 0x0501 (nextTick 5)).q 8) ((rq 0x0501 (nextTick 5)).u 12 20) = true ∧
    (queue5 (5 + 2 * 2 ^ 24 + 2 ^ 115)).loadCarries ((rq 0x0502 (nextTick 5)).q 8) = false ∧
    dMode ((queue5 (5 + 2 * 2 ^ 24 + 2 ^ 115)).futureDesc ((rq 0x0502 (nextTick 5)).q 8)) = 5 ∧
    dDouble ((queue5 (5 + 2 * 2 ^ 24 + 2 ^ 115)).futureDesc ((rq 0x0502 (nextTick 5)).q 8)) = true ∧
    up.src ≠ 2 := by decide

theorem witness_TargetedChanges_P : up.changeKeeps up.nextTarget (.tickP ((rq 0x0701 (nextTick 4096)).u 8 2)) = true := by decide
theorem witness_TargetedChanges_W : up.changeKeeps up.nextTarget (.wave ((rq 0x0704 (nextTick 96)).u 8 1)) = true := by decide

theorem witness_TargetedChanges_power : (rq 0x0705 (nextTick 2)).u 8 1 ≠ up.mode ∧ ¬(up.mode = 2 ∧ (rq 0x0705 (nextTick 2)).u 8 1 = 1) ∧
    up.ld.phase = .idle ∧ (∀ r, r < 96 → (up.region r).held = false) ∧ up.powerPending = false :=
  ⟨by decide, by decide, rfl, fun _ _ => rfl, by decide⟩

theorem witness_TargetedChanges_clock (b : Bool) : let v := rq 0x0706 (nextTick 0x400)
    clockLimits b (fun o => if o = v.u 8 4 then applyWrite ((ckFields (v.u 8 4)).getD []) (up.futureClock (v.u 8 4)) (v.u 12 4)
      else up.futureClock o) = true ∧ spllOf (v.u 8 4) = none := by cases b <;> decide

theorem witness_TargetedChanges_firmware : (up.slot (0x10 + (rq 0x0D04 (nextTick 0)).u 8 1)).st = 2 := by decide

/-- MB0 has staged `t` for region 3. -/
def staged (t : List Word) : State := { up with mb := [(0, { staged := [(3, t)] })] }

theorem witness_ScheduleCommit : (up.mbox 0).staged = [] ∧
    (let s := staged [1, 0, 4096, 0, 0, 0, 0, 0, 0, 0]
     (s.mbox 0).staged ≠ [] ∧ (∀ x ∈ (s.mbox 0).staged, (s.region x.1).held = false ∧ s.changeNames x.1 = false) ∧
     s.changeKeeps (s.targetNear ((rq 0x0302 0).tgt 0)) (.sched (s.mbox 0).staged) = false) := by decide

theorem witness_ScheduleCommit_good : let s := staged [0, 0, 0, 0, 0, 0, 0, 0, 0, 0]
    s.changeKeeps (s.targetNear ((rq 0x0302 0).tgt 0)) (.sched (s.mbox 0).staged) = true ∧ s.target ((rq 0x0302 0).tgt 0) = none := by decide

theorem witness_ScheduleCommit_next : let s := staged [0, 0, 0, 0, 0, 0, 0, 0, 0, 0]
    s.changeKeeps s.nextTarget (.sched (s.mbox 0).staged) = true := by decide

theorem witness_ScheduleCommit_held : ({ held3 with mb := [(0, { staged := [(3, [])] })] } : State).mbox 0 ≠ {} ∧
    (∃ x ∈ (({ held3 with mb := [(0, { staged := [(3, [])] })] } : State).mbox 0).staged,
      (({ held3 with mb := [(0, { staged := [(3, [])] })] } : State).region x.1).held = true) := by decide

theorem witness_ScheduleCommit_busy : let s : State := { staged [0] with hl := { up := true, changes := [⟨9, 2, 0, .sched [(3, [])], 0⟩] } }
    (∀ x ∈ (s.mbox 0).staged, (s.region x.1).held = false) ∧ ∃ x ∈ (s.mbox 0).staged, s.changeNames x.1 = true := by decide

theorem witness_SettingRequests : up.ld.phase = .idle ∧ ({ up with ld := { phase := .header } } : State).ld.phase ≠ .idle := by decide

/-- A head with a VALID image slot 1 and a finished FORWARD slot 0. -/
def head1 : State := regs [(ZV 0 0x800, 0x2000000)] { up with
  store := { slots := [(1, { st := 2, gen := 9, bytes := List.replicate 13 0 ++ [1] })] }
  chain := { fwd := [{ slot := 0, dst := 5, op := 0x0101, tag := 1, ps := 0, fin := true }] } }

theorem witness_HeadActs : head1.isHead = true ∧ (head1.slot ((rq 0x0806 1).u 0 1)).st = 2 ∧
    (head1.slot ((rq 0x0806 1).u 0 1)).bytes.getD 13 0 = 1 ∧ head1.chain.bcast.st ≠ 1 ∧ head1.ld.phase = .idle ∧
    (rq 0x0810 5).u 0 2 ≠ head1.zaddr ∧ (List.range 32).find? (fun k => !head1.chain.fwd.any (fun f => f.slot = k)) = some 1 ∧
    (head1.chain.fwd.find? (fun f => f.slot = (rq 0x0811 0).u 0 1)).map (·.fin) = some true ∧
    ({ head1 with chain := { bcast := { st := 1 } } } : State).chain.bcast.st = 1 ∧
    ((rq 0x0806 (1 + 2 * 2 ^ 8)).u 1 1).testBit 1 = true ∧
    (let s : State := { head1 with run := { configured := true, hold := false } }
     s.takesBcast (s.slot 1).gen ((rq 0x0806 (1 + 2 * 2 ^ 8)).u 1 1) = true) ∧
    (let s : State := { head1 with chain := { bcast := { st := 1, flags := 2 } }, ld := { phase := .header, source := 3 } }
     s.chain.bcast.flags.testBit 1 = true ∧ s.ld.source = 3 ∧ s.ld.phase ≠ .idle ∧ s.ld.boot = false ∧ s.bt.on = false) := by decide

theorem witness_HeadActs_off : up.isHead = false ∧ [] = upPorts.filter (fun p => up.portUp p && !up.low p) ∧
    (let s := chained []
     s.isHead = false ∧ [0] = upPorts.filter (fun p => s.portUp p && !s.low p)) := by decide

/-- A load from MB0's stream that waits for its header. -/
def streaming : State := { up with ld := { phase := .header, source := 4, mb := 0 } }

theorem witness_LoadRequests_start : up.loadRefusal (rq 0x0201 (4 + 2 ^ 16)) = .ok 0 ∧ up.bt.on = false := ⟨rfl, rfl⟩

theorem witness_LoadRequests_boot : let s : State := { up with bt := { on := true, source := 4 } }
    s.loadRefusal (rq 0x0201 (4 + 2 ^ 16)) = .ok 0 ∧ (rq 0x0201 (4 + 2 ^ 16)).u 0 1 = 4 ∧ (rq 0x0201 (4 + 2 ^ 16)).u 2 1 = 1 := ⟨rfl, rfl, rfl⟩

theorem witness_LoadRequests_empty : up.powerPending = false ∧ up.sequencing = false ∧ (rq 0x0201 0).u 0 1 = 0 ∧
    (up.slot ((rq 0x0201 0).u 1 1)).st ≠ 2 ∧ up.ld.phase = .idle := by decide

theorem witness_LoadRequests : streaming.ld.phase ≠ .idle ∧ streaming.ld.source = 4 ∧ streaming.ld.stalled = false ∧ streaming.ld.wants = true ∧
    (rq 0x0202 0).u 0 4 = streaming.ld.took ∧ (rq 0x0203 0).mb = streaming.ld.mb ∧
    (let s : State := { up with sq := { on := true, released := true, steps := [6, 0, 0, 0, 0, 0] } }
     s.sequencing = true ∧ s.sq.released = true ∧ s.sq.step = (rq 0x0207 6).u 0 1) := by decide

/-- The same, with power in the routers, and the words of blocks given. -/
def powered (s : State) : State := { s with rails := { vmem := true } }

theorem witness_QueueRequests : let s := queue5 (1 + 2 ^ 24)
    let v := rq 0x0504 (5 + 30 * 2 ^ 16 + 4066 * 2 ^ 32)
    s.loadCarries (v.q 0) = false ∧ v.q 0 < 384 ∧ s.qMode (v.q 0) ≠ 0 ∧ v.u 4 4 + v.u 2 2 ≤ s.wq 5 ∧ s.routersOn = false ∧
    up.qMode ((rq 0x0504 5).q 0) = 0 ∧ s.wq 5 < (rq 0x0504 (5 + 2 ^ 48)).u 4 4 + (rq 0x0504 (5 + 2 ^ 48 - 1 + 2 ^ 16)).u 2 2 := by decide

/-- Every router is in slack water. -/
def slacked (s : State) : State := powered { s with csr := s.csr ++ (List.range 48).map (fun n => (NR n 0x10, 2)) }

theorem witness_QueueRequests_way : (∀ off ∈ [0x80, 0x90], let s := powered (queue5 (1 + 2 ^ 24))
    s.routersOn = true ∧ s.headlandWaits (QC 5 off) = false ∧ s.openWay (clusterNode (5 / 12)) (QC 5 off)) ∧
    (∀ off ∈ [0x80, 0x90], (slacked (queue5 (1 + 2 ^ 24))).headlandWaits (QC 5 off) = true) := by
  unfold State.openWay; decide

/-- A word with one flipped bit and one with two, from offset 0 on. -/
theorem witness_QueueRequests_words : let s := { powered (queue5 (1 + 2 ^ 24)) with flips := [(wordKey ((queue5 (1 + 2 ^ 24)).qBlock 5 0) 0, 1),
      (wordKey ((queue5 (1 + 2 ^ 24)).qBlock 5 1) 1, 3)] }
    let v := rq 0x0504 (5 + 3 * 2 ^ 16)
    ∀ i, i < v.u 2 2 → popCount (s.flipMask (s.qBlock (v.q 0) (v.u 4 4 + i)) ((v.u 4 4 + i) % 4096)) 72 = [1, 2, 0].getD i 0 := by decide

/-- READBACK_DISABLE is burnt, and mailbox 6 asks for the descriptor of controller 0. -/
def readback : State := { up with life := { otp := [(24, 1), (25, 1), (26, 1)] } }

theorem witness_CsrRequests : servingNode ((rq 0x0601 0).u 0 4) = none ∧
    readback.readbackOff 6 (QC 0 0) = true ∧ up.readbackOff 0 0x30000800 = false ∧ up.headlandWaits 0x30000800 = false ∧
    (let s := regs [(NR 5 0x10, 2)] { up with rails := { vmem := true } }
     s.headlandWaits (NR 5 0) = true ∧ s.readbackOff 0 (NR 5 0) = false) ∧
    (up.headlandAccess ((rq 0x0601 0x30000800).u 0 4) false ((rq 0x0601 0x30000800).u 4 1 = 1) 0).1.1 = 0 ∧
    (({ up with rails := { vmem := true } } : State).headlandAccess (QC 0 0) false false 0).1.1 = 0 ∧
    (blockOf ((rq 0x0602 0x30000800).u 0 4) = .ck 0x800 ∧ (regFields ((rq 0x0602 0x30000800).u 0 4)).isSome = true ∧
      csrMask ((rq 0x0602 0x30000800).u 0 4) = 0) ∧
    (let v := rq 0x0602 0x3000080C
     csrMask (v.u 0 4) ≠ 0 ∧ up.csrRefusal (v.u 0 4) (v.u 8 4) = none ∧ up.headlandWaits (v.u 0 4) = false ∧
     (up.headlandAccess (v.u 0 4) true (v.u 4 1 = 1) (v.u 8 8)).1.1 = 0) := by decide

theorem witness_CsrRequests_way : (servingNode (QC 0 0) = some 34 ∧ (powered up).managed (QC 0 0) = false ∧ (powered up).openWay 34 (QC 0 0) ∧
      (∀ r, r < 96 → nodeKind 34 ≠ .region r)) ∧
    ((regFields (NR 47 0x80)).isSome = true ∧ (slacked up).csrRefusal (NR 47 0x80) 1 = none ∧ (slacked up).headlandWaits (NR 47 0x80) = true) ∧
    ((chained []).csrRefusal (ZV 0 0) 1 = some stNOT_READY ∧ (regFields (ZV 0 0)).isSome = true ∧ blockOf (ZV 0 0) = .zv 0 0) ∧
    ((regFields (NR 3 4)).isSome = true ∧ blockOf (NR 3 4) = .router 3 4) := by
  unfold State.openWay; decide

theorem witness_RouterSet : (List.range 48).any up.slackActive = false ∧ up.routersOn = false ∧ (powered up).routersOn = true ∧
    (List.range 48).any (regs [(NR 47 0x10, 2)] up).slackActive = true ∧ State.drained 47 up = true ∧
    (rq 0x0603 (7 + 5 * 2 ^ 8)).u 0 1 = 7 ∧ (rq 0x0603 (7 + 5 * 2 ^ 8)).u 1 1 = 5 ∧
    State.drained 47 ((((up.plainWrite (NR 47 4) 0).setFld (NR 47 0xC) 0 8 0).slackEnter 47).drain 47) = true := by decide

/-- The head of a packet has left router 47 and the rest never comes. -/
def stuckNet : State := { powered up with net := [{ hdr := 0, data := [0], left := 2, hops := [{ router := 47, inp := 0, out := 1, sent := 1, holds := true }] }] }

theorem witness_RouterSet_stuck : (List.range 48).any stuckNet.slackActive = false ∧
    State.drained 47 ((((stuckNet.plainWrite (NR 47 4) 0).setFld (NR 47 0xC) 0 8 0).slackEnter 47).drain 47) = false := by decide

/-- A reservoir of 10 mF in a valid boot record (the CRC is that of its bytes). -/
def recorded : State :=
  let b := packLE [(0x31524259, 4), (1, 4), (0, 1), (0, 1), (100, 2), (0, 48)]
  { up with store := { rec0 := BitVec.ofNat 512 (b + crc32c (bytesLE b 60) * 2 ^ 480) } }

theorem witness_BurnRequests : 3 ≤ up.lc ∧ up.burnBusy = false ∧ (rq 0x0903 16).u 0 2 &&& up.otp gSec ≠ (rq 0x0903 16).u 0 2 ∧
    up.imgRollback < (rq 0x0904 64).u 0 1 ∧ up.custSet = false ∧ up.life.burning = false ∧ up.freeImgKey = some 0 ∧
    up.burnHeld 2000 = false := by decide

theorem witness_BurnRequests_transition : ({ up with life := { otp := [(9, 2 ^ 384), (10, 2 ^ 384)] } } : State).lcRefusal
    ⟨0, 0x0902, 4, 7, 0x1F⟩ = none := by decide

theorem witness_BurnRequests_held : recorded.burnHeld 2000 = true := by decide

/-- A unit whose transport key is 00 01 … 1F. -/
def keyed : State := { up with life := { otp := (List.range 3).map (fun c =>
  (6 + c, 0x000102030405060708090A0B0C0D0E0F101112131415161718191A1B1C1D1E1F <<< 128)) } }

/-- The wrapped key of RFC 3394, 4.6, in the payload of IMAGE_KEY, byte 4 on. Its unwrapping gives the key 00 11 … 0F there; run
outside, its evaluation is too long for the kernel. -/
theorem witness_BurnRequests_key : keyed.transport = 0x000102030405060708090A0B0C0D0E0F101112131415161718191A1B1C1D1E1F ∧
    fieldBE ((rq 0x0906 (natLE (bytesLE 0x28C9F404C4B810F4CBCCB35CFB87F8263F5786E2D80ED326CBC7F0E71A99F43BFB988B9B7A02DD21 40).reverse * 2 ^ 32)).pay) 4 40 =
      0x28C9F404C4B810F4CBCCB35CFB87F8263F5786E2D80ED326CBC7F0E71A99F43BFB988B9B7A02DD21 ∧ keyed.burnBusy = false ∧
    keyed.freeImgKey = some 0 := by decide

theorem witness_DebugRequests : up.sec 4 = false ∧ ¬((rq 0x0907 0).mb = 0 ∧ up.lc < 4) ∧ up.tokenRefusal (rq 0x0908 0) = some (stBAD_ARG, 0) := by
  decide

/-- Where the signature of its last 96 bytes verifies, a token for this unit, its nonce and SCOPE 1 passes. (The authorisation
service's key is a value the spec does not give, so no signature can be written out.) -/
theorem witness_DebugRequests_token (h : ecdsaVerify Config.authServiceKey (sha384 ((rq 0x0908 (0x4B544459 + 2 ^ 416)).str 0 56))
    (BitVec.ofNat 384 (fieldBE (rq 0x0908 (0x4B544459 + 2 ^ 416)).pay 56 48))
    (BitVec.ofNat 384 (fieldBE (rq 0x0908 (0x4B544459 + 2 ^ 416)).pay 104 48)) = true) :
    ({ up with life := { otp := [(6, 0), (7, 0), (8, 0)], nonce := some 0 } } : State).tokenRefusal
      (rq 0x0908 (0x4B544459 + 2 ^ 416)) = none := by
  have a : ({ up with life := { otp := [(6, 0), (7, 0), (8, 0)], nonce := some 0 } } : State).sec 4 = false := by decide
  have b : ({ up with life := { otp := [(6, 0), (7, 0), (8, 0)], nonce := some 0 } } : State).unitId = 0 := by decide
  have c : ({ up with life := { otp := [(6, 0), (7, 0), (8, 0)], nonce := some 0 } } : State).lc ≠ 7 := by decide
  have d : ¬((rq 0x0908 (0x4B544459 + 2 ^ 416)).u 0 4 ≠ 0x4B544459 ∨ (rq 0x0908 (0x4B544459 + 2 ^ 416)).u 4 16 ≠ 0 ∨
    (rq 0x0908 (0x4B544459 + 2 ^ 416)).u 52 1 = 0 ∨ 3 < (rq 0x0908 (0x4B544459 + 2 ^ 416)).u 52 1 ∨
    (rq 0x0908 (0x4B544459 + 2 ^ 416)).u 53 3 ≠ 0) := by decide
  have e : fieldBE (rq 0x0908 (0x4B544459 + 2 ^ 416)).pay 20 32 = (0 : BitVec 256).toNat := by decide
  simp only [State.tokenRefusal, b, if_neg d, e, h, a, c]
  rfl

/-- Block 0 is the probe block's, its buffer has one block. -/
def armed0 : State := regs [(PB 0, 0x20), (PB 0x40, 0x1000)] { up with glob := [(0x40, 0x480)] }

theorem witness_ProbeRequests : up.fullLoading = false ∧
    (let s : State := { up with glob := [(0x40, 1)] }
     s.resourceSpare ((rq 0x0A01 0).u 0 1) ((rq 0x0A01 0).u 2 2) = true ∧ s.lent 0 0 = none) ∧
    ({ up with ld := { phase := .header } } : State).fullLoading = true ∧
    (0, 0, 0) ∈ ({ up with hl := { loanList := [(0, 0, 0)] } } : State).hl.loanList ∧ (0, 0, 0) ∉ up.hl.loanList ∧
    up.probeRefusal 0 0x301 0 = some stBAD_ARG ∧ up.probeRefusal 0 0x100 0 = none ∧
    ((({ up with rails := { vmem := true }, csr := [(CK 0x4B0, 8)] } : State).setFld (PB 4) 16 4 0).headlandAccess (PB 0x100) true false 0).1.1 = 0 ∧
    (armed0.holder = 0xF ∧ armed0.sounding = false ∧ armed0.bufBlocks ≠ [] ∧
      (∀ k ∈ armed0.bufBlocks, armed0.mayBlock armed0.holder k = true) ∧ armed0.gateOpen 0x2C = true) := by decide

theorem witness_ProbeRequests_loans : up.resourceSpare 0 0 = false ∧ up.fullLoading = false ∧
    (let s : State := { up with glob := [(0x40, 1)], hl := { up := true, loanList := [(0, 0, 3)] } }
     s.resourceSpare 0 0 = true ∧ s.lent 0 0 = some 3 ∧ (3 : Nat) ≠ (rq 0x0A01 0).mb) ∧
    (let s : State := { up with glob := [(0x40, 1)], hl := { up := true, loanList := [(0, 0, 0)] } }
     s.lent 0 0 = some (rq 0x0A01 0).mb) ∧
    ((slacked up).probeRefusal 0 0x100 0 = none ∧ (slacked up).headlandWaits (PB 0x100) = true) ∧
    up.headlandWaits (PB 0x100) = false ∧ ((up.setFld (PB 4) 16 4 0).headlandAccess (PB 0x100) true false 0).1.1 ≠ 0 ∧
    ({ armed0 with csr := armed0.csr ++ [(CK 0x4B0, 0)] } : State).gateOpen 0x2C = false := by decide

/-- Streams open on slot 1 and FW1, four bytes taken. -/
def writing (fin : Bool) : State := { up with store := {
  img := { on := true, slot := 1, mb := 0, took := 4, fin }, fw := { on := true, slot := 0x11, mb := 0, took := 4, fin } } }

theorem witness_StoreRequests : (up.store.img.on = false ∧ up.slotBusy 2 = false ∧ up.slotRead 2 = false ∧ (up.slot 2).prog < 100000 ∧
      ¬(2 = up.goldenSlot ∧ (up.slot 2).st = 2)) ∧
    100000 ≤ (({ up with store := { slots := [(2, { prog := 100000 })] } } : State).slot 2).prog ∧
    ((rq 0x0D01 1).u 0 1 ≠ up.hl.run ∧ up.slotBusy 0x11 = false ∧ (up.slot 0x11).prog < 100000) ∧
    (∀ fw, ((writing false).stream fw).on = true ∧ ((writing false).stream fw).mb = 0 ∧ ((writing false).stream fw).fin = false ∧
      (rq 0x0B02 4).u 0 4 = ((writing false).stream fw).took ∧
      ((writing false).stream fw).took + (rq 0x0B02 4).data.length ≤ slotBytes ((writing false).stream fw).slot ∧
      ((writing false).stream fw).chunk.length + (rq 0x0B02 4).data.length < chunkBytes ∧
      ((writing false).stream fw).needs (((writing false).stream fw).chunk.length + (rq 0x0B02 4).data.length) ≤ (writing false).freeBuffers ∧ (rq 0x0B02 4).fin = false ∧
      ((writing true).stream fw).fin = true ∧ (writing true).store.sealing = none) ∧
    (({ up with store := { slots := [(1, { st := 2 })] } } : State).slot 1).st = 2 ∧ holdsUp 1 2000 (chunkNeed 64) = true := by
  decide

/-- Streams with four bytes taken, and a boot record that gives the reservoir. -/
def closing (busy : Bool) : State := { writing false with store := { (writing false).store with
  rec0 := recorded.store.rec0, prog := if busy then some (3, []) else none } }

theorem witness_StoreRequests_closing : (∀ b fw, ((closing b).stream fw).on = true ∧ ((closing b).stream fw).mb = 0 ∧
      ((closing b).stream fw).fin = false ∧ (rq 0x0B02 (4 + 2 ^ 32)).u 0 4 = ((closing b).stream fw).took ∧
      ((closing b).stream fw).took + (rq 0x0B02 (4 + 2 ^ 32)).data.length ≤ slotBytes ((closing b).stream fw).slot ∧
      (rq 0x0B02 (4 + 2 ^ 32)).fin = true) ∧
    (closing false).programming = false ∧ (closing true).programming = true ∧
    (∀ n, n = ((closing false).stream false).chunk.length + (rq 0x0B02 (4 + 2 ^ 32)).data.length →
      holdsUp (closing false).holdupC 2000 (chunkNeed (min n chunkBytes)) = true ∧ holdsUp (closing false).holdupC 0 (chunkNeed (min n chunkBytes)) = false ∧
      ((closing false).stream false).needs n ≤ (closing false).freeBuffers) := by
  refine ⟨by decide, by decide, by decide, fun n h => ?_⟩
  subst h; decide

/-! ## Witnesses: mailboxes, Headland, Breakwater -/

/-- MB0 in state `st`. -/
def box (st : MbState) : State := { up with mb := [(0, { st })] }

theorem witness_MailboxRegisters : up.pathOpen 0 = true ∧ ({ up with life := { otp := [(24, 4), (25, 4), (26, 4)] } } : State).pathOpen 6 = false ∧
    up.takes 0 = true ∧ (up.mbox 0).st = .idle ∧ up.takes 2 = false ∧ (box .waiting).takes 0 = true ∧
    ((box .waiting).mbox 0).st = .waiting ∧ ((box .serving).mbox 0).st = .serving ∧ ((box .done).mbox 0).st = .done ∧
    (0 + 16 - (0x800 : Word).toNat / 256 % 16) % 16 = 8 ∧ 8 < (0 + 16 - (0x700 : Word).toNat / 256 % 16) % 16 := by decide

/-- A STATUS request waits in MB0; with `aged` an older one in MB3. -/
def queued (op : Nat) (aged : Bool) : State := { up with mb := [(0, { st := .waiting, req := BitVec.ofNat 2048 op })] ++
  (if aged then [(3, { st := .waiting, aged := true, ringNo := 4 })] else []) }

theorem witness_ServiceStarts : (queued 0x0102 false).nextRequest = some 0 ∧ (queued 0x0102 true).nextRequest = some 3 ∧
    up.nextRequest = none ∧
    (queued 0x0102 false).refusal ((queued 0x0102 false).readRequest 0) (fieldAt ((queued 0x0102 false).mbox 0).req.toNat 6 2) = none ∧
    (queued 0x0001 false).refusal ((queued 0x0001 false).readRequest 0) (fieldAt ((queued 0x0001 false).mbox 0).req.toNat 6 2)
      = some (stBAD_OPCODE, 0) ∧
    up.hl.halted = false ∧ up.hl.serving = none ∧ up.hl.slice = false := by decide

theorem witness_ServiceEnds : (asks 0x0101 0 up).hl.serving = some (rq 0x0101 0) ∧
    (let s : State := regs [(MB 0 0x208, 0x20)] { up with hl := { up := true, latches := [⟨5, 1, 0, 0⟩] }, mb := [(2, { wr := 8 })] }
     s.bit (MB 0 0x208) 5 = true ∧ s.evtCnt 0 = 0 ∧ s.bit (MB 3 0x208) 5 = false ∧ s.evtCnt 2 = 8) ∧
    (∀ wr ∈ [0, 8], let s : State := { up with hl := { up := true, directed := [⟨3, 7, 1, 5, false, 0⟩] }, mb := [(3, { wr })] }
     s.hl.directed = [⟨3, 7, 1, 5, false, 0⟩] ∧ s.hl.reports = [] ∧ s.hl.latches = [] ∧ s.evtCnt 3 = wr) := by decide

/-- Whichever way the signature of an empty slot comes out, one of the three ends of a restart is met. -/
theorem witness_HeadlandRestarts : ∃ s : State, s.hl.restarting = true ∧ s.ld.phase = .idle ∧ s.scrapped = false ∧
    (s.fwOk s.hl.sel = true ∨ (s.fwOk s.hl.sel = false ∧ s.fwOk (1 - s.hl.sel) = false)) := by
  let s : State := { on := true, hl := { restarting := true } }
  have e : s.fwOk (1 - s.hl.sel) = s.fwOk s.hl.sel := rfl
  refine ⟨s, rfl, rfl, rfl, ?_⟩
  rw [e]
  cases s.fwOk s.hl.sel <;> simp

/-- A unit with host address 5. -/
def hosted (st : MbState) : State :=
  { box (if st = .waiting then .serving else st) with rails := { vhost := true }, isl := { st, devUp := true, haddr := some 5 } }

theorem witness_HostFrames : (hosted .idle).hostAddr = 5 ∧ (hosted .idle).takes 0 = true ∧ ((hosted .idle).mbox 0).busy = false ∧
    readFrame (writeFrame 5 1 9 [2, 1, 0, 0, 1, 0, 0, 0]) = some ⟨5, 1, 9, [2, 1, 0, 0, 1, 0, 0, 0]⟩ ∧
    readFrame (writeFrame 5 2 9 []) = some ⟨5, 2, 9, []⟩ ∧ readFrame (writeFrame 5 3 9 []) = some ⟨5, 3, 9, []⟩ ∧
    readFrame (writeFrame 5 4 9 []) = some ⟨5, 4, 9, []⟩ ∧ readFrame (writeFrame 5 5 9 [0, 7, 1]) = some ⟨5, 5, 9, [0, 7, 1]⟩ ∧
    readFrame (writeFrame 5 6 9 [0xFF, 0x1F, 0, 0]) = some ⟨5, 6, 9, [0xFF, 0x1F, 0, 0]⟩ ∧ (hosted .done).isl.st = .done ∧
    (hosted .waiting).isl.lastSeq ≠ 9 ∧ (hosted .idle).island.st = .idle ∧ (hosted .waiting).island.st ≠ .idle ∧ (hosted .done).island.st = .done ∧
    (hosted .idle).isl.devUp = true ∧ (hosted .idle).on = true ∧ (0 : Byte).toNat ≤ (hosted .idle).island.evtCnt ∧
    ({ hosted .idle with isl := { devUp := false, haddr := some 5 } } : State).isl.devUp = false ∧
    ({ hosted .idle with isl := { devUp := false, haddr := some 5 } } : State).hostAddr = 5 ∧
    ({ hosted .waiting with isl := { (hosted .waiting).isl with lastSeq := 9 } } : State).isl.lastSeq = 9 := by decide

theorem witness_BusFrames : readFrame (writeFrame 0 8 1 (List.replicate 18 0)) = some ⟨0, 8, 1, List.replicate 18 0⟩ ∧
    readFrame (writeFrame 0 10 1 (List.replicate 16 0 ++ [0xFE, 0x0F])) = some ⟨0, 10, 1, List.replicate 16 0 ++ [0xFE, 0x0F]⟩ ∧
    readFrame (writeFrame 0 9 1 (List.replicate 16 0)) = some ⟨0, 9, 1, List.replicate 16 0⟩ ∧
    ({ up with life := { otp := [(6, 0), (7, 0), (8, 0)] } } : State).unitBytes = List.replicate 16 0 ∧
    ({ up with life := { otp := [(6, 1), (7, 1), (8, 1)] } } : State).unitBytes ≠ List.replicate 16 0 ∧ readFrame [0xA5] = none ∧
    readFrame (writeFrame 0 9 1 (List.replicate 17 0)) = some ⟨0, 9, 1, List.replicate 17 0⟩ ∧
    readFrame (writeFrame 0 10 1 (List.replicate 16 0)) = some ⟨0, 10, 1, List.replicate 16 0⟩ ∧ State.reset.rails.vhost = false := by decide

theorem witness_HostAddress : natLE [0xFE, 0x0F] = 0xFFE ∧ natLE [0xFF, 0x0F] = 0xFFF ∧ natLE [0, 0] = 0 ∧ natLE [1, 0] = 1 ∧
    readFrame (writeFrame 0 10 1 (List.replicate 16 0 ++ [0xFF, 0x0F])) = some ⟨0, 10, 1, List.replicate 16 0 ++ [0xFF, 0x0F]⟩ ∧
    readFrame (writeFrame 0 10 1 (List.replicate 18 0)) = some ⟨0, 10, 1, List.replicate 18 0⟩ ∧
    (hosted .idle).isl.haddr = some 5 ∧ up.isl.haddr = none := by decide

theorem witness_Barrier : (let s : State := { box .done with isl := { st := .waiting, devUp := true } }
    s.on = true ∧ s.isl.devUp = true ∧ (s.mbox 0).st = .done ∧ s.isl.st = .waiting) ∧ up.on = true ∧ up.isl.devUp = false := by decide

theorem witness_UnassignedAccess : servingNode 0 = none ∧ (∀ off, blockOf 0x30000FFC ≠ .mem off) ∧ regFields 0x30000FFC = none := by
  refine ⟨by decide, fun off h => ?_, by decide⟩
  have : blockOf 0x30000FFC = .ck 0xFFC := by decide
  rw [this] at h; cases h

/-- In SCRAPPED the boot ROM serves alone. -/
theorem witness_HeadlandRestarts_scrapped : (let s : State := { on := true, hl := { restarting := true }, life := { start := 7 } }
    s.hl.restarting = true ∧ s.scrapped = true) ∧ (up.hl.up = true ∧ up.ld.phase = .idle) ∧
    (let s : State := { up with ld := { kind := 2 } }
     s.hl.up = true ∧ s.ld.full = false ∧ s.ld.kind ≠ 1) := by decide

/-! ## Witnesses: tick, contexts, edges -/

theorem witness_LaterFrame : (0 : Nat) < 2 ^ 48 ∧ 2 ^ 48 - 1 < 2 ^ 48 ∧ laterFrame 0 (2 ^ 48 - 1) = true ∧ laterFrame (2 ^ 47 - 1) 0 = true ∧
    laterFrame (2 ^ 47) 0 = false ∧ laterFrame 3 3 = false := by decide

theorem witness_TickCommands : up.src ≠ 2 ∧ (regs [(CK 0x800, 2)] up).src = 2 ∧
    (regs [(CK 0x800, 0x30001), (CK 0x80C, 1)] { up with tick := { quiet := 3 } }).lossDue = true ∧ up.lossDue = false := by decide

theorem witness_SourceEvents : up.src = 0 ∧ up.mode = 0 ∧ (regs [(CK 0x204, 1)] up).mode ≠ 0 ∧
    (let s := regs [(CK 0x800, 0x30041), (CK 0x80C, 1)] { up with tick := { slips := 3 } }
     s.src ≠ 0 ∧ s.mode = 0 ∧ s.locked = true ∧ s.tick.ext = 0 ∧ s.slipLimit ≤ s.tick.slips + 1 ∧ (16 + s.ofs) % s.P = 0 ∧
     (15 + s.ofs) % s.P ≠ 0) ∧
    (let s := regs [(CK 0x800, 0x30041)] up
     s.locked = false ∧ s.tick.slips + 1 < s.slipLimit) ∧
    ({ up with tick := { ext := 5 } } : State).tick.ext ≠ 0 := by decide

/-- One accepted change. -/
def accepted (target : Nat) (what : Change) : State := { up with hl := { up := true, changes := [⟨target, 0, 7, what, 0⟩] } }

theorem witness_TickCommand : (up.presetDue = none ∧ up.tick.preset = false ∧ up.tick.jump = none ∧ up.tick.zero = false) ∧
    (let s : State := { up with tick := { pendP := some 4096, pendW := some 96, pendSrc := some 2, ext := 1, zero := true } }
     s.presetDue = none ∧ s.tick.preset = false ∧ s.tick.jump = none ∧ s.tick.zero = true ∧ s.tick.ext ≠ 0 ∧
     s.tick.pendSrc = some 2 ∧ 2 ≠ s.src ∧ s.tick.pendP = some 4096 ∧ s.tick.pendW = some 96) ∧
    ({ up with tick := { ext := 1 } } : State).tick.pendSrc = none ∧
    (let s : State := { up with tick := { jump := some 5 } }
     s.presetDue = none ∧ s.tick.preset = false ∧ s.tick.jump = some 5) ∧
    (let s : State := { up with tick := { preset := true } }
     s.presetDue = none ∧ s.tick.preset = true) ∧
    up.chain.bcast.st ≠ 1 := by decide

/-- The cases of LOCKED, and a tick whose frame is over. -/
theorem witness_TickCommand_locked : (let s := regs [(CK 0x800, 1)] up
     s.src ≠ 0 ∧ s.tick.ext = 0 ∧ s.tick.pendSrc = none ∧ s.tick.count < s.P + s.tick.ext) ∧
    (up.src = 0 ∧ up.tick.acq = true ∧ up.tickGenerator.src = 0) ∧ ({ up with tick := { acq := false } } : State).tick.acq = false ∧
    (let s : State := { up with tick := { count := 4096 } }
     ¬s.tick.count < s.P + s.tick.ext) := by decide

theorem witness_TickCommand_preset : (accepted 1 (.preset 77)).presetDue = some 77 ∧ (accepted 2 (.preset 77)).presetDue = none := by decide

/-- Queue 0 looks up two halves, queue 1 is a pipeline, queue 2 a FIFO under drain with 5 words. -/
def tiers : State := { up with run := { hold := false }, qs := [(0, { desc := BitVec.ofNat 160 (5 + 2 * 2 ^ 24 + 2 ^ 115), lutPend := true }),
  (1, { desc := BitVec.ofNat 160 (3 + 2 * 2 ^ 24) }), (2, { desc := BitVec.ofNat 160 (1 + 2 * 2 ^ 24 + 2 ^ 112), occ := 5 })] }

theorem witness_TickCommand_queues : tiers.clk.self = none ∧ tiers.clk.stopped = false ∧ tiers.run.hold = false ∧ tiers.qMode 0 ≠ 0 ∧
    (tiers.queue 0).lutPend = true ∧ dDouble (tiers.desc 0) = true ∧ tiers.qMode 1 = 3 ∧ tiers.jumps = false ∧ tiers.qMode 2 = 1 ∧
    dDrain (tiers.desc 2) = true ∧ (tiers.queue 2).ro.length < 16 ∧ dMaxf (tiers.desc 2) = 0 := by decide

/-- Region 2 runs step 1 of its table in context 1. -/
theorem witness_TickCommand_schedule : let s := regs [(RG 2 0, 0x31101), (RG 2 4, 2)] up
    s.schedRun 2 = true ∧ (s.region 2).held = false ∧ s.clk.stopped = false ∧ s.leads 2 = true ∧ s.stepCtx 2 0 ≠ s.active 2 ∧
    s.canEnter 2 (s.stepCtx 2 0) = true ∧ (regs [(RG 2 0, 0x11000)] up).stepCtx 2 0 = (regs [(RG 2 0, 0x11000)] up).active 2 := by decide

theorem witness_TickCommand_plan : up.tickGenerator.hl.up = true ∧ up.tickGenerator.planDue = false := by decide

theorem witness_TickCommand_chain : head1.isHead = true ∧ head1.mode = 0 ∧
    (let s := regs [(ZV 0 0x40, 3)] { up with chain := { sides := [(0, { cap := [0] })] } }
     s.xEn 0 = true ∧ s.mode = 0 ∧ s.clk.stopped = false ∧ (s.side 0).cap.length = s.xS 0) := by decide

theorem witness_TargetTickCommit : (∀ c ∈ ([.tickP 4096, .wave 96, .preset 5, .tickCtrl 2, .lutSwap 5, .qdesc 5 0, .activate 1, .arm 3,
      .release 3, .power 1, .clockSet (0x100 + 4 * 15) 0, .sched [(3, [0, 0, 0, 0, 0, 0, 0, 0, 0, 0])]] : List Change),
      (accepted 0 c).tick.count = 0 ∧ (accepted 0 c).hl.changes = [⟨0, 0, 7, c, 0⟩]) ∧
    laterFrame 0 (accepted 0 (.tickP 8)).frameNo = false ∧ laterFrame 1 (accepted 1 (.tickP 8)).frameNo = true ∧
    (⟨0, 0, 7, .tickP 8, 0⟩ : Accepted).hardware = false ∧ ({ up with tick := { count := 1 } } : State).tick.count ≠ 0 := by decide

/-- Two changes that have come, and one of two for a later frame. -/
theorem witness_TargetTickCommit_two : let a (f : Nat) (c : Change) : Accepted := ⟨f, 0, 7, c, 0⟩
    let s (f : Nat) (c d : Change) : State := { up with hl := { up := true, changes := [a 0 c, a f d] } }
    (∀ x ∈ ([(.wave 1, .wave 96), (.tickP 8, .wave 96), (.qdesc 383 0, .qdesc 383 1)] : List (Change × Change)),
      (s 0 x.1 x.2).hl.changes = [a 0 x.1, a 0 x.2] ∧ laterFrame 0 (s 0 x.1 x.2).frameNo = false) ∧
    (let u : State := { s 0 (.wave 1) (.wave 2) with tick := { frame := 5 } }
     laterFrame 3 u.frameNo = false ∧ laterFrame 4 u.frameNo = false ∧ subFrame u.frameNo 4 ≤ subFrame u.frameNo 3 ∧
     ¬subFrame u.frameNo 3 ≤ subFrame u.frameNo 4) ∧
    laterFrame 1 (s 1 (.wave 1) (.wave 2)).frameNo = true ∧ (2 : Nat) ≠ 0 := by decide

theorem witness_TargetTickCommit_effects : held3.groupReleasable 3 = true ∧ 3 ∈ held3.releaseGroup 3 ∧ (held3.region 3).held = true ∧
    held3.run.hold = false ∧ up.groupReleasable 3 = false ∧
    ((accepted 0 (.power 1)).mode = 0 ∧ (accepted 0 (.power 0)).clk.moving = false) ∧ (regs [(CK 0x204, 1)] up).mode = 1 ∧
    (let s := regs [(PB 4, 1)] up
     s.pbState = 1 ∧ s.probe.storing = false) ∧
    (let x := applyWrite ((ckFields (0x100 + 4 * 15)).getD []) (up.reg (CK (0x100 + 4 * 15))) (1 + 2 * 2 ^ 4)
     bits x 0 10 ≠ up.fld (CK (0x100 + 4 * 15)) 0 10 ∧ bits x 0 4 = (({ up with clk := { gck := [(15, { src := 1, div := 64 })] } } : State).gckOf 15).src ∧
      bits x 4 6 + 1 ≠ 64) := by decide

/-- Region 2 with a planned swap to context 1 that is due. -/
def swapping : State := regs [(RG 2 0, 0x20018)] { up with rg := [(2, { cls := .planned })] }

theorem witness_Swaps : swapping.granted = [2] ∧ 2 ∈ swapping.pairOf 2 ∧ 5 ∉ swapping.pairOf 2 ∧ up.granted = [] ∧ 2 ∈ swapping.dueSwaps := by
  decide

/-- With W = 1 a due swap behind another is not granted. -/
theorem witness_Swaps_full : let s := regs [(CK 0x830, 1), (RG 2 0, 0x20018), (RG 3 0, 0x20018)] { up with rg := [(2, { cls := .planned }), (3, { cls := .planned })] }
    s.dueSwaps = [2, 3] ∧ s.granted = [2] ∧ s.dueSwaps[1]? = some 3 := by decide

/-- Region 2 runs a table of two steps of eight cycles, step 0 in context 0, step 1 in context `c`; context 1 is loaded. -/
def stepping (c : Nat) : State := regs [(RG 2 0, 0x21000), (RG 2 4, 2), (RG 2 0x20, BitVec.ofNat 32 (8 + (8 + c * 2 ^ 13) * 2 ^ 16))]
  { up with tick := { count := 12, cyc := 12 } }

theorem witness_PendingSwaps_steps : (let s := stepping 1
    s.schedRun 2 = true ∧ (s.region 2).held = false ∧ s.clk.stopped = false ∧ s.leads 2 = true ∧ s.stepNo 2 + 1 < s.nSteps 2 ∧
    (s.region 2).wait0 = false ∧ s.swapPending 2 = false ∧
    s.frameStart + nominal (tableSteps (s.table 2)) 1 + s.shift 2 0 ≤ s.tick.cyc ∧ s.stepCtx 2 1 ≠ s.active 2 ∧ s.canEnter 2 (s.stepCtx 2 1) = true) ∧
    ((stepping 3).canEnter 2 ((stepping 3).stepCtx 2 1) = false ∧ (stepping 3).schedRun 2 = true) ∧
    (let s := stepping 0
     s.stepCtx 2 1 = s.active 2 ∧ s.frameStart + nominal (tableSteps (s.table 2)) 1 + s.shift 2 1 ≤ s.tick.cyc) ∧
    (let s : State := { stepping 0 with rg := [(2, { wait0 := true })] }
     s.schedRun 2 = true ∧ (s.region 2).wait0 = true ∧ s.swapPending 2 = false ∧ s.stepCtx 2 0 = s.active 2 ∧ s.frameStart + s.shift 2 0 ≤ s.tick.cyc) ∧
    up.schedRun 2 = false := by decide

/-- Region 2 in context 0 with requests by the macrocells 0 (strobe) and 1 to 3 (target): the strobe is 1, and `t` the
target. -/
def requesting (t : Nat) : State := regs [(RG 2 0, 0x31000), (RG 2 4, 0x100), (RG 2 8, 1 + 2 * 2 ^ 9 + 3 * 2 ^ 18)]
  { up with fab := { bank := [(16, BitVec.ofNat 512 (1 + 2 * t))] } }

theorem witness_PendingSwaps_requests : ((requesting 1).reqEn 2 = true ∧ (requesting 1).schedRun 2 = true ∧ ((requesting 1).region 2).held = false ∧
      ((requesting 1).region 2).swapCycle = false ∧ (requesting 1).clk.stopped = false ∧ (requesting 1).leads 2 = true ∧
      (requesting 1).qOut 2 0 = true) ∧
    ((requesting 1).qOut 2 1 = true ∧ (requesting 1).qOut 2 2 = false ∧ (requesting 1).qOut 2 3 = false ∧ 1 ≠ (requesting 1).active 2 ∧
      (requesting 1).canEnter 2 1 = true ∧ (requesting 1).swapPending 2 = false) ∧
    ((requesting 0).qOut 2 1 = false ∧ 0 = (requesting 0).active 2 ∧ (requesting 4).canEnter 2 4 = false) ∧ up.qOut 2 0 = false := by decide

theorem witness_ClockEdges : (ClkSrc.gck 1 ≠ .gck 0) ∧ up.tick.count < up.P + up.tick.ext ∧ up.wakesNow = false ∧ up.stores = false ∧
    (regs [(RG 2 0, 0x10000)] up).clocked 2 = true ∧ ((regs [(RG 2 0, 0x10000)] up).region 2).swapCycle = false ∧ up.clocked 2 = false ∧
    ({ up with tick := { count := 16 } } : State).P + 0 ≤ 16 := by decide

theorem witness_Contention : ({ up with fab := { tf := [(tfKey 0 0 0 4, 2 ^ 768), (tfKey 0 48 0 4, 2 ^ 768)] } } : State).clash 0 = some (0, 0) := by
  decide


/-! ## Witnesses: ports, queues, network -/

/-- Port 0 of region 0 has captured `op` with address `addr`, data `wdata`, destination node 4. -/
def asked (op addr wdata : Nat) (s : State) : State :=
  { s with fab := { s.fab with port := [(0, { inp := BitVec.ofNat 96 (wdata + addr * 2 ^ 64 + op * 2 ^ 83 + 4 * 2 ^ 88), fresh := true })] } }

theorem witness_PortMemory : ((asked 1 (4096 * 23 + 4095) 7 up).port 0).fresh = true ∧ ((asked 1 (4096 * 23 + 4095) 7 up).port 0).op = 1 ∧
    ((asked 1 (4096 * 23 + 4095) 7 up).port 0).addr = 4096 * 23 + 4095 ∧ bayOf 0 = 0 ∧
    up.blockRegion 0 = some 0 ∧ up.blockRegion 23 = some 0 ∧ up.blockRegion 24 ≠ some 0 ∧
    (asked 2 5 7 up).collides 0 ((asked 2 5 7 up).port 0) = false ∧ up.flipMask 0 5 = 0 ∧
    popCount (({ up with flips := [(5, 2 ^ 71)] } : State).flipMask 0 5) 72 = 1 ∧
    popCount (({ up with flips := [(5, 3)] } : State).flipMask 0 5) 72 = 2 ∧
    3 ≤ popCount (({ up with flips := [(5, 7)] } : State).flipMask 0 5) 72 ∧
    (asked 1 (4096 * 95) 0 up).blockRegion (96 * bayOf 0 + 4096 * 95 / 4096 % 128) ≠ some 0 ∧ 96 ≤ 4096 * 96 / 4096 % 128 ∧
    up.port 0 = {} ∧
    (let s : State := { up with fab := { port := [(0, { inp := BitVec.ofNat 96 (2 ^ 83) }), (1, { inp := BitVec.ofNat 96 (2 * 2 ^ 83), fresh := true })] } }
     (s.port 1).op = 2 ∧ (s.port 1).fresh = true ∧ s.blockRegion 0 = some 0 ∧ s.collides 1 (s.port 1) = true) ∧
    (let s : State := { up with fab := { port := [(0, { inp := BitVec.ofNat 96 (2 ^ 83) }), (1, { inp := BitVec.ofNat 96 (2 ^ 83), fresh := true })] } }
     (s.port 1).op = 1 ∧ (s.port 1).fresh = true ∧ s.blockRegion 0 = some 0 ∧ s.collides 1 (s.port 1) = true) := by decide

/-- Queue 0 with descriptor `d` and two blocks, contents `x`. -/
def qx (d : Nat) (x : Queue) : State := { up with qs := [(0, { x with desc := BitVec.ofNat 160 (d + 2 * 2 ^ 24) })], run := { hold := false } }

theorem witness_PortQueues_push : dSrc ((qx 1 {}).desc 0) ≠ 1 ∧
    (let s := asked 3 0 9 (qx 17 {})
     (s.port 0).op = 3 ∧ dSrc (s.desc 0) = 1 ∧ dMode (s.desc 0) = 1 ∧ (s.queue 0).stopped = false ∧ (s.queue 0).bufFull false = false ∧
     (s.queue 0).occ < s.wq 0) ∧
    dMode ((qx 19 {}).desc 0) = 3 ∧
    (let s := qx 17 { occ := 8192 }
     dOvf (s.desc 0) = 0 ∧ (s.queue 0).occ = s.wq 0) ∧
    (let s := asked 3 0 9 (qx (18 + 4 * 2 ^ 116) { openRec := some ⟨0, 2, false, 0, 0⟩ })
     dMode (s.desc 0) = 2 ∧ (s.queue 0).skipping = false ∧ (s.queue 0).openRec = some ⟨0, 2, false, 0, 0⟩ ∧ (s.port 0).last = false ∧
     2 + 1 < dRecMax (s.desc 0)) := by decide

theorem witness_PortQueues_overflow :
    (let s := asked 3 0 9 (qx (17 + 256) { occ := 8192 })
     (s.port 0).op = 3 ∧ dSrc (s.desc 0) = 1 ∧ dMode (s.desc 0) = 1 ∧ dOvf (s.desc 0) = 1 ∧ (s.queue 0).stopped = false ∧
     (s.queue 0).bufFull false = false ∧ (s.queue 0).occ = s.wq 0 ∧ 0 < s.wq 0) ∧
    (let s := asked 3 0 9 (qx (17 + 512) { occ := 8192 })
     dSrc (s.desc 0) = 1 ∧ dMode (s.desc 0) = 1 ∧ dOvf (s.desc 0) = 2 ∧ (s.queue 0).occ = s.wq 0) ∧
    (let s := asked 3 0 9 (qx (17 + 512) { stopped := true })
     dSrc (s.desc 0) = 1 ∧ dMode (s.desc 0) = 1 ∧ (s.queue 0).stopped = true) ∧
    (let s := asked 19 0 9 (qx (18 + 4 * 2 ^ 116) { openRec := some ⟨0, 2, false, 0, 0⟩ })
     (s.port 0).op = 3 ∧ (s.port 0).last = true ∧ dSrc (s.desc 0) = 1 ∧ dMode (s.desc 0) = 2 ∧ (s.queue 0).skipping = false ∧
     (s.queue 0).bufFull false = false ∧ (s.queue 0).openRec = some ⟨0, 2, false, 0, 0⟩) ∧
    (let s := asked 3 0 9 (qx 17 { wbuf := List.replicate 16 (.word 0 0 false) })
     dSrc (s.desc 0) = 1 ∧ dMode (s.desc 0) = 1 ∧ (s.queue 0).stopped = false ∧ (s.queue 0).bufFull false = true) ∧
    (let s := asked 3 0 9 (qx (18 + 4 * 2 ^ 116) {})
     dSrc (s.desc 0) = 1 ∧ dMode (s.desc 0) = 2 ∧ (s.queue 0).skipping = false ∧ (s.queue 0).openRec = none ∧
     (s.queue 0).occ + dRecMax (s.desc 0) + 1 ≤ s.wq 0 ∧ (s.port 0).last = false ∧ 1 < dRecMax (s.desc 0)) := by decide

theorem witness_PortQueues_rest : dDrain ((qx 17 {}).desc 0) = false ∧ (dMode ((qx 3 {}).desc 0) ≠ 1 ∧ dMode ((qx 3 {}).desc 0) ≠ 2) ∧
    (let s := asked 5 8191 0 (qx 5 {})
     (s.port 0).op = 5 ∧ dMode (s.desc 0) = 5 ∧ (s.port 0).addr < s.entries 0 ∧ s.flipMask (s.qBlock 0 8191) (8191 % 4096) = 0) ∧
    (let s := asked 6 16383 1 (qx 4 {})
     (s.port 0).op = 6 ∧ dMode (s.desc 0) = 4 ∧ (s.port 0).addr < s.nBins 0 ∧ (s.queue 0).flight.any (fun f => f.1 = 16383) = false ∧
     (s.queue 0).adds.length < 16) ∧
    16 ≤ ((qx 4 { adds := List.replicate 16 (0, 1) }).queue 0).adds.length ∧
    (let s := asked 7 4096 (2 ^ 63) (qx 4 {})
     (s.port 0).op = 7 ∧ (s.queue 0).ro.length < 16 ∧ (s.port 0).addr / 4096 % 128 < dBlks (s.desc 0)) ∧
    (let s := asked 7 0 9 (qx 3 { curt := 10, oldest := 5 })
     dMode (s.desc 0) = 3 ∧ laterFrame (s.queue 0).curt ((s.port 0).wdata % 2 ^ 48) = true ∧ s.retained 0 ((s.port 0).wdata % 2 ^ 48) = true) ∧
    16 ≤ ((qx 4 { ro := List.replicate 16 (.drain 0 1) }).queue 0).ro.length ∧ ((qx 4 {}).queue 0).leaving = none ∧
    ((qx 3 { curt := 10, oldest := 8 }).retained 0 7 = false ∧ laterFrame 10 7 = true ∧ laterFrame 10 10 = false) ∧
    (let s := asked 4 0 0 (qx 17 {})
     (s.port 0).op = 4 ∧ dMode (s.desc 0) = 1 ∧ dDrain (s.desc 0) = false) := by decide

/-- A POP of port 0 has found the head, whose word is `h`; the result at the port is `out`. -/
def popped (out : PortRes) (h : Pre) : State := { qx 17 { pre := [h], occ := 1, rd := 4 } with
  fab := { port := [(0, { res := { pop := some (true, 0) }, out })] } }

theorem witness_PortQueues_pop : (∀ out ∈ ([{}, { pop := some (true, 4) }] : List PortRes), let s := popped out ⟨4, 9, false, false⟩
      s.tick.count < s.P + s.tick.ext ∧ s.teeLane 0 0 = none ∧ (s.region 0).held = false ∧ (s.region 0).swapCycle = false ∧
      s.clk.stopped = false ∧ (s.queue 0).pre = [⟨4, 9, false, false⟩] ∧ (s.queue 0).sendsHead = false ∧
      (s.port 0).res.pop = some (true, 0) ∧ (s.port 0).out.pop = out.pop) := by decide

theorem witness_QueueCommands : (qx 1 {}).accBusy 0 = false ∧ (qx 1 {}).qMode 0 ≠ 0 ∧ (8191 : Word).toNat % 2 ^ 19 < (qx 1 {}).wq 0 ∧
    (qx 1 {}).wq 0 ≤ (8192 : Word).toNat % 2 ^ 19 ∧ (qx 0 {}).qMode 0 = 0 ∧ (qx 3 {}).qMode 0 = 3 ∧
    (let s := regs [(QC 0 0x90, 2 ^ 29 + 2 ^ 24 + 5)] (qx 1 {})
     s.accBusy 0 = true ∧ s.accWrite 0 = true ∧ s.qMode 0 ≠ 0 ∧ 5 = s.fld (QC 0 0x90) 0 19 ∧ 5 < s.wq 0) ∧
    (let s := regs [(QC 0 0x90, 2 ^ 29 + 5)] (qx 1 {})
     s.accBusy 0 = true ∧ s.accWrite 0 = false ∧ s.flipMask (s.qBlock 0 5) (5 % 4096) = 0) ∧
    (regs [(QC 0 0x90, 2 ^ 29)] up).accBusy 0 = true := by decide

theorem witness_SlotWheel : (let s := qx 1 { wbuf := [.word 3 9 false] }
      s.clk.stopped = false ∧ s.run.hold = false ∧ (s.queue 0).leaving = none ∧ (s.queue 0).wbuf = [.word 3 9 false] ∧ writeSlot ((s.queue 0).wheel % 16) (dSlots (s.desc 0)) = true) ∧
    writeSlot 1 15 = false ∧ writeSlot 15 1 = false ∧ ((qx 1 {}).writePending 0 = false ∧ (qx 1 {}).readPending 0 = false) ∧ up.run.hold = true ∧
    (let s := regs [(scrubReg 0 0x800, 2)] { up with rails := { vmem := true } }
     s.scrubRun 0 = true ∧ s.rails.vmem = true ∧ s.reg (scrubReg 0 0x804) = 0 ∧ s.flipMask 0 0 = 0 ∧
     popCount (({ s with flips := [(0, 2 ^ 64)] } : State).flipMask 0 0) 72 = 1 ∧ popCount (({ s with flips := [(0, 5)] } : State).flipMask 0 0) 72 = 2) ∧
    up.scrubRun 0 = false ∧
    (let p := (regs [(scrubReg 0 0x804, 4095 + 95 * 2 ^ 16)] up).reg (scrubReg 0 0x804)
     p % 4096 = 4095 ∧ p / 2 ^ 16 % 128 = 95) := by decide

/-- Lane 0 runs and feeds queue 0. -/
def ingest : State := regs [(LN 0 0, 1), (LN 0 0x10, 4), (CK 0x400, 8)] { qx 33 {} with
  run := { hold := false, writes := true }, rails := { vmem := true } }

/-- Queue 0 has `x` and the routers run. -/
def sending (x : Queue) : State := { qx 3 x with rails := { vmem := true } }

theorem witness_QueueTraffic : (ingest.laneRuns 0 = true ∧ ingest.bit (LN 0 8) 0 = false ∧ ingest.laneQueue 0 = some 0 ∧ ingest.qMode 0 = 1 ∧
      (ingest.queue 0).stopped = false ∧ (ingest.queue 0).bufFull true = false ∧ (ingest.queue 0).occ < ingest.wq 0) ∧
    up.laneRuns 0 = false ∧ up.routersOn = false ∧
    (ingest.clk.stopped = false ∧ ingest.run.hold = false ∧ ingest.routersOn = true ∧ (ingest.queue 0).ro = []) ∧
    (let s := sending { ro := [.frame 1 0 5 false true 4 0] }
     s.routersOn = true ∧ State.recordLeft 0 (State.runNet (State.recordLeft 0) s.netTime s) = true ∧
     (s.queue 0).ro = [.frame 1 0 5 false true 4 0]) ∧
    (let s := sending { ro := [.drain 1 2], occ := 2 }
     s.routersOn = true ∧ State.recordLeft 0 (State.runNet (State.recordLeft 0) s.netTime s) = true ∧
     (s.queue 0).ro = [.drain 1 2] ∧ (List.range 2).any (fun i => (s.queue 0).unwritten (((s.queue 0).rd + i) % s.wq 0)) = false) ∧
    (let s : State := { sending {} with net := [{ hdr := mkHdr 4 (clusterNode 0) 2 4 0 0 0 0 0 0 0, data := [], own := 0 }] }
     State.recordLeft 0 (State.runNet (State.recordLeft 0) 0 s) = false) := by decide

/-- Lane 0 runs and feeds queue 0, a pipeline with contents `x`; its tee is on where `tee`. -/
def piped (tee : Bool) (x : Queue) (l : Lane) : State :=
  { regs [(LN 0 0, 1), (LN 0 0x10, 4), (CK 0x400, 8), (LN 0 8, tee.toNat)] { qx 35 x with
  run := { hold := false, writes := true }, rails := { vmem := true } } with lane := [(0, l)] }

theorem witness_QueueTraffic_lanes : (∀ x ∈ ([{ curt := 3 }, { curt := 3, oldest := 2, occ := 8192, idx := [(3, 5)] }, { curt := 3, oldest := 3, occ := 8192 }] : List Queue),
      let s := piped false x {}
      s.laneRuns 0 = true ∧ s.bit (LN 0 8) 0 = false ∧ s.laneQueue 0 = some 0 ∧ s.qMode 0 = 3 ∧ (s.queue 0).bufFull true = false ∧ 0 < s.wq 0 ∧
      ((s.queue 0).occ < s.wq 0 ∨ ((s.queue 0).occ = s.wq 0 ∧ ((s.queue 0).oldest = (s.queue 0).curt ∨ 0 < s.frameLen 0 (s.queue 0).oldest)))) ∧
    (∀ l ∈ ([{}, { tee := List.replicate 4 (0, false, false) }] : List Lane), let s := piped true {} l
      s.laneRuns 0 = true ∧ s.bit (LN 0 8) 0 = true ∧ s.laneOf 0 = l ∧ s.laneDelivers 0 0 false = true) ∧
    (let s := regs [(LN 0 0, 1 + 0x20000), (LN 0 0x10, 4), (CK 0x400, 8)] up
     s.laneDelivers 0 0 true = false ∧ s.laneFar 0 = false) ∧
    (regs [(LN 0 0, 3), (CK 0x400, 8), (LN 0 0x18, 0x10)] { up with run := { outputs := true }, rails := { vtx := true, vtt := true } }).laneFar 0 = true := by decide

theorem witness_QueueTraffic_records :
    (let s : State := { sending { leaving := some (false, false), ro := [.drain 1 2] } with net := [{ hdr := mkHdr 4 (clusterNode 0) 2 4 0 0 0 0 0 0 0, data := [], own := 0 }], csr := [(NR 0 0x10, 2), (NR 6 0x10, 2), (NR (nodeRouter (clusterNode 0)) 0x10, 2)] }
     (s.queue 0).leaving.isSome = true ∧ s.clk.stopped = false ∧ s.run.hold = false ∧ s.routersOn = true ∧
     State.recordLeft 0 (State.runNet (State.recordLeft 0) s.netTime s) = false) ∧
    (let s := sending { ro := [.frame 1 0 0 false true 4 0] }
     s.clk.stopped = false ∧ s.run.hold = false ∧ s.routersOn = true ∧ (s.queue 0).leaving = none ∧ State.recordLeft 0 s = true) ∧
    (let s := sending { curt := 10, oldest := 8, ro := [.frame 9 0 2 false false 4 0] }
     s.retained 0 9 = true ∧ s.routersOn = true ∧ ∀ i, i < 2 → (s.queue 0).unwritten ((0 + i) % s.wq 0) = false ∧
       s.flipMask (s.qBlock 0 ((0 + i) % s.wq 0)) ((0 + i) % s.wq 0 % 4096) = 0) := by decide

/-- A packet from node 0 to node `dst`, virtual channel `vc`, type `typ`. -/
def pk (dst vc typ : Nat) : Packet := { hdr := mkHdr dst 0 vc typ 0 0 0 0 0 0 0, data := [] }

/-- A unit whose routers have their supply. -/
def netOn : State := { up with rails := { vmem := true }, run := { hold := false } }

theorem witness_PacketInjection : nodeKind 0 ≠ .nothing ∧ nodeKind 0x18 = .nothing ∧ up.routersOn = false ∧ netOn.routersOn = true ∧
    (headerOk (pk 4 2 4) = true ∧ 2 ≤ (pk 4 2 4).typ) ∧
    (headerOk (pk 4 0 0) = true ∧ (pk 4 0 0).typ < 2 ∧ (pk 4 0 0).tag < maxRequests 0 ∧ netOn.tagBusy 0 (pk 4 0 0).tag = false) ∧
    ({ netOn with reqs := [⟨0, 0, 1⟩] } : State).tagBusy 0 (pk 4 0 0).tag = true ∧ 0 < maxRequests 4 ∧
    (let p : Packet := { hdr := mkHdr 5 4 0 0 0 (maxRequests 4) 0 0 0 0 0, data := [] }
     headerOk p = true ∧ p.typ < 2 ∧ maxRequests 4 ≤ p.tag) ∧ (pk 4 1 0).typ < 2 ∧ (pk 4 1 0).tag < maxRequests 0 ∧ netOn.tagBusy 0 0 = false ∧
    (maxRequests (quadNode 0) = 0 ∧ nodeKind (quadNode 0) ≠ .nothing) ∧
    headerOk (pk 4 1 0) = false ∧ headerOk (pk 4 0 4) = false ∧ 2 ≤ (pk 4 0 4).typ ∧
    (pk 4 0 0).hdr = BitVec.ofNat 256 (setBits (pk 4 0 0).hdr.toNat 8 8 0) := by decide

/-- The packet stands whole at its endpoint. -/
def carrying (p : Packet) : State := { netOn with net := [{ p with left := 1, here := 1 }] }

/-- `p` as it has arrived. -/
def there (p : Packet) : Packet := { p with left := 1, here := 1 }

theorem witness_CsrOverNetwork : ((carrying (pk 4 0 0)).carry 0 4 0).arrived 0 4 0 = some (there (pk 4 0 0)) ∧
    ((carrying (pk 4 0 1)).carry 0 4 0).arrived 0 4 0 = some (there (pk 4 0 1)) ∧ (there (pk 4 0 1)).typ = 1 ∧
    (netOn.carry 0 4 0).arrived 0 4 0 = none ∧ nodeKind 4 = .region 8 ∧ ownRegisters (there (pk 4 0 0)) = false ∧
    (((carrying (pk 4 0 0)).carry 0 4 0).takePacket 0 4 0).epHeld 8 = false ∧
    ((({ carrying (pk 4 0 0) with run := {} } : State).carry 0 4 0).takePacket 0 4 0).epHeld 8 = true ∧
    ownRegisters { hdr := mkHdr 4 0 0 0 0 0 0 (NR 8 0) 0 0 0, data := [] } = true := by decide

theorem witness_CsrOverNetwork_responses : ((carrying (pk 3 1 2)).carry 0 3 1).arrived 0 3 1 = some (there (pk 3 1 2)) ∧ nodeKind 3 = .headland ∧
    ((({ carrying (pk 3 1 2) with reqs := [⟨3, 0, 1⟩] } : State).carry 0 3 1).takePacket 0 3 1).answers 3 (there (pk 3 1 2)) = some ⟨3, 0, 1⟩ ∧
    (((carrying (pk 3 1 2)).carry 0 3 1).takePacket 0 3 1).answers 3 (there (pk 3 1 2)) = none ∧
    (let s := regs [(NR 8 0x20, 0x81)] ({ carrying (pk 4 1 2) with reqs := [⟨4, 0, 1⟩] } : State)
     let w := (s.carry 0 4 1).takePacket 0 4 1
     (s.carry 0 4 1).arrived 0 4 1 = some (there (pk 4 1 2)) ∧ w.answers 4 (there (pk 4 1 2)) = some ⟨4, 0, 1⟩ ∧ nodeKind 4 = .region 8 ∧
     w.epHeld 8 = false ∧ ringEn (w.rxRing 8) = true) ∧
    (let s := regs [(NR 8 0x20, 0x81)] ({ netOn with reqs := [⟨4, 0, 1⟩, ⟨3, 5, 2⟩] } : State)
     s.tagBusy 4 0 = true ∧ s.epHeld 8 = false ∧ ringEn (s.rxRing 8) = true ∧ s.tagBusy 3 5 = true ∧ s.tagBusy 3 6 = false) ∧
    (∀ run ∈ ([{}, { hold := false }] : List Run),
     let s := ({ carrying (pk 4 1 2) with reqs := [⟨4, 0, 1⟩], run := run } : State)
     let w := (s.carry 0 4 1).takePacket 0 4 1
     (s.carry 0 4 1).arrived 0 4 1 = some (there (pk 4 1 2)) ∧ w.answers 4 (there (pk 4 1 2)) = some ⟨4, 0, 1⟩ ∧
     (w.epHeld 8 = true ∨ ringEn (w.rxRing 8) = false) ∧ s.tagBusy 4 0 = true ∧ (s.epHeld 8 = true ∨ ringEn (s.rxRing 8) = false)) ∧
    nodeKind 4 = .region 8 ∧ (there (pk 4 0 0)).typ = 0 := by decide

/-- With receive ring 0 of region 8 in block 1, 64 words, its write offset at word 0 of the block. -/
def ringed (p : Packet) : State := regs [(NR 8 0x20, 0x81), (NR 8 0x24, 0x82), (LN 0 0, 2), (CK 0x400, 8)]
  { carrying p with run := { hold := false, outputs := true }, rails := { vmem := true, vtx := true, vtt := true } }

theorem witness_BulkPackets : (let s := (ringed (pk 4 2 4)).carry 0 4 2
      s.arrived 0 4 2 = some (there (pk 4 2 4)) ∧ s.epHeld 8 = false ∧ ringEn (s.rxRing 8) = true ∧ (there (pk 4 2 4)).poison = false ∧
      (entryWords (there (pk 4 2 4))).length ≤ s.ringFree 8 (s.rxRing 8) ∧ bits (s.rxRing 8) 8 4 ≤ 6) ∧
    ((ringed (pk 4 3 5)).carry 0 4 3).arrived 0 4 3 = some (there (pk 4 3 5)) ∧ (netOn.carry 0 4 2).arrived 0 4 2 = none ∧
    (({ ringed (pk 4 2 4) with run := {} } : State).carry 0 4 2).epHeld 8 = true ∧
    (let s : State := { ringed (pk 4 2 4) with mem := [(8 * wordKey (96 * bayOf 8 + 1) 0, 46)] }
     Memory.wf s.mem = true ∧ (s.carry 0 4 2).arrived 0 4 2 = some (there (pk 4 2 4)) ∧ (s.carry 0 4 2).rxWaits 8 (there (pk 4 2 4)) = true) ∧
    (let s := (ringed (pk 2 2 4)).carry 0 2 2
     quadNode 0 = 2 ∧ s.arrived 0 2 2 = some (there (pk 2 2 4)) ∧ (there (pk 2 2 4)).poison = false ∧
     s.laneSends (4 * 0 + (there (pk 2 2 4)).h 160 2) = true ∧ s.bit (LN 0 0xC) 0 = false) ∧
    (let s := ((ringed (pk 2 2 4)).setBit (LN 0 0xC) 0 true).carry 0 2 2
     s.arrived 0 2 2 = some (there (pk 2 2 4)) ∧ s.laneSends 0 = true ∧ s.bit (LN 0 0xC) 0 = true ∧ s.laneTraffic 0 = true) ∧
    ((carrying (pk 2 2 4)).carry 0 2 2).laneSends 0 = false ∧ ringEn (up.txRing 8) = false ∧
    (ringed (pk 4 2 4)).flipMask (ringBlock 8 ((ringed (pk 4 2 4)).rxRing 8)) 0 = 0 := by decide

/-- Transmit ring of region 8 in block 2, an entry of four words at word 16: a bulk header. -/
def polling : State := { ringed (pk 4 2 4) with
  mem := [(8 * wordKey (96 * bayOf 8 + 2) 0, 4), (8 * wordKey (96 * bayOf 8 + 2) 16 + 2, 0x12)] }

theorem witness_BulkPackets_tx : Memory.wf polling.mem = true ∧ ringEn (polling.txRing 8) = true ∧ polling.epHeld 8 = false ∧
    polling.routersOn = true ∧ polling.flips = [] ∧ polling.ringWord 8 (polling.txRing 8) 1 % ringSize (polling.txRing 8) = 0 ∧
    polling.ringWord 8 (polling.txRing 8) 0 % ringSize (polling.txRing 8) = 4 ∧ State.allLeft (regionNode 8) polling = true ∧
    polling.ringWord 8 (polling.txRing 8) 16 = 0x120000 ∧
    headerOk { hdr := BitVec.ofNat 256 (setBits 0x120000 8 8 (regionNode 8)), data := [] } = true := by decide

theorem witness_BulkPackets_clean : ∀ w, polling.flipMask (ringBlock 8 (polling.txRing 8)) w = 0 := fun _ => rfl

/-- Router 5 in slack water, drained or not; filter 0 counts, and emits when `e`. -/
def slackened (ready : Bool) : State := regs [(NR 5 0x10, if ready then 6 else 2)] netOn
def filtering (e : Bool) : State := regs [(NR 5 0x208, if e then 0x31 else 0x11)] netOn

theorem witness_Routers : (List.range 48).any up.slackActive = false ∧ (List.range 48).any (slackened false).slackActive = true ∧
    ((slackened false).slackActive 5 = true ∧ (slackened false).bit (NR 5 0x10) 2 = false ∧ State.drained 5 ((slackened false).drain 5) = true) ∧
    (let s : State := { slackened false with rails := {}, net := [{ pk 4 2 4 with hops := [⟨5, 4, 1, [0], 0, true, 0⟩] }] }
     s.slackActive 5 = true ∧ s.bit (NR 5 0x10) 2 = false ∧ State.drained 5 (s.drain 5) = false) ∧ (slackened true).slackActive 5 = true ∧
    (slackened true).bit (NR 5 0x10) 2 = true ∧ up.slackActive 5 = false ∧
    (∀ e, (filtering e).bit (NR 5 0x200 + 8) 0 = true ∧ (filtering e).bit (NR 5 0x200 + 8) 4 = true ∧
      (bits 0 0 22 ^^^ (filtering e).fld (NR 5 0x200) 0 22) &&& (filtering e).fld (NR 5 0x200 + 4) 0 22 = 0 ∧
      (filtering e).bit (NR 5 0x200 + 8) 5 = e) ∧ up.bit (NR 5 0x200 + 8) 0 = false ∧
    ((filtering true).slackActive 5 = false ∧ (filtering true).traceReady 5 false = true) ∧
    ({ filtering true with noc := { traced := [(5, 0)] } } : State).traceReady 5 false = false ∧
    ({ filtering true with noc := { traced := [(5, 0)] } } : State).traceReady 5 true = true := by decide

/-! ## Witnesses: lanes, boundary scan -/

/-- Lane 0 may align; with `a` it has. -/
def lane0 (a : Bool) : State := regs [(LN 0 0, 3), (LN 0 0x10, if a then 4 else 0), (LN 0 0x808, 1), (CK 0x400, 8), (LN 0 0xC, 2)]
  { up with run := { outputs := true }, rails := { vtx := true, vtt := true } }

theorem witness_Lanes : ((lane0 false).aligned 0 = false ∧ (lane0 false).rxEn 0 = true ∧ (lane0 false).bit (LN 0 0x808) 0 = true ∧
      (lane0 false).gateOpen 0 = true ∧ (lane0 false).bit (LN 0 0) 7 = false) ∧ up.rxEn 0 = false ∧ (lane0 true).aligned 0 = true ∧
    ((lane0 false).bit (LN 0 0xC) 1 = true ∧ (lane0 false).laneSends 0 = true) ∧ up.bit (LN 0 0xC) 1 = false ∧ up.scanRefused = false ∧
    ({ up with life := { otp := [(0, 0x7F), (1, 0x7F), (2, 0x7F)] } } : State).lc = 7 ∧
    ({ up with life := { otp := [(0, 0x7F), (1, 0x7F), (2, 0x7F)] } } : State).scanRefused = true := by decide


/-! ## Witnesses: loading -/

def fullHdr : List Byte :=
  let b := packLE [(0x4D494759, 4), (1, 2), (0x100, 2), (0x000B5049, 4), (2, 1), (1, 1), (0, 2), (5, 4), (0, 232)]
  bytesLE (b + crc32c (bytesLE b 252) * 2 ^ 2016) 256

/-- A full image without a target, at its set stage. -/
def fullLd : Loader := { phase := .setStage, hdr := 2 ^ 104 }

/-- The unit with that load. -/
def setting : State := { up with ld := fullLd }

theorem fullLd_unloaded (r c : Nat) : (setting.conf fullLd).loaded r c = false := by
  have h : ∀ r : Fin 96, fullLd.hf (80 + r) 1 = 0 := by decide
  show fullLd.isTarget r c = false
  unfold Loader.isTarget
  by_cases hr : r < 96
  · rw [h ⟨r, hr⟩]; simp
  · simp [hr]

theorem fullLd_frame (c r t f : Nat) : (setting.conf fullLd).frame c r t f = 0 := by simp [Conf.frame, fullLd_unloaded]

theorem firstBad_none {α : Type} (l : List α) (f : α → Option Fail) (h : ∀ x ∈ l, f x = none) : firstBad l f = none := by
  simpa [firstBad] using h

theorem fullLd_ladder (l : List Nat) : (setting.conf fullLd).ladder l = none := by
  refine firstBad_none _ _ fun p _ => firstBad_none _ _ fun c _ => if_pos ?_
  simp [Conf.ladLineOk, Conf.opt, fullLd_frame, bits]

theorem fullLd_contention (l : List Nat) : (setting.conf fullLd).contention l = none := by
  refine firstBad_none _ _ fun p _ => firstBad_none _ _ fun x _ => if_pos ?_
  simp [Conf.quietWires, Conf.opt, fullLd_frame, bits]

theorem fullLd_limits : ∀ g, (clockLimits g fullLd.clockImg &&
    (List.range 24).all (fun q => quadRatesOk (fullLd.g (0x80 + q)) (bits (fullLd.clockImg 8) (16 * bits (quadImg (fullLd.g (0x80 + q)) 0) 1 1) 16))) = true := by
  decide

theorem fullLd_clocks : (setting.conf fullLd).clocks fullLd = none := by
  have h : ∀ r c, (setting.conf fullLd).word c r = 0 := fun r c => by simp [Conf.word, fullLd_frame, bits]
  have hc : ∀ r, (setting.conf fullLd).ctxs r = [] := fun r => by simp [Conf.ctxs, fullLd_unloaded]
  have hw : ∀ r, (setting.conf fullLd).regionWord r = 0 := fun r => by simp [Conf.regionWord, hc]
  unfold Conf.clocks
  rw [firstBad_none]
  · simp [fullLd_limits]
  · intro r _
    have h0 : ∀ i, bits 0 i 6 = 0 := fun i => by simp [bits]
    simp only [hc, Conf.usesSide, Conf.pinClocksOk, hw, h0, List.find?_nil, List.isEmpty_nil, List.any_nil]
    refine if_neg ?_
    simp
    intro x _
    cases neighbour r x <;> rfl

theorem fullLd_rest : (setting.conf fullLd).ownership true = none ∧ setting.queueCheck fullLd (setting.conf fullLd) = none ∧
    (setting.conf fullLd).loop fullLd.pairs = none ∧ (setting.conf fullLd).stateMode = none ∧ (setting.conf fullLd).crossing = none ∧
    (setting.conf fullLd).coupling = none ∧ setting.scheduleCheck fullLd (setting.conf fullLd) = none ∧ (setting.conf fullLd).sequencer = none := by decide

theorem fullLd_setStage : setting.setStage fullLd = none := by
  obtain ⟨a, b, c, d, e, f, g, h⟩ := fullLd_rest
  have hf : fullLd.full = true := by decide
  simp only [State.setStage, hf, a, b, c, d, e, f, g, h, fullLd_ladder, fullLd_contention, fullLd_clocks]
  rfl

theorem witness_LoadStages_set : setting.ld.phase = .setStage ∧ setting.setStage setting.ld = none ∧ setting.ld.full = true :=
  ⟨rfl, fullLd_setStage, by decide⟩

/-- A load in phase `p` with `n` zero bytes waiting; `x` bytes instead. -/
def loading (p : LdPhase) (x : List Byte) : State := { up with ld := { phase := p, buf := x, source := 1, hdr := 2 ^ 104 } }

/-- A record of global frame 0x10, all zero. -/
def zeroRecord : List Byte :=
  let b := packLE [(0x21FC0010, 4), (0, 516)]
  bytesLE (b + crc32c (bytesLE b 520) * 2 ^ 4160) 524

/-- A trailer of an image without records. -/
def zeroTrailer : BitVec 2080 :=
  let b := 0x4D544759
  BitVec.ofNat 2080 (b + crc32c (bytesLE b 256) * 2 ^ 2048)

theorem witness_LoadStages_header : let l := ({ phase := .header } : Loader).start fullHdr
    fullHdr.length = 256 ∧ up.headerStage l.kind l = none ∧ l.full = true ∧
    (up.headerStage 1 (({ phase := .header } : Loader).start (List.replicate 256 0))).isSome = true ∧
    (({ phase := .header } : Loader).start (List.replicate 256 0)).boot = false ∧ up.bt.on = false := by decide

set_option maxRecDepth 200000 in
theorem witness_LoadStages_record : let s := loading .records zeroRecord
    s.ld.recLen ≤ s.ld.buf.length ∧ (match s.recordStage s.ld (s.ld.buf.take s.ld.recLen) with
      | .ok t => t.chunk.isNone
      | .error _ => false) = true := by decide

theorem witness_LoadStages_trailer : let s := { up with ld := { phase := .trailerStage, trailer := zeroTrailer } }
    s.ld.phase = .trailerStage ∧ s.trailerStage s.ld = none := by decide

/-- The header of a partial image for context 0 of region 7. -/
def partHdr : List Byte :=
  let b := packLE [(0x4D494759, 4), (1, 2), (0x100, 2), (0x000B5049, 4), (2, 1), (2, 1), (0, 2), (5, 4), (0, 67), (1, 1), (0, 164)]
  bytesLE (b + crc32c (bytesLE b 252) * 2 ^ 2016) 256

theorem witness_LoadStages_partial : let l := ({ phase := .header, kind := 2 } : Loader).start partHdr
    partHdr.length = 256 ∧ up.headerStage l.kind l = none ∧ l.full = false ∧ up.awaits l = false ∧ l.targetRegion 7 = true ∧ l.kind ≠ 1 ∧
    ({ up with hl := { up := true, changes := [⟨0, 0, 0, .sched [(7, [])], 0⟩] } } : State).awaits l = true := by decide

theorem witness_LoadStages_rails : (let s : State := { setting with rails := { vcore := true, vmem := true, vtx := true, vtt := true } }
     s.ld.phase = .setStage ∧ s.ld.full = true ∧ s.rails.vcore = true ∧ s.chainRails = true) ∧
    (setting.ld.full = true ∧ setting.rails.vcore = false) ∧
    (let s := loading .setStage []
     s.ld.phase = .setStage ∧ s.ld.boot = false ∧ s.bt.on = false) := by decide

theorem witness_LoadStages_hold : (∀ full, let s : State := { up with
      tick := { cyc := 1 }, rails := { vcore := true, vmem := true }, ld := { phase := .hold, hdr := if full then 2 ^ 104 else 2 ^ 105 } }
    s.tick.count = 0 ∧ s.ld.startCyc < s.tick.cyc ∧ s.waitsRails = false ∧ s.ld.full = full) ∧
    260 ≤ (loading .trailer (List.replicate 260 0)).ld.buf.length ∧ up.ld.phase = .idle := by decide

/-- The unit with a VALID boot slot 1, named by its boot record. -/
def booting : State :=
  let b := packLE [(0x31524259, 4), (1, 4), (1, 1), (0xFF, 1), (100, 2), (0, 48)]
  { up with store := { slots := [(1, { st := 2 })], rec0 := BitVec.ofNat 512 (b + crc32c (bytesLE b 60) * 2 ^ 480) } }

theorem witness_LoadSources : (booting.on = true ∧ booting.bt.started = false ∧ booting.ld.phase = .idle ∧ booting.hl.up = true ∧ booting.lc ≠ 7 ∧
      booting.boot = 0 ∧ booting.bootSlot = 1 ∧ (booting.slot booting.bootSlot).st = 2) ∧
    (let s := { booting with boot := 4 }
     1 ≤ s.boot ∧ s.boot ≤ 4) ∧
    (let s := regs [(CK 0x4B4, 8)] (loading .header [])
     (s.ld.pspErr = false ∨ s.ld.pspGap = true) ∧ s.gateOpen 0x2D = true ∧ s.bootWaits 1 = false ∧ s.ld.source = 1 ∧ s.ld.wants = true ∧ s.ld.stalled = false) ∧
    ((loading .header []).ld.pspErr = false ∧ (({ up with ld := { pspErr := true, pspGap := true } } : State).ld.pspErr = true ∧
      ({ up with ld := { pspErr := true, pspGap := true } } : State).ld.pspGap = true) ∧
      ({ up with ld := { pspErr := true } } : State).ld.pspGap = false) ∧
    (let s : State := { up with ld := { sspNib := some 5 } }
     s.ld.sspNib = some 5 ∧ s.ld.sspSkip = false) ∧
    (let s := regs [(CK 0x4B8, 8)] { up with ld := { phase := .header, source := 2 } }
     s.ld.sspSkip = false ∧ s.gateOpen 0x2E = true ∧ s.bootWaits 2 = false ∧ s.ld.source = 2 ∧ s.ld.wants = true ∧ s.ld.stalled = false ∧
     s.ld.sspNib = none) ∧ up.ld.source ≠ 2 ∧
    (let s : State := { up with ld := { phase := .header, took := 5 } }
     s.ld.wants = true ∧ s.ld.begun = true ∧ s.waitsRails = false ∧ s.ld.boot = false ∧ s.bt.on = false) ∧ up.ld.wants = false := by decide

/-- The start-up load waits on a port of kind `n`, its gate open. -/
def awaiting (n : Nat) : State := regs [(CK 0x4B4, 8), (CK 0x4B8, 8)] { up with bt := { started := true, on := true, source := n } }

theorem witness_LoadSources_ports : (let s := awaiting 1
     s.ld.pspErr = false ∧ s.gateOpen 0x2D = true ∧ s.scanned = false ∧ s.bootWaits 1 = true) ∧
    (let s : State := { awaiting 1 with ld := { pspErr := true, pspGap := true } }
     s.ld.pspGap = true ∧ s.bootWaits 1 = true) ∧ (regs [(CK 0x4B4, 0), (CK 0x4B8, 0)] up).gateOpen 0x2D = false ∧ (regs [(CK 0x4B4, 0), (CK 0x4B8, 0)] up).gateOpen 0x2E = false ∧
    ({ up with tap := { ir := .extest } } : State).scanned = true ∧ ({ up with ld := { sspSkip := true } } : State).ld.sspSkip = true ∧
    (up.scanned = false ∧ up.ld.source ≠ 2) ∧
    (let s : State := { up with ld := { phase := .header, source := 2, took := 5 } }
     s.scanned = false ∧ s.ld.source = 2 ∧ s.ld.wants = true ∧ s.ld.begun = true ∧ s.ld.boot = false ∧ s.bt.on = false) ∧
    (let s : State := { up with ld := { phase := .header, source := 2 } }
     s.ld.begun = false) := by decide

theorem witness_LoadSources_whole :
    (let s : State := { up with ld := { phase := .hold, source := 2, took := 515 } }
     s.scanned = false ∧ s.ld.source = 2 ∧ s.ld.begun = true ∧ s.ld.phase = .hold ∧ s.ld.complete = false ∧ s.ld.boot = false ∧ s.bt.on = false) ∧
    (let s : State := { up with ld := { phase := .hold, source := 2, took := 516 } }
     s.ld.begun = true ∧ s.ld.phase ≠ .header ∧ 516 + s.ld.records * s.ld.recLen ≤ s.ld.took) ∧
    (let s : State := { up with ld := { phase := .trailerStage, source := 2, took := 516 } }
     s.ld.begun = true ∧ s.ld.wants = false ∧ s.ld.phase ≠ .hold) ∧
    (let s : State := { up with ld := { phase := .trailerStage, hdr := 2 ^ 104 } }
     s.ld.phase = .trailerStage ∧ s.trailerStage s.ld ≠ none ∧ s.ld.boot = false ∧ s.bt.on = false ∧ s.ld.full = true ∧ s.bt.brown = false ∧
     s.bt.told = false) := by decide

/-- The sequencer at slot 0, which is due; its step is `c`, released or not. -/
def stepAt (c : Nat) (released : Bool) : State := { up with sq := { on := true, steps := [c, 0, 0, 0, 0, 0], ticks := 1, released } }

theorem witness_Sequencing : (∀ c ∈ [1, 6], (stepAt c false).seqDue = true ∧ stepWaits (stepAt c false).sq.step = true) ∧
    (∀ c ∈ [2, 3, 4, 5], (stepAt c false).seqDue = true ∧ stepWaits (stepAt c false).sq.step = false ∧ (stepAt c false).sq.step = c) ∧
    up.seqDue = false ∧
    (let s := regs [(CK 0x48, 1)] (stepAt 1 true)
     s.sq.on = true ∧ s.sq.released = true ∧ s.tick.count = 0 ∧ s.seqCond s.sq.step = true ∧ s.sq.timedOut = false) ∧
    (let s : State := { up with rg := [(7, { held := true, relMode := 0 })], run := { hold := false } }
     (List.range 96).filter s.releaseDue = [7]) ∧ (List.range 96).filter up.releaseDue = [] ∧
    (let s : State := { up with store := { prog := some (1, [5]), sealing := some ⟨1, 0, 7, 0⟩ } }
     s.store.prog = some (1, [5]) ∧ s.store.erase = [] ∧ s.store.sealing = some ⟨1, 0, 7, 0⟩) ∧
    (let s : State := { up with store := { sealing := some ⟨1, 0, 7, 0⟩ } }
     s.store.sealing = some ⟨1, 0, 7, 0⟩ ∧ s.store.prog = none) ∧ (stepAt 1 true).sq.timedOut = false ∧
    ({ up with sq := { timedOut := true } } : State).sq.timedOut = true ∧
    up.store.prog = none ∧ up.store.erasing = false ∧ (stepAt 1 true).sq.on = true ∧
    ({ stepAt 1 true with sq := { (stepAt 1 true).sq with declared := true } } : State).sq.declared = true ∧
    (let s : State := { up with hl := {}, rg := [(7, { held := true, committed := true, relMode := 1, relTarget := 0 })], run := { hold := false } }
     s.hl.up = false ∧ (List.range 96).filter s.releaseDue = [7] ∧ (s.region 7).relMode = 1) := by decide


/-! ## Witnesses: the Zhevley line -/


theorem witness_OrderedSets : ((chained []).fromUp 0 = true ∧ (chained []).low 0 = false ∧ (chained []).src ≠ 2) ∧ (chained []).fromUp 1 = false ∧
    ((chained []).link 1 = true ∧ (chained []).portOn 1 = true) ∧ (chained [(ZV 0 4, 3)]).low 0 = true ∧
    ({ chained [] with chain := { meas := [(0, 255, 9)] } } : State).chain.meas = [(0, 255, 9)] ∧
    ((chained [(ZV 0 4, 3)]).link 0 = true ∧ (chained [(ZV 0 4, 3)]).low 0 = true ∧ (chained [(ZV 0 4, 3)]).mode = 0) ∧
    (let s := regs [(ZV 2 4, 1)] up
     s.link 2 = true ∧ s.low 2 = false ∧ (s.mode ≠ 0 ∨ (s.upPort ≠ some 2 ∧ s.dnPort ≠ some 2))) ∧
    (let s := chained [(CK 0x204, 2), (CK 0x14, 0x3000)]
     s.link 0 = true ∧ s.low 0 = false ∧ s.mode ≠ 0 ∧ s.fld (CK 0x14) 12 2 = 3 ∧ s.upPort = some 0) ∧
    (let s := chained [(CK 0x200, 1), (CK 0x204, 2)]
     s.link 0 = true ∧ s.low 0 = false ∧ s.mode ≠ 0 ∧ s.bit (CK 0x200) 0 = true ∧ s.upPort = some 0 ∧ s.clk.self = none) ∧
    (let s := chained [(ZV 0 4, 3), (CK 0x200, 1), (CK 0x204, 2)]
     s.link 0 = true ∧ s.low 0 = true ∧ s.mode ≠ 0 ∧ s.bit (CK 0x200) 0 = true ∧ s.upPort = some 0 ∧ s.clk.self = none) ∧
    up.link 0 = false := by decide

theorem witness_OrderedSets_ports : ((∀ p, p < 2 → (chained []).portUp p = true) ∧ (chained []).portUp 2 = false ∧ (chained [(ZV 0 4, 3)]).portUp 0 = true) ∧
    (let s := chained [(ZV 0 0x820, 8)]
     s.mode = 0 ∧ s.dnPort = none ∧ s.low 1 = false ∧ s.portUp 1 = true) ∧ (chained [(CK 0x204, 2)]).mode ≠ 0 ∧
    (let s := chained []
     s.portUp 0 = true ∧ s.low 0 = false ∧ s.mode = 0 ∧ s.upPort = some 0 ∧ s.canTake 2 = false ∧ s.fld (CK 0x14) 12 2 = 0) ∧
    (let s := chained [(CK 0x14, 0x3000)]
     s.portUp 0 = true ∧ s.low 0 = false ∧ s.mode = 0 ∧ s.upPort = some 0 ∧ s.fld (CK 0x14) 12 2 = 3) ∧
    (let s := chained [(ZV 0 0x820, 1), (ZV 2 4, 1), (ZV 2 0, 1), (CK 0x4A8, 8)]
     s.portUp 2 = true ∧ s.low 2 = false ∧ s.mode = 0 ∧ s.upPort = some 2) := by decide

theorem witness_OrderedSets_wake : (let s := chained [(ZV 0 4, 3)]
     s.portUp 0 = true ∧ s.low 0 = true ∧ s.mode = 0 ∧ s.isHead = false) ∧
    (let s := chained [(ZV 0 4, 3), (CK 0x200, 1), (CK 0x204, 2)]
     s.portUp 0 = true ∧ s.mode ≠ 0 ∧ s.bit (CK 0x200) 0 = true ∧ s.upPort = some 0 ∧ s.clk.self = none) ∧
    (let s := chained [(CK 0x200, 1), (CK 0x204, 2)]
     s.portUp 0 = true ∧ s.low 0 = false ∧ s.mode ≠ 0 ∧ s.bit (CK 0x200) 0 = true ∧ s.upPort = some 0 ∧ s.clk.self = none) := by decide

theorem witness_ChainLinks : (let s := { chained [] with chain := { meas := [(0, 3, 9)] } }
      s.link 0 = true ∧ s.isHead = false) ∧
    (let s := chained [(ZV 2 0, 1), (CK 0x4A8, 8)]
     s.link 2 = false ∧ s.portOn 2 = true) ∧
    (let s : State := { chained [] with chain := { meas := [(0, 256, 30000000)] } }
     s.chain.heard.contains 0 = false ∧ 102400 * 256 ≤ 30000000 ∧ 30000000 < 2 ^ 31 ∧ s.fld (ZV 0 0x14) 0 16 = 0 ∧ s.upPort.isSome = true) ∧
    (let s : State := { chained [(ZV 0 0x820, 1), (ZV 0 4, 0x19)] with chain := { measured := [0] } }
     s.chain.measured.contains 0 = true ∧ s.upPort = some 2 ∧ s.superStart = true ∧ s.link 0 = true ∧ s.low 0 = false ∧ s.fld (ZV 0 4) 3 3 = 3 ∧ s.bit (ZV 0 0x820) 4 = false) ∧
    (let s := chained [(ZV 0 0x820, 4), (ZV 1 4, 0x19)]
     s.dnPort = some 3 ∧ s.superStart = true ∧ s.link 1 = true ∧ s.low 1 = false ∧ s.fld (ZV 1 4) 3 3 = 3 ∧ s.bit (ZV 0 0x820) 4 = false) ∧
    (let s : State := { up with chain := { waits := [⟨3, 0, 2, 9, 0⟩], fwd := [{ slot := 31, dst := 5, op := 1, tag := 1, ps := 0 }] } }
     s.chain.waits = [⟨3, 0, 2, 9, 0⟩] ∧ s.knownFault 3 0 = false ∧ s.isHead = false ∧
     s.chain.fwd = [{ slot := 31, dst := 5, op := 1, tag := 1, ps := 0 }]) ∧ up.chain.waits = [] := by decide

theorem witness_ChainLinks_more :
    (∀ p : Fin 2, let s := chained [(ZV 0 0x800, 0x1000007)]
     s.link p = true ∧ s.assigned = true) ∧
    (let s := chained [(ZV 0 0x800, 0x1000007), (ZV 3 4, 1)]
     s.link 3 = true ∧ s.assigned = true) ∧
    (∀ p : Fin 2, let s := chained [(ZV p 4, 0), (ZV 0 0x820, if p = 0 then 2 else 8)]
     s.link p = false ∧ s.portOn p = true ∧ s.low p = false ∧ p.val ∉ s.chain.slow ∧ s.isHead = false ∧
       (if p = 0 then s.upPort else s.dnPort) = none) ∧
    ((chained []).portUp 0 = true ∧ (chained []).low 0 = false ∧ (chained []).isHead = false) ∧
    (chained [(ZV 0 0x800, 0x3000000)]).isHead = true ∧
    (let s : State := { chained [(ZV 0 0x820, 1), (ZV 0 4, 0x19)] with chain := { measured := [0] } }
     s.portUp 0 = true ∧ (0 : Nat) ∉ s.chain.slow) ∧
    (let s := chained [(ZV 0 0x820, 4), (ZV 1 4, 0x19)]
     s.portUp 1 = true ∧ (1 : Nat) ∉ s.chain.slow) ∧
    ({ up with tick := { frame := 1 } } : State).superStart = false ∧
    (let s : State := { up with chain := { fwd := [{ slot := 31, dst := 0xFFF, op := 1, tag := 1, ps := 0 }] } }
     s.chain.fwd = [{ slot := 31, dst := 0xFFF, op := 1, tag := 1, ps := 0 }]) := by decide

/-- A message with `payload`. -/
def msg (dst : BitVec 12) (payload : List Byte) (crcOk : Bool) : ZMsg := ⟨5, 0, dst, 0, payload, crcOk⟩

theorem witness_Messages_crc : (msg 0 [] false).crcOk = false ∧ ((chained []).link 0 = true ∧ (chained []).portOn 0 = true ∧
      (chained []).chain.rx.loads = false) ∧ up.link 0 = false ∧
    (let s : State := { chained [] with chain := { rx := { loads := true } }, ld := { phase := .header, source := 3 } }
     s.fromUp 0 = true ∧ s.low 0 = false ∧ s.ld.source = 3 ∧ s.ld.phase ≠ .idle ∧ s.chain.rx.loads = true ∧ s.ld.boot = false ∧
     s.bt.on = false) := by decide

theorem witness_Messages_up : (chained []).fromUp 0 = true ∧ (chained []).assigned = false ∧
    (chained []).accepts (msg 0xFFF (bytesLE 0xFFD 12) true) = true ∧
    fieldAt (natLE (msg 0xFFF (bytesLE 0xFFD 12) true).payload) 0 2 % 4096 + 0 / 2 + 1 ≤ 0xFFE ∧
    (let s := chained []
     let m := msg 0xFFF (packLE [(0, 6), (s.genLoaded, 4), (s.P, 2), (0, 4), (s.fld (ZV 0 0x810) 16 16, 2), (0, 6)] |> (bytesLE · 24)) true
     s.accepts m = true ∧ (s.tick.sofs.drop 0).head?.join = none ∧ s.tick.superSeq = none ∧ fieldAt (natLE m.payload) 10 2 % 8192 = s.P ∧ s.isHead = false ∧
     fieldAt (natLE m.payload) 16 2 = s.fld (ZV 0 0x810) 16 16 ∧ fieldAt (natLE m.payload) 6 4 = s.genLoaded) ∧
    (let s := chained [(ZV 0 0x800, 0x1000007)]
     s.fromUp 0 = true ∧ s.accepts (msg 7 [] true) = true ∧ (msg 7 [] true).dst.toNat = s.zaddr ∧ s.assigned = true ∧ s.takes 1 = true ∧ (s.mbox 1).st = .idle) ∧
    ((chained []).accepts (msg 0xFFF [] true) = true ∧ (msg 0xFFF [] true).payload.length = 0 ∧ (chained []).low 0 = false ∧
      (chained []).chain.rx.loads = false) ∧
    (let s : State := { chained [] with chain := { rx := { loads := true } }, ld := { phase := .header, source := 3 } }
     s.fromUp 0 = true ∧ s.low 0 = false ∧ s.chain.rx.loads = true ∧ s.accepts (msg 0xFFF [1] true) = true ∧ (msg 0xFFF [1] true).seq.toNat = s.chain.rx.seq % 65536 ∧
     s.ld.source = 3 ∧ s.ld.wants = true) := by decide

theorem witness_Messages_sof : (let s : State := { chained [(CK 0x800, 2)] with tick := { sofs := [some ⟨2, some 8⟩, some ⟨5, some 9⟩], superSeq := some 65535 } }
      s.src = 2 ∧ s.tick.sofs.drop ((s.tick.superSeq.map (fun x => (1 + 65536 - (x + 1) % 65536) % 65536)).getD 0) = [some ⟨5, some 9⟩] ∧
      addFrame (fieldAt (natLE (msg 0xFFF (bytesLE 0 24) true).payload) 0 6) (s.fld (CK 0x820) 0 16) ≠ 9) ∧
    ({ chained [] with tick := { sofs := [some ⟨5, none⟩] } } : State).tick.sofs.drop 0 = [some ⟨5, none⟩] ∧
    (let s : State := { chained [] with chain := { rx := { loads := true } }, ld := { phase := .header, source := 3 } }
     s.fromUp 0 = true ∧ s.accepts (msg 0xFFF [1] true) = true ∧ (msg 0xFFF [1] true).payload = [1] ∧ s.chain.rx.loads = true ∧
     s.ld.source = 3 ∧ s.ld.phase ≠ .idle ∧ s.ld.boot = false ∧ s.bt.on = false) ∧
    (let s := chained []
     let m := msg 0xFFF (bytesLE s.genLoaded 5) true
     s.fromUp 0 = true ∧ s.accepts m = true ∧ 5 ≤ m.payload.length ∧
     s.takesBcast (fieldAt (natLE m.payload) 0 4) (fieldAt (natLE m.payload) 4 1) = false) ∧
    ((chained []).portUp 0 = true ∧ (chained []).portUp 2 = false ∧ (chained []).fromUp 0 = true ∧ (chained []).low 0 = false) := by decide

theorem witness_Messages_head :
    (let s : State := { chained [(ZV 0 0x800, 0x3000000)] with
       chain := { bcast := { st := 1 }, fwd := [{ slot := 0, dst := 0xFFF, op := 0x0101, tag := 9, ps := 0, units := 1 }] } }
     let m := msg 0 (bytesLE (0x0101 + 9 * 2 ^ 32) 8) true
     s.fromDn 1 = true ∧ s.isHead = true ∧ s.chain.bcast.st = 1 ∧ fieldAt (natLE [5]) 0 1 ≠ 0 ∧ s.chain.bcast.fails.length < 64 ∧
     m.flg.getLsbD 0 = false ∧ 0x0101 = fieldAt (natLE m.payload) 0 2 ∧ 9 = fieldAt (natLE m.payload) 4 2 ∧ 8 ≤ m.payload.length ∧
     fieldAt (natLE m.payload) 6 1 = 0 ∧ fieldAt (natLE (msg 0 (bytesLE (0x0101 + 9 * 2 ^ 32 + 2 ^ 48) 8) true).payload) 6 1 ≠ 0) := by decide

theorem witness_Messages_down : (chained []).fromDn 1 = true ∧ (chained []).isHead = false ∧
    (let s := chained [(ZV 0 0x800, 0x3000000)]
     s.fromDn 1 = true ∧ s.isHead = true) ∧
    (let s : State := { chained [(ZV 0 0x800, 0x3000000)] with
       chain := { bcast := { st := 1 }, fwd := [{ slot := 0, dst := 5, op := 0x0101, tag := 9, ps := 0 }] } }
     let m := msg 0 (bytesLE (0x0101 + 9 * 2 ^ 32) 8) true
     s.fromDn 1 = true ∧ s.isHead = true ∧ s.chain.bcast.st = 1 ∧ fieldAt (natLE [0]) 0 1 = 0 ∧ m.flg.getLsbD 0 = false ∧
     m.src.toNat = 5 ∧ 0x0101 = fieldAt (natLE m.payload) 0 2 ∧ 9 = fieldAt (natLE m.payload) 4 2 ∧ m.payload.length ≤ 256 ∧ 8 ≤ m.payload.length) ∧
    (let s := chained [(ZV 0 0x820, 1)]
     s.link 0 = true ∧ s.isHead = false ∧ s.upPort ≠ some 0 ∧ s.accepts (msg 0xFFF [] true) = true) ∧
    ((chained []).fromAny 0 = true ∧ (chained []).isHead = false ∧ (chained []).accepts (msg 0xFFF [] true) = true ∧ (chained []).knownFault 3 1 = false ∧ (chained []).chain.waits.length ≤ 3) ∧
    ({ chained [] with chain := { ftab := [⟨3, 1, 0, false⟩] } } : State).knownFault 3 1 = true := by decide

theorem witness_Superframes : ({ up with tick := { frame := 65 } } : State).frameNo % 64 ≠ 0 ∧ up.frameNo % 64 = 0 ∧
    (let s := chained [(ZV 0 0x800, 0x3000000)]
     s.isHead = true ∧ s.chain.role = none ∧ s.chain.move = none) ∧
    (let s := chained [(ZV 0 0x40, 3 + 64)]
     s.fromAny 0 = true ∧ s.xEn 0 = true ∧ (s.side 0).ticks = [] ∧ [(0 : BitVec 128)].length = s.xS 0) ∧
    (let s : State := { up with chain := { bcast := { st := 1, closed := true } } }
     s.chain.bcast.st = 1 ∧ s.chain.bcast.closed = true) ∧ up.chain.bcast.st ≠ 1 := by decide

/-- Exchange on; the frames in `ticks` are still to be presented. -/
def exchanging (ticks : List (Nat × Nat)) : State :=
  let s := chained [(ZV 0 0x40, 3 + 512)]
  { s with chain := { sides := [(0, { ticks })] }, tick := { s.tick with cyc := 5000 } }

theorem witness_Superframes_exchange : ((exchanging []).fromAny 0 = true ∧ (exchanging []).xEn 0 = true ∧ [(0 : BitVec 128)].length = (exchanging []).xS 0) ∧
    (128 : Byte).toNat % 128 = (exchanging []).frameNo % 128 ∧ (130 : Byte).toNat % 128 ≠ (exchanging []).frameNo % 128 ∧
    (∃ e ∈ ((exchanging [(2, 5000)]).side 0).ticks, e.1 % 128 = (130 : Byte).toNat % 128 ∧
      (exchanging [(2, 5000)]).tick.cyc + 4 ≤ e.2 + (exchanging [(2, 5000)]).xL 0) ∧
    (∃ e ∈ ((exchanging [(2, 5)]).side 0).ticks, e.1 % 128 = (130 : Byte).toNat % 128 ∧
      e.2 + (exchanging [(2, 5)]).xL 0 < (exchanging [(2, 5)]).tick.cyc + 4) := by decide

/-! ## Witnesses: clocks, power, probes -/

theorem witness_Clocks_plls : (regs [(CK 0x50, 1), (CK 0, 1)] up).mayLock (.spll 1) = true ∧
    (regs [(LN 4 0x800, 1), (CK 0, 4), (CK 0x404, 8)] up).mayLock (.quad 1) = true ∧ (chained []).mayLock .zvl = true ∧
    (∀ p : Pll, (p = .spll 1 ∨ p = .quad 1 ∨ p = .zvl) → up.mayLock p = false) ∧
    (regs [(CK 0x58, 1)] up).spllLock 1 = true ∧ (regs [(LN 4 0x808, 1)] up).bit (LN (4 * 1) 0x808) 0 = true ∧
    ({ up with clk := { zvlLock := true } } : State).clk.zvlLock = true := by
  refine ⟨by decide, by decide, by decide, ?_, by decide⟩
  rintro p (rfl | rfl | rfl) <;> decide

theorem witness_Clocks_sources : (regs [(CK 0, 7)] up).mayDie 2 false = true ∧ (regs [(CK 0, 7)] up).mayDie 3 false = true ∧ (regs [(CK 0, 7)] up).mayDie 4 false = false ∧
    (let s : State := regs [(CK 0, 4), (CK 8, 40000)] { up with clk := { spll0Hold := true } }
     s.clk.spll0Hold = true ∧ s.trimPresent 1 = true) ∧ up.clk.spll0Hold = false ∧
    (let s := regs [(CK 0x10, 1), (CK 0x14, 0x800), (CK 0, 5), (CK 8, 40000)] up
     s.bit (CK 0x10) 0 = true ∧ s.alive 0 = true ∧ s.trimRef ≠ 0 ∧ s.bit (CK 0x14) 11 = true) ∧
    (regs [(CK 0x10, 0)] up).bit (CK 0x10) 0 = false ∧
    (let s : State := regs [(CK 0x104, 0x11)] { up with clk := { gck := [(1, { src := 1, div := 9, ramp := .down })] } }
     (s.gckOf 1).ramp = .down ∧ (s.rampTo 1).2 < (s.gckOf 1).div) ∧ (up.gckOf 1).ramp = .idle ∧
    (let s := regs [(CK 0x460, 8)] up
     s.gateWanted 0x18 = false ∧ s.gateOpen 0x18 = true) ∧ (regs [(CK 0x460, 9)] up).gateWanted 0x18 = true ∧
    (signed (up.fld (CK 0x20C) 16 16) 16 ≤ signed (0x7FFF : BitVec 16).toNat 16 ∧ up.fld (CK 0x208) 16 2 ≠ 2) := by decide

theorem witness_Clocks_more : (∀ k, k < 16 → (up.gckOf k).ramp ≠ .waitSrc) ∧ (regs [(CK 0, 5), (CK 8, 0)] up).mayDie 2 true = false ∧
    (regs [(CK 0, 5), (CK 8, 40000)] up).mayDie 2 true = true ∧
    (let s : State := { up with clk := { dead := [2] } }
     s.mayDie 2 false = false ∧ 2 ∈ s.clk.dead) ∧
    (let s : State := regs [(CK 0, 1), (CK 0x50, 0x41)] up
     s.mayDie 9 false = true) ∧ 10000 ≤ (regs [(CK 8, 40000)] up).fld (CK 8) 0 16 ∧
    (let s : State := { regs [(CK 0x50, 1), (CK 0x104, 0x19), (CK 0, 1)] up with clk := { gck := [(1, { src := 1, div := 9, ramp := .waitSrc })] } }
     s.mayLock (.spll 1) = true ∧ (s.gckOf 1).ramp = .waitSrc ∧ (s.rampTo 1).1 = 9) := by decide

theorem witness_Clocks_trim : let s := regs [(CK 0x10, 1), (CK 0x14, 0), (CK 0, 5), (CK 8, 40000)] { up with clk := { good := 1 } }
    s.bit (CK 0x10) 0 = true ∧ s.alive 0 = true ∧ s.trimRef ≠ 0 ∧ s.bit (CK 0x14) 11 = false ∧ 1 ≤ s.clk.good ∧ s.fld (CK 0x40) 1 2 = 0 ∧
    (regs [(CK 0x40, 2)] s).fld (CK 0x40) 1 2 ≠ 0 := by decide

/-- The power mode `m` is left for `t`. -/
def leaving (m t : Nat) : State := regs [(CK 0x204, BitVec.ofNat 32 (m + 8 * t))] { up with clk := { moving := true } }

theorem witness_PowerAndSupplies : ((leaving 0 1).mode = 0 ∧ (leaving 0 1).modeTarget = 1 ∧ (leaving 1 2).mode = 1 ∧ (leaving 1 2).modeTarget = 2 ∧
      (leaving 1 0).mode = 1 ∧ (leaving 1 0).modeTarget = 0 ∧ (leaving 2 0).mode = 2 ∧ (leaving 2 0).tick.count = 0 ∧
      (leaving 2 0).clk.moving = true) ∧ up.clk.moving = false ∧ (up.on = true ∧ up.bt.brown = false ∧ up.ld.phase = .idle ∧ up.isHead = false ∧ up.beached = false) ∧
    (let s := { booting with bt := { brown := true } }
     s.bt.brown = true ∧ s.hl.up = true ∧ s.lc ≠ 7 ∧ s.ld.phase = .idle ∧ s.boot = 0 ∧ (s.slot s.bootSlot).st = 2) ∧
    (up.on = true ∧ up.store.prog = none ∧ up.life.burning = false) ∧ State.reset.on = false ∧
    (∀ p, p < 4 → (regs [(ZV p 0, 1), (CK (0x4A0 + 4 * p), 8)] { up with rails := { vmem := true, vtx := true, vtt := true } }).portOn p = true) ∧
    ({ up with bt := { brown := true } } : State).bt.brown = true := by decide

/-- Whatever the opaque counter of the firmware is, one of the two cases of a raise is met. -/
theorem witness_PowerOn : State.reset.on = false ∧ up.on = true ∧
    (let s : State := { up with life := { burns := [(8, 1)] } }
     s.on = true ∧ s.life.burns ≠ [] ∧ s.life.burning = false ∧ s.life.recDue = false) ∧
    (let s : State := { up with hl := { up := true, newFw := true } }
     s.hl.newFw = true ∧ s.hl.up = true) ∧ up.hl.newFw = false ∧ up.life.burning = false ∧
    ({ up with life := { burning := true } } : State).life.burning = true ∧
    (holdsUp 680 2000 burnNeed = true ∧ holdsUp 680 1620 burnNeed = false) ∧ holdsUp up.holdupC 2000 burnNeed = false := by decide

/-- A unit whose boot record names a reservoir of 68 mF. -/
theorem witness_PowerOn_holdup : let b := packLE [(0x31524259, 4), (1, 4), (1, 1), (0xFF, 1), (680, 2), (0, 48)]
    let s : State := { up with store := { rec0 := BitVec.ofNat 512 (b + crc32c (bytesLE b 60) * 2 ^ 480) } }
    holdsUp s.holdupC 2000 burnNeed = true := by decide

theorem witness_PowerOn_counter (s : State) (v : Nat) : s.fwRollback < v ∨ v ≤ s.fwRollback := Nat.lt_or_ge _ _

/-- A sounding in state `st` that stores. -/
def sampling (st : Nat) (x : Probe) : State := regs [(PB 4, BitVec.ofNat 32 st), (PB 0, 8)] { up with probe := { x with storing := true } }

theorem witness_Soundings : (let s := sampling 2 { counting := true, left := 0 }
      s.sounding = true ∧ s.probe.storing = true ∧ s.framesDone = true) ∧
    (let s := sampling 2 { wp := 0 }
     s.sounding = true ∧ s.framesDone = false ∧ s.bufFull = true) ∧ up.sounding = false ∧
    (let s := sampling 1 { words := [5] }
     s.pbState = 1 ∧ s.probe.storing = true ∧ s.bit (PB 0) 3 = true ∧ s.probe.words = [5] ∧
     (((5 : DWord).toNat ^^^ (s.reg (PB 0x20) + s.reg (PB 0x24) * 2 ^ 32)) &&& (s.reg (PB 0x28) + s.reg (PB 0x2C) * 2 ^ 32)) = 0) ∧
    up.bit (PB 0) 3 = false := by decide

theorem witness_RegistersAndUpsets : (blockOf (BitVec.ofNat 32 (PB 0x20)).toNat = .pb 0x20 ∧ (BitVec.ofNat 32 (PB 0x20)).toNat % 4 = 0 ∧
      (regFields (BitVec.ofNat 32 (PB 0x20)).toNat).isSome = true) ∧ (0x30000801 : Word).toNat % 4 ≠ 0 ∧ regFields (0x30000FFC : Word).toNat = none ∧
    (511 : Fin 512).val < otpBits 11 ∧ (384 : Fin 512).val < otpBits 3 := by decide

/-- The address stands for a register of block `x` and has fields. -/
def isReg (a : Nat) (x : Block) : Bool := blockOf (BitVec.ofNat 32 a).toNat = x && (BitVec.ofNat 32 a).toNat % 4 = 0 &&
  (regFields (BitVec.ofNat 32 a).toNat).isSome && (BitVec.ofNat 32 a).toNat = a

set_option maxRecDepth 200000 in
theorem witness_Registers : isReg (NR 47 0x200) (.router 47 0x200) = true ∧ isReg (QC 383 0x20) (.qc 383 0x20) = true ∧
    isReg (LN 95 0x10) (.ln 95 0x10) = true ∧ isReg (ZV 3 4) (.zv 3 4) = true ∧ isReg (PB 0x20) (.pb 0x20) = true ∧
    pbLocked 0x20 = true ∧ pbLocked 0x1C = false ∧ isReg (NR 47 4) (.router 47 4) = true ∧ isReg (NR 47 0xC) (.router 47 0xC) = true ∧
    isReg (CK 0x800) (.ck 0x800) = true ∧ isReg (CK 0x804) (.ck 0x804) = true ∧ isReg (CK 0x830) (.ck 0x830) = true ∧
    isReg (ZV 0 0x81C) (.zv 0 0x81C) = true ∧ (sampling 1 {}).sounding = true ∧ up.sounding = false ∧ (up.port 7).fresh = false := by decide +kernel

theorem witness_RegistersAndUpsets_rest : (regs [(scrubReg 5 0x800, 2)] up).scrubRun 5 = true ∧ up.hl.up = true ∧
    (6 : Fin 512).val < otpBits 0 := by decide

/-- A packet with one data flit: its header stands in router 0, the other flit is on its way. -/
def halfway : State :=
  let h : List Hop := [⟨0, 4, 1, [0], 0, false, 0⟩, ⟨1, 3, 4, [], 0, false, 0⟩]
  { netOn with net := [{ hdr := mkHdr 0x20 0 2 4 1 0 0 0 0 0 0, data := [1, 2, 3, 4], left := 1, hops := h }] }

theorem witness_Upsets_flits : up.struck 0 0 4 0 (fun _ h => h.sent = 0) = none ∧
    ((halfway.struck 0 0 0x20 2 (fun _ h => h.sent = 0)).isSome = true ∧
      ((halfway.bringHead 0 0 0x20 2).struck 0 0 0x20 2 headThere).isSome = true) ∧
    (let s : State := { halfway with rails := {} }
     (s.struck 1 0 0x20 2 (fun _ h => h.sent = 0)).isSome = true ∧ (s.bringHead 1 0 0x20 2).struck 1 0 0x20 2 headThere = none) ∧
    (halfway.struck 0 0 0x20 2 (fun (p : Packet) (h : Hop) => decide (h.sent + h.buf.length < p.flits) && !p.data.isEmpty)).isSome = true ∧
    up.struck 0 0 0x20 2 (fun (p : Packet) (h : Hop) => decide (h.sent + h.buf.length < p.flits) && !p.data.isEmpty) = none := by decide


/-! ## The spec's worked examples -/

/-- spec/01: lane L37, quad 9, bay 9; spec/06, 07: nodes; spec/03: the address of frame 3 of tile 1/10/02. -/
theorem test_places : (List.range 4).map (regionAt 9) = [18, 19, 66, 67] ∧ (List.range 16).map (bayQueue 9) =
      [72, 73, 74, 75, 76, 77, 78, 79, 264, 265, 266, 267, 268, 269, 270, 271] ∧
    quadNode 9 = 0x4A ∧ clusterNode 6 = 0x6A ∧ regionNode 23 = 0xE8 ∧ regionNode 20 = 0x88 ∧ defaultRegion 864 = 18 ∧
    frameAddr 0x10064C00 = .tile 0 1 18 3 ∧ (route 0x6A 0xE8).length = 5 := by decide

/-- The reference operating point (spec/15): ZREC, SPLL1 at 2 GHz, GCK0 = SPLL1 ÷ 4. -/
def refPoint (x : List (Nat × Word)) : State := regs (x ++ [(CK 0x50, 0x22827), (CK 0x58, 1), (CK 0x100, 0x39), (ZV 0 0x820, 0)])
  { up with clk := { gck := [(0, { src := 9, div := 4 })] } }

theorem test_clock : (refPoint []).fabricPs = 2000 ∧ (refPoint []).wanted 0 = (9, 4) := by decide

/-- spec/10 and spec/20: L_req with hops of 52 ns, S = 2 and S = 1; OFS, ADJ of 304 ns and 234 ns (units of 0.3125 ps). -/
theorem test_chain_example : (refPoint [(ZV 0 0x40, 0x1005), (ZV 0 8, 166400)]).lReq 0 = 47 ∧
    (refPoint [(ZV 0 0x40, 0x1003), (ZV 0 8, 166400)]).lReq 0 = 43 ∧
    ((refPoint []).writeOfs 972800).ofs = 8 ∧ ((refPoint []).writeOfs 972800).fld (CK 0x820) 0 16 = 10 ∧
    ((refPoint []).writeOfs 748800).ofs = 11 ∧ ((refPoint []).writeOfs 748800).fld (CK 0x820) 0 16 = 8 := by decide

/-- spec/05, Table CTX-10: regions 0 to 15 with the steps (0, 8), (1, n). -/
def twoSteps (n : Nat) (r : Nat) : List Word := if r < 16 then [2, 0, BitVec.ofNat 32 (8 + (8192 + n) * 65536), 0, 0, 0, 0, 0, 0, 0] else []

theorem test_wave_plan : planKeeps 16 8 (twoSteps 8) (fun _ => false) = false ∧ planKeeps 16 8 (twoSteps 7) (fun _ => false) = true ∧
    planKeeps 16 16 (twoSteps 8) (fun _ => false) = true ∧
    (let p := wavePlan 16 8 (twoSteps 7) (fun _ => false)
     planShift p (fun _ => false) 7 0 = 0 ∧ planShift p (fun _ => false) 7 1 = 0 ∧ planShift p (fun _ => false) 8 0 = 1 ∧
     planShift p (fun _ => false) 8 1 = 1) := by decide

/-- spec/08 and spec/14: hold-up with 68 mF. -/
theorem test_holdup : holdsUp 680 1780 (chunkNeed 262144) = true ∧ holdsUp 680 1740 (chunkNeed 262144) = false ∧
    holdsUp 680 1635 burnNeed = true ∧ holdsUp 680 1634 burnNeed = false := by decide

/-- spec/13: the REQUEST frame of STATUS to host address 0x2C4. -/
theorem test_host_frame : (writeFrame 0x2C4 1 0x37 [2, 1, 0, 0, 5, 0, 0, 0]).take 14 =
    [0xA5, 0xC4, 0x12, 0x08, 0x00, 0x37, 2, 1, 0, 0, 5, 0, 0, 0] ∧ (writeFrame 0x2C4 1 0x37 [2, 1, 0, 0, 5, 0, 0, 0]).length = 18 := by decide

/-- spec/06: the pipeline in Q072 with the words of frame 5 from 40,000 to 40,015. -/
def pipeline : State :=
  let q : Queue := { desc := BitVec.ofNat 160 (0x15000163 + 2 ^ 96), curt := 7, oldest := 1, wr := 40020, occ := 100, idx := [(5, 40000), (6, 40016)] }
  { up with run := { hold := false }, rails := { vmem := true }, qs := [(72, { q with ro := [.frame 5 40000 16 false false 0x88 0] })] }

theorem test_pipeline : dMode (pipeline.desc 72) = 3 ∧ dSrc (pipeline.desc 72) = 2 ∧ dLane (pipeline.desc 72) = 1 ∧ dOvf (pipeline.desc 72) = 1 ∧
    dSlots (pipeline.desc 72) = 8 ∧ pipeline.wq 72 = 86016 ∧ pipeline.qBlock 72 40000 = 873 ∧ 40000 % 4096 = 3136 ∧
    dFofs (pipeline.desc 72) = 1 := by decide

/-- The record is 19 words, padded to 20: one packet of 5 data flits from C06 to region 20. -/
theorem test_readout_record : (match exec (.readoutRecordSend 72) pipeline with
    | .next t => t.net.map (fun p => (p.src, p.dst, p.vc, p.len, p.data.length))
    | _ => []) = [(0x6A, 0x88, 2, 5, 20)] := by decide

/-- spec/03, Table TIL-5: macrocell 5 of tile 18 in region 1; a, b, c, e and r come from FN[0] to FN[4], so the frame number
`n` sets them; Q before the edge is `q`. -/
def majority (q : Bool) (n : Nat) : State := { up with
  tick := { frame := BitVec.ofNat 48 n }
  rg := [(1, { srGate := true, ceGate := true })]
  fab := {
    tf := [(tfKey 0 1 18 0, 0x05 <<< 1280 + 0x11 <<< 1408 + 0x14 <<< 1536),
      (tfKey 0 1 18 3, 0x1C <<< 488 + 1 <<< 2576 + 4 <<< 2640 + 0x0023302850A0AAAA <<< 1856),
      (tfKey 0 1 18 4, 0x20 + 0x21 <<< 12 + 0x22 <<< 24 + 0x23 <<< 96 + 0x24 <<< 108)]
    bank := if q then [(8, 1 <<< 293)] else [] } }

/-- Q after the edge. -/
def majorityQ (q : Bool) (n : Nat) : Bool := ((majority q n).capture 1 293 (.gck 0)).getD q

theorem test_majority_table : majorityQ false (1 + 2) = false ∧ majorityQ false (1 + 2 + 8) = true ∧ majorityQ true 0 = true ∧
    majorityQ true (1 + 2 + 4 + 16) = false ∧ majorityQ false (1 + 2 + 4 + 8 + 16) = false ∧ majorityQ false (2 + 4 + 8) = true := by decide

theorem test_majority_clock : ((majority false (1 + 2 + 8)).capture 1 293 (.gck 1)).isNone = true ∧
    ({ majority true 7 with rg := [] } : State).capture 1 293 (.gck 0) = none := by decide

/-- spec/11, Table HDL-6: MB0 and MB1 outrank MB2 until MB2 is aged. -/
def mailboxes (m2aged : Bool) : State := { up with mb := [(0, { st := .waiting, ringNo := 5 }), (1, { st := .waiting, ringNo := 4 }),
  (2, { st := .waiting, ringNo := 1, aged := m2aged })] }

theorem test_service_order : (mailboxes false).nextRequest = some 0 ∧ (mailboxes true).nextRequest = some 2 := by decide

/-- spec/17, Table PRB-6: sources of a sounding. -/
theorem test_probe_sources : let s := regs [(PB 0x104, 0x1AE311), (PB 0x108, 0xE485), (PB 0, 0x40), (PB 0x40, 0x1376), (PB 0x44, 0x1377)] up
    (s.pbClass 1, s.pbI1 1, s.pbI2 1) = (1, 49, 215) ∧ (s.pbClass 2, s.pbI1 2, s.pbI2 2) = (5, 72, 7) ∧ s.bufBlocks = [886, 887] ∧
    s.bufWords = 8192 ∧ blockOf 0x41BB0000 = .mem (886 * 32768) := by decide

/-- spec/07: the packet of the worked example, from C06 to region 23, LEN 5. -/
def example7 : State := { netOn with net := [({ hdr := mkHdr 0xE8 0x6A 2 4 5 0 0 0 0 0 0, data := List.replicate 20 0 } : Packet).routed] }
theorem test_network_example : ((example7.carry 0x6A 0xE8 2).net.map (·.doneAt)) = [26] := by decide
theorem test_network_header : ((State.runNet (fun _ => false) 20 example7).net.map (·.here), (State.runNet (fun _ => false) 21 example7).net.map (·.here)) = ([0], [1]) := by decide


/-! ## Witnesses: queues whose routers have their supply -/

/-- The routers have their supply; `x` replaces registers. -/
def supplied (s : State) (x : List (Nat × Word)) : State := { s with rails := { vmem := true }, csr := x }

theorem witness_PortMemory_other : ((asked 1 5 7 up).port 0).op ≠ 2 ∧ ((asked 1 5 7 up).port 0).fresh = true := by decide

theorem witness_PortQueues_refused :
    (∀ x ∈ ([{ stopped := true }, { occ := 8188 }] : List Queue), let s := asked 3 0 9 (qx (18 + 4 * 2 ^ 116) x)
     (s.port 0).op = 3 ∧ dSrc (s.desc 0) = 1 ∧ dMode (s.desc 0) = 2 ∧ (s.queue 0).skipping = false ∧ (s.queue 0).bufFull false = false ∧
     (s.queue 0).openRec = none ∧ ((s.queue 0).stopped = true ∨ s.wq 0 < (s.queue 0).occ + dRecMax (s.desc 0) + 1)) ∧
    (let s := asked 3 0 9 (qx (18 + 4 * 2 ^ 116) { occ := 8187 })
     (s.queue 0).occ + dRecMax (s.desc 0) + 1 = s.wq 0) ∧
    (let s := asked 3 0 9 (qx (18 + 4 * 2 ^ 116) { skipping := true, refusing := true })
     dMode (s.desc 0) = 2 ∧ (s.queue 0).skipping = true) := by decide

/-- A packet of queue 0 that has not begun to enter the network. -/
def unsent : Packet := { hdr := mkHdr 4 (clusterNode 0) 2 4 0 0 0 0 0 0 0, data := [], own := 0 }

theorem witness_QueueCommands_power : (qx 1 {}).routersOn = false ∧ (supplied (qx 1 {}) []).routersOn = true ∧ ((supplied (qx 1 {}) []).queue 0).leaving = none ∧
    (let s := supplied (qx 3 { leaving := some (false, false), ro := [.drain 1 2] }) []
     s.qMode 0 = 3 ∧ (s.queue 0).leaving.isSome = true ∧ State.recordLeft 0 s = true ∧
     State.recordLeft 0 { s with net := [unsent] } = false) ∧
    (let s := supplied (qx 1 {}) []
     s.accBusy 0 = false ∧ s.qMode 0 ≠ 0 ∧ (8191 : Word).toNat % 2 ^ 19 < s.wq 0 ∧ s.wq 0 ≤ (8192 : Word).toNat % 2 ^ 19) ∧
    (supplied (qx 0 {}) []).qMode 0 = 0 ∧
    (∀ wr : Bool, let s := supplied (qx 1 {}) [(QC 0 0x90, BitVec.ofNat 32 (2 ^ 29 + wr.toNat * 2 ^ 24 + 8191))]
     s.accBusy 0 = true ∧ s.accWrite 0 = wr ∧ s.qMode 0 ≠ 0 ∧ 8191 = s.fld (QC 0 0x90) 0 19 ∧ 8191 < s.wq 0 ∧
     s.flipMask (s.qBlock 0 8191) (8191 % 4096) = 0) ∧
    (supplied (qx 1 {}) [(QC 0 0x90, 2 ^ 29 + 8192)]).wq 0 ≤ (supplied (qx 1 {}) [(QC 0 0x90, 2 ^ 29 + 8192)]).fld (QC 0 0x90) 0 19 := by decide

/-- Does the wheel of queue 0 turn, the coming position a write slot or not? -/
def turning (slot : Bool) (s : State) : Bool :=
  !s.clk.stopped && !s.run.hold && s.routersOn && (s.queue 0).leaving.isNone && writeSlot ((s.queue 0).wheel % 16) (dSlots (s.desc 0)) == slot

/-- The state in which the wheel of queue 0 has moved. -/
def moved (s : State) : State := s.setQueue 0 { s.queue 0 with wheel := ((s.queue 0).wheel + 1) % 16, accWait := (s.queue 0).accWait - 1 }

/-- Headland's access to word `o` is pending. -/
def accessing (wr : Bool) (x : Queue) : State := supplied (qx 1 x) [(QC 0 0x90, BitVec.ofNat 32 (2 ^ 29 + wr.toNat * 2 ^ 24 + 8191))]

theorem witness_SlotWheel_writes :
    (let s := supplied (qx 1 { wbuf := [.word 3 9 false] }) []
     turning true s = true ∧ turning false { s with qs := [(0, { s.queue 0 with wheel := 1 })] } = true ∧
     (moved { s with qs := [(0, { s.queue 0 with wheel := 1 })] }).readPending 0 = false) ∧
    turning true (supplied (qx 1 { wbuf := [.header 3 9] }) []) = true ∧
    (∀ d ∈ [4, 4 + 2 ^ 114], ∀ b ∈ [6, 7], let s := supplied (qx d { flight := [(b, 5, false)] }) []
     turning true s = true ∧ dBinW (s.desc 0) = (d ≠ 4) ∧ (s.queue 0).wbuf = [] ∧ s.flipMask (s.qBlock 0 (s.binWord 0 b)) (s.binWord 0 b % 4096) = 0) ∧
    (let s := accessing true { accWait := 1 }
     turning true s = true ∧ (s.queue 0).wbuf = [] ∧ (s.queue 0).flight = [] ∧ s.accBusy 0 = true ∧ s.accWrite 0 = true ∧ (s.queue 0).accWait ≤ 1 ∧
     s.qMode 0 ≠ 0 ∧ 8191 = s.fld (QC 0 0x90) 0 19 ∧ 8191 < s.wq 0) := by decide

theorem witness_SlotWheel_reads :
    (∀ f ∈ ([[], [(6, 5, false)]] : List (List (Nat × Nat × Bool))), let s := supplied (qx 4 { adds := [(6, 5)], flight := f, wheel := 1 }) []
     turning false s = true ∧ (s.queue 0).adds = [(6, 5)] ∧ (s.queue 0).flight.length < 8 ∧
     ((s.queue 0).flight.any (fun f => f.1 = 6) = !f.isEmpty) ∧ s.flipMask (s.qBlock 0 (s.binWord 0 6)) (s.binWord 0 6 % 4096) = 0) ∧
    (let s := supplied (qx 17 { occ := 2, rd := 8191, wheel := 1 }) []
     turning false s = true ∧ (s.queue 0).adds = [] ∧ s.canPrefetch 0 = true ∧ 8191 = ((s.queue 0).rd + (s.queue 0).pre.length) % s.wq 0 ∧
     s.flipMask (s.qBlock 0 8191) (8191 % 4096) = 0) ∧
    (let s := accessing false { accWait := 1, wheel := 1 }
     turning false s = true ∧ (s.queue 0).adds = [] ∧ s.canPrefetch 0 = false ∧ s.readoutReads 0 = false ∧ s.accBusy 0 = true ∧ s.accWrite 0 = false ∧
     (s.queue 0).accWait ≤ 1 ∧ s.qMode 0 ≠ 0 ∧ 8191 = s.fld (QC 0 0x90) 0 19 ∧ 8191 < s.wq 0 ∧ s.flipMask (s.qBlock 0 8191) (8191 % 4096) = 0) ∧
    (let s := supplied (qx 17 { occ := 2 }) []
     turning true s = true ∧ (moved s).writePending 0 = false) ∧
    (let s := supplied (qx 17 {}) []
     turning true s = true ∧ (moved s).writePending 0 = false ∧ (moved s).readPending 0 = false) := by decide

/-! ## Witnesses: records, rings, lanes -/

theorem witness_QueueTraffic_bad : (let s := regs [(LN 0 0, 1 + 0x20), (LN 0 0x10, 4), (CK 0x400, 8)] { up with run := { hold := false, writes := true }, rails := { vmem := true, vtx := true, vtt := true } }
     s.laneFar 0 = false ∧ s.laneRuns 0 = true ∧ s.laneCode 0 = 1 ∧ (0x1C : DWord).toNat % 256 ≠ 0xBC ∧ s.laneDelivers 0 0xBC true = false) := by decide

/-- Queue 0 with descriptor `d` and contents `x`, ready to send. -/
def mailing (d : Nat) (x : Queue) : State := { qx d x with rails := { vmem := true } }

/-- The words from `o` on, `n` of them, are written and without an error. -/
def cleanWords (s : State) (o n : Nat) : Bool := (List.range n).all (fun i => !(s.queue 0).unwritten ((o + i) % s.wq 0) &&
  s.flipMask (s.qBlock 0 ((o + i) % s.wq 0)) ((o + i) % s.wq 0 % 4096) = 0)

/-- The record at the head of queue 0 may go. -/
def mayGo (s : State) : Bool := !s.clk.stopped && !s.run.hold && s.routersOn && (s.queue 0).leaving.isNone && State.recordLeft 0 s

theorem witness_QueueTraffic_more :
    (let s := mailing 3 { curt := 10, oldest := 8, ro := [.frame 7 0 2 false false 4 0] }
     mayGo s = true ∧ s.retained 0 7 = false) ∧
    (∀ m ∈ [0, 6], let s := mailing (2 + 2 ^ 112 + m * 2 ^ 128) { rd := 8190, occ := 4, ro := [.record ⟨8190, 3, true, 9, 0⟩], closed := [⟨2, 1, false, 9, 0⟩] }
     mayGo s = true ∧ cleanWords s 8191 3 = true ∧ (List.range 4).all (fun i => !(s.queue 0).unwritten ((8190 + i) % s.wq 0)) = true ∧
     (dMaxf (s.desc 0) = 0 ∨ (s.queue 0).drained + 3 + 3 ≤ dMaxf (s.desc 0))) ∧
    (let s := mailing (2 + 2 ^ 112 + 5 * 2 ^ 128) { occ := 4, ro := [.record ⟨0, 3, true, 9, 0⟩] }
     mayGo s = true ∧ dMaxf (s.desc 0) ≠ 0 ∧ dMaxf (s.desc 0) < (s.queue 0).drained + 3 + 3) ∧
    (let s := mailing 1 { leaving := some (false, false), ro := [.frame 1 0 0 false true 4 0] }
     (s.queue 0).leaving.isSome = true ∧ State.recordLeft 0 (State.runNet (State.recordLeft 0) s.netTime s) = true) := by decide

theorem witness_QueueTraffic_bins : (let s := mailing 4 { ro := [.bins 1 true 9 4 0] }
     mayGo s = true ∧ (s.queue 0).ro = [.bins 1 true 9 4 0]) ∧ mayGo (mailing 4 { ro := [.bins 1 false 9 4 0] }) = true := by decide

theorem witness_QueueTraffic_binsClean : ∀ i, i < 4096 → ((mailing 4 { ro := [.bins 1 true 9 4 0] }).queue 0).unwritten ((4096 + i) % (mailing 4 {}).wq 0) = false ∧
    (mailing 4 { ro := [.bins 1 true 9 4 0] }).flipMask ((mailing 4 {}).qBlock 0 ((4096 + i) % (mailing 4 {}).wq 0)) ((4096 + i) % (mailing 4 {}).wq 0 % 4096) = 0 :=
  fun _ _ => ⟨rfl, rfl⟩

/-- `ringed` with descriptor `d` of the receive ring and its write offset at 46: one word is free. -/
def fullRing (d : Word) (p : Packet) : State := { ringed p with
  csr := (NR 8 0x20, d) :: (ringed p).csr, mem := [(8 * wordKey (96 * bayOf 8 + 1) 0, 46)] }

theorem witness_BulkPackets_full : (let p := pk 4 2 4
      let s := (fullRing 0x1081 p).carry 0 4 2
      s.arrived 0 4 2 = some (there p) ∧ s.epHeld 8 = false ∧ ringEn (s.rxRing 8) = true ∧ (there p).poison = false ∧
      s.ringFree 8 (s.rxRing 8) < (entryWords (there p)).length ∧ ringFullDrop (s.rxRing 8) = true) ∧
    (let p := pk 4 3 5
     let s := (fullRing 0x81 p).carry 0 4 3
     s.arrived 0 4 3 = some (there p) ∧ s.epHeld 8 = false ∧ ringEn (s.rxRing 8) = true ∧
     s.ringFree 8 (s.rxRing 8) < (entryWords (there p)).length) ∧
    (let p : Packet := { hdr := mkHdr 4 0 2 4 0 0 0 0 0 0 0 ||| 0x8000000, data := [] }
     ((ringed p).carry 0 4 2).arrived 0 4 2 = some (there p) ∧ (there p).poison = true) ∧
    (let s := (fullRing 0 (pk 4 2 4)).carry 0 4 2
     s.arrived 0 4 2 = some (there (pk 4 2 4)) ∧ ringEn (s.rxRing 8) = false) := by decide

/-- `ringed` with lane 0 in 64b/66b, its header word sent, THR set and THROTTLE on. -/
def throttled (p : Packet) : State := { ringed p with
  csr := (LN 0 0, 2 + 0x40) :: (LN 0 0xC, 3) :: (ringed p).csr, lane := [(0, { thr := true, run := 60 })] }

theorem witness_BulkPackets_throttle : (let s := (throttled (pk 2 2 4)).carry 0 2 2
      s.arrived 0 2 2 = some (there (pk 2 2 4)) ∧ (there (pk 2 2 4)).poison = false ∧ s.laneSends 0 = true ∧ s.laneCode 0 = 2 ∧ s.laneThr 0 = true ∧
      s.bit (LN 0 0xC) 0 = true) ∧
    (let p : Packet := { hdr := mkHdr 2 0 2 4 0 0 0 0 0 0 0 ||| 0x8000000, data := [] }
     ((ringed p).carry 0 2 2).arrived 0 2 2 = some (there p) ∧ (there p).poison = true) := by decide

theorem witness_Routers_power : up.routersOn = false ∧ (slackened false).routersOn = true ∧ (filtering true).routersOn = true := by decide

/-- Lane 0 may align, with FL = 1, `target` and LAT_FAIL. -/
def laneFl (target : Nat) (failed : Bool) : State := regs [(LN 0 0, 0x83), (LN 0 4, BitVec.ofNat 32 target), (LN 0 0x10, if failed then 8 else 0), (LN 0 0x808, 1), (CK 0x400, 8)]
  { up with run := { outputs := true }, rails := { vtx := true, vtt := true } }

theorem witness_Lanes_latency : (∀ target ∈ [0, 65535], ∀ failed, let s := laneFl target failed
      s.aligned 0 = false ∧ s.rxEn 0 = true ∧ s.bit (LN 0 0x808) 0 = true ∧ s.gateOpen 0 = true ∧ s.rails.vtx = true ∧ s.rails.vtt = true ∧
      s.scanned = false ∧ s.bit (LN 0 0) 7 = true ∧ s.fld (LN 0 4) 0 16 = target ∧ s.bit (LN 0 0x10) 3 = failed) ∧
    (let s : State := { laneFl 0 false with tap := { ir := .extest } }
     s.scanned = true) := by decide

theorem witness_RegistersAndUpsets_power : up.routersOn = false ∧ netOn.routersOn = true := by decide

/-! ## Witnesses: the chain, more -/

theorem witness_OrderedSets_sof :
    (let s : State := { chained [(CK 0x800, 2)] with tick := { sofLast := some (0, 63), frame := 1, cyc := 200 } }
     s.src = 2 ∧ s.mode = 0 ∧ s.fromUp 0 = true ∧ s.low 0 = false ∧ s.sofMissed (s.frameStart + 5) ((8 : Byte).toNat / 4 % 64) = true ∧
     (9 : Byte).toNat.testBit 0 = true) ∧
    (let s := chained [(ZV 1 0, 5), (ZV 2 0, 5), (ZV 2 4, 1), (CK 0x4A8, 8)]
     s.portFar 1 = true ∧ s.portFar 2 = true ∧ s.portUp 1 = false ∧ s.fromAny 1 = false) ∧
    (up.portFar 0 = false ∧ up.fromUp 0 = false ∧ up.portUp 0 = false) := by decide

theorem witness_OrderedSets_sleep :
    (∀ b : Bool, let s := chained [(ZV 0 0x820, 0), (ZV 2 4, 1), (ZV 2 0, 1), (CK 0x4A8, 8), (ZV 3 4, 1), (ZV 3 0, 1), (CK 0x4AC, 8)]
     let p := if b then 0 else 1
     s.portUp p = true ∧ s.low p = false ∧ s.mode = 0 ∧ (if b then s.upPort else s.dnPort) = some p ∧ s.canTake (p + 2) = true) ∧
    (let s := chained []
     s.portUp 1 = true ∧ s.low 1 = false ∧ s.mode = 0 ∧ s.dnPort = some 1 ∧ s.canTake 3 = false) ∧
    (let s : State := { chained [(ZV 0 0x820, 8)] with chain := { slow := [1] } }
     s.portUp 1 = true ∧ s.mode = 0 ∧ s.dnPort = none ∧ s.low 1 = false) := by decide

/-- A measurement of port 0 with `n` of its 256 sums, ASYM at its least; `heard` has a CALD. -/
def measuring (n : Nat) (heard : Bool) : State := { chained [(ZV 0 0x14, 0x8000)] with
  chain := { meas := [(0, n, 102400 * 256 + 300)], heard := if heard then [0] else [], measured := [], calib := [] } }

theorem witness_ChainLinks_calibration :
    (∀ h, let s := measuring 256 h
     s.chain.meas = [(0, 256, 102400 * 256 + 300)] ∧ s.upPort.isSome = true ∧ s.upPort = some 0 ∧ s.chain.heard.contains 0 = h) ∧
    (measuring 255 true).chain.meas = [(0, 255, 102400 * 256 + 300)] ∧
    (∀ x ∈ (chained []).chain.meas, x.1 ≠ 0) ∧
    (let s := chained [(ZV 2 4, 1), (ZV 2 0, 1), (CK 0x4A8, 8)]
     s.upPort = some 0 ∧ s.upPort ≠ some 2) := by decide

theorem witness_Messages_far : (let s := chained [(ZV 1 0, 5)]
     s.portFar 1 = true) ∧ (up.portFar 0 = false ∧ up.portUp 0 = false) ∧
    ((chained []).portUp 1 = true ∧ (chained []).fromUp 1 = false) := by decide

/-- A CALD. -/
def caldMsg (d e : Nat) : ZMsg := msg 0xFFF (bytesLE (d + e * 2 ^ 32) 8) true

theorem witness_Messages_cald :
    (∀ x ∈ ([[0], []] : List (List Nat)), ∀ y ∈ ([[0], []] : List (List Nat)), let s : State := { chained [(ZV 0 0xC, 7), (ZV 0 0x10, 1)] with chain := { calib := x, heard := y } }
     s.portUp 0 = true ∧ s.isHead = false ∧ s.accepts (caldMsg 7 1) = true ∧ fieldAt (natLE (caldMsg 7 1).payload) 0 4 = s.reg (ZV 0 0xC) ∧
     fieldAt (natLE (caldMsg 7 1).payload) 4 4 = s.reg (ZV 0 0x10) ∧ s.upPort = some 0) ∧
    fieldAt (natLE (caldMsg 8 1).payload) 0 4 ≠ (chained [(ZV 0 0xC, 7)]).reg (ZV 0 0xC) := by decide

theorem witness_Messages_mbreq : (let s := chained [(ZV 0 0x800, 0x1000007)]
     s.fromUp 0 = true ∧ (msg 8 [] true).dst.toNat ≠ 0xFFF ∧ (msg 8 [] true).dst.toNat ≠ s.zaddr ∧ s.accepts (msg 7 [] true) = true ∧
     (msg 7 [] true).dst.toNat = s.zaddr ∧ s.assigned = true ∧ s.takes 1 = true ∧
     (({ s with mb := [(1, { st := .waiting })] } : State).mbox 1).st ≠ .idle ∧ ({ s with mb := [(1, { st := .waiting })] } : State).takes 1 = true) := by decide

theorem witness_Superframes_far : (chained [(ZV 1 0, 5)]).portFar 1 = true := by decide

theorem witness_PowerAndSupplies_load : (let s : State := { up with ld := { phase := .header } }
     s.on = true ∧ s.bt.brown = false ∧ s.ld.phase ≠ .idle) := by decide

theorem witness_Clocks_fast : (let s := regs [(CK 0x10, 1), (CK 0x14, 0), (CK 0, 5), (CK 8, 40000)] { up with clk := { good := 1 } }
     s.bit (CK 0x14) 11 = false ∧ 1 ≤ s.clk.good ∧ s.trimRef ≠ 0) := by decide

end Sys2Proof.Tests
end

section
/-! Frame numbers (spec/02 R52): the difference modulo 2^48 and the order it gives. -/
namespace Sys2Proof.Machine

/-- For a 48-bit `b`, reducing `b` first changes nothing: `subFrame` is the difference of R52. -/
theorem subFrame_of_lt (a : Nat) {b : Nat} (hb : b < 2 ^ 48) : subFrame a b = (a + (2 ^ 48 - b)) % 2 ^ 48 := by
  rw [subFrame, Nat.mod_eq_of_lt hb, Nat.add_sub_assoc hb.le]

theorem laterFrame_iff (a b : Nat) : laterFrame a b = true ↔ 1 ≤ subFrame a b ∧ subFrame a b < 2 ^ 47 := by
  simp only [laterFrame, Bool.and_eq_true, decide_eq_true_eq]

end Sys2Proof.Machine

/- A namespace of its own: the model already has a function `Sys2Proof.Machine.laterFrame`. -/
namespace Sys2Proof.FrameTick
open Sys2Proof.Machine

/-- Settles O28: for a 48-bit `b` the model's difference is that of R52, and below 2^47 is at most 2^47 − 1. -/
theorem laterFrame : Obligations.LaterFrame := by
  intro a b _ hb
  rw [laterFrame_iff, subFrame_of_lt a hb, Nat.le_sub_one_iff_lt (Nat.two_pow_pos 47)]

end Sys2Proof.FrameTick
end

section
/-! Breakwater's host island (spec/13 R397, R398, R407): what a host frame finds there, and what a reply and ASSIGN leave. -/
namespace Sys2Proof.Machine

/-! ## The island as it stands -/

@[simp] theorem Island.copy_zaddr (i : Island) (s : State) : (i.copy s).zaddr = s.zaddr := rfl

/-- What has crossed the barrier has crossed: copying again changes nothing. -/
@[simp] theorem Island.copy_copy (i : Island) (s : State) : (i.copy s).copy s = i.copy s := by
  simp only [Island.copy, Island.mk.injEq, and_true]
  split <;> simp_all

theorem State.island_of_devUp {s : State} (hon : s.on = true) (hdev : s.isl.devUp = true) : s.island = s.isl.copy s := by
  simp [State.island, hon, hdev]

@[simp] theorem State.island_haddr (s : State) : s.island.haddr = s.isl.haddr := by
  unfold State.island
  split <;> rfl

@[simp] theorem State.island_devUp (s : State) : s.island.devUp = s.isl.devUp := by
  unfold State.island
  split <;> rfl

@[simp] theorem State.island_resync (s : State) : s.island.resync = s.isl.resync := by
  unfold State.island
  split <;> rfl

/-- The chain address as the island holds it depends on its own DEV_UP and copy alone. -/
theorem State.island_zaddr (s : State) :
    s.island.zaddr = if s.on && s.isl.devUp then s.zaddr else s.isl.zaddr := by
  unfold State.island
  split <;> rfl

theorem State.hostAddr_of_none {s : State} (h : s.isl.haddr = none) : s.hostAddr = s.island.zaddr := by
  simp [State.hostAddr, h]

theorem State.hostAddr_of_some {s : State} {h : Nat} (hh : s.isl.haddr = some h) : s.hostAddr = h := by
  simp [State.hostAddr, hh]

/-! ## What a host frame finds -/

/-- The state that a host frame acts on: the island holds what has crossed, and no reply stands. -/
def State.heard (s : State) : State := s.mirror.setIsl { s.mirror.isl with reply := none, presence := false }

theorem State.heard_isl (s : State) : s.heard.isl = { s.island with reply := none, presence := false } := rfl

@[simp] theorem State.heard_isl_haddr (s : State) : s.heard.isl.haddr = s.isl.haddr := s.island_haddr
@[simp] theorem State.heard_isl_devUp (s : State) : s.heard.isl.devUp = s.isl.devUp := s.island_devUp
@[simp] theorem State.heard_isl_resync (s : State) : s.heard.isl.resync = s.isl.resync := s.island_resync
@[simp] theorem State.heard_on (s : State) : s.heard.on = s.on := rfl
@[simp] theorem State.heard_unitBytes (s : State) : s.heard.unitBytes = s.unitBytes := rfl

/-- The frame finds the island as it stands. -/
theorem State.heard_island (s : State) : s.heard.island = { s.island with reply := none, presence := false } := by
  by_cases h : s.on = true ∧ s.isl.devUp = true
  · obtain ⟨hon, hdev⟩ := h
    have again : s.heard.isl.copy s.heard = { (s.isl.copy s).copy s with reply := none, presence := false } := by
      rw [s.heard_isl, State.island_of_devUp hon hdev]
      rfl
    rw [State.island_of_devUp (s := s.heard) hon (by simpa using hdev), again, Island.copy_copy, State.island_of_devUp hon hdev]
  · have stays : s.heard.island = s.heard.isl := by
      simp only [State.island, State.heard_on, State.heard_isl_devUp, Bool.and_eq_true, if_neg h]
    rw [stays, s.heard_isl]

@[simp] theorem State.heard_island_zaddr (s : State) : s.heard.island.zaddr = s.island.zaddr := by rw [s.heard_island]

@[simp] theorem State.heard_hostAddr (s : State) : s.heard.hostAddr = s.hostAddr := by
  simp [State.hostAddr]

@[simp] theorem State.heard_replyHead (s : State) (status : Nat) : s.heard.replyHead status = s.replyHead status := by
  simp only [State.replyHead, State.islState, State.heard_isl_devUp, State.heard_isl_resync, s.heard_island]
  rfl

theorem State.hostFrame_assign {s : State} {b : List Byte} {f : HostFrame} (hv : s.rails.vhost = true)
    (hf : readFrame b = some f) (ht : f.typ = 10) : s.hostFrame 10 b = s.heard.hostAssign f := by
  simp [State.hostFrame, State.heard, hv, hf, ht]

/-! ## Replies and ASSIGN -/

@[simp] theorem State.bwReply_isl_haddr (s : State) (f : HostFrame) (a status : Nat) (data : List Byte) :
    (s.bwReply f a status data).isl.haddr = s.isl.haddr := by
  unfold State.bwReply
  split <;> rfl

@[simp] theorem State.bwReply_island_zaddr (s : State) (f : HostFrame) (a status : Nat) (data : List Byte) :
    (s.bwReply f a status data).island.zaddr = s.island.zaddr := by
  simp only [State.island_zaddr]
  unfold State.bwReply
  split <;> rfl

theorem State.bwReply_isl_reply (s : State) {f : HostFrame} (a status : Nat) (data : List Byte) (hf : f.addr ≠ 0xFFF) :
    (s.bwReply f a status data).isl.reply = some (writeFrame a f.typ f.seq (s.replyHead status ++ data)) := by
  simp [State.bwReply, hf]

section
variable {s : State} {f : HostFrame} (ha : f.addr = 0) (hlen : f.pay.length = 18) (hid : f.pay.take 16 = s.unitBytes)
include ha hlen hid

/-- ASSIGN below 0xFFF sets HADDR, or clears it where it is 0x000, and replies. -/
theorem State.hostAssign_taken (hh : natLE (f.pay.drop 16) < 0xFFF) :
    let t := s.setIsl { s.isl with haddr := if natLE (f.pay.drop 16) = 0 then none else some (natLE (f.pay.drop 16)) }
    s.hostAssign f = t.bwReply f s.hostAddr 0 t.identity := by
  simp [State.hostAssign, ha, hid, hlen, Nat.not_le.2 hh]

theorem State.hostAssign_isl_haddr (hh : natLE (f.pay.drop 16) < 0xFFF) : (s.hostAssign f).isl.haddr =
    if natLE (f.pay.drop 16) = 0 then none else some (natLE (f.pay.drop 16)) := by
  simp [State.hostAssign_taken ha hlen hid hh]

/-- ASSIGN leaves the chain address that the island holds. -/
theorem State.hostAssign_island_zaddr (hh : natLE (f.pay.drop 16) < 0xFFF) :
    (s.hostAssign f).island.zaddr = s.island.zaddr := by
  rw [State.hostAssign_taken ha hlen hid hh, State.bwReply_island_zaddr, State.island_zaddr, State.island_zaddr]
  rfl

theorem State.hostAssign_refused (hh : 0xFFF ≤ natLE (f.pay.drop 16)) :
    s.hostAssign f = s.bwReply f s.hostAddr stBAD_ARG [] := by
  simp [State.hostAssign, ha, hid, hlen, hh]

end

theorem completes_assign_iff {s : State} {b : List Byte} {f : HostFrame} {P : State → Prop} (hv : s.rails.vhost = true)
    (hf : readFrame b = some f) (ht : f.typ = 10) : Completes (.assign b) s P ↔ P (s.heard.hostAssign f) := by
  have run : exec (.assign b) s = .next (s.heard.hostAssign f) := by
    rw [← State.hostFrame_assign hv hf ht]
    rfl
  simp [Completes, run]

/-- Without VHOST the island is as new. -/
theorem State.vhostDown_isl (s : State) : s.vhostDown.isl = {} := rfl

/-- Settles O52: the address follows HADDR as ASSIGN leaves it, and a refused ASSIGN answers from the island as it stood. -/
theorem hostAddress : Obligations.HostAddress := by
  intro s
  refine ⟨State.hostAddr_of_none, fun hon hdev => ?_, fun _ => State.hostAddr_of_some, ?_, s.vhostDown, rfl, ?_⟩
  · rw [State.island_of_devUp hon hdev, Island.copy_zaddr]
  · intro b f hv hf ha ht hlen hid
    simp only [completes_assign_iff hv hf ht]
    rw [← s.heard_unitBytes] at hid
    refine ⟨fun h hh hpos hlt => ?set, fun hzero => ?clear, fun hbad => ?refuse⟩
    case set =>
      subst hh
      have hset := State.hostAssign_isl_haddr ha hlen hid hlt
      rw [if_neg hpos.ne'] at hset
      exact ⟨hset, State.hostAddr_of_some hset⟩
    case clear =>
      have hlt : natLE (f.pay.drop 16) < 0xFFF := by omega
      have hnone := State.hostAssign_isl_haddr ha hlen hid hlt
      rw [if_pos hzero] at hnone
      refine ⟨hnone, ?_⟩
      rw [State.hostAddr_of_none hnone, State.hostAssign_island_zaddr ha hlen hid hlt, State.heard_island_zaddr]
    case refuse =>
      rw [State.hostAssign_refused ha hlen hid hbad.ge]
      refine ⟨by simp, ?_⟩
      rw [State.bwReply_isl_reply _ _ _ _ (by omega), ht]
      simp [stBAD_ARG]
  · have hnone : s.vhostDown.isl.haddr = none := by rw [s.vhostDown_isl]
    exact ⟨hnone, State.hostAddr_of_none hnone⟩

end Sys2Proof.Machine
end

section
/-! What every command keeps: the queue and the memory's canonical form, and, but for burns, upsets and cut burns, the OTP
cells. The claims about whole steps and runs follow. -/
namespace Sys2Proof.Machine

theorem completes_intro {c : Instr} {s t : State} {P : State → Prop} (run : exec c s = .next t) (h : P t) : Completes c s P :=
  ⟨t, run, h⟩

/-- From `s` to `t` the queue stays, and a canonical memory stays canonical. -/
def State.keepsForm (s t : State) : Prop := t.pending = s.pending ∧ (Memory.wf s.mem = true → Memory.wf t.mem = true)

/-- Besides, no OTP cell changes. -/
def State.keeps (s t : State) : Prop := s.keepsForm t ∧ t.life.otp = s.life.otp

theorem State.keeps_iff (s t : State) : s.keeps t ↔
    t.pending = s.pending ∧ (Memory.wf s.mem = true → Memory.wf t.mem = true) ∧ t.life.otp = s.life.otp := and_assoc

theorem State.keeps_refl (s : State) : s.keeps s := ⟨⟨rfl, id⟩, rfl⟩

theorem State.keeps_trans {s t u : State} (h : s.keeps t) (k : t.keeps u) : s.keeps u :=
  ⟨⟨k.1.1.trans h.1.1, k.1.2 ∘ h.1.2⟩, k.2.trans h.2⟩

theorem keeps_foldl {α : Type} (f : State → α → State) (h : ∀ (t : State) x, t.keeps (f t x)) (l : List α) (s : State) :
    s.keeps (l.foldl f s) := by
  induction l generalizing s with
  | nil => exact s.keeps_refl
  | cons x l ih => exact State.keeps_trans (h s x) (ih _)

theorem State.keepsForm_mk {s t : State} (hp : t.pending = s.pending) (hm : t.mem = s.mem) : s.keepsForm t :=
  ⟨hp, fun h => hm ▸ h⟩

/-! ## The frames around an operation -/

theorem State.keeps_looped (s : State) (p : Nat) (o : ZOut) (f : State → State) (h : ∀ t : State, t.keeps (f t)) :
    s.keeps (s.looped p o f) := by
  unfold State.looped
  split
  · exact s.keeps_refl
  · exact h s

theorem State.keeps_zmsg (s : State) (p : Nat) (m : ZMsg) (f : State → State) (h : ∀ t : State, t.keeps (f t)) :
    s.keeps (s.zmsg p m f) := by
  unfold State.zmsg
  split
  · exact h s
  · split <;> simp [State.keeps_iff]

/-- A message: looped back, or taken by its type. -/
theorem State.keeps_message (s : State) (p : Nat) (o : ZOut) (m : ZMsg) (f : State → State) (h : ∀ t : State, t.keeps (f t)) :
    s.keeps (s.looped p o (fun u => u.zmsg p m f)) :=
  s.keeps_looped p o _ fun u => u.keeps_zmsg p m f h

theorem State.keeps_portOp (s : State) (k op : Nat) (f : Port → State → PortRes × State) (h : ∀ p (t : State), t.keeps (f p t).2) :
    s.keeps (s.portOp k op f) := by
  unfold State.portOp
  dsimp only
  split
  · exact State.keeps_trans (h (s.port k) s) (by simp [State.keeps_iff])
  · exact s.keeps_refl

theorem State.keeps_request (s : State) (op : Nat) (f : Service → State → State) (h : ∀ v (t : State), t.keeps (f v t)) :
    s.keeps (s.request op f) := by
  unfold State.request
  split
  · split
    · exact h _ s
    · exact s.keeps_refl
  · exact s.keeps_refl

theorem State.keeps_headOnly (s : State) (v : Service) (f : Service → State → State) (h : ∀ v (t : State), t.keeps (f v t)) :
    s.keeps (State.headOnly f v s) := by
  unfold State.headOnly
  split
  · exact h _ s
  · simp [State.keeps_iff]

theorem State.keeps_targetCommit (s : State) : s.keeps s.targetCommit := by
  dsimp only [State.targetCommit]
  split
  · exact s.keeps_refl
  · refine State.keeps_trans ?_ (keeps_foldl _ (fun t (a : Accepted) => by simp +contextual [State.keeps_iff]) _ _)
    split <;> simp [State.keeps_iff]

theorem State.keeps_superMsg (s : State) (p : Nat) (m : ZMsg) :
    s.keeps (s.looped p (.msg tSuper m) (fun t => if m.crcOk then t.superIn p m else (t.zmsg p m id).loseSuper p)) := by
  refine s.keeps_looped p _ _ fun t => ?_
  split
  · simp [State.keeps_iff]
  · exact State.keeps_trans (t.keeps_zmsg p m id State.keeps_refl) (by unfold State.loseSuper; split <;> simp [State.keeps_iff])

/-! ## Commands -/

/-- Commands that burn no bit and flip none. -/
def Instr.sparesOtp (c : Instr) : Prop := c ≠ .otpBurnDone ∧ c ≠ .vauxFall ∧ ∀ u, c ≠ .upset u

theorem exec_keeps (c : Instr) (s : State) (hc : Instr.sparesOtp c) : Completes c s s.keeps := by
  obtain ⟨hburn, hfall, hupset⟩ := hc
  cases c
  case otpBurnDone => exact absurd rfl hburn
  case vauxFall => exact absurd rfl hfall
  case upset u => exact absurd rfl (hupset u)
  case targetTickCommit => exact ⟨_, rfl, s.keeps_targetCommit⟩
  case superMsg p m => exact ⟨_, rfl, s.keeps_superMsg p m⟩
  case fmpNop | fmpRead | fmpWrite | push | pop | lookup | histAdd | readout =>
    exact ⟨_, rfl, s.keeps_portOp _ _ _ fun p t => by simp +contextual [State.keeps_iff]⟩
  case enumMsg | enumRpt | cald | mbreq | mbrsp | bcast | loadRpt =>
    exact ⟨_, rfl, s.keeps_message _ _ _ _ fun t => by simp +contextual [State.keeps_iff]⟩
  case faultMsg =>
    exact ⟨_, rfl, s.keeps_message _ _ _ _ fun t => by split <;> simp [State.keeps_iff]⟩
  case cal => exact ⟨_, rfl, s.keeps_looped _ _ _ fun t => by unfold State.calIn; split <;> simp [State.keeps_iff]⟩
  case sof | echo | idle | sleep | wake | exchangeMessage | image =>
    exact ⟨_, rfl, s.keeps_looped _ _ _ fun t => by simp +contextual [State.keeps_iff]⟩
  case keep =>
    exact ⟨_, rfl, s.keeps_looped _ _ _ fun t => by split <;> simp [State.keeps_iff]⟩
  case chainGen | rosterRead | faultRead | bcastStart | bcastStatus | bcastAbort | forward | fetch | remoteEvents =>
    exact ⟨_, rfl, s.keeps_request _ _ fun v t => t.keeps_headOnly v _ fun v t => by simp +contextual [State.keeps_iff]⟩
  case identify | status | loadStart | loadData | loadAbort | loadReport | loadGroup | seqStatus | seqComplete | schedStage |
      schedCommit | schedDiscard | regionRelease | regionStatus | qdescSet | lutSwap | queueCmd | qwordRead | qwordWrite |
      csrRead | csrWrite | routerSet | tickP | tickCtrl | framePreset | swapWave | powerMode | clockSet | tempLimits |
      chainRole | chainCal | lcRead | lcTransition | secBurn | rollbackSet | customerKey | imageKey | debugChallenge |
      debugResponse | loanRequest | loanRelease | probeSet | probeArm | loanList | storeOpen | storeData | storeSeal |
      storeInfo | bootRecordSet | bootRecordGet | logRead | logClear | fwOpen | fwData | fwSeal | fwActivate =>
    exact ⟨_, rfl, s.keeps_request _ _ fun v t => by simp +contextual [State.keeps_iff]⟩
  all_goals exact ⟨_, rfl, by simp +contextual [State.keeps_iff]⟩

/-- Every command keeps the queue and the memory's form. -/
theorem exec_keepsForm (c : Instr) (s : State) : Completes c s s.keepsForm := by
  by_cases hc : Instr.sparesOtp c
  · obtain ⟨t, run, form, -⟩ := exec_keeps c s hc
    exact ⟨t, run, form⟩
  · cases c
    case otpBurnDone => exact ⟨_, rfl, State.keepsForm_mk (by simp) (by simp)⟩
    case vauxFall => exact ⟨_, rfl, by simp, fun h => by simp [h]⟩
    case upset u => exact ⟨_, rfl, by simp, fun h => by simp [h]⟩
    all_goals exact absurd ⟨nofun, nofun, fun _ => nofun⟩ hc

/-- Settles O2: the queue's part of what every command keeps. -/
theorem commandsLeaveQueue : Obligations.CommandsLeaveQueue := by
  intro c s
  obtain ⟨t, run, hq, -⟩ := exec_keepsForm c s
  exact ⟨t, run, hq⟩

/-! ## Steps and runs -/

theorem step_nil {s : State} (h : s.pending = []) : step s = .next s := by simp [step, h]

theorem step_cons {s : State} {c : Instr} {rest : List Instr} (h : s.pending = c :: rest) :
    step s = exec c { s with pending := rest } := by simp [step, h]

/-- Settles O1. -/
theorem stepRunsFront : Obligations.StepRunsFront := ⟨fun _ _ _ => step_cons, fun _ => step_nil⟩

theorem step_sound (s : State) (hs : s.sound) : Safe s := by
  match h : s.pending with
  | [] => exact ⟨s, step_nil h, hs⟩
  | c :: rest =>
    obtain ⟨t, run, -, form⟩ := exec_keepsForm c { s with pending := rest }
    exact ⟨t, (step_cons h).trans run, form hs⟩

/-- Settles O3. -/
theorem stepKeepsMemoryForm : Obligations.StepKeepsMemoryForm := by
  intro s t hs ht
  obtain ⟨u, hu, hsound⟩ := step_sound s hs
  rw [hu] at ht
  cases ht
  exact hsound

/-- A run of one step more: the step, then the rest. -/
theorem run_succ (M : Host.Core) {s t : M.State} (h : M.step s = .next t) (n : Nat) : M.run (n + 1) s = M.run n t := by
  simp only [Host.Core.run, h]

/-- Settles O4, by induction on the number of steps. -/
theorem runsStaySound : Obligations.RunsStaySound := by
  intro n
  induction n with
  | zero => exact fun s hs => ⟨s, rfl, hs⟩
  | succ n ih =>
    intro s hs
    obtain ⟨t, ht, hsound⟩ := step_sound s hs
    obtain ⟨u, hu, hu'⟩ := ih t hsound
    exact ⟨u, (run_succ Sys2Proof.core ht n).trans hu, hu'⟩

end Sys2Proof.Machine
end

section
/-! Burns and the state after reset (spec/14 R417, R428; spec/00). -/
namespace Sys2Proof.Machine

theorem State.otpCopy_lt (s : State) (g c : Nat) : s.otpCopy g c < 2 ^ 512 := (mget otpReset s.life.otp (3 * g + c)).isLt

theorem State.otpCopy_congr {s t : State} (h : t.life.otp = s.life.otp) (g c : Nat) : t.otpCopy g c = s.otpCopy g c := by
  simp [State.otpCopy, h]

/-- A burn of a copy sets the bits given there. -/
theorem State.otpCopy_burnCopy_same (s : State) (g c : Nat) {v : Nat} (hv : v < 2 ^ 512) :
    (s.burnCopy g c v).otpCopy g c = s.otpCopy g c ||| v := by
  rw [State.otpCopy, State.burnCopy, mget_mput_same, BitVec.toNat_ofNat,
    Nat.mod_eq_of_lt (Nat.or_lt_two_pow (s.otpCopy_lt g c) hv)]

theorem State.otpCopy_burnCopy_ne (s : State) (g c v : Nat) {k d : Nat} (h : 3 * k + d ≠ 3 * g + c) :
    (s.burnCopy g c v).otpCopy k d = s.otpCopy k d := by
  rw [State.otpCopy, State.burnCopy, mget_mput_ne _ _ _ _ _ h]
  rfl

/-- The three copies of group `g` with the bits of `v` burnt. -/
def State.burnThrice (s : State) (g v : Nat) : State := ((s.burnCopy g 0 v).burnCopy g 1 v).burnCopy g 2 v

theorem State.otpCopy_burnThrice_same (s : State) (g : Nat) (v : BitVec 512) {c : Nat} (hc : c < 3) :
    (s.burnThrice g v.toNat).otpCopy g c = s.otpCopy g c ||| v.toNat := by
  have hv : v.toNat < 2 ^ 512 := v.isLt
  unfold State.burnThrice
  obtain rfl | rfl | rfl : c = 0 ∨ c = 1 ∨ c = 2 := by omega
  · rw [otpCopy_burnCopy_ne _ _ _ _ (by omega), otpCopy_burnCopy_ne _ _ _ _ (by omega), otpCopy_burnCopy_same _ _ _ hv]
  · rw [otpCopy_burnCopy_ne _ _ _ _ (by omega), otpCopy_burnCopy_same _ _ _ hv, otpCopy_burnCopy_ne _ _ _ _ (by omega)]
  · rw [otpCopy_burnCopy_same _ _ _ hv, otpCopy_burnCopy_ne _ _ _ _ (by omega), otpCopy_burnCopy_ne _ _ _ _ (by omega)]

theorem State.otpCopy_burnThrice_ne (s : State) {g k c : Nat} (v : Nat) (hc : c < 3) (h : k ≠ g) :
    (s.burnThrice g v).otpCopy k c = s.otpCopy k c := by
  unfold State.burnThrice
  rw [otpCopy_burnCopy_ne _ _ _ _ (by omega), otpCopy_burnCopy_ne _ _ _ _ (by omega), otpCopy_burnCopy_ne _ _ _ _ (by omega)]

/-- OTP_BURN_DONE burns the three copies of the group at the head, and nothing else of the OTP. -/
theorem State.burnDone_otpCopy {s : State} {g : Nat} {v : BitVec 512} {rest : List (Nat × BitVec 512)}
    (hb : s.life.burns = (g, v) :: rest) (hon : s.life.burning = true) (k c : Nat) :
    s.burnDone.otpCopy k c = (s.burnThrice g v.toNat).otpCopy k c := by
  refine State.otpCopy_congr ?_ k c
  simp [State.burnDone, hb, hon, State.burnThrice, State.setLife]

/-- Where no burn runs, OTP_BURN_DONE does nothing. -/
theorem State.burnDone_idle {s : State} (h : s.life.burns = [] ∨ s.life.burning = false) : s.burnDone = s := by
  unfold State.burnDone
  split
  · next h' => simp_all
  · rfl

/-- A bit that stands before OTP_BURN_DONE stands after it. -/
theorem State.testBit_burnDone (s : State) {g c i : Nat} (hc : c < 3) (h : (s.otpCopy g c).testBit i = true) :
    (s.burnDone.otpCopy g c).testBit i = true := by
  match hb : s.life.burns, hon : s.life.burning with
  | [], _ => rwa [State.burnDone_idle (.inl hb)]
  | _, false => rwa [State.burnDone_idle (.inr hon)]
  | (k, v) :: rest, true =>
    rw [State.burnDone_otpCopy hb hon]
    by_cases hk : g = k
    · subst hk
      rw [s.otpCopy_burnThrice_same g v hc, Nat.testBit_or, h, Bool.true_or]
    · rwa [s.otpCopy_burnThrice_ne _ hc hk]

/-- Settles O6: the OTP's part of what every command keeps, and the burn of three copies. -/
theorem burnsOnlySetBits : Obligations.BurnsOnlySetBits := by
  refine ⟨fun c s hb hf hu => ?_, fun s => completes_intro (t := s.burnDone) rfl ⟨?_, ?_, ?_⟩⟩
  · obtain ⟨t, run, -, hotp⟩ := exec_keeps c s ⟨hb, hf, hu⟩
    exact ⟨t, run, hotp⟩
  · exact fun g c i _ hc h => s.testBit_burnDone hc h
  · intro g v rest hb hon c hc
    rw [State.burnDone_otpCopy hb hon, s.otpCopy_burnThrice_same g v hc]
  · simp

set_option exponentiation.threshold 600 in
/-- LC_STATE and LC_INTENT are delivered with the code of OPEN. -/
theorem reset_otp {g : Nat} (h : g = gState ∨ g = gIntent) : State.reset.otp g = 15 := by
  have each (c : Nat) (hc : c < 3) : State.reset.otpCopy g c = 15 := by
    rw [State.otpCopy, State.reset, mget_nil, otpReset]
    rcases h with rfl | rfl
    · rw [show (3 * gState + c) / 3 = 0 by rw [gState]; omega]; rfl
    · rw [show (3 * gIntent + c) / 3 = 1 by rw [gIntent]; omega]; rfl
  rw [State.otp, each 0 (by omega), each 1 (by omega), each 2 (by omega)]
  rfl

theorem reset_lc : State.reset.lc = 4 := by
  have top : topBit 15 = 4 := by decide
  rw [State.lc, State.lcBurnt, State.lcIntent, reset_otp (.inl rfl), reset_otp (.inr rfl), top]
  rfl

/-- Settles O5: every part stands at its default, every register at its table's value. -/
theorem resetState : Obligations.ResetState :=
  ⟨by unfold State.sound; rfl, rfl, fun _ => rfl, fun _ => rfl, fun _ => rfl, fun _ => rfl, by decide, by decide, by decide, by decide,
    by decide, by decide, by decide, rfl, rfl, reset_lc⟩

end Sys2Proof.Machine
end

section
/-! Fields of registers: what a field reads after a write of the same field, of another one, and of another register. -/
namespace Sys2Proof.Machine

/-! ## Bits of numbers -/

theorem testBit_bits (x lo w i : Nat) : (bits x lo w).testBit i = (decide (i < w) && x.testBit (lo + i)) := by
  rw [bits, Nat.testBit_mod_two_pow, Nat.testBit_shiftRight]

theorem testBit_setBits (x lo w v i : Nat) : (setBits x lo w v).testBit i =
    if i < lo then x.testBit i else if i < lo + w then v.testBit (i - lo) else x.testBit i := by
  have low : x % 2 ^ lo < 2 ^ lo := Nat.mod_lt _ (Nat.two_pow_pos lo)
  have mid : v % 2 ^ w < 2 ^ w := Nat.mod_lt _ (Nat.two_pow_pos w)
  have shape : setBits x lo w v = 2 ^ lo * (2 ^ w * (x >>> (lo + w)) + v % 2 ^ w) + x % 2 ^ lo := by
    rw [setBits, Nat.shiftLeft_eq, Nat.shiftLeft_eq, Nat.pow_add]
    ring
  rw [shape, Nat.testBit_two_pow_mul_add _ low, Nat.testBit_two_pow_mul_add _ mid, Nat.testBit_mod_two_pow,
    Nat.testBit_mod_two_pow, Nat.testBit_shiftRight]
  split
  · next h => simp [h]
  · next h =>
    by_cases hw : i < lo + w
    · rw [if_pos (by omega), if_pos hw, decide_eq_true (by omega), Bool.true_and]
    · rw [if_neg (by omega), if_neg hw, show lo + w + (i - lo - w) = i by omega]

theorem bits_lt (x lo w : Nat) : bits x lo w < 2 ^ w := Nat.mod_lt _ (Nat.two_pow_pos w)

@[simp] theorem bits_setBits_same (x lo w v : Nat) : bits (setBits x lo w v) lo w = v % 2 ^ w := by
  refine Nat.eq_of_testBit_eq fun i => ?_
  rw [testBit_bits, testBit_setBits, Nat.testBit_mod_two_pow]
  by_cases h : i < w
  · simp [h]
  · simp [h]

theorem bits_setBits_ne (x lo w v : Nat) {lo' w' : Nat} (h : lo' + w' ≤ lo ∨ lo + w ≤ lo') :
    bits (setBits x lo w v) lo' w' = bits x lo' w' := by
  refine Nat.eq_of_testBit_eq fun i => ?_
  rw [testBit_bits, testBit_bits, testBit_setBits]
  by_cases hi : i < w'
  · rcases h with h | h
    · rw [if_pos (by omega)]
    · rw [if_neg (by omega), if_neg (by omega)]
  · simp [hi]

/-- A field of 32 bits at most reads the same from the number cut to them. -/
theorem bits_mod_word (x : Nat) {lo w : Nat} (h : lo + w ≤ 32) : bits (x % 2 ^ 32) lo w = bits x lo w := by
  refine Nat.eq_of_testBit_eq fun i => ?_
  rw [testBit_bits, testBit_bits, Nat.testBit_mod_two_pow]
  by_cases hi : i < w
  · rw [decide_eq_true (show lo + i < 32 by omega), Bool.true_and]
  · simp [hi]

theorem bits_zero_32 {x : Nat} (h : x < 2 ^ 32) : bits x 0 32 = x := by
  rw [bits, Nat.shiftRight_zero, Nat.mod_eq_of_lt h]

theorem setBits_zero_32 {x : Nat} (h : x < 2 ^ 32) (v : Nat) : setBits x 0 32 v = v % 2 ^ 32 := by
  rw [setBits, Nat.zero_add, Nat.shiftRight_eq_div_pow, Nat.div_eq_of_lt h]
  simp [Nat.mod_one]

/-! ## Fields of one register -/

theorem State.fld_lt (s : State) (a lo w : Nat) : s.fld a lo w < 2 ^ w := bits_lt _ _ _

theorem State.reg_setFld_same (s : State) (a lo w v : Nat) : (s.setFld a lo w v).reg a = setBits (s.reg a) lo w v % 2 ^ 32 := by
  rw [State.setFld, State.reg_setReg_same]

theorem State.fld_setFld_same (s : State) (a : Nat) {lo w : Nat} (v : Nat) (h : lo + w ≤ 32) :
    (s.setFld a lo w v).fld a lo w = v % 2 ^ w := by
  rw [State.fld, State.reg_setFld_same, bits_mod_word _ h, bits_setBits_same]

theorem State.fld_setFld_other (s : State) (a lo w v : Nat) {lo' w' : Nat} (h32 : lo' + w' ≤ 32)
    (h : lo' + w' ≤ lo ∨ lo + w ≤ lo') : (s.setFld a lo w v).fld a lo' w' = s.fld a lo' w' := by
  rw [State.fld, State.reg_setFld_same, bits_mod_word _ h32, bits_setBits_ne _ _ _ _ h, ← State.fld]

theorem State.fld_congr {s t : State} {a : Nat} (h : t.reg a = s.reg a) (lo w : Nat) : t.fld a lo w = s.fld a lo w := by
  rw [State.fld, State.fld, h]

theorem State.bit_congr {s t : State} {a : Nat} (h : t.reg a = s.reg a) (i : Nat) : t.bit a i = s.bit a i := by
  rw [State.bit, State.bit, State.fld_congr h]

theorem State.reg_congr {s t : State} (h : t.csr = s.csr) (a : Nat) : t.reg a = s.reg a := by
  rw [State.reg, State.reg, h]

theorem State.fld_setFld_ne (s : State) {a b : Nat} (lo w v lo' w' : Nat) (h : b ≠ a) :
    (s.setFld a lo w v).fld b lo' w' = s.fld b lo' w' := State.fld_congr (s.reg_setFld_ne _ _ _ _ _ h) _ _

theorem State.bit_setBit_same (s : State) (a : Nat) {i : Nat} (b : Bool) (h : i < 32) : (s.setBit a i b).bit a i = b := by
  rw [State.bit, State.setBit, State.fld_setFld_same _ _ _ (by omega)]
  cases b <;> rfl

theorem State.fld_setBit_other (s : State) (a i : Nat) (b : Bool) {lo w : Nat} (h32 : lo + w ≤ 32) (h : lo + w ≤ i ∨ i + 1 ≤ lo) :
    (s.setBit a i b).fld a lo w = s.fld a lo w := by
  rw [State.setBit, State.fld_setFld_other _ _ _ _ _ h32 h]

theorem State.bit_setBit_other (s : State) (a i : Nat) (b : Bool) {j : Nat} (h32 : j < 32) (h : j ≠ i) :
    (s.setBit a i b).bit a j = s.bit a j := by
  rw [State.bit, State.bit, State.fld_setBit_other _ _ _ _ (by omega) (by omega)]

theorem State.bit_setFld_other (s : State) (a lo w v : Nat) {j : Nat} (h32 : j < 32) (h : j < lo ∨ lo + w ≤ j) :
    (s.setFld a lo w v).bit a j = s.bit a j := by
  rw [State.bit, State.bit, State.fld_setFld_other _ _ _ _ _ (by omega) (by omega)]

theorem State.fld_setBit_ne (s : State) {a c : Nat} (i : Nat) (b : Bool) (lo w : Nat) (h : c ≠ a) :
    (s.setBit a i b).fld c lo w = s.fld c lo w := State.fld_congr (s.reg_setBit_ne _ _ _ _ h) _ _

theorem State.bit_setBit_ne (s : State) {a c : Nat} (i : Nat) (b : Bool) (j : Nat) (h : c ≠ a) :
    (s.setBit a i b).bit c j = s.bit c j := State.bit_congr (s.reg_setBit_ne _ _ _ _ h) _

theorem State.bit_setFld_ne (s : State) {a c : Nat} (lo w v j : Nat) (h : c ≠ a) :
    (s.setFld a lo w v).bit c j = s.bit c j := State.bit_congr (s.reg_setFld_ne _ _ _ _ _ h) _

/-- A 32-bit counter counts and saturates. -/
theorem State.reg_inc_same (s : State) (a : Nat) : (s.inc a).reg a = min (s.reg a + 1) (2 ^ 32 - 1) := by
  have cut : min (s.reg a + 1) (2 ^ 32 - 1) < 2 ^ 32 := by omega
  rw [State.inc, State.count, State.reg_setFld_same, setBits_zero_32 (s.reg_lt a), State.fld, bits_zero_32 (s.reg_lt a), satAdd,
    Nat.mod_mod, Nat.mod_eq_of_lt cut]

/-- Writing a field changes nothing but its register. -/
theorem State.setFld_only (s : State) (a lo w v : Nat) : { s.setFld a lo w v with csr := s.csr } = s := rfl
theorem State.setBit_only (s : State) (a i : Nat) (b : Bool) : { s.setBit a i b with csr := s.csr } = s := rfl
theorem State.inc_only (s : State) (a : Nat) : { s.inc a with csr := s.csr } = s := rfl

/-! ## What an operation leaves -/

/-- `f` takes the parts that may change from its first argument and the others from its second. Two operations that leave the
others leave them one after the other. -/
theorem only_trans {f : State → State → State} (law : ∀ s t u, f s (f t u) = f s u) {s t u : State} (h : f s t = s)
    (k : f t u = t) : f s u = s := by rw [← law s t u, k, h]

/-- What leaves more parts alone leaves fewer alone. -/
theorem only_weaken {f g : State → State → State} (law : ∀ s t, g s (f s t) = g s t) (refl : ∀ s, g s s = s) {s t : State}
    (h : f s t = s) : g s t = s := by rw [← law, h, refl]

theorem State.latch_only (s : State) (code src data : Nat) : { s.latch code src data with hl := s.hl } = s := rfl
theorem State.announce_only (s : State) (code data : Nat) : { s.announce code data with hl := s.hl } = s := rfl
theorem State.faultHw_only (s : State) (detail src data : Nat) : { s.faultHw detail src data with hl := s.hl } = s := rfl
theorem State.setChain_only (s : State) (c : Chain) : { s.setChain c with chain := s.chain } = s := rfl

/-! ## Addresses -/

@[simp] theorem CK_inj {a b : Nat} : CK a = CK b ↔ a = b := by simp [CK]
@[simp] theorem PB_inj {a b : Nat} : PB a = PB b ↔ a = b := by simp [PB]
@[simp] theorem ZV_same {p a b : Nat} : ZV p a = ZV p b ↔ a = b := by simp [ZV]
@[simp] theorem LN_same {n a b : Nat} : LN n a = LN n b ↔ a = b := by simp [LN]
@[simp] theorem NR_same {n a b : Nat} : NR n a = NR n b ↔ a = b := by simp [NR]
@[simp] theorem QC_same {q a b : Nat} : QC q a = QC q b ↔ a = b := by simp [QC]
@[simp] theorem RG_same {r a b : Nat} : RG r a = RG r b ↔ a = b := by simp [RG]
@[simp] theorem MB_same {m a b : Nat} : MB m a = MB m b ↔ a = b := by simp [MB]

end Sys2Proof.Machine
end

section
/-! Commands and source events of the tick generator (spec/02 R41 to R45, R50, R58, R61). -/
namespace Sys2Proof.Machine

/-! ## Lock, acquisition, holdover -/

@[simp] theorem State.acquire_locked (s : State) : s.acquire.locked = false := s.bit_setBit_same (CK 0x80C) false (by omega)
@[simp] theorem State.lock_locked (s : State) : s.lock.locked = true :=
  ((s.setBit (CK 0x80C) 0 true).bit_setBit_other (CK 0x80C) 1 false (by omega) (by omega)).trans
    (s.bit_setBit_same (CK 0x80C) true (by omega))

theorem State.reg_acquire_ne (s : State) {a : Nat} (h : a ≠ CK 0x80C) : s.acquire.reg a = s.reg a := s.reg_setBit_ne _ _ _ _ h

theorem State.reg_lock_ne (s : State) {a : Nat} (h : a ≠ CK 0x80C) : s.lock.reg a = s.reg a :=
  (State.reg_setBit_ne _ _ _ _ _ h).trans (s.reg_setBit_ne _ _ _ _ h)

/-- LOCKED and HOLDOVER apart, locking leaves the status register. -/
theorem State.fld_lock_status (s : State) {lo w : Nat} (h32 : lo + w ≤ 32) (h : 2 ≤ lo) :
    s.lock.fld (CK 0x80C) lo w = s.fld (CK 0x80C) lo w :=
  ((s.setBit (CK 0x80C) 0 true).fld_setBit_other _ _ _ h32 (by omega)).trans (s.fld_setBit_other _ _ _ h32 (by omega))

theorem State.reg_enterHoldover_ne (s : State) {a : Nat} (h : a ≠ CK 0x80C) : s.enterHoldover.reg a = s.reg a :=
  (State.reg_setBit_ne _ _ _ _ _ h).trans ((State.reg_setBit_ne _ _ _ _ _ h).trans (s.reg_setBit_ne _ _ _ _ h))

theorem State.bit_enterHoldover (s : State) : s.enterHoldover.locked = false ∧ s.enterHoldover.bit (CK 0x80C) 1 = true ∧
    s.enterHoldover.bit (CK 0x80C) 9 = true := by
  refine ⟨?_, ?_, State.bit_setBit_same _ _ _ (by omega)⟩
  · exact (State.bit_setBit_other _ _ _ _ (by omega) (by omega)).trans
      ((State.bit_setBit_other _ _ _ _ (by omega) (by omega)).trans (State.bit_setBit_same _ _ _ (by omega)))
  · exact (State.bit_setBit_other _ _ _ _ (by omega) (by omega)).trans (State.bit_setBit_same _ _ _ (by omega))

theorem State.enterHoldover_only (s : State) : { s.enterHoldover with csr := s.csr, tick := s.tick } = s := rfl

/-- An unlocked generator loses no source. -/
theorem State.lossDue_unlocked {s : State} (h : s.locked = false) : s.lossDue = false := by
  simp [State.lossDue, State.awaitsEvents, h]

/-- Once due, the loss of the source enters holdover and reports itself (R45, R330). -/
theorem State.sourceLoss_due {s : State} (h : s.lossDue = true) :
    s.sourceLoss = (s.enterHoldover.faultHw 0x0102 0 0).waitReport (s.report s.zaddr 4 0x0102) := by
  have addr : (s.enterHoldover.faultHw 0x0102 0 0).zaddr = s.zaddr :=
    State.fld_congr (s.reg_enterHoldover_ne (by simp [CK, ZV])) 0 12
  simp only [State.sourceLoss, h, Bool.not_true, Bool.false_eq_true, if_false, State.report, addr]
  rfl

/-- Settles O29. -/
theorem tickCommands : Obligations.TickCommands := by
  intro s
  refine ⟨fun h => ⟨_, rfl, by rw [State.tickPreset, if_neg h]⟩, fun h => ⟨_, rfl, by rw [State.tickPreset, if_pos h]⟩,
    ⟨s.acquire, rfl, ?_⟩, fun h => ⟨_, rfl, ?_⟩, fun h => ⟨_, rfl, by rw [State.alignDone, if_neg h]⟩,
    ⟨s.clearSlips, rfl, ?_⟩, fun h => ⟨_, rfl, ?_⟩, fun h => ⟨_, rfl, by simp [State.sourceLoss, h]⟩⟩
  · exact ⟨⟨fun a h => s.reg_acquire_ne h, rfl, rfl, rfl, rfl⟩, s.acquire_locked, rfl, rfl,
      s.fld_setBit_other _ _ _ (by omega) (by omega)⟩
  · rw [State.alignDone, if_pos h]
    exact ⟨⟨fun a ha => s.reg_setBit_ne _ _ _ _ ha, rfl, rfl, rfl, rfl⟩, s.bit_setBit_same _ _ (by omega), rfl,
      s.fld_setBit_other _ _ _ (by omega) (by omega), s.fld_setBit_other _ _ _ (by omega) (by omega)⟩
  · exact ⟨⟨fun a h => s.reg_setFld_ne _ _ _ _ _ h, rfl, rfl, rfl, rfl⟩, s.fld_setFld_same _ _ (by omega),
      s.fld_setFld_other _ _ _ _ (by omega) (by omega), rfl⟩
  · rw [State.sourceLoss_due h]
    obtain ⟨unlocked, holdover, lost⟩ := s.bit_enterHoldover
    have unlocked' : ((s.enterHoldover.faultHw 0x0102 0 0).waitReport (s.report s.zaddr 4 0x0102)).locked = false :=
      (State.bit_congr (State.reg_congr rfl _) 0).trans unlocked
    refine ⟨unlocked', holdover, lost, rfl, State.lossDue_unlocked unlocked', fun a ha => s.reg_enterHoldover_ne ha, rfl, ?_⟩
    exact s.enterHoldover_only

/-! ## Source events -/

/-- The event shown in CK_TICK_PHASE, counted as a slip where it has a phase error, and noted for the frame. -/
def State.showEvent (s : State) (c : Nat) : State :=
  let d := s.phase c
  let t := s.setReg (CK 0x82C) (d % 4096 + c % 4096 * 2 ^ 16)
  let t := if d = 0 then t else t.count (CK 0x80C) 16 16 1
  { t with tick := { t.tick with evt := true, quiet := 0 } }

/-- What the generator makes of an event with phase error `d` (R42, R43). -/
def State.followEvent (s : State) (d : Nat) : State :=
  if s.tick.ext ≠ 0 then s
  else if s.locked then
    if d = 0 then { s with tick := { s.tick with slips := 0 } }
    else if s.tick.slips + 1 < s.slipLimit then { s with tick := { s.tick with slips := s.tick.slips + 1 } }
    else { s with tick := { s.tick with slips := 0, ext := d } }
  else if d = 0 then s.lock
  else { s with tick := { s.tick with ext := d } }

theorem State.sourceEvent_awake {s : State} (h : s.mode = 0) (c : Nat) :
    s.sourceEvent c = (s.showEvent c).followEvent (s.phase c) := by
  rw [State.sourceEvent, if_neg (by simp [h])]
  rfl

theorem State.reg_showEvent_ne (s : State) (c : Nat) {a : Nat} (h : a ≠ CK 0x82C) (h' : a ≠ CK 0x80C) :
    (s.showEvent c).reg a = s.reg a := by
  dsimp only [State.showEvent]
  split
  · exact s.reg_setReg_ne _ _ _ h
  · exact (State.reg_setFld_ne _ _ _ _ _ _ h').trans (s.reg_setReg_ne _ _ _ h)

theorem State.reg_showEvent_phase (s : State) (c : Nat) :
    (s.showEvent c).reg (CK 0x82C) = s.phase c % 4096 + c % 4096 * 2 ^ 16 := by
  have fits : s.phase c % 4096 + c % 4096 * 2 ^ 16 < 2 ^ 32 := by omega
  dsimp only [State.showEvent]
  split
  · exact (s.reg_setReg_same _ _).trans (Nat.mod_eq_of_lt fits)
  · exact (State.reg_setFld_ne _ _ _ _ _ _ (by simp)).trans ((s.reg_setReg_same _ _).trans (Nat.mod_eq_of_lt fits))

/-- The slip count, one more where the event has a phase error, and the flags below it as they were. -/
theorem State.status_showEvent (s : State) (c : Nat) :
    (s.showEvent c).fld (CK 0x80C) 16 16 =
      (if s.phase c = 0 then s.fld (CK 0x80C) 16 16 else min (s.fld (CK 0x80C) 16 16 + 1) 65535) ∧
    (s.showEvent c).locked = s.locked := by
  have other : (s.setReg (CK 0x82C) (s.phase c % 4096 + c % 4096 * 2 ^ 16)).reg (CK 0x80C) = s.reg (CK 0x80C) :=
    s.reg_setReg_ne _ _ _ (by simp)
  dsimp only [State.showEvent]
  split
  · exact ⟨State.fld_congr other 16 16, State.bit_congr other 0⟩
  · refine ⟨(State.fld_setFld_same _ _ _ (by omega)).trans ?_, (State.bit_setFld_other _ _ _ _ _ (by omega) (by omega)).trans
      (State.bit_congr other 0)⟩
    rw [satAdd, State.fld_congr other]
    omega

theorem State.slipLimit_showEvent (s : State) (c : Nat) : (s.showEvent c).slipLimit = s.slipLimit :=
  State.fld_congr (s.reg_showEvent_ne c (by simp) (by simp)) 4 4

theorem State.showEvent_tick (s : State) (c : Nat) : (s.showEvent c).tick = { s.tick with evt := true, quiet := 0 } := by
  unfold State.showEvent
  by_cases h : s.phase c = 0 <;> simp only [h, if_true, if_false] <;> rfl

/-- What follows an event leaves every register but the lock's flags. -/
theorem State.reg_followEvent_ne (s : State) (d : Nat) {a : Nat} (h : a ≠ CK 0x80C) : (s.followEvent d).reg a = s.reg a := by
  unfold State.followEvent
  repeat' split
  all_goals first | rfl | exact s.reg_lock_ne h

theorem State.slips_followEvent (s : State) (d : Nat) : (s.followEvent d).fld (CK 0x80C) 16 16 = s.fld (CK 0x80C) 16 16 := by
  unfold State.followEvent
  repeat' split
  all_goals first | rfl | exact s.fld_lock_status (by omega) (by omega)

/-- What follows an event stays within the generator. -/
theorem State.followEvent_only (s : State) (d : Nat) : { s.followEvent d with csr := s.csr, tick := s.tick } = s := by
  unfold State.followEvent
  repeat' split
  all_goals rfl

theorem State.followEvent_tick (s : State) (d : Nat) : (s.followEvent d).tick.evt = s.tick.evt ∧
    (s.followEvent d).tick.quiet = s.tick.quiet ∧ (s.followEvent d).tick.frame = s.tick.frame ∧
    (s.followEvent d).tick.count = s.tick.count := by
  unfold State.followEvent
  repeat' split
  all_goals exact ⟨rfl, rfl, rfl, rfl⟩

theorem State.followEvent_realigning {s : State} (d : Nat) (h : s.tick.ext ≠ 0) : s.followEvent d = s := by
  simp [State.followEvent, h]

theorem State.followEvent_locked {s : State} {d : Nat} (h : s.tick.ext = 0) (hl : s.locked = true) : s.followEvent d =
    if d = 0 then { s with tick := { s.tick with slips := 0 } }
    else if s.tick.slips + 1 < s.slipLimit then { s with tick := { s.tick with slips := s.tick.slips + 1 } }
    else { s with tick := { s.tick with slips := 0, ext := d } } := by
  rw [State.followEvent, if_neg (by simp [h]), if_pos hl]

theorem State.followEvent_unlocked {s : State} {d : Nat} (h : s.tick.ext = 0) (hl : s.locked = false) : s.followEvent d =
    if d = 0 then s.lock else { s with tick := { s.tick with ext := d } } := by
  rw [State.followEvent, if_neg (by simp [h]), if_neg (by simp [hl])]

theorem State.showEvent_only (s : State) (c : Nat) : { s.showEvent c with csr := s.csr, tick := s.tick } = s := by
  dsimp only [State.showEvent]
  split <;> rfl

/-- A source event in RUN is seen as R42 to R45 say. -/
theorem State.sourceEvent_seen {s : State} (h : s.mode = 0) (c : Nat) : s.sourceSeen (s.sourceEvent c) c := by
  rw [State.sourceEvent_awake h]
  obtain ⟨slips, lock⟩ := s.status_showEvent c
  have ht := s.showEvent_tick c
  have hl := s.slipLimit_showEvent c
  have far : ∀ a, a ≠ CK 0x82C → a ≠ CK 0x80C → ((s.showEvent c).followEvent (s.phase c)).reg a = s.reg a :=
    fun a h h' => (State.reg_followEvent_ne _ _ h').trans (s.reg_showEvent_ne c h h')
  obtain ⟨evt, quiet, frame, count⟩ := (s.showEvent c).followEvent_tick (s.phase c)
  refine ⟨(State.reg_followEvent_ne _ _ (by simp)).trans (s.reg_showEvent_phase c), (State.slips_followEvent _ _).trans slips, far,
    evt.trans (by rw [ht]), quiet.trans (by rw [ht]), frame.trans (by rw [ht]), count.trans (by rw [ht]), ?_, ?_, ?_⟩
  · intro hext
    rw [State.followEvent_realigning _ (by rwa [ht])]
    exact ⟨by rw [ht], by rw [ht], lock⟩
  · intro hext hlock
    rw [State.followEvent_locked (d := s.phase c) (by rw [ht, hext]) (lock.trans hlock), ht, hl]
    have locked : (s.showEvent c).locked = true := lock.trans hlock
    refine ⟨?_, fun hd => ?_, fun hd hslip => ?_, fun hd hslip => ?_⟩
    · repeat' split
      all_goals exact locked
    · rw [if_pos (show s.phase c = 0 from hd)]
      exact ⟨rfl, hext⟩
    · rw [if_neg (show s.phase c ≠ 0 from hd), if_pos hslip]
      exact ⟨rfl, hext⟩
    · rw [if_neg (show s.phase c ≠ 0 from hd), if_neg (Nat.not_lt.2 hslip)]
      exact ⟨rfl, rfl⟩
  · intro hext hlock
    rw [State.followEvent_unlocked (d := s.phase c) (by rw [ht, hext]) (lock.trans hlock), ht]
    refine ⟨fun hd => ?_, fun hd => ?_⟩
    · rw [if_pos (show s.phase c = 0 from hd)]
      exact ⟨State.lock_locked _, rfl, (congrArg Tick.ext ht).trans hext⟩
    · rw [if_neg (show s.phase c ≠ 0 from hd)]
      exact ⟨lock.trans hlock, rfl⟩

theorem State.sourceEvent_only (s : State) (c : Nat) : { s.sourceEvent c with csr := s.csr, tick := s.tick } = s := by
  by_cases h : s.mode = 0
  · rw [State.sourceEvent_awake h]
    exact only_trans (f := fun s t => { t with csr := s.csr, tick := s.tick }) (fun _ _ _ => rfl) (s.showEvent_only c)
      (State.followEvent_only _ _)
  · simp [State.sourceEvent, h]

/-- Settles O30. -/
theorem sourceEvents : Obligations.SourceEvents := by
  intro s c
  refine ⟨fun h => ⟨_, rfl, ?_⟩, fun hsrc hmode hscan => ⟨_, rfl, ?_⟩⟩
  · split
    · rfl
    · next hn =>
      have asleep : s.mode ≠ 0 := by
        rcases h with h | h | ⟨h, h'⟩
        · simp [h] at hn
        · exact h
        · simp [h, h'] at hn
      simp [State.sourceEvent, asleep]
  · rw [if_neg (by simpa [hsrc] using hscan)]
    exact ⟨State.sourceEvent_seen hmode c, s.sourceEvent_only c⟩

end Sys2Proof.Machine
end

section
/-! Answers to requests, whatever the request (spec/11 R345, R346, R350; spec/12): what an answer after a change of the state
leaves, and the requests that read or take a change for a target tick. -/
namespace Sys2Proof.Machine

theorem completes_request {c : Instr} {s : State} {op : Nat} {f : Service → State → State} {v : Service} {P : State → Prop}
    (run : exec c s = .next (s.request op f)) (hs : s.serves v op) (h : P (f v s)) : Completes c s P :=
  ⟨_, run, by rwa [s.request_serves op f v hs]⟩

/-! ## Answers after a change -/

theorem State.mbox_congr {s t : State} (h : t.mb = s.mb) (m : Nat) : t.mbox m = s.mbox m := by rw [State.mbox, State.mbox, h]

/-- Whose answer it is depends on the mailboxes alone. -/
theorem State.answered_of_mb {s u t : State} {v : Service} {st : Nat} {b : List Byte} (h : ∀ m, (u.mbox m).rsp = (s.mbox m).rsp ∧
    (u.mbox m).from_ = (s.mbox m).from_) (ha : u.answered t v st b) : s.answered t v st b := by
  obtain ⟨rsp, state, serving, slice, sent⟩ := ha
  refine ⟨by rw [rsp, (h _).1], state, serving, slice, fun h1 => ?_⟩
  obtain ⟨y, hy, pay, dst⟩ := sent h1
  exact ⟨y, hy, pay, by rw [dst, (h 1).2]⟩

/-- An answer that follows a change of other parts. -/
theorem State.reply_answered_of {s u : State} (h : u.mb = s.mb) (v : Service) (st : Nat) (b : List Byte) :
    s.answered (u.reply v st b) v st b :=
  State.answered_of_mb (fun m => by rw [State.mbox_congr h]; exact ⟨rfl, rfl⟩) (u.reply_answered v st b)

/-- The parts that no answer touches are those of the state before it. -/
theorem State.reply_rest_of {s u : State} (h : { u with mb := s.mb, hl := s.hl, chain := s.chain } = s) (v : Service) (st : Nat)
    (b : List Byte) : { u.reply v st b with mb := s.mb, hl := s.hl, chain := s.chain } = s :=
  only_trans (f := fun s t => { t with mb := s.mb, hl := s.hl, chain := s.chain }) (fun _ _ _ => rfl) h (u.reply_rest v st b)

/-- An answer after a change of Headland's own state alone. -/
theorem State.reply_onlyWindow_of {s u : State} (h : { u with hl := s.hl } = s) (v : Service) (st : Nat) (b : List Byte) :
    s.onlyWindow (u.reply v st b) v.mb := by
  have hmb : u.mb = s.mb := (congrArg State.mb h :)
  have hchain : u.chain = s.chain := (congrArg State.chain h :)
  obtain ⟨-, others, window, sent, mbrsp⟩ := u.reply_onlyWindow v st b
  refine ⟨State.reply_rest_of (only_weaken (f := fun s t => { t with hl := s.hl })
    (g := fun s t => { t with mb := s.mb, hl := s.hl, chain := s.chain }) (fun _ _ => rfl) (fun _ => rfl) h) v st b, ?_, ?_, ?_, ?_⟩
  · exact fun k hk => (others k hk).trans (State.mbox_congr hmb k)
  · rwa [← State.mbox_congr hmb]
  · exact fun h1 => (sent h1).trans hchain
  · rwa [← hchain]

theorem State.ok_answered_of {s u : State} (h : u.mb = s.mb) (v : Service) (b : List Byte) : s.answered (u.ok v b) v 0 b :=
  State.reply_answered_of h v 0 b

theorem State.ok_rest_of {s u : State} (h : { u with mb := s.mb, hl := s.hl, chain := s.chain } = s) (v : Service)
    (b : List Byte) : { u.ok v b with mb := s.mb, hl := s.hl, chain := s.chain } = s := State.reply_rest_of h v 0 b

@[simp] theorem State.ok_hl (s : State) (v : Service) (b : List Byte) : (s.ok v b).hl = { s.hl with serving := none, slice := true } :=
  s.reply_hl v 0 b

@[simp] theorem State.ok_mbox (s : State) (v : Service) (b : List Byte) : (s.ok v b).mbox v.mb = { s.mbox v.mb with
    rsp := putRsp (s.mbox v.mb).rsp (rspBytes v.op v.tag 0 b), st := if v.mb = 1 then .idle else .done, aged := false } :=
  s.reply_mbox v 0 b

/-- What an answer leaves of the part `f`, for parts other than mailboxes, Headland and the chain. -/
theorem State.ok_part {α : Type} (f : State → α) (h : ∀ t m h c, f { t with mb := m, hl := h, chain := c } = f t) (s : State)
    (v : Service) (b : List Byte) : f (s.ok v b) = f s := by
  rw [← h (s.ok v b) s.mb s.hl s.chain]
  exact congrArg f (s.reply_rest v 0 b)

/-- What an answer leaves of the part `f` of the chain, for parts other than what is sent and its numbers. -/
theorem State.ok_chain_part {α : Type} (f : Chain → α) (h : ∀ c x y, f { c with sent := x, seqs := y } = f c) (s : State)
    (v : Service) (b : List Byte) : f (s.ok v b).chain = f s.chain := by
  by_cases h1 : v.mb = 1
  · rw [← h (s.ok v b).chain s.chain.sent s.chain.seqs]
    exact congrArg f (s.reply_sent v 0 b h1).1
  · exact congrArg f (s.reply_chain v 0 b h1)

/-- What an operation before the answer leaves, the answer leaves too, where `g` takes the answer's own parts among others. -/
theorem State.ok_rest_more {g : State → State → State} (law : ∀ s t u, g s (g t u) = g s u) (refl : ∀ s, g s s = s)
    (weak : ∀ s t : State, g s { t with mb := s.mb, hl := s.hl, chain := s.chain } = g s t) {s u : State} (h : g s u = s)
    (v : Service) (b : List Byte) : g s (u.ok v b) = s :=
  only_trans law h (only_weaken (f := fun s t => { t with mb := s.mb, hl := s.hl, chain := s.chain }) weak refl (u.reply_rest v 0 b))

/-- An answer OK that changes nothing else: a request that reads. -/
theorem State.ok_onlyAnswer (s : State) (v : Service) (b : List Byte) :
    s.onlyAnswer (s.ok v b) v.mb ∧ s.answered (s.ok v b) v 0 b := ⟨s.reply_onlyAnswer v 0 b, s.reply_answered v 0 b⟩

/-- A change taken for frame `f`. -/
theorem State.accept_taken (s : State) (v : Service) (f : Nat) (what : Change) :
    s.taken ((s.accept f v.mb v.tag what).ok v []) v f what :=
  ⟨State.ok_answered_of rfl v [], State.reply_onlyWindow_of rfl v 0 [], State.ok_hl _ v []⟩

theorem State.takeAt_target {s : State} {v : Service} {f : Nat} (h : s.target (v.tgt 0) = some f) (what : Change) :
    s.takeAt v what = (s.accept f v.mb v.tag what).ok v [] := by simp [State.takeAt, h]

theorem State.takeAt_taken {s : State} {v : Service} {f : Nat} (h : s.target (v.tgt 0) = some f) (what : Change) :
    s.taken (s.takeAt v what) v f what := by
  rw [State.takeAt_target h]
  exact s.accept_taken v f what

/-! ## Requests that read -/

/-- The bits of the keys in use, written out (Table CMD-12). -/
theorem State.keyBits (s : State) : s.custSet.toNat + ((List.range 4).map (fun n => (s.imgUsed n).toNat * 2 ^ (n + 1))).sum =
    s.custSet.toNat + (s.imgUsed 0).toNat * 2 + (s.imgUsed 1).toNat * 4 + (s.imgUsed 2).toNat * 8 + (s.imgUsed 3).toNat * 16 := by
  simp [List.range_succ]
  ring

/-- Settles O7: each of these requests is an answer and nothing else. -/
theorem readingRequests : Obligations.ReadingRequests := by
  intro s v
  refine ⟨fun h => ?_, fun h => ?_, fun h => ?_, fun h => ?_, fun h => ?_, fun h => ?_, fun h => ?_, fun h => ?_, fun h => ?_, fun h => ?_⟩
  case refine_6 =>
    refine completes_request rfl h ?_
    rw [← s.keyBits]
    exact s.ok_onlyAnswer v _
  all_goals exact completes_request rfl h (s.ok_onlyAnswer v _)

/-- A command marked H does its work on the head. -/
theorem State.headOnly_head {s : State} (h : s.isHead = true) (f : Service → State → State) (v : Service) :
    State.headOnly f v s = f v s := by simp [State.headOnly, h]

theorem State.headOnly_other {s : State} (h : s.isHead = false) (f : Service → State → State) (v : Service) :
    State.headOnly f v s = s.err v stNOT_READY dNOT_HEAD := by simp [State.headOnly, h]

theorem completes_headOnly {c : Instr} {s : State} {op : Nat} {f : Service → State → State} {v : Service} {P : State → Prop}
    (run : exec c s = .next (s.request op (State.headOnly f))) (hs : s.serves v op) (hh : s.isHead = true) (h : P (f v s)) :
    Completes c s P := completes_request run hs (by rwa [State.headOnly_head hh])

/-- Settles O8. -/
theorem headRequests : Obligations.HeadRequests := by
  intro s v
  refine ⟨fun hh => ⟨fun h => ?_, fun h => ?_, fun h => ?_⟩, fun hh c op hc h => ?_⟩
  · exact completes_headOnly rfl h hh (s.ok_onlyAnswer v _)
  · refine completes_headOnly rfl h hh ?_
    rw [State.faultRead, List.length_take, List.length_drop]
    exact s.ok_onlyAnswer v _
  · refine completes_headOnly rfl h hh ?_
    rw [State.bcastStatus, List.length_take, List.length_drop]
    exact s.ok_onlyAnswer v _
  · have refused (f : Service → State → State) : s.onlyAnswer (State.headOnly f v s) v.mb ∧
        s.answered (State.headOnly f v s) v stNOT_READY (bytesLE dNOT_HEAD 4) := by
      rw [State.headOnly_other hh]
      exact ⟨s.reply_onlyAnswer v _ _, s.reply_answered v _ _⟩
    simp only [List.mem_cons, Prod.mk.injEq, List.not_mem_nil, or_false] at hc
    rcases hc with ⟨rfl, rfl⟩ | ⟨rfl, rfl⟩ | ⟨rfl, rfl⟩ | ⟨rfl, rfl⟩ | ⟨rfl, rfl⟩ | ⟨rfl, rfl⟩ | ⟨rfl, rfl⟩ | ⟨rfl, rfl⟩ | ⟨rfl, rfl⟩
    all_goals exact completes_request rfl h (refused _)

/-! ## Changes for a target tick -/

/-- Settles O9: where the conditions hold and the target is in reach, each request takes its change. -/
theorem targetedChanges : Obligations.TargetedChanges := by
  intro s v f hf
  refine ⟨fun h hg hr => ?_, fun h hl hp hd => ?_, fun h hl hm hd => ?_, fun h hk => ?_, fun h => ?_, fun h hs => ?_, fun h hk => ?_,
    fun h hm hd hl hr hp => ?_, ?_, fun h hs => ?_⟩
  · refine completes_request rfl h ?_
    simp only [State.regionRelease, hg, hr, hf, Bool.not_true, Bool.false_eq_true, if_false]
    exact s.accept_taken v f _
  · refine completes_request rfl h ?_
    simp only [State.qdescSet, hl, hp, hd, hf, Bool.not_true, Bool.false_eq_true, if_false]
    exact s.accept_taken v f _
  · refine completes_request rfl h ?_
    simp only [State.lutSwap, hl, hm, hd, hf, decide_true, Bool.and_self, Bool.not_true, Bool.false_eq_true, if_false]
    exact s.accept_taken v f _
  · have near : s.targetNear (v.tgt 0) = f := by simp [State.targetNear, hf]
    refine completes_request rfl h ?_
    simp only [State.setP, near, hk, Bool.not_true, Bool.false_eq_true, if_false]
    exact State.takeAt_taken hf _
  · exact completes_request rfl h (State.takeAt_taken hf _)
  · refine completes_request rfl h ?_
    simp only [State.setPreset, hs, if_false]
    exact State.takeAt_taken hf _
  · have near : s.targetNear (v.tgt 0) = f := by simp [State.targetNear, hf]
    refine completes_request rfl h ?_
    simp only [State.setWave, near, hk, Bool.not_true, Bool.false_eq_true, if_false]
    exact State.takeAt_taken hf _
  · have free : (List.range 96).any (fun r => (s.region r).held) = false := by simpa using hr
    refine completes_request rfl h ?_
    simp only [State.setPower, hm, hd, hl, hp, free, ne_eq, not_true_eq_false, decide_false, Bool.or_self, Bool.false_eq_true, if_false]
    exact State.takeAt_taken hf _
  · intro h
    rintro ⟨limits, unused⟩
    refine completes_request rfl h ?_
    rw [State.setClock]
    simp only [limits, Bool.not_true, Bool.false_eq_true, if_false]
    cases hn : spllOf (v.u 8 4) with
    | none => exact State.takeAt_taken hf _
    | some n =>
      rcases unused n hn with same | idle
      · simp only [same, ne_eq, not_true_eq_false, decide_false, Bool.false_and, Bool.false_eq_true, if_false]
        exact State.takeAt_taken hf _
      · simp only [idle, Bool.and_false, Bool.false_eq_true, if_false]
        exact State.takeAt_taken hf _
  · refine completes_request rfl h ?_
    simp only [State.fwActivate, hs, ne_eq, not_true_eq_false, if_false]
    exact State.takeAt_taken hf _

end Sys2Proof.Machine
end

section
/-! Requests on schedules, settings and the last temperature (spec/12 R372, R520, spec/15 R466). -/
namespace Sys2Proof.Machine

/-! ## SCHED_COMMIT -/

/-- Settles O10: the refusals in their order, and the change that is taken. -/
theorem scheduleCommit : Obligations.ScheduleCommit := by
  intro s v h
  have held_iff : (s.mbox v.mb).staged.any (fun x => (s.region x.1).held) = true ↔
      ∃ x ∈ (s.mbox v.mb).staged, (s.region x.1).held = true := by simp [List.any_eq_true]
  have named_iff : (s.mbox v.mb).staged.any (fun x => s.changeNames x.1) = true ↔
      ∃ x ∈ (s.mbox v.mb).staged, s.changeNames x.1 = true := by simp [List.any_eq_true]
  refine ⟨fun hnil => ?_, fun hheld => ?_, fun hfree hnamed => ?_, fun hne hall => ?_⟩
  · refine completes_request rfl h ?_
    simp only [State.schedCommit, hnil, List.isEmpty_nil, if_true]
    exact s.err_turnedAway v _ _
  · have hne : (s.mbox v.mb).staged.isEmpty = false := by
      obtain ⟨x, hx, -⟩ := hheld
      exact List.isEmpty_eq_false_iff.2 (List.ne_nil_of_mem hx)
    refine completes_request rfl h ?_
    simp only [State.schedCommit, hne, held_iff.2 hheld, Bool.false_eq_true, if_false, if_true]
    exact s.err_turnedAway v _ _
  · have hne : (s.mbox v.mb).staged.isEmpty = false := by
      obtain ⟨x, hx, -⟩ := hnamed
      exact List.isEmpty_eq_false_iff.2 (List.ne_nil_of_mem hx)
    have hh : (s.mbox v.mb).staged.any (fun x => (s.region x.1).held) = false := by simpa [List.any_eq_false] using hfree
    refine completes_request rfl h ?_
    simp only [State.schedCommit, hne, hh, named_iff.2 hnamed, Bool.false_eq_true, if_false, if_true]
    exact s.err_turnedAway v _ _
  · have hne : (s.mbox v.mb).staged.isEmpty = false := List.isEmpty_eq_false_iff.2 hne
    have hh : (s.mbox v.mb).staged.any (fun x => (s.region x.1).held) = false :=
      List.any_eq_false.2 fun x hx => by simp [(hall x hx).1]
    have hn : (s.mbox v.mb).staged.any (fun x => s.changeNames x.1) = false :=
      List.any_eq_false.2 fun x hx => by simp [(hall x hx).2]
    refine ⟨fun hk => ?_, fun hk => ⟨fun htgt => ?_, fun f htgt => ?_⟩⟩
    all_goals
      refine completes_request rfl h ?_
      simp only [State.schedCommit, hne, hh, hn, hk, Bool.not_true, Bool.not_false, Bool.false_eq_true, if_false, if_true]
    · exact s.err_turnedAway v _ _
    · simp only [htgt]
      exact s.err_turnedAway v _ _
    · simp only [htgt]
      refine ⟨State.answered_of_mb (fun m => ?_) (State.reply_answered _ v 0 []), ?_, ?_, State.ok_rest_of rfl v []⟩
      · by_cases hm : m = v.mb
        · subst hm
          rw [State.mbox_setMbox_same]
          exact ⟨rfl, rfl⟩
        · rw [State.mbox_setMbox_ne _ _ _ _ hm]
          exact ⟨rfl, rfl⟩
      · rw [State.ok_mbox, State.mbox_setMbox_same]
      · rw [State.ok_hl]
        rfl

/-! ## Staging -/

theorem mget_foldl_mput {α : Type} [DecidableEq α] (d : Nat → α) (x : α) (l : List Nat) (m : List (Nat × α)) (k : Nat) :
    mget d (l.foldl (fun m r => mput d m r x) m) k = if k ∈ l then x else mget d m k := by
  induction l generalizing m with
  | nil => simp
  | cons r l ih =>
    rw [List.foldl_cons, ih, mget_mput]
    by_cases h : k = r
    · subst h
      simp
    · simp [h]

theorem Service.mem_rmask (v : Service) (r : Nat) : r ∈ v.rmask ↔ r < 96 ∧ v.pay.testBit r = true := by
  simp [Service.rmask]

/-- The answer to a request that has changed its own window, but for response and sender. -/
theorem State.answered_window (s : State) (v : Service) (x : Mbox) (hr : x.rsp = (s.mbox v.mb).rsp) (hf : x.from_ = (s.mbox v.mb).from_)
    (b : List Byte) : s.answered ((s.setMbox v.mb x).ok v b) v 0 b := by
  refine State.answered_of_mb (fun m => ?_) (State.reply_answered _ v 0 b)
  by_cases hm : m = v.mb
  · subst hm
    rw [State.mbox_setMbox_same]
    exact ⟨hr, hf⟩
  · rw [State.mbox_setMbox_ne _ _ _ _ hm]
    exact ⟨rfl, rfl⟩

/-! ## Temperature -/

theorem State.fld_tempEvent (s : State) (tj level : Nat) : (s.tempEvent tj level).fld (CK 0x208) 16 2 = level % 4 ∧
    (s.tempEvent tj level).fld (CK 0x208) 0 16 = s.fld (CK 0x208) 0 16 :=
  ⟨s.fld_setFld_same (CK 0x208) level (by omega), s.fld_setFld_other (CK 0x208) 16 2 level (by omega) (by omega)⟩

theorem State.latches_tempEvent (s : State) (tj level : Nat) :
    (s.tempEvent tj level).hl.latches = s.hl.latches ++ [⟨0x0C, 0, tj + level * 2 ^ 16, 0⟩] := rfl

theorem State.reg_tempEvent_ne (s : State) (tj level : Nat) {a : Nat} (h : a ≠ CK 0x208) : (s.tempEvent tj level).reg a = s.reg a :=
  s.reg_setFld_ne _ _ _ _ _ h

/-- What a temperature sample leaves of the registers and of the rest. -/
def State.tempOnly (s t : State) : Prop := (∀ a, a ≠ CK 0x208 → t.reg a = s.reg a) ∧
  { t with csr := s.csr, hl := s.hl, clk := s.clk } = s ∧ t.hl = { s.hl with latches := t.hl.latches }

theorem State.tempOnly_refl (s : State) : s.tempOnly s := ⟨fun _ _ => rfl, rfl, rfl⟩

theorem State.tempOnly_trans {s t u : State} (h : s.tempOnly t) (k : t.tempOnly u) : s.tempOnly u := by
  obtain ⟨hr, ho, hl⟩ := h
  obtain ⟨kr, ko, kl⟩ := k
  refine ⟨fun a ha => (kr a ha).trans (hr a ha), only_trans (f := fun s t => { t with csr := s.csr, hl := s.hl, clk := s.clk })
    (fun _ _ _ => rfl) ho ko, ?_⟩
  rw [kl, hl]

theorem State.tempOnly_tempEvent (s : State) (tj level : Nat) : s.tempOnly (s.tempEvent tj level) :=
  ⟨fun _ h => s.reg_tempEvent_ne tj level h, rfl, rfl⟩

/-- The sample shown, and the first of the two events (R466). -/
def State.tempWarn (s : State) (tj : Nat) : State :=
  let u := s.setFld (CK 0x208) 0 16 tj
  if s.fld (CK 0x208) 16 2 = 0 ∧ signed (s.fld (CK 0x20C) 0 16) 16 ≤ signed tj 16 then u.tempEvent tj 1 else u

/-- Does the sample reach CRIT, from below or by a new event (R466)? -/
abbrev State.tempRises (s : State) (tj : Nat) : Prop := signed (s.fld (CK 0x20C) 16 16) 16 ≤ signed tj 16 ∧
  (s.fld (CK 0x208) 16 2 ≠ 2 ∨ signed (s.fld (CK 0x208) 0 16) 16 < signed (s.fld (CK 0x20C) 16 16) 16)

/-- The move to DEEP_SLEEP that CRIT_DEEP asks for. -/
def State.tempDeep (s : State) : State :=
  if s.bit (CK 0x200) 1 && (s.mode ≠ 2 || s.clk.moving || s.clk.self.isSome) then
    { s with clk := { s.clk with self := some (s.nextTarget, 2) } }
  else s

theorem State.tempSample_eq (s : State) (tj : Nat) : s.tempSample tj =
    if s.tempRises tj then ((s.tempWarn tj).tempEvent tj 2).tempDeep
    else if s.fld (CK 0x208) 16 2 ≠ 0 ∧ signed tj 16 ≤ signed (s.fld (CK 0x20C) 0 16) 16 - 16 then (s.tempWarn tj).tempEvent tj 0
    else s.tempWarn tj := rfl

theorem State.tempOnly_tempWarn (s : State) (tj : Nat) : s.tempOnly (s.tempWarn tj) := by
  have shown : s.tempOnly (s.setFld (CK 0x208) 0 16 tj) := ⟨fun a h => s.reg_setFld_ne _ _ _ _ _ h, rfl, rfl⟩
  unfold State.tempWarn
  dsimp only
  split
  · exact State.tempOnly_trans shown (State.tempOnly_tempEvent _ _ _)
  · exact shown

theorem State.tempOnly_tempDeep (s : State) : s.tempOnly s.tempDeep := by
  unfold State.tempDeep
  split <;> exact ⟨fun _ _ => rfl, rfl, rfl⟩

theorem State.tempOnly_tempSample (s : State) (tj : Nat) : s.tempOnly (s.tempSample tj) := by
  have warned := s.tempOnly_tempWarn tj
  rw [State.tempSample_eq]
  split
  · exact State.tempOnly_trans (State.tempOnly_trans warned (State.tempOnly_tempEvent _ _ _)) (State.tempOnly_tempDeep _)
  · split
    · exact State.tempOnly_trans warned (State.tempOnly_tempEvent _ _ _)
    · exact warned

/-- The junction temperature, the level and the events after a first event or none. -/
theorem State.tempWarn_shows (s : State) (tj : Nat) : (s.tempWarn tj).fld (CK 0x208) 0 16 = tj % 65536 ∧
    (s.tempWarn tj).clk = s.clk ∧
    (s.fld (CK 0x208) 16 2 = 0 ∧ signed (s.fld (CK 0x20C) 0 16) 16 ≤ signed tj 16 →
      (s.tempWarn tj).fld (CK 0x208) 16 2 = 1 ∧ (s.tempWarn tj).hl.latches = s.hl.latches ++ [⟨0x0C, 0, tj + 1 * 2 ^ 16, 0⟩]) ∧
    (¬(s.fld (CK 0x208) 16 2 = 0 ∧ signed (s.fld (CK 0x20C) 0 16) 16 ≤ signed tj 16) →
      (s.tempWarn tj).fld (CK 0x208) 16 2 = s.fld (CK 0x208) 16 2 ∧ (s.tempWarn tj).hl.latches = s.hl.latches) := by
  have shown : (s.setFld (CK 0x208) 0 16 tj).fld (CK 0x208) 0 16 = tj % 65536 := s.fld_setFld_same _ _ (by omega)
  have level : (s.setFld (CK 0x208) 0 16 tj).fld (CK 0x208) 16 2 = s.fld (CK 0x208) 16 2 :=
    s.fld_setFld_other _ _ _ _ (by omega) (by omega)
  unfold State.tempWarn
  dsimp only
  split
  · next h => exact ⟨(State.fld_tempEvent _ _ _).2.trans shown, rfl, fun _ => ⟨(State.fld_tempEvent _ _ _).1, rfl⟩, fun n => absurd h n⟩
  · next h => exact ⟨shown, rfl, fun y => absurd y h, fun _ => ⟨level, rfl⟩⟩

theorem State.reg_tempDeep (s : State) (a : Nat) : s.tempDeep.reg a = s.reg a := by
  unfold State.tempDeep
  split <;> rfl

theorem State.tempDeep_hl (s : State) : s.tempDeep.hl = s.hl := by
  unfold State.tempDeep
  split <;> rfl

theorem State.tempDeep_clk (s : State) : (s.bit (CK 0x200) 1 = true → s.mode ≠ 2 → ∃ f, s.tempDeep.clk = { s.clk with self := some (f, 2) }) ∧
    (s.bit (CK 0x200) 1 = false → s.tempDeep.clk = s.clk) := by
  unfold State.tempDeep
  refine ⟨fun hb hm => ?_, fun hb => ?_⟩
  · rw [if_pos (by simp [hb, hm])]
    exact ⟨_, rfl⟩
  · rw [if_neg (by simp [hb])]

theorem State.fld_tempSample (s : State) (tj : Nat) : (s.tempSample tj).fld (CK 0x208) 0 16 = tj % 65536 := by
  obtain ⟨shown, -⟩ := s.tempWarn_shows tj
  rw [State.tempSample_eq]
  split
  · exact (State.fld_congr (State.reg_tempDeep _ _) 0 16).trans ((State.fld_tempEvent _ _ _).2.trans shown)
  · split
    · exact (State.fld_tempEvent _ _ _).2.trans shown
    · exact shown

/-- The limits as they stand in CK_TEMP_LIMITS. -/
theorem State.limits_fields (s : State) : s.fld (CK 0x20C) 0 16 = s.reg (CK 0x20C) % 65536 ∧
    s.fld (CK 0x20C) 16 16 = s.reg (CK 0x20C) / 65536 := by
  have := s.reg_lt (CK 0x20C)
  simp only [State.fld, bits, Nat.shiftRight_zero, Nat.shiftRight_eq_div_pow]
  omega

/-- Level and events of a sample are those of R466. -/
theorem State.tempSample_seen (s : State) (tj : Nat) :
    s.tempSeen (s.tempSample tj) (s.fld (CK 0x208) 0 16) tj (s.reg (CK 0x20C)) := by
  obtain ⟨-, clk, warns, quiet⟩ := s.tempWarn_shows tj
  have far : ∀ a, a ≠ CK 0x208 → ((s.tempWarn tj).tempEvent tj 2).reg a = s.reg a := fun a h =>
    (State.reg_tempEvent_ne _ _ _ h).trans ((s.tempOnly_tempWarn tj).1 a h)
  obtain ⟨deep, shallow⟩ := ((s.tempWarn tj).tempEvent tj 2).tempDeep_clk
  rw [State.bit_congr (far _ (by simp))] at deep shallow
  rw [show ((s.tempWarn tj).tempEvent tj 2).mode = s.mode from State.fld_congr (far _ (by simp)) 0 2] at deep
  have high : s.tempRises tj → (s.tempSample tj).fld (CK 0x208) 16 2 = 2 ∧
      (s.tempSample tj).hl.latches = (s.tempWarn tj).hl.latches ++ [⟨0x0C, 0, tj + 2 * 2 ^ 16, 0⟩] ∧
      (s.tempSample tj).clk = ((s.tempWarn tj).tempEvent tj 2).tempDeep.clk := fun h => by
    rw [State.tempSample_eq, if_pos h, State.tempDeep_hl]
    exact ⟨(State.fld_congr (State.reg_tempDeep _ _) 16 2).trans (State.fld_tempEvent _ _ _).1, rfl, rfl⟩
  have low : ¬s.tempRises tj → s.fld (CK 0x208) 16 2 ≠ 0 ∧ signed tj 16 ≤ signed (s.fld (CK 0x20C) 0 16) 16 - 16 →
      s.tempSample tj = (s.tempWarn tj).tempEvent tj 0 := fun h h' => by rw [State.tempSample_eq, if_neg h, if_pos h']
  have same : ¬s.tempRises tj → ¬(s.fld (CK 0x208) 16 2 ≠ 0 ∧ signed tj 16 ≤ signed (s.fld (CK 0x20C) 0 16) 16 - 16) →
      s.tempSample tj = s.tempWarn tj := fun h h' => by rw [State.tempSample_eq, if_neg h, if_neg h']
  obtain ⟨hwarn, hcrit⟩ := s.limits_fields
  unfold State.tempRises at high low same
  rw [hwarn] at warns quiet low same
  rw [hcrit] at high low same
  unfold State.tempSeen
  dsimp only
  generalize signed (s.reg (CK 0x20C) % 65536) 16 = warn at *
  generalize signed (s.reg (CK 0x20C) / 65536) 16 = crit at *
  refine ⟨fun hl hw hc => ?_, fun hl hw hc => ?_, fun hq hr => ?_, fun hl hr hn => ?_, fun hq hr hn => ?_, fun hr hb hm => ?_, fun h => ?_⟩
  · have calm : ¬(crit ≤ signed tj 16 ∧ (s.fld (CK 0x208) 16 2 ≠ 2 ∨ signed (s.fld (CK 0x208) 0 16) 16 < crit)) := by omega
    rw [same calm (by omega)]
    simpa using warns ⟨hl, hw⟩
  · obtain ⟨l2, lat, -⟩ := high ⟨hc, .inl (by omega)⟩
    rw [l2, lat, (warns ⟨hl, hw⟩).2]
    simp
  · obtain ⟨l2, lat, -⟩ := high hr
    rw [l2, lat, (quiet hq).2]
    simp
  · rw [low hr ⟨hl, hn⟩, State.latches_tempEvent, (quiet (by omega)).2]
    exact ⟨(State.fld_tempEvent _ _ _).1, by simp⟩
  · rw [same hr hn]
    simpa using quiet hq
  · rw [(high hr).2.2, ← clk]
    exact deep hb hm
  · by_cases hr : crit ≤ signed tj 16 ∧ (s.fld (CK 0x208) 16 2 ≠ 2 ∨ signed (s.fld (CK 0x208) 0 16) 16 < crit)
    · rw [(high hr).2.2, ← clk]
      exact shallow (h.resolve_right (fun n => n hr))
    · by_cases hn : s.fld (CK 0x208) 16 2 ≠ 0 ∧ signed tj 16 ≤ warn - 16
      · rw [low hr hn, ← clk]
        rfl
      · rw [same hr hn, clk]

/-- The view of a temperature sample depends on a few registers, the latches and the clocks. -/
theorem State.tempSeen_congr {s s' t t' : State} {old tj limits : Nat} (hr : ∀ a, a ≠ CK 0x20C → s'.reg a = s.reg a)
    (hl : s'.hl.latches = s.hl.latches) (hc : s'.clk = s.clk) (ht : t'.csr = t.csr) (htl : t'.hl.latches = t.hl.latches)
    (htc : t'.clk = t.clk) (h : s'.tempSeen t' old tj limits) : s.tempSeen t old tj limits := by
  have lvl : s'.fld (CK 0x208) 16 2 = s.fld (CK 0x208) 16 2 := State.fld_congr (hr _ (by simp)) _ _
  have deep : s'.bit (CK 0x200) 1 = s.bit (CK 0x200) 1 := State.bit_congr (hr _ (by simp)) _
  have mode : s'.mode = s.mode := State.fld_congr (hr _ (by simp)) _ _
  have shown : t'.fld (CK 0x208) 16 2 = t.fld (CK 0x208) 16 2 := State.fld_congr (State.reg_congr ht _) _ _
  unfold State.tempSeen at h ⊢
  rwa [lvl, deep, mode, shown, hl, hc, htl, htc] at h

theorem State.schedStage_eq (s : State) (v : Service) : State.schedStage v s = (s.setMbox v.mb { s.mbox v.mb with
    staged := v.rmask.foldl (fun m r => mput (fun _ => ([] : List Word)) m r
      ((List.range 10).map (fun i => BitVec.ofNat 32 (v.u (12 + 4 * i) 4)))) (s.mbox v.mb).staged }).ok v [] := rfl

/-- Settles O11. -/
theorem settingRequests : Obligations.SettingRequests := by
  intro s v
  refine ⟨fun h => completes_request rfl h ?_, fun h => completes_request rfl h ?_, fun h => completes_request rfl h ?_,
    fun h => completes_request rfl h ?_, fun h hi => completes_request rfl h ?_, fun h hi => completes_request rfl h ?_,
    fun h => completes_request rfl h ?_⟩
  · rw [State.schedStage_eq]
    refine ⟨s.answered_window v _ (by rfl) (by rfl) [], fun r hr hr' => ?_, fun r hr => ?_, State.ok_rest_of rfl v []⟩
    all_goals
      rw [State.ok_mbox, State.mbox_setMbox_same]
      dsimp only
    · rw [mget_foldl_mput, if_pos ((v.mem_rmask r).2 ⟨hr', hr⟩)]
    · rw [mget_foldl_mput, if_neg (fun m => by simpa [hr] using ((v.mem_rmask r).1 m).2)]
  · rw [State.schedDiscard]
    refine ⟨s.answered_window v _ (by rfl) (by rfl) [], ?_, State.ok_rest_of rfl v []⟩
    rw [State.ok_mbox, State.mbox_setMbox_same]
  · rw [State.logClear]
    refine ⟨State.ok_answered_of rfl v [], State.ok_part State.log (fun _ _ _ _ => rfl) _ v [],
      State.ok_part State.logSeq (fun _ _ _ _ => rfl) _ v [], ?_⟩
    exact State.ok_rest_more (g := fun s t => { t with mb := s.mb, hl := s.hl, chain := s.chain, log := s.log })
      (fun _ _ _ => rfl) (fun _ => rfl) (fun _ _ => rfl) rfl v []
  · rw [State.chainRole]
    refine ⟨State.ok_answered_of rfl v [], ?_, State.ok_rest_of rfl v []⟩
    exact State.ok_chain_part Chain.role (fun _ _ _ => rfl) _ v []
  · simp only [State.loadGroup, hi, ne_eq, not_true_eq_false, if_false]
    refine ⟨State.ok_answered_of rfl v [], State.ok_part State.ld (fun _ _ _ _ => rfl) _ v [], ?_⟩
    exact State.ok_rest_more (g := fun s t => { t with mb := s.mb, hl := s.hl, chain := s.chain, ld := s.ld }) (fun _ _ _ => rfl)
      (fun _ => rfl) (fun _ _ => rfl) rfl v []
  · simp only [State.loadGroup, hi, ne_eq, not_false_eq_true, if_true]
    exact s.err_turnedAway v _ _
  · have limit : v.u 0 4 < 2 ^ 32 := bits_lt _ _ _
    have limits : (s.setReg (CK 0x20C) (v.u 0 4)).reg (CK 0x20C) = v.u 0 4 := by
      rw [State.reg_setReg_same, Nat.mod_eq_of_lt limit]
    have temp : (s.setReg (CK 0x20C) (v.u 0 4)).fld (CK 0x208) 0 16 = s.fld (CK 0x208) 0 16 :=
      State.fld_congr (s.reg_setReg_ne _ _ _ (by simp)) 0 16
    rw [State.tempLimits, temp]
    generalize hu : s.setReg (CK 0x20C) (v.u 0 4) = u at limits
    have far : ∀ a, a ≠ CK 0x20C → u.reg a = s.reg a := fun a ha => by rw [← hu, s.reg_setReg_ne _ _ _ ha]
    have hhl : u.hl = s.hl := by rw [← hu]; rfl
    have hclk : u.clk = s.clk := by rw [← hu]; rfl
    have hmb : u.mb = s.mb := by rw [← hu]; rfl
    have hrest : { u with csr := s.csr } = s := by rw [← hu]; rfl
    obtain ⟨regs, rest, latches⟩ := u.tempOnly_tempSample (s.fld (CK 0x208) 0 16)
    have seen := u.tempSample_seen (s.fld (CK 0x208) 0 16)
    have shown := u.fld_tempSample (s.fld (CK 0x208) 0 16)
    rw [limits, State.fld_congr (far _ (by simp))] at seen
    rw [Nat.mod_eq_of_lt (show s.fld (CK 0x208) 0 16 < 65536 from s.fld_lt _ _ _)] at shown
    generalize u.tempSample (s.fld (CK 0x208) 0 16) = t at *
    have hmb' : t.mb = s.mb := (congrArg State.mb rest :).trans hmb
    have csr : (t.ok v []).csr = t.csr := State.ok_part State.csr (fun _ _ _ _ => rfl) t v []
    refine ⟨State.ok_answered_of hmb' v [], ?_, ?_, ?_, fun a ha ha' => ?_, ?_, ?_⟩
    · rw [State.reg_congr csr, regs _ (by simp), limits]
    · rw [State.fld_congr (State.reg_congr csr _), shown]
    · exact State.tempSeen_congr far (by rw [hhl]) hclk csr.symm (by rw [State.ok_hl])
        (State.ok_part State.clk (fun _ _ _ _ => rfl) t v []).symm seen
    · rw [State.reg_congr csr, regs a ha', far a ha]
    · refine State.ok_rest_more (g := fun s t => { t with mb := s.mb, hl := s.hl, chain := s.chain, csr := s.csr, clk := s.clk })
        (fun _ _ _ => rfl) (fun _ => rfl) (fun _ _ => rfl) ?_ v []
      exact only_trans (f := fun s t => { t with mb := s.mb, hl := s.hl, chain := s.chain, csr := s.csr, clk := s.clk })
        (fun _ _ _ => rfl)
        (only_weaken (f := fun s t => { t with csr := s.csr })
          (g := fun s t => { t with mb := s.mb, hl := s.hl, chain := s.chain, csr := s.csr, clk := s.clk })
          (fun _ _ => rfl) (fun _ => rfl) hrest)
        (only_weaken (f := fun s t => { t with csr := s.csr, hl := s.hl, clk := s.clk })
          (g := fun s t => { t with mb := s.mb, hl := s.hl, chain := s.chain, csr := s.csr, clk := s.clk })
          (fun _ _ => rfl) (fun _ => rfl) rest)
    · rw [State.ok_hl, latches, hhl]

end Sys2Proof.Machine
end

section
/-! The parts of the state, and what it is for an operation to change no part but those of a list. -/
namespace Sys2Proof.Machine

/-- The parts of the state. -/
inductive Part where
  | pending | free | timePs | on | csr | tick | fab | rg | glob | mem | flips | ueSeen | qs | hl | mb | log | logSeq | clk | lane | net
  | noc | reqs | run | scrubN | rails | boot | park | tap | chain | ld | bt | sq | store | life | isl | probe
  deriving DecidableEq

/-- The parts of `l` as in `s`, the others as in `t`. -/
def State.restore (l : List Part) (s t : State) : State where
  pending := if Part.pending ∈ l then s.pending else t.pending
  free := if Part.free ∈ l then s.free else t.free
  timePs := if Part.timePs ∈ l then s.timePs else t.timePs
  on := if Part.on ∈ l then s.on else t.on
  csr := if Part.csr ∈ l then s.csr else t.csr
  tick := if Part.tick ∈ l then s.tick else t.tick
  fab := if Part.fab ∈ l then s.fab else t.fab
  rg := if Part.rg ∈ l then s.rg else t.rg
  glob := if Part.glob ∈ l then s.glob else t.glob
  mem := if Part.mem ∈ l then s.mem else t.mem
  flips := if Part.flips ∈ l then s.flips else t.flips
  ueSeen := if Part.ueSeen ∈ l then s.ueSeen else t.ueSeen
  qs := if Part.qs ∈ l then s.qs else t.qs
  hl := if Part.hl ∈ l then s.hl else t.hl
  mb := if Part.mb ∈ l then s.mb else t.mb
  log := if Part.log ∈ l then s.log else t.log
  logSeq := if Part.logSeq ∈ l then s.logSeq else t.logSeq
  clk := if Part.clk ∈ l then s.clk else t.clk
  lane := if Part.lane ∈ l then s.lane else t.lane
  net := if Part.net ∈ l then s.net else t.net
  noc := if Part.noc ∈ l then s.noc else t.noc
  reqs := if Part.reqs ∈ l then s.reqs else t.reqs
  run := if Part.run ∈ l then s.run else t.run
  scrubN := if Part.scrubN ∈ l then s.scrubN else t.scrubN
  rails := if Part.rails ∈ l then s.rails else t.rails
  boot := if Part.boot ∈ l then s.boot else t.boot
  park := if Part.park ∈ l then s.park else t.park
  tap := if Part.tap ∈ l then s.tap else t.tap
  chain := if Part.chain ∈ l then s.chain else t.chain
  ld := if Part.ld ∈ l then s.ld else t.ld
  bt := if Part.bt ∈ l then s.bt else t.bt
  sq := if Part.sq ∈ l then s.sq else t.sq
  store := if Part.store ∈ l then s.store else t.store
  life := if Part.life ∈ l then s.life else t.life
  isl := if Part.isl ∈ l then s.isl else t.isl
  probe := if Part.probe ∈ l then s.probe else t.probe

/-- `t` differs from `s` in the parts of `l` at most. -/
def State.changes (l : List Part) (s t : State) : Prop := State.restore l s t = s

/-- `t` has the part `p` of `s`. -/
def State.same (s t : State) : Part → Prop
  | .pending => t.pending = s.pending
  | .free => t.free = s.free
  | .timePs => t.timePs = s.timePs
  | .on => t.on = s.on
  | .csr => t.csr = s.csr
  | .tick => t.tick = s.tick
  | .fab => t.fab = s.fab
  | .rg => t.rg = s.rg
  | .glob => t.glob = s.glob
  | .mem => t.mem = s.mem
  | .flips => t.flips = s.flips
  | .ueSeen => t.ueSeen = s.ueSeen
  | .qs => t.qs = s.qs
  | .hl => t.hl = s.hl
  | .mb => t.mb = s.mb
  | .log => t.log = s.log
  | .logSeq => t.logSeq = s.logSeq
  | .clk => t.clk = s.clk
  | .lane => t.lane = s.lane
  | .net => t.net = s.net
  | .noc => t.noc = s.noc
  | .reqs => t.reqs = s.reqs
  | .run => t.run = s.run
  | .scrubN => t.scrubN = s.scrubN
  | .rails => t.rails = s.rails
  | .boot => t.boot = s.boot
  | .park => t.park = s.park
  | .tap => t.tap = s.tap
  | .chain => t.chain = s.chain
  | .ld => t.ld = s.ld
  | .bt => t.bt = s.bt
  | .sq => t.sq = s.sq
  | .store => t.store = s.store
  | .life => t.life = s.life
  | .isl => t.isl = s.isl
  | .probe => t.probe = s.probe

/-- Each part outside the list stands. -/
theorem State.changes_iff (l : List Part) (s t : State) : s.changes l t ↔ ∀ p, p ∉ l → s.same t p := by
  have left {α : Type} (c : Prop) [Decidable c] (x y : α) : ((if c then x else y) = x) ↔ (¬c → y = x) := by
    split <;> simp_all
  constructor
  · intro h p hp
    rw [← show State.restore l s t = s from h]
    cases p <;> simp [State.same, State.restore, hp]
  · intro h
    cases s
    simp only [State.changes, State.restore, State.mk.injEq, left]
    exact ⟨h .pending, h .free, h .timePs, h .on, h .csr, h .tick, h .fab, h .rg, h .glob, h .mem, h .flips, h .ueSeen, h .qs, h .hl, h .mb, h .log, h .logSeq, h .clk, h .lane, h .net, h .noc, h .reqs, h .run, h .scrubN, h .rails, h .boot, h .park, h .tap, h .chain, h .ld, h .bt, h .sq, h .store, h .life, h .isl, h .probe⟩

@[simp] theorem State.changes_refl (l : List Part) (s : State) : s.changes l s :=
  (s.changes_iff l s).2 fun p _ => by cases p <;> rfl

theorem State.changes.trans {l : List Part} {s t u : State} (h : s.changes l t) (k : t.changes l u) : s.changes l u := by
  rw [State.changes_iff] at *
  intro p hp
  have first := h p hp
  have second := k p hp
  cases p <;> exact second.trans first

theorem State.changes.mono {l m : List Part} {s t : State} (h : s.changes l t) (sub : l ⊆ m) : s.changes m t := by
  rw [State.changes_iff] at *
  exact fun p hp => h p fun hl => hp (sub hl)

/-- What stands, named by its part. -/
theorem State.changes.same {l : List Part} {s t : State} (h : s.changes l t) (p : Part) (hp : p ∉ l) : s.same t p :=
  (s.changes_iff l t).1 h p hp

/-! ## One operation after another: what follows changes no more than the list, so nothing more is asked -/

theorem State.changes.through {m : List Part} {t u : State} (h : t.changes m u) {l : List Part} (sub : m ⊆ l) (s : State) :
    s.changes l u ↔ s.changes l t := by
  have back : u.changes l t := by
    rw [State.changes_iff]
    intro p hp
    have same := h.mono sub |>.same p hp
    cases p <;> exact Eq.symm same
  exact ⟨fun k => k.trans back, fun k => k.trans (h.mono sub)⟩

/-- What each step of a loop leaves, the loop leaves. -/
theorem foldl_leaves {α β : Type} (g : State → β) {f : State → α → State} (h : ∀ t x, g (f t x) = g t) (xs : List α) (s : State) :
    g (xs.foldl f s) = g s := by
  induction xs generalizing s with
  | nil => rfl
  | cons x xs ih => rw [List.foldl_cons, ih, h]

theorem forAll_leaves {β : Type} (g : State → β) {f : Nat → State → State} (h : ∀ k t, g (f k t) = g t) (n : Nat) (s : State) :
    g (forAll n f s) = g s := foldl_leaves g (fun t k => h k t) _ s

@[simp] theorem State.changes_ite (l : List Part) (s t u : State) (c : Prop) [Decidable c] :
    s.changes l (if c then t else u) ↔ (c → s.changes l t) ∧ (¬c → s.changes l u) := by
  split <;> simp_all

theorem State.changes_foldl {l : List Part} {α : Type} {f : State → α → State} (h : ∀ t x, State.changes l t (f t x)) (xs : List α)
    (s : State) : s.changes l (xs.foldl f s) := by
  induction xs generalizing s with
  | nil => exact s.changes_refl l
  | cons x xs ih => exact State.changes.trans (h s x) (ih _)

@[simp] theorem State.changes_foldl_iff (l : List Part) {α : Type} (f : State → α → State) (xs : List α) (s t : State)
    (h : ∀ t x, State.changes l t (f t x)) : s.changes l (xs.foldl f t) ↔ s.changes l t :=
  (State.changes_foldl h xs t).through (fun _ => id) s

@[simp] theorem State.changes_forAll (l : List Part) (n : Nat) (f : Nat → State → State) (s t : State)
    (h : ∀ k t, State.changes l t (f k t)) : s.changes l (forAll n f t) ↔ s.changes l t :=
  State.changes_foldl_iff l (fun t k => f k t) _ s t fun t k => h k t

section
variable (l : List Part) (s t : State)

@[simp] theorem State.changes_setReg (a v : Nat) (h : Part.csr ∈ l) :
    s.changes l (t.setReg a v) ↔ s.changes l t :=
  State.changes.through (m := [.csr]) (by rfl) (by simpa using h) s
@[simp] theorem State.changes_setFld (a lo w v : Nat) (h : Part.csr ∈ l) :
    s.changes l (t.setFld a lo w v) ↔ s.changes l t :=
  State.changes.through (m := [.csr]) (by rfl) (by simpa using h) s
@[simp] theorem State.changes_setBit (a i : Nat) (b : Bool) (h : Part.csr ∈ l) :
    s.changes l (t.setBit a i b) ↔ s.changes l t :=
  State.changes.through (m := [.csr]) (by rfl) (by simpa using h) s
@[simp] theorem State.changes_inc (a : Nat) (h : Part.csr ∈ l) :
    s.changes l (t.inc a) ↔ s.changes l t :=
  State.changes.through (m := [.csr]) (by rfl) (by simpa using h) s
@[simp] theorem State.changes_count (a lo w n : Nat) (h : Part.csr ∈ l) :
    s.changes l (t.count a lo w n) ↔ s.changes l t :=
  State.changes.through (m := [.csr]) (by rfl) (by simpa using h) s
@[simp] theorem State.changes_setRegion (r : Nat) (x : Region) (h : Part.rg ∈ l) :
    s.changes l (t.setRegion r x) ↔ s.changes l t :=
  State.changes.through (m := [.rg]) (by rfl) (by simpa using h) s
@[simp] theorem State.changes_setQueue (q : Nat) (x : Queue) (h : Part.qs ∈ l) :
    s.changes l (t.setQueue q x) ↔ s.changes l t :=
  State.changes.through (m := [.qs]) (by rfl) (by simpa using h) s
@[simp] theorem State.changes_setMbox (m : Nat) (x : Mbox) (h : Part.mb ∈ l) :
    s.changes l (t.setMbox m x) ↔ s.changes l t :=
  State.changes.through (m := [.mb]) (by rfl) (by simpa using h) s
@[simp] theorem State.changes_setPort (k : Nat) (x : Port) (h : Part.fab ∈ l) :
    s.changes l (t.setPort k x) ↔ s.changes l t :=
  State.changes.through (m := [.fab]) (by rfl) (by simpa using h) s
@[simp] theorem State.changes_setLane (n : Nat) (x : Lane) (h : Part.lane ∈ l) :
    s.changes l (t.setLane n x) ↔ s.changes l t :=
  State.changes.through (m := [.lane]) (by rfl) (by simpa using h) s
@[simp] theorem State.changes_setGck (n : Nat) (x : Gck) (h : Part.clk ∈ l) :
    s.changes l (t.setGck n x) ↔ s.changes l t :=
  State.changes.through (m := [.clk]) (by rfl) (by simpa using h) s
@[simp] theorem State.changes_setBank (r c v : Nat) (h : Part.fab ∈ l) :
    s.changes l (t.setBank r c v) ↔ s.changes l t :=
  State.changes.through (m := [.fab]) (by rfl) (by simpa using h) s
@[simp] theorem State.changes_setShared (r v : Nat) (h : Part.fab ∈ l) :
    s.changes l (t.setShared r v) ↔ s.changes l t :=
  State.changes.through (m := [.fab]) (by rfl) (by simpa using h) s
@[simp] theorem State.changes_setCross (r v : Nat) (h : Part.fab ∈ l) :
    s.changes l (t.setCross r v) ↔ s.changes l t :=
  State.changes.through (m := [.fab]) (by rfl) (by simpa using h) s
@[simp] theorem State.changes_setTf (key v : Nat) (h : Part.fab ∈ l) :
    s.changes l (t.setTf key v) ↔ s.changes l t :=
  State.changes.through (m := [.fab]) (by rfl) (by simpa using h) s
@[simp] theorem State.changes_setScrubVisits (b n : Nat) (h : Part.scrubN ∈ l) :
    s.changes l (t.setScrubVisits b n) ↔ s.changes l t :=
  State.changes.through (m := [.scrubN]) (by rfl) (by simpa using h) s
@[simp] theorem State.changes_setTap (x : Tap) (h : Part.tap ∈ l) :
    s.changes l (t.setTap x) ↔ s.changes l t :=
  State.changes.through (m := [.tap]) (by rfl) (by simpa using h) s
@[simp] theorem State.changes_setChain (c : Chain) (h : Part.chain ∈ l) :
    s.changes l (t.setChain c) ↔ s.changes l t :=
  State.changes.through (m := [.chain]) (by rfl) (by simpa using h) s
@[simp] theorem State.changes_setSide (k : Nat) (x : Side) (h : Part.chain ∈ l) :
    s.changes l (t.setSide k x) ↔ s.changes l t :=
  State.changes.through (m := [.chain]) (by rfl) (by simpa using h) s
@[simp] theorem State.changes_setLd (x : Loader) (h : Part.ld ∈ l) :
    s.changes l (t.setLd x) ↔ s.changes l t :=
  State.changes.through (m := [.ld]) (by rfl) (by simpa using h) s
@[simp] theorem State.changes_setSlot (k : Nat) (x : Slot) (h : Part.store ∈ l) :
    s.changes l (t.setSlot k x) ↔ s.changes l t :=
  State.changes.through (m := [.store]) (by rfl) (by simpa using h) s
@[simp] theorem State.changes_setSq (x : Seq) (h : Part.sq ∈ l) :
    s.changes l (t.setSq x) ↔ s.changes l t :=
  State.changes.through (m := [.sq]) (by rfl) (by simpa using h) s
@[simp] theorem State.changes_setProbe (x : Probe) (h : Part.probe ∈ l) :
    s.changes l (t.setProbe x) ↔ s.changes l t :=
  State.changes.through (m := [.probe]) (by rfl) (by simpa using h) s
@[simp] theorem State.changes_setLife (x : Life) (h : Part.life ∈ l) :
    s.changes l (t.setLife x) ↔ s.changes l t :=
  State.changes.through (m := [.life]) (by rfl) (by simpa using h) s
@[simp] theorem State.changes_setStore (x : Store) (h : Part.store ∈ l) :
    s.changes l (t.setStore x) ↔ s.changes l t :=
  State.changes.through (m := [.store]) (by rfl) (by simpa using h) s
@[simp] theorem State.changes_setIsl (x : Island) (h : Part.isl ∈ l) :
    s.changes l (t.setIsl x) ↔ s.changes l t :=
  State.changes.through (m := [.isl]) (by rfl) (by simpa using h) s
@[simp] theorem State.changes_setRails (x : Rails) (h : Part.rails ∈ l) :
    s.changes l (t.setRails x) ↔ s.changes l t :=
  State.changes.through (m := [.rails]) (by rfl) (by simpa using h) s
@[simp] theorem State.changes_latch (code src data : Nat) (h : Part.hl ∈ l) :
    s.changes l (t.latch code src data) ↔ s.changes l t :=
  State.changes.through (m := [.hl]) (by rfl) (by simpa using h) s
@[simp] theorem State.changes_announce (code data : Nat) (h : Part.hl ∈ l) :
    s.changes l (t.announce code data) ↔ s.changes l t :=
  State.changes.through (m := [.hl]) (by rfl) (by simpa using h) s
@[simp] theorem State.changes_direct (d : Directed) (h : Part.hl ∈ l) :
    s.changes l (t.direct d) ↔ s.changes l t :=
  State.changes.through (m := [.hl]) (by rfl) (by simpa using h) s
@[simp] theorem State.changes_fault (detail data : Nat) (h : Part.hl ∈ l) :
    s.changes l (t.fault detail data) ↔ s.changes l t :=
  State.changes.through (m := [.hl]) (by rfl) (by simpa using h) s
@[simp] theorem State.changes_faultHw (detail src data : Nat) (h : Part.hl ∈ l) :
    s.changes l (t.faultHw detail src data) ↔ s.changes l t :=
  State.changes.through (m := [.hl]) (by rfl) (by simpa using h) s
@[simp] theorem State.changes_sendZ (ps : List Nat) (o : ZOut) (h : Part.chain ∈ l) :
    s.changes l (t.sendZ ps o) ↔ s.changes l t :=
  State.changes.through (m := [.chain]) (by rfl) (by simpa using h) s
@[simp] theorem State.changes_sendMsg (ps : List Nat) (type flg dst : Nat) (b : List Byte) (h : Part.chain ∈ l) :
    s.changes l (t.sendMsg ps type flg dst b) ↔ s.changes l t :=
  State.changes.through (m := [.chain]) (by rfl) (by simpa using h) s
@[simp] theorem State.changes_passOn (ps : List Nat) (type : Nat) (m : ZMsg) (h : Part.chain ∈ l) :
    s.changes l (t.passOn ps type m) ↔ s.changes l t :=
  State.changes.through (m := [.chain]) (by rfl) (by simpa using h) s
@[simp] theorem State.changes_setLoaded (r c : Nat) (b : Bool) (h : Part.csr ∈ l) :
    s.changes l (t.setLoaded r c b) ↔ s.changes l t :=
  State.changes.through (m := [.csr]) (by rfl) (by simpa using h) s
@[simp] theorem State.changes_setRings (r : Nat) (x : Nat × Nat) (h : Part.csr ∈ l) :
    s.changes l (t.setRings r x) ↔ s.changes l t :=
  State.changes.through (m := [.csr]) (by rfl) (by simpa using h) s
@[simp] theorem State.changes_putWord (k w v : Nat) (h : [Part.mem, Part.flips, Part.ueSeen] ⊆ l) :
    s.changes l (t.putWord k w v) ↔ s.changes l t :=
  State.changes.through (m := [.mem, .flips, .ueSeen]) (by rfl) h s

@[simp] theorem State.changes_with_free (x : Nat) (h : Part.free ∈ l) : s.changes l { t with free := x } ↔ s.changes l t :=
  State.changes.through (m := [.free]) (by rfl) (by simpa using h) s
@[simp] theorem State.changes_with_tick (x : Tick) (h : Part.tick ∈ l) : s.changes l { t with tick := x } ↔ s.changes l t :=
  State.changes.through (m := [.tick]) (by rfl) (by simpa using h) s
@[simp] theorem State.changes_with_fab (x : Fabric) (h : Part.fab ∈ l) : s.changes l { t with fab := x } ↔ s.changes l t :=
  State.changes.through (m := [.fab]) (by rfl) (by simpa using h) s
@[simp] theorem State.changes_with_hl (x : Headland) (h : Part.hl ∈ l) : s.changes l { t with hl := x } ↔ s.changes l t :=
  State.changes.through (m := [.hl]) (by rfl) (by simpa using h) s
@[simp] theorem State.changes_with_clk (x : Clocks) (h : Part.clk ∈ l) : s.changes l { t with clk := x } ↔ s.changes l t :=
  State.changes.through (m := [.clk]) (by rfl) (by simpa using h) s
@[simp] theorem State.changes_with_net (x : List Packet) (h : Part.net ∈ l) : s.changes l { t with net := x } ↔ s.changes l t :=
  State.changes.through (m := [.net]) (by rfl) (by simpa using h) s
@[simp] theorem State.changes_with_noc (x : Noc) (h : Part.noc ∈ l) : s.changes l { t with noc := x } ↔ s.changes l t :=
  State.changes.through (m := [.noc]) (by rfl) (by simpa using h) s
@[simp] theorem State.changes_with_run (x : Run) (h : Part.run ∈ l) : s.changes l { t with run := x } ↔ s.changes l t :=
  State.changes.through (m := [.run]) (by rfl) (by simpa using h) s
@[simp] theorem State.changes_with_chain (x : Chain) (h : Part.chain ∈ l) : s.changes l { t with chain := x } ↔ s.changes l t :=
  State.changes.through (m := [.chain]) (by rfl) (by simpa using h) s
@[simp] theorem State.changes_with_bt (x : Boot) (h : Part.bt ∈ l) : s.changes l { t with bt := x } ↔ s.changes l t :=
  State.changes.through (m := [.bt]) (by rfl) (by simpa using h) s
@[simp] theorem State.changes_with_sq (x : Seq) (h : Part.sq ∈ l) : s.changes l { t with sq := x } ↔ s.changes l t :=
  State.changes.through (m := [.sq]) (by rfl) (by simpa using h) s
@[simp] theorem State.changes_with_store (x : Store) (h : Part.store ∈ l) : s.changes l { t with store := x } ↔ s.changes l t :=
  State.changes.through (m := [.store]) (by rfl) (by simpa using h) s
@[simp] theorem State.changes_with_life (x : Life) (h : Part.life ∈ l) : s.changes l { t with life := x } ↔ s.changes l t :=
  State.changes.through (m := [.life]) (by rfl) (by simpa using h) s

end

/-- The answer to a request changes mailboxes, Headland's state and the chain at most. -/
theorem State.changes_reply (s : State) (v : Service) (st : Nat) (b : List Byte) : s.changes [.mb, .hl, .chain] (s.reply v st b) :=
  s.reply_rest v st b

theorem State.ok_leaves (s : State) (v : Service) (b : List Byte) : s.changes [.mb, .hl, .chain] (s.ok v b) := s.changes_reply v 0 b

@[simp] theorem State.changes_ok (l : List Part) (s t : State) (v : Service) (b : List Byte) (h : [Part.mb, Part.hl, Part.chain] ⊆ l) :
    s.changes l (t.ok v b) ↔ s.changes l t := (t.changes_reply v 0 b).through h s

/-- An answer OK after a change. -/
theorem State.changes.ok {l m : List Part} {s t : State} (h : s.changes l t) (v : Service) (b : List Byte)
    (sub : [Part.mb, Part.hl, Part.chain] ++ l ⊆ m) : s.changes m (t.ok v b) := by
  obtain ⟨answer, change⟩ := List.append_subset.1 sub
  exact (h.mono change).trans ((t.ok_leaves v b).mono answer)

end Sys2Proof.Machine
end

section
/-! The loader: what the end of a load leaves and what it shows (spec/08 R259, R260, R276, R277). -/
namespace Sys2Proof.Machine

/-! ## What the operations of a load's end may change -/

@[simp] theorem State.changes_zeroRegs (l : List Part) (s t : State) (as : List Nat) (h : Part.csr ∈ l) :
    s.changes l (t.zeroRegs as) ↔ s.changes l t := State.changes_foldl_iff _ _ _ _ _ (by simp [h])

theorem State.endSounding_changes (s : State) (e : Nat) : s.changes [.csr, .hl] (s.endSounding e) := by
  unfold State.endSounding
  split
  · rfl
  · exact s.changes_refl _

@[simp] theorem State.changes_endSounding (l : List Part) (s t : State) (e : Nat) (h : [Part.csr, Part.hl] ⊆ l) :
    s.changes l (t.endSounding e) ↔ s.changes l t := (t.endSounding_changes e).through h s

@[simp] theorem State.changes_endLoans (l : List Part) (s t : State) (p : Nat × Nat × Nat → Bool) (h : [Part.csr, Part.hl] ⊆ l) :
    s.changes l (t.endLoans p) ↔ s.changes l t :=
  State.changes.through (by simp [State.endLoans]) h s

@[simp] theorem State.changes_fullLoadLoans (l : List Part) (s t : State) (h : [Part.csr, Part.hl] ⊆ l) :
    s.changes l t.fullLoadLoans ↔ s.changes l t :=
  State.changes.through (by simp [State.fullLoadLoans]) h s

/-- What the clearing of the configuration may change. -/
abbrev clearedParts : List Part := [.csr, .rg, .qs, .lane, .fab, .glob, .mem, .flips, .ueSeen, .net, .run]

theorem State.clearConfig_changes (s : State) : s.changes clearedParts s.clearConfig := by
  unfold State.clearConfig
  extract_lets a b c d e
  have he : s.changes clearedParts e := by simp [e, d, c, b, a]
  clear_value e
  exact he.trans (by rfl)

@[simp] theorem State.changes_clearConfig (l : List Part) (s t : State) (h : clearedParts ⊆ l) :
    s.changes l t.clearConfig ↔ s.changes l t := t.clearConfig_changes.through h s

theorem State.laneDown_changes (s : State) (n : Nat) : s.changes [.csr, .hl, .lane] (s.laneDown n) := by
  unfold State.laneDown
  split
  · exact s.changes_refl _
  · rfl

@[simp] theorem State.changes_laneDown (l : List Part) (s t : State) (n : Nat) (h : [Part.csr, Part.hl, Part.lane] ⊆ l) :
    s.changes l (t.laneDown n) ↔ s.changes l t := (t.laneDown_changes n).through h s

@[simp] theorem State.changes_commitQuad (l : List Part) (s t : State) (q f : Nat) (h : [Part.csr, Part.hl, Part.lane] ⊆ l) :
    s.changes l (t.commitQuad q f) ↔ s.changes l t :=
  State.changes.through (by simp [State.commitQuad]) h s

@[simp] theorem State.changes_disableLanes (l : List Part) (s t : State) (h : [Part.csr, Part.hl, Part.lane] ⊆ l) :
    s.changes l t.disableLanes ↔ s.changes l t :=
  State.changes.through (by simp [State.disableLanes]) h s

/-- What the loss of the configuration may change, beside the chain's mark. -/
abbrev unconfiguredParts : List Part := [.csr, .rg, .qs, .lane, .fab, .glob, .mem, .flips, .ueSeen, .net, .run, .hl]

@[simp] theorem State.changes_unconfigure (l : List Part) (s t : State) (h : .chain :: unconfiguredParts ⊆ l) :
    s.changes l t.unconfigure ↔ s.changes l t :=
  State.changes.through (by simp [State.unconfigure]) h s

/-- On the chain the loss of the configuration shows in one mark. -/
theorem State.unconfigure_chain (s : State) : s.unconfigure.chain = { s.chain with unconf := true } := by
  unfold State.unconfigure
  extract_lets t c u
  have ht : s.changes unconfiguredParts t := by simp [t]
  clear_value t
  have hu : u.changes [.rg] (forAll 96 (fun r t => t.setRegion r { t.region r with cause := 4 }) u) := by simp
  exact (hu.same .chain (by decide)).trans (congrArg (fun c : Chain => { c with unconf := true }) (ht.same .chain (by decide)))

/-! ## Reports (R259, R277, R330 to R332) -/

@[simp] theorem State.changes_headRecord (l : List Part) (s t : State) (r : FRep) (h : [Part.chain, Part.hl] ⊆ l) :
    s.changes l (t.headRecord r) ↔ s.changes l t := by
  refine State.changes.through ?_ h s
  unfold State.headRecord
  extract_lets c u post c' w
  have hu : t.changes [.chain, .hl] u := by simp [u]
  clear_value u
  split
  · simp
  · split
    · simp [post, hu]
    · simp [post, w, hu]

@[simp] theorem State.changes_originate (l : List Part) (s t : State) (r : FRep) (h : [Part.chain, Part.hl] ⊆ l) :
    s.changes l (t.originate r) ↔ s.changes l t :=
  State.changes.through (by simp [State.originate, State.enterFault]) h s

@[simp] theorem State.changes_selfReport (l : List Part) (s t : State) (code detail : Nat) (h : [Part.chain, Part.hl] ⊆ l) :
    s.changes l (t.selfReport code detail) ↔ s.changes l t := by
  simp [State.selfReport, h]

@[simp] theorem State.changes_postReport (l : List Part) (s t : State) (f : Fail) (b : Bool) (h : [Part.chain, Part.hl, Part.ld] ⊆ l) :
    s.changes l (t.postReport f b) ↔ s.changes l t :=
  State.changes.through (by simp [State.postReport]) h s

@[simp] theorem State.changes_tellUnconfigured (l : List Part) (s t : State) (h : [Part.chain, Part.hl, Part.bt] ⊆ l) :
    s.changes l t.tellUnconfigured ↔ s.changes l t :=
  State.changes.through (by simp [State.tellUnconfigured]) h s

/-! ## The boot procedure -/

@[simp] theorem State.changes_beginLoad (l : List Part) (s t : State) (a b c d e f g : Nat) (boot : Bool)
    (h : [Part.ld, Part.bt, Part.sq] ⊆ l) : s.changes l (t.beginLoad a b c d e f g boot) ↔ s.changes l t := by
  refine State.changes.through ?_ h s
  unfold State.beginLoad
  extract_lets x u b v
  have hv : t.changes [.ld, .bt, .sq] v := by
    unfold v
    split <;> rfl
  clear_value v
  split
  · exact hv.trans (by rfl)
  · exact hv

/-- What the end of a load may change. -/
abbrev loadParts : List Part := .chain :: .ld :: .bt :: .sq :: unconfiguredParts

@[simp] theorem State.changes_bootFail (l : List Part) (s t : State) (h : .chain :: .bt :: unconfiguredParts ⊆ l) :
    s.changes l t.bootFail ↔ s.changes l t :=
  State.changes.through (by simp [State.bootFail]) h s

@[simp] theorem State.changes_bootLoop (l : List Part) (s t : State) (n : Nat) (h : loadParts ⊆ l) :
    s.changes l (State.bootLoop n t) ↔ s.changes l t := by
  refine State.changes.through ?_ h s
  induction n generalizing t with
  | zero => simp [State.bootLoop]
  | succ n ih =>
    have again (x : Boot) : t.changes loadParts (State.bootLoop n { t with bt := x }) := (State.changes.trans (by simp) (ih _))
    simp [State.bootLoop, State.beginBoot, again]

@[simp] theorem State.changes_bootResume (l : List Part) (s t : State) (h : loadParts ⊆ l) :
    s.changes l t.bootResume ↔ s.changes l t := State.changes.through (by simp [State.bootResume]) h s

/-! ## Rejection -/

@[simp] theorem State.changes_unloadTarget (l : List Part) (s t : State) (r c : Nat) (h : [Part.csr, Part.fab] ⊆ l) :
    s.changes l (t.unloadTarget r c) ↔ s.changes l t := State.changes.through (m := [.csr, .fab]) (by rfl) h s

@[simp] theorem State.changes_holdRegion (l : List Part) (s t : State) (r cause : Nat) (h : [Part.rg, Part.fab] ⊆ l) :
    s.changes l (t.holdRegion r cause) ↔ s.changes l t := State.changes.through (by simp [State.holdRegion]) h s

@[simp] theorem State.changes_failRegion (l : List Part) (s t : State) (x : Loader) (tied : Bool) (r : Nat) (h : [Part.rg, Part.fab] ⊆ l) :
    s.changes l (t.failRegion x tied r) ↔ s.changes l t :=
  State.changes.through (by simp [State.failRegion, State.snapShafts]) h s

@[simp] theorem State.changes_eachTarget (l : List Part) (s t : State) (x : Loader) (f : Nat → Nat → State → State)
    (h : ∀ r c u, State.changes l u (f r c u)) : s.changes l (t.eachTarget x f) ↔ s.changes l t := by
  have inner (r : Nat) (u : State) : u.changes l (forAll 8 (fun c w => if x.isTarget r c then f r c w else w) u) := by simp [h]
  simp [State.eachTarget, inner]

@[simp] theorem State.changes_bootFailed (l : List Part) (s t : State) (d : Nat) (h : loadParts ⊆ l) :
    s.changes l (t.bootFailed d) ↔ s.changes l t := by
  refine State.changes.through ?_ h s
  exact (State.changes_bootLoop _ _ _ _ (by simp)).2 (by rfl)

/-- Does the load that ends take the whole configuration with it? -/
def State.endsWhole (s : State) (accepted : Bool) : Bool := if accepted then s.ld.full else s.ld.kind = 1

/-- What the rejection of a load clears before it is reported: the configuration, or the targets and their regions. -/
def State.rejected (s : State) (accepted : Bool) : State :=
  if s.endsWhole accepted then s.unconfigure
  else if accepted then
    s.ld.held.foldl (fun t r => t.failRegion s.ld (s.tied r) r) (s.eachTarget s.ld (fun r c t => t.unloadTarget r c))
  else s

theorem State.rejected_changes (s : State) (accepted : Bool) : s.changes (.chain :: unconfiguredParts) (s.rejected accepted) := by
  simp [State.rejected]

/-- The end of a load, from its report on. -/
theorem State.rejectLoad_eq (s : State) (f : Fail) (accepted : Bool) : s.rejectLoad f accepted =
    if s.ld.boot then ((s.rejected accepted).postReport f accepted).bootFailed f.detail
    else (if s.endsWhole accepted && !((s.rejected accepted).postReport f accepted).bt.on
        && !((s.rejected accepted).postReport f accepted).bt.brown
      then ((s.rejected accepted).postReport f accepted).tellUnconfigured else (s.rejected accepted).postReport f accepted).bootResume := by
  cases accepted <;> simp [State.rejectLoad, State.rejected, State.endsWhole]

theorem State.tellUnconfigured_bt (s : State) : s.tellUnconfigured.bt = { s.bt with told := true } := by
  unfold State.tellUnconfigured
  split
  · next h => rw [← h]
  · exact (State.changes.same (l := [.chain, .hl]) (by simp : State.changes _ (({ s with bt := { s.bt with told := true } } : State).fault
      0x0107 (s.ld.report.toNat % 2 ^ 160)) _) .bt (by decide))

theorem State.bootResume_off {s : State} (h : s.bt.on = false) : s.bootResume = s := by simp [State.bootResume, h]

theorem State.reported_changes (s : State) (f : Fail) (accepted : Bool) :
    s.changes (.chain :: .ld :: unconfiguredParts) ((s.rejected accepted).postReport f accepted) :=
  ((s.rejected_changes accepted).mono (by decide)).trans (by simp)

/-- The end of a load outside the boot procedure: what it clears, its report, and what a unit without a configuration tells. -/
theorem State.rejectLoad_commanded {s : State} (f : Fail) (accepted : Bool) (boot : s.ld.boot = false) (on : s.bt.on = false) :
    s.rejectLoad f accepted =
      if s.endsWhole accepted && !s.bt.brown then
        ((s.rejected accepted).postReport f accepted).tellUnconfigured
      else (s.rejected accepted).postReport f accepted := by
  have hbt : ((s.rejected accepted).postReport f accepted).bt = s.bt := (s.reported_changes f accepted).same .bt (by decide)
  have hon : (if s.endsWhole accepted && !s.bt.brown then
      ((s.rejected accepted).postReport f accepted).tellUnconfigured else (s.rejected accepted).postReport f accepted).bt.on = false := by
    split
    · rw [State.tellUnconfigured_bt, hbt, on]
    · rw [hbt, on]
  rw [State.rejectLoad_eq, boot, hbt, on]
  simp only [Bool.false_eq_true, if_false, Bool.not_false, Bool.and_true, State.bootResume_off hon]

theorem State.rejectLoad_changes (s : State) (f : Fail) (accepted : Bool) : s.changes loadParts (s.rejectLoad f accepted) := by
  rw [State.rejectLoad_eq]
  refine ((s.reported_changes f accepted).mono (by decide)).trans ?_
  simp

/-! ## What a report shows (R259, R330, Table CFG-16) -/

/-- Headland with more events latched. -/
def Headland.latched (h : Headland) (ls : List Latch) : Headland := { h with latches := h.latches ++ ls }

@[simp] theorem Headland.latched_nil (h : Headland) : h.latched [] = h := by simp [Headland.latched]

@[simp] theorem Headland.latched_latched (h : Headland) (a b : List Latch) : (h.latched a).latched b = h.latched (a ++ b) := by
  simp [Headland.latched]

theorem State.fault_hl (s : State) (detail data : Nat) : (s.fault detail data).hl = s.hl.latched [⟨0x0B, 0, detail + data * 2 ^ 32, 0⟩] := rfl

/-- The head's record of a report: nothing is sent, and an event is posted at most. -/
theorem State.headRecord_shows (s : State) (r : FRep) : (s.headRecord r).chain.sent = s.chain.sent ∧
    ∃ ls, (s.headRecord r).hl = s.hl.latched ls := by
  unfold State.headRecord
  split
  · exact ⟨rfl, [], by simp⟩
  · extract_lets c u post c' w
    have sent : u.chain.sent = s.chain.sent := by
      unfold u
      split <;> rfl
    have hl : u.hl = s.hl := by
      unfold u
      split <;> rfl
    clear_value u
    split
    · extract_lets quiet e' x
      split
      · exact ⟨sent, [], by simp [x, hl]⟩
      · exact ⟨sent, [_], congrArg (Headland.latched · [_]) hl⟩
    · have sentw : w.chain.sent = u.chain.sent := by
        unfold w
        split <;> rfl
      have hlw : w.hl = u.hl := by
        unfold w
        split <;> rfl
      exact ⟨sentw.trans sent, [_], congrArg (Headland.latched · [_]) (hlw.trans hl)⟩

theorem State.originate_hl (s : State) (r : FRep) : ∃ ls, (s.originate r).hl = s.hl.latched ls := by
  unfold State.originate
  split
  · exact ⟨[], by simp⟩
  · exact (State.headRecord_shows _ r).2

/-- A report that is not known leaves on every port (R331). -/
theorem State.originate_sent {s : State} {r : FRep} (h : s.knownFault r.origin r.code = false) :
    ∃ m, (s.originate r).chain.sent = s.chain.sent ++ [(upPorts ++ downPorts, .msg tFault m)] := by
  unfold State.originate
  rw [if_neg (by simp [h]), (State.headRecord_shows _ r).1]
  exact ⟨_, rfl⟩

/-- The unit that is without a configuration tells it: with EV_FAULT, BOOT_FAIL, unless it has been told. -/
theorem State.tellUnconfigured_hl (s : State) : ∃ ls, s.tellUnconfigured.hl = s.hl.latched ls ∧
    (s.bt.told = false → ∃ l ∈ ls, l.code = 0x0B ∧ l.data % 2 ^ 32 = 0x0107) := by
  unfold State.tellUnconfigured
  split
  · next h => exact ⟨[], by simp, by simp [h]⟩
  · obtain ⟨ls, h⟩ := State.originate_hl (({ s with bt := { s.bt with told := true } } : State).fault 0x0107
      (s.ld.report.toNat % 2 ^ 160)) (State.report _ _ 5 0x0107)
    exact ⟨_, h.trans (Headland.latched_latched _ [_] ls), fun _ => ⟨_, List.mem_cons_self, rfl, Nat.add_mul_mod_self_right _ _ _⟩⟩

theorem State.tellUnconfigured_sent {s : State} (told : s.bt.told = false) (known : s.chain.ftab = []) :
    ∃ m, s.tellUnconfigured.chain.sent = s.chain.sent ++ [(upPorts ++ downPorts, .msg tFault m)] := by
  unfold State.tellUnconfigured
  rw [if_neg (by simp [told])]
  exact State.originate_sent (by simp [State.knownFault, State.fault, State.announce, known])

/-- Status and detail in a load's report. -/
theorem State.loadReport_fields (s : State) (f : Fail) (accepted : Bool) :
    fieldAt (s.loadReport f accepted).toNat 0 1 = f.status % 2 ^ 8 ∧ fieldAt (s.loadReport f accepted).toNat 2 2 = f.detail % 2 ^ 16 := by
  unfold State.loadReport
  extract_lets l
  rw [packLE, packLE, packLE]
  generalize packLE _ = x
  simp only [BitVec.toNat_ofNat, fieldAt, bits, Nat.shiftRight_eq_div_pow]
  omega

theorem State.postReport_ld (s : State) (f : Fail) (accepted : Bool) : (s.postReport f accepted).ld.phase = .idle ∧
    (s.postReport f accepted).ld.report = s.loadReport f accepted := ⟨rfl, rfl⟩

theorem State.postReport_directed (s : State) (f : Fail) (accepted : Bool) : (s.postReport f accepted).hl.directed = s.hl.directed ++
    [⟨s.ld.mb, s.ld.tag, 1, (s.loadReport f accepted).toNat, decide (f.status ≠ 0), f.detail⟩] := by
  unfold State.postReport
  extract_lets l rep u v
  have h : v.hl = u.hl := by
    unfold v
    split <;> rfl
  exact congrArg Headland.directed h

/-- A load that ends outside the boot procedure: the loader is idle, the report holds status and detail, and the load's mailbox is
told. -/
theorem State.rejectLoad_ends {s : State} (f : Fail) (accepted : Bool) (boot : s.ld.boot = false) (on : s.bt.on = false) :
    (s.rejectLoad f accepted).ld.phase = .idle ∧ fieldAt (s.rejectLoad f accepted).ld.report.toNat 0 1 = f.status % 2 ^ 8 ∧
    fieldAt (s.rejectLoad f accepted).ld.report.toNat 2 2 = f.detail % 2 ^ 16 ∧
    ∃ d ∈ (s.rejectLoad f accepted).hl.directed, d.mb = s.ld.mb ∧ d.tag = s.ld.tag ∧ d.code = 1 ∧
      d.data = (s.rejectLoad f accepted).ld.report.toNat := by
  have hld : (s.rejected accepted).ld = s.ld := (s.rejected_changes accepted).same .ld (by decide)
  have ends : (s.rejectLoad f accepted).ld = ((s.rejected accepted).postReport f accepted).ld ∧
      (s.rejectLoad f accepted).hl.directed = ((s.rejected accepted).postReport f accepted).hl.directed := by
    rw [State.rejectLoad_commanded f accepted boot on]
    split
    · obtain ⟨ls, h, -⟩ := ((s.rejected accepted).postReport f accepted).tellUnconfigured_hl
      exact ⟨State.changes.same (l := [.chain, .hl, .bt]) (by simp) .ld (by decide), (congrArg Headland.directed h :).trans rfl⟩
    · exact ⟨rfl, rfl⟩
  rw [ends.1, ends.2, State.postReport_directed, (State.postReport_ld _ f accepted).1, (State.postReport_ld _ f accepted).2, ← hld]
  obtain ⟨status, detail⟩ := (s.rejected accepted).loadReport_fields f accepted
  exact ⟨rfl, status, detail, _, List.mem_append_right _ (List.mem_singleton.2 rfl), rfl, rfl, rfl, rfl⟩

end Sys2Proof.Machine
end

section
/-! Loads and the chain's head asked by request (spec/12 R371, R378). -/
namespace Sys2Proof.Machine

/-! ## BCAST_ABORT of a load of the head's own -/

/-- The answer to another mailbox than MB1 sends nothing. -/
theorem State.ok_sent {s : State} {v : Service} (h : v.mb ≠ 1) (b : List Byte) : (s.ok v b).chain = s.chain := s.reply_chain v 0 b h

theorem State.postReport_sent (s : State) (f : Fail) (accepted : Bool) : (s.postReport f accepted).chain.ftab = s.chain.ftab ∧
    ∃ l, (s.postReport f accepted).chain.sent = s.chain.sent ++ l := by
  unfold State.postReport
  extract_lets l rep u v
  unfold v
  split
  · exact ⟨rfl, _, rfl⟩
  · exact ⟨rfl, [], (List.append_nil _).symm⟩

/-- A full load that ends outside the boot procedure sends the unit's report that it has no configuration. -/
theorem State.rejectLoad_sends {s : State} (f : Fail) (accepted : Bool) (boot : s.ld.boot = false) (on : s.bt.on = false)
    (whole : s.endsWhole accepted = true) (brown : s.bt.brown = false) (told : s.bt.told = false) (known : s.chain.ftab = []) :
    s.chain.sent.length < (s.rejectLoad f accepted).chain.sent.length := by
  have cleared : (s.rejected accepted).chain = { s.chain with unconf := true } := by
    rw [State.rejected, if_pos whole, State.unconfigure_chain]
  obtain ⟨ftab, l, sent⟩ := (s.rejected accepted).postReport_sent f accepted
  have hbt := (s.reported_changes f accepted).same .bt (by decide)
  obtain ⟨m, tells⟩ := State.tellUnconfigured_sent (s := (s.rejected accepted).postReport f accepted)
    (by rw [show _ = s.bt from hbt, told]) (by rw [ftab, cleared, known])
  rw [State.rejectLoad_commanded f accepted boot on, if_pos (by simp [whole, brown]), tells, sent, cleared]
  simp

/-- BCAST_ABORT, asked by MB0. -/
def abortService : Service := ⟨0, 0x0808, 240, 7, 0⟩

/-- The head of a chain loads its own broadcast, from the chain, and is asked for BCAST_ABORT. -/
def abortingHead : State where
  csr := [(ZV 0 0x800, 0x2000000)]
  hl := { up := true, serving := some abortService }
  chain := { bcast := { st := 1, flags := 2 } }
  ld := { phase := .header, source := 3 }

/-- That head with the closing BCAST sent. -/
def abortingHead.closed : State :=
  (abortingHead.setChain { abortingHead.chain with bcast := { abortingHead.chain.bcast with closed := true, aborted := true } }).sendMsg
    downPorts tBcast 0 0xFFF [1]

/-- Refutes O12: the abort of the head's own load leaves it without a configuration, which it reports on the chain behind the
closing BCAST; the statement says that nothing but that BCAST leaves. -/
theorem not_headActs : ¬ Obligations.HeadActs := by
  intro h
  obtain ⟨-, acts⟩ := h abortingHead abortService
  obtain ⟨-, -, -, abort, -⟩ := acts (by decide)
  obtain ⟨-, aborts⟩ := abort ⟨rfl, rfl, rfl⟩ rfl _ rfl
  obtain ⟨t, run, -, -, -, -, -, -, m, ⟨rest, sent, none⟩, -⟩ := aborts rfl rfl (by decide) rfl rfl
  have one : t.chain.sent.length = 1 := by rw [sent, none (by decide)]; rfl
  have next : t = State.bcastAbort abortService abortingHead := by
    have eq := Host.Outcome.next.inj (run.symm.trans (show exec .bcastAbort abortingHead = _ from rfl))
    rw [eq, State.request_serves _ 0x0808 _ abortService ⟨rfl, rfl, rfl⟩, State.headOnly_head (by decide)]
  have ends : State.bcastAbort abortService abortingHead =
      (abortingHead.closed.failLoad { status := stCONFLICT, detail := dABORTED }).ok abortService [] := by
    rw [State.bcastAbort, if_neg (by decide)]
    exact congrArg (State.ok · abortService []) (if_pos (by decide))
  have more := abortingHead.closed.rejectLoad_sends { status := stCONFLICT, detail := dABORTED } false rfl rfl rfl rfl rfl rfl
  rw [next, ends, State.ok_sent (by decide), State.failLoad,
    show decide (abortingHead.closed.ld.phase ≠ .header) = false from rfl] at one
  rw [one] at more
  exact absurd more (by decide)

/-! ## Requests on loads -/

/-- A load that begins waits for its header, with the operands of its command. -/
theorem State.beginLoad_ld (s : State) (src slot kind rel target mb tag : Nat) (boot : Bool) :
    (s.beginLoad src slot kind rel target mb tag boot).ld =
      { phase := .header, source := src, slot := slot, kind := kind, release := rel, target := target, mb := mb, tag := tag, boot := boot
        attempt := if boot then s.bt.n else 0, buf := if src = 0 then (s.slot slot).bytes else [], startPs := s.timePs, grp := s.ld.grp
        report := s.ld.report, pspErr := s.ld.pspErr, pspGap := s.ld.pspGap, sspSkip := s.ld.sspSkip, sspOpen := s.ld.sspOpen } := by
  unfold State.beginLoad
  extract_lets x u b w
  have hw : w.ld = x := by
    unfold w
    split <;> rfl
  split
  · exact hw
  · exact hw

theorem State.beginLoad_bt (s : State) (src slot kind rel target mb tag : Nat) :
    (s.beginLoad src slot kind rel target mb tag false).bt = s.bt := by
  unfold State.beginLoad
  extract_lets x u b w
  split <;> rfl

/-- A command of a load asked by the host for MB0, that the boot procedure waits for. -/
theorem State.loadStart_boot {s : State} {v : Service} {f : Nat} (hf : s.loadRefusal v = .ok f) (h0 : v.mb = 0) (h4 : v.u 0 1 = 4)
    (h1 : v.u 2 1 = 1) (on : s.bt.on = true) (src : s.bt.source = 4) :
    State.loadStart v s = (s.beginBoot.setLd { s.beginBoot.ld with tag := v.tag }).ok v [] := by
  simp only [State.loadStart, hf, h0, h4, h1, on, src, decide_true, Bool.and_self, if_true]

theorem State.loadStart_commanded {s : State} {v : Service} {f : Nat} (hf : s.loadRefusal v = .ok f)
    (h : v.mb ≠ 0 ∨ v.u 0 1 ≠ 4 ∨ v.u 2 1 ≠ 1 ∨ s.bt.on = false ∨ s.bt.source ≠ 4) :
    State.loadStart v s = ((if v.u 2 1 = 1 then { s with bt := { s.bt with on := false } } else s).beginLoad (v.u 0 1)
      (if v.u 0 1 = 0 then v.u 1 1 else 0xFF) (v.u 2 1) (v.u 3 1) f v.mb v.tag false).ok v [] := by
  have no : ¬(v.mb = 0 && v.u 0 1 = 4 && v.u 2 1 = 1 && s.bt.on && s.bt.source = 4) = true := by
    simp only [Bool.and_eq_true, decide_eq_true_eq]
    grind
  simp only [State.loadStart, hf, if_neg no]

/-- Settles O13: a load begins with its command's operands, and one that is aborted ends as every load outside the boot procedure. -/
theorem loadRequests : Obligations.LoadRequests := by
  intro s v
  refine ⟨fun h f hf => ⟨fun h0 h4 h1 on src => completes_request rfl h ?_, fun other => completes_request rfl h ?_⟩,
    fun h busy => completes_request rfl h ?_, fun h idle power seq src empty => completes_request rfl h ?_,
    fun h run src mine stalled wants took => completes_request rfl h ?_, fun h run who => completes_request rfl h ?_,
    fun h idle => completes_request rfl h ?_, fun h seq rel step => completes_request rfl h ?_⟩
  · rw [State.loadStart_boot hf h0 h4 h1 on src]
    have begun : s.changes [.ld, .bt, .sq] s.beginBoot := by simp [State.beginBoot]
    have ld : s.beginBoot.ld = _ := s.beginLoad_ld _ _ _ _ _ _ _ _
    generalize s.beginBoot = u at *
    have all : s.changes [.mb, .hl, .chain, .ld, .bt, .sq] ((u.setLd { u.ld with tag := v.tag }).ok v []) :=
      State.changes.ok (begun.trans (by rfl)) v [] (by decide)
    rw [ld] at all ⊢
    have ldt (x : Loader) : ((u.setLd x).ok v []).ld = x := ((u.setLd x).ok_leaves v []).same .ld (by decide)
    refine ⟨State.ok_answered_of (u := u.setLd _) (by exact begun.same .mb (by decide)) v [], ?_, ?_, ?_, ?_, ?_, ?_, all.same .mem (by decide), all.same .csr (by decide),
      all.same .rg (by decide)⟩
    all_goals rw [ldt]
    exact src
  · rw [State.loadStart_commanded hf other]
    generalize hu : (if v.u 2 1 = 1 then { s with bt := { s.bt with on := false } } else s) = u
    have hu' : s.changes [.bt] u := by simp [← hu]
    have on : u.bt.on = (s.bt.on && decide (v.u 2 1 ≠ 1)) := by
      rw [← hu]
      split <;> simp_all
    have ld := u.beginLoad_ld (v.u 0 1) (if v.u 0 1 = 0 then v.u 1 1 else 0xFF) (v.u 2 1) (v.u 3 1) f v.mb v.tag false
    have bt := u.beginLoad_bt (v.u 0 1) (if v.u 0 1 = 0 then v.u 1 1 else 0xFF) (v.u 2 1) (v.u 3 1) f v.mb v.tag
    have begun : u.changes [.ld, .bt, .sq] (u.beginLoad (v.u 0 1) (if v.u 0 1 = 0 then v.u 1 1 else 0xFF) (v.u 2 1) (v.u 3 1) f v.mb
      v.tag false) := by simp
    generalize u.beginLoad _ _ _ _ _ _ _ _ = t at *
    have all : s.changes [.mb, .hl, .chain, .ld, .bt, .sq] (t.ok v []) := ((hu'.mono (by decide)).trans begun).ok v [] (by decide)
    have done := t.ok_leaves v []
    have ldt : (t.ok v []).ld = _ := (done.same .ld (by decide)).trans ld
    have lds : u.ld = s.ld := hu'.same .ld (by decide)
    refine ⟨State.ok_answered_of ((begun.same .mb (by decide)).trans (hu'.same .mb (by decide))) v [], ?_, ?_, ?_, ?_, ?_, ?_, ?_, ?_, ?_, ?_, ?_,
      all.same .mem (by decide), all.same .csr (by decide), all.same .rg (by decide)⟩
    case refine_11 => rw [show State.bt _ = _ from done.same .bt (by decide), bt, on]
    all_goals rw [ldt]
    all_goals rw [lds]
  · simp only [State.loadStart, State.loadRefusal, busy, ne_eq, not_false_eq_true, decide_true, Bool.true_or, if_true]
    exact s.err_turnedAway v _ _
  · have go : ¬(v.u 2 1 = 2 && s.sequencing) = true := by
      simp only [Bool.and_eq_true, decide_eq_true_eq]
      grind
    simp only [State.loadStart, State.loadRefusal, idle, power, src, empty, ne_eq, not_true_eq_false, decide_false, Bool.or_self,
      Bool.false_eq_true, if_false, if_neg go, not_false_eq_true, decide_true, Bool.and_self, if_true]
    exact s.err_turnedAway v _ _
  · have feeds : State.loadData v s = (s.feed v.data).ok v [] := by
      simp only [State.loadData, run, src, mine, stalled, wants, took, ne_eq, not_false_eq_true, decide_true, Bool.and_self,
        Bool.and_false, Bool.false_eq_true, if_false, Bool.not_true, Bool.or_self, not_true_eq_false]
    rw [feeds]
    refine ⟨State.ok_answered_of rfl v [], ((s.feed v.data).ok_leaves v []).same .ld (by decide), ?_⟩
    exact (State.changes_ok [.mb, .hl, .chain, .ld] _ _ _ _ (by simp)).2 (by rfl)
  · have no : ¬(v.mb ≠ s.ld.mb ∧ v.mb ≠ 0 ∧ v.mb ≠ 6) := by grind
    rw [State.loadAbort, if_neg run, if_neg no, State.failLoad]
    have ended := s.rejectLoad_changes { status := stCONFLICT, detail := dABORTED } (s.ld.phase ≠ .header)
    have ends := s.rejectLoad_ends { status := stCONFLICT, detail := dABORTED } (s.ld.phase ≠ .header)
    generalize s.rejectLoad _ _ = t at *
    have done := t.ok_leaves v []
    have otp : (t.ok v []).life = s.life := (done.same .life (by decide)).trans (ended.same .life (by decide))
    refine ⟨State.ok_answered_of (ended.same .mb (by decide)) v [], by rw [otp], fun boot on => ?_⟩
    rw [show State.ld _ = _ from done.same .ld (by decide), State.ok_hl]
    exact ends boot on
  · rw [State.loadAbort, if_pos idle]
    exact s.err_turnedAway v _ _
  · rw [State.declareStep, if_pos (by simp [seq, rel, step])]
    refine ⟨State.ok_answered_of rfl v [], ((s.setSq { s.sq with declared := true }).ok_leaves v []).same .sq (by decide), ?_⟩
    exact (State.changes_ok [.mb, .hl, .chain, .sq] _ _ _ _ (by simp)).2 (by rfl)

end Sys2Proof.Machine
end

section
/-! The OTP engine, the image store's engine and the power-on reset (spec/08 R249, R268 to R274, spec/14 R417, R428 to R436). -/
namespace Sys2Proof.Machine

/-! ## What the engines may change -/

theorem holdsUp_min (c mv need : Nat) : holdsUp c (min mv 2000) need = holdsUp c mv need := by simp [holdsUp]

@[simp] theorem State.changes_sense (l : List Part) (s t : State) (mv : Nat) (h : Part.store ∈ l) :
    s.changes l (t.sense mv) ↔ s.changes l t := State.changes.through (m := [.store]) (by rfl) (by simpa using h) s

@[simp] theorem State.changes_startBurn (l : List Part) (s t : State) (h : Part.life ∈ l) :
    s.changes l t.startBurn ↔ s.changes l t := State.changes.through (m := [.life]) (by simp [State.startBurn]) (by simpa using h) s

@[simp] theorem State.changes_startErase (l : List Part) (s t : State) (h : Part.store ∈ l) :
    s.changes l t.startErase ↔ s.changes l t := State.changes.through (m := [.store]) (by simp [State.startErase]) (by simpa using h) s

@[simp] theorem State.changes_writeBootRec (l : List Part) (s t : State) (a b c : Nat) (h : Part.store ∈ l) :
    s.changes l (t.writeBootRec a b c) ↔ s.changes l t :=
  State.changes.through (m := [.store]) (by simp [State.writeBootRec]) (by simpa using h) s

@[simp] theorem State.changes_rollRecord (l : List Part) (s t : State) (h : [Part.store, Part.life] ⊆ l) :
    s.changes l t.rollRecord ↔ s.changes l t := State.changes.through (by simp [State.rollRecord]) h s

@[simp] theorem State.changes_rollForward (l : List Part) (s t : State) (h : [Part.store, Part.life] ⊆ l) :
    s.changes l t.rollForward ↔ s.changes l t :=
  State.changes.through (by simp [State.rollForward, State.emptySlot]) h s

@[simp] theorem State.changes_rollState (l : List Part) (s t : State) (h : Part.life ∈ l) :
    s.changes l t.rollState ↔ s.changes l t := State.changes.through (m := [.life]) (by simp [State.rollState]) (by simpa using h) s

/-! ## The reading at HOLDUP_SENSE stands -/

@[simp] theorem State.startBurn_mv (s : State) : s.startBurn.store.mv = s.store.mv :=
  congrArg Store.mv (State.changes.same (l := [.life]) (by simp) .store (by decide))

@[simp] theorem State.startErase_mv (s : State) : s.startErase.store.mv = s.store.mv := by
  unfold State.startErase
  split
  · rfl
  · split <;> rfl

/-- Which copy of the boot record is written makes no difference to the reading. -/
theorem State.setRec_mv (s : State) (c : Prop) [Decidable c] (r : BitVec 512) :
    (if c then s.setStore { s.store with rec1 := r } else s.setStore { s.store with rec0 := r }).store.mv = s.store.mv := by
  split <;> rfl

@[simp] theorem State.writeBootRec_mv (s : State) (a b c : Nat) : (s.writeBootRec a b c).store.mv = s.store.mv := s.setRec_mv _ _

@[simp] theorem State.rollRecord_mv (s : State) : s.rollRecord.store.mv = s.store.mv := by
  unfold State.rollRecord
  split
  · exact s.writeBootRec_mv 0 0 s.holdupC
  · rfl

@[simp] theorem State.rollForward_mv (s : State) : s.rollForward.store.mv = s.store.mv := by
  unfold State.rollForward
  dsimp only
  split
  · rfl
  · split
    · rfl
    · exact foldl_leaves (f := fun t k => t.emptySlot k) (fun t : State => t.store.mv) (fun _ _ => rfl) _ (s.setLife _)

/-! ## Power-on -/

/-- Headland as the power-on reset starts it. -/
theorem State.startHeadland_hl {s : State} (lc : s.life.start = s.lc) : s.startHeadland.hl =
    if s.lc = 7 ∨ s.fwStarts s.hl.sel = true then { s.hl with up := true, run := s.hl.sel, newFw := true }
    else if s.fwStarts (1 - s.hl.sel) = true then { s.hl with up := true, run := 1 - s.hl.sel, newFw := false } else s.hl := by
  have other : ¬1 - s.hl.sel = s.hl.sel := by omega
  simp only [State.startHeadland, State.fwStart, State.scrapped, lc]
  by_cases first : s.lc = 7 ∨ s.fwStarts s.hl.sel = true
  · simp [first]
  · by_cases second : s.fwStarts (1 - s.hl.sel) = true
    · simp [first, second, other]
    · simp [first, second]

/-- The engine that is asked again, where no roll-forward waits for its boot record. -/
theorem State.burnRetry_life {s : State} {mv : Nat} (burns : s.life.burns ≠ []) (idle : s.life.burning = false)
    (due : s.life.recDue = false) : (s.sense mv).rollRecord.rollState.startBurn =
      (s.sense mv).setLife { s.life with burning := holdsUp s.holdupC mv burnNeed } := by
  have record : (s.sense mv).rollRecord = s.sense mv := if_neg (by simp [State.sense, due])
  have state : (s.sense mv).rollState = s.sense mv := if_neg (by simp [State.sense, burns])
  rw [record, state, State.startBurn, if_neg (by simp [State.sense, burns, idle])]
  have holds : holdsUp (s.sense mv).holdupC (s.sense mv).store.mv burnNeed = holdsUp s.holdupC mv burnNeed := holdsUp_min _ _ _
  rw [holds]
  cases holdsUp s.holdupC mv burnNeed
  · have same : { s.life with burning := false } = s.life := by rw [← idle]
    rw [same]
    rfl
  · rfl

/-- The raise of the firmware counter, asked of firmware that has run. -/
theorem State.raiseFw_runs {s : State} {mv : Nat} (new : s.hl.newFw = true) (up : s.hl.up = true) : s.raiseFw mv =
    if min 32 (Config.firmwareRollback (s.slot (0x10 + s.hl.run)).bytes) ≤ s.fwRollback then
      { s.sense mv with hl := { s.hl with newFw := false } }
    else if s.life.burning || !holdsUp s.holdupC mv burnNeed then s.sense mv
    else (s.sense mv).burn gFwRb (2 ^ min 32 (Config.firmwareRollback (s.slot (0x10 + s.hl.run)).bytes) - 1) := by
  rw [State.raiseFw, if_neg (by simp [new, up]), ← holdsUp_min s.holdupC mv]
  rfl

/-- Settles O58: the engines change life cycle and store only, and a start of Headland leaves the rest. -/
theorem powerOn : Obligations.PowerOn := by
  intro s mv
  refine ⟨fun off boot park => completes_intro rfl ?_, fun on boot park => completes_intro rfl ?_,
    fun on burns idle due => completes_intro rfl ?_, fun off => completes_intro rfl ?_, fun new up v hv => ⟨fun below idle holds =>
      completes_intro rfl ?_, fun below wait => completes_intro rfl ?_, fun reached => completes_intro rfl ?_⟩,
    fun old => completes_intro rfl ?_⟩
  · rw [State.porRelease, if_neg (by simp [off])]
    extract_lets u v w
    have release : s.changes [.on, .boot, .park, .life] (u.setLife { v with start := u.lc }) := rfl
    have starts : (u.setLife { v with start := u.lc }).changes [.hl] w := by
      unfold w State.startHeadland
      split <;> rfl
    have hl : w.hl = _ := State.startHeadland_hl (s := u.setLife { v with start := u.lc }) rfl
    have otp : w.life.otp = s.life.otp := by
      rw [show w.life = _ from starts.same .life (by decide)]
      rfl
    clear_value w
    have start := (release.mono (m := [.on, .boot, .park, .life, .hl]) (by decide)).trans (starts.mono (by decide))
    have done : w.changes [.store, .life] (w.sense mv).rollForward.rollRecord.startBurn.startErase := by simp
    have whole := (start.mono (m := [.on, .boot, .park, .life, .hl, .store]) (by decide)).trans (done.mono (by decide))
    refine ⟨(done.same .on (by decide)).trans (starts.same .on (by decide)), (done.same .boot (by decide)).trans (starts.same .boot (by decide)),
      (done.same .park (by decide)).trans (starts.same .park (by decide)), (done.same .hl (by decide)).trans hl, by simpa using otp, whole.same .csr (by decide), whole.same .mem (by decide),
      by simp [State.sense]⟩
  · rw [State.porRelease, if_pos on]
  · rw [if_pos on, State.burnRetry_life burns idle due]
    generalize hu : (s.sense mv).setLife _ = u
    have engine : u.changes [.store] u.startErase := by simp
    have life : u.life = { s.life with burning := holdsUp s.holdupC mv burnNeed } := by rw [← hu]; rfl
    exact ⟨(engine.same .life (by decide)).trans life, State.changes.trans (l := [.life, .store]) (by rw [← hu]; rfl) (engine.mono (by decide))⟩
  · rw [if_neg (by simp [off])]
  · rw [State.raiseFw_runs new up, ← hv, if_neg (Nat.not_le.2 below), if_neg (by simp [idle, holds])]
    exact ⟨rfl, rfl⟩
  · rw [State.raiseFw_runs new up, ← hv, if_neg (Nat.not_le.2 below), if_pos (by simpa using wait)]
    rfl
  · rw [State.raiseFw_runs new up, ← hv, if_pos reached]
    exact ⟨rfl, rfl⟩
  · rw [State.raiseFw, if_pos (by simp [old])]

/-! ## Soundings (R494 to R498) -/

theorem State.endSounding_sounding {s : State} (h : s.sounding = true) (e : Nat) : s.endSounding e =
    { (s.setFld (PB 4) 0 2 3).setFld (PB 4) 4 3 e with hl := { s.hl with changes := s.hl.changes.filter (fun a => !a.arms) } } := if_pos h

theorem State.endSounding_idle {s : State} (h : s.sounding = false) (e : Nat) : s.endSounding e = s := if_neg (by simp [h])

/-- PB_STATUS of a sounding that has ended: DONE, with the cause and the holder it had. -/
theorem State.endSounding_status {s : State} (h : s.sounding = true) (e : Nat) : (s.endSounding e).pbState = 3 ∧
    (s.endSounding e).fld (PB 4) 4 3 = e % 8 ∧ (s.endSounding e).holder = s.holder := by
  have reads (lo w : Nat) : (s.endSounding e).fld (PB 4) lo w = ((s.setFld (PB 4) 0 2 3).setFld (PB 4) 4 3 e).fld (PB 4) lo w := by
    rw [State.endSounding_sounding h]
    rfl
  simp only [State.pbState, State.holder, reads]
  refine ⟨?_, State.fld_setFld_same _ _ _ (by omega), ?_⟩
  · rw [State.fld_setFld_other _ _ _ _ _ (by omega) (by omega), State.fld_setFld_same _ _ _ (by omega)]
    rfl
  · rw [State.fld_setFld_other _ _ _ _ _ (by omega) (by omega), State.fld_setFld_other _ _ _ _ _ (by omega) (by omega)]

/-- Beside PB_STATUS and the arming that awaits its tick, the end of a sounding changes nothing. -/
theorem State.endSounding_ends {s : State} (h : s.sounding = true) (e : Nat) : (∀ a, a ≠ PB 4 → (s.endSounding e).reg a = s.reg a) ∧
    (s.endSounding e).hl.changes = s.hl.changes.filter (fun a => !a.arms) ∧
    { s.endSounding e with csr := s.csr, hl := { (s.endSounding e).hl with changes := s.hl.changes } } = s := by
  rw [State.endSounding_sounding h]
  refine ⟨fun a ha => ?_, rfl, rfl⟩
  exact (State.reg_setFld_ne _ _ _ _ _ _ ha).trans (State.reg_setFld_ne _ _ _ _ _ _ ha)

/-- Settles O59: every end of a sounding is `endSounding`, and the other commands write registers of the probe block. -/
theorem soundings : Obligations.Soundings := by
  intro s only ends
  refine ⟨fun run stores done => completes_intro rfl ?_, fun run stores more full => completes_intro rfl ?_,
    fun run => completes_intro rfl ?_, fun still c hc => ?_, completes_intro rfl ?_, completes_intro rfl ?_,
    fun armed stores pattern w rest words hit => completes_intro rfl ?_, fun off => completes_intro rfl ?_⟩
  · obtain ⟨state, cause, -⟩ := State.endSounding_status run 1
    rw [State.soundingEnd, if_neg (by simp [run, stores]), if_pos done]
    exact ⟨state, cause, State.endSounding_ends run 1⟩
  · obtain ⟨state, cause, -⟩ := State.endSounding_status run 2
    rw [State.soundingEnd, if_neg (by simp [run, stores]), if_neg (by simp [more]), if_pos full]
    exact ⟨state, cause, State.endSounding_ends run 2⟩
  · obtain ⟨state, cause, holder⟩ := State.endSounding_status run 5
    exact ⟨state, cause, holder, State.endSounding_ends run 5⟩
  · rcases List.mem_pair.1 hc with rfl | rfl
    · exact completes_intro rfl (State.endSounding_idle still 5)
    · exact completes_intro rfl (if_pos (by simp [still]))
  · rw [State.pbFree]
    have holder : ((s.endSounding 5).setFld (PB 4) 16 4 0xF).holder = 0xF := State.fld_setFld_same _ _ _ (by omega)
    have state : ((s.endSounding 5).setFld (PB 4) 16 4 0xF).pbState = (s.endSounding 5).pbState :=
      State.fld_setFld_other _ _ _ _ _ (by omega) (by omega)
    refine ⟨holder, ?_, fun run => ?_, fun still => ?_⟩
    · rw [State.sounding, state]
      cases run : s.sounding
      · rw [State.endSounding_idle run]
        exact run
      · rw [(State.endSounding_status run 5).1]
        rfl
    · obtain ⟨regs, changes, rest⟩ := State.endSounding_ends run 5
      exact ⟨fun a ha => (State.reg_setFld_ne _ _ _ _ _ _ ha).trans (regs a ha), changes, rest⟩
    · rw [State.endSounding_idle still]
      exact ⟨fun a ha => State.reg_setFld_ne _ _ _ _ _ _ (by simpa using ha), rfl⟩
  · exact ⟨by simp [State.pbClrDrop], fun a ha => State.reg_setReg_ne _ _ _ _ (by simpa using ha), rfl⟩
  · have frame : s.frameNo / 2 ^ 32 < 2 ^ 32 := by
      have := s.tick.frame.isLt
      rw [State.frameNo]
      omega
    have fires : s.probeTrigger = (((s.setFld (PB 4) 0 2 2).setBit (PB 4) 2 true).setReg (PB 0x14) s.frameNo).setReg (PB 0x18)
        (s.frameNo / 2 ^ 32) := by
      rw [State.probeTrigger]
      exact if_neg (by simp only [armed, stores, pattern, words, List.headD_cons, hit, List.isEmpty_cons]; decide)
    rw [fires]
    have reads (lo w : Nat) : ((((s.setFld (PB 4) 0 2 2).setBit (PB 4) 2 true).setReg (PB 0x14) s.frameNo).setReg (PB 0x18)
        (s.frameNo / 2 ^ 32)).fld (PB 4) lo w = ((s.setFld (PB 4) 0 2 2).setBit (PB 4) 2 true).fld (PB 4) lo w :=
      State.fld_congr (by simp) lo w
    refine ⟨?_, ?_, ?_, ?_, fun a ha => ?_, rfl⟩
    · rw [State.pbState, reads, State.fld_setBit_other _ _ _ _ (by omega) (by omega), State.fld_setFld_same _ _ _ (by omega)]
      rfl
    · rw [State.bit, reads]
      exact State.bit_setBit_same _ _ _ (by omega)
    · simp
    · rw [State.reg_setReg_same, Nat.mod_eq_of_lt frame]
    · simp only [List.mem_cons, List.not_mem_nil, or_false, not_or] at ha
      obtain ⟨h4, h14, h18⟩ := ha
      rw [State.reg_setReg_ne _ _ _ _ h18, State.reg_setReg_ne _ _ _ _ h14, State.reg_setBit_ne _ _ _ _ _ h4,
        State.reg_setFld_ne _ _ _ _ _ _ h4]
  · rw [State.probeTrigger, if_pos (by simp [off])]

end Sys2Proof.Machine
end

section
/-! Routers: registers of the network, its time, packets' headers, slack water, filters and counters (spec/07 R203, R225 to R231). -/
namespace Sys2Proof.Machine

/-! ## Registers in other blocks, and bits as tests -/

theorem State.bit_eq (s : State) (a i : Nat) : s.bit a i = (s.reg a).testBit i := by
  simp [State.bit, State.fld, bits, Nat.testBit_eq_decide_div_mod_eq, Nat.shiftRight_eq_div_pow]

theorem NR_ne_CK {n : Nat} (hn : n < 48) {o : Nat} (ho : o < 0x10000) (k : Nat) : CK k ≠ NR n o := by
  unfold CK NR
  omega

/-- Writes of other blocks leave the period of the fabric clock. -/
theorem State.fabricPs_congr {s t : State} (clk : t.clk = s.clk) (regs : ∀ k, t.reg (CK k) = s.reg (CK k)) : t.fabricPs = s.fabricPs := by
  have gck : t.gckOf 0 = s.gckOf 0 := by rw [State.gckOf, State.gckOf, clk]
  have flds (k lo w : Nat) : t.fld (CK k) lo w = s.fld (CK k) lo w := State.fld_congr (regs k) lo w
  have pll (n : Nat) : t.spllRefHz n = s.spllRefHz n := by simp only [State.spllRefHz, flds, regs]
  have src (c : Nat) : t.srcHz c = s.srcHz c := by
    have shift (k : Nat) : CK k + 4 = CK (k + 4) := by simp [CK, Nat.add_assoc]
    simp only [State.srcHz, flds, regs, pll, shift]
  simp only [State.fabricPs, State.gckPs, State.periodOf, gck, src]

/-! ## Header fields -/

/-- The fields of a header flit that a receiver looks at first. -/
theorem mkHdr_fields (dst src vc typ len tag status addr data aux0 aux1 : Nat) (p : Packet)
    (h : p.hdr = mkHdr dst src vc typ len tag status addr data aux0 aux1) : p.dst = dst % 256 ∧ p.src = src % 256 ∧ p.vc = vc % 4 ∧
    p.typ = typ % 16 ∧ p.len = len % 32 ∧ p.tag = tag % 256 ∧ p.status = status % 256 ∧ p.addr = addr % 2 ^ 32 ∧
    p.payload = data % 2 ^ 64 := by
  simp only [Packet.dst, Packet.src, Packet.vc, Packet.typ, Packet.len, Packet.tag, Packet.status, Packet.addr, Packet.payload, Packet.h, h,
    mkHdr, bits, BitVec.toNat_ofNat, Nat.shiftRight_eq_div_pow]
  omega

/-! ## Slack water (R225 to R228) -/

theorem State.powered_on {s : State} (h : s.routersOn = true) (f : State → State) : s.powered f = f s := if_pos h

theorem State.powered_off {s : State} (h : s.routersOn = false) (f : State → State) : s.powered f = s := if_neg (by simp [h])

@[simp] theorem State.changes_setServed (l : List Part) (s t : State) (key v : Nat) (h : Part.noc ∈ l) :
    s.changes l (t.setServed key v) ↔ s.changes l t := State.changes.through (m := [.noc]) (by rfl) (by simpa using h) s

theorem State.fromOldest_noc (s : State) (n : Nat) : s.changes [.noc] (s.fromOldest n) := by simp [State.fromOldest]

/-- Outside slack water its commands do nothing. -/
theorem State.slack_idle {s : State} {n : Nat} (h : s.slackActive n = false) (d len : Nat) : s.slackDrained n d = s ∧ s.slackEnd n len = s ∧
    s.slackAbort n = s := ⟨if_pos (by simp [h]), if_pos (by simp [h]), if_pos (by simp [h])⟩

/-- Slack water that has drained puts the staged settings into force. -/
theorem State.slackDrained_settles {s : State} {n : Nat} (d : Nat) (active : s.slackActive n = true) (draining : s.bit (NR n 0x10) 2 = false)
    (done : State.drained n (s.drain n) = true) : s.slackDrained n d =
      { (((s.drain n).setBit (NR n 0x10) 2 true).setReg (NR n 8) (((s.drain n).setBit (NR n 0x10) 2 true).reg (NR n 4))).setFld (NR n 0xC) 8 8
          ((((s.drain n).setBit (NR n 0x10) 2 true).setReg (NR n 8) (((s.drain n).setBit (NR n 0x10) 2 true).reg (NR n 4))).fld (NR n 0xC) 0 8)
        with noc := { (s.drain n).noc with slackD := d } } := by
  rw [State.slackDrained, if_neg (by simp [active, draining])]
  exact if_neg (by simp [done])

/-! ## Filters (R230, R231) -/

theorem State.filterHits_iff (s : State) (n f o hdr : Nat) : s.filterHits n f o hdr = true ↔
    s.bit (NR n (0x200 + 0x20 * f) + 8) 0 = true ∧
    (s.bit (NR n (0x200 + 0x20 * f) + 8) 4 = true ∨ s.fld (NR n (0x200 + 0x20 * f) + 8) 1 3 = o) ∧
    (bits hdr 0 22 ^^^ s.fld (NR n (0x200 + 0x20 * f)) 0 22) &&& s.fld (NR n (0x200 + 0x20 * f) + 4) 0 22 = 0 := by
  simp only [State.filterHits, State.bit_eq, Bool.and_eq_true, Bool.or_eq_true, decide_eq_true_eq, and_assoc]
  rfl

/-- When a router may emit does not change with a counter of a router. -/
theorem State.traceReady_inc (s : State) {n : Nat} (hn : n < 48) {o : Nat} (ho : o < 0x10000) (k : Nat) (ready : Bool) :
    (s.inc (NR n o)).traceReady k ready = s.traceReady k ready := by
  have regs (x : Nat) : (s.inc (NR n o)).reg (CK x) = s.reg (CK x) := State.reg_inc_ne _ _ _ (NR_ne_CK hn ho x)
  have mode : (s.inc (NR n o)).mode = s.mode := State.fld_congr (regs _) _ _
  have on : (s.inc (NR n o)).routersOn = s.routersOn := by
    rw [State.routersOn, mode]
    rfl
  have late : (s.inc (NR n o)).netTicksLate = s.netTicksLate := by
    rw [State.netTicksLate, State.fabricPs_congr (s := s) (t := s.inc (NR n o)) rfl regs]
    rfl
  rw [State.traceReady, on, State.tracePaced, late]
  rfl

/-- After a trace packet the emitter waits 16 network cycles, counted from the later of now and the end of the last wait. -/
theorem State.traceSent_traced (s : State) (n : Nat) : ∃ y, (s.traceSent n).noc.traced.find? (fun y => y.1 = n) = some y ∧
    s.netTicks ≤ y.2 ∧ ∀ x ∈ s.noc.traced.find? (fun x => x.1 = n), x.2 + 16 ≤ y.2 := by
  refine ⟨_, List.find?_cons_of_pos (by simp), ?_⟩
  cases s.noc.traced.find? (fun x => x.1 = n) with
  | none => simp
  | some x => simp

theorem State.traceSent_waits (s : State) (n : Nat) (p : Packet) : ((s.traceSent n).send p).traceReady n false = false := by
  obtain ⟨y, last, now, -⟩ := s.traceSent_traced n
  have paced : ((s.traceSent n).send p).tracePaced n false = false := by
    rw [State.tracePaced, show ((s.traceSent n).send p).noc.traced = (s.traceSent n).noc.traced from rfl, last]
    have same : ((s.traceSent n).send p).netTicks = s.netTicks := rfl
    simp only [same, Bool.false_and, Bool.or_false, decide_eq_false_iff_not]
    omega
  rw [State.traceReady, paced, Bool.and_false]

theorem State.reg_zeroRegs (s : State) (l : List Nat) (a : Nat) : (s.zeroRegs l).reg a = if a ∈ l then 0 else s.reg a := by
  induction l generalizing s with
  | nil => rfl
  | cons x l ih =>
    rw [State.zeroRegs, List.foldl_cons, ← State.zeroRegs, ih]
    by_cases h : a = x
    · simp [h]
    · simp [h]

theorem NR_add (n o k : Nat) : NR n o + k = NR n (o + k) := by simp [NR, Nat.add_assoc]

/-- A filter that matches counts; where it emits, a trace packet leaves, or is counted as dropped. -/
theorem State.filterMatch_hits {s : State} {n f o hdr : Nat} (hits : s.filterHits n f o hdr = true) (hn : n < 48) (hf : f < 2) (ready : Bool) :
    s.filterMatch n f o hdr ready =
      if s.bit (NR n (0x208 + 0x20 * f)) 5 then
        if s.slackActive n || !s.traceReady n ready then (s.inc (NR n (0x20C + 0x20 * f))).inc (NR n 0x58)
        else ((s.inc (NR n (0x20C + 0x20 * f))).traceSent n).send
          { hdr := mkHdr (s.fld (NR n 0x280) 0 8) (routerNode n) 3 5 0 f 0 (bits hdr 64 32) (bits hdr 0 64) s.netTicks s.frameNo, data := [] }
      else s.inc (NR n (0x20C + 0x20 * f)) := by
  have regs (k : Nat) (hk : k ≠ 0x20C + 0x20 * f) : (s.inc (NR n (0x20C + 0x20 * f))).reg (NR n k) = s.reg (NR n k) :=
    State.reg_inc_ne _ _ _ (by simpa using hk)
  have ready_same := s.traceReady_inc hn (o := 0x20C + 0x20 * f) (by omega) n ready
  rw [State.filterMatch, if_neg (by simp [hits])]
  simp only [State.slackActive, State.bit_congr (regs 0x10 (by omega)), State.bit_congr (regs (0x208 + 0x20 * f) (by omega)), ready_same,
    State.fld_congr (regs 0x280 (by omega))]
  cases s.bit (NR n (0x208 + 0x20 * f)) 5 <;> rfl

/-- Settles O45: slack water and filters by what each of their commands does, where the routers have power. -/
theorem routers : Obligations.Routers := by
  intro s n only
  have hn : n.val < 48 := n.isLt
  refine ⟨fun off d len f o hdr ready c hc => ?_, fun on => ⟨fun free => completes_intro rfl ?_, fun busy => completes_intro rfl ?_,
    fun d active draining u hu => ⟨?_, fun more => completes_intro rfl ?_, fun done => completes_intro rfl ?_⟩,
    fun len active ready => completes_intro rfl ?_, fun active draining => completes_intro rfl ?_, fun idle d len c hc => ?_,
    fun f o hdr ready a ha => ⟨fun off => completes_intro rfl ?_, fun hit port mask emit => completes_intro rfl ?_, fun hit port mask emit =>
      ⟨fun flows may => completes_intro rfl ?_, fun waits => completes_intro rfl ?_⟩⟩, completes_intro rfl ?_⟩⟩
  · simp only [List.mem_cons, List.not_mem_nil, or_false] at hc
    rcases hc with rfl | rfl | rfl | rfl | rfl | rfl <;> exact completes_intro rfl (State.powered_off off _)
  · rw [State.powered_on on, State.slackEnter, if_neg (by simp [free])]
    refine ⟨?_, State.bit_setBit_same _ _ _ (by omega), fun a ha => ?_, rfl⟩
    · rw [State.slackActive, State.bit_setBit_other _ _ _ _ (by omega) (by omega)]
      exact State.bit_setBit_same _ _ _ (by omega)
    · have ne : a ≠ NR n 0x10 := by simpa using ha
      rw [State.reg_setBit_ne _ _ _ _ _ ne, State.reg_setBit_ne _ _ _ _ _ ne]
  · rw [State.powered_on on, State.slackEnter, if_pos busy]
  · rw [hu]
    exact s.netOnly_runNet _ _
  · rw [State.powered_on on, State.slackDrained, if_neg (by simp [active, draining]), hu]
    exact if_pos (by simpa [← hu] using more)
  · rw [State.powered_on on, State.slackDrained_settles d.val active draining (hu ▸ done), ← hu]
    have r8 : ((u.setBit (NR n 0x10) 2 true).reg (NR n 4)) = u.reg (NR n 4) := by simp [State.reg_setBit_ne]
    rw [r8]
    have r0C : ((u.setBit (NR n 0x10) 2 true).setReg (NR n 8) (u.reg (NR n 4))).reg (NR n 0xC) = u.reg (NR n 0xC) := by
      simp [State.reg_setBit_ne]
    rw [State.fld_congr r0C]
    have active_same : ((u.setBit (NR n 0x10) 2 true).setReg (NR n 8) (u.reg (NR n 4))).bit (NR n 0x10) 2 = true := by
      rw [State.bit_congr (State.reg_setReg_ne _ _ _ _ (by simp))]
      exact State.bit_setBit_same _ _ _ (by omega)
    have settings : ((u.setBit (NR n 0x10) 2 true).setReg (NR n 8) (u.reg (NR n 4))).reg (NR n 8) = u.reg (NR n 4) := by
      rw [State.reg_setReg_same, Nat.mod_eq_of_lt (u.reg_lt _)]
    have others (a : Nat) (h10 : a ≠ NR n 0x10) (h8 : a ≠ NR n 8) :
        ((u.setBit (NR n 0x10) 2 true).setReg (NR n 8) (u.reg (NR n 4))).reg a = u.reg a := by
      rw [State.reg_setReg_ne _ _ _ _ h8, State.reg_setBit_ne _ _ _ _ _ h10]
    have rest : u.changes [.csr] ((u.setBit (NR n 0x10) 2 true).setReg (NR n 8) (u.reg (NR n 4))) := rfl
    generalize (u.setBit (NR n 0x10) 2 true).setReg (NR n 8) (u.reg (NR n 4)) = w at *
    have reads (a : Nat) : State.reg { w.setFld (NR n 0xC) 8 8 (u.fld (NR n 0xC) 0 8) with noc := { u.noc with slackD := d.val } } a =
      (w.setFld (NR n 0xC) 8 8 (u.fld (NR n 0xC) 0 8)).reg a := rfl
    refine ⟨?_, ?_, ?_, ?_, rfl, fun a ha => ?_, ?_⟩
    · rw [State.bit_congr (reads _), State.bit_setFld_ne _ _ _ _ _ (by simp), active_same]
    · rw [reads, State.reg_setFld_ne _ _ _ _ _ _ (by simp), settings]
    · rw [State.fld_congr (reads _), State.fld_setFld_same _ _ _ (by omega), Nat.mod_eq_of_lt (u.fld_lt _ _ _)]
    · rw [State.fld_congr (reads _), State.fld_setFld_other _ _ _ _ _ (by omega) (by omega), State.fld_congr r0C]
    · simp only [List.mem_cons, List.not_mem_nil, or_false, not_or] at ha
      obtain ⟨h10, h8, h0C⟩ := ha
      rw [reads, State.reg_setFld_ne _ _ _ _ _ _ h0C, others a h10 h8]
    · exact (rest.mono (m := [.csr, .noc]) (by decide)).trans (t := w) (by rfl)
  · rw [State.powered_on on, State.slackEnd, if_neg (by simp [active, ready])]
    have served := ((s.setBit (NR n 0x10) 1 false).setFld (NR n 0x14) 0 8 s.noc.slackD).setFld (NR n 0x14) 8 20 len |>.fromOldest_noc n
    have same (a : Nat) := State.reg_congr (show State.csr _ = _ from served.same .csr (by decide)) a
    refine ⟨?_, ?_, ?_, fun a ha => ?_, (State.changes.trans (l := [.csr, .noc]) (by rfl) (served.mono (by decide)))⟩
    · rw [State.slackActive, State.bit_congr (same _), State.bit_setFld_ne _ _ _ _ _ (by simp), State.bit_setFld_ne _ _ _ _ _ (by simp)]
      exact State.bit_setBit_same _ _ _ (by omega)
    · rw [State.fld_congr (same _), State.fld_setFld_same _ _ _ (by omega)]
    · rw [State.fld_congr (same _), State.fld_setFld_other _ _ _ _ _ (by omega) (by omega), State.fld_setFld_same _ _ _ (by omega)]
      rfl
    · simp only [List.mem_cons, List.not_mem_nil, or_false, not_or] at ha
      obtain ⟨h10, h14⟩ := ha
      rw [same, State.reg_setFld_ne _ _ _ _ _ _ h14, State.reg_setFld_ne _ _ _ _ _ _ h14, State.reg_setBit_ne _ _ _ _ _ h10]
  · rw [State.powered_on on, State.slackAbort, if_neg (by simp [active, draining])]
    have served := ((s.setBit (NR n 0x10) 1 false).setBit (NR n 0x10) 3 true).fromOldest_noc n
    have same (a : Nat) := State.reg_congr (show State.csr _ = _ from served.same .csr (by decide)) a
    refine ⟨?_, ?_, fun a ha => ?_, (State.changes.trans (l := [.csr, .noc]) (by rfl) (served.mono (by decide)))⟩
    · rw [State.slackActive, State.bit_congr (same _), State.bit_setBit_other _ _ _ _ (by omega) (by omega)]
      exact State.bit_setBit_same _ _ _ (by omega)
    · rw [State.bit_congr (same _)]
      exact State.bit_setBit_same _ _ _ (by omega)
    · rw [same, State.reg_setBit_ne _ _ _ _ _ ha, State.reg_setBit_ne _ _ _ _ _ ha]
  · obtain ⟨drained, ended, aborted⟩ := State.slack_idle idle d len
    simp only [List.mem_cons, List.not_mem_nil, or_false] at hc
    rcases hc with rfl | rfl | rfl
    · exact completes_intro rfl ((State.powered_on on _).trans drained)
    · exact completes_intro rfl ((State.powered_on on _).trans ended)
    · exact completes_intro rfl ((State.powered_on on _).trans aborted)
  · subst ha
    have miss : ¬s.filterHits n f o hdr.toNat = true := fun h => by simp [((s.filterHits_iff _ _ _ _).1 h).1] at off
    rw [State.powered_on on, State.filterMatch, if_pos (by simp [miss])]
  · rw [ha] at hit port mask emit ⊢
    rw [NR_add] at emit ⊢
    rw [State.powered_on on, State.filterMatch_hits ((s.filterHits_iff _ _ _ _).2 ⟨hit, port, mask⟩) hn f.isLt ready,
      if_neg (by simp [show 0x208 + 0x20 * f.val = 0x200 + 0x20 * f.val + 8 by omega, emit]),
      show 0x20C + 0x20 * f.val = 0x200 + 0x20 * f.val + 0xC by omega]
    exact ⟨State.reg_inc_same _ _, fun b hb => State.reg_inc_ne _ _ _ (by simpa using hb), rfl⟩
  · rw [ha] at hit port mask emit ⊢
    rw [NR_add] at emit ⊢
    rw [State.powered_on on, State.filterMatch_hits ((s.filterHits_iff _ _ _ _).2 ⟨hit, port, mask⟩) hn f.isLt ready,
      if_pos (by simpa [show 0x208 + 0x20 * f.val = 0x200 + 0x20 * f.val + 8 by omega] using emit), if_neg (by simp [flows, may]),
      show 0x20C + 0x20 * f.val = 0x200 + 0x20 * f.val + 0xC by omega]
    generalize hx : mkHdr _ _ _ _ _ _ _ _ _ _ _ = x
    generalize hp : ({ hdr := x, data := [] } : Packet) = p
    obtain ⟨dst, src, vc, typ, -, tag, -⟩ := mkHdr_fields _ _ _ _ _ _ _ _ _ _ _ p.routed (by rw [← hp, hx]; rfl)
    have node : routerNode n.val < 256 := by
      unfold routerNode nodeId
      omega
    have tag_lt : f.val % 256 = f.val := by omega
    obtain ⟨y, last, -, prior⟩ := (s.inc (NR n (0x200 + 0x20 * f.val + 0xC))).traceSent_traced n
    refine ⟨⟨p.routed, rfl, typ, vc, ?_, tag.trans tag_lt, src.trans (Nat.mod_eq_of_lt node)⟩, State.reg_inc_same _ _,
      fun b hb => State.reg_inc_ne _ _ _ hb, State.traceSent_waits _ _ _, ⟨y, last, prior⟩, rfl⟩
    exact dst.trans (Nat.mod_eq_of_lt (s.fld_lt _ _ _))
  · rw [ha] at hit port mask emit ⊢
    rw [NR_add] at emit ⊢
    rw [State.powered_on on, State.filterMatch_hits ((s.filterHits_iff _ _ _ _).2 ⟨hit, port, mask⟩) hn f.isLt ready,
      if_pos (by simpa [show 0x208 + 0x20 * f.val = 0x200 + 0x20 * f.val + 8 by omega] using emit), if_pos (by simpa using waits),
      show 0x20C + 0x20 * f.val = 0x200 + 0x20 * f.val + 0xC by omega]
    refine ⟨?_, fun b hb => ?_, rfl⟩
    · rw [State.reg_inc_same, State.reg_inc_ne _ _ _ (by simp; omega)]
    · simp only [List.mem_cons, List.not_mem_nil, or_false, not_or] at hb
      obtain ⟨hC, h58⟩ := hb
      rw [State.reg_inc_ne _ _ _ h58, State.reg_inc_ne _ _ _ hC]
  · rw [State.powered_on on]
    have counters (b : Nat) := s.reg_zeroRegs ((List.range 8).map (fun i => NR n (0x40 + 4 * i)) ++
      (List.range 32).map (fun i => NR n (0x100 + 4 * i)) ++ (List.range 8).map (fun i => NR n (0x180 + 4 * i)) ++
      [NR n 0x20C, NR n 0x22C]) b
    have zero (b : Nat) (hb : b ∈ _) := (counters b).trans (if_pos hb)
    refine ⟨fun i hi => ⟨zero _ ?_, zero _ ?_⟩, fun i hi => zero _ ?_, zero _ ?_, zero _ ?_, show s.changes [.csr] (s.clrRouterCnt n) by simp [State.clrRouterCnt], fun b hb =>
      (counters b).trans (if_neg ?_)⟩
    · simp only [List.mem_append, List.mem_map, List.mem_range]
      exact .inl (.inl (.inl ⟨i, hi, rfl⟩))
    · simp only [List.mem_append, List.mem_map, List.mem_range]
      exact .inl (.inr ⟨i, hi, rfl⟩)
    · simp only [List.mem_append, List.mem_map, List.mem_range]
      exact .inl (.inl (.inr ⟨i, hi, rfl⟩))
    · simp
    · simp
    · simp only [List.mem_append, List.mem_map, List.mem_range, List.mem_cons, List.not_mem_nil, or_false]
      rintro (((⟨i, hi, rfl⟩ | ⟨i, hi, rfl⟩) | ⟨i, hi, rfl⟩) | rfl | rfl) <;> exact hb _ (by omega) rfl

end Sys2Proof.Machine
end

section
/-! Lanes and boundary scan (spec/16 R479 to R481, R486, R488, R489). -/
namespace Sys2Proof.Machine

/-! ## Latched events (R354) -/

/-- An event that is latched stands among the latches, new or merged. -/
theorem State.latch_mem (s : State) (code src data : Nat) : ∃ l ∈ (s.latch code src data).hl.latches, l.code = code ∧ l.src = src + 1 := by
  unfold State.latch
  extract_lets hit ls
  unfold ls
  split
  · next h =>
    obtain ⟨l, hl, hit⟩ := List.any_eq_true.1 h
    refine ⟨_, List.mem_map_of_mem hl, ?_⟩
    rw [if_pos hit]
    simpa using hit
  · exact ⟨_, List.mem_append_right _ (List.mem_singleton.2 rfl), rfl, rfl⟩

theorem State.latch_any (s : State) (code src data : Nat) :
    (s.latch code src data).hl.latches.any (fun l => l.code = code ∧ l.src = src + 1) = true := by
  obtain ⟨l, hl, h⟩ := s.latch_mem code src data
  exact List.any_eq_true.2 ⟨l, hl, decide_eq_true h⟩

/-! ## Alignment (R480) -/

@[simp] theorem State.laneOf_setLane_same (s : State) (n : Nat) (x : Lane) : (s.setLane n x).laneOf n = x := by
  simp [State.laneOf, State.setLane]
@[simp] theorem State.laneOf_setLane_ne (s : State) (n k : Nat) (x : Lane) (h : k ≠ n) : (s.setLane n x).laneOf k = s.laneOf k := by
  simp [State.laneOf, State.setLane, h]

/-- A lane is shown as out of alignment, the loss counted and latched. -/
theorem State.laneLost_shows (s : State) (n : Nat) : (s.laneLost n).aligned n = false ∧ (s.laneLost n).bit (LN n 0x10) 8 = true ∧
    ((s.laneLost n).laneOf n).gap = true ∧ (s.laneLost n).reg (LN n 0x28) = min (s.reg (LN n 0x28) + 1) (2 ^ 32 - 1) ∧
    (s.laneLost n).hl.latches.any (fun l => l.code = 6 ∧ l.src = 0x101 + n) = true ∧
    ∀ k, k ≠ n → (s.laneLost n).laneOf k = s.laneOf k := by
  have status : (s.laneLost n).reg (LN n 0x10) = ((s.setBit (LN n 0x10) 2 false).setBit (LN n 0x10) 8 true).reg (LN n 0x10) :=
    State.reg_inc_ne _ (LN n 0x28) _ (by simp)
  refine ⟨?_, ?_, ?_, ?_, ?_, fun k hk => ?_⟩
  · rw [State.aligned, State.bit_congr status, State.bit_setBit_other _ _ _ _ (by omega) (by omega)]
    exact State.bit_setBit_same _ _ _ (by omega)
  · rw [State.bit_congr status]
    exact State.bit_setBit_same _ _ _ (by omega)
  · rw [State.laneLost, State.laneOf_setLane_same]
  · refine (State.reg_inc_same _ _).trans ?_
    rw [State.reg_setBit_ne _ _ _ _ _ (by simp), State.reg_setBit_ne _ _ _ _ _ (by simp)]
  · have latched := State.latch_any (((s.setBit (LN n 0x10) 2 false).setBit (LN n 0x10) 8 true).inc (LN n 0x28)) 6 (0x100 + n) (1 + n * 256)
    rwa [show 0x100 + n + 1 = 0x101 + n by omega] at latched
  · exact State.laneOf_setLane_ne _ _ _ _ hk

theorem State.laneLost_changes (s : State) (n : Nat) : s.changes [.csr, .hl, .lane] (s.laneLost n) := rfl

/-- The bits of a register after one of them is set. -/
theorem State.bit_setBit (s : State) (a : Nat) {i j : Nat} (b : Bool) (hi : i < 32) (hj : j < 32) :
    (s.setBit a i b).bit a j = if j = i then b else s.bit a j := by
  split
  · next h => rw [h, s.bit_setBit_same a b hi]
  · next h => exact s.bit_setBit_other a i b hj h

/-- Lane `n` with signal and CDR lock shown. -/
def State.laneLocked (s : State) (n : Nat) : State := (s.setBit (LN n 0x10) 0 true).setBit (LN n 0x10) 1 true

theorem State.laneLocked_bit (s : State) (n : Nat) {j : Nat} (hj : j < 32) :
    (s.laneLocked n).bit (LN n 0x10) j = if j = 1 then true else if j = 0 then true else s.bit (LN n 0x10) j := by
  rw [State.laneLocked, State.bit_setBit _ _ _ (by omega) hj, State.bit_setBit _ _ _ (by omega) hj]

theorem State.reg_laneLocked_ne (s : State) (n : Nat) {a : Nat} (h : a ≠ LN n 0x10) : (s.laneLocked n).reg a = s.reg a := by
  rw [State.laneLocked, State.reg_setBit_ne _ _ _ _ _ h, State.reg_setBit_ne _ _ _ _ _ h]

/-- A lane that aligns: its status, and what stays. -/
theorem State.laneLocked_aligns (s : State) (n : Nat) : ((s.laneLocked n).setBit (LN n 0x10) 2 true).bit (LN n 0x10) 0 = true ∧
    ((s.laneLocked n).setBit (LN n 0x10) 2 true).bit (LN n 0x10) 1 = true ∧
    ((s.laneLocked n).setBit (LN n 0x10) 2 true).aligned n = true ∧
    ∀ a, a ≠ LN n 0x10 → ((s.laneLocked n).setBit (LN n 0x10) 2 true).reg a = s.reg a := by
  simp only [State.aligned, State.bit_setBit _ _ true (show 2 < 32 by omega) (show 0 < 32 by omega),
    State.bit_setBit _ _ true (show 2 < 32 by omega) (show 1 < 32 by omega), State.bit_setBit _ _ true (show 2 < 32 by omega) (show 2 < 32 by omega),
    s.laneLocked_bit n (show 0 < 32 by omega), s.laneLocked_bit n (show 1 < 32 by omega)]
  exact ⟨rfl, rfl, rfl, fun a ha => (State.reg_setBit_ne _ _ _ _ _ ha).trans (s.reg_laneLocked_ne n ha)⟩

/-- A lane that may align shows signal and lock first. -/
theorem State.laneAligned_eq {s : State} {n : Nat} (out : s.aligned n = false) (en : s.rxEn n = true)
    (pll : s.bit (LN (4 * (n / 4)) 0x808) 0 = true) (gate : s.gateOpen (n / 4) = true) (vtx : s.rails.vtx = true) (vtt : s.rails.vtt = true)
    (scan : s.scanned = false) (lat : Nat) : s.laneAligned n lat =
      if s.bit (LN n 0) 7 = false then (s.laneLocked n).setBit (LN n 0x10) 2 true
      else if s.fld (LN n 4) 0 16 = 0 then
        ((s.laneLocked n).setBit (LN n 0x10) 2 true).setFld (LN n 0x14) 0 16 lat
      else if lat ≤ s.fld (LN n 4) 0 16 then
        (((s.laneLocked n).setBit (LN n 0x10) 2 true).setBit (LN n 0x10) 3 false).setFld
          (LN n 0x14) 0 16 (s.fld (LN n 4) 0 16)
      else if s.bit (LN n 0x10) 3 then s.laneLocked n
      else ((s.laneLocked n).setBit (LN n 0x10) 3 true).latch 6 (0x100 + n) (1 + n * 256) := by
  have fl : (s.laneLocked n).bit (LN n 0) 7 = s.bit (LN n 0) 7 := State.bit_congr (s.reg_laneLocked_ne n (by simp)) _
  have target : (s.laneLocked n).fld (LN n 4) 0 16 = s.fld (LN n 4) 0 16 := State.fld_congr (s.reg_laneLocked_ne n (by simp)) _ _
  have fail : (s.laneLocked n).bit (LN n 0x10) 3 = s.bit (LN n 0x10) 3 := s.laneLocked_bit n (by omega)
  rw [State.laneAligned, if_neg (by simp [out, en, pll, gate, vtx, vtt, scan])]
  simp only [← State.laneLocked.eq_1, fl, target, fail, Bool.not_eq_true']

theorem not_mem_one {a x : Nat} : a ∉ [x] ↔ a ≠ x := by simp
theorem not_mem_two {a x y : Nat} : a ∉ [x, y] ↔ a ≠ x ∧ a ≠ y := by simp

/-- A lane that takes its target latency: the failure of before is taken back. -/
theorem State.laneLocked_target (s : State) (n v : Nat) (hv : v < 65536) (t : State)
    (ht : t = (((s.laneLocked n).setBit (LN n 0x10) 2 true).setBit (LN n 0x10) 3 false).setFld (LN n 0x14) 0 16 v) :
    t.aligned n = true ∧ (t.bit (LN n 0x10) 0 = true ∧ t.bit (LN n 0x10) 1 = true) ∧ t.bit (LN n 0x10) 3 = false ∧
      t.fld (LN n 0x14) 0 16 = v ∧ (∀ a, a ≠ LN n 0x10 → a ≠ LN n 0x14 → t.reg a = s.reg a) ∧ s.changes [.csr] t := by
  obtain ⟨b0, b1, al, regs⟩ := s.laneLocked_aligns n
  have only : s.changes [.csr] t := by simp [ht, State.laneLocked]
  generalize (s.laneLocked n).setBit (LN n 0x10) 2 true = u at *
  have bit (i : Nat) : t.bit (LN n 0x10) i = (u.setBit (LN n 0x10) 3 false).bit (LN n 0x10) i := by
    rw [ht, State.bit_setFld_ne _ _ _ _ _ (by simp)]
  have low {i : Nat} (h : i < 3) : t.bit (LN n 0x10) i = u.bit (LN n 0x10) i := by
    rw [bit, State.bit_setBit_other _ _ _ _ (by omega) (by omega)]
  refine ⟨(low (by omega)).trans al, ⟨(low (by omega)).trans b0, (low (by omega)).trans b1⟩,
    (bit 3).trans (State.bit_setBit_same _ _ _ (by omega)), ?_, fun a h10 h14 => ?_, only⟩
  · rw [ht, State.fld_setFld_same _ _ _ (by omega), Nat.mod_eq_of_lt (show v < 2 ^ 16 from hv)]
  · rw [ht, State.reg_setFld_ne _ _ _ _ _ _ h14, State.reg_setBit_ne _ _ _ _ _ h10, regs a h10]

/-- A lane whose natural latency is above the target is locked and out of alignment (R481). -/
theorem State.laneLocked_late (s : State) (n : Nat) (out : s.aligned n = false) (t : State)
    (ht : t = ((s.laneLocked n).setBit (LN n 0x10) 3 true).latch 6 (0x100 + n) (1 + n * 256)) :
    t.aligned n = false ∧ (t.bit (LN n 0x10) 0 = true ∧ t.bit (LN n 0x10) 1 = true) ∧ t.bit (LN n 0x10) 3 = true ∧
      (∀ a, a ≠ LN n 0x10 → t.reg a = s.reg a) ∧ t.hl.latches.any (fun l => l.code = 6 ∧ l.src = 0x101 + n) = true ∧
      s.changes [.csr, .hl] t := by
  have reg (a : Nat) : t.reg a = ((s.laneLocked n).setBit (LN n 0x10) 3 true).reg a := by rw [ht]; rfl
  have low {i : Nat} (h : i < 3) : t.bit (LN n 0x10) i = (s.laneLocked n).bit (LN n 0x10) i := by
    rw [State.bit_congr (reg _), State.bit_setBit_other _ _ _ _ (by omega) (by omega)]
  refine ⟨(low (by omega)).trans ((s.laneLocked_bit n (by omega)).trans out), ⟨(low (by omega)).trans (s.laneLocked_bit n (by omega)),
    (low (by omega)).trans (s.laneLocked_bit n (by omega))⟩, ?_, fun a h10 => ?_, ?_, by simp [ht, State.laneLocked]⟩
  · rw [State.bit_congr (reg _), State.bit_setBit_same _ _ _ (by omega)]
  · rw [reg, State.reg_setBit_ne _ _ _ _ _ h10, s.reg_laneLocked_ne n h10]
  · have latched := State.latch_any ((s.laneLocked n).setBit (LN n 0x10) 3 true) 6 (0x100 + n) (1 + n * 256)
    rw [ht, show 0x101 + n = 0x100 + n + 1 by omega]
    exact latched

/-- A loss of alignment leaves memory, queues and regions; how its cause is shown is free. -/
theorem State.laneLoss_shows {s : State} {n : Nat} (al : s.aligned n = true) : (s.laneLoss n).aligned n = false ∧
    (s.laneLoss n).bit (LN n 0x10) 8 = true ∧ ((s.laneLoss n).laneOf n).gap = true ∧
    (s.laneLoss n).reg (LN n 0x28) = min (s.reg (LN n 0x28) + 1) (2 ^ 32 - 1) ∧
    (s.laneLoss n).hl.latches.any (fun l => l.code = 6 ∧ l.src = 0x101 + n) = true ∧
    (∀ k, k ≠ n → (s.laneLoss n).laneOf k = s.laneOf k) ∧ s.changes [.csr, .hl, .lane, .free] (s.laneLoss n) := by
  have eq : s.laneLoss n = ((s.draw.2.count (LN n 0x20) 0 32 (s.draw.1 / 4 % 2 ^ 32)).laneDown n).setFld (LN n 0x10) 0 2
    (s.draw.1 % 4) := if_neg (by simp [al])
  have hu : s.changes [.csr, .free] (s.draw.2.count (LN n 0x20) 0 32 (s.draw.1 / 4 % 2 ^ 32)) := rfl
  have reg {a : Nat} (h : a ≠ LN n 0x20) : (s.draw.2.count (LN n 0x20) 0 32 (s.draw.1 / 4 % 2 ^ 32)).reg a = s.reg a :=
    State.reg_setFld_ne s.draw.2 _ _ _ _ _ h
  have lane : (s.draw.2.count (LN n 0x20) 0 32 (s.draw.1 / 4 % 2 ^ 32)).lane = s.lane := rfl
  rw [eq]
  generalize s.draw.2.count (LN n 0x20) 0 32 (s.draw.1 / 4 % 2 ^ 32) = w at *
  generalize s.draw.1 % 4 = v
  have down : w.laneDown n = w.laneLost n := by
    refine if_neg ?_
    rw [State.bit_congr (reg (by simp))]
    simp [show s.bit (LN n 0x10) 2 = true from al]
  rw [down]
  obtain ⟨lost, seen, gap, count, latched, lanes⟩ := w.laneLost_shows n
  have high {i : Nat} (h : 2 ≤ i) (hi : i < 32) := State.bit_setFld_other (w.laneLost n) (LN n 0x10) 0 2 v hi (.inr (by omega))
  refine ⟨(high (by omega) (by omega)).trans lost, (high (by omega) (by omega)).trans seen, gap,
    ((State.reg_setFld_ne _ _ _ _ _ _ (by simp)).trans count).trans (by rw [reg (by simp)]), latched, fun k hk => (lanes k hk).trans ?_, ?_⟩
  · rw [State.laneOf, State.laneOf, lane]
  · exact ((hu.mono (by decide)).trans ((w.laneLost_changes n).mono (by decide))).trans (by rfl)

/-- The status of a lane that may not align, or has aligned, stays. -/
theorem State.laneAligned_no {s : State} {n : Nat} (h : s.aligned n = true ∨ ¬(s.rxEn n = true ∧ s.bit (LN (4 * (n / 4)) 0x808) 0 = true ∧
    s.gateOpen (n / 4) = true ∧ s.rails.vtx = true ∧ s.rails.vtt = true ∧ s.scanned = false)) (lat : Nat) : s.laneAligned n lat = s := by
  refine if_pos ?_
  simp only [Bool.or_eq_true, Bool.not_eq_true']
  grind

theorem State.clrLaneCnt_clears (s : State) (n : Nat) : (∀ i, i < 6 → (s.clrLaneCnt n).reg (LN n (0x20 + 4 * i)) = 0) ∧
    (∀ a, (∀ i, i < 6 → a ≠ LN n (0x20 + 4 * i)) → (s.clrLaneCnt n).reg a = s.reg a) ∧ s.changes [.csr] (s.clrLaneCnt n) := by
  have reads (a : Nat) := s.reg_zeroRegs [LN n 0x20, LN n 0x24, LN n 0x28, LN n 0x2C, LN n 0x30, LN n 0x34] a
  refine ⟨fun i hi => (reads _).trans (if_pos ?_), fun a ha => (reads a).trans (if_neg ?_), by simp [State.clrLaneCnt]⟩
  · simp only [List.mem_cons, LN_same, List.not_mem_nil, or_false]
    omega
  · simp only [List.mem_cons, List.not_mem_nil, or_false]
    rintro (h | h | h | h | h | h)
    · exact ha 0 (by omega) h
    · exact ha 1 (by omega) h
    · exact ha 2 (by omega) h
    · exact ha 3 (by omega) h
    · exact ha 4 (by omega) h
    · exact ha 5 (by omega) h

/-! ## Boundary scan (R488, R489) -/

/-- While the TAP has the pins each drives its boundary cell, and lanes and ports carry nothing of their owners. -/
theorem State.scanned_drives {t : State} (h : t.scanned = true) :
    (∀ b p v, t.on = true → b ∈ t.rails.vio → t.tap.boundary[Config.boundaryCell (48 * b + p)]? = some v → t.pinOut b p = .drive v) ∧
    (∀ b p, b ∉ t.rails.vio → t.pinOut b p = .z 0) ∧ (∀ n, t.laneSends n = false ∧ t.laneRuns n = false) ∧ ∀ p, t.portOn p = false := by
  refine ⟨fun b p v on vio cell => ?_, fun b p vio => ?_, fun n => ⟨?_, ?_⟩, fun p => ?_⟩
  · simp [State.pinOut, on, vio, h, cell]
  · simp [State.pinOut, vio]
  · simp [State.laneSends, h]
  · simp [State.laneRuns, h]
  · simp [State.portOn, h]

/-- An instruction that the life cycle allows. -/
theorem State.takeScan_takes {s : State} (h : s.scanRefused = false) (ir : TapIr) : s.takeScan ir = s.setTap { s.tap with ir } :=
  if_neg (by simp [h])

theorem State.takeScan_bypass {s : State} (h : s.scanRefused = true) (ir : TapIr) :
    s.takeScan ir = s.setTap { s.tap with ir := .bypass, dr := 0 } := if_pos h

/-- Settles O46: each command of a lane by what it shows, and the TAP's instructions by what the scan takes. -/
theorem lanes : Obligations.Lanes := by
  refine ⟨fun s n => ?_, fun s => ?_⟩
  · intro lost may target locked only
    refine ⟨fun out can lat => ?_, fun no lat => completes_intro rfl (State.laneAligned_no no lat), fun al => completes_intro rfl ?_,
      fun out => completes_intro rfl (if_pos (by simp [out])), completes_intro rfl ?_, completes_intro rfl ?_,
      fun thr sends => completes_intro rfl ?_, fun thr => completes_intro rfl (if_neg (by simp [thr]))⟩
    · obtain ⟨en, pll, gate, vtx, vtt, scan⟩ := can
      have eq := State.laneAligned_eq out en pll gate vtx vtt scan lat
      refine ⟨fun fl => completes_intro rfl ?_, fun fl any => completes_intro rfl ?_, fun fl some_ le => completes_intro rfl ?_,
        fun fl some_ gt => completes_intro rfl ?_⟩
      · obtain ⟨b0, b1, al, regs⟩ := s.laneLocked_aligns n
        rw [eq, if_pos fl]
        exact ⟨al, ⟨b0, b1⟩, ⟨fun a ha => regs a (not_mem_one.1 ha), rfl⟩, rfl⟩
      · obtain ⟨b0, b1, al, regs⟩ := s.laneLocked_aligns n
        have bit (i : Nat) := State.bit_setFld_ne ((s.laneLocked n).setBit (LN n 0x10) 2 true) (a := LN n 0x14) (c := LN n 0x10) 0 16 lat i
          (by simp)
        rw [eq, if_neg (by simp [fl]), if_pos any]
        refine ⟨(bit 2).trans al, ⟨(bit 0).trans b0, (bit 1).trans b1⟩, State.fld_setFld_same _ _ _ (by decide), ⟨fun a ha => ?_, rfl⟩, rfl⟩
        obtain ⟨h10, h14⟩ := not_mem_two.1 ha
        exact (State.reg_setFld_ne _ _ _ _ _ _ h14).trans (regs a h10)
      · obtain ⟨al, lock, fail, lat', regs, only⟩ := s.laneLocked_target n (s.fld (LN n 4) 0 16) (s.fld_lt _ _ _) _ rfl
        rw [eq, if_neg (by simp [fl]), if_neg some_, if_pos le]
        exact ⟨al, lock, fail, lat', ⟨fun a ha => regs a (not_mem_two.1 ha).1 (not_mem_two.1 ha).2, (only.mono (m := [.csr, .hl]) (by decide))⟩, only.same .hl (by decide)⟩
      · rw [eq, if_neg (by simp [fl]), if_neg some_, if_neg (Nat.not_le.2 gt)]
        cases fail : s.bit (LN n 0x10) 3
        · obtain ⟨al, lock, shown, regs, latched, only⟩ := s.laneLocked_late n out _ rfl
          exact ⟨al, lock, shown, ⟨fun a ha => regs a (not_mem_one.1 ha), only⟩, fun old => absurd old (by decide),
            fun _ => latched⟩
        · have bit {i : Nat} (hi : i < 32) := s.laneLocked_bit n hi
          exact ⟨(bit (by decide)).trans out, ⟨bit (by decide), bit (by decide)⟩, (bit (by decide)).trans fail,
            ⟨fun a ha => s.reg_laneLocked_ne n (not_mem_one.1 ha), rfl⟩, fun _ => rfl, fun new => absurd new (by decide)⟩
    · obtain ⟨lost, down, gap, count, latched, lanes, rest⟩ := State.laneLoss_shows al
      exact ⟨lost, down, gap, count, latched, lanes, rest.same .mem (by decide), rest.same .qs (by decide), rest.same .rg (by decide)⟩
    · obtain ⟨lost, down, gap, count, latched, lanes⟩ := s.laneLost_shows n
      exact ⟨lost, down, gap, count, latched, lanes, rfl, rfl, rfl⟩
    · exact s.clrLaneCnt_clears n
    · rw [State.throttleSignal, if_pos (by simp [thr, sends])]
      exact ⟨State.laneOf_setLane_same _ _ _, fun k hk => State.laneOf_setLane_ne _ _ _ _ hk, rfl⟩
  · refine ⟨⟨_, rfl, ⟨rfl, rfl⟩, rfl, rfl⟩, ⟨_, rfl, ⟨rfl, rfl⟩, rfl, rfl⟩, fun l => ⟨_, rfl, rfl, rfl, rfl⟩, fun may x hx => ?_, fun no c hc => ?_⟩
    · simp only [List.mem_cons, List.not_mem_nil, or_false] at hx
      rcases hx with rfl | rfl | rfl
      · exact ⟨_, rfl, by rw [State.takeScan_takes may]; exact ⟨⟨rfl, rfl⟩, rfl, State.scanned_drives (t := s.setTap { s.tap with ir := .extest }) rfl⟩⟩
      · exact ⟨_, rfl, by rw [State.takeScan_takes may]; exact ⟨⟨rfl, rfl⟩, rfl, State.scanned_drives (t := s.setTap { s.tap with ir := .extestPulse }) rfl⟩⟩
      · exact ⟨_, rfl, by rw [State.takeScan_takes may]; exact ⟨⟨rfl, rfl⟩, rfl, State.scanned_drives (t := s.setTap { s.tap with ir := .extestTrain }) rfl⟩⟩
    · simp only [List.mem_cons, List.not_mem_nil, or_false] at hc
      rcases hc with rfl | rfl | rfl <;> exact ⟨_, rfl, by rw [State.takeScan_bypass no]; exact ⟨⟨rfl, rfl⟩, rfl⟩⟩

end Sys2Proof.Machine
end

section
/-! Breakwater (spec/13): replies of the island, host frames, bus frames, the barrier. -/
namespace Sys2Proof.Machine

/-! ## The life cycle is read from the OTP and the secure element alone -/

section
variable {s t : State} (h : t.life = s.life)
include h

theorem State.otp_congr (g : Nat) : t.otp g = s.otp g := by
  simp only [State.otp, State.otpCopy, h]

theorem State.lcBurnt_congr : t.lcBurnt = s.lcBurnt := by
  simp only [State.lcBurnt, State.otp_congr h]

theorem State.lc_congr : t.lc = s.lc := by
  simp only [State.lc, State.lcBurnt_congr h, State.lcIntent, State.otp_congr h, h]

theorem State.sec_congr (i : Nat) : t.sec i = s.sec i := by
  simp only [State.sec, State.lc_congr h, State.otp_congr h]

theorem State.debugOpen_congr : t.debugOpen = s.debugOpen := by
  simp only [State.debugOpen, State.lc_congr h, State.sec_congr h, h]

theorem State.pathOpen_congr (m : Nat) : t.pathOpen m = s.pathOpen m := by
  simp only [State.pathOpen, State.debugOpen_congr h]

theorem State.takes_congr (hg : t.glob = s.glob) (m : Nat) : t.takes m = s.takes m := by
  simp only [State.takes, State.lc_congr h, State.debugOpen_congr h, State.hasRequester, State.mboxRegion, State.mboxCode, State.globF, hg]

end

theorem natLE_lt (l : List Byte) : natLE l < 2 ^ (8 * l.length) := by
  induction l with
  | nil => simp [natLE]
  | cons b bs ih =>
    have hb := b.isLt
    rw [natLE, List.length_cons, Nat.mul_succ, Nat.pow_add]
    omega

/-! ## The barrier -/

/-- Settles O27: each command of the barrier is one update of the island. -/
theorem barrier : Obligations.Barrier := by
  intro s
  refine ⟨fun hon hdev hdone hst => completes_intro rfl (if_pos ?_), completes_intro rfl rfl, completes_intro rfl rfl,
    fun hon hdev => completes_intro rfl (if_neg ?_), completes_intro rfl rfl⟩
  · rcases hst with hst | hst <;> simp [hon, hdev, hdone, hst]
  · simp [hon, hdev]

/-! ## Replies -/

theorem State.island_answered (u : State) (r : Option (List Byte)) (p : Bool) :
    (u.setIsl { u.isl with reply := r, presence := p }).island = { u.island with reply := r, presence := p } := by
  by_cases h : (u.on && u.isl.devUp) = true
  · exact (if_pos h).trans (by rw [State.island, if_pos h]; rfl)
  · exact (if_neg h).trans (by rw [State.island, if_neg h]; rfl)

/-- The head of a reply does not depend on the reply. -/
theorem State.replyHead_answered (u : State) (r : Option (List Byte)) (status : Nat) :
    (u.setIsl { u.isl with reply := r }).replyHead status = u.replyHead status := by
  have hi := u.island_answered r u.isl.presence
  simp only [State.replyHead, State.islState]
  rw [show (u.setIsl { u.isl with reply := r }).island = _ from hi]
  rfl

section
variable {u : State} {f : HostFrame}

theorem State.bwReply_one (a status : Nat) (data : List Byte) (hf : f.addr ≠ 0xFFF) :
    u.bwReply f a status data = u.setIsl { u.isl with reply := some (writeFrame a f.typ f.seq (u.replyHead status ++ data)) } :=
  if_neg hf

theorem State.bwReply_replyHead (a status : Nat) (data : List Byte) (hf : f.addr ≠ 0xFFF) (st : Nat) :
    (u.bwReply f a status data).replyHead st = u.replyHead st := by
  rw [State.bwReply_one a status data hf, State.replyHead_answered]

theorem State.bwReply_ringEntries (a status : Nat) (data : List Byte) (hf : f.addr ≠ 0xFFF) (n : Nat) :
    (u.bwReply f a status data).ringEntries n = u.ringEntries n := by
  rw [State.bwReply_one a status data hf]
  simp only [State.ringEntries]
  rw [show (u.setIsl _).island = _ from u.island_answered _ u.isl.presence]
  rfl

end

/-! ## Frames addressed to the unit -/

section
variable {s : State} {b : List Byte} {f : HostFrame}

/-- What a frame of types 1 to 6 does (Table BWP-6). -/
def State.unitFrame (s : State) (typ : Nat) (f : HostFrame) : State :=
  match typ with
  | 1 => s.hostRequest f
  | 2 => s.hostStatus f
  | 3 => s.hostResponse f
  | 4 => s.hostAck f
  | 5 => s.hostEvents f
  | _ => s.hostMask f

theorem State.hostFrame_unit (hv : s.rails.vhost = true) (hf : readFrame b = some f) (h0 : s.hostAddr ≠ 0)
    (ha : f.addr = s.hostAddr) (h1 : 1 ≤ f.typ) (h6 : f.typ ≤ 6) : s.hostFrame f.typ b = s.heard.unitFrame f.typ f := by
  have hbus : ¬ (8 ≤ f.typ ∧ f.typ ≤ 10) := by omega
  have hres : ¬ (f.typ = 0 ∨ f.typ = 7 ∨ 11 ≤ f.typ) := by omega
  have haddr : ¬ (s.heard.hostAddr = 0 ∨ f.addr ≠ s.heard.hostAddr ∧ f.addr ≠ 0xFFF) := by simp [h0, ha]
  have heard : s.mirror.setIsl { s.mirror.isl with reply := none, presence := false } = s.heard := rfl
  simp only [State.hostFrame, hv, hf, hbus, heard, haddr, hres, Bool.not_true, Bool.false_eq_true, if_false, ne_eq, not_true_eq_false,
    State.unitFrame] <;> rfl

@[simp] theorem State.island_lastSeq (s : State) : s.island.lastSeq = s.isl.lastSeq := by
  unfold State.island
  split <;> rfl

@[simp] theorem State.island_rsp (s : State) : s.island.rsp = s.isl.rsp := by
  unfold State.island
  split <;> rfl

/-- The reply `t.isl.reply` is the one to `f` with the status and the data, its head as in `u`; only the island, MB0, registers and
Headland's part may have changed since `s`. -/
def State.answersFrame (s : State) (f : HostFrame) (t u : State) (status : Nat) (data : List Byte) : Prop :=
  t.isl.reply = some (writeFrame f.addr f.typ f.seq (u.replyHead status ++ data)) ∧ t.isl.presence = false ∧
  { t with isl := s.isl, mb := s.mb, hl := s.hl, csr := s.csr } = s

section
variable (ha : f.addr = s.hostAddr) (hb : f.addr ≠ 0xFFF)
include ha hb

/-- A reply in `u`, its head as in `v`. -/
theorem State.bwReply_answers {u v : State} {status : Nat} (hp : u.isl.presence = false)
    (hu : { u with isl := s.isl, mb := s.mb, hl := s.hl, csr := s.csr } = s) (hv : u.replyHead status = v.replyHead status)
    (data : List Byte) : s.answersFrame f (u.bwReply f s.heard.hostAddr status data) v status data := by
  rw [State.bwReply_one _ _ _ hb, s.heard_hostAddr, ← ha, hv]
  exact ⟨rfl, hp, hu⟩

/-- A reply to a frame that changes nothing else. -/
theorem State.heard_answers (status : Nat) (data : List Byte) :
    s.answersFrame f (s.heard.bwReply f s.heard.hostAddr status data) s status data :=
  State.bwReply_answers (u := s.heard) (v := s) ha hb rfl rfl (s.heard_replyHead status) data

/-- A reply to a frame that has changed the island and what belongs to the mailbox. -/
theorem State.answers_after {u : State} (hp : u.isl.presence = false)
    (hu : { u with isl := s.isl, mb := s.mb, hl := s.hl, csr := s.csr } = s) (status : Nat) (data : List Byte) :
    s.answersFrame f (u.bwReply f s.heard.hostAddr status data) (u.bwReply f s.heard.hostAddr status data) status data :=
  State.bwReply_answers ha hb hp hu (State.bwReply_replyHead _ _ _ hb _).symm data

end

theorem completes_unit {c : Instr} {P : State → Prop} {k : Nat} (run : exec c s = .next (s.hostFrame k b)) (hv : s.rails.vhost = true)
    (hf : readFrame b = some f) (h0 : s.hostAddr ≠ 0) (ha : f.addr = s.hostAddr) (ht : f.typ = k) (h1 : 1 ≤ k) (h6 : k ≤ 6)
    (h : P (s.heard.unitFrame k f)) : Completes c s P := by
  subst ht
  exact completes_intro (run.trans (congrArg _ (State.hostFrame_unit hv hf h0 ha h1 h6))) h

/-! ## REQUEST, STATUS, RESPONSE, ACK -/

/-- LEN of a REQUEST agrees with its inner length (R400). -/
def HostFrame.requestFits (f : HostFrame) : Prop :=
  f.pay.length = 8 + natLE ((f.pay.drop 2).take 2) ∧ natLE ((f.pay.drop 2).take 2) ≤ 248

theorem State.hostRequest_fits {u : State} (hl : f.requestFits) : u.hostRequest f =
    if !u.isl.devUp then u.bwReply f u.hostAddr stNOT_READY []
    else if u.isl.st ≠ .idle then u.bwReply f u.hostAddr (if f.seq = u.isl.lastSeq then 0 else stBUSY) []
    else
      let v := u.setIsl { u.isl with st := .waiting, lastSeq := f.seq }
      State.bwReply (if u.on then (v.setMbox 0 { v.mbox 0 with
          req := BitVec.ofNat 2048 (setBits (v.mbox 0).req.toNat 0 (8 * f.pay.length) (natLE f.pay)) }).ringMb 0 else v) f u.hostAddr 0 [] := by
  obtain ⟨hlen, hmax⟩ := hl
  exact if_neg (by omega)

end

/-! ## RING and ACK at a mailbox -/

theorem State.ringMb_leaves (u : State) (m : Nat) : u.changes [.mb, .hl] (u.ringMb m) := by
  unfold State.ringMb State.overrun
  split
  · simp
  · simp only
    split
    · simp
    · rfl

/-- A window that takes requests and holds none in hand makes the request wait. -/
theorem State.ringMb_taken {u : State} {m : Nat} (ht : u.takes m = true) (hb : (u.mbox m).busy = false) : u.ringMb m =
    { u.setMbox m { u.mbox m with st := .waiting, aged := false, ringNo := u.hl.rings } with hl := { u.hl with rings := u.hl.rings + 1 } } := by
  simp [State.ringMb, ht, hb]

theorem State.ringMb_taken_mbox {u : State} {m : Nat} (ht : u.takes m = true) (hb : (u.mbox m).busy = false) :
    (u.ringMb m).mbox m = { u.mbox m with st := .waiting, aged := false, ringNo := u.hl.rings } := by
  rw [State.ringMb_taken ht hb]
  exact State.mbox_setMbox_same _ _ _

theorem State.ringMb_taken_hl {u : State} {m : Nat} (ht : u.takes m = true) (hb : (u.mbox m).busy = false) :
    (u.ringMb m).hl = { u.hl with rings := u.hl.rings + 1 } := by
  rw [State.ringMb_taken ht hb]

theorem State.ringMb_mbox_ne (u : State) {m k : Nat} (hk : k ≠ m) : (u.ringMb m).mbox k = u.mbox k := by
  unfold State.ringMb State.overrun
  split
  · rfl
  · simp only
    split
    · exact State.mbox_setMbox_ne _ _ _ _ hk
    · exact State.mbox_setMbox_ne _ _ _ _ hk

theorem State.ackMb_leaves (u : State) (m : Nat) : u.changes [.mb] (u.ackMb m) := by
  unfold State.ackMb
  simp only
  split <;> simp

theorem State.ackMb_mbox_ne (u : State) {m k : Nat} (hk : k ≠ m) : (u.ackMb m).mbox k = u.mbox k := by
  unfold State.ackMb
  simp only
  split
  · exact State.mbox_setMbox_ne _ _ _ _ hk
  · rfl

theorem State.ackMb_done {u : State} {m : Nat} (hd : (u.mbox m).st = .done) (hp : u.pathOpen m = true) :
    u.ackMb m = u.setMbox m { u.mbox m with st := .idle } := by
  simp [State.ackMb, hd, hp]

theorem State.ackMb_not_done (u : State) {m : Nat} (hp : u.pathOpen m = true) : ((u.ackMb m).mbox m).st ≠ .done := by
  by_cases hd : (u.mbox m).st = .done
  · rw [State.ackMb_done hd hp, State.mbox_setMbox_same]
    simp
  · simp [State.ackMb, hd]

/-! ## The event pointers of a mailbox -/

theorem State.writeRd_leaves (u : State) (m rd : Nat) : u.changes [.mb] (u.writeRd m rd) := by
  unfold State.writeRd
  simp only
  split <;> simp

theorem State.clrLost_leaves (u : State) (m : Nat) : u.changes [.mb] (u.clrLost m) := by
  unfold State.clrLost
  split <;> simp

theorem State.writeRd_mbox_ne (u : State) (rd : Nat) {m k : Nat} (hk : k ≠ m) : (u.writeRd m rd).mbox k = u.mbox k := by
  unfold State.writeRd
  simp only
  split
  · exact State.mbox_setMbox_ne _ _ _ _ hk
  · rfl

theorem State.clrLost_mbox_ne (u : State) {m k : Nat} (hk : k ≠ m) : (u.clrLost m).mbox k = u.mbox k := by
  unfold State.clrLost
  split
  · exact State.mbox_setMbox_ne _ _ _ _ hk
  · rfl

/-- RD moves within WR − 8 to WR (R354). -/
theorem State.writeRd_mbox (u : State) {m : Nat} (rd : Nat) (hp : u.pathOpen m = true) : (u.writeRd m rd).mbox m =
    if ((u.mbox m).wr + 16 - rd % 16) % 16 ≤ 8 then { u.mbox m with rd := rd % 16 } else u.mbox m := by
  unfold State.writeRd
  simp only [hp, Bool.and_true, decide_eq_true_eq]
  split
  · exact State.mbox_setMbox_same _ _ _
  · rfl

theorem State.clrLost_mbox (u : State) {m : Nat} (hp : u.pathOpen m = true) : (u.clrLost m).mbox m = { u.mbox m with lost := 0 } := by
  rw [State.clrLost, if_pos hp, State.mbox_setMbox_same]

/-! ## What frames addressed to the unit do -/

section
variable {s : State} {b : List Byte} {f : HostFrame}

theorem State.heard_isl_st (s : State) : s.heard.isl.st = s.island.st := rfl
theorem State.heard_isl_lastSeq (s : State) : s.heard.isl.lastSeq = s.isl.lastSeq := s.island_lastSeq
theorem State.heard_isl_rsp (s : State) : s.heard.isl.rsp = s.isl.rsp := s.island_rsp

/-- The request of the frame stands in MB0's window, the island waiting. -/
def State.carries (u : State) (f : HostFrame) : State :=
  (u.setIsl { u.isl with st := .waiting, lastSeq := f.seq }).setMbox 0
    { u.mbox 0 with req := BitVec.ofNat 2048 (setBits (u.mbox 0).req.toNat 0 (8 * f.pay.length) (natLE f.pay)) }

theorem State.hostRequest_taken {u : State} (hl : f.requestFits) (hdev : u.isl.devUp = true) (hst : u.isl.st = .idle) (hon : u.on = true) :
    u.hostRequest f = ((u.carries f).ringMb 0).bwReply f u.hostAddr 0 [] := by
  rw [State.hostRequest_fits hl, if_neg (by simp [hdev]), if_neg (by simp [hst])]
  simp only
  rw [if_pos hon]
  rfl

theorem State.carries_changes (u : State) (f : HostFrame) : u.changes [.isl, .mb] (u.carries f) := by
  simp [State.carries]

theorem State.carries_mbox (u : State) (f : HostFrame) : (u.carries f).mbox 0 =
    { u.mbox 0 with req := BitVec.ofNat 2048 (setBits (u.mbox 0).req.toNat 0 (8 * f.pay.length) (natLE f.pay)) } :=
  State.mbox_setMbox_same _ _ _

theorem State.carries_mbox_ne (u : State) (f : HostFrame) {m : Nat} (hm : m ≠ 0) : (u.carries f).mbox m = u.mbox m :=
  State.mbox_setMbox_ne _ _ _ _ hm

/-- The request in MB0's window, the island and MB0 waiting, one more ring counted. -/
theorem State.carries_rung {u : State} (f : HostFrame) (htk : u.takes 0 = true) (hby : (u.mbox 0).busy = false) :
    let w := (u.carries f).ringMb 0
    u.changes [.isl, .mb, .hl] w ∧ w.isl = { u.isl with st := .waiting, lastSeq := f.seq } ∧ (w.mbox 0).st = .waiting ∧
    (w.mbox 0).req = BitVec.ofNat 2048 (setBits (u.mbox 0).req.toNat 0 (8 * f.pay.length) (natLE f.pay)) ∧
    (∀ m, m ≠ 0 → w.mbox m = u.mbox m) ∧ w.hl = { u.hl with rings := u.hl.rings + 1 } := by
  intro w
  have put := u.carries_changes f
  have hl : (u.carries f).hl = u.hl := put.same .hl (by decide)
  have htk' : (u.carries f).takes 0 = true := (State.takes_congr (put.same .life (by decide)) (put.same .glob (by decide)) 0).trans htk
  have hby' : ((u.carries f).mbox 0).busy = false := by rw [u.carries_mbox]; exact hby
  have rung := State.ringMb_taken_mbox htk' hby'
  have leaves := (u.carries f).ringMb_leaves 0
  rw [u.carries_mbox, hl] at rung
  refine ⟨(put.mono (by decide)).trans (leaves.mono (by decide)), leaves.same .isl (by decide), congrArg Mbox.st rung, congrArg Mbox.req rung,
    fun m hm => ((u.carries f).ringMb_mbox_ne hm).trans (u.carries_mbox_ne f hm), ?_⟩
  rw [← hl]
  exact State.ringMb_taken_hl htk' hby'

/-- The island shows MB0 idle. -/
def State.islIdle (u : State) : State := u.setIsl { u.isl with st := .idle }

theorem State.islIdle_acked (u : State) :
    let w := u.islIdle.ackMb 0
    u.changes [.isl, .mb] w ∧ w.isl = { u.isl with st := .idle } ∧ (w.mbox 0).st ≠ .done ∧ (∀ m, m ≠ 0 → w.mbox m = u.mbox m) ∧
    w.hl = u.hl := by
  intro w
  have leaves := u.islIdle.ackMb_leaves 0
  have base : u.changes [.isl, .mb] u.islIdle := rfl
  exact ⟨base.trans (leaves.mono (by decide)), leaves.same .isl (by decide), u.islIdle.ackMb_not_done (by simp [State.pathOpen]),
    fun m hm => u.islIdle.ackMb_mbox_ne hm, leaves.same .hl (by decide)⟩

/-- RD and LOST of MB0 as the host moves them, once they have crossed. -/
def State.consumed (u : State) (n : Nat) (clear : Bool) : State :=
  let t := u.writeRd 0 ((u.mbox 0).rd + n)
  if clear then t.clrLost 0 else t

theorem State.consumed_leaves (u : State) (n : Nat) (clear : Bool) : u.changes [.mb] (u.consumed n clear) := by
  unfold State.consumed
  simp only
  split
  · exact (u.writeRd_leaves _ _).trans (State.clrLost_leaves _ _)
  · exact u.writeRd_leaves _ _

theorem State.consumed_mbox_ne (u : State) (n : Nat) (clear : Bool) {m : Nat} (hm : m ≠ 0) : (u.consumed n clear).mbox m = u.mbox m := by
  unfold State.consumed
  simp only
  split
  · exact (State.clrLost_mbox_ne _ hm).trans (u.writeRd_mbox_ne _ hm)
  · exact u.writeRd_mbox_ne _ hm

theorem State.consumed_mbox (u : State) (n : Nat) (clear : Bool) : (u.consumed n clear).mbox 0 =
    { u.mbox 0 with
      rd := if ((u.mbox 0).wr + 16 - ((u.mbox 0).rd + n) % 16) % 16 ≤ 8 then ((u.mbox 0).rd + n) % 16 else (u.mbox 0).rd
      lost := if clear then 0 else (u.mbox 0).lost } := by
  have moved := u.writeRd_mbox (m := 0) ((u.mbox 0).rd + n) (by simp [State.pathOpen])
  unfold State.consumed
  cases clear with
  | true =>
    rw [if_pos rfl, State.clrLost_mbox _ (by simp [State.pathOpen]), moved]
    split <;> rfl
  | false =>
    rw [if_neg (by simp), moved]
    split <;> rfl

/-- The host takes `n` of at most 8 events of the ring. -/
theorem State.consumed_evtCnt {u : State} {n : Nat} (clear : Bool) (hn : n ≤ u.evtCnt 0) (h8 : u.evtCnt 0 ≤ 8) :
    (u.consumed n clear).evtCnt 0 + n = u.evtCnt 0 := by
  unfold State.evtCnt at *
  rw [u.consumed_mbox]
  simp only
  rw [if_pos (by omega)]
  omega

/-- What EVENTS moves: RD and LOST of the island's copy, and of MB0 where the device side runs. -/
theorem State.hostConsume_shows (u : State) (n : Nat) (clear : Bool) :
    let w := u.hostConsume n clear
    u.changes [.isl, .mb] w ∧ w.isl = { u.isl with rd := (u.isl.rd + n) % 16, lost := if clear then 0 else u.isl.lost } ∧
    (∀ m, m ≠ 0 → w.mbox m = u.mbox m) ∧
    (if u.on && u.isl.devUp then w.mbox 0 = (u.consumed n clear).mbox 0 else w.mbox 0 = u.mbox 0) := by
  intro w
  by_cases hon : (u.on && u.isl.devUp) = true
  · have run : w = State.setIsl (u.consumed n clear) { (u.consumed n clear).isl with
        rd := ((u.consumed n clear).isl.rd + n) % 16, lost := if clear then 0 else (u.consumed n clear).isl.lost } := by
      simp only [w, State.hostConsume, if_pos hon]
      rfl
    have leaves := u.consumed_leaves n clear
    have hisl : (u.consumed n clear).isl = u.isl := leaves.same .isl (by decide)
    rw [run, if_pos hon, hisl]
    refine ⟨?_, rfl, fun m hm => u.consumed_mbox_ne n clear hm, rfl⟩
    exact (State.changes_setIsl _ _ _ _ (by decide)).2 (leaves.mono (by decide))
  · have run : w = u.setIsl { u.isl with rd := (u.isl.rd + n) % 16, lost := if clear then 0 else u.isl.lost } := by
      simp only [w, State.hostConsume, if_neg hon]
    rw [run, if_neg hon]
    exact ⟨rfl, rfl, fun _ _ => rfl, rfl⟩

section
variable (ha : f.addr = s.hostAddr) (hb : f.addr ≠ 0xFFF)
include ha hb

theorem State.hostRequest_shows (hl : f.requestFits) (hdev : s.isl.devUp = true) (hst : s.island.st = .idle) (hon : s.on = true)
    (htk : s.takes 0 = true) (hby : (s.mbox 0).busy = false) :
    let t := s.heard.hostRequest f
    s.answersFrame f t t 0 [] ∧ t.isl.st = .waiting ∧ t.isl.lastSeq = f.seq ∧ (t.mbox 0).st = .waiting ∧
    (t.mbox 0).req = BitVec.ofNat 2048 (setBits (s.mbox 0).req.toNat 0 (8 * f.pay.length) (natLE f.pay)) ∧
    (∀ m, m ≠ 0 → t.mbox m = s.mbox m) ∧ t.csr = s.csr ∧ t.hl = { s.hl with rings := s.hl.rings + 1 } := by
  intro t
  have run : t = _ := State.hostRequest_taken hl (s.heard_isl_devUp.trans hdev) (s.heard_isl_st.trans hst) hon
  obtain ⟨leaves, hisl, hst, hreq, others, hhl⟩ :=
    State.carries_rung (u := s.heard) f ((State.takes_congr (s := s) rfl rfl 0).trans htk) hby
  have base : s.changes [.isl, .mb, .hl, .csr] s.heard := rfl
  have all : s.changes [.isl, .mb, .hl, .csr] ((s.heard.carries f).ringMb 0) := base.trans (leaves.mono (by decide))
  have hcsr : ((s.heard.carries f).ringMb 0).csr = s.csr := leaves.same .csr (by decide)
  rw [run]
  clear_value t
  generalize (s.heard.carries f).ringMb 0 = w at *
  refine ⟨State.answers_after ha hb (by rw [hisl]; rfl) all 0 [], ?_⟩
  rw [State.bwReply_one _ _ _ hb]
  exact ⟨congrArg Island.st hisl, congrArg Island.lastSeq hisl, hst, hreq, others, hcsr, hhl⟩

omit ha in
/-- A reply leaves all but the reply of the state that the frame found. -/
theorem State.heard_bwReply_isl (status : Nat) (data : List Byte) :
    let t := s.heard.bwReply f s.heard.hostAddr status data
    t.isl.st = s.island.st ∧ t.isl.lastSeq = s.isl.lastSeq ∧ t.mb = s.mb ∧ t.hl = s.hl ∧ t.csr = s.csr := by
  intro t
  have run : t = _ := State.bwReply_one _ _ _ hb
  rw [run]
  exact ⟨rfl, s.island_lastSeq, rfl, rfl, rfl⟩

/-- A refusal or another reply that changes nothing else. -/
theorem State.heard_replied {t : State} {status : Nat} {data : List Byte} (run : t = s.heard.bwReply f s.heard.hostAddr status data) :
    s.answersFrame f t s status data ∧ t.isl.st = s.island.st ∧ t.isl.lastSeq = s.isl.lastSeq ∧ t.mb = s.mb ∧ t.hl = s.hl ∧ t.csr = s.csr := by
  subst run
  exact ⟨State.heard_answers ha hb status data, State.heard_bwReply_isl hb status data⟩

omit ha hb in
theorem State.hostRequest_busy (hl : f.requestFits) (hdev : s.isl.devUp = true) (hst : s.island.st ≠ .idle) :
    s.heard.hostRequest f = s.heard.bwReply f s.heard.hostAddr (if f.seq = s.isl.lastSeq then 0 else stBUSY) [] := by
  rw [State.hostRequest_fits hl, if_neg (by simp [hdev]), if_pos (by rwa [s.heard_isl_st]), s.heard_isl_lastSeq]

omit ha hb in
theorem State.heard_down (hdev : s.isl.devUp = false) :
    (f.requestFits → s.heard.hostRequest f = s.heard.bwReply f s.heard.hostAddr stNOT_READY []) ∧
    (f.pay = [] → s.heard.hostResponse f = s.heard.bwReply f s.heard.hostAddr stNOT_READY []) ∧
    (f.pay = [] → s.heard.hostAck f = s.heard.bwReply f s.heard.hostAddr stNOT_READY []) :=
  ⟨fun hl => by rw [State.hostRequest_fits hl, if_pos (by simp [hdev])], fun hp => by simp [State.hostResponse, hp, hdev],
    fun hp => by simp [State.hostAck, hp, hdev]⟩

theorem State.hostStatus_shows (hp : f.pay = []) :
    let t := s.heard.hostStatus f
    s.answersFrame f t s 0 (bytesLE s.island.lost 2 ++ bytesLE s.isl.lastSeq 1 ++ [0]) ∧ t.isl.resync = false ∧ t.mb = s.mb ∧ t.hl = s.hl := by
  intro t
  obtain ⟨shown, silent, rest⟩ := State.heard_answers (s := s) ha hb 0 (bytesLE s.heard.island.lost 2 ++ bytesLE s.heard.isl.lastSeq 1 ++ [0])
  obtain ⟨-, -, hmb, hhl, -⟩ := State.heard_bwReply_isl (s := s) hb 0 (bytesLE s.heard.island.lost 2 ++ bytesLE s.heard.isl.lastSeq 1 ++ [0])
  have run : t = State.setIsl (s.heard.bwReply f s.heard.hostAddr 0 (bytesLE s.heard.island.lost 2 ++ bytesLE s.heard.isl.lastSeq 1 ++ [0]))
      { (s.heard.bwReply f s.heard.hostAddr 0 (bytesLE s.heard.island.lost 2 ++ bytesLE s.heard.isl.lastSeq 1 ++ [0])).isl with resync := false } := by
    simp [t, State.hostStatus, hp, hb]
  rw [s.heard_isl_lastSeq, show s.heard.island.lost = s.island.lost by rw [s.heard_island]] at *
  rw [run]
  exact ⟨⟨shown, silent, rest⟩, rfl, hmb, hhl⟩

theorem State.hostResponse_shows (hp : f.pay = []) (hst : s.island.st = .done) (hdev : s.isl.devUp = true) :
    let t := s.heard.hostResponse f
    s.answersFrame f t s 0 (bytesLE s.isl.rsp.toNat (8 + fieldAt s.isl.rsp.toNat 2 2)) ∧ t.isl.st = .done ∧ t.mb = s.mb ∧ t.hl = s.hl := by
  intro t
  have run : t = s.heard.bwReply f s.heard.hostAddr 0 (bytesLE s.isl.rsp.toNat (8 + fieldAt s.isl.rsp.toNat 2 2)) := by
    rw [← s.heard_isl_rsp]
    simp [t, State.hostResponse, hp, s.heard_isl_st, hst, hdev]
  obtain ⟨shown, st, -, hmb, hhl, -⟩ := State.heard_replied ha hb run
  exact ⟨shown, st.trans hst, hmb, hhl⟩

theorem State.hostAck_shows (hp : f.pay = []) (hst : s.island.st = .done) (hdev : s.isl.devUp = true) :
    let t := s.heard.hostAck f
    s.answersFrame f t t 0 [] ∧ t.isl.st = .idle ∧ (t.mbox 0).st ≠ .done ∧ t.hl = s.hl ∧ ∀ m, m ≠ 0 → t.mbox m = s.mbox m := by
  intro t
  have run : t = (s.heard.islIdle.ackMb 0).bwReply f s.heard.hostAddr 0 [] := by
    simp [t, State.islIdle, State.hostAck, hp, s.heard_isl_st, hst, hdev]
  obtain ⟨leaves, hisl, acked, others, hhl⟩ := s.heard.islIdle_acked
  have base : s.changes [.isl, .mb, .hl, .csr] s.heard := rfl
  have all : s.changes [.isl, .mb, .hl, .csr] (s.heard.islIdle.ackMb 0) := base.trans (leaves.mono (by decide))
  rw [run]
  clear_value t
  generalize s.heard.islIdle.ackMb 0 = w at *
  refine ⟨State.answers_after ha hb (by rw [hisl]; rfl) all 0 [], ?_⟩
  rw [State.bwReply_one _ _ _ hb]
  exact ⟨congrArg Island.st hisl, acked, hhl, others⟩

omit ha hb in
theorem State.hostEvents_taken {k n l : Byte} (hp : f.pay = [k, n, l]) (hk : k.toNat ≤ s.island.evtCnt) (h1 : 1 ≤ n.toNat)
    (h7 : n.toNat ≤ 7) (hl : l.toNat ≤ 1) : s.heard.hostEvents f =
    (s.heard.hostConsume k.toNat (l = 1)).bwReply f s.heard.hostAddr 0 ((s.heard.hostConsume k.toNat (l = 1)).ringEntries n.toNat) := by
  have cnt : s.heard.island.evtCnt = s.island.evtCnt := by rw [s.heard_island]; rfl
  have one : (l.toNat = 1) = (l = 1) := propext ⟨fun h => BitVec.eq_of_toNat_eq h, fun h => by rw [h]; rfl⟩
  have fits : ¬ (s.heard.island.evtCnt < k.toNat ∨ n.toNat = 0 ∨ 7 < n.toNat ∨ 1 < l.toNat) := by omega
  simp only [State.hostEvents, hp, natLE, List.drop, List.take, List.length, Nat.mul_zero, Nat.add_zero, fits, if_false, one]
  rfl

theorem State.hostEvents_shows {k n l : Byte} (hp : f.pay = [k, n, l]) (hk : k.toNat ≤ s.island.evtCnt) (h1 : 1 ≤ n.toNat)
    (h7 : n.toNat ≤ 7) (hl : l.toNat ≤ 1) :
    let t := s.heard.hostEvents f
    s.answersFrame f t t 0 (t.ringEntries n.toNat) ∧ t.isl.rd = (s.island.rd + k.toNat) % 16 ∧ t.isl.wr = s.island.wr ∧
    t.isl.evt = s.island.evt ∧ t.isl.lost = (if l = 1 then 0 else s.island.lost) ∧ (t.mbox 0).evt = (s.mbox 0).evt ∧
    (t.mbox 0).wr = (s.mbox 0).wr ∧
    (s.on = true → s.isl.devUp = true → (t.mbox 0).lost = (if l = 1 then 0 else (s.mbox 0).lost) ∧
      (s.evtCnt 0 ≤ 8 → t.evtCnt 0 + k.toNat = s.evtCnt 0)) ∧
    (s.on = false ∨ s.isl.devUp = false → t.mbox 0 = s.mbox 0) ∧ t.hl = s.hl ∧ ∀ m, m ≠ 0 → t.mbox m = s.mbox m := by
  intro t
  have run : t = _ := State.hostEvents_taken hp hk h1 h7 hl
  obtain ⟨leaves, hisl, others, own⟩ := s.heard.hostConsume_shows k.toNat (l = 1)
  have base : s.changes [.isl, .mb, .hl, .csr] s.heard := rfl
  have all : s.changes [.isl, .mb, .hl, .csr] (s.heard.hostConsume k.toNat (l = 1)) := base.trans (leaves.mono (by decide))
  have hhl : (s.heard.hostConsume k.toNat (l = 1)).hl = s.hl := leaves.same .hl (by decide)
  have moved := s.heard.consumed_mbox k.toNat (l = 1)
  have counted := State.consumed_evtCnt (u := s.heard) (n := k.toNat) (l = 1)
  rw [run]
  clear_value t
  generalize s.heard.hostConsume k.toNat (l = 1) = w at *
  have same : (w.mbox 0).evt = (s.mbox 0).evt ∧ (w.mbox 0).wr = (s.mbox 0).wr := by
    split at own
    · rw [own, moved]
      exact ⟨rfl, rfl⟩
    · rw [own]
      exact ⟨rfl, rfl⟩
  have crossed (hon : s.on = true) (hdev : s.isl.devUp = true) : w.mbox 0 = (s.heard.consumed k.toNat (l = 1)).mbox 0 := by
    rwa [if_pos (by simp [hon, hdev])] at own
  have stays (h : s.on = false ∨ s.isl.devUp = false) : w.mbox 0 = s.mbox 0 := by
    rwa [if_neg (by simpa [imp_iff_not_or] using h)] at own
  refine ⟨?_, ?_⟩
  · rw [State.bwReply_ringEntries _ _ _ hb]
    exact State.answers_after ha hb (by rw [hisl]; rfl) all 0 _
  rw [State.bwReply_one _ _ _ hb]
  refine ⟨congrArg Island.rd hisl, (congrArg Island.wr hisl).trans rfl, (congrArg Island.evt hisl).trans rfl, ?_, same.1, same.2, fun hon hdev => ⟨?_, fun h8 => ?_⟩,
    stays, hhl, others⟩
  · refine (congrArg Island.lost hisl).trans ?_
    simp [State.heard_isl]
  · refine (congrArg Mbox.lost ((crossed hon hdev).trans moved)).trans ?_
    simp only [decide_eq_true_eq]
    rfl
  · have cnt : s.island.evtCnt = s.evtCnt 0 := by rw [State.island_of_devUp hon hdev]; rfl
    have same : State.evtCnt w 0 = (s.heard.consumed k.toNat (l = 1)).evtCnt 0 := by rw [State.evtCnt, crossed hon hdev]; rfl
    refine (congrArg (· + k.toNat) same).trans (counted ?_ h8)
    exact hk.trans cnt.le

omit ha hb in
/-- The event mask of MB0 is in no reply's head. -/
theorem State.replyHead_mask (u : State) (v status : Nat) : (u.setReg (MB 0 0x208) v).replyHead status = u.replyHead status := by
  have zaddr : (u.setReg (MB 0 0x208) v).zaddr = u.zaddr := State.fld_congr (State.reg_setReg_ne _ _ _ _ (by decide)) _ _
  have island : (u.setReg (MB 0 0x208) v).island = u.island := by
    simp only [State.island, Island.copy, zaddr]
    rfl
  simp only [State.replyHead, State.islState, island]
  rfl

theorem State.hostMask_shows (hp : f.pay.length = 4) (hdev : s.isl.devUp = true) (hon : s.on = true) :
    let t := s.heard.hostMask f
    s.answersFrame f t s 0 [] ∧ t.reg (MB 0 0x208) = natLE f.pay ∧ (∀ a, a ≠ MB 0 0x208 → t.reg a = s.reg a) ∧ t.mb = s.mb ∧ t.hl = s.hl := by
  intro t
  have run : t = (s.heard.setReg (MB 0 0x208) (natLE f.pay)).bwReply f s.heard.hostAddr 0 [] := by
    simp [t, State.hostMask, hp, hon, hdev]
  have fits := natLE_lt f.pay
  rw [hp] at fits
  have head := (s.heard.replyHead_mask (natLE f.pay) 0).trans (s.heard_replyHead 0)
  have written : (s.heard.setReg (MB 0 0x208) (natLE f.pay)).reg (MB 0 0x208) = natLE f.pay :=
    (State.reg_setReg_same _ _ _).trans (Nat.mod_eq_of_lt fits)
  have others (a : Nat) (h : a ≠ MB 0 0x208) : (s.heard.setReg (MB 0 0x208) (natLE f.pay)).reg a = s.reg a := State.reg_setReg_ne _ _ _ _ h
  have all : s.changes [.isl, .mb, .hl, .csr] (s.heard.setReg (MB 0 0x208) (natLE f.pay)) := rfl
  have silent : (s.heard.setReg (MB 0 0x208) (natLE f.pay)).isl.presence = false := rfl
  have hmb : (s.heard.setReg (MB 0 0x208) (natLE f.pay)).mb = s.mb := rfl
  have hhl : (s.heard.setReg (MB 0 0x208) (natLE f.pay)).hl = s.hl := rfl
  rw [run]
  clear_value t
  generalize s.heard.setReg (MB 0 0x208) (natLE f.pay) = w at *
  refine ⟨State.bwReply_answers ha hb silent all head [], ?_⟩
  rw [State.bwReply_one _ _ _ hb]
  exact ⟨written, others, hmb, hhl⟩

end

end

/-- Settles O25: each type's frame acts on the island as it stands, and its reply is built from what it leaves. -/
theorem hostFrames : Obligations.HostFrames := by
  intro s b f hv hf h0 ha hb answers i
  refine ⟨fun ht hlen hmax hdev hst hon htk hby => ?_, fun ht hlen hmax hdev hst => ?_, fun hdev => ⟨fun ht hlen hmax => ?_,
    fun ht hp => ?_, fun ht hp => ?_⟩, fun ht hp => ?_, fun ht hp hst hdev => ?_, fun ht hp hst hdev => ?_,
    fun ht k n l hp hk h1 h7 hl => ?_, fun ht hp hdev hon => ?_⟩
  · exact completes_unit rfl hv hf h0 ha ht (by decide) (by decide) (State.hostRequest_shows ha hb ⟨hlen, hmax⟩ hdev hst hon htk hby)
  · exact completes_unit rfl hv hf h0 ha ht (by decide) (by decide) (State.heard_replied ha hb (State.hostRequest_busy ⟨hlen, hmax⟩ hdev hst))
  · obtain ⟨shown, -, -, rest⟩ := State.heard_replied ha hb ((State.heard_down hdev).1 ⟨hlen, hmax⟩)
    exact completes_unit rfl hv hf h0 ha ht (by decide) (by decide) ⟨shown, rest⟩
  · obtain ⟨shown, -, -, rest⟩ := State.heard_replied ha hb ((State.heard_down hdev).2.1 hp)
    exact completes_unit rfl hv hf h0 ha ht (by decide) (by decide) ⟨shown, rest⟩
  · obtain ⟨shown, -, -, rest⟩ := State.heard_replied ha hb ((State.heard_down hdev).2.2 hp)
    exact completes_unit rfl hv hf h0 ha ht (by decide) (by decide) ⟨shown, rest⟩
  · exact completes_unit rfl hv hf h0 ha ht (by decide) (by decide) (State.hostStatus_shows ha hb hp)
  · exact completes_unit rfl hv hf h0 ha ht (by decide) (by decide) (State.hostResponse_shows ha hb hp hst hdev)
  · exact completes_unit rfl hv hf h0 ha ht (by decide) (by decide) (State.hostAck_shows ha hb hp hst hdev)
  · exact completes_unit rfl hv hf h0 ha ht (by decide) (by decide) (State.hostEvents_shows ha hb hp hk h1 h7 hl)
  · exact completes_unit rfl hv hf h0 ha ht (by decide) (by decide) (State.hostMask_shows ha hb hp hdev hon)

/-! ## Bus frames -/

section
variable {s : State} {b : List Byte} {f : HostFrame}

/-- What a SEARCH, IDENTIFY or ASSIGN does (Table BWP-6). -/
def State.busFrame (s : State) (typ : Nat) (f : HostFrame) : State :=
  match typ with
  | 8 => s.hostSearch f
  | 9 => s.hostIdentify f
  | _ => s.hostAssign f

theorem State.hostFrame_bus (hv : s.rails.vhost = true) (hf : readFrame b = some f) {k : Nat} (ht : f.typ = k) (h8 : 8 ≤ k)
    (h10 : k ≤ 10) : s.hostFrame k b = s.heard.busFrame k f := by
  have heard : s.mirror.setIsl { s.mirror.isl with reply := none, presence := false } = s.heard := rfl
  simp only [State.hostFrame, hv, hf, heard, ht, h8, h10, and_self, if_true, Bool.not_true, Bool.false_eq_true, if_false, ne_eq,
    not_true_eq_false]
  interval_cases k <;> rfl

theorem completes_bus {c : Instr} {P : State → Prop} {k : Nat} (run : exec c s = .next (s.hostFrame k b)) (hv : s.rails.vhost = true)
    (hf : readFrame b = some f) (ht : f.typ = k) (h8 : 8 ≤ k) (h10 : k ≤ 10) (h : P (s.heard.busFrame k f)) : Completes c s P :=
  completes_intro (run.trans (congrArg _ (State.hostFrame_bus hv hf ht h8 h10))) h

theorem State.heard_irq (s : State) : s.heard.irq = s.irq := by
  simp only [State.irq, s.heard_island, State.heard_isl_devUp]
  rfl

theorem State.heard_identity (s : State) : s.heard.identity = s.identity := by
  simp only [State.identity, s.heard_island, State.heard_isl_haddr]

theorem State.hostSearch_shows (ha : f.addr = 0) (hlen : f.pay.length = 18) {p g : Byte} (hp : f.pay.take 2 = [p, g])
    (hp128 : p.toNat ≤ 128) (hg : g.toNat ≤ 3) :
    (s.heard.hostSearch f).isl.presence = true ↔ (∀ i, i < p.toNat → idBit (f.pay.drop 2) i = idBit s.unitBytes i) ∧
      (g.toNat.testBit 0 = true → s.irq = true) ∧ (g.toNat.testBit 1 = true → s.hostAddr = 0) := by
  obtain ⟨rest, hpay⟩ : ∃ rest, f.pay = p :: g :: rest := ⟨f.pay.drop 2, by
    rw [← List.take_append_drop 2 f.pay, hp]
    simp⟩
  have hp1 : natLE (f.pay.take 1) = p.toNat := by simp [hpay, natLE]
  have hg1 : natLE ((f.pay.drop 1).take 1) = g.toNat := by simp [hpay, natLE]
  have hg4 : g.toNat < 4 := by omega
  simp only [State.hostSearch, State.setIsl, hp1, hg1, ha, hlen, hp128, hg4, s.heard_irq, State.heard_unitBytes, State.heard_hostAddr]
  simp [imp_iff_not_or, and_assoc]
  exact .inr (forall_congr' fun i => or_congr_right decide_eq_true_iff)

theorem State.bwReply_changes (u : State) (f : HostFrame) (a status : Nat) (data : List Byte) :
    u.changes [.isl] (u.bwReply f a status data) := by
  unfold State.bwReply
  split <;> simp

/-- SEARCH writes the presence byte and nothing else. -/
theorem State.hostSearch_changes (u : State) (f : HostFrame) :
    u.changes [.isl] (u.hostSearch f) ∧ (u.hostSearch f).isl.reply = u.isl.reply ∧ (u.hostSearch f).isl.haddr = u.isl.haddr :=
  ⟨(State.changes_setIsl _ _ _ _ (by decide)).2 (State.changes_refl _ _), rfl, rfl⟩

/-- A frame that the unit leaves unanswered. -/
theorem State.heard_quiet : { s.heard with isl := s.isl } = s ∧ s.heard.isl.reply = none ∧ s.heard.isl.haddr = s.isl.haddr :=
  ⟨rfl, rfl, s.heard_isl_haddr⟩

/-- A reply to a frame that changes nothing but the island. -/
theorem State.heard_bus_reply {k : Nat} (hb : f.addr = 0) (ht : f.typ = k) (status : Nat) (data : List Byte) :
    let t := s.heard.bwReply f s.heard.hostAddr status data
    { t with isl := s.isl } = s ∧ t.isl.reply = some (writeFrame s.hostAddr k f.seq (s.replyHead status ++ data)) ∧
    t.isl.haddr = s.isl.haddr := by
  intro t
  have shown : t.isl.reply = _ := State.bwReply_isl_reply _ _ _ _ (by omega)
  have base : s.changes [.isl] s.heard := rfl
  refine ⟨base.trans (State.bwReply_changes _ _ _ _ _), ?_, (State.bwReply_isl_haddr _ _ _ _ _).trans s.heard_isl_haddr⟩
  rw [shown, s.heard_replyHead, s.heard_hostAddr, ht]

section
variable (ha : f.addr = 0)
include ha

theorem State.hostIdentify_own (hlen : f.pay.length = 16) (hid : f.pay = s.unitBytes) :
    s.heard.hostIdentify f = s.heard.bwReply f s.heard.hostAddr 0 s.identity := by
  rw [← s.heard_identity]
  have take : f.pay.take 16 = s.unitBytes := by rw [List.take_of_length_le hlen.le, hid]
  simp [State.hostIdentify, ha, hlen, take]

theorem State.hostIdentify_length (hlen : f.pay.length ≠ 16) (hid : f.pay.take 16 = s.unitBytes) :
    s.heard.hostIdentify f = s.heard.bwReply f s.heard.hostAddr stBAD_LENGTH [] := by
  simp [State.hostIdentify, ha, hlen, hid]

theorem State.hostAssign_length (hlen : f.pay.length ≠ 18) (hid : f.pay.take 16 = s.unitBytes) :
    s.heard.hostAssign f = s.heard.bwReply f s.heard.hostAddr stBAD_LENGTH [] := by
  simp [State.hostAssign, ha, hlen, hid]

omit ha in
theorem State.hostBus_other (hid : f.pay.take 16 ≠ s.unitBytes) : s.heard.hostIdentify f = s.heard ∧ s.heard.hostAssign f = s.heard := by
  simp [State.hostIdentify, State.hostAssign, hid]

theorem State.hostAssign_shows (ht : f.typ = 10) (hlen : f.pay.length = 18) (hid : f.pay.take 16 = s.unitBytes)
    (hlt : natLE (f.pay.drop 16) < 0xFFF) :
    let t := s.heard.hostAssign f
    { t with isl := s.isl } = s ∧ t.isl.haddr = (if natLE (f.pay.drop 16) = 0 then none else some (natLE (f.pay.drop 16))) ∧
    t.isl.reply = some (writeFrame s.hostAddr 10 f.seq (t.replyHead 0 ++ t.identity)) := by
  intro t
  have run : t = _ := State.hostAssign_taken ha hlen (by rw [s.heard_unitBytes, hid]) hlt
  refine ⟨?_, ?_, ?_⟩
  · rw [run]
    have base : s.changes [.isl] s.heard := rfl
    exact (base.trans ((State.changes_setIsl _ _ _ _ (by decide)).2 (State.changes_refl _ _))).trans (State.bwReply_changes _ _ _ _ _)
  · rw [run, State.bwReply_isl_haddr]
    rfl
  · rw [run]
    generalize s.heard.setIsl _ = w
    have same : (w.bwReply f s.heard.hostAddr 0 w.identity).identity = w.identity := by
      rw [State.bwReply_one _ _ _ (by omega)]
      simp only [State.identity]
      rw [show (w.setIsl _).island = _ from w.island_answered _ w.isl.presence]
      rfl
    rw [same, State.bwReply_replyHead _ _ _ (by omega), State.bwReply_isl_reply _ _ _ _ (by omega), s.heard_hostAddr, ht]

end

end

theorem State.hostFrame_none {s : State} {b : List Byte} (hv : s.rails.vhost = true) (hf : readFrame b = none) (k : Nat) :
    s.hostFrame k b = { s with isl := { s.island with reply := none, presence := false } } := by
  simp only [State.hostFrame, hv, hf]
  rfl

theorem State.hostFrame_off {s : State} (hv : s.rails.vhost = false) (k : Nat) (b : List Byte) : s.hostFrame k b = s := by
  simp [State.hostFrame, hv]

/-- Settles O26: SEARCH, IDENTIFY and ASSIGN by the unit's ID, and frames that find no unit to answer. -/
theorem busFrames : Obligations.BusFrames := by
  refine ⟨?frames, fun s b c hc => ?ineffective⟩
  case' frames =>
    intro s b f hv hf ha quiet
    refine ⟨fun ht hlen p g hp hp128 hg => ?search, fun ht hlen hid => ?identify, fun ht hlen hid => ?badLength,
    fun ht hid => ?other, fun ht hlen hid => ?assignLength, fun ht hlen hid hlt => ?assign, fun ht hid => ?assignOther⟩
  case search =>
    have base : s.changes [.isl] s.heard := rfl
    obtain ⟨leaves, reply, haddr⟩ := s.heard.hostSearch_changes f
    exact completes_bus rfl hv hf ht (by decide) (by decide) ⟨base.trans leaves, reply, haddr.trans s.heard_isl_haddr,
      State.hostSearch_shows ha hlen hp hp128 hg⟩
  case identify =>
    have replied := State.heard_bus_reply (s := s) ha ht 0 s.identity
    rw [← State.hostIdentify_own ha hlen hid] at replied
    exact completes_bus rfl hv hf ht (by decide) (by decide) replied
  case badLength =>
    obtain ⟨same, shown, -⟩ := State.heard_bus_reply (s := s) ha ht stBAD_LENGTH []
    rw [← State.hostIdentify_length ha hlen hid] at same shown
    exact completes_bus rfl hv hf ht (by decide) (by decide) ⟨same, shown.trans (by simp)⟩
  case other =>
    obtain ⟨same, silent, -⟩ := s.heard_quiet
    rw [← (State.hostBus_other hid).1] at same silent
    exact completes_bus rfl hv hf ht (by decide) (by decide) ⟨same, silent⟩
  case assignLength =>
    have replied := State.heard_bus_reply (s := s) ha ht stBAD_LENGTH []
    rw [← State.hostAssign_length ha hlen hid, List.append_nil] at replied
    exact completes_bus rfl hv hf ht (by decide) (by decide) replied
  case assign => exact completes_bus rfl hv hf ht (by decide) (by decide) (State.hostAssign_shows ha ht hlen hid hlt)
  case assignOther =>
    have quiet := s.heard_quiet
    rw [← (State.hostBus_other hid).2] at quiet
    exact completes_bus rfl hv hf ht (by decide) (by decide) quiet
  case ineffective =>
    have run : ∃ k, exec c s = .next (s.hostFrame k b) := by
      simp only [List.mem_cons, List.not_mem_nil, or_false] at hc
      rcases hc with rfl | rfl | rfl | rfl | rfl | rfl | rfl | rfl | rfl <;> exact ⟨_, rfl⟩
    obtain ⟨k, run⟩ := run
    exact ⟨fun hv hf => completes_intro run (State.hostFrame_none hv hf k), fun hv => completes_intro run (State.hostFrame_off hv k b)⟩

end Sys2Proof.Machine
end

section
/-! Headland and the mailboxes (spec/11): accesses without a register, mailbox registers, services, job slices, restarts. -/
namespace Sys2Proof.Machine

/-! ## Accesses without a register -/

theorem State.accessStatus_unassigned (s : State) (node dst : Nat) {a : Nat} (write wide : Bool)
    (h : servingNode a = none ∨ ((∀ off, blockOf a ≠ .mem off) ∧ regFields a = none)) :
    s.accessStatus node dst a write wide = stBAD_ARG := by
  unfold State.accessStatus
  simp only
  by_cases aligned : a % (if wide then 8 else 4) ≠ 0
  · exact if_pos aligned
  · rw [if_neg aligned]
    by_cases served : servingNode a ≠ some dst
    · exact if_pos served
    · rcases h with h | ⟨hmem, hreg⟩
      · simp [h] at served
      · rw [if_neg served]
        refine if_pos ?_
        rw [hreg]
        cases hb : blockOf a with
        | mem off => exact absurd hb (hmem off)
        | _ => simp

/-- Settles O51: the map is judged before gates and rights. -/
theorem unassignedAccess : Obligations.UnassignedAccess := by
  intro s node dst a v write wide h
  refine ⟨?_, fun hnone => ?_⟩
  · rw [State.access, State.accessStatus_unassigned s node dst write wide h]
    rfl
  · rw [State.headlandAccess, hnone]
    rfl

/-! ## Mailbox registers -/

/-- Where the island's copy of MB0's STATE stands after a change by the host (R401). -/
theorem State.islFollows_shows (t : State) (m : Nat) :
    (t.islFollows m).mb = t.mb ∧ t.changes [.isl] (t.islFollows m) ∧ (t.islFollows m).isl =
      if m = 0 ∧ t.on = true ∧ t.isl.devUp = true ∧ (t.mbox 0).st ≠ .done then { t.isl with st := (t.mbox 0).st } else t.isl := by
  by_cases h : (m = 0 && t.on && t.isl.devUp && (t.mbox 0).st ≠ .done) = true
  · have h' : m = 0 ∧ t.on = true ∧ t.isl.devUp = true ∧ (t.mbox 0).st ≠ .done := by simpa [and_assoc] using h
    rw [State.islFollows, if_pos h, if_pos h']
    exact ⟨rfl, rfl, rfl⟩
  · have h' : ¬ (m = 0 ∧ t.on = true ∧ t.isl.devUp = true ∧ (t.mbox 0).st ≠ .done) := by simpa [and_assoc] using h
    rw [State.islFollows, if_neg h, if_neg h']
    exact ⟨rfl, State.changes_refl _ _, rfl⟩

theorem State.islFollows_mbox (t : State) (m k : Nat) : (t.islFollows m).mbox k = t.mbox k := by
  rw [State.mbox, (t.islFollows_shows m).1]
  rfl

/-- The host has changed the window of mailbox `m`: what else changes is Breakwater's copy. -/
theorem State.islFollows_after {s t : State} {m : Nat} {l : List Part} (h : s.changes l t) (hon : t.on = s.on) (hisl : t.isl = s.isl) :
    (t.islFollows m).isl = (if m = 0 ∧ s.on = true ∧ s.isl.devUp = true ∧ ((t.islFollows m).mbox 0).st ≠ .done
      then { s.isl with st := ((t.islFollows m).mbox 0).st } else s.isl) ∧ s.changes (.isl :: l) (t.islFollows m) := by
  obtain ⟨-, leaves, shows⟩ := t.islFollows_shows m
  rw [shows, hon, hisl, State.islFollows_mbox]
  exact ⟨rfl, (h.mono (by simp)).trans (leaves.mono (by simp))⟩

/-- Settles O21: each of the commands updates one window, which Breakwater follows. -/
theorem mailboxRegisters : Obligations.MailboxRegisters := by
  intro s m b only follows
  have one (x : Mbox) : only (s.setMbox m x) x :=
    ⟨State.mbox_setMbox_same _ _ _, fun k hk => State.mbox_setMbox_ne _ _ _ _ hk, rfl⟩
  have window (x : Mbox) : ((s.setMbox m x).islFollows m).mbox m = x ∧
      (∀ k, k ≠ m.val → ((s.setMbox m x).islFollows m).mbox k = s.mbox k) ∧ follows ((s.setMbox m x).islFollows m) ∧
      s.changes [.mb, .isl] ((s.setMbox m x).islFollows m) := by
    obtain ⟨isl, leaves⟩ := State.islFollows_after (m := m) ((State.changes_setMbox [.mb] s s m x (by decide)).2 (State.changes_refl _ _)) rfl rfl
    refine ⟨?_, fun k hk => ?_, isl, leaves.mono (by decide)⟩
    · rw [State.islFollows_mbox, State.mbox_setMbox_same]
    · rw [State.islFollows_mbox, State.mbox_setMbox_ne _ _ _ _ hk]
  have still : follows (s.islFollows m) ∧ s.changes [.isl] (s.islFollows m) :=
    State.islFollows_after (State.changes_refl [] s) rfl rfl
  refine ⟨fun htk hw hs => ?ring, fun htk hb => ?overrun, fun htk => ?closed, fun hd hp => ?ack, fun h => ?noAck, fun hp => ?clr,
    fun hp => ?noClr, fun v => ?rdWrite, fun hw => ?aged, fun hw => ?young⟩
  case ring =>
    have busy : (s.mbox m).busy = false := by simp [Mbox.busy, show (s.mbox m).st ≠ .waiting from hw, show (s.mbox m).st ≠ .serving from hs]
    have leaves := s.ringMb_leaves m
    obtain ⟨isl, all⟩ := State.islFollows_after (m := m) leaves (leaves.same .on (by decide)) (leaves.same .isl (by decide))
    have rings : ((s.ringMb m).islFollows m).hl = { s.hl with rings := s.hl.rings + 1 } :=
      (show State.hl _ = _ from ((s.ringMb m).islFollows_shows m).2.1.same .hl (by decide)).trans (State.ringMb_taken_hl htk busy)
    refine completes_intro rfl ⟨?_, fun k hk => ?_, isl, ?_⟩
    · rw [State.islFollows_mbox, State.ringMb_taken_mbox htk busy]
    · rw [State.islFollows_mbox, State.ringMb_mbox_ne _ hk]
    · rw [← rings]
      exact congrArg (fun u : State => { u with hl := ((s.ringMb m).islFollows m).hl }) all
  case overrun =>
    have busy : (s.mbox m).busy = true := by simpa [Mbox.busy] using hb
    have run : s.ringMb m = s.setMbox m { b with overrun := true } := by simp [State.ringMb, State.overrun, htk, busy, b]
    refine completes_intro rfl ?_
    rw [run]
    exact window _
  case closed =>
    have run : s.ringMb m = s := by simp [State.ringMb, htk]
    refine completes_intro rfl ?_
    rw [run]
    exact still
  case ack =>
    refine completes_intro rfl ?_
    rw [State.ackMb_done hd hp]
    exact window _
  case noAck =>
    have run : s.ackMb m = s := by
      rcases h with h | h <;> simp [State.ackMb, h, b]
    refine completes_intro rfl ?_
    rw [run]
    exact still
  case clr =>
    refine completes_intro rfl ?_
    rw [State.clrLost, if_pos hp]
    exact one _
  case noClr => exact completes_intro rfl (if_neg (by simp [hp]))
  case rdWrite =>
    intro rd
    have written : execEvtRdWrite m v s = .next (s.writeRd m rd) := by
      simp only [execEvtRdWrite, bits, Nat.shiftRight_eq_div_pow]
      rfl
    have once : rd % 16 = rd := Nat.mod_mod _ _
    refine ⟨fun hrd hp => completes_intro written ?_, fun h => completes_intro written ?_⟩
    · have run : s.writeRd m rd = s.setMbox m { b with rd := rd } := by
        simp only [State.writeRd, hp, once, Bool.and_true, decide_eq_true_eq]
        exact if_pos hrd
      rw [run]
      exact one _
    · have shut : ¬ ((b.wr + 16 - rd % 16) % 16 ≤ 8 && s.pathOpen m) = true := by
        rw [once]
        rcases h with h | h
        · simp [h]
        · simp [h]
      exact if_neg shut
  case aged =>
    have run : s.ageRequest m = s.setMbox m { b with aged := true } := if_pos hw
    refine completes_intro rfl ?_
    rw [run]
    exact one _
  case young => exact completes_intro rfl (if_neg hw)

theorem completes_by {c : Instr} {s t u : State} {P : State → Prop} (run : exec c s = .next t) (eq : t = u) (h : P u) : Completes c s P :=
  completes_intro run (eq ▸ h)

/-! ## The order of service (R348) -/

/-- The one of `best` and `m` with the smaller key, `best` where they are equal. -/
def older (key : Nat → Nat) (best : Option Nat) (m : Nat) : Option Nat :=
  match best with
  | none => some m
  | some b => if key m < key b then some m else some b

theorem foldl_older (key : Nat → Nat) (l : List Nat) (b : Nat) :
    ∃ m, l.foldl (older key) (some b) = some m ∧ m ∈ b :: l ∧ ∀ k ∈ b :: l, key m ≤ key k := by
  induction l generalizing b with
  | nil => exact ⟨b, rfl, by simp, by simp⟩
  | cons x l ih =>
    by_cases h : key x < key b
    · obtain ⟨m, run, mem, least⟩ := ih x
      refine ⟨m, by simpa [older, h] using run, List.mem_cons_of_mem _ mem, fun k hk => ?_⟩
      rcases List.mem_cons.1 hk with rfl | hk
      · exact (least x (by simp)).trans h.le
      · exact least k hk
    · obtain ⟨m, run, mem, least⟩ := ih b
      refine ⟨m, by simpa [older, h] using run, ?_, fun k hk => ?_⟩
      · rcases List.mem_cons.1 mem with rfl | mem
        · simp
        · simp [mem]
      · simp only [List.mem_cons] at hk
        rcases hk with rfl | rfl | hk
        · exact least _ (by simp)
        · exact (least b (by simp)).trans (Nat.not_lt.1 h)
        · exact least k (by simp [hk])

/-- The mailboxes with an aged request that waits. -/
def State.agedOnes (s : State) : List Nat := (List.range 8).filter (fun m => s.waits m && (s.mbox m).aged)

theorem State.mem_agedOnes (s : State) (m : Nat) : m ∈ s.agedOnes ↔ m < 8 ∧ (s.mbox m).st = .waiting ∧ (s.mbox m).aged = true := by
  simp [State.agedOnes, State.waits]

theorem State.oldestAged_eq (s : State) : s.oldestAged = s.agedOnes.foldl (older (fun m => (s.mbox m).ringNo)) none := rfl

theorem State.oldestAged_none {s : State} (h : s.oldestAged = none) : s.agedOnes = [] := by
  rw [s.oldestAged_eq] at h
  cases hl : s.agedOnes with
  | nil => rfl
  | cons x l =>
    rw [hl] at h
    obtain ⟨m, run, -⟩ := foldl_older (fun m => (s.mbox m).ringNo) l x
    exact absurd (run.symm.trans h) (by simp)

theorem State.oldestAged_some {s : State} {m : Nat} (h : s.oldestAged = some m) :
    m ∈ s.agedOnes ∧ ∀ k ∈ s.agedOnes, (s.mbox m).ringNo ≤ (s.mbox k).ringNo := by
  rw [s.oldestAged_eq] at h
  cases hl : s.agedOnes with
  | nil => simp [hl] at h
  | cons x l =>
    rw [hl] at h
    obtain ⟨n, run, mem, least⟩ := foldl_older (fun m => (s.mbox m).ringNo) l x
    have same : m = n := Option.some.inj (h.symm.trans run)
    subst same
    exact ⟨mem, least⟩

/-- The order in which requests that have not aged are served after mailbox `rr` of MB2 to MB5. -/
def serviceOrder (rr : Nat) : List Nat := [6, 0, 1] ++ (List.range 4).map (fun i => 2 + (rr - 2 + 1 + i) % 4) ++ [7]

theorem State.nextRequest_unaged {s : State} (h : s.oldestAged = none) : s.nextRequest = (serviceOrder s.hl.rr).find? s.waits := by
  simp only [State.nextRequest, h]
  rfl

theorem mem_serviceOrder (rr m : Nat) : m ∈ serviceOrder rr ↔ m < 8 := by
  simp only [serviceOrder, List.range_succ, List.range_zero, List.nil_append, List.map_cons, List.map_nil, List.cons_append,
    List.mem_cons, List.not_mem_nil, or_false]
  omega

/-- The place of mailbox `k` in that order. -/
def servicePlace (rr k : Nat) : Nat :=
  if k = 6 then 0 else if k = 0 then 1 else if k = 1 then 2 else if k = 7 then 7 else 3 + (k + 5 - (rr - 2) % 4) % 4

theorem serviceOrder_place (rr : Nat) {i k : Nat} (h : (serviceOrder rr)[i]? = some k) : servicePlace rr k = i := by
  have hi : i < 8 := by
    have := (List.getElem?_eq_some_iff.1 h).1
    simpa [serviceOrder] using this
  unfold servicePlace
  interval_cases i <;> simp [serviceOrder, List.range_succ] at h <;> subst h <;> grind

/-- The mailbox found is the first of those that wait. -/
theorem find_serviceOrder {rr m : Nat} {p : Nat → Bool} (h : (serviceOrder rr).find? p = some m) :
    p m = true ∧ m < 8 ∧ ∀ k, k < 8 → p k = true → servicePlace rr m ≤ servicePlace rr k := by
  obtain ⟨hp, i, hi, hm, first⟩ := List.find?_eq_some_iff_getElem.1 h
  refine ⟨hp, (mem_serviceOrder rr m).1 (List.mem_of_find?_eq_some h), fun k hk hpk => ?_⟩
  obtain ⟨j, hj, rfl⟩ := List.getElem_of_mem ((mem_serviceOrder rr k).2 hk)
  rw [serviceOrder_place rr (List.getElem?_eq_some_iff.2 ⟨hi, hm⟩), serviceOrder_place rr (List.getElem?_eq_some_iff.2 ⟨hj, rfl⟩)]
  by_contra later
  simpa [hpk] using first j (Nat.not_le.1 later)

theorem nextRequest_isSome (s : State) (h : ∃ k, k < 8 ∧ (s.mbox k).st = .waiting) : s.nextRequest.isSome = true := by
  obtain ⟨k, hk, hw⟩ := h
  cases ho : s.oldestAged with
  | some m => simp [State.nextRequest, ho]
  | none =>
    rw [State.nextRequest_unaged ho, List.find?_isSome]
    exact ⟨k, (mem_serviceOrder _ k).2 hk, by simpa [State.waits] using hw⟩

theorem nextRequest_waits {s : State} {m : Nat} (h : s.nextRequest = some m) : (s.mbox m).st = .waiting ∧ m < 8 := by
  cases ho : s.oldestAged with
  | some n =>
    simp only [State.nextRequest, ho, Option.some.injEq] at h
    obtain ⟨hm, hw, -⟩ := (s.mem_agedOnes n).1 (State.oldestAged_some ho).1
    exact h ▸ ⟨hw, hm⟩
  | none =>
    rw [State.nextRequest_unaged ho] at h
    obtain ⟨hp, hm, -⟩ := find_serviceOrder h
    exact ⟨by simpa [State.waits] using hp, hm⟩

theorem nextRequest_aged {s : State} {m k : Nat} (h : s.nextRequest = some m) (hk : k < 8) (hw : (s.mbox k).st = .waiting)
    (ha : (s.mbox k).aged = true) : (s.mbox m).aged = true ∧ (s.mbox m).ringNo ≤ (s.mbox k).ringNo := by
  have mem : k ∈ s.agedOnes := (s.mem_agedOnes k).2 ⟨hk, hw, ha⟩
  cases ho : s.oldestAged with
  | some n =>
    simp only [State.nextRequest, ho, Option.some.injEq] at h
    obtain ⟨hn, least⟩ := State.oldestAged_some ho
    exact h ▸ ⟨((s.mem_agedOnes n).1 hn).2.2, least k mem⟩
  | none => simp [State.oldestAged_none ho] at mem

theorem nextRequest_unaged_place {s : State} {m : Nat} (h : s.nextRequest = some m)
    (young : ∀ k, k < 8 → (s.mbox k).st = .waiting → (s.mbox k).aged = false) {k : Nat} (hk : k < 8) (hw : (s.mbox k).st = .waiting) :
    servicePlace s.hl.rr m ≤ servicePlace s.hl.rr k := by
  cases ho : s.oldestAged with
  | some n =>
    obtain ⟨hn, hwn, han⟩ := (s.mem_agedOnes n).1 (State.oldestAged_some ho).1
    simp [young n hn hwn] at han
  | none =>
    rw [State.nextRequest_unaged ho] at h
    exact (find_serviceOrder h).2.2 k hk (by simpa [State.waits] using hw)

/-- Who is served, as R348 orders the mailboxes. -/
theorem servicePlace_order {rr m : Nat} {w : Nat → Prop} (hm : m < 8) (hwm : w m)
    (least : ∀ k, k < 8 → w k → servicePlace rr m ≤ servicePlace rr k) :
    (w 6 → m = 6) ∧ (¬ w 6 → w 0 → m = 0) ∧ (¬ w 6 → ¬ w 0 → w 1 → m = 1) ∧ (m = 7 → ∀ k, k < 7 → ¬ w k) ∧
    (2 ≤ m → m ≤ 5 → 2 ≤ rr → rr ≤ 5 → ∀ k, 2 ≤ k → k ≤ 5 → w k → (m + 7 - rr) % 4 ≤ (k + 7 - rr) % 4) := by
  have no (k : Nat) (hk : ¬ w k) : m ≠ k := fun h => hk (h ▸ hwm)
  refine ⟨fun h6 => ?_, fun h6 h0 => ?_, fun h6 h0 h1 => ?_, fun h7 k hk hwk => ?_, fun h2 h5 hr2 hr5 k hk2 hk5 hwk => ?_⟩
  · have := least 6 (by decide) h6
    unfold servicePlace at this
    grind
  · have := least 0 (by decide) h0
    have := no 6 h6
    unfold servicePlace at *
    grind
  · have := least 1 (by decide) h1
    have := no 6 h6
    have := no 0 h0
    unfold servicePlace at *
    grind
  · have := least k (by omega) hwk
    subst h7
    unfold servicePlace at this
    grind
  · have := least k (by omega) hwk
    unfold servicePlace at this
    grind

/-! ## SERVICE_START -/

/-- The request of mailbox `m` is in service, its window reading SERVING. -/
def State.takesUp (s : State) (m : Nat) : State :=
  { s.setMbox m { s.mbox m with st := .serving, aged := false } with
    hl := { s.hl with serving := some (s.readRequest m), rr := if 2 ≤ m ∧ m ≤ 5 then m else s.hl.rr } }

theorem State.takesUp_mbox (s : State) (m : Nat) : (s.takesUp m).mbox m = { s.mbox m with st := .serving, aged := false } :=
  State.mbox_setMbox_same _ _ _

theorem State.takesUp_mbox_ne (s : State) {m k : Nat} (h : k ≠ m) : (s.takesUp m).mbox k = s.mbox k :=
  State.mbox_setMbox_ne _ _ _ _ h

theorem State.serviceStart_eq {s : State} (hup : s.hl.up = true) (hh : s.hl.halted = false) (hsv : s.hl.serving = none)
    (hsl : s.hl.slice = false) {m : Nat} (hm : s.nextRequest = some m) : s.serviceStart =
    match s.refusal (s.readRequest m) (fieldAt (s.mbox m).req.toNat 6 2) with
    | some (st, d) => (s.takesUp m).err (s.readRequest m) st d
    | none => s.takesUp m := by
  simp only [State.serviceStart, hup, hh, hsv, hsl, hm]
  rfl

theorem State.serviceStart_idle {s : State}
    (h : s.hl.up = false ∨ s.hl.halted = true ∨ s.hl.serving.isSome = true ∨ s.hl.slice = true ∨ s.nextRequest = none) :
    s.serviceStart = s := by
  unfold State.serviceStart
  split
  · rfl
  · next running =>
    have none : s.nextRequest = none := by
      simp only [Bool.or_eq_true, Bool.not_eq_true', not_or] at running
      tauto
    rw [none]

theorem State.takesUp_answered (s : State) (m st d : Nat) :
    s.answered ((s.takesUp m).err (s.readRequest m) st d) (s.readRequest m) st (bytesLE d 4) := by
  refine State.answered_of_mb (fun k => ?_) (State.reply_answered _ _ st _)
  by_cases hk : k = m
  · subst hk
    rw [s.takesUp_mbox]
    exact ⟨rfl, rfl⟩
  · rw [s.takesUp_mbox_ne hk]
    exact ⟨rfl, rfl⟩

/-- Settles O22: the order of service is that of `servicePlace` behind the aged requests. -/
theorem serviceStarts : Obligations.ServiceStarts := by
  refine ⟨nextRequest_isSome, fun s m hm => ?order, fun s => ⟨fun hup hh hsv hsl m hm => ⟨fun hr => ?taken, fun st d hr => ?refused⟩,
    fun h => completes_intro rfl (State.serviceStart_idle h)⟩⟩
  case order =>
    obtain ⟨hw, hlt⟩ := nextRequest_waits hm
    refine ⟨hw, hlt, fun k hk hwk ha => nextRequest_aged hm hk hwk ha, fun young => ?_⟩
    exact servicePlace_order (w := fun k => (s.mbox k).st = .waiting) hlt hw fun k hk hwk => nextRequest_unaged_place hm young hk hwk
  case taken =>
    have run : s.serviceStart = s.takesUp m := by rw [State.serviceStart_eq hup hh hsv hsl hm, hr]
    exact completes_by rfl run ⟨rfl, s.takesUp_mbox m, fun k hk => s.takesUp_mbox_ne hk, rfl, rfl⟩
  case refused =>
    have run : s.serviceStart = (s.takesUp m).err (s.readRequest m) st d := by rw [State.serviceStart_eq hup hh hsv hsl hm, hr]
    refine completes_by rfl run ⟨s.takesUp_answered m st d, fun k hk => ?_, ?_⟩
    · exact (State.reply_mbox_ne _ _ st _ k hk).trans (s.takesUp_mbox_ne hk)
    · have base : s.changes [.mb, .hl, .chain] (s.takesUp m) := rfl
      exact base.trans (State.reply_rest _ _ st _)

/-! ## Event rings -/

def Mbox.evtCnt (b : Mbox) : Nat := (b.wr + 16 - b.rd % 16) % 16

/-- Entry of an event ring (Table HDL-6). -/
def eventEntry (frame code len tag data : Nat) : Nat :=
  packLE [(code, 1), (len, 1), (tag, 2), (frame, 4)] + (data % 2 ^ 192) * 2 ^ 64

/-- The window whose ring has taken an entry, or counted it lost (R354). -/
def Mbox.ringed (b : Mbox) (frame code len tag data : Nat) : Mbox :=
  if b.evtCnt = 8 then { b with lost := satAdd 16 b.lost 1 }
  else { b with evt := mput (fun _ => 0) b.evt (b.wr % 8) (BitVec.ofNat 256 (eventEntry frame code len tag data)), wr := (b.wr + 1) % 16 }

theorem State.evtCnt_eq (s : State) (m : Nat) : s.evtCnt m = (s.mbox m).evtCnt := rfl

theorem Mbox.ringed_full {b : Mbox} (h : b.evtCnt = 8) (frame code len tag data : Nat) :
    b.ringed frame code len tag data = { b with lost := min (b.lost + 1) 65535 } := if_pos h

theorem Mbox.ringed_evtCnt {b : Mbox} (h : b.evtCnt < 8) (frame code len tag data : Nat) :
    (b.ringed frame code len tag data).evtCnt = b.evtCnt + 1 := by
  rw [Mbox.ringed, if_neg h.ne]
  simp only [Mbox.evtCnt] at *
  omega

/-- A ring with room takes the entry at WR. -/
theorem Mbox.ringed_room {b : Mbox} (h : b.evtCnt < 8) (frame code len tag data : Nat) :
    { b.ringed frame code len tag data with evt := b.evt, wr := b.wr } = b ∧
    (∀ i, i ≠ b.wr % 8 → mget (fun _ => 0) (b.ringed frame code len tag data).evt i = mget (fun _ => 0) b.evt i) ∧
    mget (fun _ => (0 : BitVec 256)) (b.ringed frame code len tag data).evt (b.wr % 8) = BitVec.ofNat 256 (eventEntry frame code len tag data) := by
  rw [Mbox.ringed, if_neg h.ne]
  exact ⟨rfl, fun i hi => mget_mput_ne _ _ _ _ _ hi, mget_mput_same _ _ _ _⟩

theorem eventEntry_fields (frame code len tag data : Nat) :
    let e := (BitVec.ofNat 256 (eventEntry frame code len tag data)).toNat
    fieldAt e 0 1 = code % 256 ∧ fieldAt e 2 2 = tag % 65536 ∧ fieldAt e 4 4 = frame % 2 ^ 32 ∧ fieldAt e 8 24 = data % 2 ^ 192 := by
  simp only [eventEntry, packLE, BitVec.toNat_ofNat, fieldAt, bits, Nat.shiftRight_eq_div_pow]
  have hd := Nat.mod_lt data (show 0 < 2 ^ 192 by decide)
  generalize data % 2 ^ 192 = d at *
  omega

/-! ## Posting (R352 to R354) -/

theorem State.ringEvent_eq (s : State) (m code len tag data : Nat) :
    s.ringEvent m code len tag data = s.setMbox m ((s.mbox m).ringed s.frameNo code len tag data) := by
  by_cases h : s.evtCnt m = 8
  · rw [Mbox.ringed, if_pos (show (s.mbox m).evtCnt = 8 from h)]
    exact if_pos h
  · rw [Mbox.ringed, if_neg (show ¬ (s.mbox m).evtCnt = 8 from h)]
    exact if_neg h

@[simp] theorem State.changes_ringEvent (l : List Part) (s t : State) (m code len tag data : Nat) (h : Part.mb ∈ l) :
    s.changes l (t.ringEvent m code len tag data) ↔ s.changes l t := by
  rw [State.ringEvent_eq, State.changes_setMbox _ _ _ _ _ h]

@[simp] theorem State.changes_drainMb1 (l : List Part) (s t : State) (h : [Part.mb, .chain] ⊆ l) :
    s.changes l t.drainMb1 ↔ s.changes l t := State.changes.through (by
  unfold State.drainMb1
  simp only
  split <;> simp) h s

@[simp] theorem State.changes_postTo (l : List Part) (s t : State) (m code len tag data : Nat) (h : [Part.mb, .chain] ⊆ l) :
    s.changes l (t.postTo m code len tag data) ↔ s.changes l t := State.changes.through (by
  unfold State.postTo
  simp only
  split <;> simp) h s

@[simp] theorem State.changes_postGeneral (l : List Part) (s t : State) (code len data : Nat) (h : [Part.mb, .chain] ⊆ l) :
    s.changes l (t.postGeneral code len data) ↔ s.changes l t := by
  unfold State.postGeneral
  refine State.changes_forAll l _ _ s t (fun k u => ?_)
  split <;> simp [h]

@[simp] theorem State.changes_logEntry (l : List Part) (s t : State) (kind event detail data : Nat) (h : [Part.log, .logSeq] ⊆ l) :
    s.changes l (t.logEntry kind event detail data) ↔ s.changes l t := State.changes.through (by
  unfold State.logEntry
  simp only
  split <;> rfl) h s

@[simp] theorem State.changes_postLatch (l : List Part) (s t : State) (x : Latch) (h : [Part.mb, .chain, .log, .logSeq] ⊆ l) :
    s.changes l (t.postLatch x) ↔ s.changes l t := State.changes.through (by simp [State.postLatch]) h s

@[simp] theorem State.changes_postDirected (l : List Part) (s t : State) (d : Directed) (h : [Part.mb, .chain, .log, .logSeq] ⊆ l) :
    s.changes l (t.postDirected d) ↔ s.changes l t := State.changes.through (by
  unfold State.postDirected
  simp only
  split <;> simp) h s

@[simp] theorem State.changes_finishReports (l : List Part) (s t : State) (h : Part.hl ∈ l) :
    s.changes l t.finishReports ↔ s.changes l t := State.changes.through (m := [.hl]) (by
  unfold State.finishReports
  exact (State.changes_foldl_iff _ _ _ _ _ (fun u p => by simp)).2 rfl) (by simpa using h) s

/-! ## What a post leaves in a window -/

theorem State.logEntry_mbox (s : State) (kind event detail data m : Nat) : (s.logEntry kind event detail data).mbox m = s.mbox m :=
  State.mbox_congr (show State.mb _ = s.mb from ((State.changes_logEntry _ s s _ _ _ _ (List.Subset.refl _)).2 (State.changes_refl _ s)).same .mb (by decide)) m

theorem State.drainMb1_mbox_ne (s : State) {m : Nat} (h : m ≠ 1) : s.drainMb1.mbox m = s.mbox m := by
  unfold State.drainMb1
  simp only
  split
  · rfl
  · exact State.mbox_setMbox_ne _ _ _ _ h

theorem State.postTo_mbox_ne (s : State) {m k : Nat} (code len tag data : Nat) (h : m ≠ k) :
    (s.postTo k code len tag data).mbox m = s.mbox m := by
  unfold State.postTo
  simp only [State.ringEvent_eq]
  split
  · next h1 => rw [State.drainMb1_mbox_ne _ (h1 ▸ h), State.mbox_setMbox_ne _ _ _ _ h]
  · exact State.mbox_setMbox_ne _ _ _ _ h

theorem State.postTo_mbox (s : State) {m : Nat} (code len tag data : Nat) (h : m ≠ 1) :
    (s.postTo m code len tag data).mbox m = (s.mbox m).ringed s.frameNo code len tag data := by
  unfold State.postTo
  simp only [State.ringEvent_eq]
  rw [if_neg h, State.mbox_setMbox_same]

theorem forAll_succ (n : Nat) (f : Nat → State → State) (s : State) : forAll (n + 1) f s = f n (forAll n f s) := by
  simp [forAll, List.range_succ]

/-- A general event goes to the mailboxes whose mask enables it. -/
theorem State.postGeneral_mbox (s : State) (code len data : Nat) {m : Nat} (hm : m < 8) (h1 : m ≠ 1) :
    (s.postGeneral code len data).mbox m =
      if s.bit (MB m 0x208) code then (s.mbox m).ringed s.frameNo code len 0xFFFF data else s.mbox m := by
  have upTo (n : Nat) : let t := forAll n (fun m t => if t.bit (MB m 0x208) code then t.postTo m code len 0xFFFF data else t) s
      s.changes [.mb, .chain] t ∧ t.mbox m =
        if m < n ∧ s.bit (MB m 0x208) code = true then (s.mbox m).ringed s.frameNo code len 0xFFFF data else s.mbox m := by
    induction n with
    | zero => exact ⟨State.changes_refl _ s, by simp [forAll]⟩
    | succ n ih =>
      obtain ⟨leaves, window⟩ := ih
      rw [forAll_succ]
      generalize forAll n _ s = t at *
      have mask (k : Nat) : t.bit (MB k 0x208) code = s.bit (MB k 0x208) code := State.bit_congr (State.reg_congr (leaves.same .csr (by decide)) _) _
      have frame : t.frameNo = s.frameNo := congrArg (fun x : Tick => x.frame.toNat) (show t.tick = s.tick from leaves.same .tick (by decide))
      simp only [mask]
      split
      · next hb =>
        refine ⟨by simpa using leaves, ?_⟩
        by_cases hmn : m = n
        · subst hmn
          rw [State.postTo_mbox _ _ _ _ _ h1, window, frame]
          simp [hb]
        · rw [State.postTo_mbox_ne _ _ _ _ _ hmn, window]
          congr 1
          grind
      · next hb =>
        refine ⟨leaves, window.trans ?_⟩
        congr 1
        grind
  rw [State.postGeneral, (upTo 8).2]
  simp [hm]

/-! ## Job slices -/

theorem State.postLatch_mbox (s : State) (x : Latch) {m : Nat} (hm : m < 8) (h1 : m ≠ 1) :
    ∃ data, (s.postLatch x).mbox m =
      if s.bit (MB m 0x208) x.code then (s.mbox m).ringed s.frameNo x.code (eventLen x) 0xFFFF data else s.mbox m := by
  rw [State.postLatch]
  exact ⟨_, (State.logEntry_mbox _ _ _ _ _ _).trans (s.postGeneral_mbox _ _ _ hm h1)⟩

theorem State.postDirected_mbox_ne (s : State) (d : Directed) {m : Nat} (h : m ≠ d.mb) : (s.postDirected d).mbox m = s.mbox m := by
  unfold State.postDirected
  simp only
  split
  · rw [State.logEntry_mbox, State.postTo_mbox_ne _ _ _ _ _ h]
  · exact State.postTo_mbox_ne _ _ _ _ _ h

theorem State.postDirected_mbox (s : State) (d : Directed) (h : d.mb ≠ 1) :
    ∃ len, (s.postDirected d).mbox d.mb = (s.mbox d.mb).ringed s.frameNo d.code len d.tag d.data := by
  refine ⟨eventLen ⟨d.code, 0, d.data, 0⟩, ?_⟩
  unfold State.postDirected
  simp only
  split
  · rw [State.logEntry_mbox, State.postTo_mbox _ _ _ _ _ h]
  · exact State.postTo_mbox _ _ _ _ _ h

/-- Nothing awaits posting any more. -/
def State.posted (s : State) : State := { s with hl := { s.hl with latches := [], directed := [], slice := false } }

theorem State.jobSlice_eq {s : State} (hup : s.hl.up = true) (hh : s.hl.halted = false) (hsv : s.hl.serving = none) :
    s.jobSlice = s.finishReports.hl.directed.foldl State.postDirected (s.finishReports.hl.latches.foldl State.postLatch s.finishReports.posted) := by
  simp only [State.jobSlice, hup, hh, hsv]
  rfl

theorem State.foldl_direct_hl {α : Type} (f : α → Directed) (l : List α) (s : State) :
    { (l.foldl (fun t x => t.direct (f x)) s).hl with directed := s.hl.directed } = s.hl := by
  induction l generalizing s with
  | nil => rfl
  | cons x l ih => exact congrArg (fun h : Headland => { h with directed := s.hl.directed }) (ih (s.direct (f x)))

/-- Finished reports leave all of Headland's state but the reports and what awaits posting. -/
theorem State.finishReports_hl (s : State) : { s.finishReports.hl with directed := s.hl.directed, reports := s.hl.reports } = s.hl := by
  unfold State.finishReports
  exact congrArg (fun h : Headland => { h with reports := s.hl.reports }) (State.foldl_direct_hl _ _ _)

theorem State.finishReports_none {s : State} (h : s.hl.reports = []) : s.finishReports = s := by
  simp only [State.finishReports, h, List.filter_nil, List.foldl_nil]
  rw [← h]

theorem State.jobSlice_posts {s : State} (hup : s.hl.up = true) (hh : s.hl.halted = false) (hsv : s.hl.serving = none)
    (hr : s.hl.reports = []) : s.jobSlice = s.hl.directed.foldl State.postDirected (s.hl.latches.foldl State.postLatch s.posted) := by
  rw [State.jobSlice_eq hup hh hsv, State.finishReports_none hr]

theorem State.jobSlice_leaves {s : State} (hup : s.hl.up = true) (hh : s.hl.halted = false) (hsv : s.hl.serving = none) :
    s.jobSlice.hl.latches = [] ∧ s.jobSlice.hl.directed = [] ∧ s.jobSlice.hl.slice = false ∧ s.jobSlice.hl.serving = none ∧
    s.jobSlice.hl.changes = s.hl.changes ∧ s.changes [.mb, .hl, .chain, .log, .logSeq] s.jobSlice := by
  have fin := s.finishReports_hl
  have leaves := (State.changes_finishReports [.hl] s s (by decide)).2 (State.changes_refl _ s)
  rw [State.jobSlice_eq hup hh hsv]
  generalize s.finishReports = u at *
  have posts : u.posted.changes [.mb, .chain, .log, .logSeq]
      (u.hl.directed.foldl State.postDirected (u.hl.latches.foldl State.postLatch u.posted)) := by
    rw [State.changes_foldl_iff _ _ _ _ _ (fun t d => by simp), State.changes_foldl_iff _ _ _ _ _ (fun t d => by simp)]
    exact State.changes_refl _ _
  have hl : State.hl _ = u.posted.hl := posts.same .hl (by decide)
  have base : u.changes [.hl] u.posted := rfl
  rw [hl]
  exact ⟨rfl, rfl, rfl, (congrArg Headland.serving fin).trans hsv, (congrArg Headland.changes fin).trans rfl,
    (leaves.mono (by decide)).trans ((base.mono (by decide)).trans (posts.mono (by decide)))⟩

/-- Settles O23: TIMEOUT is a refusal, and a job slice posts each event as `Mbox.ringed` says. -/
theorem serviceEnds : Obligations.ServiceEnds := by
  intro s
  refine ⟨fun v hv => ?timeout, fun hv => ?idle, fun hup hh hsv => completes_intro rfl ?slice⟩
  case timeout =>
    have run : s.serviceTimeout = s.err v stTIMEOUT 0 := by simp [State.serviceTimeout, hv]
    exact completes_by rfl run (s.err_turnedAway v _ _)
  case idle =>
    have run : s.serviceTimeout = s := by simp [State.serviceTimeout, hv]
    exact completes_by rfl run rfl
  case slice =>
    obtain ⟨latches, directed, slice, serving, changes, leaves⟩ := State.jobSlice_leaves hup hh hsv
    refine ⟨latches, directed, slice, serving, changes, leaves, fun hr hd l hl m hm h1 => ?_, fun hr hl d hd hlt => ?_⟩
    · obtain ⟨data, window⟩ := s.posted.postLatch_mbox l hm h1
      have run : s.jobSlice = s.posted.postLatch l := by rw [State.jobSlice_posts hup hh hsv hr, hl, hd]; rfl
      rw [run]
      refine ⟨fun hb => window.trans (if_neg (by rw [show s.posted.bit _ _ = _ from hb]; simp)), fun hb h8 => ?_, fun hb h8 => ?_⟩
      · rw [State.evtCnt_eq, window, if_pos (show s.posted.bit _ _ = true from hb)]
        exact Mbox.ringed_evtCnt h8 _ _ _ _ _
      · rw [window, if_pos (show s.posted.bit _ _ = true from hb)]
        exact Mbox.ringed_full h8 _ _ _ _ _
    · have run : s.jobSlice = s.posted.postDirected d := by rw [State.jobSlice_posts hup hh hsv hr, hl, hd]; rfl
      rw [run]
      refine ⟨fun m hm => s.posted.postDirected_mbox_ne d hm, fun h1 h8 => ?_, fun h1 h8 => ?_⟩
      · obtain ⟨len, window⟩ := s.posted.postDirected_mbox d h1
        obtain ⟨rest, others, entry⟩ := Mbox.ringed_room (b := s.mbox d.mb) h8 s.frameNo d.code len d.tag d.data
        rw [State.evtCnt_eq, window]
        refine ⟨Mbox.ringed_evtCnt h8 _ _ _ _ _, rest, fun i _ hi => others i hi, fun e he => ?_⟩
        rw [he]
        exact entry ▸ eventEntry_fields s.frameNo d.code len d.tag d.data
      · obtain ⟨len, window⟩ := s.posted.postDirected_mbox d h1
        rw [window]
        exact Mbox.ringed_full h8 _ _ _ _ _

/-! ## What the end of a load leaves of Headland's state -/

/-- Headland's state but for changes, loans and what awaits posting. -/
def Headland.core (h : Headland) : Headland := { h with changes := [], latches := [], directed := [], loanList := [] }

/-- Headland's state but for changes, loans and what awaits posting. -/
def State.core (s : State) : Headland := s.hl.core

theorem State.core_of_hl {s t : State} (h : t.hl = s.hl) : t.core = s.core := congrArg Headland.core h

theorem State.changes.core {l : List Part} {s t : State} (h : s.changes l t) (hl : Part.hl ∉ l) : t.core = s.core :=
  State.core_of_hl (h.same .hl hl)

theorem forAll_core {f : Nat → State → State} (h : ∀ k t, (f k t).core = t.core) (n : Nat) (s : State) : (forAll n f s).core = s.core :=
  forAll_leaves State.core h n s

@[simp] theorem State.core_setReg (s : State) (a v : Nat) : (s.setReg a v).core = s.core := rfl
@[simp] theorem State.core_setRegion (s : State) (r : Nat) (x : Region) : (s.setRegion r x).core = s.core := rfl
@[simp] theorem State.core_setChain (s : State) (c : Chain) : (s.setChain c).core = s.core := rfl
@[simp] theorem State.core_setFld (s : State) (a lo w v : Nat) : (s.setFld a lo w v).core = s.core := rfl
@[simp] theorem State.core_setBit (s : State) (a i : Nat) (b : Bool) : (s.setBit a i b).core = s.core := rfl
@[simp] theorem State.core_latch (s : State) (code src data : Nat) : (s.latch code src data).core = s.core := rfl
@[simp] theorem State.core_fault (s : State) (detail data : Nat) : (s.fault detail data).core = s.core := rfl
@[simp] theorem State.core_direct (s : State) (d : Directed) : (s.direct d).core = s.core := rfl
@[simp] theorem State.core_sendMsg (s : State) (ports : List Nat) (type flg dst : Nat) (b : List Byte) :
    (s.sendMsg ports type flg dst b).core = s.core := rfl

@[simp] theorem State.core_endSounding (s : State) (e : Nat) : (s.endSounding e).core = s.core := by
  unfold State.endSounding
  split <;> rfl

@[simp] theorem State.core_endLoans (s : State) (p : Nat × Nat × Nat → Bool) : (s.endLoans p).core = s.core := by
  unfold State.endLoans
  extract_lets gone h t u
  have hu : u.core = s.core := by
    unfold u
    split <;> rfl
  clear_value u
  split
  · rw [State.core_endSounding, hu]
  · exact hu

@[simp] theorem State.core_fullLoadLoans (s : State) : s.fullLoadLoans.core = s.core := by
  unfold State.fullLoadLoans
  simp only
  split <;> simp

@[simp] theorem State.core_laneDown (s : State) (n : Nat) : (s.laneDown n).core = s.core := by
  unfold State.laneDown
  split <;> rfl

@[simp] theorem State.core_commitQuad (s : State) (q f : Nat) : (s.commitQuad q f).core = s.core := by
  unfold State.commitQuad
  extract_lets pll u
  have hu : u.core = s.core := by
    unfold u
    split <;> rfl
  clear_value u
  rw [forAll_core, hu]
  intro i t
  simp only [State.core_setReg]
  split
  · rfl
  · simp

@[simp] theorem State.core_disableLanes (s : State) : s.disableLanes.core = s.core := forAll_core (fun q t => t.core_commitQuad q 0) 24 s

@[simp] theorem State.core_unconfigure (s : State) : s.unconfigure.core = s.core := by
  unfold State.unconfigure
  extract_lets t c u
  have ht : t.core = s.core := by
    rw [State.core_disableLanes, s.fullLoadLoans.clearConfig_changes.core (by decide), State.core_fullLoadLoans]
  have hu : u.core = t.core := t.core_setChain _
  clear_value u
  exact (forAll_core (fun r t => t.core_setRegion r _) 96 u).trans (hu.trans ht)

@[simp] theorem State.core_originate (s : State) (r : FRep) : (s.originate r).core = s.core := by
  obtain ⟨ls, h⟩ := s.originate_hl r
  exact (congrArg Headland.core h).trans rfl

@[simp] theorem State.core_postReport (s : State) (f : Fail) (b : Bool) : (s.postReport f b).core = s.core := by
  unfold State.postReport
  extract_lets l rep u v
  show v.core = s.core
  unfold v
  split <;> rfl

@[simp] theorem State.core_tellUnconfigured (s : State) : s.tellUnconfigured.core = s.core := by
  unfold State.tellUnconfigured
  split
  · rfl
  · exact State.core_originate _ _

@[simp] theorem State.core_beginLoad (s : State) (a b c d e f g : Nat) (boot : Bool) : (s.beginLoad a b c d e f g boot).core = s.core :=
  ((State.changes_beginLoad [.ld, .bt, .sq] s s a b c d e f g boot (by decide)).2 (State.changes_refl _ s)).core (by decide)

@[simp] theorem State.core_bootFail (s : State) : s.bootFail.core = s.core := by
  unfold State.bootFail
  simp only [State.core_tellUnconfigured]
  split
  · exact State.core_unconfigure _
  · rfl

@[simp] theorem State.core_bootLoop (n : Nat) (s : State) : (State.bootLoop n s).core = s.core := by
  induction n generalizing s with
  | zero => exact s.core_bootFail
  | succ n ih =>
    simp only [State.bootLoop, State.beginBoot]
    split
    · split
      · exact State.core_beginLoad _ _ _ _ _ _ _ _ _
      · split
        · exact s.core_bootFail
        · exact ih _
    · split
      · rfl
      · split
        · exact s.core_bootFail
        · exact ih _

@[simp] theorem State.core_bootResume (s : State) : s.bootResume.core = s.core := by
  unfold State.bootResume
  split <;> simp

@[simp] theorem State.core_rejected (s : State) (b : Bool) : (s.rejected b).core = s.core := by
  unfold State.rejected
  split
  · exact s.core_unconfigure
  · split
    · have held (u : State) : (s.ld.held.foldl (fun t r => t.failRegion s.ld (s.tied r) r) u).core = u.core :=
        foldl_leaves State.core (fun t r => ((State.changes_failRegion [.rg, .fab] t t s.ld (s.tied r) r (by decide)).2 (State.changes_refl _ t)).core (by decide)) _ u
      rw [held]
      exact ((State.changes_eachTarget [.csr, .fab] s s s.ld _ (fun r c u => by simp)).2 (State.changes_refl _ s)).core (by decide)
    · rfl

@[simp] theorem State.core_rejectLoad (s : State) (f : Fail) (b : Bool) : (s.rejectLoad f b).core = s.core := by
  rw [State.rejectLoad_eq]
  split
  · exact (State.core_bootLoop _ _).trans (show ((s.rejected b).postReport f b).core = s.core by simp)
  · rw [State.core_bootResume]
    split <;> simp

theorem State.rejected_partial {s : State} {accepted : Bool} (h : s.endsWhole accepted = false) : s.changes [.csr, .rg, .fab] (s.rejected accepted) := by
  simp [State.rejected, h]

/-- A load that does not end whole leaves memory, where no boot procedure goes on. -/
theorem State.rejectLoad_mem {s : State} (f : Fail) {accepted : Bool} (boot : s.ld.boot = false) (whole : s.endsWhole accepted = false)
    (down : s.hl.up = false) : (s.rejectLoad f accepted).mem = s.mem := by
  have kept : s.changes [.csr, .rg, .fab, .chain, .hl, .ld] ((s.rejected accepted).postReport f accepted) := by
    rw [State.changes_postReport _ _ _ _ _ (by decide)]
    exact ((State.rejected_partial whole).mono (by decide))
  have up : ((s.rejected accepted).postReport f accepted).hl.up = false :=
    (congrArg Headland.up (((s.rejected accepted).core_postReport f accepted).trans (s.core_rejected accepted))).trans down
  rw [State.rejectLoad_eq, boot, whole]
  simp only [Bool.false_and, Bool.false_eq_true, if_false]
  rw [State.bootResume, up]
  simp only [Bool.and_false, Bool.false_and, Bool.false_eq_true, if_false]
  exact kept.same .mem (by decide)

/-! ## Restarts (R355, R356) -/

theorem State.respondMb_changes (s : State) (m op tag status : Nat) (b : List Byte) : s.changes [.mb, .chain] (s.respondMb m op tag status b) := by
  unfold State.respondMb
  simp only
  split <;> simp

theorem State.respondMb_rsp (s : State) (m op tag status : Nat) (b : List Byte) :
    ((s.respondMb m op tag status b).mbox m).rsp = putRsp (s.mbox m).rsp (rspBytes op tag status b) := by
  unfold State.respondMb
  simp only
  split
  · exact congrArg Mbox.rsp (State.mbox_setMbox_same _ _ _)
  · exact congrArg Mbox.rsp (State.mbox_setMbox_same _ _ _)

/-- The request in service is answered INTERNAL. -/
def State.endsService (s : State) : State :=
  match s.hl.serving with
  | some v => s.respondMb v.mb v.op v.tag stINTERNAL (bytesLE 1 4)
  | none => s

theorem State.endsService_changes (s : State) : s.changes [.mb, .chain] s.endsService := by
  unfold State.endsService
  split
  · exact s.respondMb_changes _ _ _ _ _
  · exact s.changes_refl _

/-- Headland stops: nothing is in service or staged any more, and its own requests are gone. -/
def State.stops (s : State) (cause : Nat) : State :=
  let hl := { s.endsService.hl with
    serving := none, up := false, restarting := true, halted := false, cause := cause, count := s.endsService.hl.count + 1, slice := false }
  forAll 8 (fun m t => t.setMbox m { t.mbox m with staged := [] })
    { s.endsService with hl := hl, reqs := s.endsService.reqs.filter (fun p => p.node ≠ 3) }

/-- Open streams, forwarded requests and a broadcast end with Headland. -/
def State.dropsWork (s : State) : State :=
  (s.setStore { s.store with img := {}, fw := {}, sealing := none }).setChain
    { s.chain with bcast := if s.chain.bcast.st = 1 then { s.chain.bcast with st := 2 } else s.chain.bcast, fwd := [] }

theorem State.restart_eq (s : State) (cause : Nat) : s.restart cause = (s.stops cause).abandonLoad.dropsWork := rfl

theorem State.unstaged_changes (s : State) (n : Nat) :
    s.changes [.mb] (forAll n (fun m t => t.setMbox m { t.mbox m with staged := [] }) s) := by simp

/-- Staged tables are gone, and nothing else of the windows. -/
theorem State.unstaged_mbox (s : State) (n m : Nat) : (forAll n (fun m t => t.setMbox m { t.mbox m with staged := [] }) s).mbox m =
    if m < n then { s.mbox m with staged := [] } else s.mbox m := by
  induction n with
  | zero => simp [forAll]
  | succ n ih =>
    rw [forAll_succ]
    by_cases h : m = n
    · subst h
      rw [State.mbox_setMbox_same, ih]
      simp
    · rw [State.mbox_setMbox_ne _ _ _ _ h, ih]
      congr 1
      grind

theorem State.stops_changes (s : State) (cause : Nat) : s.changes [.mb, .chain, .hl, .reqs] (s.stops cause) := by
  unfold State.stops
  extract_lets hl
  have first : s.changes [.mb, .chain, .hl, .reqs] s.endsService := (s.endsService_changes.mono (by decide))
  refine State.changes.trans ?_ ((State.unstaged_changes _ 8).mono (by decide))
  exact first.trans (by rfl)

theorem State.stops_hl (s : State) (cause : Nat) : (s.stops cause).hl =
    { s.hl with serving := none, up := false, restarting := true, halted := false, cause := cause, count := s.hl.count + 1, slice := false } := by
  have hl : s.endsService.hl = s.hl := s.endsService_changes.same .hl (by decide)
  unfold State.stops
  rw [hl]
  exact (State.unstaged_changes _ 8).same .hl (by decide)

theorem State.stops_mbox (s : State) (cause : Nat) {m : Nat} (hm : m < 8) : (s.stops cause).mbox m = { s.endsService.mbox m with staged := [] } := by
  unfold State.stops
  rw [State.unstaged_mbox, if_pos hm]
  rfl

theorem State.abandonLoad_idle {s : State} (h : s.ld.phase = .idle) : s.abandonLoad = s := if_pos h

/-- The load in hand is no boot load any more; the boot procedure will start it again. -/
def State.unbooted (s : State) : State :=
  (if s.ld.boot then { s with bt := { s.bt with n := s.bt.n - 1 } } else s).setLd { s.ld with boot := false }

theorem State.unbooted_changes (s : State) : s.changes [.bt, .ld] s.unbooted := by
  rw [State.unbooted, State.changes_setLd _ _ _ _ (by decide)]
  split <;> rfl

theorem State.abandonLoad_ends {s : State} (h : s.ld.phase ≠ .idle) :
    s.abandonLoad = s.unbooted.failLoad { status := stINTERNAL, detail := 1 } := by
  unfold State.abandonLoad State.unbooted
  rw [if_neg h]
  split <;> rfl

theorem State.abandonLoad_changes (s : State) : s.changes loadParts s.abandonLoad ∧ s.abandonLoad.core = s.core := by
  by_cases h : s.ld.phase = .idle
  · rw [State.abandonLoad_idle h]
    exact ⟨s.changes_refl _, rfl⟩
  · rw [State.abandonLoad_ends h]
    exact ⟨(s.unbooted_changes.mono (by decide)).trans (s.unbooted.rejectLoad_changes _ _), (State.core_rejectLoad _ _ _).trans (s.unbooted_changes.core (by decide))⟩

theorem State.abandonLoad_mem {s : State} (full : s.ld.full = false) (kind : s.ld.kind ≠ 1) (down : s.hl.up = false) :
    s.abandonLoad.mem = s.mem := by
  by_cases h : s.ld.phase = .idle
  · rw [State.abandonLoad_idle h]
  · have hl : s.unbooted.hl = s.hl := s.unbooted_changes.same .hl (by decide)
    have full' : s.unbooted.ld.full = false := full
    have kind' : s.unbooted.ld.kind ≠ 1 := kind
    have whole (b : Bool) : s.unbooted.endsWhole b = false := by cases b <;> simp [State.endsWhole, full', kind']
    rw [State.abandonLoad_ends h, State.failLoad, State.rejectLoad_mem _ rfl (whole _) (by rw [hl, down])]
    exact s.unbooted_changes.same .mem (by decide)

theorem State.dropsWork_store (s : State) : s.dropsWork.store = { s.store with img := {}, fw := {}, sealing := none } := rfl

theorem State.dropsWork_changes (s : State) : s.changes [.store, .chain] s.dropsWork := rfl

/-- What a restart shows. -/
theorem State.restart_shows (s : State) (cause : Nat) :
    let t := s.restart cause
    t.hl.up = false ∧ t.hl.restarting = true ∧ t.hl.cause = cause ∧ t.hl.count = s.hl.count + 1 ∧ t.hl.serving = none ∧
    (∀ m, m < 8 → (t.mbox m).staged = []) ∧ t.store.img.on = false ∧ t.store.fw.on = false ∧ t.store.slots = s.store.slots ∧
    (∀ v, s.hl.serving = some v → v.mb < 8 →
      (t.mbox v.mb).rsp = putRsp (s.mbox v.mb).rsp (rspBytes v.op v.tag stINTERNAL (bytesLE 1 4))) ∧
    (s.ld.full = false → s.ld.kind ≠ 1 → t.mem = s.mem) ∧ t.life.otp = s.life.otp ∧
    (s.ld.phase = .idle → s.changes [.hl, .mb, .chain, .store, .reqs] t) := by
  have first := s.stops_changes cause
  have down := s.stops_hl cause
  obtain ⟨second, core⟩ := (s.stops cause).abandonLoad_changes
  have third := (s.stops cause).abandonLoad.dropsWork_changes
  have hl : (s.restart cause).core = (s.stops cause).core := (third.core (by decide)).trans core
  have windows (m : Nat) (hm : m < 8) : (s.restart cause).mbox m = { s.endsService.mbox m with staged := [] } := by
    rw [← s.stops_mbox cause hm]
    exact State.mbox_congr ((third.same .mb (by decide) :).trans (second.same .mb (by decide))) m
  have ld : (s.stops cause).ld = s.ld := first.same .ld (by decide)
  have store : (s.stops cause).abandonLoad.store = s.store := (show _ = _ from second.same .store (by decide)).trans (first.same .store (by decide))
  have dropped : (s.restart cause).store = { s.store with img := {}, fw := {}, sealing := none } := by
    rw [s.restart_eq, State.dropsWork_store, store]
  have life : (s.restart cause).life = s.life := ((third.same .life (by decide) :).trans (second.same .life (by decide))).trans (first.same .life (by decide))
  rw [State.core, State.core, down] at hl
  refine ⟨congrArg Headland.up hl, congrArg Headland.restarting hl, congrArg Headland.cause hl, congrArg Headland.count hl,
    congrArg Headland.serving hl, fun m hm => ?_, ?_, ?_, ?_, fun v hv hm => ?_, fun full kind => ?_, ?_, fun idle => ?_⟩
  · rw [windows m hm]
  · rw [dropped]
  · rw [dropped]
  · rw [dropped]
  · rw [windows v.mb hm]
    have ends : s.endsService = s.respondMb v.mb v.op v.tag stINTERNAL (bytesLE 1 4) := by simp only [State.endsService, hv]
    rw [ends]
    exact s.respondMb_rsp _ _ _ _ _
  · have mem := State.abandonLoad_mem (s := s.stops cause) (by rwa [ld]) (by rwa [ld]) (by rw [down])
    exact (third.same .mem (by decide) :).trans (mem.trans (first.same .mem (by decide)))
  · rw [life]
  · rw [State.abandonLoad_idle (by rwa [ld])] at third
    rw [State.restart_eq, State.abandonLoad_idle (by rwa [ld])]
    exact (first.mono (by decide)).trans (third.mono (by decide))

/-! ## The end of a restart (R357, R359, R433) -/

/-- Headland runs firmware slot `k` again. -/
def State.runsSlot (s : State) (k : Nat) : State :=
  { s with hl := { s.hl with up := true, restarting := false, run := k, newFw := decide (k = s.hl.sel) } }

/-- What the restart posts and logs. -/
def State.tellsRestart (s : State) : State :=
  let data := s.restartData
  let s := forAll 8 (fun m t => if t.hasRequester m then t.postTo m 0x0D 24 0xFFFF data else t) s
  s.logEntry 1 0x0D 0 data

/-- The discarded changes have been told, and where another firmware runs than selected, that. -/
def State.endsRestart (s : State) (k : Nat) : State :=
  let s := { s with hl := { s.hl with discarded := [], nDiscarded := 0 } }
  let s := if k = s.hl.sel || s.scrapped then s else s.fault 0x0111 s.hl.sel
  s.selfReport 6 0

theorem State.resume_eq (s : State) (k : Nat) : s.resume k = ((s.runsSlot k).tellsRestart.endsRestart k).bootResume := by
  unfold State.resume
  extract_lets h a data b c h' d e f
  have hc : (s.runsSlot k).tellsRestart = c := rfl
  clear_value c
  rw [hc]
  have hd : d = { c with hl := { c.hl with discarded := [], nDiscarded := 0 } } := rfl
  unfold State.endsRestart
  rw [← hd]

theorem State.tellsRestart_changes (s : State) : s.changes [.mb, .chain, .log, .logSeq] s.tellsRestart := by
  unfold State.tellsRestart
  generalize s.restartData = data
  rw [State.changes_logEntry _ _ _ _ _ _ _ (by decide)]
  refine (State.changes_forAll _ _ _ _ _ (fun m t => ?_)).2 (State.changes_refl _ _)
  split <;> simp

theorem State.endsRestart_changes (s : State) (k : Nat) : s.changes [.hl, .chain] (s.endsRestart k) := by
  unfold State.endsRestart
  simp only
  rw [State.changes_selfReport _ _ _ _ _ (by decide)]
  split
  · rfl
  · rfl

theorem State.endsRestart_core (s : State) (k : Nat) : (s.endsRestart k).core = { s.core with discarded := [], nDiscarded := 0 } := by
  unfold State.endsRestart State.selfReport
  simp only
  rw [State.core_originate]
  split <;> rfl

/-- Slot `k` runs, OTP stays, and where no boot procedure waits nothing but mailboxes, chain, log and Headland changes. -/
theorem State.resume_shows (s : State) (k : Nat) :
    let t := s.resume k
    t.hl.run = k ∧ t.hl.up = true ∧ t.hl.restarting = false ∧ t.life.otp = s.life.otp ∧
    (s.bt.on = false → t.mem = s.mem ∧ t.fab = s.fab ∧ t.qs = s.qs ∧ t.rg = s.rg ∧ t.csr = s.csr) := by
  have first : s.changes [.hl] (s.runsSlot k) := rfl
  have told := (s.runsSlot k).tellsRestart_changes
  have ended := (s.runsSlot k).tellsRestart.endsRestart_changes k
  have before : s.changes [.hl, .mb, .chain, .log, .logSeq] ((s.runsSlot k).tellsRestart.endsRestart k) :=
    (first.mono (by decide)).trans ((told.mono (by decide)).trans (ended.mono (by decide)))
  have core := (s.runsSlot k).tellsRestart.endsRestart_core k
  rw [told.core (by decide)] at core
  intro t
  have run : t = _ := s.resume_eq k
  clear_value t
  generalize (s.runsSlot k).tellsRestart.endsRestart k = u at *
  have after : u.changes loadParts u.bootResume := (State.changes_bootResume _ _ _ (by decide)).2 (State.changes_refl _ _)
  have hl : t.core = u.core := by rw [run, State.core_bootResume]
  rw [core] at hl
  have life : t.life = s.life := by rw [run]; exact (after.same .life (by decide) :).trans (before.same .life (by decide))
  refine ⟨congrArg Headland.run hl, congrArg Headland.up hl, congrArg Headland.restarting hl, congrArg _ life, fun off => ?_⟩
  have bt : u.bt = s.bt := before.same .bt (by decide)
  rw [run, State.bootResume_off (by rw [bt, off])]
  exact ⟨before.same .mem (by decide), before.same .fab (by decide), before.same .qs (by decide), before.same .rg (by decide), before.same .csr (by decide)⟩

/-- Settles O24: `restart_shows` and `resume_shows`. -/
theorem headlandRestarts : Obligations.HeadlandRestarts := by
  refine ⟨fun s c cause h => ?_, fun s hr => ?_⟩
  rotate_left
  · intro runs
    refine ⟨fun hs => ?_, fun hs ok => ?_, fun hs ok other => ?_, fun hs ok other => ?_⟩
    · exact completes_by rfl (by simp [State.restartDone, hr, hs]) (s.resume_shows s.hl.run)
    · exact completes_by rfl (by simp [State.restartDone, hr, hs, ok]) (s.resume_shows s.hl.sel)
    · exact completes_by rfl (by simp [State.restartDone, hr, hs, ok, other]) (s.resume_shows (1 - s.hl.sel))
    · exact completes_by rfl (by simp [State.restartDone, hr, hs, ok, other]) rfl
  · have run : exec c s = .next (s.restart cause) := by
      rcases h with ⟨rfl, rfl, hup⟩ | ⟨rfl, rfl, hup⟩
      · exact congrArg Host.Outcome.next (if_pos hup)
      · exact congrArg Host.Outcome.next (if_pos (by simpa using hup))
    exact completes_intro run (s.restart_shows cause)

end Sys2Proof.Machine
end

section
/-! Requests on a router, on life cycle, loans and the store (spec/07, spec/12, spec/14, spec/17). -/
namespace Sys2Proof.Machine

/-! ## ROUTER_SET -/

/-- ROUTER_SET of router 0 is in service with BULK_W and AGE_LIM 0, which are reserved. -/
def reservedWeight : State :=
  { hl := { serving := some { mb := 0, op := 0x0603, len := 8, tag := 0, pay := 0 } }, rails := { vmem := true } }

theorem completes_request_iff {c : Instr} {s : State} {op : Nat} {f : Service → State → State} {v : Service} {P : State → Prop}
    (run : exec c s = .next (s.request op f)) (hs : s.serves v op) : Completes c s P ↔ P (f v s) := by
  rw [s.request_serves op f v hs] at run
  simp [Completes, run]

/-- Refutes O16: a reserved WEIGHT keeps the staged value (R9), so that NR_WEIGHT does not read what the request names. -/
theorem not_routerSet : ¬ Obligations.RouterSet := by
  intro h
  have hs : reservedWeight.serves { mb := 0, op := 0x0603, len := 8, tag := 0, pay := 0 } 0x0603 := ⟨rfl, rfl, rfl⟩
  have sets := ((h reservedWeight _ 0 0 hs).2.2 (by decide) (by decide) (by decide) (by decide) 0 rfl).1
  have turned := (completes_request_iff rfl hs).1 sets
  have staged : (State.routerSet false 0 0 { mb := 0, op := 0x0603, len := 8, tag := 0, pay := 0 } reservedWeight).fld (NR 0 4) 0 12 = 0 :=
    turned.1.2.2.1
  exact absurd staged (by decide)

/-! ## Burns -/

theorem State.sense_changes (s : State) (mv : Nat) : s.changes [.store] (s.sense mv) := rfl

/-- A request whose hold-up check refuses. -/
theorem State.noHoldup (s : State) (v : Service) (mv : Nat) :
    let t := (s.sense mv).err v stNO_HOLDUP 0
    s.answered t v stNO_HOLDUP (bytesLE 0 4) ∧ t.life = s.life ∧ t.mem = s.mem ∧ t.csr = s.csr := by
  have rest := State.reply_rest (s.sense mv) v stNO_HOLDUP (bytesLE 0 4)
  exact ⟨State.reply_answered_of rfl v _ _, (congrArg State.life rest :), (congrArg State.mem rest :), (congrArg State.csr rest :)⟩

/-- A burn taken, and answered. -/
theorem State.burnt_shows {s u : State} (h : s.changes [.store, .life] u) (v : Service) :
    let t := u.ok v []
    s.answered t v 0 [] ∧ t.life = u.life ∧ t.mem = s.mem ∧ t.csr = s.csr := by
  have rest := State.reply_rest u v 0 []
  have mem : u.mem = s.mem := h.same .mem (by decide)
  have csr : u.csr = s.csr := h.same .csr (by decide)
  exact ⟨State.ok_answered_of (h.same .mb (by decide)) v [], (congrArg State.life rest :), (congrArg State.mem rest :).trans mem, (congrArg State.csr rest :).trans csr⟩

/-- What the burning requests have in common: the engine burns, or the hold-up check refuses, or the burn is taken. -/
def State.burnsOr (s : State) (v : Service) (mv op g x : Nat) (t : State) : Prop :=
  (s.life.burning = true → t = s) ∧
  (s.life.burning = false → s.burnHeld mv = true → s.answered t v 0 [] ∧ t.life.burns = (g, BitVec.ofNat 512 x) :: s.life.burns ∧
    t.life.burning = true ∧ t.life.otp = s.life.otp ∧ t.life.accepted = (if op = 0x0902 then x else s.life.accepted) ∧
    (op = 0x0902 → t.life.debugTok = (s.life.debugTok && decide (lcPos x < 5))) ∧ t.mem = s.mem ∧ t.csr = s.csr) ∧
  (s.life.burning = false → s.burnHeld mv = false → s.answered t v stNO_HOLDUP (bytesLE 0 4) ∧ t.life = s.life ∧ t.mem = s.mem ∧ t.csr = s.csr)

theorem State.takeBurn_burns (s : State) (v : Service) (mv g x : Nat) {op : Nat} (h : op ≠ 0x0902) :
    s.burnsOr v mv op g x (s.takeBurn v mv g x) := by
  refine ⟨fun hb => if_pos hb, fun hb held => ?_, fun hb held => ?_⟩
  · have run : s.takeBurn v mv g x = ((s.sense mv).burn g x).ok v [] := by simp [State.takeBurn, hb, held]
    obtain ⟨answer, life, mem, csr⟩ := State.burnt_shows (u := (s.sense mv).burn g x) (s := s) rfl v
    rw [run]
    refine ⟨answer, ?_, ?_, ?_, ?_, fun hop => absurd hop h, mem, csr⟩ <;> rw [life]
    · rfl
    · rfl
    · rfl
    · rw [if_neg h]
      rfl
  · have run : s.takeBurn v mv g x = (s.sense mv).err v stNO_HOLDUP 0 := by simp [State.takeBurn, hb, held]
    rw [run]
    exact s.noHoldup v mv

/-- The intent `x` burns, and counts as pending from now on (R427). -/
def State.intends (s : State) (mv x : Nat) : State :=
  let t := (s.sense mv).burn gIntent x
  t.setLife { t.life with accepted := x, debugTok := t.life.debugTok && decide (lcPos x < 5) }

theorem State.intends_changes (s : State) (mv x : Nat) : s.changes [.store, .life] (s.intends mv x) := by
  have base : s.changes [.store, .life] ((s.sense mv).burn gIntent x) := rfl
  exact (State.changes_setLife _ _ _ _ (by decide)).2 base

theorem State.lcTransition_burns {s : State} {v : Service} (h : s.lcRefusal v = none) (mv : Nat) :
    s.burnsOr v mv 0x0902 gIntent (v.u 0 1) (State.lcTransition mv v s) := by
  refine ⟨fun hb => by simp [State.lcTransition, h, hb], fun hb held => ?_, fun hb held => ?_⟩
  · have run : State.lcTransition mv v s = (s.intends mv (v.u 0 1)).ok v [] := by
      simp [State.lcTransition, State.intends, h, hb, held]
    obtain ⟨answer, life, mem, csr⟩ := State.burnt_shows (s.intends_changes mv (v.u 0 1)) v
    rw [run]
    refine ⟨answer, ?_, ?_, ?_, ?_, fun _ => ?_, mem, csr⟩ <;> rw [life] <;> rfl
  · have run : State.lcTransition mv v s = (s.sense mv).err v stNO_HOLDUP 0 := by simp [State.lcTransition, h, hb, held]
    rw [run]
    exact s.noHoldup v mv

/-- Settles O17: each burning request that passes its checks ends in `takeBurn`. -/
theorem burnRequests : Obligations.BurnRequests := by
  intro s v mv c op g x hs h
  have burns : ∃ t, exec c s = .next t ∧ s.burnsOr v mv op g x t := by
    rcases h with ⟨rfl, rfl, rfl, rfl, hlc, hb, hm⟩ | ⟨rfl, rfl, rfl, rfl, hr, hb⟩ | ⟨rfl, rfl, rfl, rfl, hlc, hc, hb⟩ |
      ⟨rfl, rfl, hb, k, n, hk, hn, rfl, rfl⟩ | ⟨rfl, rfl, rfl, rfl, hr⟩
    · refine completes_request rfl hs ?_
      rw [State.secBurn]
      simp only [show ¬ s.lc < 3 by omega, hb, hm, if_false, Bool.false_eq_true]
      exact s.takeBurn_burns v mv gSec _ (by decide)
    · refine completes_request rfl hs ?_
      rw [State.rollbackSet]
      simp only [show ¬ v.u 0 1 < s.imgRollback by omega, show ¬ v.u 0 1 = s.imgRollback by omega, hb, if_false, Bool.false_eq_true]
      exact s.takeBurn_burns v mv gImgRb _ (by decide)
    · refine completes_request rfl hs ?_
      rw [State.customerKey]
      simp only [show ¬ s.lc < 3 by omega, hb, hc, if_false, Bool.false_eq_true]
      exact s.takeBurn_burns v mv gCust _ (by decide)
    · refine completes_request rfl hs ?_
      have run : State.imageKey mv v s = s.takeBurn v mv (gImg + n) (k.toNat + 2 ^ 256) := by
        by_cases burning : s.life.burning = true
        · simp [State.imageKey, State.takeBurn, hb, burning]
        · simp [State.imageKey, hb, burning, hk, hn]
      rw [run]
      exact s.takeBurn_burns v mv (gImg + n) _ (by decide)
    · exact completes_request rfl hs (State.lcTransition_burns hr mv)
  obtain ⟨t, run, busy, held, refused⟩ := burns
  exact ⟨fun hb => ⟨t, run, busy hb⟩, fun hb hh => ⟨t, run, held hb hh⟩, fun hb hh => ⟨t, run, refused hb hh⟩⟩

/-! ## Debug (R438 to R440) -/

/-- An answer after a change of the free values or the life cycle alone. -/
theorem State.lifeSet_shows {s u : State} (h : s.changes [.free, .life] u) (v : Service) (b : List Byte) :
    let t := u.ok v b
    s.answered t v 0 b ∧ t.life = u.life ∧ t.free = u.free := by
  have rest := State.reply_rest u v 0 b
  exact ⟨State.ok_answered_of (h.same .mb (by decide)) v b, (congrArg State.life rest :), (congrArg State.free rest :)⟩

/-- The nonce that DEBUG_CHALLENGE draws. -/
def State.challenged (s : State) : State :=
  s.draw.2.setLife { s.life with nonce := some (BitVec.ofNat 256 (Config.freeValue s.free)) }

/-- What an accepted token sets. -/
def State.authorized (s : State) (scope : Nat) : State :=
  s.setLife { s.life with nonce := none, debugTok := s.life.debugTok || scope.testBit 0, liftTok := s.life.liftTok || scope.testBit 1 }

/-- Settles O18: the nonce is drawn, and a token that passes is applied. -/
theorem debugRequests : Obligations.DebugRequests := by
  intro s v
  refine ⟨fun hs hsec hw => completes_request rfl hs ?_, fun hs hr => completes_request rfl hs ?_, fun hs st d hr => completes_request rfl hs ?_⟩
  · have run : State.debugChallenge v s = s.challenged.ok v (s.unitBytes ++ (bytesLE (Config.freeValue s.free % 2 ^ 256) 32).reverse) := by
      simp only [State.debugChallenge, hsec, hw, if_false, Bool.false_eq_true]
      rfl
    obtain ⟨answer, life, free⟩ := State.lifeSet_shows (u := s.challenged) (s := s) rfl v
      (s.unitBytes ++ (bytesLE (Config.freeValue s.free % 2 ^ 256) 32).reverse)
    rw [run]
    exact ⟨congrArg Life.nonce life, free, answer, (congrArg Life.otp life).trans rfl⟩
  · have run : State.debugResponse v s = (s.authorized (v.u 52 1)).ok v [] := by
      simp only [State.debugResponse, hr]
      rfl
    obtain ⟨answer, life, -⟩ := State.lifeSet_shows (u := s.authorized (v.u 52 1)) (s := s) rfl v []
    rw [run]
    exact ⟨answer, congrArg Life.nonce life, congrArg Life.debugTok life, congrArg Life.liftTok life, (congrArg Life.otp life).trans rfl⟩
  · have run : State.debugResponse v s = s.err v st d := by simp only [State.debugResponse, hr]
    rw [run]
    exact s.err_turnedAway v st d

/-! ## Loans and the probe block -/

theorem State.endLoans_loanList (s : State) (p : Nat × Nat × Nat → Bool) : (s.endLoans p).hl.loanList = s.hl.loanList.filter (fun l => !p l) := by
  unfold State.endLoans
  extract_lets gone h t u
  have hu : u.hl.loanList = s.hl.loanList.filter (fun l => !p l) := by
    unfold u
    split <;> rfl
  clear_value u
  split
  · unfold State.endSounding
    split <;> exact hu
  · exact hu

/-- The probe block armed for frame `f` (R496). -/
def State.arms (s : State) (v : Service) (f : Nat) : State :=
  let t := s.accept f v.mb v.tag (.arm (v.u 8 4))
  let t := (t.setReg (PB 8) 0).setReg (PB 4) (setBits (s.reg (PB 4)) 0 7 1)
  t.setProbe { s.probe with target := f, storing := false, wp := 0, frames := v.u 8 4, left := 0, counting := false }

theorem State.arms_changes (s : State) (v : Service) (f : Nat) : s.changes [.hl, .csr, .probe] (s.arms v f) := rfl

/-- STATE reads ARMED, and what stands beside it 0. -/
theorem armed_status (x : Nat) : bits (setBits x 0 7 1 % 2 ^ 32) 0 2 = 1 ∧ bits (setBits x 0 7 1 % 2 ^ 32) 2 5 = 0 := by
  simp only [bits, setBits, Nat.shiftRight_eq_div_pow, Nat.shiftLeft_eq]
  omega

theorem State.arms_reg (s : State) (v : Service) (f a : Nat) : (s.arms v f).reg a =
    ((s.setReg (PB 8) 0).setReg (PB 4) (setBits (s.reg (PB 4)) 0 7 1)).reg a := rfl

theorem State.arms_shows (s : State) (v : Service) (f : Nat) :
    let t := (s.arms v f).ok v []
    s.answered t v 0 [] ∧ t.probe.target = f ∧ t.probe.frames = v.u 8 4 ∧ t.probe.wp = 0 ∧ t.pbState = 1 ∧ t.fld (PB 4) 2 5 = 0 ∧
    t.reg (PB 8) = 0 ∧ (∀ a, a ≠ PB 4 → a ≠ PB 8 → t.reg a = s.reg a) ∧
    t.hl.changes = s.hl.changes ++ [⟨f, v.mb, v.tag, .arm (v.u 8 4), s.holdBack f⟩] ∧ t.mem = s.mem ∧ t.rg = s.rg := by
  intro t
  have answer : (s.arms v f).changes [.mb, .hl, .chain] t := (s.arms v f).ok_leaves v []
  have all := ((s.arms_changes v f).mono (m := [.hl, .csr, .probe, .mb, .chain]) (by decide)) |>.trans (answer.mono (by decide))
  have probe : t.probe = (s.arms v f).probe := answer.same .probe (by decide)
  have regs (a : Nat) : t.reg a = (s.arms v f).reg a := State.reg_congr (answer.same .csr (by decide)) a
  have status : t.reg (PB 4) = setBits (s.reg (PB 4)) 0 7 1 % 2 ^ 32 := by rw [regs, State.arms_reg, State.reg_setReg_same]
  obtain ⟨armed, clear⟩ := armed_status (s.reg (PB 4))
  refine ⟨State.ok_answered_of rfl v [], ?_, ?_, ?_, ?_, ?_, ?_, fun a h4 h8 => ?_, ?_, all.same .mem (by decide), all.same .rg (by decide)⟩
  · rw [probe]
    rfl
  · rw [probe]
    rfl
  · rw [probe]
    rfl
  · rw [State.pbState, State.fld, status, armed]
  · rw [State.fld, status, clear]
  · rw [regs, State.arms_reg, State.reg_setReg_ne _ _ _ _ (by decide), State.reg_setReg_same, Nat.zero_mod]
  · rw [regs, State.arms_reg, State.reg_setReg_ne _ _ _ _ h4, State.reg_setReg_ne _ _ _ _ h8]
  · exact congrArg Headland.changes (State.ok_hl (s.arms v f) v [])

/-- PROBE_ARM by the holder with a usable buffer. -/
theorem State.probeArm_usable {s : State} {v : Service} (hh : s.holder = 0xF ∨ s.holder = v.mb) (hq : s.sounding = false)
    (hb : s.bufBlocks ≠ []) (hk : ∀ k ∈ s.bufBlocks, s.mayBlock s.holder k = true) : State.probeArm v s =
    if !s.gateOpen 0x2C then s.err v stGATED 0
    else match s.target (v.tgt 0) with
      | none => s.err v stSTALE 0
      | some f => (s.arms v f).ok v [] := by
  have holder : ¬ (s.holder ≠ 0xF ∧ s.holder ≠ v.mb) := by tauto
  have usable : (s.bufBlocks.isEmpty || s.bufBlocks.any (fun k => !s.mayBlock s.holder k)) = false := by
    simpa [hb] using hk
  simp only [State.probeArm, holder, hq, usable, if_false, Bool.false_eq_true] <;> rfl

/-- What the loan of a spare resource may be answered (R244). -/
theorem State.loanRequest_lent {s : State} {v : Service} (hl : s.fullLoading = false) (hs : s.resourceSpare (v.u 0 1) (v.u 2 2) = true) :
    State.loanRequest v s = match s.lent (v.u 0 1) (v.u 2 2) with
      | some m => if m = v.mb then s.ok v [] else s.err v stBUSY 0
      | none => { s with hl := { s.hl with loanList := s.hl.loanList ++ [(v.u 0 1, v.u 2 2, v.mb)] } }.ok v [] := by
  simp only [State.loanRequest, hl, hs, Bool.false_eq_true, if_false, Bool.not_true] <;> rfl

theorem State.loanRelease_shows {s : State} {v : Service} (h : (v.u 0 1, v.u 2 2, v.mb) ∈ s.hl.loanList) :
    let t := State.loanRelease v s
    s.answered t v 0 [] ∧ (v.u 0 1, v.u 2 2, v.mb) ∉ t.hl.loanList ∧ t.mem = s.mem := by
  have run : State.loanRelease v s = (s.endLoans (fun x => x = (v.u 0 1, v.u 2 2, v.mb))).ok v [] := if_pos (by simpa using h)
  have ends : s.changes [.csr, .hl] (s.endLoans (fun x => x = (v.u 0 1, v.u 2 2, v.mb))) :=
    (State.changes_endLoans _ _ _ _ (by decide)).2 (State.changes_refl _ s)
  have loans := s.endLoans_loanList (fun x => x = (v.u 0 1, v.u 2 2, v.mb))
  rw [run]
  generalize s.endLoans _ = u at *
  have answer := u.ok_leaves v []
  refine ⟨State.ok_answered_of (ends.same .mb (by decide)) v [], ?_, (answer.same .mem (by decide) :).trans (ends.same .mem (by decide))⟩
  rw [State.ok_hl, loans]
  simp

/-- Settles O19: loans by the list of those that run, the probe block by Headland's access to it. -/
theorem probeRequests : Obligations.ProbeRequests := by
  intro s v
  refine ⟨fun hs hl hr hn => completes_request rfl hs ?_, fun hs hl => completes_request rfl hs ?_, fun hs hl hr => completes_request rfl hs ?_,
    fun hs hl hr m hm => ⟨fun hne => completes_request rfl hs ?_, fun heq => completes_request rfl hs ?_⟩,
    fun hs hm => completes_request rfl hs (State.loanRelease_shows hm), fun hs hm => completes_request rfl hs ?_,
    fun hs st hr => completes_request rfl hs ?_, fun hs hr => ⟨fun hw => completes_request rfl hs ?_, fun hw st x t ha =>
      ⟨fun h0 => completes_request rfl hs ?_, fun h0 => completes_request rfl hs ?_⟩⟩,
    fun hs hh hq hb hk => ⟨fun hg => completes_request rfl hs ?_, fun hg f hf => completes_request rfl hs ?_⟩⟩
  · have run : State.loanRequest v s = ({ s with hl := { s.hl with loanList := s.hl.loanList ++ [(v.u 0 1, v.u 2 2, v.mb)] } } : State).ok v [] := by
      rw [State.loanRequest_lent hl hr, hn]
    rw [run]
    exact ⟨State.ok_answered_of rfl v [], congrArg Headland.loanList (State.ok_hl _ v []), State.ok_rest_of rfl v []⟩
  · have run : State.loanRequest v s = s.err v stBUSY 0 := if_pos hl
    rw [run]
    exact s.err_turnedAway v _ _
  · have run : State.loanRequest v s = s.err v stCONFLICT 0 := by simp [State.loanRequest, hl, hr]
    rw [run]
    exact s.err_turnedAway v _ _
  · rw [State.loanRequest_lent hl hr, hm]
    simp only [if_neg hne]
    exact s.err_turnedAway v _ _
  · rw [State.loanRequest_lent hl hr, hm]
    simp only [if_pos heq]
    exact (s.ok_onlyAnswer v []).symm
  · have run : State.loanRelease v s = s.err v stBAD_ARG 0 := if_neg (by simpa using hm)
    rw [run]
    exact s.err_turnedAway v _ _
  · have run : State.probeSet v s = s.err v st 0 := by simp only [State.probeSet, hr]
    rw [run]
    exact s.err_turnedAway v _ _
  · simp only [State.probeSet, hr, hw, if_true]
  · have run : State.probeSet v s = t.ok v [] := by simp only [State.probeSet, hr, hw, ha, h0, if_true, if_false, Bool.false_eq_true]
    rw [run]
    exact (t.ok_onlyAnswer v []).symm
  · have run : State.probeSet v s = (t.setFld (PB 4) 16 4 s.holder).err v st 0 := by
      simp only [State.probeSet, hr, hw, ha, h0, if_false, Bool.false_eq_true]
    rw [run]
    rintro w rfl
    exact State.err_turnedAway _ v st 0
  · have run : State.probeArm v s = s.err v stGATED 0 := by
      rw [State.probeArm_usable hh hq hb hk, if_pos (by simp [hg])]
    rw [run]
    exact s.err_turnedAway v _ _
  · have run : State.probeArm v s = (s.arms v f).ok v [] := by
      rw [State.probeArm_usable hh hq hb hk, if_neg (by simp [hg]), hf]
    rw [run]
    exact s.arms_shows v f

/-! ## The image store -/

/-- An answer after a change of the store alone. -/
theorem State.stored_shows {s u : State} (h : s.changes [.store] u) (v : Service) :
    let t := u.ok v []
    s.answered t v 0 [] ∧ t.store = u.store ∧ { t with mb := s.mb, hl := s.hl, chain := s.chain, store := s.store } = s := by
  have answer := u.ok_leaves v []
  exact ⟨State.ok_answered_of (h.same .mb (by decide)) v [], answer.same .store (by decide), (h.mono (m := [.mb, .hl, .chain, .store]) (by decide)).trans (answer.mono (by decide))⟩

theorem State.slot_congr {s t : State} (h : t.store = s.store) (k : Nat) : t.slot k = s.slot k := by rw [State.slot, State.slot, h]

theorem State.stream_congr {s t : State} (h : t.store = s.store) (fw : Bool) : t.stream fw = s.stream fw := by
  rw [State.stream, State.stream, h]

@[simp] theorem State.stream_setStream_same (s : State) (fw : Bool) (x : Stream) : (s.setStream fw x).stream fw = x := by cases fw <;> rfl

@[simp] theorem State.stream_setStream_other (s : State) (fw : Bool) (x : Stream) : (s.setStream fw x).stream (!fw) = s.stream (!fw) := by
  cases fw <;> rfl

theorem State.setStream_changes (s : State) (fw : Bool) (x : Stream) : s.changes [.store] (s.setStream fw x) := rfl

/-- An opened slot: emptied, one program cycle counted, its stream open (R268, R269). -/
theorem State.openSlot_shows (s : State) (fw : Bool) (k mb : Nat) :
    (s.openSlot fw k mb).slot k = { st := 1, prog := (s.slot k).prog + 1 } ∧ (s.openSlot fw k mb).stream fw = { on := true, slot := k, mb } ∧
    s.changes [.store] (s.openSlot fw k mb) := by
  refine ⟨?_, State.stream_setStream_same _ _ _, rfl⟩
  cases fw <;> exact mget_mput_same _ _ _ _

theorem State.opened_shows (s : State) (fw : Bool) (k : Nat) (v : Service) :
    let t := (s.openSlot fw k v.mb).ok v []
    s.answered t v 0 [] ∧ t.slot k = { st := 1, prog := (s.slot k).prog + 1 } ∧ t.stream fw = { on := true, slot := k, mb := v.mb } ∧
    { t with mb := s.mb, hl := s.hl, chain := s.chain, store := s.store } = s := by
  intro t
  obtain ⟨slot, stream, leaves⟩ := s.openSlot_shows fw k v.mb
  obtain ⟨answer, store, rest⟩ := State.stored_shows leaves v
  exact ⟨answer, (State.slot_congr store k).trans slot, (State.stream_congr store fw).trans stream, rest⟩

/-! ## Stream data (R269, R270, R362, R363) -/

section
variable {s : State} {v : Service} {fw : Bool}

theorem State.streamData_eq (mv : Nat) (hon : (s.stream fw).on = true) (hmb : (s.stream fw).mb = v.mb) (hfin : (s.stream fw).fin = false)
    (htook : v.u 0 4 = (s.stream fw).took) : State.streamData fw mv v s = match s.streamTake fw v.data v.fin mv with
      | .refused st => (s.sense mv).err v st 0
      | .took t => t.ok v [] := by
  simp [State.streamData, hon, hmb, hfin, htook] <;> rfl

/-- Data that neither fill the chunk nor close the stream. -/
theorem State.streamTake_gathers (b : List Byte) (mv : Nat) (fits : (s.stream fw).took + b.length ≤ slotBytes (s.stream fw).slot)
    (short : (s.stream fw).chunk.length + b.length < chunkBytes)
    (room : (s.stream fw).needs ((s.stream fw).chunk.length + b.length) ≤ s.freeBuffers) : s.streamTake fw b false mv =
      .took ((s.sense mv).setStream fw { s.stream fw with took := (s.stream fw).took + b.length, chunk := (s.stream fw).chunk ++ b }) := by
  rw [State.streamTake]
  simp only
  rw [if_neg (by omega), if_pos ⟨short, rfl, room⟩]

/-- The chunk goes to the engine; what is left of the bytes is the next one, or the stream's last (R363). -/
def State.handsChunk (s : State) (fw : Bool) (all : List Byte) (n : Nat) (fin : Bool) (mv : Nat) : State :=
  State.setStream ((s.sense mv).setStore { (s.sense mv).store with
      prog := some ((s.stream fw).slot, all.take chunkBytes)
      next := if fin && !(all.drop chunkBytes).isEmpty then some ((s.stream fw).slot, all.drop chunkBytes) else none })
    fw { s.stream fw with took := (s.stream fw).took + n, chunk := if fin then [] else all.drop chunkBytes, fin := fin }

/-- Data that fill the chunk or close the stream. -/
theorem State.streamTake_fills (b : List Byte) {fin : Bool} (mv : Nat) (fits : (s.stream fw).took + b.length ≤ slotBytes (s.stream fw).slot)
    {all : List Byte} (hall : all = (s.stream fw).chunk ++ b) (full : chunkBytes ≤ all.length ∨ fin = true) : s.streamTake fw b fin mv =
      if !holdsUp s.holdupC mv (chunkNeed (min all.length chunkBytes)) then .refused stNO_HOLDUP
      else if s.programming || decide (s.freeBuffers < (s.stream fw).needs all.length) then .refused stBUSY
      else .took (s.handsChunk fw all b.length fin mv) := by
  have len : (s.stream fw).chunk.length + b.length = all.length := by rw [hall, List.length_append]
  rw [State.streamTake]
  simp only [len]
  rw [if_neg (by omega), if_neg (by rintro ⟨short, open_, -⟩; rcases full with full | full <;> simp_all; omega), hall]
  rfl

theorem State.handsChunk_shows (all : List Byte) (n : Nat) (fin : Bool) (mv : Nat) :
    let t := s.handsChunk fw all n fin mv
    s.changes [.store] t ∧ t.store.prog = some ((s.stream fw).slot, all.take chunkBytes) ∧
    t.stream fw = { s.stream fw with took := (s.stream fw).took + n, fin := fin, chunk := if fin then [] else all.drop chunkBytes } ∧
    t.stream (!fw) = s.stream (!fw) ∧ t.store.slots = s.store.slots ∧
    (fin = true → t.store.next = if all.length ≤ chunkBytes then none else some ((s.stream fw).slot, all.drop chunkBytes)) := by
  intro t
  have base : s.changes [.store] ((s.sense mv).setStore { (s.sense mv).store with
      prog := some ((s.stream fw).slot, all.take chunkBytes)
      next := if fin && !(all.drop chunkBytes).isEmpty then some ((s.stream fw).slot, all.drop chunkBytes) else none }) := rfl
  refine ⟨base.trans (State.setStream_changes _ _ _), ?_, State.stream_setStream_same _ _ _, ?_, ?_, fun hf => ?_⟩
  · cases fw <;> rfl
  · cases fw <;> rfl
  · cases fw <;> rfl
  · have next : t.store.next = if fin && !(all.drop chunkBytes).isEmpty then some ((s.stream fw).slot, all.drop chunkBytes) else none := by
      cases fw <;> rfl
    rw [next, hf]
    by_cases short : all.length ≤ chunkBytes
    · simp [short]
    · simp [short]

end

/-! ## Seals and the boot record -/

/-- A seal of a complete stream starts (R269). -/
def State.seals (s : State) (fw : Bool) (v : Service) : State :=
  (s.setStream fw {}).setStore { (s.setStream fw {}).store with sealing := some ⟨(s.stream fw).slot, v.mb, v.tag, s.timePs⟩ }

theorem State.seals_shows (s : State) (fw : Bool) (v : Service) :
    s.changes [.store] (s.seals fw v) ∧ (s.seals fw v).stream fw = {} ∧
    (s.seals fw v).store.sealing = some ⟨(s.stream fw).slot, v.mb, v.tag, s.timePs⟩ := by
  refine ⟨(s.setStream_changes fw {}).trans (by rfl), ?_, rfl⟩
  cases fw <;> rfl

/-- The boot record is written into the copy that is not in force, with the next SEQ (R273, Table CFG-18). -/
theorem State.writeBootRec_shows (s : State) (mv boot golden c : Nat) {l : Nat}
    (hl : l = packLE [(0x31524259, 4), ((s.bootRec.map (fun r => (fieldAt r 4 4 + 1) % 2 ^ 32)).getD 1, 4), (boot, 1), (golden, 1), (c, 2), (0, 48)])
    {r : BitVec 512} (hr : r = BitVec.ofNat 512 (l + crc32c (bytesLE l 60) * 2 ^ 480)) :
    (s.bootRec = some s.store.rec0.toNat → ((s.sense mv).writeBootRec boot golden c).store = { s.store with mv := min mv 2000, rec1 := r }) ∧
    (s.bootRec ≠ some s.store.rec0.toNat → ((s.sense mv).writeBootRec boot golden c).store = { s.store with mv := min mv 2000, rec0 := r }) := by
  have same : (s.sense mv).bootRec = s.bootRec := rfl
  have seq : (match s.bootRec with
    | some r => (fieldAt r 4 4 + 1) % 2 ^ 32
    | none => 1) = (s.bootRec.map (fun r => (fieldAt r 4 4 + 1) % 2 ^ 32)).getD 1 := by cases s.bootRec <;> rfl
  subst hl hr
  rw [← seq]
  refine ⟨fun h => ?_, fun h => ?_⟩
  · rw [State.writeBootRec]
    simp only [same]
    rw [if_pos (show s.bootRec = some (s.sense mv).store.rec0.toNat from h)]
    rfl
  · rw [State.writeBootRec]
    simp only [same]
    rw [if_neg (show s.bootRec ≠ some (s.sense mv).store.rec0.toNat from h)]
    rfl

/-- Settles O20: opening, stream data by `streamTake`, seals, and the boot record. -/
theorem storeRequests : Obligations.StoreRequests := by
  intro s v mv
  refine ⟨fun hs open_ busy read worn golden => completes_request rfl hs ?openSlot, fun hs worn open_ busy read => completes_request rfl hs ?worn,
    fun hs run busy worn => completes_request rfl hs ?fwOpen, fun fw c op hc hs hon hmb hfin htook fits short room open_ => ?gathers,
    fun fw c op hc hs hon hmb hfin htook fits all hall full => ?fills, fun fw c op hc hs hon hmb hfin idle => ?sealing,
    fun hs valid held l hl r hr => completes_request rfl hs ?bootRec⟩
  case openSlot =>
    have run : State.storeOpen v s = (s.openSlot false (v.u 0 1) v.mb).ok v [] := by
      rw [State.storeOpen]
      rw [if_neg (by simp [busy, read]; tauto), if_neg (by omega), if_neg golden]
    rw [run]
    exact s.opened_shows false _ v
  case worn =>
    have run : State.storeOpen v s = s.err v stSTORE_WORN 0 := by
      rw [State.storeOpen]
      rw [if_neg (by simp [busy, read]; tauto), if_pos worn]
    rw [run]
    exact s.err_turnedAway v _ _
  case fwOpen =>
    have run' : State.fwOpen v s = (s.openSlot true (0x10 + v.u 0 1) v.mb).ok v [] := by
      rw [State.fwOpen]
      rw [if_neg run, if_neg (by simp [busy]), if_neg (by omega)]
    rw [run']
    exact s.opened_shows true _ v
  case gathers =>
    have run : State.streamData fw mv v s = ((s.sense mv).setStream fw { s.stream fw with
        took := (s.stream fw).took + v.data.length, chunk := (s.stream fw).chunk ++ v.data }).ok v [] := by
      rw [State.streamData_eq mv hon hmb hfin htook, open_, State.streamTake_gathers _ mv fits short room]
    have leaves : s.changes [.store] ((s.sense mv).setStream fw { s.stream fw with
        took := (s.stream fw).took + v.data.length, chunk := (s.stream fw).chunk ++ v.data }) :=
      (s.sense_changes mv).trans (State.setStream_changes _ _ _)
    obtain ⟨answer, store, rest⟩ := State.stored_shows leaves v
    have shows := (⟨answer, (State.stream_congr store fw).trans (State.stream_setStream_same _ _ _), rest⟩ : _ ∧ _ ∧ _)
    rw [← run] at shows
    rcases hc with ⟨rfl, rfl, rfl⟩ | ⟨rfl, rfl, rfl⟩
    · exact completes_request rfl hs shows
    · exact completes_request rfl hs shows
  case fills =>
    have run : State.streamData fw mv v s = _ :=
      (State.streamData_eq mv hon hmb hfin htook).trans (by rw [State.streamTake_fills _ mv fits hall full])
    have completes {P : State → Prop} (h : P (State.streamData fw mv v s)) : Completes c s P := by
      rcases hc with ⟨rfl, rfl, rfl⟩ | ⟨rfl, rfl, rfl⟩
      · exact completes_request rfl hs h
      · exact completes_request rfl hs h
    refine ⟨fun held => completes ?_, fun held busy => completes ?_, fun held idle room => completes ?_⟩
    · rw [run, if_pos (by simp [held])]
      exact State.err_turnedAway _ v _ 0
    · rw [run, if_neg (by simp [held]), if_pos (by simp [busy])]
      exact State.err_turnedAway _ v _ 0
    · obtain ⟨leaves, prog, stream, other, slots, next⟩ := s.handsChunk_shows (fw := fw) all v.data.length v.fin mv
      obtain ⟨answer, store, rest⟩ := State.stored_shows leaves v
      rw [run, if_neg (by simp [held]), if_neg (by simp [idle, room])]
      refine ⟨answer, ?_, (State.stream_congr store fw).trans stream, (State.stream_congr store _).trans other, ?_, fun hf => ?_, rest⟩
      · rw [store, prog]
      · rw [store, slots]
      · rw [store, next hf]
  case sealing =>
    have run : State.startSeal fw v s = (s.seals fw v).ok v [] := by
      simp [State.startSeal, State.seals, hon, hmb, hfin, idle]
    obtain ⟨leaves, stream, sealing⟩ := s.seals_shows fw v
    obtain ⟨answer, store, rest⟩ := State.stored_shows leaves v
    have shows := (⟨answer, (State.stream_congr store fw).trans stream, (congrArg Store.sealing store).trans sealing, rest⟩ : _ ∧ _ ∧ _ ∧ _)
    rw [← run] at shows
    rcases hc with ⟨rfl, rfl, rfl⟩ | ⟨rfl, rfl, rfl⟩
    · exact completes_request rfl hs shows
    · exact completes_request rfl hs shows
  case bootRec =>
    have run : State.bootRecordSet mv v s = ((s.sense mv).writeBootRec (v.u 0 1) (v.u 1 1) (v.u 2 2)).ok v [] := by
      rw [State.bootRecordSet]
      rw [if_neg (by rcases valid with ⟨hb, hg⟩ | ⟨hb, hg⟩ <;> simp [hb, hg]), if_neg (by simp [held])]
    have leaves : s.changes [.store] ((s.sense mv).writeBootRec (v.u 0 1) (v.u 1 1) (v.u 2 2)) := by
      rw [State.changes_writeBootRec _ _ _ _ _ _ (by decide)]
      exact s.sense_changes mv
    obtain ⟨answer, store, rest⟩ := State.stored_shows leaves v
    obtain ⟨second, first⟩ := s.writeBootRec_shows mv (v.u 0 1) (v.u 1 1) (v.u 2 2) hl hr
    rw [run]
    refine ⟨answer, ?_, fun h => ?_, fun h => ?_, rest⟩
    · by_cases h : s.bootRec = some s.store.rec0.toNat
      · rw [store, second h]
      · rw [store, first h]
    · rw [store, second h]
      exact ⟨rfl, rfl⟩
    · rw [store, first h]
      exact ⟨rfl, rfl⟩

end Sys2Proof.Machine
end

section
/-! Contention on cross-tier wires, the fabric memory ports and the queue controllers. -/
namespace Sys2Proof.Machine

/-! ## Contention (R122, R126) -/

/-- A region that is not held becomes held; its entry and its pins are what changes. -/
theorem State.holdRegion_free {s : State} {r : Nat} (h : (s.region r).held = false) (cause : Nat) :
    ((s.holdRegion r cause).region r).held = true ∧ ((s.holdRegion r cause).region r).cause = cause ∧
    (∀ j, j ≠ r → (s.holdRegion r cause).region j = s.region j) ∧ (s.holdRegion r cause).fab.shaftOn = s.fab.shaftOn ∧
    s.changes [.fab, .rg] (s.holdRegion r cause) := by
  rw [State.holdRegion]
  simp only [h, Bool.false_eq_true, if_false]
  refine ⟨?_, ?_, fun j hj => State.region_setRegion_ne _ _ _ _ hj, rfl, rfl⟩ <;> rw [State.region_setRegion_same]

/-- A clash holds the region and drops its end of the wires. -/
theorem State.holdClash_shows (s : State) (k r : Nat) :
    let t := s.holdClash k r
    (t.region r).held = true ∧ ((s.region r).held = false → (t.region r).cause = 3) ∧
    mget (fun _ => (0 : BitVec 1024)) t.fab.shaftOn r = 0 ∧ (∀ j, j ≠ r → t.region j = s.region j) ∧
    (∀ j, j ≠ r → mget (fun _ => (0 : BitVec 1024)) t.fab.shaftOn j = mget (fun _ => (0 : BitVec 1024)) s.fab.shaftOn j) ∧
    s.changes [.fab, .rg] t := by
  by_cases held : (s.region r).held = true
  · rw [State.holdClash, if_pos held]
    exact ⟨held, by simp [held], mget_mput_same _ _ _ _, fun _ _ => rfl, fun j h => mget_mput_ne _ _ _ _ _ h, rfl⟩
  · rw [State.holdClash, if_neg held]
    obtain ⟨now, cause, others, shafts, frame⟩ := State.holdRegion_free (Bool.eq_false_iff.2 held) 3
    generalize s.holdRegion r 3 = u at *
    refine ⟨?_, fun _ => ?_, mget_mput_same _ _ _ _, fun j h => ?_, fun j h => ?_, ?_⟩
    · exact (congrArg Region.held (u.region_setRegion_same _ _)).trans now
    · exact (congrArg Region.cause (u.region_setRegion_same _ _)).trans cause
    · exact (u.region_setRegion_ne _ _ _ h).trans (others j h)
    · exact (mget_mput_ne _ _ _ _ _ h).trans (congrArg (mget _ · j) shafts)
    · exact frame.trans rfl

theorem State.contention_of (s : State) {k c n : Nat} (h : s.clash k = some (c, n)) :
    s.contention k = ((s.holdClash k k).holdClash k (k + 48)).faultHw 0x0104 k
      (packLE [(k, 1), (c, 1), (n, 2), (s.active k, 1), (s.active (k + 48), 1)]) := by
  unfold State.contention
  split
  · next none => exact nomatch h.symm.trans none
  · next some =>
    obtain ⟨rfl, rfl⟩ := Prod.mk.inj (Option.some.inj (h.symm.trans some))
    rfl

theorem State.contention_none (s : State) {k : Nat} (h : s.clash k = none) : s.contention k = s := by
  unfold State.contention
  rw [h]

/-- Settles O36: one region after the other is held, and the event is latched. -/
theorem contention : Obligations.Contention := by
  intro s k
  refine ⟨fun w hw => ?_, fun none => ?_⟩
  · obtain ⟨c, n⟩ := w
    obtain ⟨near, causeNear, dropNear, elseNear, shaftsNear, frameNear⟩ := s.holdClash_shows k k
    obtain ⟨far, causeFar, dropFar, elseFar, shaftsFar, frameFar⟩ := (s.holdClash k k).holdClash_shows k (k + 48)
    refine completes_by rfl (u := ((s.holdClash k k).holdClash k (k + 48)).faultHw 0x0104 k
      (packLE [(k.val, 1), (c, 1), (n, 2), (s.active k, 1), (s.active (k + 48), 1)])) (s.contention_of hw) ?_
    generalize packLE _ = data
    generalize s.holdClash k k = u at *
    generalize u.holdClash k (k + 48) = t at *
    refine ⟨?_, fun r h h' => (elseFar r h').trans (elseNear r h), t.latch_any _ _ _, ((frameNear.trans frameFar).mono (m := [.fab, .rg, .hl]) (by decide)).trans rfl⟩
    have apart : (k.val : Nat) ≠ k + 48 := by omega
    rintro r (rfl | rfl)
    · have kept : t.region k = u.region k := elseFar _ apart
      exact ⟨(congrArg Region.held kept).trans near, fun h => (congrArg Region.cause kept).trans (causeNear h),
        (shaftsFar _ apart).trans dropNear⟩
    · have free : u.region (k + 48) = s.region (k + 48) := elseNear _ (Ne.symm apart)
      exact ⟨far, fun h => causeFar ((congrArg Region.held free).trans h), dropFar⟩
  · exact completes_by rfl (s.contention_none none) rfl
/-! ## What a port executes (R165) -/

/-- Port `k` keeps what it captured and shows the result `y`; no other port changes. -/
def State.portShows (s t : State) (k : Nat) (y : PortRes) : Prop :=
  t.port k = { s.port k with res := y, fresh := false } ∧ ∀ j, j ≠ k → t.port j = s.port j

theorem State.portOp_idle {s : State} {k op : Nat} (h : (s.port k).fresh = false ∨ (s.port k).op ≠ op)
    (f : Port → State → PortRes × State) : s.portOp k op f = s := by
  rw [State.portOp]
  rcases h with h | h <;> simp [h]

theorem State.portOp_runs {s u : State} {k op : Nat} {y : PortRes} {f : Port → State → PortRes × State} (fresh : (s.port k).fresh = true)
    (ho : (s.port k).op = op) (hf : f (s.port k) s = (y, u)) :
    s.portOp k op f = u.setPort k { u.port k with res := y, fresh := false } := by
  simp [State.portOp, fresh, ho, hf]

/-- A captured operation that changes no port shows its result, and changes what it changed. -/
theorem completes_port {c : Instr} {s u : State} {k op : Nat} {y : PortRes} {f : Port → State → PortRes × State} {P : State → Prop}
    (run : exec c s = .next (s.portOp k op f)) (fresh : (s.port k).fresh = true) (ho : (s.port k).op = op)
    (hf : f (s.port k) s = (y, u)) (fab : u.fab = s.fab)
    (h : ∀ t, s.portShows t k y → u.changes [.fab] t → P t) : Completes c s P := by
  refine completes_by run (State.portOp_runs fresh ho hf) (h _ ⟨?_, fun j hj => ?_⟩ rfl)
  · rw [State.port_setPort_same, State.port, fab, ← State.port]
  · rw [State.port_setPort_ne _ _ _ _ hj, State.port, fab, ← State.port]

/-! ## Words of memory (R162) -/

@[simp] theorem popCount_zero (n : Nat) : popCount 0 n = 0 := by
  induction n with
  | zero => rfl
  | succ n ih => rw [popCount, ih]; simp

theorem State.readWord_clean {s : State} {b w : Nat} (h : s.flipMask b w = 0) : s.readWord b w = ((s.rawWord b w, false, false), s) := by
  have count : popCount (s.flipMask b w) 72 = 0 := (congrArg (popCount · 72) h).trans (popCount_zero 72)
  unfold State.readWord
  generalize popCount (s.flipMask b w) 72 = n at *
  subst count
  rfl

theorem State.readWord_one {s : State} {b w : Nat} (h : popCount (s.flipMask b w) 72 = 1) :
    s.readWord b w = ((s.rawWord b w, true, false), s) := by
  unfold State.readWord
  generalize popCount (s.flipMask b w) 72 = n at *
  subst h
  rfl

theorem State.readWord_two {s : State} {b w : Nat} (h : popCount (s.flipMask b w) 72 = 2) :
    s.readWord b w = ((s.storedWord b w, false, true), s) := by
  unfold State.readWord
  generalize popCount (s.flipMask b w) 72 = n at *
  subst h
  rfl

/-- Reading draws free values at most. -/
theorem State.readWord_leaves (s : State) (b w : Nat) : s.changes [.free] (s.readWord b w).2 := by
  unfold State.readWord
  generalize popCount (s.flipMask b w) 72 = n
  split
  · exact s.changes_refl _
  · exact s.changes_refl _
  · exact s.changes_refl _
  · simp only [State.draw]
    split <;> rfl

theorem State.foundUE_leaves (s : State) (b w by_ : Nat) : s.changes [.ueSeen, .hl] (s.foundUE b w by_) := by
  rw [State.foundUE]
  split
  · exact s.changes_refl _
  · rfl

theorem State.foundUE_seen (s : State) (b w by_ : Nat) : wordKey b w ∈ (s.foundUE b w by_).ueSeen := by
  rw [State.foundUE]
  split
  · next h => exact List.contains_iff_mem.1 h
  · exact List.mem_append_right _ (List.mem_singleton_self _)

theorem bytesLE_get (x n i : Nat) (h : i < n) : (bytesLE x n)[i]'(by simpa using h) = BitVec.ofNat 8 (x / 256 ^ i % 256) := by
  induction n generalizing x i with
  | zero => omega
  | succ n ih =>
    cases i with
    | zero => simp [bytesLE, BitVec.toNat_eq]
    | succ i =>
      simp only [bytesLE, List.getElem_cons_succ]
      rw [ih _ _ (by omega), Nat.div_div_eq_div_mul, Nat.pow_succ']

/-- A store of a word: its eight bytes, its check bits new. -/
theorem State.putWord_shows (s : State) (b w v : Nat) :
    (s.putWord b w v).flipMask b w = 0 ∧
    (∀ i, i < 8 → (s.putWord b w v).byte (8 * wordKey b w + i) = BitVec.ofNat 8 (v / 256 ^ i % 256)) ∧
    (∀ a, a < 8 * wordKey b w ∨ 8 * wordKey b w + 8 ≤ a → (s.putWord b w v).byte a = s.byte a) ∧
    s.changes [.mem, .flips, .ueSeen] (s.putWord b w v) := by
  refine ⟨mget_mput_same _ _ _ _, fun i hi => ?_, fun a => s.byte_putWord_out b w v a, rfl⟩
  exact (byte_putBytes_in _ _ _ _ (by simpa using hi)).trans (bytesLE_get v 8 i hi)

/-! ## READ and WRITE of direct blocks (R167) -/

section
variable {s : State} {k b w : Nat} {p : Port}

/-- The block and the word that a port's address names. -/
def Port.names (p : Port) (k b w : Nat) : Prop := b = 96 * bayOf (k / 4) + p.addr / 4096 % 128 ∧ w = p.addr % 4096

theorem State.direct_reaches (f : Nat → Nat → State → PortRes × State) (h : p.names k b w) (small : p.addr / 4096 % 128 < 96)
    (own : s.blockRegion b = some (k / 4)) :
    s.direct_ k p f = if s.collides k p then (refusedOp, s.count (QC k 0x60) 0 16 1) else f b w s := by
  obtain ⟨rfl, rfl⟩ := h
  have block : bits p.addr 12 7 = p.addr / 4096 % 128 := by rw [bits, Nat.shiftRight_eq_div_pow]; rfl
  have word : bits p.addr 0 12 = p.addr % 4096 := by rw [bits, Nat.shiftRight_zero]; rfl
  have reach : s.directBlock k p = some (96 * bayOf (k / 4) + p.addr / 4096 % 128) := by
    simp only [State.directBlock, block]
    exact if_pos ⟨small, own⟩
  rw [State.direct_, reach, word]

theorem State.direct_refuses (f : Nat → Nat → State → PortRes × State) (h : p.names k b w)
    (no : 96 ≤ p.addr / 4096 % 128 ∨ s.blockRegion b ≠ some (k / 4)) : s.direct_ k p f = (refusedOp, s) := by
  obtain ⟨rfl, rfl⟩ := h
  have block : bits p.addr 12 7 = p.addr / 4096 % 128 := by rw [bits, Nat.shiftRight_eq_div_pow]; rfl
  have none : s.directBlock k p = none := by
    simp only [State.directBlock, block]
    exact if_neg fun ⟨small, own⟩ => no.elim (fun h => by omega) fun h => h own
  rw [State.direct_, none]

/-- The block that a READ reaches gives its word. -/
theorem State.portRead_reads (h : p.names k b w) (small : p.addr / 4096 % 128 < 96) (own : s.blockRegion b = some (k / 4))
    (alone : s.collides k p = false) {v : Nat} {ce ue : Bool} {u : State} (read : s.readWord b w = ((v, ce, ue), u)) :
    State.portRead k p s =
      ({ data := BitVec.ofNat 64 v, rvalid := true, ce, ue }, if ue then u.foundUE b w 0 else u) := by
  rw [State.portRead, State.direct_reaches _ h small own, alone]
  simp [read]

theorem State.portWrite_writes (h : p.names k b w) (small : p.addr / 4096 % 128 < 96) (own : s.blockRegion b = some (k / 4))
    (alone : s.collides k p = false) : State.portWrite k p s = ({}, s.putWord b w p.wdata) := by
  rw [State.portWrite, State.direct_reaches _ h small own, alone]
  rfl

end

theorem State.count_half (s : State) (a : Nat) : (s.count a 0 16 1).fld a 0 16 = min (s.fld a 0 16 + 1) 65535 := by
  rw [State.count, State.fld_setFld_same _ _ _ (by decide), satAdd]
  exact Nat.mod_eq_of_lt (by omega)

/-- The parts of the state that operations on memory may change. -/
def portParts : List Part := [.fab, .csr, .mem, .flips, .ueSeen, .hl, .free]

/-- What a port shows after an operation that made `u` of `s`, and what it left. -/
theorem State.portShows.gives {s u t : State} {k : Nat} {y : PortRes} (shown : s.portShows t k y) (frame : u.changes [.fab] t)
    (change : s.changes portParts u) :
    t.port k = { s.port k with res := y, fresh := false } ∧ (∀ j, j ≠ k → t.port j = s.port j) ∧ s.changes portParts t :=
  ⟨shown.1, shown.2, change.trans (frame.mono (by decide))⟩

/-- Settles O37: by the operation captured and what the address names. -/
theorem portMemory : Obligations.PortMemory := by
  intro s r p
  have region : (4 * r.val + p.val) / 4 = r := by omega
  refine ⟨fun fresh ho => ?_, fun fresh b w hb hw small => ?_, fun fresh big => ?_, fun c n hc idle => ?_⟩
  · exact completes_port rfl fresh ho rfl rfl fun t shown frame => ⟨shown.gives frame (s.changes_refl _), frame⟩
  · have names : (s.port (4 * r.val + p.val)).names (4 * r.val + p.val) b w := ⟨by rw [region]; exact hb, hw⟩
    have ours : s.blockRegion b = some r.val → s.blockRegion b = some ((4 * r.val + p.val) / 4) := by rw [region]; exact id
    have foreign : s.blockRegion b ≠ some r.val → s.blockRegion b ≠ some ((4 * r.val + p.val) / 4) := by rw [region]; exact id
    refine ⟨fun ho own alone clean => ?_, fun ho own alone one => ?_, fun ho own alone two => ?_, fun ho other => ?_,
      fun ho own alone => ?_, fun ho other => ?_, fun ho own alone many => ?_, fun own meet c n hc ho => ?_⟩
    · exact completes_port rfl fresh ho (State.portRead_reads names small (ours own) alone (State.readWord_clean clean)) rfl
        fun t shown frame => ⟨shown.gives frame (s.changes_refl _), frame⟩
    · exact completes_port rfl fresh ho (State.portRead_reads names small (ours own) alone (State.readWord_one one)) rfl
        fun t shown frame => ⟨shown.gives frame (s.changes_refl _), frame⟩
    · have found := s.foundUE_leaves b w 0
      have seen := s.foundUE_seen b w 0
      refine completes_port rfl fresh ho (State.portRead_reads names small (ours own) alone (State.readWord_two two)) (found.same .fab (by decide))
        fun t shown frame => ⟨shown.gives frame (found.mono (by decide)), ?_, ?_⟩
      · exact (frame.same .mem (by decide) :).trans (found.same .mem (by decide))
      · exact (frame.same .ueSeen (by decide) :) ▸ seen
    · exact completes_port rfl fresh ho (State.direct_refuses _ names (.inr (foreign other))) rfl
        fun t shown frame => ⟨shown.gives frame (s.changes_refl _), frame⟩
    · obtain ⟨fixed, put, out, stored⟩ := s.putWord_shows b w (s.port (4 * r.val + p.val)).wdata
      refine completes_port rfl fresh ho (State.portWrite_writes names small (ours own) alone) rfl fun t shown frame =>
        ⟨shown.gives frame (stored.mono (by decide)), frame.same .csr (by decide), frame.same .hl (by decide), ?_⟩
      have mem : t.mem = _ := frame.same .mem (by decide)
      have flips : t.flips = _ := frame.same .flips (by decide)
      refine ⟨?_, fun i hi => ?_, fun a ha => ?_⟩
      · rw [State.flipMask, flips]; exact fixed
      · rw [State.byte, mem]; exact put i hi
      · rw [State.byte, mem]; exact out a ha
    · exact completes_port rfl fresh ho (State.direct_refuses _ names (.inr (foreign other))) rfl
        fun t shown frame => ⟨shown.gives frame (s.changes_refl _), frame⟩
    · have drawn := s.readWord_leaves b w
      generalize read : s.readWord b w = x at drawn
      obtain ⟨⟨v, ce, ue⟩, u⟩ := x
      have left : s.changes [.free, .ueSeen, .hl] (if ue then u.foundUE b w 0 else u) := by
        split
        · exact (drawn.mono (by decide)).trans ((u.foundUE_leaves b w 0).mono (by decide))
        · exact (drawn.mono (by decide))
      refine completes_port rfl fresh ho (State.portRead_reads names small (ours own) alone read) (left.same .fab (by decide))
        fun t shown frame => ⟨(frame.same .mem (by decide) :).trans (left.same .mem (by decide)), _, shown.gives frame (left.mono (by decide)), rfl, rfl⟩
    · have refused (f : Nat → Nat → State → PortRes × State) : s.direct_ (4 * r.val + p.val) (s.port (4 * r.val + p.val)) f =
          (refusedOp, s.count (QC (4 * r.val + p.val) 0x60) 0 16 1) := by
        rw [State.direct_reaches f names small (ours own), if_pos meet]
      have counted : s.changes [.fab, .csr] (s.count (QC (4 * r.val + p.val) 0x60) 0 16 1) := rfl
      rcases hc with ⟨rfl, rfl⟩ | ⟨rfl, rfl⟩ <;>
      · refine completes_port rfl fresh ho (refused _) rfl fun t shown frame =>
          ⟨shown.gives frame rfl, (counted.trans (frame.mono (by decide)) : s.changes [.fab, .csr] t), ?_, fun a ha => ?_⟩
        · rw [State.fld_congr (State.reg_congr (frame.same .csr (by decide)) _), State.count_half]
        · rw [State.reg_congr (frame.same .csr (by decide))]
          exact s.reg_setFld_ne _ _ _ _ _ ha
  · have names : (s.port (4 * r.val + p.val)).names (4 * r.val + p.val) _ _ := ⟨rfl, rfl⟩
    exact ⟨fun ho => completes_port rfl fresh ho (State.direct_refuses _ names (.inl big)) rfl
        fun t shown frame => ⟨shown.gives frame (s.changes_refl _), frame⟩,
      fun ho => completes_port rfl fresh ho (State.direct_refuses _ names (.inl big)) rfl
        fun t shown frame => ⟨shown.gives frame (s.changes_refl _), frame⟩⟩
  · simp only [List.mem_cons, Prod.mk.injEq, List.not_mem_nil, or_false] at hc
    rcases hc with ⟨rfl, rfl⟩ | ⟨rfl, rfl⟩ | ⟨rfl, rfl⟩ | ⟨rfl, rfl⟩ | ⟨rfl, rfl⟩ | ⟨rfl, rfl⟩ | ⟨rfl, rfl⟩ | ⟨rfl, rfl⟩ <;>
      exact completes_by rfl (State.portOp_idle idle _) rfl

/-! ## What the steps of a queue leave -/

/-- From `s` to `t` no queue but `q` changes, and registers and Headland's state at most besides. -/
def State.ofQueue (q : Nat) (s t : State) : Prop := (∀ k, k ≠ q → t.queue k = s.queue k) ∧ s.changes [.qs, .csr, .hl] t

theorem State.ofQueue_refl (q : Nat) (s : State) : s.ofQueue q s := ⟨fun _ _ => rfl, s.changes_refl _⟩

theorem State.ofQueue.trans {q : Nat} {s t u : State} (h : s.ofQueue q t) (k : t.ofQueue q u) : s.ofQueue q u :=
  ⟨fun j hj => (k.1 j hj).trans (h.1 j hj), h.2.trans k.2⟩

theorem State.ofQueue_setQueue (q : Nat) (s : State) (x : Queue) : s.ofQueue q (s.setQueue q x) :=
  ⟨fun _ h => s.queue_setQueue_ne _ _ _ h, rfl⟩

theorem State.ofQueue_csr (q : Nat) {s t : State} (h : s.changes [.csr] t) : s.ofQueue q t :=
  ⟨fun k _ => by rw [State.queue, State.queue, show t.qs = s.qs from h.same .qs (by decide)], (h.mono (by decide))⟩

theorem State.ofQueue_hl (q : Nat) {s t : State} (h : s.changes [.hl] t) : s.ofQueue q t :=
  ⟨fun k _ => by rw [State.queue, State.queue, show t.qs = s.qs from h.same .qs (by decide)], (h.mono (by decide))⟩

theorem State.queue_congr {s t : State} (h : t.qs = s.qs) (k : Nat) : t.queue k = s.queue k := by rw [State.queue, State.queue, h]

/-- A queue but for its flags THROTTLE and OVF and the count of its episode. -/
def Queue.body (x : Queue) : Queue := { x with throttle := false, ovf := false, ovfCount := 0 }

theorem State.updThrottle_shows (s : State) (q : Nat) :
    ((s.updThrottle q).queue q).body = (s.queue q).body ∧ ((s.updThrottle q).queue q).ovf = (s.queue q).ovf ∧
    (∀ k, k ≠ q → (s.updThrottle q).queue k = s.queue k) ∧ s.changes [.qs] (s.updThrottle q) := by
  have set (b : Bool) : let t := s.setQueue q { s.queue q with throttle := b }
      (t.queue q).body = (s.queue q).body ∧ (t.queue q).ovf = (s.queue q).ovf ∧ (∀ k, k ≠ q → t.queue k = s.queue k) ∧ s.changes [.qs] t :=
    ⟨by rw [State.queue_setQueue_same]; rfl, by rw [State.queue_setQueue_same],
      fun _ h => s.queue_setQueue_ne _ _ _ h, rfl⟩
  rw [State.updThrottle]
  split
  · exact set false
  · split
    · exact set true
    · split
      · exact set false
      · exact ⟨rfl, rfl, fun _ _ => rfl, s.changes_refl _⟩

theorem State.closeEpisode_shows (s : State) (q : Nat) :
    ((s.closeEpisode q).queue q).body = (s.queue q).body ∧ (∀ k, k ≠ q → (s.closeEpisode q).queue k = s.queue k) ∧
    s.changes [.qs, .hl] (s.closeEpisode q) := by
  rw [State.closeEpisode]
  split
  · exact ⟨rfl, fun _ _ => rfl, s.changes_refl _⟩
  · have set : let u := s.setQueue q { s.queue q with ovf := false, ovfCount := 0 }
        (u.queue q).body = (s.queue q).body ∧ (∀ k, k ≠ q → u.queue k = s.queue k) ∧ s.changes [.qs, .hl] u :=
      ⟨by rw [State.queue_setQueue_same]; rfl, fun _ h => s.queue_setQueue_ne _ _ _ h, rfl⟩
    obtain ⟨body, others, frame⟩ := set
    dsimp only at body others frame ⊢
    generalize s.setQueue q _ = u at *
    split
    · exact ⟨body, others, frame.trans rfl⟩
    · exact ⟨body, others, frame.trans rfl⟩

theorem State.closeIfLow_shows (s : State) (q : Nat) :
    ((s.closeIfLow q).queue q).body = (s.queue q).body ∧ (∀ k, k ≠ q → (s.closeIfLow q).queue k = s.queue k) ∧
    s.changes [.qs, .hl] (s.closeIfLow q) := by
  rw [State.closeIfLow]
  split
  · exact s.closeEpisode_shows q
  · exact ⟨rfl, fun _ _ => rfl, s.changes_refl _⟩

/-- What clearing a queue keeps of it. -/
def Queue.ruled (x : Queue) : BitVec 160 × Nat × Bool := (x.desc, x.half, x.stopped)

theorem Queue.ruled_of_body {x y : Queue} (h : x.body = y.body) : x.ruled = y.ruled :=
  show x.body.ruled = y.body.ruled from congrArg Queue.ruled h

/-- Words that leave at the head change the ring and the flags. -/
theorem State.drainWords_shows (s : State) (q n : Nat) :
    ((s.drainWords q n).queue q).body = { s.queue q with pre := (s.queue q).pre.drop n, rd := ((s.queue q).rd + n) % s.wq q, occ := (s.queue q).occ - n }.body ∧
    (∀ k, k ≠ q → (s.drainWords q n).queue k = s.queue k) ∧ s.changes [.qs, .hl] (s.drainWords q n) := by
  rw [State.drainWords]
  extract_lets x
  have set : (s.setQueue q { x with pre := x.pre.drop n, rd := (x.rd + n) % s.wq q, occ := x.occ - n }).queue q = _ := s.queue_setQueue_same _ _
  have others := s.ofQueue_setQueue q { x with pre := x.pre.drop n, rd := (x.rd + n) % s.wq q, occ := x.occ - n }
  have frame : s.changes [.qs, .hl] (s.setQueue q { x with pre := x.pre.drop n, rd := (x.rd + n) % s.wq q, occ := x.occ - n }) := rfl
  generalize s.setQueue q { x with pre := x.pre.drop n, rd := (x.rd + n) % s.wq q, occ := x.occ - n } = u at *
  obtain ⟨bodyT, -, othersT, frameT⟩ := u.updThrottle_shows q
  obtain ⟨bodyC, othersC, frameC⟩ := (u.updThrottle q).closeIfLow_shows q
  exact ⟨(bodyC.trans bodyT).trans (congrArg Queue.body set), fun k h => (othersC k h).trans ((othersT k h).trans (others.1 k h)),
    (frame.trans (frameT.mono (by decide))).trans frameC⟩

theorem State.queueRecords_shows (s : State) (q : Nat) :
    ∃ ro closed, (s.queueRecords q).queue q = { s.queue q with ro, closed } ∧
      (s.qMode q ≠ 2 ∨ dDrain (s.desc q) = false → s.queueRecords q = s) ∧
      (∀ k, k ≠ q → (s.queueRecords q).queue k = s.queue k) ∧ s.changes [.qs] (s.queueRecords q) := by
  rw [State.queueRecords]
  extract_lets x n
  split
  · next h => exact ⟨_, _, s.queue_setQueue_same _ _, fun no => by simp [h] at no, fun _ h => s.queue_setQueue_ne _ _ _ h, rfl⟩
  · exact ⟨_, _, rfl, fun _ => rfl, fun _ _ => rfl, s.changes_refl _⟩

/-- While the record's packets have not entered the network, or none leaves, nothing happens (R178). -/
theorem State.endRecord_stays {s : State} {q : Nat} (h : (s.queue q).leaving = none ∨ State.recordLeft q s = false) : s.endRecord q = s := by
  rw [State.endRecord]
  extract_lets x
  split
  · rfl
  · next e => exact if_pos (by rcases h with h | h <;> simp_all)

/-- The counters at the end of a record. -/
def State.recordCounted (s : State) (q : Nat) (expired trunc : Bool) : State :=
  let s := s.inc (QC q 0x4C)
  let s := if expired then s.inc (QC q 0x50) else s
  if trunc then s.inc (QC q 0x54) else s

theorem State.recordCounted_shows (s : State) (q : Nat) (expired trunc : Bool) :
    s.changes [.csr] (s.recordCounted q expired trunc) ∧ (s.recordCounted q expired trunc).reg (QC q 0x4C) = min (s.reg (QC q 0x4C) + 1) (2 ^ 32 - 1) := by
  rw [← s.reg_inc_same]
  cases expired <;> cases trunc
  · exact ⟨rfl, rfl⟩
  · exact ⟨rfl, State.reg_inc_ne _ _ _ (by simp)⟩
  · exact ⟨rfl, State.reg_inc_ne _ _ _ (by simp)⟩
  · exact ⟨rfl, (State.reg_inc_ne _ _ _ (by simp)).trans (State.reg_inc_ne _ _ _ (by simp))⟩

/-- A record of `s` is counted in `t`; its queue changes but for what rules it. -/
def State.recordEnds (q : Nat) (s t : State) : Prop :=
  s.ofQueue q t ∧ (t.queue q).ruled = (s.queue q).ruled ∧ t.reg (QC q 0x4C) = min (s.reg (QC q 0x4C) + 1) (2 ^ 32 - 1)

theorem State.recordEnds.next {q : Nat} {s t u : State} (h : s.recordEnds q t) (others : ∀ k, k ≠ q → u.queue k = t.queue k)
    (ruled : (u.queue q).ruled = (t.queue q).ruled) (frame : t.changes [.qs, .hl] u) : s.recordEnds q u :=
  ⟨h.1.trans ⟨others, (frame.mono (by decide))⟩, ruled.trans h.2.1, (State.reg_congr (frame.same .csr (by decide)) _).trans h.2.2⟩

theorem State.recordEnds.drain {q : Nat} {s t : State} (h : s.recordEnds q t) (n : Nat) : s.recordEnds q (t.drainWords q n) :=
  have ⟨body, others, frame⟩ := t.drainWords_shows q n
  h.next others ((Queue.ruled_of_body body).trans rfl) frame

theorem State.recordEnds.queueRecords {q : Nat} {s t : State} (h : s.recordEnds q t) : s.recordEnds q (t.queueRecords q) :=
  have ⟨_, _, queue, _, others, frame⟩ := t.queueRecords_shows q
  h.next others ((congrArg Queue.ruled queue).trans rfl) (frame.mono (by decide))

/-- The end of a record: it is counted, and what it frees is in its queue. -/
theorem State.endRecord_ends {s : State} {q : Nat} (some : (s.queue q).leaving ≠ none) (left : State.recordLeft q s = true) :
    s.recordEnds q (s.endRecord q) := by
  rw [State.endRecord]
  extract_lets _
  split
  · contradiction
  · next expired trunc _ =>
    rw [if_neg (by simpa using left)]
    extract_lets s1 s2
    have freed := State.ofQueue_setQueue q s { s.queue q with leaving := none, ro := (s.queue q).ro.drop 1 }
    have ruled : ((s.setQueue q { s.queue q with leaving := none, ro := (s.queue q).ro.drop 1 }).queue q).ruled = (s.queue q).ruled :=
      (congrArg Queue.ruled (s.queue_setQueue_same _ _)).trans rfl
    obtain ⟨frame, count⟩ := State.recordCounted_shows (s.setQueue q { s.queue q with leaving := none, ro := (s.queue q).ro.drop 1 }) q expired trunc
    have ends : s.recordEnds q s2 := ⟨freed.trans (State.ofQueue_csr q frame), (congrArg Queue.ruled (State.queue_congr (frame.same .qs (by decide)) q)).trans ruled, count⟩
    clear_value s2
    split
    · exact ends.drain _
    · exact (ends.drain _).queueRecords
    · exact ends

/-- A step of the records: the queue's own, and what rules it stays. -/
theorem State.endRecord_leaves (s : State) (q : Nat) : s.ofQueue q (s.endRecord q) ∧ ((s.endRecord q).queue q).ruled = (s.queue q).ruled := by
  by_cases stays : (s.queue q).leaving = none ∨ State.recordLeft q s = false
  · rw [State.endRecord_stays stays]
    exact ⟨s.ofQueue_refl q, rfl⟩
  · obtain ⟨some, left⟩ := not_or.1 stays
    obtain ⟨own, ruled, -⟩ := State.endRecord_ends some (by simpa using left)
    exact ⟨own, ruled⟩

/-- History restarts in a pipeline only (R186). -/
theorem State.restartHistory_other {s : State} {q : Nat} (h : s.qMode q ≠ 3) : s.restartHistory q = s := if_pos h

theorem State.restartHistory_pipe {s : State} {q : Nat} (h : s.qMode q = 3) :
    ∃ idx idxErr, (s.restartHistory q).queue q = { s.queue q with
      curt := subFrame s.frameNo (dFofs (s.desc q)), oldest := subFrame s.frameNo (dFofs (s.desc q)), occ := 0, overfull := [], idx, idxErr } ∧
      (s.restartHistory q).bit (QC q 0x20) 18 = true := by
  rw [State.restartHistory, if_neg (by simp [h])]
  exact ⟨_, _, s.queue_setQueue_same _ _, State.bit_setBit_same _ _ _ (by decide)⟩

theorem State.restartHistory_leaves (s : State) (q : Nat) :
    (∀ k, k ≠ q → (s.restartHistory q).queue k = s.queue k) ∧ s.changes [.qs, .csr] (s.restartHistory q) ∧
    ∀ a, a ≠ QC q 0x20 → (s.restartHistory q).reg a = s.reg a := by
  rw [State.restartHistory]
  split
  · exact ⟨fun _ _ => rfl, s.changes_refl _, fun _ _ => rfl⟩
  · exact ⟨fun _ h => s.queue_setQueue_ne _ _ _ h, rfl, fun a h => State.reg_setBit_ne _ _ _ _ _ h⟩

/-- An emptied queue: what rules it, its place on the wheel and its open episode. -/
def Queue.emptied (x : Queue) : Queue :=
  { desc := x.desc, stDesc := x.stDesc, seq := x.seq, stopped := x.stopped, half := if dDouble x.desc.toNat then x.half else 0,
    lutPend := x.lutPend, wheel := x.wheel, ovf := x.ovf, ovfCount := x.ovfCount, accWait := x.accWait }

/-- CLEAR (R174): a record that has been sent is counted, then the queue is emptied and a pipeline's history restarts. -/
theorem State.clearQueue_eq (s : State) (q : Nat) : s.clearQueue q =
    ((({ s.endRecord q with net := (s.endRecord q).net.filter (fun p => p.own ≠ q || p.left ≠ 0) }).setQueue q
      ((s.endRecord q).queue q).emptied).restartHistory q).updThrottle q := rfl

/-- `y` is `x` emptied. -/
def Queue.empties (x y : Queue) : Prop :=
  (y.occ = 0 ∧ y.wbuf = [] ∧ y.pre = [] ∧ y.ro = [] ∧ y.closed = [] ∧ y.openRec = none ∧ y.adds = [] ∧ y.leaving = none) ∧
  y.desc = x.desc ∧ y.half = (if dDouble x.desc.toNat then x.half else 0) ∧ y.stopped = x.stopped

theorem Queue.empties_body {x y : Queue} (h : x.empties y.body) : x.empties y := h

theorem Queue.empties_emptied (x : Queue) : x.empties x.emptied := ⟨⟨rfl, rfl, rfl, rfl, rfl, rfl, rfl, rfl⟩, rfl, rfl, rfl⟩

theorem Queue.empties_ruled {x y z : Queue} (h : y.empties z) (ruled : y.ruled = x.ruled) : x.empties z := by
  obtain ⟨desc, half, stopped⟩ : y.desc = x.desc ∧ y.half = x.half ∧ y.stopped = x.stopped := by simpa [Queue.ruled] using ruled
  obtain ⟨bare, d, hf, st⟩ := h
  exact ⟨bare, d.trans desc, by rw [hf, desc, half], st.trans stopped⟩

theorem State.restartHistory_empties {s : State} {q : Nat} {x : Queue} (h : x.empties (s.queue q)) : x.empties ((s.restartHistory q).queue q) := by
  by_cases pipe : s.qMode q = 3
  · obtain ⟨_, _, queue, -⟩ := State.restartHistory_pipe pipe
    obtain ⟨⟨-, wbuf, pre, ro, closed, openRec, adds, leaving⟩, ruled⟩ := h
    rw [queue]
    exact ⟨⟨rfl, wbuf, pre, ro, closed, openRec, adds, leaving⟩, ruled⟩
  · rwa [State.restartHistory_other pipe]

theorem State.desc_congr {s t : State} {q : Nat} (h : (t.queue q).desc = (s.queue q).desc) : t.desc q = s.desc q := congrArg BitVec.toNat h

theorem State.frameNo_congr {s t : State} (h : t.tick = s.tick) : t.frameNo = s.frameNo := by rw [State.frameNo, State.frameNo, h]

/-- CLEAR empties the queue, and takes the packets that have not begun to enter the network. -/
theorem State.clearQueue_shows (s : State) (q : Nat) :
    let t := s.clearQueue q
    (∀ k, k ≠ q → t.queue k = s.queue k) ∧ (s.queue q).empties (t.queue q) ∧ t.net = s.net.filter (fun p => p.own ≠ q || p.left ≠ 0) ∧
    (s.qMode q = 3 → (t.queue q).curt = subFrame s.frameNo (dFofs (s.desc q)) ∧ (t.queue q).oldest = (t.queue q).curt ∧
      t.bit (QC q 0x20) 18 = true) ∧ s.changes [.qs, .csr, .hl, .net] t ∧ (s.endRecord q).changes [.qs, .csr, .net] t ∧
    ∀ a, a ≠ QC q 0x20 → t.reg a = (s.endRecord q).reg a := by
  obtain ⟨⟨own, frame⟩, ruled⟩ := s.endRecord_leaves q
  rw [State.clearQueue_eq]
  generalize s.endRecord q = e at *
  have emptied : ({ e with net := e.net.filter (fun p => p.own ≠ q || p.left ≠ 0) }.setQueue q (e.queue q).emptied).queue q = _ :=
    State.queue_setQueue_same _ _ _
  have others : ∀ k, k ≠ q → ({ e with net := e.net.filter (fun p => p.own ≠ q || p.left ≠ 0) }.setQueue q (e.queue q).emptied).queue k = e.queue k :=
    fun _ h => State.queue_setQueue_ne _ _ _ _ h
  have cleared : e.changes [.qs, .csr, .net] ({ e with net := e.net.filter (fun p => p.own ≠ q || p.left ≠ 0) }.setQueue q (e.queue q).emptied) := rfl
  have reg (a : Nat) : ({ e with net := e.net.filter (fun p => p.own ≠ q || p.left ≠ 0) }.setQueue q (e.queue q).emptied).reg a = e.reg a := rfl
  have net : ({ e with net := e.net.filter (fun p => p.own ≠ q || p.left ≠ 0) }.setQueue q (e.queue q).emptied).net =
    s.net.filter (fun p => p.own ≠ q || p.left ≠ 0) := congrArg (List.filter _) (frame.same .net (by decide))
  have frameNo : ({ e with net := e.net.filter (fun p => p.own ≠ q || p.left ≠ 0) }.setQueue q (e.queue q).emptied).frameNo = s.frameNo :=
    State.frameNo_congr (t := e) (frame.same .tick (by decide))
  generalize ({ e with net := e.net.filter (fun p => p.own ≠ q || p.left ≠ 0) }.setQueue q (e.queue q).emptied) = w at *
  have gone : (s.queue q).empties (w.queue q) := emptied ▸ Queue.empties_ruled (Queue.empties_emptied _) ruled
  have desc : w.desc q = s.desc q := State.desc_congr gone.2.1
  obtain ⟨othersR, frameR, regR⟩ := w.restartHistory_leaves q
  have goneR := State.restartHistory_empties gone
  obtain ⟨body, -, othersT, frameT⟩ := (w.restartHistory q).updThrottle_shows q
  have same : e.changes [.qs, .csr, .net] ((w.restartHistory q).updThrottle q) := (cleared.trans (frameR.mono (by decide))).trans (frameT.mono (by decide))
  refine ⟨fun k h => (othersT k h).trans ((othersR k h).trans ((others k h).trans (own k h))), ?_, ?_, fun pipe => ?_,
    (frame.mono (by decide)).trans (same.mono (by decide)), same, fun a h => ?_⟩
  · exact Queue.empties_body (body ▸ goneR)
  · exact (frameT.same .net (by decide) :).trans ((frameR.same .net (by decide) :).trans net)
  · obtain ⟨_, _, queue, restart⟩ := State.restartHistory_pipe (s := w) (q := q) (by rw [State.qMode, desc]; exact pipe)
    rw [queue, frameNo, desc] at body
    exact ⟨congrArg Queue.curt body, (congrArg Queue.oldest body).trans (congrArg Queue.curt body).symm,
      (State.bit_congr (State.reg_congr (frameT.same .csr (by decide)) _) _).trans restart⟩
  · exact (State.reg_congr (frameT.same .csr (by decide)) a).trans ((regR a h).trans (reg a))

/-! ## Headland's access (R176, Table MEM-14) -/

theorem State.accBusy_congr {s t : State} {q : Nat} (h : t.reg (QC q 0x90) = s.reg (QC q 0x90)) : t.accBusy q = s.accBusy q :=
  State.bit_congr h 29

/-- A write of QC_ACC_CTRL: OFFSET and WRITE. -/
def State.accFields (s : State) (q o : Nat) (w : Bool) : State := (s.setFld (QC q 0x90) 0 19 o).setBit (QC q 0x90) 24 w

theorem State.accFields_shows (s : State) (q o : Nat) (w : Bool) :
    let t := s.accFields q o w
    t.fld (QC q 0x90) 0 19 = o % 2 ^ 19 ∧ t.accWrite q = w ∧ t.accBusy q = s.accBusy q ∧
    t.fld (QC q 0x90) 25 7 = s.fld (QC q 0x90) 25 7 ∧ (∀ a, a ≠ QC q 0x90 → t.reg a = s.reg a) ∧ s.changes [.csr] t := by
  refine ⟨?_, State.bit_setBit_same _ _ _ (by decide), ?_, ?_, fun a h => ?_, rfl⟩
  · rw [State.accFields, State.fld_setBit_other _ _ _ _ (by decide) (by decide), State.fld_setFld_same _ _ _ (by decide)]
  · rw [State.accFields, State.accBusy, State.bit_setBit_other _ _ _ _ (by decide) (by decide), State.bit_setFld_other _ _ _ _ _ (by decide) (by decide)]
    rfl
  · rw [State.accFields, State.fld_setBit_other _ _ _ _ (by decide) (by decide), State.fld_setFld_other _ _ _ _ _ (by decide) (by decide)]
  · exact (State.reg_setBit_ne _ _ _ _ _ h).trans (State.reg_setFld_ne _ _ _ _ _ _ h)

/-- An access that reaches no word completes with its error. -/
theorem State.serveAccess_out {s : State} {q : Nat} (h : s.qMode q = 0 ∨ s.wq q ≤ s.fld (QC q 0x90) 0 19) :
    (s.serveAccess q).accBusy q = false ∧ (s.serveAccess q).bit (QC q 0x90) 25 = true ∧ s.changes [.csr] (s.serveAccess q) := by
  have fields : ((s.setBit (QC q 0x90) 29 false).setBit (QC q 0x90) 25 true).accBusy q = false ∧
      ((s.setBit (QC q 0x90) 29 false).setBit (QC q 0x90) 25 true).bit (QC q 0x90) 25 = true := by
    refine ⟨?_, State.bit_setBit_same _ _ _ (by decide)⟩
    rw [State.accBusy, State.bit_setBit_other _ _ _ _ (by decide) (by decide), State.bit_setBit_same _ _ _ (by decide)]
  rw [State.serveAccess]
  extract_lets u _ _
  have reach : (s.setBit (QC q 0x90) 29 false).qMode q = 0 ∨ (s.setBit (QC q 0x90) 29 false).wq q ≤ s.fld (QC q 0x90) 0 19 := h
  rw [if_pos reach]
  change u.accBusy q = false ∧ u.bit (QC q 0x90) 25 = true at fields
  have frame : s.changes [.csr] u := rfl
  clear_value u
  obtain ⟨busy, error⟩ := fields
  split
  · exact ⟨busy, error, frame⟩
  · refine ⟨?_, ?_, frame.trans rfl⟩
    · rw [State.accBusy, State.bit_setBit_other _ _ _ _ (by decide) (by decide), State.bit_setBit_other _ _ _ _ (by decide) (by decide)]
      exact (State.bit_congr ((State.reg_setReg_ne _ _ _ _ (by simp)).trans (State.reg_setReg_ne _ _ _ _ (by simp))) _).trans busy
    · rw [State.bit_setBit_other _ _ _ _ (by decide) (by decide), State.bit_setBit_other _ _ _ _ (by decide) (by decide)]
      exact (State.bit_congr ((State.reg_setReg_ne _ _ _ _ (by simp)).trans (State.reg_setReg_ne _ _ _ _ (by simp))) _).trans error

/-- A served access stands down, without error, and the next one waits. -/
def State.accServed (s : State) (q : Nat) : State :=
  ((s.setBit (QC q 0x90) 29 false).setBit (QC q 0x90) 25 false).setQueue q { s.queue q with accWait := 64 }

theorem State.accServed_shows (s : State) (q : Nat) :
    let t := s.accServed q
    t.accBusy q = false ∧ t.bit (QC q 0x90) 25 = false ∧ (∀ k, k ≠ q → t.queue k = s.queue k) ∧
    t.queue q = { s.queue q with accWait := 64 } ∧ s.changes [.csr, .qs] t := by
  refine ⟨?_, State.bit_setBit_same _ _ _ (by decide), fun k h => State.queue_setQueue_ne _ _ _ _ h, State.queue_setQueue_same _ _ _, rfl⟩
  change State.bit ((s.setBit (QC q 0x90) 29 false).setBit (QC q 0x90) 25 false) (QC q 0x90) 29 = false
  rw [State.bit_setBit_other _ _ _ _ (by decide) (by decide), State.bit_setBit_same _ _ _ (by decide)]

theorem State.accServed_reg (s : State) (q : Nat) {a : Nat} (h : a ≠ QC q 0x90) : (s.accServed q).reg a = s.reg a :=
  (State.reg_setBit_ne _ _ _ _ _ h).trans (State.reg_setBit_ne _ _ _ _ _ h)

@[simp] theorem State.accServed_write (s : State) (q : Nat) : (s.accServed q).accWrite q = s.accWrite q :=
  (State.bit_setBit_other _ _ _ _ (by decide) (by decide)).trans (State.bit_setBit_other _ _ _ _ (by decide) (by decide))

@[simp] theorem State.accServed_qBlock (s : State) (q o : Nat) : (s.accServed q).qBlock q o = s.qBlock q o := by
  have desc : (s.accServed q).desc q = s.desc q := State.desc_congr ((congrArg Queue.desc (s.accServed_shows q).2.2.2.1).trans rfl)
  rw [State.qBlock, State.qBlock, desc]

theorem State.serveAccess_writes {s : State} {q : Nat} (mode : s.qMode q ≠ 0) (small : s.fld (QC q 0x90) 0 19 < s.wq q)
    (w : s.accWrite q = true) : s.serveAccess q = (s.accServed q).putWord (s.qBlock q (s.fld (QC q 0x90) 0 19))
      (s.fld (QC q 0x90) 0 19 % 4096) (s.reg (QC q 0x94) + s.reg (QC q 0x98) * 2 ^ 32) := by
  have reach : ¬(s.qMode q = 0 ∨ s.wq q ≤ s.fld (QC q 0x90) 0 19) := by omega
  refine (if_neg reach).trans ((if_pos ((s.accServed_write q).trans w)).trans ?_)
  change (s.accServed q).queueWrite q _ ((s.accServed q).reg (QC q 0x94) + (s.accServed q).reg (QC q 0x98) * 2 ^ 32) = _
  rw [State.queueWrite, State.accServed_qBlock, State.accServed_reg _ _ (by simp), State.accServed_reg _ _ (by simp)]

/-- What an access that reads leaves in its registers. -/
def accAnswer (q : Nat) (r : (Nat × Bool × Bool) × State) : State :=
  (((r.2.setReg (QC q 0x94) r.1.1).setReg (QC q 0x98) (r.1.1 / 2 ^ 32)).setBit (QC q 0x90) 30 r.1.2.1).setBit (QC q 0x90) 31 r.1.2.2

theorem State.rawWord_congr {s t : State} (h : t.mem = s.mem) (b w : Nat) : t.rawWord b w = s.rawWord b w := by
  simp only [State.rawWord, State.byte, h]

theorem State.flipMask_congr {s t : State} (h : t.flips = s.flips) (b w : Nat) : t.flipMask b w = s.flipMask b w := by
  rw [State.flipMask, State.flipMask, h]

theorem State.queueRead_clean {s : State} {q o : Nat} (clean : s.flipMask (s.qBlock q o) (o % 4096) = 0) (by_ : Nat) :
    s.queueRead q o by_ = ((s.rawWord (s.qBlock q o) (o % 4096), false, false), s) := by
  rw [State.queueRead, State.readWord_clean clean]
  rfl

theorem State.serveAccess_reads {s : State} {q : Nat} (mode : s.qMode q ≠ 0) (small : s.fld (QC q 0x90) 0 19 < s.wq q)
    (w : s.accWrite q = false) (clean : s.flipMask (s.qBlock q (s.fld (QC q 0x90) 0 19)) (s.fld (QC q 0x90) 0 19 % 4096) = 0) :
    s.serveAccess q = accAnswer q ((s.rawWord (s.qBlock q (s.fld (QC q 0x90) 0 19)) (s.fld (QC q 0x90) 0 19 % 4096), false, false), s.accServed q) := by
  have reach : ¬(s.qMode q = 0 ∨ s.wq q ≤ s.fld (QC q 0x90) 0 19) := by omega
  have stays : (s.accServed q).accWrite q ≠ true := by rw [State.accServed_write, w]; decide
  have read : s.serveAccess q = accAnswer q ((s.accServed q).queueRead q (s.fld (QC q 0x90) 0 19) 1) := by
    rw [State.serveAccess]
    extract_lets _ _ u
    have served : u = s.accServed q := rfl
    rw [served]
    clear_value u
    clear served
    rw [if_neg (show ¬((s.setBit (QC q 0x90) 29 false).qMode q = 0 ∨ (s.setBit (QC q 0x90) 29 false).wq q ≤ s.fld (QC q 0x90) 0 19) from reach), if_neg stays]
    generalize (s.accServed q).queueRead q (s.fld (QC q 0x90) 0 19) 1 = r
    rfl
  generalize s.fld (QC q 0x90) 0 19 = o at *
  obtain ⟨-, -, -, -, frame⟩ := s.accServed_shows q
  rw [← State.accServed_qBlock, ← State.flipMask_congr (frame.same .flips (by decide))] at clean
  rw [read, State.queueRead_clean clean, State.accServed_qBlock, State.rawWord_congr (frame.same .mem (by decide))]

theorem State.accAnswer_shows (s : State) (q v : Nat) (h : v < 2 ^ 64) :
    let t := accAnswer q ((v, false, false), s)
    t.accBusy q = s.accBusy q ∧ t.reg (QC q 0x94) = v % 2 ^ 32 ∧ t.reg (QC q 0x98) = v / 2 ^ 32 ∧ s.changes [.csr] t := by
  refine ⟨?_, ?_, ?_, rfl⟩
  · refine (State.bit_setBit_other _ _ _ _ (by decide) (by decide)).trans ((State.bit_setBit_other _ _ _ _ (by decide) (by decide)).trans
      (State.bit_congr ?_ _))
    exact (State.reg_setReg_ne _ _ _ _ (by simp)).trans (State.reg_setReg_ne _ _ _ _ (by simp))
  · refine (State.reg_setBit_ne _ _ _ _ _ (by simp)).trans ((State.reg_setBit_ne _ _ _ _ _ (by simp)).trans
      ((State.reg_setReg_ne _ _ _ _ (by simp)).trans (State.reg_setReg_same _ _ _)))
  · refine (State.reg_setBit_ne _ _ _ _ _ (by simp)).trans ((State.reg_setBit_ne _ _ _ _ _ (by simp)).trans
      ((State.reg_setReg_same _ _ _).trans (Nat.mod_eq_of_lt (show v / 2 ^ 32 < 2 ^ 32 by omega))))

theorem State.rawWord_lt (s : State) (b w : Nat) : s.rawWord b w < 2 ^ 64 := by
  have := natLE_lt ((List.range 8).map fun j => s.byte (8 * wordKey b w + j))
  simpa [State.rawWord] using this

/-- GO starts an access that the wheel will serve, completes one that reaches no word, and leaves a pending one (R176). -/
theorem State.startAccess_shows (s : State) (q : Nat) (v : Word) :
    let o := v.toNat % 2 ^ 19
    let u := s.accFields q o (v.toNat.testBit 24)
    s.startAccess q (v.toNat ||| 2 ^ 28) = if s.accBusy q then u else if s.qMode q = 0 ∨ s.wq q ≤ o then (u.setBit (QC q 0x90) 29 true).serveAccess q
      else u.setBit (QC q 0x90) 29 true := by
  extract_lets o u
  have offset : bits (v.toNat ||| 2 ^ 28) 0 19 = o := by
    refine Nat.eq_of_testBit_eq fun i => ?_
    rw [testBit_bits, Nat.zero_add, Nat.testBit_or, Nat.testBit_two_pow, Nat.testBit_mod_two_pow]
    by_cases h : i < 19
    · simp [h, show ¬28 = i by omega]
    · simp [h]
  have write : (v.toNat ||| 2 ^ 28).testBit 24 = v.toNat.testBit 24 := by
    rw [Nat.testBit_or, Nat.testBit_two_pow]; simp
  have go : (v.toNat ||| 2 ^ 28).testBit 28 = true := by rw [Nat.testBit_or, Nat.testBit_two_pow]; simp
  have busy : u.accBusy q = s.accBusy q := (s.accFields_shows q o (v.toNat.testBit 24)).2.2.1
  rw [State.startAccess, offset, write, go, ← State.accFields]
  simp only [Bool.not_true, Bool.false_or]
  rw [show (s.accFields q o (v.toNat.testBit 24)).accBusy q = s.accBusy q from busy]
  rfl

/-- One that reaches no word completes at once. -/
theorem State.startAccess_out {s : State} {q : Nat} {v : Word} (free : s.accBusy q = false) (out : s.qMode q = 0 ∨ s.wq q ≤ v.toNat % 2 ^ 19) :
    let t := s.startAccess q (v.toNat ||| 2 ^ 28)
    t.accBusy q = false ∧ t.bit (QC q 0x90) 25 = true ∧ s.changes [.csr] t := by
  obtain ⟨offset, -, -, -, -, frame⟩ := s.accFields_shows q (v.toNat % 2 ^ 19) (v.toNat.testBit 24)
  have start := s.startAccess_shows q v
  simp only [free, Bool.false_eq_true, if_false, out, if_true] at start
  rw [start]
  have cut : v.toNat % 2 ^ 19 % 2 ^ 19 = v.toNat % 2 ^ 19 := Nat.mod_mod _ _
  generalize v.toNat % 2 ^ 19 = o at *
  generalize s.accFields q o (v.toNat.testBit 24) = u at *
  have busied : s.changes [.csr] (u.setBit (QC q 0x90) 29 true) := frame.trans rfl
  have field : (u.setBit (QC q 0x90) 29 true).fld (QC q 0x90) 0 19 = o := by
    rw [State.fld_setBit_other _ _ _ _ (by decide) (by decide), offset, cut]
  generalize u.setBit (QC q 0x90) 29 true = t at *
  have desc : t.desc q = s.desc q := State.desc_congr (congrArg Queue.desc (State.queue_congr (busied.same .qs (by decide)) q))
  have still : t.qMode q = 0 ∨ t.wq q ≤ t.fld (QC q 0x90) 0 19 := by
    rw [field, State.qMode, State.wq, desc]
    exact out
  obtain ⟨stands, error, done⟩ := State.serveAccess_out still
  exact ⟨stands, error, busied.trans done⟩

theorem State.reg_clrQueueCnt (s : State) (q a : Nat) :
    (s.clrQueueCnt q).reg a = if a ∈ (List.range 9).map (fun i => QC q (0x40 + 4 * i)) then 0 else s.reg a := by
  rw [← State.reg_zeroRegs]
  rfl

theorem State.clrQueueCnt_leaves (s : State) (q : Nat) : s.changes [.csr] (s.clrQueueCnt q) :=
  State.changes_foldl (l := [.csr]) (f := fun t a => t.setReg a 0) (fun _ _ => rfl) _ s

/-- Settles O39, command by command. -/
theorem queueCommands : Obligations.QueueCommands := by
  intro s q
  refine ⟨fun off v c hc => ?_, fun on => ⟨?_, ?_, ?_, ?_, fun v free mode small => ?_, fun v free out => ?_, fun v busy => ?_,
    fun busy o ho => ⟨fun mode small write => ?_, fun mode small read clean => ?_, fun out => ?_⟩, fun free => ?_⟩⟩
  · simp only [List.mem_cons, List.not_mem_nil, or_false] at hc
    rcases hc with rfl | rfl | rfl | rfl | rfl | rfl <;> exact completes_intro rfl (State.powered_off off _)
  · obtain ⟨others, ⟨⟨occ, wbuf, pre, ro, closed, openRec, adds, leaving⟩, desc, half, stopped⟩, net, pipe, frame, late, regs⟩ :=
      s.clearQueue_shows q
    refine completes_by rfl (State.powered_on on _) ⟨others, occ, wbuf, pre, ro, closed, openRec, adds, leaving, net, desc, half, stopped,
      pipe, frame.same .mem (by decide), fun stays => ?_, fun some left => ?_⟩
    · rw [State.endRecord_stays stays] at late regs
      exact ⟨regs, late⟩
    · have ends := State.endRecord_ends (q := q) (Option.isSome_iff_ne_none.1 some) left
      exact (regs _ (by simp)).trans ends.2.2
  · exact completes_by rfl (State.powered_on on _) ⟨fun k h => s.queue_setQueue_ne _ _ _ h, s.queue_setQueue_same _ _, rfl⟩
  · refine completes_by rfl (State.powered_on on _) ⟨fun i hi => ?_, fun a h => ?_, s.clrQueueCnt_leaves q⟩
    · exact (s.reg_clrQueueCnt q _).trans (if_pos (List.mem_map.2 ⟨i, List.mem_range.2 hi, rfl⟩))
    · refine (s.reg_clrQueueCnt q _).trans (if_neg fun mem => ?_)
      obtain ⟨i, hi, e⟩ := List.mem_map.1 mem
      exact h i (List.mem_range.1 hi) e.symm
  · exact completes_by rfl (State.powered_on on _) ⟨fun k h => s.queue_setQueue_ne _ _ _ h, s.queue_setQueue_same _ _, rfl⟩
  · obtain ⟨offset, write, -, -, regs, frame⟩ := s.accFields_shows q (v.toNat % 2 ^ 19) (v.toNat.testBit 24)
    have start := s.startAccess_shows q v
    simp only [free, Bool.false_eq_true, if_false] at start
    rw [if_neg (by omega)] at start
    generalize s.accFields q (v.toNat % 2 ^ 19) (v.toNat.testBit 24) = u at *
    refine completes_by rfl ((State.powered_on on _).trans start) ⟨State.bit_setBit_same _ _ _ (by decide), ?_, ?_, fun a h => ?_,
      frame.trans rfl⟩
    · rw [State.fld_setBit_other _ _ _ _ (by decide) (by decide), offset, Nat.mod_mod]
    · exact (State.bit_setBit_other _ _ _ _ (by decide) (by decide)).trans write
    · exact (State.reg_setBit_ne _ _ _ _ _ h).trans (regs a h)
  · exact completes_by rfl ((State.powered_on on _).trans rfl) (State.startAccess_out free out)
  · obtain ⟨offset, write, stays, rest, regs, frame⟩ := s.accFields_shows q (v.toNat % 2 ^ 19) (v.toNat.testBit 24)
    have start := s.startAccess_shows q v
    simp only [busy, if_true] at start
    exact completes_by rfl ((State.powered_on on _).trans start) ⟨stays.trans busy, offset.trans (Nat.mod_mod _ _), write, rest, regs, frame⟩
  · subst ho
    obtain ⟨stands, error, others, queue, frame⟩ := s.accServed_shows q
    refine completes_by rfl ((State.powered_on on _).trans ((if_pos busy).trans (State.serveAccess_writes mode small write))) ?_
    generalize s.accServed q = u at *
    obtain ⟨-, put, out, stored⟩ := u.putWord_shows (s.qBlock q (s.fld (QC q 0x90) 0 19)) (s.fld (QC q 0x90) 0 19 % 4096)
      (s.reg (QC q 0x94) + s.reg (QC q 0x98) * 2 ^ 32)
    exact ⟨stands, error, others, queue, put, fun a h => (out a h).trans (congrArg (mget memDefault · a) (frame.same .mem (by decide)))⟩
  · subst ho
    obtain ⟨stands, -, others, queue, frame⟩ := s.accServed_shows q
    refine completes_by rfl ((State.powered_on on _).trans ((if_pos busy).trans (State.serveAccess_reads mode small read clean))) ?_
    obtain ⟨still, low, high, answered⟩ := (s.accServed q).accAnswer_shows q _ (s.rawWord_lt (s.qBlock q (s.fld (QC q 0x90) 0 19)) (s.fld (QC q 0x90) 0 19 % 4096))
    generalize accAnswer q _ = t at *
    have qs (k : Nat) : t.queue k = (s.accServed q).queue k := State.queue_congr (answered.same .qs (by decide)) k
    exact ⟨still.trans stands, fun k h => (qs k).trans (others k h), (qs q).trans queue, low, high, frame.trans (answered.mono (by decide))⟩
  · subst ho
    exact completes_by rfl ((State.powered_on on _).trans (if_pos busy)) (State.serveAccess_out out)
  · exact completes_by rfl ((State.powered_on on _).trans (if_neg (by simp [free]))) rfl

end Sys2Proof.Machine
end

section
/-! Edges of the clocks: what boundary scan keeps from them. -/
namespace Sys2Proof.Machine

/-! ## Clock edges under boundary scan -/

theorem ofBits_succ (n : Nat) (f : Nat → Bool) : ofBits (n + 1) f = 2 ^ n * (f n).toNat + ofBits n f := by
  rw [ofBits, List.range_succ, List.foldl_append]
  change (if f n then ofBits n f + 2 ^ n else ofBits n f) = _
  cases f n <;> simp [Nat.add_comm]

theorem ofBits_lt (n : Nat) (f : Nat → Bool) : ofBits n f < 2 ^ n := by
  induction n with
  | zero => simp [ofBits]
  | succ n ih =>
    rw [ofBits_succ, Nat.pow_succ]
    cases f n <;> simp <;> omega

@[simp] theorem testBit_ofBits (n : Nat) (f : Nat → Bool) (i : Nat) : (ofBits n f).testBit i = (decide (i < n) && f i) := by
  induction n with
  | zero => simp [ofBits]
  | succ n ih =>
    rw [ofBits_succ, Nat.testBit_two_pow_mul_add _ (ofBits_lt n f), ih]
    by_cases h : i < n
    · simp [h, Nat.lt_succ_of_lt h]
    · by_cases e : i = n
      · subst e
        cases f i <;> simp
      · have far : (f n).toNat.testBit (i - n) = false := Nat.testBit_lt_two_pow (Nat.lt_of_lt_of_le
          (show (f n).toNat < 2 from Bool.toNat_lt (f n)) (Nat.le_self_pow (by omega) 2))
        simp [h, far, show ¬i < n + 1 by omega]

/-- A control term without literals has the value of its polarity bit. -/
theorem State.eval_ct_bare {s : State} {r t j : Nat} (fired : Nat → Nat → Bool) (n : Nat) (run : (s.region r).swapCycle = false)
    (bare : s.ctWord (s.active r) r t j = 0) : s.eval fired (n + 1) (.ct r t j) = (s.opt (s.active r) r t 10 8).testBit j := by
  rw [State.eval]
  simp [run, bare]

/-- A source of set or reset that is 1 sets the flip-flop at any edge of its region (R79). -/
theorem State.capture_set {s : State} {r e : Nat} {clk : ClkSrc} {w : Nat} (hw : s.mcWord (s.active r) r (e / 16) (e % 16) = w)
    (used : mcEn w = true ∧ mcBypass w = false ∧ w.testBit 49 = false) (source : 8 ≤ bits w 45 4) (gate : (s.region r).srGate = true)
    (on : s.val (.ct r (e / 16) (bits w 45 4 - 8)) = true) : s.capture r e clk = some (w.testBit 50) := by
  obtain ⟨en, bypass, sync⟩ := used
  rw [State.capture]
  simp only [hw, en, bypass, sync, gate, on, decide_eq_true source]
  rfl

/-- A macrocell with its flip-flop in use, set by control term 0. -/
def setWord : Nat := 2 ^ 53 + 2 ^ 50 + 2 ^ 48

/-- Region 0 with its context 0 loaded and its set and reset sources on: macrocell 0 of tile 0 is set by control term 0, which is 1
by its polarity bit; boundary scan holds the pins. -/
def scannedSet : State :=
  { csr := [(RG 0 0, 0x10000)], rg := [(0, { srGate := true })], tap := { ir := .extest },
    fab := { tf := [(tfKey 0 0 0 3, (BitVec.ofNat 4096 setWord <<< 1536) + (1 <<< 3082))] } }

theorem scannedSet_word : scannedSet.mcWord (scannedSet.active 0) 0 (0 / 16) (0 % 16) = setWord := by decide +kernel

theorem scannedSet_term : scannedSet.val (.ct 0 (0 / 16) (bits setWord 45 4 - 8)) = true :=
  (State.eval_ct_bare _ _ rfl (by decide +kernel)).trans (by decide +kernel)

theorem scannedSet_capture (clk : ClkSrc) : scannedSet.capture 0 0 clk = some true :=
  State.capture_set scannedSet_word (by decide +kernel) (by decide +kernel) rfl scannedSet_term

/-- Refutes O35: where boundary scan has taken the pins, an edge of an input clocks nothing (R489), while a region that is clocked
still has next values other than those that it holds. -/
theorem not_clockEdges : ¬ Obligations.ClockEdges := by
  unfold Obligations.ClockEdges
  intro h
  obtain ⟨t, run, taken, -⟩ := (h scannedSet (.pin 0 0) []).1 (by simp)
  have idle : t = scannedSet := (Host.Outcome.next.inj (run.symm.trans rfl) : t = scannedSet.clockEdge (.pin 0 0) []).trans rfl
  subst idle
  have bank := ((taken 0 (by decide)).1 (by decide +kernel) rfl).1
  have low : scannedSet.bank 0 (scannedSet.active 0) = 0 := by decide +kernel
  have set : (scannedSet.captured 0 (.pin 0 0)).1.testBit 0 = true := by
    simp only [State.captured]
    rw [testBit_ofBits, scannedSet_capture, show mcShared (scannedSet.mcWord (scannedSet.active 0) 0 (0 / 16) (0 % 16)) = false by
      rw [scannedSet_word]; decide +kernel]
    rfl
  rw [← bank, low] at set
  exact absurd set (by decide)
end Sys2Proof.Machine
end

section
/-! The queue operations of the fabric memory ports. -/
namespace Sys2Proof.Machine

/-! ## Words that join a queue (R179) -/

theorem State.append_shows (s : State) (q v : Nat) (lane : Bool) :
    let t := s.append q v lane
    t.queue q = { s.queue q with wbuf := (s.queue q).wbuf ++ [.word (s.queue q).wr (BitVec.ofNat 64 v) lane], wr := ((s.queue q).wr + 1) % s.wq q, occ := (s.queue q).occ + 1 } ∧
    s.ofQueue q t ∧ t.hl = s.hl ∧ ∀ a, a ≠ QC q 0x40 → t.reg a = s.reg a :=
  ⟨s.queue_setQueue_same _ _, (s.ofQueue_setQueue q _).trans (State.ofQueue_csr q rfl), rfl, fun _ h => State.reg_inc_ne _ _ _ h⟩

/-- A throttled queue: its body stays. -/
theorem State.updThrottle_of {s u : State} {q : Nat} (own : s.ofQueue q u) : s.ofQueue q (u.updThrottle q) :=
  have ⟨_, _, others, frame⟩ := u.updThrottle_shows q
  own.trans ⟨others, frame.mono (by decide)⟩

/-! ## Discards and refusals (R194, Table MEM-7) -/

theorem State.episode_shows (s : State) (q : Nat) :
    let t := s.episode q
    (t.queue q).body = (s.queue q).body ∧ (t.queue q).ovf = true ∧ s.ofQueue q t ∧ ∀ a, a ≠ QC q 0x20 → t.reg a = s.reg a := by
  rw [State.episode]
  split
  · next on =>
    refine ⟨?_, ?_, s.ofQueue_setQueue q _, fun _ _ => rfl⟩
    · rw [State.queue_setQueue_same]; rfl
    · rw [State.queue_setQueue_same]; exact on
  · refine ⟨?_, ?_, (s.ofQueue_setQueue q _).trans (State.ofQueue_csr q rfl), fun a h => State.reg_setBit_ne _ _ _ _ _ h⟩
    · exact (congrArg Queue.body (s.queue_setQueue_same q _)).trans rfl
    · exact (congrArg Queue.ovf (s.queue_setQueue_same q _)).trans rfl

/-- A counted word of an episode. -/
theorem State.counted_shows (s : State) (q o : Nat) (ho : o ≠ 0x20) :
    let t := (s.inc (QC q o)).episode q
    (t.queue q).body = (s.queue q).body ∧ (t.queue q).ovf = true ∧ s.ofQueue q t ∧ t.reg (QC q o) = min (s.reg (QC q o) + 1) (2 ^ 32 - 1) := by
  obtain ⟨body, ovf, own, regs⟩ := (s.inc (QC q o)).episode_shows q
  exact ⟨body, ovf, (State.ofQueue_csr q (s := s) (t := s.inc (QC q o)) rfl).trans own, (regs _ (by simpa using ho)).trans (s.reg_inc_same _)⟩

theorem State.discard_shows (s : State) (q : Nat) :
    let t := s.discard q
    (t.queue q).body = (s.queue q).body ∧ (t.queue q).ovf = true ∧ s.ofQueue q t ∧ t.reg (QC q 0x44) = min (s.reg (QC q 0x44) + 1) (2 ^ 32 - 1) :=
  s.counted_shows q 0x44 (by decide)

theorem State.reject_shows (s : State) (q : Nat) :
    let t := s.reject q
    (t.queue q).body = (s.queue q).body ∧ (t.queue q).ovf = true ∧ s.ofQueue q t ∧ t.reg (QC q 0x48) = min (s.reg (QC q 0x48) + 1) (2 ^ 32 - 1) :=
  s.counted_shows q 0x48 (by decide)

/-- A change of the queue and a discard. -/
theorem State.setDiscard_shows (s : State) (q : Nat) (x : Queue) :
    let t := (s.setQueue q x).discard q
    (t.queue q).body = x.body ∧ (t.queue q).ovf = true ∧ s.ofQueue q t ∧ t.reg (QC q 0x44) = min (s.reg (QC q 0x44) + 1) (2 ^ 32 - 1) := by
  obtain ⟨body, ovf, own, reg⟩ := (s.setQueue q x).discard_shows q
  exact ⟨body.trans (congrArg Queue.body (s.queue_setQueue_same _ _)), ovf, (s.ofQueue_setQueue q x).trans own, reg⟩

/-! ## A FIFO and a pipeline (R179, R183, R193) -/

section
variable {s : State} {q : Nat} {lane : Bool}

theorem State.fifoWord_stopped (v : Nat) (h : (s.queue q).stopped = true) : s.fifoWord q v lane = s.discard q := if_pos h

theorem State.fifoWord_joins (v : Nat) (h : (s.queue q).stopped = false) (room : (s.queue q).bufFull lane = false)
    (less : (s.queue q).occ < s.wq q) : s.fifoWord q v lane = (s.append q v lane).updThrottle q := by
  simp [State.fifoWord, h, room, less]

theorem State.fifoWord_full (v : Nat) (h : (s.queue q).stopped = false) (room : (s.queue q).bufFull lane = false)
    (full : (s.queue q).occ = s.wq q) :
    (dOvf (s.desc q) = 0 → s.fifoWord q v lane = s.discard q) ∧
    (dOvf (s.desc q) = 1 → s.fifoWord q v lane = ((s.dropHead q).append q v lane).updThrottle q) ∧
    (dOvf (s.desc q) = 2 → s.fifoWord q v lane = (s.setQueue q { s.queue q with stopped := true }).discard q) := by
  refine ⟨fun o => ?_, fun o => ?_, fun o => ?_⟩ <;> simp [State.fifoWord, h, room, full, o]

/-- A word that joins a pipeline with room. -/
theorem State.pipeWord_joins (v : Nat) (room : (s.queue q).bufFull lane = false) (less : (s.queue q).occ < s.wq q) :
    s.pipeWord q v lane = s.append q v lane := by
  have closed : State.expireEmpty q 16384 s = s := by
    rw [State.expireEmpty]
    exact if_neg fun h => by omega
  have kept : State.expireFull q 16384 s = s := by
    rw [State.expireFull]
    exact if_neg (by omega)
  rw [State.pipeWord, if_neg (by simp [room])]
  simp only [closed, kept]
  exact if_neg fun h => by omega

end

/-! ## Records of a derandomizer (R181) -/

/-- A word that joins record `r`. -/
def State.recordWord (s : State) (q v : Nat) (last : Bool) (r : Rec) : State :=
  let s := s.append q v false
  let r := { r with len := r.len + 1 }
  (if last then s.closeRec q r
   else if dRecMax (s.desc q) ≤ r.len then s.closeRec q { r with trunc := true }
   else s.setQueue q { s.queue q with openRec := some r }).updThrottle q

section
variable {s : State} {q : Nat}

theorem State.derandWord_skips (v : Nat) (last : Bool) (h : (s.queue q).skipping = true) :
    s.derandWord q v last = ((s.queue q).refusing, s.setQueue q { s.queue q with skipping := !last }) := if_pos h

theorem State.derandWord_extends (v : Nat) (last : Bool) (skip : (s.queue q).skipping = false) (room : (s.queue q).bufFull false = false)
    {r : Rec} (h : (s.queue q).openRec = some r) : s.derandWord q v last = (false, s.recordWord q v last r) := by
  simp only [State.derandWord, skip, room, h]
  rfl

theorem State.derandWord_refuses (v : Nat) (last : Bool) (skip : (s.queue q).skipping = false) (room : (s.queue q).bufFull false = false)
    (h : (s.queue q).openRec = none) (full : (s.queue q).stopped = true ∨ s.wq q < (s.queue q).occ + dRecMax (s.desc q) + 1) :
    s.derandWord q v last = (true, (s.setQueue q { s.queue q with
      skipping := !last, refusing := true, stopped := (s.queue q).stopped || dOvf (s.desc q) = 2 }).discard q) := by
  simp only [State.derandWord, skip, room, h]
  refine (if_neg Bool.false_ne_true).trans ((if_neg Bool.false_ne_true).trans (if_pos ?_))
  rcases full with h | h
  · rw [h, Bool.true_or]
  · rw [decide_eq_true h, Bool.or_true]

theorem State.derandWord_opens (v : Nat) (last : Bool) (skip : (s.queue q).skipping = false) (room : (s.queue q).bufFull false = false)
    (h : (s.queue q).openRec = none) (free : (s.queue q).stopped = false ∧ (s.queue q).occ + dRecMax (s.desc q) + 1 ≤ s.wq q) :
    s.derandWord q v last = (false, (s.setQueue q { s.queue q with wr := ((s.queue q).wr + 1) % s.wq q, occ := (s.queue q).occ + 1 }).recordWord q v last
      ⟨(s.queue q).wr, 0, false, s.frameNo, 0⟩) := by
  simp only [State.derandWord, skip, room, h]
  refine (if_neg Bool.false_ne_true).trans ((if_neg Bool.false_ne_true).trans (if_neg ?_))
  rw [free.1, Bool.false_or, decide_eq_true_eq]
  exact Nat.not_lt.2 free.2

end

/-- A word joins its record: the last one closes it, and so does the one that makes it full. -/
theorem State.recordWord_shows (s : State) (q v : Nat) (last : Bool) (r : Rec) :
    let t := s.recordWord q v last r
    s.ofQueue q t ∧ (t.queue q).occ = (s.queue q).occ + 1 ∧
    (last = true → (t.queue q).openRec = none ∧ (t.queue q).skipping = r.trunc) ∧
    (last = false → r.len + 1 < dRecMax (s.desc q) → (t.queue q).openRec = some { r with len := r.len + 1 }) := by
  obtain ⟨queue, own, -, -⟩ := s.append_shows q v false
  have desc : (s.append q v false).desc q = s.desc q := State.desc_congr ((congrArg Queue.desc queue).trans rfl)
  rw [State.recordWord]
  generalize s.append q v false = u at *
  dsimp only
  have set (x : Queue) (hx : x.occ = (u.queue q).occ) : let t := (u.setQueue q x).updThrottle q
      s.ofQueue q t ∧ (t.queue q).occ = (s.queue q).occ + 1 ∧ (t.queue q).body = x.body := by
    obtain ⟨body, -, -, -⟩ := (u.setQueue q x).updThrottle_shows q
    rw [State.queue_setQueue_same] at body
    refine ⟨State.updThrottle_of (own.trans (u.ofQueue_setQueue q x)), ?_, body⟩
    exact (congrArg Queue.occ body).trans (hx.trans ((congrArg Queue.occ queue).trans rfl))
  cases last
  · by_cases full : dRecMax (u.desc q) ≤ r.len + 1
    · obtain ⟨left, occ, -⟩ := set { u.queue q with openRec := none, closed := (u.queue q).closed ++ [{ r with len := r.len + 1, trunc := true }], skipping := true, refusing := false, wbuf := (u.queue q).wbuf ++ [.header r.off (BitVec.ofNat 64 ({ r with len := r.len + 1, trunc := true } : Rec).header)] } rfl
      simp only [full, if_true]
      exact ⟨left, occ, by simp, fun _ less => by rw [desc] at full; omega⟩
    · obtain ⟨left, occ, body⟩ := set { u.queue q with openRec := some { r with len := r.len + 1 } } rfl
      simp only [full, if_false]
      exact ⟨left, occ, by simp, fun _ _ => congrArg Queue.openRec body⟩
  · obtain ⟨left, occ, body⟩ := set { u.queue q with openRec := none, closed := (u.queue q).closed ++ [{ r with len := r.len + 1 }], skipping := r.trunc, refusing := false, wbuf := (u.queue q).wbuf ++ [.header r.off (BitVec.ofNat 64 ({ r with len := r.len + 1 } : Rec).header)] } rfl
    exact ⟨left, occ, fun _ => ⟨congrArg Queue.openRec body, congrArg Queue.skipping body⟩, by simp⟩

/-! ## What a port's queue operation gives -/

/-- Port `k` shows `y`; its queue, its registers and reports may change, no other port, queue or byte. -/
def State.queueGives (s t : State) (k : Nat) (y : PortRes) : Prop :=
  t.port k = { s.port k with res := y, fresh := false } ∧ (∀ j, j ≠ k → t.port j = s.port j) ∧ (∀ j, j ≠ k → t.queue j = s.queue j) ∧
  t.mem = s.mem ∧ s.changes [.fab, .qs, .csr, .ueSeen, .hl, .free] t

theorem completes_queue {c : Instr} {s u : State} {k op : Nat} {y : PortRes} {f : Port → State → PortRes × State} {P : State → Prop}
    (run : exec c s = .next (s.portOp k op f)) (fresh : (s.port k).fresh = true) (ho : (s.port k).op = op)
    (hf : f (s.port k) s = (y, u)) (own : s.ofQueue k u)
    (h : ∀ t, s.queueGives t k y → t.qs = u.qs → t.csr = u.csr → t.hl = u.hl → P t) : Completes c s P := by
  obtain ⟨others, frame⟩ := own
  refine completes_port run fresh ho hf (frame.same .fab (by decide)) fun t shown left => h t ?_ (left.same .qs (by decide)) (left.same .csr (by decide)) (left.same .hl (by decide))
  refine ⟨shown.1, shown.2, fun j hj => (State.queue_congr (left.same .qs (by decide)) j).trans (others j hj), ?_, (frame.mono (by decide)).trans (left.mono (by decide))⟩
  exact (left.same .mem (by decide) :).trans (frame.same .mem (by decide))

/-- An operation that changes nothing but its port. -/
theorem completes_portOnly {c : Instr} {s : State} {k op : Nat} {y : PortRes} {f : Port → State → PortRes × State} {P : State → Prop}
    (run : exec c s = .next (s.portOp k op f)) (fresh : (s.port k).fresh = true) (ho : (s.port k).op = op)
    (hf : f (s.port k) s = (y, s)) (h : ∀ t, s.queueGives t k y → t.qs = s.qs → t.csr = s.csr → P t) : Completes c s P :=
  completes_queue run fresh ho hf (s.ofQueue_refl k) fun t gives qs csr _ => h t gives qs csr

/-! ## PUSH -/

section
variable {s : State} {k : Nat} {p : Port}

theorem State.portPush_refuses (h : dSrc (s.desc k) ≠ 1) : State.portPush k p s = (refusedOp, s) := if_pos (.inl h)

theorem State.portPush_ring (src : dSrc (s.desc k) = 1) (mode : s.qMode k = 1 ∨ s.qMode k = 3)
    (room : ((s.queue k).bufFull false && !(s.queue k).stopped) = false) :
    State.portPush k p s = ({}, if s.qMode k = 1 then s.fifoWord k p.wdata false else s.pipeWord k p.wdata false) := by
  simp only [State.portPush]
  rw [if_neg (by omega), if_neg (by omega), room]
  rfl

theorem State.portPush_full (src : dSrc (s.desc k) = 1) (mode : s.qMode k = 1 ∨ s.qMode k = 3)
    (full : (s.queue k).bufFull false = true) (on : (s.queue k).stopped = false) : State.portPush k p s = (refusedOp, s.reject k) := by
  simp only [State.portPush]
  rw [if_neg (by omega), if_neg (by omega), full, on]
  rfl

theorem State.portPush_record {b : Bool} {u : State} (src : dSrc (s.desc k) = 1) (mode : s.qMode k = 2)
    (h : s.derandWord k p.wdata p.last = (b, u)) : State.portPush k p s = ({ err := b }, u.queueRecords k) := by
  simp only [State.portPush]
  rw [if_neg (by omega), if_pos mode, h]
  cases b <;> rfl

end

/-! ## POP, LOOKUP, HIST_ADD and READOUT -/

section
variable {s : State} {k : Nat} {p : Port}

theorem State.portPop_finds (mode : s.qMode k = 1 ∨ s.qMode k = 2) (drain : dDrain (s.desc k) = false) :
    State.portPop k p s = ({ pop := some (decide ((if (s.port k).out.pop.map (·.1) = some true then 1 else 0) < (s.queue k).pre.length) &&
      !(s.queue k).sendsHead, 0) }, s) := by
  have fifo : s.fifoLike k = true := by rcases mode with h | h <;> simp [State.fifoLike, h]
  simp only [State.portPop, fifo, drain]
  rcases (s.port k).out.pop with _ | ⟨_ | _, _⟩ <;> rfl

theorem State.portPop_refuses (h1 : s.qMode k ≠ 1) (h2 : s.qMode k ≠ 2) : State.portPop k p s = (refusedOp, s) := by
  simp [State.portPop, State.fifoLike, h1, h2]

theorem State.portLookup_reads (mode : s.qMode k = 5) (small : p.addr < s.entries k) {o : Nat} (ho : o = p.addr + (s.queue k).half * s.entries k)
    (clean : s.flipMask (s.qBlock k o) (o % 4096) = 0) :
    State.portLookup k p s = ({ data := BitVec.ofNat 64 (s.rawWord (s.qBlock k o) (o % 4096)), rvalid := true }, s) := by
  subst ho
  rw [State.portLookup, if_neg (by omega), State.queueRead_clean clean]

theorem State.portLookup_refuses (mode : s.qMode k ≠ 5) : State.portLookup k p s = (refusedOp, s) := if_pos (.inl mode)

theorem State.portHist_adds (mode : s.qMode k = 4) (small : p.addr < s.nBins k) (apart : (s.queue k).flight.any (fun f => f.1 = p.addr) = false) :
    ((s.queue k).adds.length < 16 → State.portHist k p s = ({}, s.setQueue k { s.queue k with adds := (s.queue k).adds ++ [(p.addr, p.wdata % 2 ^ 32)] })) ∧
    (16 ≤ (s.queue k).adds.length → State.portHist k p s = (refusedOp, s.discard k)) := by
  constructor <;> intro h <;> simp only [State.portHist] <;> rw [if_neg (by omega), if_neg (by omega), apart, if_neg Bool.false_ne_true]
  · exact if_neg (by omega)
  · exact if_pos h

end

section
variable {s : State} {k : Nat} {p : Port}

theorem State.portReadout_full (idle : (s.queue k).leaving = none) (full : 16 ≤ (s.queue k).ro.length) :
    State.portReadout k p s = (refusedOp, s) := by
  simp only [State.portReadout]
  rw [State.endRecord_stays (.inl idle), if_pos full]

theorem State.portReadout_bins (idle : (s.queue k).leaving = none) (mode : s.qMode k = 4) (room : (s.queue k).ro.length < 16)
    (small : p.addr / 4096 % 128 < dBlks (s.desc k)) :
    State.portReadout k p s = ({}, s.setQueue k { s.queue k with
      ro := (s.queue k).ro ++ [.bins (p.addr / 4096 % 128) (p.wdata.testBit 63) s.frameNo p.dest (p.wdata / 2 ^ 48 % 4)] }) := by
  have block : bits p.addr 12 7 = p.addr / 4096 % 128 := by rw [bits, Nat.shiftRight_eq_div_pow]; rfl
  have lane : bits p.wdata 48 2 = p.wdata / 2 ^ 48 % 4 := by rw [bits, Nat.shiftRight_eq_div_pow]; rfl
  simp only [State.portReadout]
  rw [State.endRecord_stays (.inl idle), if_neg (by omega), mode, block, lane]
  exact if_neg (by omega)

/-- Reading the index of a frame: the entries of the queue's ring are as before. -/
theorem State.readIndex_shows (s : State) (q f : Nat) :
    ((s.readIndex q f).queue q).ro = (s.queue q).ro ∧ s.ofQueue q (s.readIndex q f) ∧ (s.readIndex q f).csr = s.csr := by
  rw [State.readIndex]
  split
  · exact ⟨rfl, s.ofQueue_refl q, rfl⟩
  · exact ⟨(congrArg Queue.ro (s.queue_setQueue_same _ _)).trans rfl, s.ofQueue_setQueue q _, rfl⟩
  · exact ⟨rfl, State.ofQueue_hl q rfl, rfl⟩

/-- The entry of the readout queue for a frame: its place, or expired. -/
def State.frameEntry (s : State) (k f dest lane : Nat) : RoEntry :=
  if s.retained k f then .frame f (mget (fun _ => 0) (s.queue k).idx (f % 16384)) (s.frameLen k f) ((s.queue k).overfull.contains f) false dest lane
  else .frame f 0 0 false true dest lane

theorem State.portReadout_frame (idle : (s.queue k).leaving = none) (mode : s.qMode k = 3) (room : (s.queue k).ro.length < 16) :
    (laterFrame (s.queue k).curt (p.wdata % 2 ^ 48) = true → State.portReadout k p s = ({}, (s.readIndex k (p.wdata % 2 ^ 48)).setQueue k
      { (s.readIndex k (p.wdata % 2 ^ 48)).queue k with ro := (s.queue k).ro ++ [s.frameEntry k (p.wdata % 2 ^ 48) p.dest (p.wdata / 2 ^ 48 % 4)] })) ∧
    (laterFrame (s.queue k).curt (p.wdata % 2 ^ 48) = false → State.portReadout k p s = (refusedOp, s)) := by
  have lane : bits p.wdata 48 2 = p.wdata / 2 ^ 48 % 4 := by rw [bits, Nat.shiftRight_eq_div_pow]; rfl
  have closed : s.endRecord k = s := State.endRecord_stays (.inl idle)
  constructor <;> intro later <;> simp only [State.portReadout] <;> rw [closed, if_neg (by omega), mode, later, lane]
  · rfl
  · rfl

end

/-! ## A word that joins a ring -/

section
variable {s : State} {k : Nat} {p : Port}

/-- `x` with one more word at its end. -/
def Queue.joined (x : Queue) (v : Nat) (lane : Bool) (wq : Nat) : Queue :=
  { x with wbuf := x.wbuf ++ [.word x.wr (BitVec.ofNat 64 v) lane], wr := (x.wr + 1) % wq, occ := x.occ + 1 }

/-- `x` without its head word. -/
def Queue.headDropped (x : Queue) (wq : Nat) : Queue :=
  { x with pre := x.pre.drop 1, rd := (x.rd + 1) % wq, occ := x.occ - 1, ro := if x.leaving.isSome then x.headTaken else x.ro }

theorem State.dropHead_eq (s : State) (q : Nat) : s.dropHead q = (s.setQueue q ((s.queue q).headDropped (s.wq q))).discard q := rfl

/-- A word that joins a ring with room: its place, and nothing else of the queue but its flags. -/
theorem State.portPush_joins (src : dSrc (s.desc k) = 1) (mode : s.qMode k = 1 ∨ s.qMode k = 3) (on : (s.queue k).stopped = false)
    (room : (s.queue k).bufFull false = false) (less : (s.queue k).occ < s.wq k) :
    ∃ u, State.portPush k p s = ({}, u) ∧ s.ofQueue k u ∧
      (u.queue k).body = ((s.queue k).joined p.wdata false (s.wq k)).body ∧
      u.hl = s.hl ∧ ∀ a, a ≠ QC k 0x40 → u.reg a = s.reg a := by
  obtain ⟨queue, own, hl, regs⟩ := s.append_shows k p.wdata false
  have ring := State.portPush_ring (p := p) src mode (by rw [room]; rfl)
  rcases mode with one | three
  · rw [if_pos one, State.fifoWord_joins _ on room less] at ring
    generalize s.append k p.wdata false = u at *
    obtain ⟨body, -, -, frame⟩ := u.updThrottle_shows k
    exact ⟨_, ring, State.updThrottle_of own, body.trans (congrArg Queue.body queue), (frame.same .hl (by decide) :).trans hl,
      fun a h => (State.reg_congr (frame.same .csr (by decide)) a).trans (regs a h)⟩
  · rw [if_neg (by omega), State.pipeWord_joins _ room less] at ring
    exact ⟨_, ring, own, congrArg Queue.body queue, hl, regs⟩

/-- The word takes the place of the head (OVERWRITE). -/
theorem State.portPush_overwrites (src : dSrc (s.desc k) = 1) (mode : s.qMode k = 1) (ovf : dOvf (s.desc k) = 1) (on : (s.queue k).stopped = false)
    (room : (s.queue k).bufFull false = false) (full : (s.queue k).occ = s.wq k) (some : 0 < s.wq k) :
    ∃ u, State.portPush k p s = ({}, u) ∧ s.ofQueue k u ∧ (u.queue k).occ = (s.queue k).occ ∧ (u.queue k).rd = ((s.queue k).rd + 1) % s.wq k ∧
      (u.queue k).wbuf = (s.queue k).wbuf ++ [.word (s.queue k).wr (BitVec.ofNat 64 p.wdata) false] ∧ (u.queue k).ovf = true ∧
      u.reg (QC k 0x44) = min (s.reg (QC k 0x44) + 1) (2 ^ 32 - 1) := by
  have ring := State.portPush_ring (p := p) src (.inl mode) (by rw [room]; rfl)
  rw [if_pos mode, (State.fifoWord_full _ on room full).2.1 ovf] at ring
  obtain ⟨bodyD, ovfD, ownD, regD⟩ := s.setDiscard_shows k ((s.queue k).headDropped (s.wq k))
  rw [State.dropHead_eq] at ring
  generalize (s.setQueue k _).discard k = d at *
  obtain ⟨queue, own, -, regs⟩ := d.append_shows k p.wdata false
  generalize d.append k p.wdata false = a at *
  obtain ⟨body, throttled, -, frame⟩ := a.updThrottle_shows k
  have all := body.trans (congrArg Queue.body queue)
  refine ⟨_, ring, State.updThrottle_of (ownD.trans own), ?_, ?_, ?_, throttled.trans ((congrArg Queue.ovf queue).trans ovfD), ?_⟩
  · have occ : (d.queue k).occ = (s.queue k).occ - 1 := congrArg Queue.occ bodyD
    refine (congrArg Queue.occ all).trans ?_
    change (d.queue k).occ + 1 = _
    omega
  · exact (congrArg Queue.rd all).trans (congrArg Queue.rd bodyD)
  · refine (congrArg Queue.wbuf all).trans ?_
    change (d.queue k).wbuf ++ [.word (d.queue k).wr _ _] = _
    rw [show (d.queue k).wbuf = (s.queue k).wbuf from (congrArg Queue.wbuf bodyD :), show (d.queue k).wr = (s.queue k).wr from (congrArg Queue.wr bodyD :)]
  · exact (State.reg_congr (frame.same .csr (by decide)) _).trans ((regs _ (by simp)).trans regD)

end

/-! ## Ports and queues at an edge of the fabric clock (R144, R166, R168) -/

/-- Port and queue `k` of `t` are those of `s`. -/
def State.keepsPort (k : Nat) (s t : State) : Prop := t.port k = s.port k ∧ t.queue k = s.queue k

theorem State.keepsPort_refl (k : Nat) (s : State) : s.keepsPort k s := ⟨rfl, rfl⟩

theorem State.keepsPort.trans {k : Nat} {s t u : State} (h : s.keepsPort k t) (g : t.keepsPort k u) : s.keepsPort k u :=
  ⟨g.1.trans h.1, g.2.trans h.2⟩

theorem State.keepsPort_of {l : List Part} {s t : State} (h : s.changes l t) (fab : Part.fab ∉ l) (qs : Part.qs ∉ l) (k : Nat) : s.keepsPort k t :=
  ⟨by rw [State.port, State.port, show t.fab = s.fab from h.same .fab fab], State.queue_congr (h.same .qs qs) k⟩

theorem State.keepsPort_foldl {k : Nat} {α : Type} {f : State → α → State} (h : ∀ t x, State.keepsPort k t (f t x)) (l : List α) (s : State) :
    s.keepsPort k (l.foldl f s) := by
  induction l generalizing s with
  | nil => exact s.keepsPort_refl k
  | cons x l ih => exact (h s x).trans (ih _)

theorem State.keepsPort_forAll {k n : Nat} {f : Nat → State → State} (h : ∀ i t, State.keepsPort k t (f i t)) (s : State) :
    s.keepsPort k (forAll n f s) := State.keepsPort_foldl (fun t i => h i t) _ s

section
variable {k : Nat} {f : Nat → State → State} (others : ∀ i t, i ≠ k → State.keepsPort k t (f i t))
include others

theorem State.keepsPort_below {n : Nat} (hn : n ≤ k) (s : State) : s.keepsPort k (forAll n f s) := by
  induction n with
  | zero => exact s.keepsPort_refl k
  | succ n ih =>
    rw [forAll_succ]
    exact (ih (by omega)).trans (others n _ (by omega))

/-- In a loop over all ports the port `k` is reached as it stood, and left as its own step leaves it. -/
theorem forAll_reaches {n : Nat} (hk : k < n) (s : State) : ∃ t, s.keepsPort k t ∧ State.keepsPort k (f k t) (forAll n f s) := by
  induction n with
  | zero => omega
  | succ n ih =>
    rw [forAll_succ]
    by_cases last : k = n
    · subst last
      exact ⟨_, State.keepsPort_below others le_rfl s, State.keepsPort_refl _ _⟩
    · obtain ⟨t, before, after⟩ := ih (by omega)
      exact ⟨t, before, after.trans (others n _ (Ne.symm last))⟩

end

theorem State.storeWord_changes (s : State) (v : Nat) : s.changes [.csr, .mem, .flips, .ueSeen, .probe] (s.storeWord v) := by
  rw [State.storeWord]
  simp

theorem State.emitTrace_changes (s : State) (w : DWord) : s.changes [.csr, .net, .probe] (s.emitTrace w) := by
  rw [State.emitTrace]
  split
  · exact s.changes_refl _
  · refine (State.changes_ite _ _ _ _ _).2 ⟨fun _ => ?_, fun _ => ?_⟩
    · rfl
    · rfl

theorem State.probeEdge_changes (s : State) : s.changes [.csr, .mem, .flips, .ueSeen, .probe, .net, .free] s.probeEdge := by
  rw [State.probeEdge]
  split
  · exact s.changes_refl _
  · have drawn : s.changes [.free] s.sampleWord.2 := rfl
    generalize s.sampleWord = x at drawn
    obtain ⟨w, u⟩ := x
    extract_lets raw
    dsimp only
    have shown : s.changes [.csr, .mem, .flips, .ueSeen, .probe, .net, .free] (u.setProbe { u.probe with raw := (raw :: u.probe.raw).take 3, words := (w :: u.probe.words).take 9 }) :=
      (drawn.mono (by decide)).trans rfl
    refine (State.changes_ite _ _ _ _ _).2 ⟨fun _ => ?_, fun _ => shown⟩
    exact (shown.trans ((State.storeWord_changes _ _).mono (by decide))).trans ((State.emitTrace_changes _ _).mono (by decide))

theorem State.snapHold_keeps (s : State) (k : Nat) : s.keepsPort k s.snapHold := by
  rw [State.snapHold]
  split
  · exact State.keepsPort_foldl (f := fun t r => t.snapShafts r) (fun t r => ⟨rfl, rfl⟩) _ s
  · exact s.keepsPort_refl k

theorem State.captureSide_keeps (s : State) (i k : Nat) : s.keepsPort k (s.captureSide i) := by
  rw [State.captureSide]
  split
  · exact s.keepsPort_refl k
  · exact ⟨rfl, rfl⟩

theorem State.captureAll_keeps (s : State) (clk : ClkSrc) (pins : List (Fin 768 × Bool)) (t : State) (k : Nat) : t.keepsPort k (s.captureAll clk pins t) := by
  rw [State.captureAll]
  refine (State.keepsPort_forAll (fun r t => ?_) t).trans ((State.keepsPort_forAll (fun r t => ?_) _).trans (State.keepsPort_forAll (fun b t => ?_) _))
  · rw [State.captureRegion]
    split <;> exact ⟨rfl, rfl⟩
  · rw [State.captureCross]
    split <;> exact ⟨rfl, rfl⟩
  · rw [State.capturePins]
    split <;> exact ⟨rfl, rfl⟩

theorem State.passCycles_changes (s : State) (n : Nat) : s.changes [.timePs, .tick, .chain] (s.passCycles n) := by
  have line (t : State) (p : Nat) : t.changes [.timePs, .tick, .chain] (t.runLine p) := rfl
  rw [State.passCycles]
  have passed : s.changes [.timePs, .tick, .chain] { s with timePs := s.timePs + n * s.fabricPs, tick := { s.tick with cyc := s.tick.cyc + n } } := rfl
  exact ((passed.trans (line _ 0)).trans (line _ 1)).trans ((line _ 2).trans (line _ 3))

theorem State.nextCycle_keeps (s : State) (k : Nat) : s.keepsPort k s.nextCycle := by
  rw [State.nextCycle]
  have ended : s.keepsPort k s.endSwapCycles := State.keepsPort_forAll (fun r t => by split <;> exact ⟨rfl, rfl⟩) s
  have passed := State.keepsPort_of (s.endSwapCycles.passCycles_changes 1) (by decide) (by decide) k
  generalize s.endSwapCycles.passCycles 1 = u at *
  exact (ended.trans passed).trans ⟨rfl, rfl⟩

theorem State.exchangeAdvance_keeps (s : State) (i k : Nat) : s.keepsPort k (s.exchangeAdvance i) := by
  rw [State.exchangeAdvance]
  refine State.keepsPort.trans ⟨rfl, rfl⟩ (State.keepsPort_foldl (fun t x => ?_) _ _)
  rw [State.present]
  split <;> exact ⟨rfl, rfl⟩

/-! ## The edge of one port -/

/-- A queue that settles after a change of its words. -/
theorem State.settle_shows (s : State) (k : Nat) (y : Queue) :
    let t := ((s.setQueue k y).updThrottle k).closeIfLow k
    (t.queue k).body = y.body ∧ (∀ j, j ≠ k → t.queue j = s.queue j) ∧ s.changes [.qs, .hl] t := by
  have queue : (s.setQueue k y).queue k = y := s.queue_setQueue_same _ _
  have others (j : Nat) (h : j ≠ k) := s.queue_setQueue_ne k j y h
  have frame : s.changes [.qs, .hl] (s.setQueue k y) := rfl
  generalize s.setQueue k y = u at *
  obtain ⟨bodyT, -, othersT, frameT⟩ := u.updThrottle_shows k
  obtain ⟨bodyC, othersC, frameC⟩ := (u.updThrottle k).closeIfLow_shows k
  exact ⟨(bodyC.trans bodyT).trans (congrArg Queue.body queue), fun j h => (othersC j h).trans ((othersT j h).trans (others j h)),
    (frame.trans (frameT.mono (by decide))).trans frameC⟩

/-- The head word leaves (R179). -/
theorem State.removeHead_shows (s : State) (k : Nat) :
    ((s.removeHead k).queue k).pre = (s.queue k).pre.drop 1 ∧ ((s.removeHead k).queue k).occ = (s.queue k).occ - 1 ∧
    ((s.removeHead k).queue k).rd = ((s.queue k).rd + 1) % s.wq k ∧ (∀ j, j ≠ k → (s.removeHead k).queue j = s.queue j) ∧
    s.changes [.qs, .hl] (s.removeHead k) := by
  have settled (y : Queue) (pre : y.pre = (s.queue k).pre.drop 1) (occ : y.occ = (s.queue k).occ - 1) (rd : y.rd = ((s.queue k).rd + 1) % s.wq k) :
      let t := ((s.setQueue k y).updThrottle k).closeIfLow k
      (t.queue k).pre = (s.queue k).pre.drop 1 ∧ (t.queue k).occ = (s.queue k).occ - 1 ∧ (t.queue k).rd = ((s.queue k).rd + 1) % s.wq k ∧
      (∀ j, j ≠ k → t.queue j = s.queue j) ∧ s.changes [.qs, .hl] t := by
    obtain ⟨body, others, frame⟩ := s.settle_shows k y
    exact ⟨(congrArg Queue.pre body :).trans pre, (congrArg Queue.occ body :).trans occ, (congrArg Queue.rd body :).trans rd, others, frame⟩
  exact settled _ rfl rfl rfl

theorem State.commitPop_leaves (s : State) (k : Nat) (captured : Bool) :
    (∀ j, j ≠ k → (s.commitPop k captured).queue j = s.queue j) ∧ s.changes [.qs, .hl, .csr] (s.commitPop k captured) := by
  rw [State.commitPop]
  split
  · exact ⟨fun _ _ => rfl, s.changes_refl _⟩
  · split
    · obtain ⟨-, -, -, others, frame⟩ := s.removeHead_shows k
      exact ⟨others, frame.mono (by decide)⟩
    · exact ⟨fun _ _ => rfl, rfl⟩

/-- The edge of a port changes no other port and no other queue. -/
theorem State.portEdge_others (s : State) {i k : Nat} (h : i ≠ k) (t : State) : t.keepsPort k (s.portEdge i t) := by
  have apart : k ≠ i := Ne.symm h
  rw [State.portEdge]
  split
  · rw [State.presentTee]
    split
    · exact ⟨State.port_setPort_ne _ _ _ _ apart, rfl⟩
    · exact ⟨State.port_setPort_ne _ _ _ _ apart, rfl⟩
  · extract_lets held took kept u p res ln v inp q
    obtain ⟨others, frame⟩ := t.commitPop_leaves i took
    have committed : t.keepsPort k u := ⟨by rw [State.port, State.port, show u.fab = t.fab from frame.same .fab (by decide)], others k apart⟩
    have presented : t.keepsPort k v := committed.trans ⟨State.port_setPort_ne _ _ _ _ apart, rfl⟩
    split
    · exact presented
    · split
      · exact presented.trans ⟨State.port_setPort_ne _ _ _ _ apart, rfl⟩
      · exact presented.trans ⟨State.port_setPort_ne _ _ _ _ apart, rfl⟩

/-- A port whose region runs captures its operation's result: a POP removes the word that it presented and presents the next. -/
theorem State.portEdge_shows (s : State) {k : Nat} (tee : s.teeLane (k / 4) (k % 4) = none) (free : (s.region (k / 4)).held = false)
    (runs : (s.region (k / 4)).swapCycle = false) (on : s.clk.stopped = false) (t : State) :
    ((s.portEdge k t).port k).out = (t.commitPop k true).presentPop k (t.port k).res false ∧
    (s.portEdge k t).queue k = (t.commitPop k true).queue k := by
  rw [State.portEdge]
  split
  · next h => rw [tee] at h; contradiction
  extract_lets held took kept u p res ln v
  have runs : took = true := by simp [took, held, free, runs, on]
  have fresh : kept = false := by
    simp only [kept, runs]
    split <;> simp
  have ports : p = t.port k := by
    simp only [p, u, State.port, show (t.commitPop k took).fab = t.fab from (t.commitPop_leaves k took).2.same .fab (by decide)]
  have shown : (v.port k).out = res := congrArg Port.out (u.port_setPort_same k _)
  have result : res = (t.commitPop k true).presentPop k (t.port k).res false := by simp only [res, u, runs, fresh, ports]
  have captures (y : Port) (hy : y.out = (v.port k).out) : ((v.setPort k y).port k).out = (v.port k).out := by rw [State.port_setPort_same, hy]
  have queue : v.queue k = (t.commitPop k true).queue k := by rw [← runs]; rfl
  split
  · exact ⟨shown.trans result, queue⟩
  · split
    · exact ⟨(captures _ (by rfl)).trans (shown.trans result), queue⟩
    · exact ⟨(captures _ (by rfl)).trans (shown.trans result), queue⟩

/-- What the rest of an edge of the fabric clock leaves to the step of port `k`. -/
theorem State.fabricEdge_port (s : State) {k : Nat} (hk : k < 384) (tee : s.teeLane (k / 4) (k % 4) = none) (free : (s.region (k / 4)).held = false)
    (runs : (s.region (k / 4)).swapCycle = false) (on : s.clk.stopped = false) (pins : List (Fin 768 × Bool)) :
    ∃ t, s.keepsPort k t ∧ ((s.fabricEdge pins).port k).out = (t.commitPop k true).presentPop k (t.port k).res false ∧
      (s.fabricEdge pins).queue k = (t.commitPop k true).queue k := by
  have asleep : s.wakesNow = false := by rw [State.wakesNow, on]; rfl
  have edge : s.fabricEdge pins = ((forAll 384 s.portEdge (s.captureAll (.gck 0) pins (((if s.lastCycle then s.probeEdge.snapHold
      else s.probeEdge).captureSide 0).captureSide 1))).nextCycle.exchangeAdvance 0).exchangeAdvance 1 := by
    rw [State.fabricEdge, asleep]
    rfl
  have probed : s.keepsPort k s.probeEdge := State.keepsPort_of s.probeEdge_changes (by decide) (by decide) k
  have held : s.keepsPort k (if s.lastCycle then s.probeEdge.snapHold else s.probeEdge) := by
    split
    · exact probed.trans (s.probeEdge.snapHold_keeps k)
    · exact probed
  have captured := ((held.trans (State.captureSide_keeps _ 0 k)).trans (State.captureSide_keeps _ 1 k)).trans (s.captureAll_keeps (.gck 0) pins _ k)
  rw [edge]
  generalize s.captureAll (.gck 0) pins _ = u at *
  obtain ⟨t, before, after⟩ := forAll_reaches (f := s.portEdge) (fun i t h => s.portEdge_others h t) hk u
  generalize forAll 384 s.portEdge u = v at *
  have rest : v.keepsPort k ((v.nextCycle.exchangeAdvance 0).exchangeAdvance 1) :=
    ((v.nextCycle_keeps k).trans (State.exchangeAdvance_keeps _ 0 k)).trans (State.exchangeAdvance_keeps _ 1 k)
  have final := State.keepsPort.trans after rest
  obtain ⟨out, queue⟩ := s.portEdge_shows tee free runs on t
  exact ⟨t, captured.trans before, (congrArg Port.out final.1).trans out, final.2.trans queue⟩

theorem State.presentPop_head {s : State} {k : Nat} {x : PortRes} {off : Nat} {h : Pre} {rest : List Pre} (hx : x.pop = some (true, off))
    (pre : (s.queue k).pre = h :: rest) (clear : (s.queue k).sendsHead = false) :
    let y := s.presentPop k x false
    y.rvalid = true ∧ y.data = h.data ∧ y.ce = h.ce ∧ y.ue = h.ue ∧ y.pop = some (true, h.off) := by
  simp only [State.presentPop, hx, pre, clear]
  exact ⟨rfl, rfl, rfl, rfl, rfl⟩

theorem State.commitPop_none {s : State} {k : Nat} (h : (s.port k).out.pop = none) (took : Bool) : s.commitPop k took = s := by
  rw [State.commitPop, h]

theorem State.commitPop_takes {s : State} {k : Nat} {h : Pre} {rest : List Pre} (found : (s.port k).out.pop = some (true, h.off))
    (pre : (s.queue k).pre = h :: rest) : s.commitPop k true = s.removeHead k := by
  rw [State.commitPop, found]
  simp [pre]

/-- Records that are queued for the drain: the queue but for its readout queue and its closed records. -/
theorem State.queueRecords_of {s u : State} {q : Nat} (own : s.ofQueue q u) :
    s.ofQueue q (u.queueRecords q) ∧ (u.queueRecords q).csr = u.csr ∧
    ∃ ro closed, (u.queueRecords q).queue q = { u.queue q with ro, closed } :=
  have ⟨_, _, queue, _, others, frame⟩ := u.queueRecords_shows q
  ⟨own.trans ⟨others, frame.mono (by decide)⟩, frame.same .csr (by decide), _, _, queue⟩

section
variable {s : State} {k : Nat} {p : Port}

/-- A push that joins the open record. -/
theorem State.portPush_extends (src : dSrc (s.desc k) = 1) (mode : s.qMode k = 2) (skip : (s.queue k).skipping = false)
    (room : (s.queue k).bufFull false = false) {e : Rec} (open_ : (s.queue k).openRec = some e) :
    ∃ u, State.portPush k p s = ({}, u) ∧ s.ofQueue k u ∧ (u.queue k).occ = (s.queue k).occ + 1 ∧
      (p.last = true → (u.queue k).openRec = none ∧ (u.queue k).skipping = e.trunc) ∧
      (p.last = false → e.len + 1 < dRecMax (s.desc k) → (u.queue k).openRec = some { e with len := e.len + 1 }) := by
  obtain ⟨own, occ, closes, extends_⟩ := s.recordWord_shows k p.wdata p.last e
  obtain ⟨all, -, _, _, queue⟩ := State.queueRecords_of own
  refine ⟨_, State.portPush_record src mode (State.derandWord_extends _ _ skip room open_), all, ?_⟩
  rw [queue]
  exact ⟨occ, closes, extends_⟩

/-- A push that opens a record; its header word is counted with it. -/
theorem State.portPush_opens (src : dSrc (s.desc k) = 1) (mode : s.qMode k = 2) (skip : (s.queue k).skipping = false)
    (room : (s.queue k).bufFull false = false) (none : (s.queue k).openRec = none)
    (free : (s.queue k).stopped = false ∧ (s.queue k).occ + dRecMax (s.desc k) + 1 ≤ s.wq k) (last : p.last = false) (long : 1 < dRecMax (s.desc k)) :
    ∃ u, State.portPush k p s = ({}, u) ∧ s.ofQueue k u ∧ (u.queue k).openRec = some ⟨(s.queue k).wr, 1, false, s.frameNo, 0⟩ ∧
      (u.queue k).occ = (s.queue k).occ + 2 := by
  have run := State.portPush_record (p := p) src mode (State.derandWord_opens _ _ skip room none free)
  have begun := s.ofQueue_setQueue k { s.queue k with wr := ((s.queue k).wr + 1) % s.wq k, occ := (s.queue k).occ + 1 }
  have set : (s.setQueue k { s.queue k with wr := ((s.queue k).wr + 1) % s.wq k, occ := (s.queue k).occ + 1 }).queue k = _ := s.queue_setQueue_same _ _
  generalize s.setQueue k { s.queue k with wr := ((s.queue k).wr + 1) % s.wq k, occ := (s.queue k).occ + 1 } = b at *
  obtain ⟨own, occ, -, opens⟩ := b.recordWord_shows k p.wdata p.last ⟨(s.queue k).wr, 0, false, s.frameNo, 0⟩
  have desc : b.desc k = s.desc k := State.desc_congr ((congrArg Queue.desc set).trans rfl)
  obtain ⟨all, -, _, _, queue⟩ := State.queueRecords_of (begun.trans own)
  refine ⟨_, run, all, ?_⟩
  rw [queue]
  exact ⟨opens last (by rw [desc]; exact long), occ.trans (congrArg (· + 1) ((congrArg Queue.occ set).trans rfl))⟩

/-- A push that finds no room for its record. -/
theorem State.portPush_noRoom (src : dSrc (s.desc k) = 1) (mode : s.qMode k = 2) (skip : (s.queue k).skipping = false)
    (room : (s.queue k).bufFull false = false) (none : (s.queue k).openRec = none)
    (full : (s.queue k).stopped = true ∨ s.wq k < (s.queue k).occ + dRecMax (s.desc k) + 1) :
    ∃ u, State.portPush k p s = ({ err := true }, u) ∧ s.ofQueue k u ∧ (u.queue k).occ = (s.queue k).occ ∧ (u.queue k).wbuf = (s.queue k).wbuf ∧
      (u.queue k).skipping = !p.last ∧ (u.queue k).refusing = true ∧ (u.queue k).stopped = ((s.queue k).stopped || decide (dOvf (s.desc k) = 2)) ∧
      u.reg (QC k 0x44) = min (s.reg (QC k 0x44) + 1) (2 ^ 32 - 1) := by
  obtain ⟨body, -, own, reg⟩ := s.setDiscard_shows k { s.queue k with skipping := !p.last, refusing := true, stopped := (s.queue k).stopped || dOvf (s.desc k) = 2 }
  have run := State.portPush_record (p := p) src mode (State.derandWord_refuses _ _ skip room none full)
  generalize (s.setQueue k _).discard k = d at *
  obtain ⟨all, csr, _, _, queue⟩ := State.queueRecords_of own
  refine ⟨_, run, all, ?_⟩
  rw [queue, State.reg_congr csr]
  exact ⟨(congrArg Queue.occ body :), (congrArg Queue.wbuf body :), (congrArg Queue.skipping body :), (congrArg Queue.refusing body :),
    (congrArg Queue.stopped body :), reg⟩

/-- A push into a record that is not taken: it goes with it, up to the last one. -/
theorem State.portPush_skips (src : dSrc (s.desc k) = 1) (mode : s.qMode k = 2) (skip : (s.queue k).skipping = true) :
    ∃ u, State.portPush k p s = ({ err := (s.queue k).refusing }, u) ∧ s.ofQueue k u ∧ (u.queue k).occ = (s.queue k).occ ∧
      (u.queue k).wbuf = (s.queue k).wbuf ∧ (u.queue k).skipping = !p.last ∧ u.csr = s.csr := by
  have run := State.portPush_record (p := p) src mode (State.derandWord_skips _ _ skip)
  have own := s.ofQueue_setQueue k { s.queue k with skipping := !p.last }
  have set : (s.setQueue k { s.queue k with skipping := !p.last }).queue k = _ := s.queue_setQueue_same _ _
  have still : (s.setQueue k { s.queue k with skipping := !p.last }).csr = s.csr := rfl
  generalize s.setQueue k { s.queue k with skipping := !p.last } = d at *
  obtain ⟨all, csr, _, _, queue⟩ := State.queueRecords_of own
  refine ⟨_, run, all, ?_⟩
  rw [queue]
  exact ⟨(congrArg Queue.occ set :), (congrArg Queue.wbuf set :), (congrArg Queue.skipping set :), csr.trans still⟩

/-- A readout of a frame of a pipeline joins the readout queue. -/
theorem State.portReadout_joins (idle : (s.queue k).leaving = none) (mode : s.qMode k = 3) (room : (s.queue k).ro.length < 16)
    (later : laterFrame (s.queue k).curt (p.wdata % 2 ^ 48) = true) :
    ∃ u, State.portReadout k p s = ({}, u) ∧ s.ofQueue k u ∧ u.csr = s.csr ∧
      (u.queue k).ro = (s.queue k).ro ++ [s.frameEntry k (p.wdata % 2 ^ 48) p.dest (p.wdata / 2 ^ 48 % 4)] := by
  obtain ⟨-, own, csr⟩ := s.readIndex_shows k (p.wdata % 2 ^ 48)
  exact ⟨_, (State.portReadout_frame idle mode room).1 later, own.trans (State.ofQueue_setQueue _ _ _), csr,
    (congrArg Queue.ro (State.queue_setQueue_same _ _ _)).trans rfl⟩

end

theorem State.clockEdge_fabric {s : State} (h : s.tick.count < s.P + s.tick.ext) (pins : List (Fin 768 × Bool)) :
    s.clockEdge (.gck 0) pins = s.fabricEdge pins := by
  rw [State.clockEdge, if_pos rfl, if_neg (by omega)]

/-- Settles O38: operation by operation, then the edge that presents and the edge that removes. -/
theorem portQueues : Obligations.PortQueues := by
  intro s r p
  have region : (4 * r.val + p.val) / 4 = r := by omega
  have number : (4 * r.val + p.val) % 4 = p := by omega
  have small : 4 * r.val + p.val < 384 := by omega
  refine ⟨fun fresh => ⟨fun ho src => ?_, fun ho src mode on room less => ?_, fun ho src mode ovf on room full => ?_,
    fun ho src mode ovf on room full some => ?_, fun ho src mode ovf on room full => ?_, fun ho src mode off => ?_, fun ho src mode on full => ?_,
    fun ho src mode skip room none on free last long => ?_, fun ho src mode skip room e open_ last => ?_, fun ho src mode skip room none full => ?_,
    fun ho src mode skip => ?_, fun ho src mode skip room e open_ last short => ?_, fun ho mode drain => ?_, fun ho h1 h2 => ?_,
    fun ho mode few o hoff clean => ?_, fun ho mode => ?_, fun ho mode few apart room => ?_, fun ho mode few apart full => ?_,
    fun ho idle mode room few => ?_, fun ho idle mode room f hf => ⟨fun later kept => ?_, fun later gone => ?_, fun early => ?_⟩,
    fun ho idle full => ?_⟩, fun pins h rest tick tee free runs on pre clear => ⟨fun none found => ?_, fun found => ?_⟩⟩
  · exact completes_portOnly rfl fresh ho (State.portPush_refuses src) fun t gives qs csr => ⟨gives, qs, csr⟩
  · obtain ⟨u, run, own, body, hl, regs⟩ := State.portPush_joins src mode on room less
    refine completes_queue rfl fresh ho run own fun t gives qs csr hlT => ?_
    have all := (congrArg Queue.body (State.queue_congr qs (4 * r.val + p.val))).trans body
    exact ⟨gives, (congrArg Queue.occ all :), (congrArg Queue.wr all :), (congrArg Queue.wbuf all :), hlT.trans hl, fun a h => (State.reg_congr csr a).trans (regs a h)⟩
  · obtain ⟨body, ovfOn, own, reg⟩ := s.discard_shows (4 * r.val + p.val)
    have run := State.portPush_ring (p := s.port (4 * r.val + p.val)) src (.inl mode) (by rw [room]; rfl)
    rw [if_pos (show s.qMode _ = 1 from mode), (State.fifoWord_full _ on room full).1 ovf] at run
    refine completes_queue rfl fresh ho run own fun t gives qs csr _ => ?_
    have all := (congrArg Queue.body (State.queue_congr qs (4 * r.val + p.val))).trans body
    exact ⟨gives, (congrArg Queue.occ all :), (congrArg Queue.wbuf all :), (congrArg Queue.ovf (State.queue_congr qs _)).trans ovfOn, (State.reg_congr csr _).trans reg⟩
  · obtain ⟨u, run, own, occ, rd, wbuf, ovfOn, reg⟩ := State.portPush_overwrites (p := s.port (4 * r.val + p.val)) src mode ovf on room full some
    refine completes_queue rfl fresh ho run own fun t gives qs csr _ => ?_
    rw [State.queue_congr qs, State.reg_congr csr]
    exact ⟨gives, occ, rd, wbuf, ovfOn, reg⟩
  · obtain ⟨body, ovfOn, own, reg⟩ := s.setDiscard_shows (4 * r.val + p.val) { s.queue (4 * r.val + p.val) with stopped := true }
    have run := State.portPush_ring (p := s.port (4 * r.val + p.val)) src (.inl mode) (by rw [room]; rfl)
    rw [if_pos (show s.qMode _ = 1 from mode), (State.fifoWord_full _ on room full).2.2 ovf] at run
    refine completes_queue rfl fresh ho run own fun t gives qs csr _ => ?_
    have all := (congrArg Queue.body (State.queue_congr qs (4 * r.val + p.val))).trans body
    exact ⟨gives, (congrArg Queue.stopped all :), (congrArg Queue.occ all :), (congrArg Queue.wbuf all :), (State.reg_congr csr _).trans reg⟩
  · obtain ⟨body, ovfOn, own, reg⟩ := s.discard_shows (4 * r.val + p.val)
    have run := State.portPush_ring (p := s.port (4 * r.val + p.val)) src (.inl mode) (by rw [off]; simp)
    rw [if_pos (show s.qMode _ = 1 from mode), State.fifoWord_stopped _ off] at run
    refine completes_queue rfl fresh ho run own fun t gives qs csr _ => ?_
    have all := (congrArg Queue.body (State.queue_congr qs (4 * r.val + p.val))).trans body
    exact ⟨gives, (congrArg Queue.occ all :), (congrArg Queue.wbuf all :), (State.reg_congr csr _).trans reg⟩
  · obtain ⟨body, ovfOn, own, reg⟩ := s.reject_shows (4 * r.val + p.val)
    refine completes_queue rfl fresh ho (State.portPush_full src mode full on) own fun t gives qs csr _ => ?_
    have all := (congrArg Queue.body (State.queue_congr qs (4 * r.val + p.val))).trans body
    exact ⟨gives, (congrArg Queue.occ all :), (congrArg Queue.wbuf all :), (State.reg_congr csr _).trans reg⟩
  · obtain ⟨u, run, own, opens, occ⟩ := State.portPush_opens (p := s.port (4 * r.val + p.val)) src mode skip room none ⟨on, free⟩ last long
    refine completes_queue rfl fresh ho run own fun t gives qs csr _ => ?_
    rw [State.queue_congr qs]
    exact ⟨gives, opens, occ⟩
  · obtain ⟨u, run, own, occ, closes, -⟩ := State.portPush_extends (p := s.port (4 * r.val + p.val)) src mode skip room open_
    refine completes_queue rfl fresh ho run own fun t gives qs csr _ => ?_
    rw [State.queue_congr qs]
    exact ⟨gives, (closes last).1, (closes last).2, occ⟩
  · obtain ⟨u, run, own, facts⟩ := State.portPush_noRoom (p := s.port (4 * r.val + p.val)) src mode skip room none full
    refine completes_queue rfl fresh ho run own fun t gives qs csr _ => ?_
    rw [State.queue_congr qs, State.reg_congr csr]
    exact ⟨gives, facts⟩
  · obtain ⟨u, run, own, occ, wbuf, skips, same⟩ := State.portPush_skips (p := s.port (4 * r.val + p.val)) src mode skip
    refine completes_queue rfl fresh ho run own fun t gives qs csr _ => ?_
    rw [State.queue_congr qs]
    exact ⟨gives, occ, wbuf, skips, csr.trans same⟩
  · obtain ⟨u, run, own, occ, -, extends_⟩ := State.portPush_extends (p := s.port (4 * r.val + p.val)) src mode skip room open_
    refine completes_queue rfl fresh ho run own fun t gives qs csr _ => ?_
    rw [State.queue_congr qs]
    exact ⟨gives, extends_ last short, occ⟩
  · exact completes_portOnly rfl fresh ho (State.portPop_finds mode drain) fun t gives qs csr => ⟨qs, csr, gives⟩
  · exact completes_portOnly rfl fresh ho (State.portPop_refuses h1 h2) fun t gives qs csr => ⟨gives, qs, csr⟩
  · exact completes_portOnly rfl fresh ho (State.portLookup_reads mode few hoff clean) fun t gives qs csr => ⟨gives, qs, csr⟩
  · exact completes_portOnly rfl fresh ho (State.portLookup_refuses mode) fun t gives qs csr => ⟨gives, qs, csr⟩
  · refine completes_queue rfl fresh ho ((State.portHist_adds mode few apart).1 room) (s.ofQueue_setQueue _ _) fun t gives qs csr _ => ?_
    exact ⟨gives, (congrArg Queue.adds ((State.queue_congr qs _).trans (s.queue_setQueue_same _ _))).trans rfl, csr⟩
  · obtain ⟨body, ovfOn, own, reg⟩ := s.discard_shows (4 * r.val + p.val)
    refine completes_queue rfl fresh ho ((State.portHist_adds mode few apart).2 full) own fun t gives qs csr _ => ?_
    have all := (congrArg Queue.body (State.queue_congr qs (4 * r.val + p.val))).trans body
    exact ⟨gives, (congrArg Queue.adds all :), (congrArg Queue.ovf (State.queue_congr qs _)).trans ovfOn⟩
  · refine completes_queue rfl fresh ho (State.portReadout_bins idle mode room few) (s.ofQueue_setQueue _ _) fun t gives qs csr _ => ?_
    exact ⟨gives, csr, (congrArg Queue.ro ((State.queue_congr qs _).trans (s.queue_setQueue_same _ _))).trans rfl⟩
  · subst hf
    obtain ⟨u, run, own, same, joins⟩ := State.portReadout_joins idle mode room later
    refine completes_queue rfl fresh ho run own fun t gives qs csr _ => ?_
    rw [State.queue_congr qs, joins, State.frameEntry, if_pos kept]
    exact ⟨gives, csr.trans same, rfl⟩
  · subst hf
    obtain ⟨u, run, own, same, joins⟩ := State.portReadout_joins idle mode room later
    refine completes_queue rfl fresh ho run own fun t gives qs csr _ => ?_
    rw [State.queue_congr qs, joins, State.frameEntry, if_neg (Bool.eq_false_iff.1 gone)]
    exact ⟨gives, csr.trans same, rfl⟩
  · subst hf
    exact completes_portOnly rfl fresh ho ((State.portReadout_frame idle mode room).2 early) fun t gives qs csr => ⟨gives, qs, csr⟩
  · exact completes_portOnly rfl fresh ho (State.portReadout_full idle full) fun t gives qs csr => ⟨gives, qs, csr⟩
  · obtain ⟨t, ⟨ports, queues⟩, out, queue⟩ := s.fabricEdge_port small (by rw [region, number]; exact tee) (by rw [region]; exact free)
      (by rw [region]; exact runs) on pins
    rw [State.commitPop_none (by rw [ports]; exact none)] at out queue
    have head := State.presentPop_head (s := t) (x := (t.port (4 * r.val + p.val)).res) (by rw [ports]; exact found) (by rw [queues]; exact pre) (by rw [queues]; exact clear)
    rw [← out] at head
    exact completes_by rfl (State.clockEdge_fabric tick pins) ⟨head.1, head.2.1, head.2.2.1, head.2.2.2.1, head.2.2.2.2, queue.trans queues⟩
  · obtain ⟨t, ⟨ports, queues⟩, out, queue⟩ := s.fabricEdge_port small (by rw [region, number]; exact tee) (by rw [region]; exact free)
      (by rw [region]; exact runs) on pins
    rw [State.commitPop_takes (by rw [ports]; exact found) (by rw [queues]; exact pre)] at queue
    obtain ⟨left, occ, rd, -, -⟩ := t.removeHead_shows (4 * r.val + p.val)
    rw [← queue, queues] at left occ rd
    exact completes_by rfl (State.clockEdge_fabric tick pins) ⟨left.trans (by rw [pre]; rfl), occ, rd.trans (by rw [State.wq, State.wq, State.desc_congr (congrArg Queue.desc queues)])⟩

end Sys2Proof.Machine
end

section
/-! Loads: their sources, their stages and the start-up sequencer (spec/08, spec/09). -/
namespace Sys2Proof.Machine

/-! ## The end of a partial load -/

/-- The rejection of a load that does not end the whole configuration touches its targets and the regions it holds. -/
theorem State.rejected_part {s : State} {accepted : Bool} (part : s.endsWhole accepted = false) :
    s.changes [.csr, .fab, .rg] (s.rejected accepted) := by
  simp [State.rejected, part]

theorem State.rejectLoad_part {s : State} (f : Fail) {accepted : Bool} (part : s.endsWhole accepted = false) (boot : s.ld.boot = false)
    (on : s.bt.on = false) : s.changes [.csr, .fab, .rg, .chain, .hl, .ld] (s.rejectLoad f accepted) := by
  rw [State.rejectLoad_commanded f accepted boot on, part]
  exact ((State.rejected_part part).mono (by decide)).trans (by simp)

theorem State.rejectLoad_otp (s : State) (f : Fail) (accepted : Bool) : (s.rejectLoad f accepted).life.otp = s.life.otp :=
  congrArg Life.otp ((s.rejectLoad_changes f accepted).same .life (by decide))

/-! ## Bytes of an image (R250 to R256) -/

/-- A port's bytes join the load that waits for them. -/
theorem State.pspWord_feeds {s : State} (w : Word) (taken : s.ld.pspErr = false ∨ s.ld.pspGap = true) (gate : s.gateOpen 0x2D = true)
    (pins : s.scanned = false) : s.pspWord w =
      (let t := s.setLd { s.ld with pspErr := false, pspGap := false }
       let t := if s.bootWaits 1 then t.beginBoot else t
       if t.ld.source = 1 && t.ld.wants && !t.ld.stalled then t.feed (bytesLE w.toNat 4) else t) := by
  unfold State.pspWord
  rw [if_neg (by simp [gate, pins]), if_neg (by rcases taken with h | h <;> simp [h])]
  rfl

theorem State.pspWord_discards {s : State} (w : Word) (h : (s.ld.pspErr = true ∧ s.ld.pspGap = false) ∨ s.gateOpen 0x2D = false ∨ s.scanned = true) :
    s.pspWord w = s := by
  unfold State.pspWord
  rcases h with ⟨err, gap⟩ | shut | pins
  · rw [if_pos (show (s.ld.pspErr && !s.ld.pspGap) = true by simp [err, gap])]
    exact ite_self _
  · rw [if_pos (by simp [shut])]
  · rw [if_pos (by simp [pins])]

theorem State.sspNibble_discards {s : State} (x : Nat) (h : s.ld.sspSkip = true ∨ s.gateOpen 0x2E = false ∨ s.scanned = true) :
    s.sspNibble x = s := by
  unfold State.sspNibble
  rw [if_pos (by rcases h with h | h | h <;> simp [h])]

/-- A nibble that the load on the serial port takes. -/
theorem State.sspNibble_takes {s : State} (x : Nat) (skip : s.ld.sspSkip = false) (gate : s.gateOpen 0x2E = true) (pins : s.scanned = false)
    (boot : s.bootWaits 2 = false) (source : s.ld.source = 2) (wants : s.ld.wants = true) (runs : s.ld.stalled = false) : s.sspNibble x =
      match s.ld.sspNib with
      | none => s.setLd { s.ld with sspNib := some x, sspOpen := true }
      | some lo => s.setLd { s.ld with
          sspNib := none, sspOpen := true, buf := s.ld.buf ++ [BitVec.ofNat 8 (lo + 16 * x)], took := s.ld.took + 1 } := by
  unfold State.sspNibble
  rw [if_neg (by simp [skip, gate, pins]), boot]
  simp only [Bool.false_eq_true, if_false]
  rw [if_pos (by simp [source, wants, runs])]
  cases h : s.ld.sspNib with
  | none => simp [State.setLd]
  | some lo => simp [State.setLd, State.feed]

/-- What the chip select closes at its rise. -/
def State.sspClosed (s : State) : State := s.setLd { s.ld with sspSkip := false, sspNib := none, sspOpen := false }

theorem State.sspCsRise_eq {s : State} (pins : s.scanned = false) : s.sspCsRise =
    (if s.ld.source = 2 && (s.ld.wants || s.ld.phase = .hold) && s.ld.begun && !s.ld.complete then
      s.failLoad { status := stCONFLICT, detail := dABORTED } else s).sspClosed := by
  unfold State.sspCsRise
  rw [if_neg (by simp [pins])]
  rfl

theorem State.sspCsRise_closes {s : State} (pins : s.scanned = false)
    (h : (s.ld.source = 2 && (s.ld.wants || s.ld.phase = .hold) && s.ld.begun && !s.ld.complete) = false) : s.sspCsRise = s.sspClosed := by
  rw [State.sspCsRise_eq pins, h]
  rfl

/-- An image whose length its header gives has come as a whole. -/
theorem Loader.complete_of_took {l : Loader} (h : l.phase ≠ .header) (all : 516 + l.records * l.recLen ≤ l.took) : l.complete = true := by
  unfold Loader.complete
  rw [if_neg h]
  simp only [decide_eq_true_eq]
  omega

/-! ## Starts (R249, Table CFG-10) -/

/-- The boot procedure from its first source. -/
theorem State.bootStart_goes {s : State} (on : s.on = true) (fresh : s.bt.started = false) (idle : s.ld.phase = .idle) (up : s.hl.up = true)
    (lc : s.lc ≠ 7) :
    (s.boot = 0 → s.bootStart = State.bootLoop 3 { s with bt := { s.bt with started := true, on := true, source := 0, slot := s.bootSlot, attempts := 0, n := 0 } }) ∧
    (1 ≤ s.boot → s.boot ≤ 4 → s.bootStart =
      State.bootLoop 3 { s with bt := { s.bt with started := true, on := true, source := s.boot, slot := 0xFF, attempts := 0, n := 0 } }) := by
  have start : s.bootStart = _ := if_neg (by simp [on, fresh, idle, up, lc])
  constructor
  · intro h
    rw [start]
    simp only [h]
    rfl
  · intro lo hi
    have cases4 : s.boot = 1 ∨ s.boot = 2 ∨ s.boot = 3 ∨ s.boot = 4 := by omega
    rw [start]
    rcases cases4 with h | h | h | h <;> simp only [h]

/-- From a slot that is VALID the load begins at once. -/
theorem State.bootLoop_begins {s : State} (n : Nat) (source : s.bt.source = 0) (valid : (s.slot s.bt.slot).st = 2) (first : s.bt.attempts < 2) :
    State.bootLoop (n + 1) s = s.beginBoot := by
  rw [State.bootLoop]
  simp only [source, valid, first, if_true, and_self]

/-- A port or the chain is waited on. -/
theorem State.bootLoop_waits {s : State} (n : Nat) (source : s.bt.source ≠ 0) (first : s.bt.attempts < 2) :
    State.bootLoop (n + 1) s = s := by
  rw [State.bootLoop]
  simp only [source, first, if_true, if_false]

theorem State.bootStart_stays {s : State} (h : s.on = false ∨ s.bt.started = true ∨ s.lc = 7) : s.bootStart = s :=
  if_pos (by rcases h with h | h | h <;> simp [h])

/-- Settles O53. -/
theorem loadSources : Obligations.LoadSources := by
  unfold Obligations.LoadSources
  refine fun s => ⟨fun on fresh idle up lc => ⟨fun boot valid => ?_, fun lo hi => ?_⟩, fun h => completes_by rfl (State.bootStart_stays h) rfl,
    fun w taken gate pins waits => ?_, fun w taken gate pins waits source wants runs => ?_, fun w h => completes_by rfl (State.pspWord_discards w h) rfl,
    completes_intro rfl rfl, fun x h => completes_by rfl (State.sspNibble_discards _ h) rfl,
    fun x skip gate pins boot source wants runs => ⟨fun none => ?_, fun lo some => ?_⟩, fun pins other => ?_,
    fun pins source begun => ⟨fun phase part boot on => ?_, fun done => ?_⟩, fun pins => completes_by rfl (if_pos pins) rfl,
    fun wants begun rails => ?_, fun wants => completes_by rfl (if_neg (by simp [wants])) rfl⟩
  · refine completes_by rfl (((State.bootStart_goes on fresh idle up lc).1 boot).trans (State.bootLoop_begins 2 rfl valid Nat.two_pos)) ?_
    simp [State.beginBoot, State.beginLoad, State.setLd]
    rfl
  · exact completes_by rfl (((State.bootStart_goes on fresh idle up lc).2 lo hi).trans (State.bootLoop_waits 2 (Nat.ne_of_gt lo) Nat.two_pos))
      ⟨rfl, rfl, rfl, rfl⟩
  · have source : s.bt.source = 1 := by
      simp only [State.bootWaits, Bool.and_eq_true, decide_eq_true_eq] at waits
      exact waits.1.1.2
    refine completes_by rfl (State.pspWord_feeds w taken gate pins) ?_
    rw [waits]
    simp [State.beginBoot, State.beginLoad, State.setLd, State.feed, Loader.wants, Loader.stalled, source]
  · refine completes_by rfl (State.pspWord_feeds w taken gate pins) ?_
    rw [waits]
    simp only [Bool.false_eq_true, if_false]
    rw [if_pos]
    · exact ⟨rfl, rfl⟩
    · simp only [Bool.and_eq_true, decide_eq_true_eq, Bool.not_eq_true']
      exact ⟨⟨source, wants⟩, runs⟩
  · refine completes_by rfl (State.sspNibble_takes _ skip gate pins boot source wants runs) ?_
    rw [none]
    rfl
  · refine completes_by rfl (State.sspNibble_takes _ skip gate pins boot source wants runs) ?_
    rw [some]
    exact ⟨rfl, rfl⟩
  · exact completes_by rfl (State.sspCsRise_closes pins (by rcases other with h | h <;> simp [h])) rfl
  · have fails : s.sspCsRise = (s.failLoad { status := stCONFLICT, detail := dABORTED }).sspClosed := by
      rw [State.sspCsRise_eq pins, if_pos]
      rcases phase with h | h <;> simp [source, h, begun, part]
    exact completes_by rfl fails ⟨(State.rejectLoad_ends _ _ boot on).1, rfl, s.rejectLoad_otp _ _⟩
  · refine completes_by rfl (State.sspCsRise_closes pins ?_) rfl
    rcases done with ⟨h1, h2⟩ | ⟨h1, h2⟩
    · simp [h1, h2]
    · simp [Loader.complete_of_took h1 h2]
  · refine completes_by rfl (if_pos (by simp [wants, begun, rails])) ⟨s.rejectLoad_otp _ _, fun boot on => ⟨(State.rejectLoad_ends _ _ boot on).1, fun part kind => ?_⟩⟩
    refine (State.rejectLoad_part _ ?_ boot on).same .mem (by decide)
    simp [State.endsWhole, part, kind]

end Sys2Proof.Machine
end

section
/-! The stages of a load (spec/08 R257 to R263, spec/09 R278 to R294). -/
namespace Sys2Proof.Machine

/-! ## Loops: what one round establishes and the others keep -/

theorem foldl_keeps {α : Type} {f : State → α → State} {P : State → Prop} (keeps : ∀ t x, P t → P (f t x)) (xs : List α) {s : State}
    (h : P s) : P (xs.foldl f s) := by
  induction xs generalizing s with
  | nil => exact h
  | cons x xs ih => exact ih (keeps s x h)

theorem foldl_establishes {α : Type} {f : State → α → State} {P : State → Prop} {a : α} {xs : List α} (ha : a ∈ xs) (does : ∀ t, P (f t a))
    (keeps : ∀ t x, P t → P (f t x)) (s : State) : P (xs.foldl f s) := by
  induction xs generalizing s with
  | nil => simp at ha
  | cons x xs ih =>
    rcases List.mem_cons.1 ha with rfl | h
    · exact foldl_keeps keeps xs (does s)
    · exact ih h _

theorem forAll_keeps {f : Nat → State → State} {P : State → Prop} (keeps : ∀ k t, P t → P (f k t)) (n : Nat) {s : State} (h : P s) :
    P (forAll n f s) := foldl_keeps (fun t k => keeps k t) _ h

theorem forAll_establishes {f : Nat → State → State} {P : State → Prop} {k n : Nat} (hk : k < n) (does : ∀ t, P (f k t))
    (keeps : ∀ j t, P t → P (f j t)) (s : State) : P (forAll n f s) :=
  foldl_establishes (List.mem_range.2 hk) does (fun t j => keeps j t) s

/-! ## Regions that are held -/

theorem State.region_congr {s t : State} (h : t.rg = s.rg) (r : Nat) : t.region r = s.region r := by rw [State.region, State.region, h]

theorem State.holdRegion_held (s : State) (r cause : Nat) : ((s.holdRegion r cause).region r).held = true := by
  unfold State.holdRegion
  extract_lets x a b
  split
  · next h => simpa [x] using h
  · simp

theorem State.holdRegion_other (s : State) (r cause : Nat) {k : Nat} (h : k ≠ r) : (s.holdRegion r cause).region k = s.region k := by
  unfold State.holdRegion
  extract_lets x a b
  split
  · exact State.region_setRegion_ne _ _ _ _ h
  · exact (State.region_setRegion_ne _ _ _ _ h).trans rfl

theorem State.holdRegion_keeps {s : State} {k : Nat} (h : (s.region k).held = true) (r cause : Nat) :
    ((s.holdRegion r cause).region k).held = true := by
  by_cases e : k = r
  · rw [e]
    exact s.holdRegion_held r cause
  · rw [s.holdRegion_other r cause e, h]

/-! ## The header (R233, R278, R294) -/

@[simp] theorem State.changes_unpend (l : List Part) (s t : State) (r : Nat) (h : [Part.csr, Part.rg] ⊆ l) :
    s.changes l (t.unpend r) ↔ s.changes l t := State.changes.through (by simp [State.unpend]) h s

@[simp] theorem State.changes_unpendAll (l : List Part) (s t : State) (r : Nat) (h : [Part.csr, Part.rg] ⊆ l) :
    s.changes l (t.unpendAll r) ↔ s.changes l t := State.changes.through (by simp [State.unpendAll]) h s

@[simp] theorem State.changes_dropUnloaded (l : List Part) (s t : State) (h : [Part.csr, Part.rg] ⊆ l) :
    s.changes l t.dropUnloaded ↔ s.changes l t :=
  State.changes.through (by simp [State.dropUnloaded, State.dropPendingReq, State.dropReq]) h s

/-- An accepted partial header unloads targets, at most, beside what the loader notes. -/
theorem State.acceptHeader_part {s : State} {l : Loader} (part : l.full = false) : s.changes [.ld, .csr, .rg] (s.acceptHeader l) ∧
    (s.acceptHeader l).ld = { l with
      phase := .hold, startPs := s.timePs, startCyc := s.tick.cyc, held := s.heldBy l (bufferedAddrs l.recLen l.records l.buf) } := by
  unfold State.acceptHeader
  rw [part]
  simp only [Bool.false_eq_true, if_false]
  refine ⟨by simp, ?_⟩
  show _ = (s.setLd _).ld
  exact State.changes.same (l := [.csr, .rg]) (by simp) .ld (by decide)

/-- The state in which a header is judged. -/
def State.judged (s : State) (l : Loader) : State := s.setLd { l with startPs := s.timePs }

section
variable {s : State} {l : Loader} (phase : s.ld.phase = .header) (len : 256 ≤ s.ld.buf.length)
  (hl : l = { s.ld.start (s.ld.buf.take 256) with buf := (s.ld.start (s.ld.buf.take 256)).buf.drop 256 })
include phase len hl

theorem State.imageHeader_rejects {f : Fail} (bad : s.headerStage l.kind l = some f) : s.imageHeader = (s.judged l).rejectLoad f false := by
  subst hl
  unfold State.imageHeader
  rw [if_neg (by simp [phase, len])]
  extract_lets l t
  rw [show s.headerStage t.kind t = _ from bad]
  rfl

theorem State.imageHeader_passes (good : s.headerStage l.kind l = none) : s.imageHeader =
    if !l.full && s.awaits l then (s.judged l).rejectLoad { status := stBUSY, detail := 0 } false else s.acceptHeader l := by
  subst hl
  unfold State.imageHeader
  rw [if_neg (by simp [phase, len])]
  extract_lets l t
  rw [show s.headerStage t.kind t = _ from good]
  rfl

end

/-! ## The hold edge (R257, R281) -/

theorem State.holdEdge_stays {s : State} (h : s.ld.phase ≠ .hold ∨ s.waitsRails = true) : s.holdEdge = s :=
  if_pos (by rcases h with h | h <;> simp [h])

theorem State.holdEdge_goes {s : State} (phase : s.ld.phase = .hold) (tick : s.tick.count = 0) (later : s.ld.startCyc < s.tick.cyc)
    (rails : s.waitsRails = false) : s.holdEdge = (if s.ld.full then s.fullLoadLoans.clearConfig
      else s.ld.held.foldl (fun t r => t.holdRegion r (if s.ld.targetRegion r then 1 else 2)) s).setLd { s.ld with phase := s.ld.streamPhase } := by
  unfold State.holdEdge
  rw [if_neg (by simp [phase, tick, later, rails])]

theorem Loader.streamPhase_cases (l : Loader) : l.streamPhase = .records ∨ l.streamPhase = .trailer := by
  unfold Loader.streamPhase
  split
  · exact .inl rfl
  · exact .inr rfl

theorem State.endSounding_loans (s : State) (e : Nat) : (s.endSounding e).hl.loanList = s.hl.loanList := by
  unfold State.endSounding
  split <;> rfl

theorem State.endLoans_loans (s : State) (p : Nat × Nat × Nat → Bool) : (s.endLoans p).hl.loanList = s.hl.loanList.filter (fun l => !p l) := by
  unfold State.endLoans
  extract_lets gone h t u
  have hu : u.hl = t.hl := by
    unfold u
    split <;> rfl
  split
  · rw [State.endSounding_loans, hu]
  · rw [hu]

/-- A full load leaves no loan. -/
theorem State.fullLoadLoans_none (s : State) : s.fullLoadLoans.hl.loanList = [] := by
  unfold State.fullLoadLoans
  exact ((State.endSounding_loans _ 3).trans (State.endLoans_loans _ _)).trans (by simp)

/-- What the clearing of the configuration does to one region. -/
def State.clearRegion (r : Nat) (t : State) : State :=
  (((t.zeroRegs ([0x00, 0x04, 0x08] ++ (List.range 8).map (fun i => 0x20 + 4 * i) |>.map (RG r ·))).setFld (RG r 0x14) 0 13 0).setRings r (0, 0)).setRegion r
    { held := true, cause := 1 }

/-- The clearing of one region leaves the others. -/
theorem State.clearRegion_held (r : Nat) (s : State) {k : Nat} (h : k = r ∨ (s.region k).held = true) :
    ((State.clearRegion r s).region k).held = true := by
  unfold State.clearRegion
  generalize ha : s.zeroRegs _ = a
  have same : s.changes [.csr] ((a.setFld (RG r 0x14) 0 13 0).setRings r (0, 0)) := by simp [← ha]
  by_cases e : k = r
  · rw [e, State.region_setRegion_same]
  · rw [State.region_setRegion_ne _ _ _ _ e, State.region_congr (same.same .rg (by decide)), h.resolve_left e]

theorem State.clearConfig_rg (s : State) : s.clearConfig.rg = (forAll 96 (fun r t => State.clearRegion r t) s).rg := by
  unfold State.clearConfig
  extract_lets a b c d e
  have first : a = forAll 96 (fun r t => State.clearRegion r t) s := rfl
  have same : a.changes [.csr, .qs, .lane] e := by simp [e, d, c, b]
  have rg : e.rg = a.rg := same.same .rg (by decide)
  rw [← first, ← rg]

theorem State.clearConfig_held (s : State) {r : Nat} (hr : r < 96) : (s.clearConfig.region r).held = true := by
  rw [State.region_congr s.clearConfig_rg]
  exact forAll_establishes (P := fun t => (t.region r).held = true) hr
    (fun t => State.clearRegion_held r t (.inl rfl)) (fun j t h => State.clearRegion_held j t (.inr h)) s

theorem State.clearConfig_empty (s : State) : s.clearConfig.glob = [] ∧ s.clearConfig.mem = [] ∧ s.clearConfig.run = {} := by
  unfold State.clearConfig
  extract_lets a b c d e
  clear_value e
  exact ⟨rfl, rfl, rfl⟩

/-! ## Records (R257, R286) -/

theorem State.lateHold_ld (s : State) (l : Loader) (addr : Nat) : s.changes [.ld] (s.lateHold l addr) ∧ (s.lateHold l addr).ld.buf = l.buf ∧
    (s.lateHold l addr).ld.phase ≠ .idle := by
  unfold State.lateHold
  extract_lets more
  split
  · refine ⟨by simp, rfl, ?_⟩
    rcases l.streamPhase_cases with h | h <;> exact h ▸ LdPhase.noConfusion
  · exact ⟨by simp, rfl, LdPhase.noConfusion⟩

/-! ## The commit of a partial load (R288, R289) -/

@[simp] theorem State.changes_initBank (l : List Part) (s t : State) (r c : Nat) (h : Part.fab ∈ l) :
    s.changes l (t.initBank r c) ↔ s.changes l t := by simp [State.initBank, h]

@[simp] theorem State.changes_initShared (l : List Part) (s t : State) (r : Nat) (h : Part.fab ∈ l) :
    s.changes l (t.initShared r) ↔ s.changes l t := by simp [State.initShared, h]

@[simp] theorem State.changes_commitTarget (l : List Part) (x : Loader) (r c : Nat) (s t : State) (h : [Part.csr, Part.fab] ⊆ l) :
    s.changes l (State.commitTarget x r c t) ↔ s.changes l t := State.changes.through (by simp [State.commitTarget]) h s

@[simp] theorem State.changes_stageRegion (l : List Part) (x : Loader) (late : Bool) (r : Nat) (s t : State) (h : [Part.rg, Part.fab, Part.qs] ⊆ l) :
    s.changes l (State.stageRegion x late r t) ↔ s.changes l t := State.changes.through (by simp [State.stageRegion]) h s

/-- Region `r` is staged; the others keep what they have. -/
theorem State.stageRegion_region (l : Loader) (late : Bool) (r : Nat) (s : State) :
    ((State.stageRegion l late r s).region r).committed = true ∧ ∀ k, k ≠ r → (State.stageRegion l late r s).region k = s.region k := by
  unfold State.stageRegion
  extract_lets x carried y u
  have staged : (s.setRegion r y).changes [.fab] u := by
    unfold u
    split <;> simp
  have rg : ∀ k, (forAll 4 (fun i t => if l.targetRegion r && l.carries (0x20 + (4 * r + i) / 16) then
      t.setQueue (4 * r + i) { t.queue (4 * r + i) with stDesc := some (BitVec.ofNat 160 (globDesc l.g (4 * r + i))) } else t) u).region k =
      (s.setRegion r y).region k := fun k =>
    State.region_congr (State.changes.same (l := [.fab, .qs]) ((staged.mono (by decide)).trans (by simp)) .rg (by decide)) k
  exact ⟨(congrArg Region.committed ((rg r).trans (State.region_setRegion_same _ _ _))).trans rfl, fun k h => (rg k).trans (State.region_setRegion_ne _ _ _ _ h)⟩

theorem State.commitPartial_shows (s : State) : s.changes [.csr, .fab, .rg, .qs, .hl] s.commitPartial ∧
    ∀ r ∈ s.ld.held, (s.commitPartial.region r).committed = true := by
  unfold State.commitPartial
  extract_lets l t late u w
  have ht : s.changes [.csr, .fab, .rg, .qs, .hl] t := by simp [t]
  have hu : t.changes [.csr, .fab, .rg, .qs, .hl] u := by simp [u]
  have hw : u.changes [.hl] w := by simp [w]
  have staged : ∀ r ∈ l.held, (u.region r).committed = true := fun r hr =>
    foldl_establishes (P := fun t => (t.region r).committed = true) hr (fun t => (State.stageRegion_region l late r t).1) (fun t k h => by
      by_cases e : r = k
      · rw [e]
        exact (State.stageRegion_region l late k t).1
      · rw [(State.stageRegion_region l late k t).2 r e, h]) t
  clear_value u
  have last : u.changes [.hl] (match (List.range 96).find? (fun r => l.targetRegion r && !l.held.contains r) with
      | some r => w.regionReady l.mb l.tag r 1
      | none => w) := by
    split
    · exact hw.trans (by simp [State.regionReady])
    · exact hw
  refine ⟨(ht.trans hu).trans (last.mono (by decide)), fun r hr => ?_⟩
  rw [← staged r hr]
  exact congrArg Region.committed (State.region_congr (last.same .rg (by decide)) r)

/-! ## What the clocks' operations may change (spec/15) -/

section
variable (l : List Part) (s t : State)

@[simp] theorem State.changes_forceMux (c : Nat) (h : [Part.csr, .hl] ⊆ l) : s.changes l (t.forceMux c) ↔ s.changes l t :=
  State.changes.through (by simp [State.forceMux]) h s

@[simp] theorem State.changes_setRamping (n : Nat) (b : Bool) (h : Part.csr ∈ l) : s.changes l (t.setRamping n b) ↔ s.changes l t := by
  simp [State.setRamping, h]

@[simp] theorem State.changes_rampEnd (n : Nat) (h : [Part.csr, .clk] ⊆ l) : s.changes l (t.rampEnd n) ↔ s.changes l t :=
  State.changes.through (by simp [State.rampEnd]) h s

/-- What a clock's operation may change. -/
abbrev clockParts : List Part := [.csr, .hl, .clk]

@[simp] theorem State.changes_rampSwitch (n : Nat) (h : clockParts ⊆ l) : s.changes l (t.rampSwitch n) ↔ s.changes l t := by
  rcases e : t.rampTo n with ⟨src, d⟩
  exact State.changes.through (by simp [State.rampSwitch, e]) h s

@[simp] theorem State.changes_rampTurn (n : Nat) (h : clockParts ⊆ l) : s.changes l (t.rampTurn n) ↔ s.changes l t :=
  State.changes.through (by simp [State.rampTurn]) h s

@[simp] theorem State.changes_rampGo (n : Nat) (h : clockParts ⊆ l) : s.changes l (t.rampGo n) ↔ s.changes l t :=
  State.changes.through (by simp [State.rampGo]) h s

@[simp] theorem State.changes_rampReady (h : clockParts ⊆ l) : s.changes l t.rampReady ↔ s.changes l t :=
  State.changes.through (by simp [State.rampReady]) h s

@[simp] theorem State.changes_rampStart (n : Nat) (h : [Part.csr, .clk] ⊆ l) : s.changes l (t.rampStart n) ↔ s.changes l t :=
  State.changes.through (by simp [State.rampStart]) h s

@[simp] theorem State.changes_spllRestart (n : Nat) (h : [Part.csr, .clk] ⊆ l) : s.changes l (t.spllRestart n) ↔ s.changes l t :=
  State.changes.through (by rfl) h s

@[simp] theorem State.changes_trimFollow (h : Part.csr ∈ l) : s.changes l t.trimFollow ↔ s.changes l t :=
  State.changes.through (m := [.csr]) (by simp [State.trimFollow]) (by simpa using h) s

@[simp] theorem State.changes_failoverOf (c : Nat) (h : clockParts ⊆ l) : s.changes l (t.failoverOf c) ↔ s.changes l t :=
  State.changes.through (by simp [State.failoverOf]) h s

@[simp] theorem State.changes_failover (h : clockParts ⊆ l) : s.changes l t.failover ↔ s.changes l t :=
  State.changes.through (by simp [State.failover]) h s

@[simp] theorem State.changes_openGates (h : Part.csr ∈ l) : s.changes l t.openGates ↔ s.changes l t :=
  State.changes.through (m := [.csr]) (by simp [State.openGates]) (by simpa using h) s

@[simp] theorem State.changes_zvlUnlock (h : clockParts ⊆ l) : s.changes l t.zvlUnlock ↔ s.changes l t :=
  State.changes.through (by simp [State.zvlUnlock, State.unlockEvent]) h s

@[simp] theorem State.changes_commitClocks (img : Nat → Nat) (h : clockParts ⊆ l) : s.changes l (t.commitClocks img) ↔ s.changes l t := by
  refine State.changes.through ?_ h s
  unfold State.commitClocks
  extract_lets offs old u changed moved v w
  have hu : t.changes clockParts u := by simp [u]
  have hv : u.changes clockParts v := by simp [v]
  have hw : v.changes clockParts w := by simp [w]
  simp [(hu.trans hv).trans hw]

end

/-! ## The commit of a full load (R257, R263, R327) -/

section
variable (l : List Part) (s t : State)

@[simp] theorem State.changes_setTable (r : Nat) (ws : List Word) (h : Part.csr ∈ l) : s.changes l (t.setTable r ws) ↔ s.changes l t :=
  State.changes.through (m := [.csr]) (by simp [State.setTable]) (by simpa using h) s

@[simp] theorem State.changes_initRegion (r : Nat) (h : Part.fab ∈ l) : s.changes l (t.initRegion r) ↔ s.changes l t :=
  State.changes.through (m := [.fab]) (by simp [State.initRegion]) (by simpa using h) s

@[simp] theorem State.changes_commitRegion (x : Loader) (r : Nat) (h : [Part.csr, .rg, .fab] ⊆ l) :
    s.changes l (State.commitRegion x r t) ↔ s.changes l t := State.changes.through (by simp [State.commitRegion]) h s

@[simp] theorem State.changes_commitQueue (x : Loader) (q : Nat) (h : Part.qs ∈ l) : s.changes l (State.commitQueue x q t) ↔ s.changes l t :=
  State.changes.through (m := [.qs]) (by simp [State.commitQueue]) (by simpa using h) s

@[simp] theorem State.changes_writeTickCtrl (v : Nat) (h : [Part.csr, .tick] ⊆ l) : s.changes l (t.writeTickCtrl v) ↔ s.changes l t :=
  State.changes.through (by simp [State.writeTickCtrl]) h s

@[simp] theorem State.changes_commitTick (g : Nat → Nat) (h : [Part.csr, .tick] ⊆ l) : s.changes l (t.commitTick g) ↔ s.changes l t :=
  State.changes.through (((State.changes_writeTickCtrl _ t t (icCtrl g) (by simp)).2 (t.changes_refl _)).trans (by rfl)) h s

@[simp] theorem State.changes_setActive (up : Bool) (code : Nat) (h : [Part.csr, .tick] ⊆ l) : s.changes l (t.setActive up code) ↔ s.changes l t :=
  State.changes.through (by
    cases up
    · simp [State.setActive]
    · simp only [State.setActive, State.changes_setBit, State.changes_setFld, State.changes_ite, List.mem_cons, true_or, State.changes_refl, implies_true, and_true]
      exact fun _ => rfl) h s

@[simp] theorem State.changes_crownHead (h : [Part.csr, .tick, .hl, .chain] ⊆ l) : s.changes l t.crownHead ↔ s.changes l t :=
  State.changes.through (by simp [State.crownHead, State.postRange, State.takeAddr]) h s

@[simp] theorem State.changes_roleTaken (head : Bool) (h : [Part.csr, .tick, .hl, .chain, .clk] ⊆ l) :
    s.changes l (t.roleTaken head) ↔ s.changes l t := State.changes.through (by simp [State.roleTaken]) h s

@[simp] theorem State.changes_caldAfter (old : State) (h : Part.chain ∈ l) : s.changes l (t.caldAfter old) ↔ s.changes l t :=
  State.changes.through (m := [.chain]) (by simp [State.caldAfter, State.sendCald]) (by simpa using h) s

@[simp] theorem State.changes_commitUnit (x : Loader) (h : [Part.csr, .tick, .hl, .chain, .clk] ⊆ l) :
    s.changes l (t.commitUnit x) ↔ s.changes l t := State.changes.through (by simp [State.commitUnit]) h s

@[simp] theorem State.changes_commitPort (x : Loader) (p : Nat) (h : Part.csr ∈ l) : s.changes l (State.commitPort x p t) ↔ s.changes l t :=
  State.changes.through (m := [.csr]) (by simp [State.commitPort]) (by simpa using h) s

@[simp] theorem State.changes_checkSide (p k : Nat) (h : [Part.chain, .hl] ⊆ l) : s.changes l (t.checkSide p k) ↔ s.changes l t :=
  State.changes.through (by simp [State.checkSide]) h s

@[simp] theorem State.changes_alignDone (h : Part.csr ∈ l) : s.changes l t.alignDone ↔ s.changes l t := by simp [State.alignDone, h]

@[simp] theorem State.changes_commitReload (x : Loader) (h : [Part.csr, .bt] ⊆ l) : s.changes l (t.commitReload x) ↔ s.changes l t :=
  State.changes.through (by
    unfold State.commitReload
    extract_lets u
    exact State.changes.trans (t := u) (by simp [u]) (by rfl)) h s

end

/-- A full load committed: the unit is configured and runs from slot 0 of its sequencer, with the global frames of the image. -/
theorem State.commitFull_shows (s : State) : s.commitFull.run = { configured := true, hold := false } ∧ s.commitFull.chain.unconf = false ∧
    s.commitFull.glob = s.ld.glob ∧ s.commitFull.sq.on = true ∧ s.commitFull.sq.slot = 0 ∧ s.commitFull.bt.on = false := by
  unfold State.commitFull
  extract_lets l tf a b c d e f g h i
  have first : s.ld.glob = a.glob := rfl
  have last : a.changes [.csr, .rg, .fab, .qs, .hl, .lane, .clk, .tick, .chain, .scrubN, .bt] i := by
    have hb : a.changes [.csr, .rg, .fab] b := by simp [b]
    have hc : b.changes [.qs] c := by simp [c]
    have hd : c.changes [.csr, .hl, .lane] d := by simp [d]
    have he : d.changes [.csr, .scrubN] e := by simp [e]
    have hf : e.changes [.csr, .hl, .clk, .tick] f := by simp [f]
    have hg : f.changes [.csr, .tick, .hl, .chain, .clk] g := by simp [g]
    have hh : g.changes [.chain, .hl] h := by simp [h]
    have hi : h.changes [.csr, .bt] i := by simp [i]
    exact ((((((((hb.mono (by decide)).trans (hc.mono (by decide))).trans (hd.mono (by decide))).trans (he.mono (by decide))).trans
      (hf.mono (by decide))).trans (hg.mono (by decide))).trans (hh.mono (by decide))).trans (hi.mono (by decide)))
  clear_value i
  exact ⟨rfl, rfl, (last.same .glob (by decide)).trans first.symm, rfl, rfl, rfl⟩

theorem State.postReport_unconf (s : State) (f : Fail) (accepted : Bool) : (s.postReport f accepted).chain.unconf = s.chain.unconf := by
  unfold State.postReport
  extract_lets l rep u v
  unfold v
  split <;> rfl

/-- Regions held one after another: these are held, no other is touched. -/
theorem State.holdRegions_shows (s : State) (cause : Nat → Nat) (l : List Nat) :
    s.changes [.rg, .fab] (l.foldl (fun t r => t.holdRegion r (cause r)) s) ∧
    (∀ r, r ∈ l → ((l.foldl (fun t r => t.holdRegion r (cause r)) s).region r).held = true) ∧
    ∀ r, r ∉ l → (l.foldl (fun t r => t.holdRegion r (cause r)) s).region r = s.region r := by
  refine ⟨by simp, fun r hr => ?_, fun r hr => ?_⟩
  · exact foldl_establishes (f := fun t r => t.holdRegion r (cause r)) (P := fun t => (t.region r).held = true) hr (fun t => t.holdRegion_held _ _) (fun t k h => State.holdRegion_keeps h _ _) s
  · induction l generalizing s with
    | nil => rfl
    | cons k l ih =>
      obtain ⟨first, rest⟩ := not_or.1 (fun h => hr (List.mem_cons.2 h))
      exact (ih _ rest).trans (s.holdRegion_other _ _ first)

/-- What a full load leaves at its hold edge. -/
theorem State.cleared_shows (s : State) : ∃ w, s.fullLoadLoans.clearConfig = w ∧ w.hl.loanList = [] ∧ w.life.otp = s.life.otp ∧
    w.glob = [] ∧ w.mem = [] ∧ w.run.configured = false ∧ ∀ r, r < 96 → (w.region r).held = true := by
  have none := s.fullLoadLoans_none
  have first : s.changes [.csr, .hl] s.fullLoadLoans := by simp
  have life : s.fullLoadLoans.life = s.life := first.same .life (by decide)
  generalize s.fullLoadLoans = u at *
  have same := u.clearConfig_changes
  have held := fun r (hr : r < 96) => u.clearConfig_held hr
  obtain ⟨glob, mem, run⟩ := u.clearConfig_empty
  generalize u.clearConfig = w at *
  have hl : w.hl = u.hl := same.same .hl (by decide)
  have keeps : w.life = u.life := same.same .life (by decide)
  exact ⟨w, rfl, by rw [hl, none], by rw [keeps, life], glob, mem, by rw [run], held⟩

theorem State.setDone_stays {s : State} (h : s.ld.phase ≠ .setStage ∨ (s.ld.full = true ∧ (s.rails.vcore = false ∨ s.chainRails = false))) :
    s.setDone = s := by
  unfold State.setDone
  rw [if_pos]
  rcases h with h | ⟨full, h | h⟩
  · simp [h]
  · simp [full, h]
  · simp [full, h]

theorem State.setDone_judges {s : State} (phase : s.ld.phase = .setStage) (go : s.ld.full = false ∨ (s.rails.vcore = true ∧ s.chainRails = true)) :
    (∀ f, s.setStage s.ld = some f → s.setDone = s.failLoad f) ∧
    (s.setStage s.ld = none → s.setDone =
      ((if s.ld.full then s.commitFull else s.commitPartial).postReport { status := 0, detail := 0 } true).bootResume) := by
  have runs : ¬(s.ld.phase ≠ .setStage || (s.ld.full && !(s.rails.vcore && s.chainRails))) = true := by
    rcases go with h | ⟨h, k⟩
    · simp [phase, h]
    · simp [phase, h, k]
  constructor
  · intro f hf
    unfold State.setDone
    rw [if_neg runs, hf]
  · intro h
    unfold State.setDone
    rw [if_neg runs, h]

/-- A full load that fails outside the boot procedure leaves the unit without a configuration, and that is told (R277). -/
theorem State.rejectLoad_tells {s : State} (f : Fail) {accepted : Bool} (whole : s.endsWhole accepted = true) (boot : s.ld.boot = false)
    (on : s.bt.on = false) (brown : s.bt.brown = false) (told : s.bt.told = false) : (s.rejectLoad f accepted).run.configured = false ∧
    (s.rejectLoad f accepted).bt.told = true ∧ ∃ l ∈ (s.rejectLoad f accepted).hl.latches, l.code = 0x0B ∧ l.data % 2 ^ 32 = 0x0107 := by
  have reported := s.reported_changes f accepted
  have run : ((s.rejected accepted).postReport f accepted).run = {} := by
    have cleared : (s.rejected accepted).run = {} := by
      rw [State.rejected, if_pos whole, State.unconfigure]
      exact (State.changes.same (l := [.csr, .hl, .lane, .chain, .rg]) (s := s.fullLoadLoans.clearConfig) (by simp) .run (by decide)).trans (State.clearConfig_empty _).2.2
    exact (State.changes.same (l := [.chain, .hl, .ld]) (by simp) .run (by decide)).trans cleared
  rw [State.rejectLoad_commanded f accepted boot on, if_pos (by simp [whole, brown])]
  have kept : ((s.rejected accepted).postReport f accepted).bt = s.bt := reported.same .bt (by decide)
  generalize (s.rejected accepted).postReport f accepted = u at *
  obtain ⟨ls, hl, tells⟩ := u.tellUnconfigured_hl
  obtain ⟨l, mem, code, data⟩ := tells (by rw [kept, told])
  refine ⟨?_, by rw [State.tellUnconfigured_bt], l, ?_, code, data⟩
  · rw [show u.tellUnconfigured.run = u.run from State.changes.same (l := [.chain, .hl, .bt]) (by simp) .run (by decide), run]
  · rw [hl]
    exact List.mem_append_right _ mem

/-- Settles O54. -/
theorem loadStages : Obligations.LoadStages := by
  unfold Obligations.LoadStages
  intro s
  refine ⟨fun phase len l hl => ?_, fun phase tick later rails part => ?_, fun phase tick later rails full => ?_,
    fun h => completes_by rfl (State.holdEdge_stays (.inr h)) rfl, fun phase len t' ok chunk => ?_, fun phase len => ?_, fun phase ok => ?_,
    fun phase bad boot on => ?_, fun phase bad part boot on => ?_, fun phase ok part on => ?_, fun full rails => ?_,
    fun phase ok full vcore rails => ?_, fun phase c hc => ?_⟩
  · refine ⟨fun good full => ?_, fun f bad boot on => ?_, fun good part waits kind boot on => ?_, fun good part free => ?_⟩
    · refine completes_by rfl ((State.imageHeader_passes phase len hl good).trans (if_neg (by simp [full]))) ?_
      simp only [State.acceptHeader, full, if_true]
      exact ⟨rfl, rfl, rfl, rfl, rfl⟩
    · refine completes_by rfl (State.imageHeader_rejects phase len hl bad) ⟨(State.rejectLoad_ends (s := s.judged l) f false boot on).1, (s.judged l).rejectLoad_otp f false, fun kind => ?_⟩
      exact (State.rejectLoad_part (s := s.judged l) f (accepted := false) (decide_eq_false kind) boot on).same .mem (by decide)
    · refine completes_by rfl ((State.imageHeader_passes phase len hl good).trans (if_pos (by simp [part, waits])))
        ⟨(State.rejectLoad_ends (s := s.judged l) _ false boot on).1, ?_⟩
      have whole : (s.judged l).endsWhole false = false := decide_eq_false kind
      have ends : (s.judged l).rejectLoad { status := stBUSY, detail := 0 } false = (s.judged l).postReport { status := stBUSY, detail := 0 } false := by
        rw [State.rejectLoad_commanded (s := s.judged l) _ _ boot on, State.rejected, whole]
        rfl
      have same : (s.judged l).changes [.chain, .hl, .ld] ((s.judged l).rejectLoad { status := stBUSY, detail := 0 } false) := by
        rw [ends]
        simp
      exact ⟨same.same .rg (by decide), same.same .mem (by decide)⟩
    · obtain ⟨same, ld⟩ := State.acceptHeader_part (s := s) part
      refine completes_by rfl ((State.imageHeader_passes phase len hl good).trans (if_neg (by simp [free]))) ?_
      rw [ld]
      exact ⟨rfl, rfl, same.same .mem (by decide), rfl⟩
  · refine completes_by rfl (State.holdEdge_goes phase tick later rails) ?_
    rw [part]
    simp only [Bool.false_eq_true, if_false]
    obtain ⟨same, held, free⟩ := s.holdRegions_shows (fun r => if s.ld.targetRegion r then 1 else 2) s.ld.held
    exact ⟨s.ld.streamPhase_cases, same.same .mem (by decide), same.same .qs (by decide), same.same .glob (by decide), held, free⟩
  · refine completes_by rfl (State.holdEdge_goes phase tick later rails) ?_
    rw [full]
    simp only [if_true]
    obtain ⟨w, hw, loans, otp, glob, mem, run, held⟩ := s.cleared_shows
    rw [hw]
    exact ⟨s.ld.streamPhase_cases, loans, otp, glob, mem, run, held⟩
  · obtain ⟨same, buf, busy⟩ := s.lateHold_ld { t'.l with buf := s.ld.buf.drop s.ld.recLen } (natLE ((s.ld.buf.take s.ld.recLen).take 4))
    refine completes_by rfl (t := s.frameRecord) (u := s.lateHold { t'.l with buf := s.ld.buf.drop s.ld.recLen } (natLE ((s.ld.buf.take s.ld.recLen).take 4))) ?_ ⟨buf, busy, ?_⟩
    · unfold State.frameRecord
      rw [if_neg (by simp [phase, len])]
      simp only [ok, chunk]
    · exact same
  · exact completes_by rfl (if_neg (by simp [phase, len])) ⟨rfl, rfl⟩
  · refine completes_by rfl (t := s.trailerDone) (u := s.setLd { s.ld with phase := .setStage }) ?_ rfl
    rw [State.trailerDone, if_neg (by simp [phase]), ok]
  · obtain ⟨f, hf⟩ := Option.ne_none_iff_exists'.1 bad
    have fails : s.trailerDone = s.rejectLoad f true := by
      rw [State.trailerDone, if_neg (by simp [phase]), hf]
      simp [State.failLoad, phase]
    exact completes_by rfl fails ⟨(State.rejectLoad_ends f true boot on).1, s.rejectLoad_otp f true, fun full brown told =>
      State.rejectLoad_tells f full boot on brown told⟩
  · obtain ⟨f, hf⟩ := Option.ne_none_iff_exists'.1 bad
    exact completes_by rfl ((State.setDone_judges phase (.inl part)).1 f hf) ⟨(State.rejectLoad_ends f _ boot on).1, s.rejectLoad_otp f _⟩
  · obtain ⟨same, staged⟩ := s.commitPartial_shows
    have reported : s.commitPartial.changes [.chain, .hl, .ld] (s.commitPartial.postReport { status := 0, detail := 0 } true) := by simp
    have idle : (s.commitPartial.postReport { status := 0, detail := 0 } true).bt.on = false := by
      rw [show (State.postReport _ _ _).bt = _ from reported.same .bt (by decide), show s.commitPartial.bt = _ from same.same .bt (by decide), on]
    refine completes_by rfl (u := s.commitPartial.postReport { status := 0, detail := 0 } true)
      (((State.setDone_judges phase (.inl part)).2 ok).trans (by rw [part]; exact State.bootResume_off idle)) ⟨(State.postReport_ld _ _ _).1, ?_, fun r hr => ?_⟩
    · exact (reported.same .run (by decide)).trans (same.same .run (by decide))
    · rw [State.region_congr (reported.same .rg (by decide)), staged r hr]
  · exact completes_by rfl (State.setDone_stays (.inr ⟨full, rails⟩)) rfl
  · obtain ⟨run, unconf, glob, seq, slot, off⟩ := s.commitFull_shows
    have reported : s.commitFull.changes [.chain, .hl, .ld] (s.commitFull.postReport { status := 0, detail := 0 } true) := by simp
    have idle : (s.commitFull.postReport { status := 0, detail := 0 } true).bt.on = false := by
      rw [show (State.postReport _ _ _).bt = _ from reported.same .bt (by decide), off]
    have life : (s.commitFull.postReport { status := 0, detail := 0 } true).life.otp = s.life.otp :=
      (congrArg Life.otp (reported.same .life (by decide)) :).trans s.commitFull_kept.2.2
    have runs : (s.commitFull.postReport { status := 0, detail := 0 } true).run = _ := (reported.same .run (by decide) :).trans run
    have sq : (s.commitFull.postReport { status := 0, detail := 0 } true).sq = _ := reported.same .sq (by decide)
    refine completes_by rfl (u := s.commitFull.postReport { status := 0, detail := 0 } true) (((State.setDone_judges phase (.inr ⟨vcore, rails⟩)).2 ok).trans (by rw [full]; exact State.bootResume_off idle)) ?_
    rw [runs, sq]
    exact ⟨rfl, (State.postReport_unconf _ _ _).trans unconf, rfl, (reported.same .glob (by decide) :).trans glob, rfl, seq, slot, life⟩
  · simp only [List.mem_cons, List.not_mem_nil, or_false] at hc
    rcases hc with rfl | rfl | rfl | rfl | rfl | rfl
    · exact completes_by rfl (if_pos (.inl (by simp [phase]))) rfl
    · exact completes_by rfl (State.holdEdge_stays (.inl (by simp [phase]))) rfl
    · exact completes_by rfl (if_pos (.inl (by simp [phase]))) rfl
    · exact completes_by rfl (if_pos (.inl (by simp [phase]))) rfl
    · exact completes_by rfl (if_pos (by simp [phase])) rfl
    · exact completes_by rfl (State.setDone_stays (.inl (by simp [phase]))) rfl

end Sys2Proof.Machine
end

section
/-! The start-up sequencer, releases and the store's engine (spec/08 R265, R266, R269, spec/09 R289 to R292, spec/11 R358). -/
namespace Sys2Proof.Machine

/-! ## Steps of the sequencer (Table CFG-15) -/

@[simp] theorem State.changes_setStep (l : List Part) (s t : State) (r j h : Nat) (hl : Part.csr ∈ l) :
    s.changes l (t.setStep r j h) ↔ s.changes l t := by simp [State.setStep, hl]

theorem State.stepNo_setStep (s : State) (r h : Nat) : (s.setStep r 0 h).stepNo r = 0 := by
  unfold State.setStep State.stepNo
  rw [State.fld_setFld_ne _ _ _ _ _ _ (by simp), State.fld_setFld_ne _ _ _ _ _ _ (by simp), State.fld_setFld_same _ _ _ (by decide)]
  rfl

theorem State.bit_setStep (s : State) (r j h : Nat) {a i : Nat} (hi : i < 8 ∨ 12 ≤ i) (h32 : i < 32) (ha : a ≠ RG r 0x14) :
    (s.setStep r j h).bit a i = s.bit a i := by
  unfold State.setStep
  rw [State.bit_setFld_ne _ _ _ _ _ ha, State.bit_setFld_ne _ _ _ _ _ ha]
  by_cases e : a = RG r 0
  · rw [e, State.bit_setFld_other _ _ _ _ _ h32 (by omega)]
  · rw [State.bit_setFld_ne _ _ _ _ _ e]

/-- What step 5 does to one region. -/
def State.startSchedule (r : Nat) (t : State) : State :=
  let t := t.setRegion r { t.region r with wait0 := false, extra := 0 }
  (t.setBit (RG r 0) 12 true).setStep r 0 (t.shift r 0)

/-- Region `r` runs its schedule from step 0, with no shift of its own. -/
def State.fromStep0 (r : Nat) (t : State) : Prop := t.schedRun r = true ∧ t.stepNo r = 0 ∧ (t.region r).extra = 0

theorem State.startSchedule_self (r : Nat) (t : State) : State.fromStep0 r (State.startSchedule r t) := by
  refine ⟨?_, State.stepNo_setStep _ _ _, ?_⟩
  · exact (State.bit_setStep _ _ _ _ (.inr (by decide)) (by decide) (by simp)).trans (State.bit_setBit_same _ _ _ (by decide))
  · rw [State.region_congr (s := t.setRegion r { t.region r with wait0 := false, extra := 0 }) (by rfl), State.region_setRegion_same]

theorem State.startSchedule_other (j : Nat) (t : State) {a : Nat} (h : a ≠ RG j 0) (h' : a ≠ RG j 0x14) : (State.startSchedule j t).reg a = t.reg a := by
  unfold State.startSchedule State.setStep
  rw [State.reg_setFld_ne _ _ _ _ _ _ h', State.reg_setFld_ne _ _ _ _ _ _ h', State.reg_setFld_ne _ _ _ _ _ _ h, State.reg_setBit_ne _ _ _ _ _ h]
  rfl

theorem State.startSchedule_keeps {r : Nat} (j : Nat) {t : State} (h : State.fromStep0 r t) : State.fromStep0 r (State.startSchedule j t) := by
  by_cases e : r = j
  · rw [e]
    exact State.startSchedule_self j t
  · have reg := State.startSchedule_other j t (a := RG r 0) (by unfold RG; omega) (by unfold RG; omega)
    obtain ⟨run, step, extra⟩ := h
    refine ⟨(State.bit_congr reg 12).trans run, (State.fld_congr reg 8 4).trans step, ?_⟩
    rw [State.region_congr (s := t.setRegion j { t.region j with wait0 := false, extra := 0 }) (by rfl), State.region_setRegion_ne _ _ _ _ e, extra]

/-- What a step does at its release. -/
theorem State.seqDo_shows (s : State) (code : Nat) : s.changes [.run, .rg, .csr] (s.seqDo code) ∧
    (code = 2 → (s.seqDo code).run.outputs = true) ∧
    (code = 3 → (s.seqDo code).run.setReset = true ∧ ∀ r, r < 96 → ((s.seqDo code).region r).srGate = true) ∧
    (code = 4 → (s.seqDo code).run.writes = true ∧ ∀ r, r < 96 → ((s.seqDo code).region r).ceGate = true) ∧
    (code = 5 → (s.seqDo code).run.sched = true ∧ ∀ r, r < 96 → State.fromStep0 r (s.seqDo code)) := by
  refine ⟨?_, ?_, ?_, ?_, ?_⟩
  · unfold State.seqDo
    split <;> simp
  · rintro rfl
    rfl
  · rintro rfl
    refine ⟨congrArg Run.setReset (State.changes.same (l := [.rg]) (s := { s with run := { s.run with setReset := true } }) (by simp [State.seqDo]) .run (by decide)), fun r hr => ?_⟩
    exact forAll_establishes (P := fun t => (t.region r).srGate = true) hr (fun t => by simp) (fun j t h => by
      by_cases e : r = j
      · simp [e]
      · rw [State.region_setRegion_ne _ _ _ _ e, h]) _
  · rintro rfl
    refine ⟨congrArg Run.writes (State.changes.same (l := [.rg]) (s := { s with run := { s.run with writes := true } }) (by simp [State.seqDo]) .run (by decide)), fun r hr => ?_⟩
    exact forAll_establishes (P := fun t => (t.region r).ceGate = true) hr (fun t => by simp) (fun j t h => by
      by_cases e : r = j
      · simp [e]
      · rw [State.region_setRegion_ne _ _ _ _ e, h]) _
  · rintro rfl
    refine ⟨congrArg Run.sched (State.changes.same (l := [.rg, .csr]) (s := { s with run := { s.run with sched := true } }) (by simp [State.seqDo]) .run (by decide)), fun r hr => ?_⟩
    exact forAll_establishes (f := State.startSchedule) (P := State.fromStep0 r) hr (State.startSchedule_self r) (fun j t h => State.startSchedule_keeps j h) _

/-! ## Releases (R289 to R292) -/

section
variable (l : List Part) (s t : State)

/-- What a queue's operation may change. -/
abbrev queueParts : List Part := [.qs, .csr, .hl, .net]

@[simp] theorem State.changes_endRecord (q : Nat) (h : queueParts ⊆ l) : s.changes l (t.endRecord q) ↔ s.changes l t :=
  State.changes.through ((t.endRecord_leaves q).1.2.mono (by decide)) h s

@[simp] theorem State.changes_updThrottle (q : Nat) (h : queueParts ⊆ l) : s.changes l (t.updThrottle q) ↔ s.changes l t :=
  State.changes.through ((t.updThrottle_shows q).2.2.2.mono (by decide)) h s

@[simp] theorem State.changes_clearQueue (q : Nat) (h : queueParts ⊆ l) : s.changes l (t.clearQueue q) ↔ s.changes l t := by
  obtain ⟨-, -, -, -, frame, -⟩ := t.clearQueue_shows q
  exact State.changes.through (frame.mono (by decide)) h s

@[simp] theorem State.changes_applyDesc (q d : Nat) (h : queueParts ⊆ l) : s.changes l (t.applyDesc q d) ↔ s.changes l t :=
  State.changes.through (by simp [State.applyDesc]) h s

theorem State.changes_applyStaged (r : Nat) (h : queueParts ⊆ l) : s.changes l (t.applyStaged r) ↔ s.changes l t := by
  refine State.changes.through ?_ h s
  unfold State.applyStaged
  extract_lets x u v
  have hu : t.changes queueParts u := by
    unfold u
    split <;> simp
  have hv : u.changes queueParts v := by
    unfold v
    split <;> simp
  refine (hu.trans hv).trans ((State.changes_forAll _ _ _ _ _ fun k w => ?_).2 (State.changes_refl _ _))
  split <;> simp

@[simp] theorem State.changes_putRing (r d w v : Nat) (h : [Part.mem, .flips, .ueSeen] ⊆ l) : s.changes l (t.putRing r d w v) ↔ s.changes l t := by
  simp [State.putRing, h]

@[simp] theorem State.changes_emptyRings (r : Nat) (h : [Part.mem, .flips, .ueSeen] ⊆ l) : s.changes l (t.emptyRings r) ↔ s.changes l t :=
  State.changes.through (by simp [State.emptyRings]) h s

end

/-- Region `r` is out of its hold. -/
theorem State.freeRegion_shows (s : State) (r : Nat) : s.changes [.csr, .rg, .fab, .mem, .flips, .ueSeen] (s.freeRegion r) ∧
    (s.freeRegion r).region r = { srGate := true, ceGate := true, pinStart := true } ∧ (s.freeRegion r).swapPending r = false ∧
    ∀ k, k ≠ r → (s.freeRegion r).region k = s.region k := by
  unfold State.freeRegion
  extract_lets u v fab w
  have hv : s.changes [.csr, .rg] v := by simp [v, u]
  have rest : v.changes [.fab, .mem, .flips, .ueSeen] (w.emptyRings r) := State.changes.trans (t := w) (by rfl) (by simp)
  have rg : ∀ k, (w.emptyRings r).region k = v.region k := State.region_congr (rest.same .rg (by decide))
  refine ⟨(hv.mono (by decide)).trans (rest.mono (by decide)), (rg r).trans (State.region_setRegion_same _ _ _), ?_, fun k h => ?_⟩
  · refine (State.bit_congr (State.reg_congr (rest.same .csr (by decide)) _) 3).trans ?_
    refine (State.bit_setFld_other _ _ _ _ _ (by decide) (by decide)).trans ?_
    refine (State.bit_setBit_other _ _ _ _ (by decide) (by decide)).trans ?_
    exact (State.bit_setFld_other _ _ _ _ _ (by decide) (by decide)).trans (State.bit_setBit_same _ _ _ (by decide))
  · exact (rg k).trans ((State.region_setRegion_ne _ _ _ _ h).trans (State.region_setRegion_ne _ _ _ _ h))

/-- The release of one region. -/
theorem State.releaseAll_one (s : State) (r : Nat) : s.changes [.qs, .csr, .hl, .net, .rg, .fab, .mem, .flips, .ueSeen] (s.releaseAll [r]) ∧
    (s.releaseAll [r]).region r = { srGate := true, ceGate := true, pinStart := true } ∧ (s.releaseAll [r]).stepNo r = 0 ∧
    (s.releaseAll [r]).swapPending r = false ∧ ∀ k, k ≠ r → (s.releaseAll [r]).region k = s.region k := by
  have staged : s.changes queueParts (s.applyStaged r) := (State.changes_applyStaged _ _ _ _ (by simp)).2 (s.changes_refl _)
  obtain ⟨frame, free, calm, others⟩ := (s.applyStaged r).freeRegion_shows r
  have rg : ∀ k, (s.applyStaged r).region k = s.region k := State.region_congr (staged.same .rg (by decide))
  unfold State.releaseAll
  simp only [List.foldl_cons, List.foldl_nil]
  generalize s.applyStaged r = u at *
  generalize u.freeRegion r = v at *
  have last : v.changes [.csr] (v.setStep r 0 (v.shift r 0)) := by simp
  have rg' : ∀ k, (v.setStep r 0 (v.shift r 0)).region k = v.region k := State.region_congr (last.same .rg (by decide))
  refine ⟨((staged.mono (by decide)).trans (frame.mono (by decide))).trans (last.mono (by decide)), (rg' r).trans free, v.stepNo_setStep r _, ?_, fun k h => ?_⟩
  · exact (State.bit_setStep _ _ _ _ (.inl (by decide)) (by decide) (by simp)).trans calm
  · rw [rg' k, others k h, rg k]

/-- What a release edge does to the regions that are due. -/
theorem State.releaseEdge_eq (s : State) {due : List Nat} (h : (List.range 96).filter s.releaseDue = due) : s.releaseEdge =
    (let lost := due.filter (fun r => (s.region r).relMode = 1 && !s.hl.up)
     let go := due.filter (fun r => !lost.contains r)
     let u := lost.foldl State.loseRelease s
     let told := (go.filter (fun r => (go.find? (fun k => (u.region r).group.contains k || k = r)) = some r)).map
       (fun r => (r, (u.region r).relMb, (u.region r).relTag))
     told.foldl (fun t (r, mb, tag) => t.regionReady mb tag r 0) (u.releaseAll go)) := by
  subst h
  rfl

@[simp] theorem State.changes_regionReady (l : List Part) (s t : State) (mb tag r kind : Nat) (h : Part.hl ∈ l) :
    s.changes l (t.regionReady mb tag r kind) ↔ s.changes l t := by simp [State.regionReady, h]

/-- One region that is due is released, and its mailbox told. -/
theorem State.releaseEdge_frees {s : State} {r : Nat} (due : (List.range 96).filter s.releaseDue = [r]) (up : s.hl.up = true) :
    (s.releaseAll [r]).changes [.hl] s.releaseEdge := by
  rw [s.releaseEdge_eq due]
  simp [up]

theorem State.releaseEdge_loses {s : State} {r : Nat} (due : (List.range 96).filter s.releaseDue = [r]) (down : s.hl.up = false)
    (timed : (s.region r).relMode = 1) : s.releaseEdge = s.loseRelease r := by
  rw [s.releaseEdge_eq due]
  simp [down, timed, State.releaseAll]

theorem State.releaseEdge_none {s : State} (due : (List.range 96).filter s.releaseDue = []) : s.releaseEdge = s := by
  rw [s.releaseEdge_eq due]
  rfl

theorem State.loseRelease_shows (s : State) (r : Nat) : s.changes [.rg, .hl] (s.loseRelease r) ∧
    (s.loseRelease r).region r = { s.region r with relMode := 2 } ∧ ∀ k, k ≠ r → (s.loseRelease r).region k = s.region k := by
  unfold State.loseRelease
  extract_lets x u
  have rg : (if x.group.head? = some r then { u with hl := { u.hl with discarded := u.hl.discarded ++ [(x.relMb, x.relTag)], nDiscarded := u.hl.nDiscarded + 1 } }
      else u).rg = u.rg := by split <;> rfl
  have hu : s.changes [.rg, .hl] u := by simp [u]
  refine ⟨?_, (State.region_congr rg r).trans (State.region_setRegion_same _ _ _), fun k h => (State.region_congr rg k).trans (State.region_setRegion_ne _ _ _ _ h)⟩
  split
  · exact hu.trans (by rfl)
  · exact hu

/-! ## The store's engine (R269, R358) -/

theorem State.slot_setSlot (s : State) (k : Nat) (x : Slot) : (s.setSlot k x).slot k = x ∧ ∀ j, j ≠ k → (s.setSlot k x).slot j = s.slot j :=
  ⟨mget_mput_same _ _ _ _, fun _ h => mget_mput_ne _ _ _ _ _ h⟩

theorem State.slot_of_slots {s t : State} (h : t.store.slots = s.store.slots) (k : Nat) : t.slot k = s.slot k := by rw [State.slot, State.slot, h]

/-- The end of a seal: the slot is VALID or INVALID, and its mailbox is told. -/
theorem State.sealDone_eq {s : State} {j : Seal} (sealing : s.store.sealing = some j) (prog : s.store.prog = none) : ∃ gen len d,
    s.sealDone = ((s.setSlot j.slot { s.slot j.slot with st := if (s.sealCheck j.slot).isNone then 2 else 3, gen, len }).setStore
      { (s.setSlot j.slot { s.slot j.slot with st := if (s.sealCheck j.slot).isNone then 2 else 3, gen, len }).store with sealing := none }).direct d ∧
    d.mb = j.mb ∧ d.tag = j.tag ∧ d.code = 1 := by
  unfold State.sealDone
  rw [sealing]
  simp only [prog, Option.isSome_none, Bool.false_eq_true, if_false]
  exact ⟨_, _, _, rfl, rfl, rfl, rfl⟩

/-- Settles O55. -/
theorem sequencing : Obligations.Sequencing := by
  unfold Obligations.Sequencing
  intro s
  refine ⟨fun due waits => ?_, fun due runs => ?_, fun due => completes_by rfl (if_pos (by simp [due])) rfl, fun on rel tick cond => ?_,
    fun on rel out => ?_, fun out => completes_by rfl (if_neg (by simp [out])) rfl, fun r due up => ?_, fun r due down timed => ?_,
    fun due => completes_by rfl (State.releaseEdge_none due) rfl, fun k b prog calm => ?_, fun prog calm => ?_, fun j sealing prog => ?_⟩
  · refine completes_by rfl (t := s.seqRelease) ?_ rfl
    rw [State.seqRelease, if_neg (by simp [due])]
    exact if_pos waits
  · refine completes_by rfl (t := s.seqRelease) (u := (s.seqDo s.sq.step).seqNext) ?_ ?_
    · rw [State.seqRelease, if_neg (by simp [due])]
      exact if_neg (by simp [runs])
    obtain ⟨frame, two, three, four, five⟩ := s.seqDo_shows s.sq.step
    have sq : (s.seqDo s.sq.step).sq = s.sq := frame.same .sq (by decide)
    refine ⟨congrArg (·.slot + 1) sq, rfl, two, three, four, five, ?_⟩
    exact ⟨frame.same .mem (by decide), frame.same .qs (by decide), frame.same .hl (by decide), frame.same .fab (by decide)⟩
  · exact completes_by rfl (if_pos (by rcases cond with h | h <;> simp [on, rel, tick, h])) rfl
  · refine completes_by rfl (if_pos (by simp [on, rel, out])) ⟨rfl, ?_, rfl⟩
    exact List.length_append
  · obtain ⟨frame, free, step, calm, others⟩ := s.releaseAll_one r
    have told := State.releaseEdge_frees due up
    have rg := State.region_congr (told.same .rg (by decide))
    have reg := State.reg_congr (told.same .csr (by decide)) (RG r 0)
    refine completes_intro rfl ?_
    rw [rg, free]
    refine ⟨rfl, rfl, rfl, (State.fld_congr reg 8 4).trans step, (State.bit_congr reg 3).trans calm, fun k h => (rg k).trans (others k h), ?_, ?_⟩
    · exact (told.same .tick (by decide)).trans (frame.same .tick (by decide))
    · exact (told.same .ld (by decide)).trans (frame.same .ld (by decide))
  · obtain ⟨frame, self, others⟩ := s.loseRelease_shows r
    have held : (s.region r).held = true := by
      have mem : r ∈ (List.range 96).filter s.releaseDue := by rw [due]; exact List.mem_singleton.2 rfl
      have := (List.mem_filter.1 mem).2
      simp only [State.releaseDue, Bool.and_eq_true] at this
      exact this.1.1.1.1
    refine completes_by rfl (State.releaseEdge_loses due down timed) ?_
    rw [self]
    exact ⟨held, rfl, others, frame.same .csr (by decide), frame.same .ld (by decide)⟩
  · refine completes_by rfl (t := s.chunkDone) (u := s.finishChunk) ?_ ?_
    · have calm' : s.finishChunk.store.erase = [] := by
        rw [State.finishChunk, prog]
        exact calm
      rw [State.chunkDone, prog]
      exact if_pos (by simp [calm'])
    · have done : s.finishChunk = (s.setSlot k { s.slot k with bytes := (s.slot k).bytes ++ b }).setStore
          { (s.setSlot k { s.slot k with bytes := (s.slot k).bytes ++ b }).store with prog := s.store.next, next := none } := by
        rw [State.finishChunk, prog]
        rfl
      rw [done]
      obtain ⟨self, others⟩ := s.slot_setSlot k { s.slot k with bytes := (s.slot k).bytes ++ b }
      exact ⟨rfl, rfl, rfl, (congrArg Slot.bytes (State.slot_of_slots rfl k)).trans (congrArg Slot.bytes self), fun j h => (State.slot_of_slots rfl j).trans (others j h), rfl⟩
  · refine completes_by rfl (t := s.chunkDone) ?_ rfl
    rw [State.chunkDone, prog]
    exact if_neg (by simp [calm])
  · obtain ⟨gen, len, d, done, mb, tag, code⟩ := State.sealDone_eq sealing prog
    refine completes_by rfl done ?_
    obtain ⟨self, others⟩ := s.slot_setSlot j.slot { s.slot j.slot with st := if (s.sealCheck j.slot).isNone then 2 else 3, gen, len }
    generalize hw : s.setSlot j.slot { s.slot j.slot with st := if (s.sealCheck j.slot).isNone then 2 else 3, gen, len } = w at *
    have slots : ∀ k, ((w.setStore { w.store with sealing := none }).direct d).slot k = w.slot k := State.slot_of_slots rfl
    rw [slots, self]
    refine ⟨rfl, rfl, rfl, rfl, fun k h => (slots k).trans (others k h), ⟨d, ?_, mb, tag, code⟩, ?_⟩
    · rw [← hw]
      rfl
    · rw [← hw]
      rfl

end Sys2Proof.Machine
end

section
/-! The clocks: locks, dead sources, ramps, trim, gates (spec/15 R444 to R461, R509). -/
namespace Sys2Proof.Machine

/-! ## Loops -/

theorem forAll_fixed {f : Nat → State → State} {s : State} (h : ∀ k, f k s = s) (n : Nat) : forAll n f s = s := by
  induction n with
  | zero => rfl
  | succ n ih => rw [forAll_succ, ih, h]

/-- The rounds before round `k` keep what it needs, those after it keep what it establishes. -/
theorem forAll_at {f : Nat → State → State} {I P : State → Prop} {k n : Nat} (hk : k < n) (before : ∀ j t, j ≠ k → I t → I (f j t))
    (does : ∀ t, I t → P (f k t)) (after : ∀ j t, P t → P (f j t)) {s : State} (h : I s) : P (forAll n f s) := by
  have early : ∀ m, m ≤ k → I (forAll m f s) := fun m hm => by
    induction m with
    | zero => exact h
    | succ m ih =>
      rw [forAll_succ]
      exact before m _ (by omega) (ih (by omega))
  induction n with
  | zero => omega
  | succ n ih =>
    rw [forAll_succ]
    by_cases e : k = n
    · subst e
      exact does _ (early k (Nat.le_refl k))
    · exact after n _ (ih (by omega))

/-! ## What the monitors' operations keep -/

/-- Is an event of `code` latched for source `src`? -/
def State.hasLatch (s : State) (code src : Nat) : Prop := ∃ l ∈ s.hl.latches, l.code = code ∧ l.src = src + 1

theorem State.hasLatch_latch {s : State} {code src : Nat} (h : s.hasLatch code src) (c x data : Nat) : (s.latch c x data).hasLatch code src := by
  obtain ⟨l, mem, hl⟩ := h
  unfold State.latch
  extract_lets hit ls
  by_cases hh : hit = true
  · refine ⟨if l.code = c && l.src = x + 1 then { l with merged := l.merged + 1 } else l, ?_, ?_⟩
    · simp only [ls, if_pos hh]
      exact List.mem_map.2 ⟨l, mem, rfl⟩
    · split <;> exact hl
  · refine ⟨l, ?_, hl⟩
    simp only [ls, if_neg hh]
    exact List.mem_append_left _ mem

/-- What a monitor's operation may change. -/
abbrev monitorParts : List Part := [.csr, .hl, .clk, .lane]

/-- The dead sources stay, CK_STATUS keeps the low bits and loses none of the others, and what is latched stays latched. -/
def State.monitors (s t : State) : Prop := s.changes monitorParts t ∧ t.clk.dead = s.clk.dead ∧ (∀ i, i < 8 → t.bit (CK 0) i = s.bit (CK 0) i) ∧
  (∀ i, i < 32 → s.bit (CK 0) i = true → t.bit (CK 0) i = true) ∧ ∀ code src, s.hasLatch code src → t.hasLatch code src

theorem State.monitors_refl (s : State) : s.monitors s := ⟨s.changes_refl _, rfl, fun _ _ => rfl, fun _ _ h => h, fun _ _ h => h⟩

theorem State.monitors.trans {s t u : State} (h : s.monitors t) (k : t.monitors u) : s.monitors u := by
  obtain ⟨h1, h2, h3, h4, h5⟩ := h
  obtain ⟨k1, k2, k3, k4, k5⟩ := k
  exact ⟨h1.trans k1, k2.trans h2, fun i hi => (k3 i hi).trans (h3 i hi), fun i hi hs => k4 i hi (h4 i hi hs), fun c x hs => k5 c x (h5 c x hs)⟩

/-- An operation that leaves CK_STATUS, the latches and the dead sources. -/
theorem State.monitors_of {s t : State} (frame : s.changes monitorParts t) (reg : t.reg (CK 0) = s.reg (CK 0)) (hl : t.hl = s.hl)
    (dead : t.clk.dead = s.clk.dead) : s.monitors t :=
  ⟨frame, dead, fun i _ => State.bit_congr reg i, fun i _ h => (State.bit_congr reg i).trans h, fun _ _ h => by unfold State.hasLatch; rwa [hl]⟩

theorem State.monitors_latch (s : State) (c x data : Nat) : s.monitors (s.latch c x data) :=
  ⟨by simp, rfl, fun _ _ => rfl, fun _ _ h => h, fun _ _ h => State.hasLatch_latch h c x data⟩

theorem State.monitors_setBit (s : State) {a : Nat} (i : Nat) (b : Bool) (h : a ≠ CK 0) : s.monitors (s.setBit a i b) :=
  State.monitors_of (by simp) (s.reg_setBit_ne _ _ _ _ h.symm) rfl rfl

theorem State.monitors_setFld (s : State) {a : Nat} (lo w v : Nat) (h : a ≠ CK 0) : s.monitors (s.setFld a lo w v) :=
  State.monitors_of (by simp) (s.reg_setFld_ne _ _ _ _ _ h.symm) rfl rfl

theorem State.monitors_ite {s t u : State} (c : Prop) [Decidable c] (h : s.monitors t) (k : s.monitors u) : s.monitors (if c then t else u) := by
  split
  · exact h
  · exact k

theorem State.monitors_forAll {f : Nat → State → State} (h : ∀ k t, State.monitors t (f k t)) (n : Nat) (s : State) : s.monitors (forAll n f s) :=
  forAll_keeps (P := fun t => s.monitors t) (fun k t ht => ht.trans (h k t)) n s.monitors_refl

theorem LN_ne_CK (n a b : Nat) (h : b < 0x1000000) : LN n a ≠ CK b := by
  unfold LN CK
  omega

theorem State.monitors_forceMux (s : State) (c : Nat) : s.monitors (s.forceMux c) := by
  refine State.monitors.trans (t := s.setBit (CK 0) 13 true) ⟨by simp, rfl, fun i hi => ?_, fun i hi h => ?_, fun _ _ h => h⟩ (State.monitors_latch _ 4 c c)
  · exact State.bit_setBit_other _ _ _ _ (by omega) (by omega)
  · by_cases e : i = 13
    · rw [e]
      exact State.bit_setBit_same _ _ _ (by decide)
    · exact (State.bit_setBit_other _ _ _ _ hi e).trans h

theorem State.monitors_spllUnlock (s : State) (n : Nat) (hold : Bool) : s.monitors (s.spllUnlock n hold) := by
  unfold State.spllUnlock
  refine State.monitors_ite _ s.monitors_refl ?_
  extract_lets a
  have ne : a ≠ CK 0 := by simp [a]
  exact (((s.monitors_setBit _ _ ne).trans (State.monitors_setBit _ _ _ ne)).trans (State.monitors_setBit _ _ _ ne)).trans (State.monitors_latch _ _ _ _)

theorem State.monitors_laneLost (s : State) (n : Nat) : s.monitors (s.laneLost n) := by
  unfold State.laneLost
  extract_lets u
  have hu : s.monitors u := ((s.monitors_setBit _ _ (LN_ne_CK _ _ _ (by decide))).trans (State.monitors_setBit _ _ _ (LN_ne_CK _ _ _ (by decide)))).trans
    (State.monitors_of (by rfl) (State.reg_inc_ne _ _ _ (LN_ne_CK _ _ _ (by decide)).symm) rfl rfl)
  exact (hu.trans (State.monitors_latch _ _ _ _)).trans (State.monitors_of (by simp) rfl rfl rfl)

theorem State.monitors_laneDown (s : State) (n : Nat) : s.monitors (s.laneDown n) :=
  State.monitors_ite _ s.monitors_refl (s.monitors_laneLost n)

theorem State.monitors_quadUnlock (s : State) (q : Nat) : s.monitors (s.quadUnlock q) := by
  unfold State.quadUnlock
  refine State.monitors_ite _ s.monitors_refl ?_
  exact (((s.monitors_setBit _ _ (LN_ne_CK _ _ _ (by decide))).trans (State.monitors_setBit _ _ _ (LN_ne_CK _ _ _ (by decide)))).trans
    (State.monitors_latch _ _ _ _)).trans (State.monitors_forAll (fun i t => t.monitors_laneDown _) 4 _)

theorem State.monitors_zvlUnlock (s : State) : s.monitors s.zvlUnlock := by
  unfold State.zvlUnlock
  refine State.monitors_ite _ s.monitors_refl ?_
  exact State.monitors.trans (State.monitors_of (by rfl) rfl rfl rfl) (State.monitors_latch _ _ _ _)

theorem State.monitors_trimFollow (s : State) : s.monitors s.trimFollow := by
  unfold State.trimFollow
  extract_lets used
  refine State.monitors_ite _ ?_ s.monitors_refl
  exact (s.monitors_setBit _ _ (by simp)).trans (State.monitors_setFld _ _ _ _ (by simp))

theorem State.monitors_refDead (s : State) (c : Nat) : s.monitors (s.refDead c) := by
  unfold State.refDead
  extract_lets u v
  have hu : s.monitors u := State.monitors_forAll (fun n t => State.monitors_ite _
    ((t.monitors_spllUnlock n true).trans (State.monitors_setBit _ _ _ (by simp))) t.monitors_refl) 6 s
  have hv : u.monitors v := State.monitors_forAll (fun q t => State.monitors_ite _ (t.monitors_quadUnlock q) t.monitors_refl) 24 u
  exact (hu.trans hv).trans (State.monitors_ite _ v.monitors_zvlUnlock v.monitors_refl)

theorem State.monitors_failover (s : State) : s.monitors s.failover := by
  have one (t : State) (c : Nat) : t.monitors (t.failoverOf c) := by
    unfold State.failoverOf
    refine State.monitors_ite _ ?_ t.monitors_refl
    extract_lets forced clk u
    have hu : t.monitors u := State.monitors_of (by rfl) rfl rfl rfl
    exact State.monitors_ite _ (hu.trans (u.monitors_forceMux c)) hu
  exact (one s 2).trans (one _ 3)

/-! ## The surge ramp (R452, R454) -/

/-- An operation of the ramps: the settings, the readiness of the sources and the other registers stay. -/
def State.ramps (s t : State) : Prop := s.monitors t ∧ (∃ g, t.clk = { s.clk with gck := g }) ∧
  (∀ a, a ≠ CK 0 → (∀ k, a ≠ CK (0x100 + 4 * k)) → t.reg a = s.reg a) ∧ ∀ k, t.wanted k = s.wanted k

theorem State.ramps_refl (s : State) : s.ramps s := ⟨s.monitors_refl, ⟨_, rfl⟩, fun _ _ _ => rfl, fun _ => rfl⟩

theorem State.ramps.trans {s t u : State} (h : s.ramps t) (k : t.ramps u) : s.ramps u := by
  obtain ⟨h1, ⟨g, h2⟩, h3, h4⟩ := h
  obtain ⟨k1, ⟨g', k2⟩, k3, k4⟩ := k
  exact ⟨h1.trans k1, ⟨g', by rw [k2, h2]⟩, fun a ha hb => (k3 a ha hb).trans (h3 a ha hb), fun n => (k4 n).trans (h4 n)⟩

theorem State.ramps_setGck (s : State) (n : Nat) (x : Gck) : s.ramps (s.setGck n x) :=
  ⟨State.monitors_of (by simp) rfl rfl rfl, ⟨_, rfl⟩, fun _ _ _ => rfl, fun _ => rfl⟩

theorem State.ramps_forceMux (s : State) (c : Nat) : s.ramps (s.forceMux c) :=
  ⟨s.monitors_forceMux c, ⟨_, rfl⟩, fun a h _ => s.reg_setBit_ne _ _ _ _ h, fun k =>
    Prod.ext (s.fld_setBit_ne _ _ _ _ (by simp)) (congrArg (· + 1) (s.fld_setBit_ne _ _ _ _ (by simp)))⟩

theorem State.ramps_setRamping (s : State) (n : Nat) (b : Bool) : s.ramps (s.setRamping n b) := by
  refine ⟨State.monitors_setBit _ _ _ (by simp), ⟨_, rfl⟩, fun a _ h => s.reg_setBit_ne _ _ _ _ (h n), fun k => ?_⟩
  have fld (lo w : Nat) (h : lo + w ≤ 10) : (s.setRamping n b).fld (CK (0x100 + 4 * k)) lo w = s.fld (CK (0x100 + 4 * k)) lo w := by
    by_cases e : k = n
    · rw [e]
      exact s.fld_setBit_other _ _ _ (by omega) (.inl h)
    · exact s.fld_setBit_ne _ _ _ _ (by simp; omega)
  exact Prod.ext (fld 0 4 (by decide)) (congrArg (· + 1) (fld 4 6 (by decide)))

/-- The sources' readiness under an operation of the ramps. -/
theorem State.ramps.srcReady {s t : State} (h : s.ramps t) (c : Nat) : t.srcReady c = s.srcReady c := by
  obtain ⟨⟨-, -, low, -⟩, -, regs, -⟩ := h
  unfold State.srcReady
  split
  · rfl
  · exact low 0 (by decide)
  · exact low 2 (by decide)
  · exact low 3 (by decide)
  · exact low 4 (by decide)
  · by_cases k : 9 ≤ c ∧ c ≤ 13
    · exact congrArg (decide (9 ≤ c ∧ c ≤ 13) && ·) (State.bit_congr (regs _ (by simp) (fun k => by simp; omega)) 0)
    · simp [k]

theorem State.gckOf_setGck (s : State) (n : Nat) (x : Gck) : (s.setGck n x).gckOf n = x ∧ ∀ k, k ≠ n → (s.setGck n x).gckOf k = s.gckOf k :=
  ⟨mget_mput_same _ _ _ _, fun _ h => mget_mput_ne _ _ _ _ _ h⟩

/-- An operation of the ramp of GCKn: no other clock moves. -/
def State.rampsOnly (n : Nat) (s t : State) : Prop := s.ramps t ∧ ∀ k, k ≠ n → t.gckOf k = s.gckOf k

theorem State.rampEnd_shows (s : State) (n : Nat) : s.rampsOnly n (s.rampEnd n) ∧ ((s.gckOf n).viaBoot = false →
    (s.rampEnd n).gckOf n = { s.gckOf n with ramp := .idle }) := by
  unfold State.rampEnd
  extract_lets g
  split
  · next h =>
    refine ⟨⟨s.ramps_setGck _ _, (s.gckOf_setGck _ _).2⟩, fun via => ?_⟩
    rw [show g.viaBoot = false from via] at h
    simp at h
  · obtain ⟨self, others⟩ := s.gckOf_setGck n { g with viaBoot := false, ramp := .idle }
    refine ⟨⟨(s.ramps_setGck _ _).trans (State.ramps_setRamping _ _ _), others⟩, fun via => self.trans ?_⟩
    rw [← show g.viaBoot = false from via]

/-- The switch, source and divider named. -/
theorem State.rampSwitch_eq (s : State) (n : Nat) : s.rampSwitch n =
    (let src := (s.rampTo n).1
     let d := (s.rampTo n).2
     let was := (s.gckOf n).src
     let u := if was ≠ 0 && s.srcStill was then s.forceMux (if was = 1 then 0 else was) else s
     let v := u.setGck n { u.gckOf n with src, div := if src = 0 then d else 64, ramp := .down }
     if src = 0 ∨ d = 64 then v.rampEnd n else v) := rfl

theorem State.rampSwitch_shows (s : State) (n : Nat) : s.rampsOnly n (s.rampSwitch n) ∧ ((s.gckOf n).viaBoot = false →
    ((s.rampSwitch n).gckOf n).ramp ≠ .waitSrc) := by
  rw [State.rampSwitch_eq]
  extract_lets src d was u g v
  have hu : s.ramps u := by
    unfold u
    split
    · exact s.ramps_forceMux _
    · exact s.ramps_refl
  have gck : ∀ k, u.gckOf k = s.gckOf k := fun k => by
    unfold u
    split <;> rfl
  obtain ⟨self, others⟩ := u.gckOf_setGck n { u.gckOf n with src, div := if src = 0 then d else 64, ramp := .down }
  have moved : s.rampsOnly n v := ⟨hu.trans (u.ramps_setGck _ _), fun k h => (others k h).trans (gck k)⟩
  split
  · obtain ⟨⟨ends, stay⟩, idle⟩ := v.rampEnd_shows n
    refine ⟨⟨moved.1.trans ends, fun k h => (stay k h).trans (moved.2 k h)⟩, fun via => ?_⟩
    rw [idle (by rw [self]; exact (congrArg Gck.viaBoot (gck n)).trans via)]
    exact Ramp.noConfusion
  · refine ⟨moved, fun _ => ?_⟩
    rw [self]
    exact Ramp.noConfusion

theorem State.rampTurn_shows (s : State) (n : Nat) : s.rampsOnly n (s.rampTurn n) ∧ (s.srcReady (s.rampTo n).1 = true → (s.gckOf n).viaBoot = false →
    ((s.rampTurn n).gckOf n).ramp ≠ .waitSrc) := by
  unfold State.rampTurn
  obtain ⟨frame, goes⟩ := s.rampSwitch_shows n
  split
  · exact ⟨frame, fun _ => goes⟩
  · next h => exact ⟨⟨s.ramps_setGck _ _, (s.gckOf_setGck _ _).2⟩, fun ready => absurd ready h⟩

theorem State.rampGo_shows (s : State) (n : Nat) : s.rampsOnly n (s.rampGo n) ∧ (s.srcReady (s.rampTo n).1 = true → (s.gckOf n).viaBoot = false →
    ((s.rampGo n).gckOf n).ramp ≠ .waitSrc) := by
  have set (r : Ramp) (h : r ≠ .waitSrc) : s.rampsOnly n (s.setGck n { s.gckOf n with ramp := r }) ∧
      ((s.setGck n { s.gckOf n with ramp := r }).gckOf n).ramp ≠ .waitSrc :=
    ⟨⟨s.ramps_setGck _ _, (s.gckOf_setGck _ _).2⟩, by rwa [(s.gckOf_setGck _ _).1]⟩
  obtain ⟨ends, idle⟩ := s.rampEnd_shows n
  obtain ⟨turns, moves⟩ := s.rampTurn_shows n
  have go : s.rampGo n = if (s.rampTo n).1 = (s.gckOf n).src then
      if (s.rampTo n).2 = (s.gckOf n).div then s.rampEnd n else s.setGck n { s.gckOf n with ramp := .down }
    else if (s.gckOf n).div = 64 ∨ s.srcDead (s.gckOf n).src then s.rampTurn n else s.setGck n { s.gckOf n with ramp := .up } := rfl
  rw [go]
  split
  · split
    · refine ⟨ends, fun _ via => ?_⟩
      rw [idle via]
      exact Ramp.noConfusion
    · exact ⟨(set .down Ramp.noConfusion).1, fun _ _ => (set .down Ramp.noConfusion).2⟩
  · split
    · exact ⟨turns, moves⟩
    · exact ⟨(set .up Ramp.noConfusion).1, fun _ _ => (set .up Ramp.noConfusion).2⟩

theorem State.ramps_rampReady (s : State) : s.ramps s.rampReady := by
  unfold State.rampReady
  refine forAll_keeps (P := fun t => s.ramps t) (fun k t h => ?_) 16 s.ramps_refl
  split
  · exact h.trans (t.rampGo_shows k).1.1
  · exact h

/-- With no clock that waits, nothing moves. -/
theorem State.rampReady_still {s : State} (still : ∀ k, (s.gckOf k).ramp ≠ .waitSrc) : s.rampReady = s := by
  unfold State.rampReady
  refine forAll_fixed (fun k => ?_) 16
  rw [if_neg (by simp [still k])]

/-- A clock that waits for a source that is ready moves on (R454). -/
theorem State.rampReady_moves {s : State} {k : Nat} (hk : k < 16) (waits : (s.gckOf k).ramp = .waitSrc) (via : (s.gckOf k).viaBoot = false)
    (ready : s.srcReady (s.wanted k).1 = true) : (s.rampReady.gckOf k).ramp ≠ .waitSrc := by
  unfold State.rampReady
  refine forAll_at (I := fun t => s.ramps t ∧ t.gckOf k = s.gckOf k) (P := fun t => (t.gckOf k).ramp ≠ .waitSrc) hk (fun j t ne h => ?_) (fun t h => ?_)
    (fun j t h => ?_) ⟨s.ramps_refl, rfl⟩
  · obtain ⟨moves, same⟩ := h
    split
    · obtain ⟨⟨frame, others⟩, -⟩ := t.rampGo_shows j
      exact ⟨moves.trans frame, (others k ne.symm).trans same⟩
    · exact ⟨moves, same⟩
  · obtain ⟨moves, same⟩ := h
    have same_goal : t.rampTo k = s.wanted k := by
      rw [State.rampTo, same, via]
      exact moves.2.2.2 k
    have go : t.srcReady (t.rampTo k).1 = true := by rw [same_goal, moves.srcReady, ready]
    rw [if_pos (by simp [same, waits, go])]
    exact (t.rampGo_shows k).2 go (by rw [same, via])
  · split
    · next run =>
      by_cases e : k = j
      · subst e
        simp [h] at run
      · rwa [(t.rampGo_shows j).1.2 k e]
    · exact h

/-- What an operation of the monitors, or a free value, leaves. -/
theorem State.monitors_calm {s t : State} (h : s.changes (.free :: monitorParts) t) : t.mem = s.mem ∧ t.qs = s.qs ∧ t.rg = s.rg ∧ t.tick = s.tick ∧
    t.fab = s.fab ∧ t.mb = s.mb ∧ t.life = s.life :=
  ⟨h.same .mem (by decide), h.same .qs (by decide), h.same .rg (by decide), h.same .tick (by decide), h.same .fab (by decide),
    h.same .mb (by decide), h.same .life (by decide)⟩

theorem State.monitors.calm {s t : State} (h : s.monitors t) : t.mem = s.mem ∧ t.qs = s.qs ∧ t.rg = s.rg ∧ t.tick = s.tick ∧
    t.fab = s.fab ∧ t.mb = s.mb ∧ t.life = s.life := State.monitors_calm (h.1.mono (by decide))

/-! ## Locks -/

/-- SPLL `n` as it locks, before any clock follows. -/
def State.spllLocks (s : State) (n : Nat) : State :=
  let s := (s.setBit (CK (0x48 + 0x10 * n)) 0 true).setBit (CK (0x48 + 0x10 * n)) 1 false
  { s with clk := { s.clk with relock := s.clk.relock.filter (· ≠ n), dead := s.clk.dead.filter (· ≠ n + 8) } }

theorem State.spllLocks_shows (s : State) (n : Nat) : (s.spllLocks n).spllLock n = true ∧ (s.spllLocks n).bit (CK (0x48 + 0x10 * n)) 1 = false :=
  ⟨(State.bit_setBit_other _ _ _ _ (by decide) (by decide)).trans (State.bit_setBit_same _ _ _ (by decide)), State.bit_setBit_same _ _ _ (by decide)⟩

/-- The lock of an SPLL: shown, and each clock that waits for it moves on (R444, R454). -/
theorem State.locks_spll (s : State) (n : Fin 6) : (s.locks (.spll n)).spllLock n = true ∧
    (s.locks (.spll n)).bit (CK (0x48 + 0x10 * n.val)) 1 = false ∧ s.changes (.free :: monitorParts) (s.locks (.spll n)) ∧
    ((∀ k, (s.gckOf k).ramp ≠ .waitSrc) → (s.locks (.spll n)).hl = s.hl ∧ ∀ k, (s.locks (.spll n)).gckOf k = s.gckOf k) ∧
    (1 ≤ n.val → ∀ k, k < 16 → (s.gckOf k).ramp = .waitSrc → (s.rampTo k).1 = n.val + 8 → ((s.locks (.spll n)).gckOf k).ramp ≠ .waitSrc) := by
  have run : s.locks (.spll n) = (s.spllLocks n).rampReady := rfl
  obtain ⟨lock, hold⟩ := s.spllLocks_shows n
  have frame : s.changes (.free :: monitorParts) (s.spllLocks n) := by rfl
  have gck : ∀ k, (s.spllLocks n).gckOf k = s.gckOf k := fun _ => rfl
  have hl : (s.spllLocks n).hl = s.hl := rfl
  have wants : ∀ k, (s.spllLocks n).wanted k = s.wanted k := fun k =>
    Prod.ext ((State.fld_setBit_ne _ _ _ _ _ (by simp; omega)).trans (State.fld_setBit_ne _ _ _ _ _ (by simp; omega)))
      (congrArg (· + 1) ((State.fld_setBit_ne _ _ _ _ _ (by simp; omega)).trans (State.fld_setBit_ne _ _ _ _ _ (by simp; omega))))
  rw [run]
  generalize s.spllLocks n = w at *
  obtain ⟨mon, -, regs, -⟩ := w.ramps_rampReady
  have reg : w.rampReady.reg (CK (0x48 + 0x10 * n.val)) = w.reg (CK (0x48 + 0x10 * n.val)) := regs _ (by simp) (fun k => by simp; omega)
  refine ⟨(State.bit_congr reg 0).trans lock, (State.bit_congr reg 1).trans hold, frame.trans (mon.1.mono (by decide)), fun still => ?_, fun h1 k hk waits to_n => ?_⟩
  · rw [State.rampReady_still (fun k => by rw [gck k]; exact still k)]
    exact ⟨hl, gck⟩
  · have via : (s.gckOf k).viaBoot = false := by
      by_contra h
      rw [State.rampTo, if_pos (by simpa using h)] at to_n
      simp at to_n
    rw [State.rampTo, via] at to_n
    have code : (s.wanted k).1 = n.val + 8 := to_n
    have ready : w.srcReady (w.wanted k).1 = true := by
      rw [wants k, code]
      have : w.srcReady (n.val + 8) = (decide (9 ≤ n.val + 8 ∧ n.val + 8 ≤ 13) && w.spllLock (n.val + 8 - 8)) := rfl
      rw [this, Nat.add_sub_cancel, lock, decide_eq_true (by omega)]
      rfl
    exact State.rampReady_moves hk (by rw [gck k]; exact waits) (by rw [gck k]; exact via) ready

/-- The lock of the ZVL PLL. -/
theorem State.locks_zvl (s : State) : (s.locks .zvl).clk.zvlLock = true ∧ (s.locks .zvl).alive 4 = true ∧
    s.changes (.free :: monitorParts) (s.locks .zvl) ∧ ((∀ k, (s.gckOf k).ramp ≠ .waitSrc) → (s.locks .zvl).hl = s.hl) := by
  have run : s.locks .zvl = (({ s with clk := { s.clk with zvlLock := true, zrecSeen := true, dead := s.clk.dead.filter (· ≠ 4) } } : State).setBit
    (CK 0) 4 true).rampReady := rfl
  have shown := State.bit_setBit_same ({ s with clk := { s.clk with zvlLock := true, zrecSeen := true, dead := s.clk.dead.filter (· ≠ 4) } } : State)
    (CK 0) true (i := 4) (by decide)
  rw [run]
  generalize hw : ({ s with clk := { s.clk with zvlLock := true, zrecSeen := true, dead := s.clk.dead.filter (· ≠ 4) } } : State).setBit (CK 0) 4 true = w at *
  obtain ⟨mon, ⟨g, clk⟩, -, -⟩ := w.ramps_rampReady
  refine ⟨?_, (mon.2.2.1 4 (by decide)).trans shown, ?_, fun still => ?_⟩
  · rw [clk, ← hw]
    rfl
  · exact State.changes.trans (t := w) (by rw [← hw]; rfl) (mon.1.mono (by decide))
  · rw [State.rampReady_still (fun k => by rw [← hw]; exact still k), ← hw]
    rfl

/-! ## Losses of lock -/

theorem State.spllUnlock_locked {s : State} {n : Nat} (h : s.spllLock n = true) (hold : Bool) :
    (s.spllUnlock n hold).spllLock n = false ∧ (s.spllUnlock n hold).bit (CK (0x48 + 0x10 * n)) 8 = true ∧
    (s.spllUnlock n hold).bit (CK (0x48 + 0x10 * n)) 1 = hold ∧ (s.spllUnlock n hold).hasLatch 5 n ∧
    (∀ a, a ≠ CK (0x48 + 0x10 * n) → (s.spllUnlock n hold).reg a = s.reg a) ∧ { s.spllUnlock n hold with csr := s.csr, hl := s.hl } = s := by
  have run : s.spllUnlock n hold = (((s.setBit (CK (0x48 + 0x10 * n)) 0 false).setBit (CK (0x48 + 0x10 * n)) 8 true).setBit (CK (0x48 + 0x10 * n)) 1
      hold).latch 5 n n := if_neg (by simp [h])
  rw [run]
  refine ⟨?_, ?_, State.bit_setBit_same _ _ _ (by decide), State.latch_mem _ 5 n n, fun a ne => ?_, rfl⟩
  · exact (State.bit_setBit_other _ _ _ _ (by decide) (by decide)).trans
      ((State.bit_setBit_other _ _ _ _ (by decide) (by decide)).trans (State.bit_setBit_same _ _ _ (by decide)))
  · exact (State.bit_setBit_other _ _ _ _ (by decide) (by decide)).trans (State.bit_setBit_same _ _ _ (by decide))
  · exact (State.reg_setBit_ne _ _ _ _ _ ne).trans ((State.reg_setBit_ne _ _ _ _ _ ne).trans (State.reg_setBit_ne _ _ _ _ _ ne))

/-- However it stood, the SPLL shows no lock after a loss, and the clocks' own state stays. -/
theorem State.spllUnlock_shows (s : State) (n : Nat) (hold : Bool) : (s.spllUnlock n hold).spllLock n = false ∧ (s.spllUnlock n hold).clk = s.clk := by
  by_cases h : s.spllLock n = true
  · obtain ⟨lock, -, -, -, -, frame⟩ := State.spllUnlock_locked h hold
    exact ⟨lock, (congrArg State.clk frame :)⟩
  · have stays : s.spllUnlock n hold = s := if_pos (by simpa using h)
    rw [stays]
    exact ⟨by simpa using h, rfl⟩

theorem State.laneDown_reg (s : State) (n : Nat) {a : Nat} (h : a ≠ LN n 0x10) (h' : a ≠ LN n 0x28) : (s.laneDown n).reg a = s.reg a := by
  unfold State.laneDown
  split
  · rfl
  · exact (State.reg_inc_ne _ _ _ h').trans ((State.reg_setBit_ne _ _ _ _ _ h).trans (State.reg_setBit_ne _ _ _ _ _ h))

theorem State.laneDown_aligned (s : State) (n : Nat) : (s.laneDown n).aligned n = false ∧ ∀ k, k ≠ n → (s.laneDown n).aligned k = s.aligned k := by
  refine ⟨?_, fun k ne => State.bit_congr (s.laneDown_reg n (by unfold LN; omega) (by unfold LN; omega)) 2⟩
  unfold State.laneDown
  split
  · next h => simpa [State.aligned] using h
  · refine (State.bit_congr (State.reg_inc_ne _ _ _ (by simp)) 2).trans ?_
    exact (State.bit_setBit_other _ _ _ _ (by decide) (by decide)).trans (State.bit_setBit_same _ _ _ (by decide))

/-- A quad PLL loses lock, and its four lanes their alignment (R480). -/
theorem State.quadUnlock_locked {s : State} {q : Nat} (h : s.bit (LN (4 * q) 0x808) 0 = true) : (s.quadUnlock q).bit (LN (4 * q) 0x808) 0 = false ∧
    (∀ i, i < 4 → (s.quadUnlock q).aligned (4 * q + i) = false) ∧ (s.quadUnlock q).hasLatch 5 (0x10 + q) := by
  have run : s.quadUnlock q = forAll 4 (fun i t => t.laneDown (4 * q + i)) ((((s.setBit (LN (4 * q) 0x808) 0 false).setBit (LN (4 * q) 0x808) 8 true)).latch
      5 (0x10 + q) (0x10 + q)) := by
    unfold State.quadUnlock
    rw [if_neg (by simp [h])]
    rfl
  have shown : ((s.setBit (LN (4 * q) 0x808) 0 false).setBit (LN (4 * q) 0x808) 8 true).bit (LN (4 * q) 0x808) 0 = false := by
    rw [State.bit_setBit_other _ _ _ _ (by decide) (by decide), State.bit_setBit_same _ _ _ (by decide)]
  have latched := State.latch_mem ((s.setBit (LN (4 * q) 0x808) 0 false).setBit (LN (4 * q) 0x808) 8 true) 5 (0x10 + q) (0x10 + q)
  rw [run]
  generalize (s.setBit (LN (4 * q) 0x808) 0 false).setBit (LN (4 * q) 0x808) 8 true = u at *
  have reg (i : Nat) (t : State) : (t.laneDown (4 * q + i)).bit (LN (4 * q) 0x808) 0 = t.bit (LN (4 * q) 0x808) 0 :=
    State.bit_congr (t.laneDown_reg _ (by unfold LN; omega) (by unfold LN; omega)) 0
  have kept := forAll_leaves (fun t => t.bit (LN (4 * q) 0x808) 0) reg 4 (u.latch 5 (0x10 + q) (0x10 + q))
  have mon := State.monitors_forAll (fun i t => t.monitors_laneDown (4 * q + i)) 4 (u.latch 5 (0x10 + q) (0x10 + q))
  refine ⟨kept.trans shown, fun i hi => ?_, mon.2.2.2.2 5 (0x10 + q) latched⟩
  refine forAll_establishes (f := fun i t => t.laneDown (4 * q + i)) (P := fun t => t.aligned (4 * q + i) = false) hi (fun t => (t.laneDown_aligned _).1) (fun j t ht => ?_) _
  by_cases e : 4 * q + i = 4 * q + j
  · rw [e]
    exact (t.laneDown_aligned _).1
  · rw [(t.laneDown_aligned _).2 _ e, ht]

/-! ## Dead and living sources -/

/-- A source that is not a PLL is declared dead (R455). -/
theorem State.clockDead_source {s : State} {c : Nat} {e : Bool} (h : s.mayDie c e = true) (hc : c < 8) : (s.clockDead c e).bit (CK 0) (8 + c) = true ∧
    s.changes monitorParts (s.clockDead c e) ∧ c ∈ (s.clockDead c e).clk.dead ∧ (s.clockDead c e).alive c = e ∧ (s.clockDead c e).hasLatch 4 c := by
  have run : s.clockDead c e =
      (let u : State := { s with clk := { s.clk with dead := s.clk.dead ++ [c] } }
       let w := ((u.latch 4 c c).setBit (CK 0) (8 + c) true).setBit (CK 0) c e
       let x := (w.trimFollow.refDead c).failover
       if c = 0 then ({ x with clk := { x.clk with spll0Hold := true } } : State).forceMux 0 else x) :=
    (if_neg (by simp [h])).trans (if_neg (by omega))
  rw [run]
  extract_lets _ u w x
  have latched : w.hasLatch 4 c := State.latch_mem u 4 c c
  have frame : s.changes monitorParts w := by rfl
  have dead : c ∈ w.clk.dead := List.mem_append_right _ (List.mem_singleton.2 rfl)
  have shown : w.bit (CK 0) (8 + c) = true :=
    (State.bit_setBit_other _ _ _ _ (by omega) (by omega)).trans (State.bit_setBit_same _ _ _ (by omega))
  have edges : w.bit (CK 0) c = e := State.bit_setBit_same _ _ _ (by omega)
  have hx : w.monitors x := ((w.monitors_trimFollow).trans (State.monitors_refDead _ c)).trans (State.monitors_failover _)
  clear_value x
  have last : w.monitors (if c = 0 then ({ x with clk := { x.clk with spll0Hold := true } } : State).forceMux 0 else x) :=
    State.monitors_ite _ ((hx.trans (State.monitors_of (by rfl) rfl rfl rfl)).trans (State.monitors_forceMux _ 0)) hx
  obtain ⟨m1, m2, m3, m4, m5⟩ := last
  exact ⟨m4 _ (by omega) shown, frame.trans m1, m2 ▸ dead, (m3 c hc).trans edges, m5 4 c latched⟩

/-- A running SPLL is declared dead. -/
theorem State.clockDead_spll {s : State} {c : Nat} {e : Bool} (h : s.mayDie c e = true) (hc : 8 ≤ c) : (s.clockDead c e).spllLock (c - 8) = false ∧
    s.changes monitorParts (s.clockDead c e) ∧ (s.clockDead c e).clk = { s.clk with dead := s.clk.dead ++ [c] } ∧ (s.clockDead c e).hasLatch 4 c := by
  have run : s.clockDead c e =
      (let u : State := { s with clk := { s.clk with dead := s.clk.dead ++ [c] } }
       (u.latch 4 c c).spllUnlock (c - 8) false) := (if_neg (by simp [h])).trans (if_pos hc)
  rw [run]
  generalize hu : ({ s with clk := { s.clk with dead := s.clk.dead ++ [c] } } : State) = u
  obtain ⟨lock, same⟩ := (u.latch 4 c c).spllUnlock_shows (c - 8) false
  have mon := (u.latch 4 c c).monitors_spllUnlock (c - 8) false
  exact ⟨lock, State.changes.trans (t := u.latch 4 c c) (by rw [← hu]; rfl) mon.1, same.trans (by rw [← hu]; rfl), mon.2.2.2.2 4 c (State.latch_mem u 4 c c)⟩

theorem State.failover_off {s : State} (h : s.bit (CK 4) 0 = false) : s.failover = s := by
  have one (c : Nat) : s.failoverOf c = s := if_neg (by simp [h])
  rw [State.failover, one, one]

theorem State.clockAlive_shows {s : State} {c : Nat} (hc : c < 4) : (s.clockAlive c).alive c = true ∧ c ∉ (s.clockAlive c).clk.dead ∧
    s.changes monitorParts (s.clockAlive c) ∧
    ((∀ k, (s.gckOf k).ramp ≠ .waitSrc) → s.bit (CK 4) 0 = false → (s.clockAlive c).hl = s.hl) := by
  unfold State.clockAlive
  rw [if_pos (.inl hc)]
  have shown := State.bit_setBit_same ({ s with clk := { s.clk with dead := s.clk.dead.filter (· ≠ c) } } : State) (CK 0) true (i := c) (by omega)
  have far := State.bit_setBit_ne ({ s with clk := { s.clk with dead := s.clk.dead.filter (· ≠ c) } } : State) c true 0 (show CK 4 ≠ CK 0 by simp)
  have frame : s.changes monitorParts (({ s with clk := { s.clk with dead := s.clk.dead.filter (· ≠ c) } } : State).setBit (CK 0) c true) := by rfl
  have gone : c ∉ (({ s with clk := { s.clk with dead := s.clk.dead.filter (· ≠ c) } } : State).setBit (CK 0) c true).clk.dead := by
    show c ∉ s.clk.dead.filter (· ≠ c)
    simp
  have hl : (({ s with clk := { s.clk with dead := s.clk.dead.filter (· ≠ c) } } : State).setBit (CK 0) c true).hl = s.hl := rfl
  have gck : ∀ k, (({ s with clk := { s.clk with dead := s.clk.dead.filter (· ≠ c) } } : State).setBit (CK 0) c true).gckOf k = s.gckOf k := fun _ => rfl
  generalize ({ s with clk := { s.clk with dead := s.clk.dead.filter (· ≠ c) } } : State).setBit (CK 0) c true = w at *
  obtain ⟨m1, m2, m3, -, -⟩ := (w.monitors_failover).trans (State.ramps_rampReady _).1
  refine ⟨(m3 c (by omega)).trans shown, by rw [m2]; exact gone, frame.trans m1, fun still off => ?_⟩
  rw [State.failover_off (far.trans off), State.rampReady_still (fun k => by rw [gck k]; exact still k), hl]

/-! ## SPLL0 on a crystal (R509) -/

/-- Multiplier and its fraction in parts of `f` come within one step of the frequency asked for, and the multiplier fits its field. -/
theorem spll0_divider {f od r kHz up total : Nat} (hf : 0 < f) (hod : od ≤ 5) (hr : r ≤ kHz / 10000) (hk : 10000 ≤ kHz) (hup : up ≤ 1)
    (ht : total = od * 1000000 * r * f / kHz + up) : total / f < 512 ∧ total * kHz ≤ od * 1000000 * r * f + kHz ∧
    od * 1000000 * r * f ≤ total * kHz + kHz := by
  have most : od * 1000000 * r * f ≤ kHz * (500 * f) := by
    have h1 : od * r ≤ 5 * (kHz / 10000) := Nat.mul_le_mul hod hr
    have h2 : od * r * 1000000 ≤ 500 * kHz := by omega
    calc od * 1000000 * r * f = od * r * 1000000 * f := by ring
      _ ≤ 500 * kHz * f := Nat.mul_le_mul_right f h2
      _ = kHz * (500 * f) := by ring
  generalize od * 1000000 * r * f = num at *
  have split := Nat.div_add_mod num kHz
  have rest := Nat.mod_lt num (show 0 < kHz by omega)
  have less : num / kHz ≤ 500 * f := Nat.div_le_of_le_mul most
  have prod : total * kHz = kHz * (num / kHz) + up * kHz := by rw [ht]; ring
  have add : up * kHz ≤ 1 * kHz := Nat.mul_le_mul_right _ hup
  refine ⟨(Nat.div_lt_iff_lt_mul hf).2 (by omega), ?_, ?_⟩
  · omega
  · omega

/-- The settings of CK_SPLL0_CFG, written one after another. -/
def State.setSpll0 (s : State) (ref r n od : Nat) : State :=
  (((s.setFld (CK 0x40) 1 2 ref).setFld (CK 0x40) 3 4 r).setFld (CK 0x40) 7 9 n).setFld (CK 0x40) 16 5 od

theorem State.setSpll0_shows (s : State) (ref r n od : Nat) : (s.setSpll0 ref r n od).fld (CK 0x40) 1 2 = ref % 4 ∧
    (s.setSpll0 ref r n od).fld (CK 0x40) 3 4 = r % 16 ∧ (s.setSpll0 ref r n od).fld (CK 0x40) 7 9 = n % 512 ∧
    (s.setSpll0 ref r n od).fld (CK 0x40) 16 5 = od % 32 ∧ ∀ a, a ≠ CK 0x40 → (s.setSpll0 ref r n od).reg a = s.reg a := by
  unfold State.setSpll0
  refine ⟨?_, ?_, ?_, State.fld_setFld_same _ _ _ (by decide), fun a h => ?_⟩
  · rw [State.fld_setFld_other _ _ _ _ _ (by decide) (by decide), State.fld_setFld_other _ _ _ _ _ (by decide) (by decide),
      State.fld_setFld_other _ _ _ _ _ (by decide) (by decide), State.fld_setFld_same _ _ _ (by decide)]
    rfl
  · rw [State.fld_setFld_other _ _ _ _ _ (by decide) (by decide), State.fld_setFld_other _ _ _ _ _ (by decide) (by decide),
      State.fld_setFld_same _ _ _ (by decide)]
    rfl
  · rw [State.fld_setFld_other _ _ _ _ _ (by decide) (by decide), State.fld_setFld_same _ _ _ (by decide)]
    rfl
  · rw [State.reg_setFld_ne _ _ _ _ _ _ h, State.reg_setFld_ne _ _ _ _ _ _ h, State.reg_setFld_ne _ _ _ _ _ _ h, State.reg_setFld_ne _ _ _ _ _ _ h]

/-- The move to XTA: which settings are taken depends on two free values. -/
theorem State.spll0Move_moves {s : State} (hold : s.clk.spll0Hold = true) (xta : s.trimPresent 1 = true) {f : Nat} (hf : f = 2 ^ 24) :
    ∃ od r up total u w, od ≤ 5 ∧ 1 ≤ r ∧ (10000 ≤ s.fld (CK 8) 0 16 → r ≤ s.fld (CK 8) 0 16 / 10000) ∧ up ≤ 1 ∧
      total = od * 1000000 * r * f / s.fld (CK 8) 0 16 + up ∧ s.changes [.free] u ∧
      w = (u.setSpll0 1 (r - 1) (total / f) od).setReg (CK 0x44) (total % f) ∧
      s.spll0Move = { w with clk := { w.clk with spll0Hold := false, fastPs := some (w.clk.fastPs.getD w.timePs) } } := by
  have run : s.spll0Move = _ := if_neg (by simp [hold])
  simp only [xta, if_true, ← hf] at run
  rw [show s.draw.2.draw.2.fld (CK 8) (16 * (1 - 1)) 16 = s.fld (CK 8) 0 16 from rfl] at run
  generalize s.draw.2.draw.1 = b at run
  generalize s.draw.1 = a at run
  have fits : 10000 ≤ s.fld (CK 8) 0 16 → 1 + a / 4 % (s.fld (CK 8) 0 16 / 10000) ≤ s.fld (CK 8) 0 16 / 10000 := fun h => by
    have := Nat.mod_lt (a / 4) (show 0 < s.fld (CK 8) 0 16 / 10000 by omega)
    omega
  have few : 2 + a % 4 ≤ 5 := by omega
  generalize s.fld (CK 8) 0 16 = kHz at *
  have one : 1 ≤ 1 + a / 4 % (kHz / 10000) := Nat.le_add_right 1 _
  generalize 1 + a / 4 % (kHz / 10000) = r at *
  generalize 2 + a % 4 = od at *
  obtain ⟨up, hup⟩ : ∃ up, (if od * 1000000 * r * f % kHz = 0 then 0 else b % 2) = up := ⟨_, rfl⟩
  have little : up ≤ 1 := by
    rw [← hup]
    split <;> omega
  obtain ⟨total, ht⟩ : ∃ total, od * 1000000 * r * f / kHz + up = total := ⟨_, rfl⟩
  rw [hup, ht, if_neg (by decide)] at run
  refine ⟨od, r, up, total, s.draw.2.draw.2, _, few, one, fits, little, ht.symm, by rfl, rfl, run.trans ?_⟩
  rw [State.setSpll0]
  generalize State.setReg _ (CK 68) _ = w
  rfl

/-! ## Trim (R449) -/

theorem signed_unsigned {c : Int} (lo : -1024 ≤ c) (hi : c ≤ 1023) : signed (unsigned c 11 % 2 ^ 11) 11 = c := by
  unfold signed unsigned
  norm_num
  split <;> omega

theorem signed_range (x : Nat) : -1024 ≤ signed x 11 ∧ signed x 11 ≤ 1023 := by
  unfold signed
  norm_num
  split <;> omega

theorem State.roundStep_frame (s : State) (e : Int) : s.changes [.free] (s.roundStep e).2 := by
  unfold State.roundStep
  extract_lets q r
  split
  · rfl
  · split
    · rfl
    · rfl

/-- The code after a window that moves it by `k`. -/
def State.trimCode (s : State) (k : Int) : Nat := unsigned (max (-1023) (min 1023 (signed (s.fld (CK 0x14) 0 11) 11 + k))) 11

/-- Windows in a row within 0.03 %. -/
def State.goodNext (s : State) (e : Int) : Nat := if -300 ≤ e ∧ e ≤ 300 then s.clk.good + 1 else 0

/-- A window from its step on, in the state that shows the reference. -/
def State.trimStep (u : State) (k e : Int) : State :=
  let v := u.setFld (CK 0x14) 0 11 (u.trimCode (if u.bit (CK 0x14) 11 then max (-1) (min 1 k) else k))
  let w := { v with clk := { v.clk with good := v.goodNext e } }
  if 2 ≤ v.goodNext e ∧ !w.bit (CK 0x14) 11 then (w.setBit (CK 0x14) 11 true).spll0Full else w

theorem State.trimWindow_eq {s : State} (e : Int) (en : s.bit (CK 0x10) 0 = true) (alive : s.alive 0 = true) (ref : s.trimRef ≠ 0) :
    ∃ k u, (s.setFld (CK 0x14) 12 2 s.trimRef).changes [.free] u ∧ s.trimWindow e = State.trimStep u k e := by
  have run : s.trimWindow e = State.trimStep ((s.setFld (CK 0x14) 12 2 s.trimRef).roundStep e).2 ((s.setFld (CK 0x14) 12 2 s.trimRef).roundStep e).1 e :=
    (if_neg (by simp [en, alive])).trans (if_neg ref)
  exact ⟨_, _, State.roundStep_frame _ e, run⟩

theorem State.trimStep_frame (u : State) (k e : Int) : u.changes [.csr, .clk] (u.trimStep k e) := by
  unfold State.trimStep
  extract_lets v c w
  have hw : u.changes [.csr, .clk] w := by rfl
  split
  · refine hw.trans ?_
    unfold State.spll0Full State.fastNow
    extract_lets x
    split <;> rfl
  · exact hw

/-- Once FOSC is trimmed the code moves by one step at most, and no other field or register does. -/
theorem State.trimStep_trimmed {u : State} (k e : Int) (done : u.bit (CK 0x14) 11 = true) :
    (signed ((u.trimStep k e).fld (CK 0x14) 0 11) 11 - signed (u.fld (CK 0x14) 0 11) 11).natAbs ≤ 1 ∧
    (u.trimStep k e).fld (CK 0x14) 12 2 = u.fld (CK 0x14) 12 2 ∧ ∀ a, a ≠ CK 0x14 → (u.trimStep k e).reg a = u.reg a := by
  obtain ⟨lo, hi⟩ := signed_range (u.fld (CK 0x14) 0 11)
  unfold State.trimStep
  rw [if_pos done]
  extract_lets v c w
  have reg : ∀ a, a ≠ CK 0x14 → w.reg a = u.reg a := fun a h => u.reg_setFld_ne _ _ _ _ _ h
  have ref : w.fld (CK 0x14) 12 2 = u.fld (CK 0x14) 12 2 := u.fld_setFld_other _ _ _ _ (by decide) (by decide)
  have still : w.bit (CK 0x14) 11 = true := (u.bit_setFld_other (CK 0x14) 0 11 _ (by decide) (by decide)).trans done
  have code : w.fld (CK 0x14) 0 11 = u.trimCode (max (-1) (min 1 k)) % 2 ^ 11 := u.fld_setFld_same _ _ (by decide)
  clear_value w
  rw [if_neg (by simp [still])]
  refine ⟨?_, ref, reg⟩
  rw [code, State.trimCode, signed_unsigned (by omega) (by omega)]
  omega

/-- The second good window in a row makes FOSC trimmed, and SPLL0 runs at full speed (R445). -/
theorem State.trimStep_completes {u : State} (k : Int) {e : Int} (done : u.bit (CK 0x14) 11 = false) (good : 1 ≤ u.clk.good) (lo : -300 ≤ e) (hi : e ≤ 300) :
    (u.trimStep k e).bit (CK 0x14) 11 = true ∧ (u.trimStep k e).clk.fastPs.isSome = true ∧
    (u.fld (CK 0x40) 1 2 = 0 → (u.trimStep k e).fld (CK 0x40) 7 9 = 50) ∧
    (u.fld (CK 0x40) 1 2 ≠ 0 → (u.trimStep k e).reg (CK 0x40) = u.reg (CK 0x40)) := by
  unfold State.trimStep
  rw [if_neg (show ¬u.bit (CK 0x14) 11 = true by simp [done])]
  extract_lets v c w
  have next : v.goodNext e = u.clk.good + 1 := if_pos ⟨lo, hi⟩
  have off : w.bit (CK 0x14) 11 = false := (u.bit_setFld_other (CK 0x14) 0 11 _ (by decide) (by decide)).trans done
  have reg : w.reg (CK 0x40) = u.reg (CK 0x40) := u.reg_setFld_ne _ _ _ _ _ (by simp)
  rw [if_pos ⟨by omega, by simp [off]⟩]
  clear_value w
  have reg' : (w.setBit (CK 0x14) 11 true).fastNow.reg (CK 0x40) = u.reg (CK 0x40) := (w.reg_setBit_ne _ _ _ _ (by simp)).trans reg
  have shown : (w.setBit (CK 0x14) 11 true).fastNow.bit (CK 0x14) 11 = true := w.bit_setBit_same _ _ (by decide)
  have fast : (w.setBit (CK 0x14) 11 true).fastNow.clk.fastPs.isSome = true := rfl
  unfold State.spll0Full
  generalize (w.setBit (CK 0x14) 11 true).fastNow = x at *
  have ref : x.fld (CK 0x40) 1 2 = u.fld (CK 0x40) 1 2 := State.fld_congr reg' 1 2
  dsimp only
  rw [ref]
  split
  · next h => exact ⟨(x.bit_setFld_ne _ _ _ _ (by simp)).trans shown, fast, fun _ => x.fld_setFld_same _ _ (by decide), fun n => absurd h n⟩
  · next h => exact ⟨shown, fast, fun n => absurd n h, fun _ => reg'⟩

/-! ## Ramps and gates -/

/-- A step down of the divider, with no clock that waits (R452). -/
theorem State.rampStep_down {s : State} {n : Nat} (down : (s.gckOf n).ramp = .down) (more : (s.rampTo n).2 < (s.gckOf n).div)
    (via : (s.gckOf n).viaBoot = false) (still : ∀ k, (s.gckOf k).ramp ≠ .waitSrc) : let t := (s.rampStep n).rampReady
    (t.gckOf n).div = (s.gckOf n).div - 1 ∧ (∀ k, k ≠ n → t.gckOf k = s.gckOf k) ∧ s.ramps t ∧ t.hl = s.hl := by
  intro t
  have step : s.rampStep n = (let u := s.setGck n { s.gckOf n with div := (s.gckOf n).div - 1 }
      if (s.gckOf n).div - 1 = (s.rampTo n).2 then u.rampEnd n else u) := by
    simp only [State.rampStep, down, if_pos more]
  obtain ⟨self, others⟩ := s.gckOf_setGck n { s.gckOf n with div := (s.gckOf n).div - 1 }
  have set := s.ramps_setGck n { s.gckOf n with div := (s.gckOf n).div - 1 }
  have hl : (s.setGck n { s.gckOf n with div := (s.gckOf n).div - 1 }).hl = s.hl := rfl
  have shown : ((s.rampStep n).gckOf n).div = (s.gckOf n).div - 1 ∧ ((s.rampStep n).gckOf n).ramp ≠ .waitSrc ∧
      (∀ k, k ≠ n → (s.rampStep n).gckOf k = s.gckOf k) ∧ s.ramps (s.rampStep n) ∧ (s.rampStep n).hl = s.hl := by
    rw [step]
    generalize hu : s.setGck n { s.gckOf n with div := (s.gckOf n).div - 1 } = u at *
    obtain ⟨⟨frame, stay⟩, ends⟩ := u.rampEnd_shows n
    dsimp only
    split
    · rw [ends (by rw [self]; exact via), self]
      refine ⟨rfl, Ramp.noConfusion, fun k h => (stay k h).trans (others k h), set.trans frame, ?_⟩
      refine Eq.trans ?_ hl
      unfold State.rampEnd
      extract_lets g
      split <;> rfl
    · rw [self]
      exact ⟨rfl, by simp [down], others, set, hl⟩
  obtain ⟨div, calm, rest, frame, same⟩ := shown
  have ready : t = s.rampStep n := State.rampReady_still (fun k => by
    by_cases e : k = n
    · rw [e]
      exact calm
    · rw [rest k e]
      exact still k)
  rw [ready]
  exact ⟨div, rest, frame, same⟩

/-- The gate of a block whose closing has no other effect. -/
theorem State.gateClose_plain {s : State} {g : Nat} {b : Bool} (off : s.gateWanted g = false) (isOpen : s.gateOpen g = true) (lo : 0x18 ≤ g) (hi : g < 0x28) :
    s.gateClose g b = s.setBit (CK (0x400 + 4 * g)) 3 false := by
  have node : gateNode g = none := by
    unfold gateNode
    rw [if_neg (by omega), if_neg (by omega), if_neg (by omega)]
  unfold State.gateClose
  rw [if_neg (by simp [off, isOpen]), node]
  dsimp only
  unfold State.gateEffect
  rw [if_neg (by omega), if_neg (by omega), if_neg (by omega), if_neg (by omega), if_neg (by omega)]

/-- Settles O56. -/
theorem clocks : Obligations.Clocks := by
  unfold Obligations.Clocks
  intro s
  refine ⟨fun n may => ?_, fun q may => ?_, fun may => ?_, fun p no => completes_by rfl (if_neg (by simp [no])) rfl, fun n lock => ?_, fun q lock => ?_,
    fun lock => ?_, fun c e may hc => ?_, fun c e may hc => ?_, fun c e no => ⟨fun dies => ?_, fun stays => ?_⟩, fun c hc => ?_, fun hold xta => ?_,
    fun hold => completes_by rfl (if_pos (by simp [hold])) rfl, fun e en alive ref done => ?_, fun e en alive ref done good lo hi => ?_,
    fun e off => completes_by rfl (if_pos (by simp [off])) rfl, fun n down more via still => ?_, fun n idle still => ?_,
    fun g b off isOpen lo hi => ?_, fun g b want => completes_by rfl (if_pos (by simp [want])) rfl, fun tj => ?_⟩
  · obtain ⟨lock, hold, frame, quiet, goes⟩ := s.locks_spll n
    exact completes_by rfl (if_pos may) ⟨lock, hold, State.monitors_calm frame, quiet, goes⟩
  · exact completes_by rfl (if_pos may) ⟨State.bit_setBit_same _ _ _ (by decide), fun a h => State.reg_setBit_ne _ _ _ _ _ h, rfl⟩
  · obtain ⟨lock, shown, frame, quiet⟩ := s.locks_zvl
    exact completes_by rfl (if_pos may) ⟨lock, shown, State.monitors_calm frame, quiet⟩
  · obtain ⟨off, seen, hold, latched, regs, rest⟩ := State.spllUnlock_locked lock (s.clk.dead.contains (s.spllRef n))
    exact completes_intro rfl ⟨off, seen, hold, latched, regs, rest⟩
  · obtain ⟨off, lanes, latched⟩ := State.quadUnlock_locked lock
    exact completes_intro rfl ⟨off, lanes, latched, (s.monitors_quadUnlock q).calm⟩
  · exact completes_by rfl (t := s.zvlUnlock) (if_neg (by simp [lock])) ⟨State.latch_mem _ 5 0x100 0x20, rfl, rfl⟩
  · obtain ⟨shown, frame, dead, edges, latched⟩ := State.clockDead_source may hc
    exact completes_intro rfl ⟨shown, State.monitors_calm (frame.mono (by decide)), dead, edges, latched⟩
  · obtain ⟨lock, frame, clk, latched⟩ := State.clockDead_spll may hc
    exact completes_intro rfl ⟨lock, State.monitors_calm (frame.mono (by decide)), clk, latched⟩
  · obtain ⟨crystal, dead, edges⟩ := dies
    refine completes_by rfl ((if_pos (by simp [no])).trans (if_pos ⟨crystal, by simpa using dead, by simp [edges]⟩)) ?_
    exact ⟨State.bit_setBit_same _ _ _ (by omega), fun a h => State.reg_setBit_ne _ _ _ _ _ h, rfl⟩
  · refine completes_by rfl ((if_pos (by simp [no])).trans (if_neg ?_)) rfl
    intro h
    obtain ⟨crystal, dead, edges⟩ := h
    exact stays ⟨crystal, by simpa using dead, by simpa using edges⟩
  · obtain ⟨shown, gone, frame, quiet⟩ := State.clockAlive_shows hc
    exact completes_intro rfl ⟨shown, gone, State.monitors_calm (frame.mono (by decide)), quiet⟩
  · obtain ⟨f, hf⟩ : ∃ f, f = 2 ^ 24 := ⟨_, rfl⟩
    obtain ⟨od, r, up, total, u, w, few, one, fits, little, ht, frame, hw, run⟩ := State.spll0Move_moves hold xta hf
    obtain ⟨ref, div, mul, out, regs⟩ := u.setSpll0_shows 1 (r - 1) (total / f) od
    have cfg : w.reg (CK 0x40) = (u.setSpll0 1 (r - 1) (total / f) od).reg (CK 0x40) := by rw [hw, State.reg_setReg_ne _ _ _ _ (by simp)]
    have frac : w.reg (CK 0x44) = total % f := by
      rw [hw, State.reg_setReg_same, hf]
      omega
    rw [← State.fld_congr cfg] at ref div mul out
    have whole : s.changes [.free, .csr] w := by
      rw [hw]
      exact (frame.mono (by decide)).trans (by rfl)
    refine completes_by rfl run ⟨ref, rfl, rfl, State.monitors_calm ((whole.mono (by decide)).trans (by rfl)), fun a h h' => ?_, fun hz x goal hhz hk hx hgoal => ?_⟩
    · refine (show w.reg a = s.reg a from ?_)
      rw [hw, State.reg_setReg_ne _ _ _ _ h', regs a h, State.reg_congr (frame.same .csr (by decide))]
    · subst hhz
      obtain ⟨small, upper, lower⟩ := spll0_divider (f := f) (by rw [hf]; decide) few (fits hk) hk little ht
      have size : s.fld (CK 8) 0 16 < 65536 := s.fld_lt _ _ _
      have mul' : w.fld (CK 0x40) 7 9 = total / f := mul.trans (Nat.mod_eq_of_lt small)
      have out' : w.fld (CK 0x40) 16 5 = od := out.trans (Nat.mod_eq_of_lt (by omega))
      have div' : w.fld (CK 0x40) 3 4 + 1 = r := by
        rw [div, Nat.mod_eq_of_lt (by have := fits hk; omega)]
        omega
      have hx' : x = (w.fld (CK 0x40) 7 9 * f + w.reg (CK 0x44)) * s.fld (CK 8) 0 16 := by rw [hx, hf]; rfl
      have hgoal' : goal = 1000000 * w.fld (CK 0x40) 16 5 * (w.fld (CK 0x40) 3 4 + 1) * f := by rw [hgoal, hf]; rfl
      rw [mul', frac, Nat.div_add_mod' total f] at hx'
      rw [out', div', Nat.mul_comm 1000000 od] at hgoal'
      rw [hx', hgoal']
      exact ⟨upper, lower⟩
  · obtain ⟨k, u, frame, run⟩ := State.trimWindow_eq e en alive ref
    have reg : ∀ a, u.reg a = (s.setFld (CK 0x14) 12 2 s.trimRef).reg a := State.reg_congr (frame.same .csr (by decide))
    have code : u.fld (CK 0x14) 0 11 = s.fld (CK 0x14) 0 11 := (State.fld_congr (reg _) 0 11).trans (s.fld_setFld_other _ _ _ _ (by decide) (by decide))
    have done' : u.bit (CK 0x14) 11 = true := ((State.bit_congr (reg _) 11).trans (s.bit_setFld_other _ _ _ _ (by decide) (by decide))).trans done
    have shown : u.fld (CK 0x14) 12 2 = s.trimRef % 4 := (State.fld_congr (reg _) 12 2).trans (s.fld_setFld_same _ _ (by decide))
    obtain ⟨step, seen, regs⟩ := State.trimStep_trimmed k e done'
    rw [code] at step
    refine completes_by rfl run ⟨step, seen.trans shown, State.monitors_calm ?_, fun a h => (regs a h).trans ((reg a).trans (s.reg_setFld_ne _ _ _ _ _ h))⟩
    exact (State.changes.trans (t := s.setFld (CK 0x14) 12 2 s.trimRef) (by rfl) (frame.mono (by decide))).trans ((u.trimStep_frame k e).mono (by decide))
  · obtain ⟨k, u, frame, run⟩ := State.trimWindow_eq e en alive ref
    have reg : ∀ a, u.reg a = (s.setFld (CK 0x14) 12 2 s.trimRef).reg a := State.reg_congr (frame.same .csr (by decide))
    have done' : u.bit (CK 0x14) 11 = false := ((State.bit_congr (reg _) 11).trans (s.bit_setFld_other _ _ _ _ (by decide) (by decide))).trans done
    have cfg : u.reg (CK 0x40) = s.reg (CK 0x40) := (reg _).trans (s.reg_setFld_ne _ _ _ _ _ (by simp))
    have clk : u.clk = s.clk := frame.same .clk (by decide)
    obtain ⟨shown, fast, full, kept⟩ := State.trimStep_completes k done' (by rw [clk]; exact good) lo hi
    rw [State.fld_congr cfg] at full kept
    refine completes_by rfl run ⟨shown, fast, full, fun h => (kept h).trans cfg, State.monitors_calm ?_⟩
    exact (State.changes.trans (t := s.setFld (CK 0x14) 12 2 s.trimRef) (by rfl) (frame.mono (by decide))).trans ((u.trimStep_frame k e).mono (by decide))
  · obtain ⟨div, others, frame, hl⟩ := State.rampStep_down down more via still
    exact completes_intro rfl ⟨div, others, frame.1.calm, hl⟩
  · have stays : s.rampStep n = s := by
      simp only [State.rampStep, idle]
    refine completes_by rfl (t := (s.rampStep n).rampReady) ?_ rfl
    rw [stays, State.rampReady_still still]
  · exact completes_by rfl (State.gateClose_plain off isOpen lo hi)
      ⟨State.bit_setBit_same _ _ _ (by decide), fun a h => State.reg_setBit_ne _ _ _ _ _ h, rfl⟩
  · obtain ⟨regs, rest, -⟩ := s.tempOnly_tempSample tj.toNat
    have seen := s.tempSample_seen tj.toNat
    obtain ⟨warn, crit⟩ := s.limits_fields
    rw [← show s.fld (CK 0x20C) 0 16 + 65536 * s.fld (CK 0x20C) 16 16 = s.reg (CK 0x20C) by omega] at seen
    refine completes_intro rfl ⟨(s.fld_tempSample _).trans (Nat.mod_eq_of_lt tj.isLt), ?_, regs, seen⟩
    exact ⟨(congrArg State.mem rest :), (congrArg State.qs rest :), (congrArg State.rg rest :), (congrArg State.tick rest :), (congrArg State.fab rest :),
      (congrArg State.mb rest :), (congrArg State.life rest :)⟩

end Sys2Proof.Machine
end

section
/-! Power modes and supplies (spec/15 R462 to R466, spec/18 R507, R510, spec/19 R524, R525). -/
namespace Sys2Proof.Machine

/-! ## Entering a mode (R462) -/

section
variable (l : List Part) (s t : State)

@[simp] theorem State.changes_notePins (h : Part.probe ∈ l) : s.changes l t.notePins ↔ s.changes l t :=
  State.changes.through (m := [.probe]) (by rfl) (by simpa using h) s

theorem State.snapSafe_frame : t.changes [.probe, .fab] t.snapSafe := by
  unfold State.snapSafe
  generalize List.foldl _ _ _ = pins
  exact State.changes.trans (t := t.notePins) (by simp) (by rfl)

@[simp] theorem State.changes_snapSafe (h : [Part.probe, .fab] ⊆ l) : s.changes l t.snapSafe ↔ s.changes l t :=
  State.changes.through t.snapSafe_frame h s

@[simp] theorem State.changes_spllStop (n : Nat) (h : Part.csr ∈ l) : s.changes l (t.spllStop n) ↔ s.changes l t :=
  State.changes.through (m := [.csr]) (by simp [State.spllStop]) (by simpa using h) s

@[simp] theorem State.changes_pllsStop (h : Part.csr ∈ l) : s.changes l t.pllsStop ↔ s.changes l t :=
  State.changes.through (m := [.csr]) (by simp [State.pllsStop]) (by simpa using h) s

@[simp] theorem State.changes_scrubAll (on : Bool) (h : Part.csr ∈ l) : s.changes l (t.scrubAll on) ↔ s.changes l t :=
  State.changes.through (m := [.csr]) (by simp [State.scrubAll]) (by simpa using h) s

end

theorem forAll_leaves_below {β : Type} (g : State → β) {f : Nat → State → State} (n : Nat) (h : ∀ k t, k < n → g (f k t) = g t) (s : State) :
    g (forAll n f s) = g s := by
  induction n with
  | zero => rfl
  | succ n ih =>
    rw [forAll_succ]
    exact (h n _ (Nat.lt_succ_self n)).trans (ih (fun k t hk => h k t (Nat.lt_succ_of_lt hk)))

/-- Gates that are open stay open, and no other register is touched. -/
theorem State.openGates_shows (s : State) : (∀ g, s.gateOpen g = true → s.openGates.gateOpen g = true) ∧
    ∀ a, (∀ g, g < 47 → a ≠ CK (0x400 + 4 * g)) → s.openGates.reg a = s.reg a := by
  unfold State.openGates
  refine ⟨fun g h => forAll_keeps (P := fun t => t.gateOpen g = true) (fun k t ht => ?_) 47 h,
    fun a h => forAll_leaves_below (fun t => t.reg a) 47 (fun k t hk => ?_) s⟩
  · split
    · by_cases e : g = k
      · rw [e]
        exact State.bit_setBit_same _ _ _ (by decide)
      · exact (State.bit_setBit_ne _ _ _ _ (by simpa using e)).trans ht
    · exact ht
  · split
    · exact State.reg_setBit_ne _ _ _ _ _ (h k hk)
    · rfl

/-- The mode shown, and what that leaves. -/
theorem State.modeReached_shows (s : State) {m : Nat} (hm : m < 4) : (s.modeReached m).mode = m ∧
    (s.modeReached m).clk = { s.clk with moving := decide (s.modeTarget ≠ m) } ∧ s.changes [.csr, .clk, .probe] (s.modeReached m) ∧
    (∀ g, s.gateOpen g = true → (s.modeReached m).gateOpen g = true) ∧
    ∀ a, a ≠ CK 0x204 → (∀ g, g < 47 → a ≠ CK (0x400 + 4 * g)) → (s.modeReached m).reg a = s.reg a := by
  unfold State.modeReached
  extract_lets n pr u ck v
  have hu : u.csr = s.csr ∧ u.clk = s.clk ∧ s.changes [.probe] u := by
    unfold u
    split <;> exact ⟨rfl, rfl, by rfl⟩
  obtain ⟨csr, clk, frame⟩ := hu
  have hv : v.csr = s.csr ∧ v.clk = { s.clk with moving := decide (s.modeTarget ≠ m) } ∧ s.changes [.csr, .clk, .probe] v := by
    refine ⟨csr, ?_, (frame.mono (by decide)).trans (by rfl)⟩
    show { u.clk with moving := decide (u.modeTarget ≠ m) } = _
    rw [clk, show u.modeTarget = s.modeTarget from State.fld_congr (State.reg_congr csr _) 3 2]
  clear_value v
  obtain ⟨csr', clk', frame'⟩ := hv
  obtain ⟨gates, regs⟩ := (v.setMode m).openGates_shows
  have last : (v.setMode m).changes [.csr] (v.setMode m).openGates := by simp
  refine ⟨?_, ?_, ?_, fun g h => gates g ?_, fun a h h' => ?_⟩
  · exact (State.fld_congr (regs _ (fun g _ => by simp; omega)) 0 2).trans ((v.fld_setFld_same _ _ (by decide)).trans (Nat.mod_eq_of_lt hm))
  · exact (last.same .clk (by decide) :).trans clk'
  · exact (frame'.trans (by rfl)).trans (last.mono (by decide))
  · exact (v.bit_setFld_ne _ _ _ _ (by simp; omega)).trans ((State.bit_congr (State.reg_congr csr' _) 3).trans h)
  · exact (regs a h').trans ((v.reg_setFld_ne _ _ _ _ _ h).trans (State.reg_congr csr' a))

/-- What a port's traffic turns on: it may only gain by open gates. -/
theorem State.portOn_of {s t : State} {p : Nat} (h : s.portOn p = true) (start : t.life = s.life) (rails : t.rails = s.rails) (tap : t.tap = s.tap)
    (reg : t.reg (ZV p 0) = s.reg (ZV p 0)) (gate : s.gateOpen (0x28 + p) = true → t.gateOpen (0x28 + p) = true) : t.portOn p = true := by
  unfold State.portOn State.chainRails State.scanned at *
  rw [start, rails, tap, State.bit_congr reg, State.fld_congr reg, State.fld_congr reg]
  simp only [Bool.and_eq_true] at h ⊢
  obtain ⟨⟨⟨h1, h2⟩, h3⟩, h4⟩ := h
  exact ⟨⟨⟨h1, gate h2⟩, h3⟩, h4⟩

theorem ZV_ne_CK (p a b : Nat) (h : b < 0x2000000) : ZV p a ≠ CK b := by
  unfold ZV CK
  omega

/-! ## SLEEP (R336, Table CLK-6) -/

theorem State.sent_sendZ_times (s : State) (ps : List Nat) (o : ZOut) (n : Nat) :
    (forAll n (fun _ t => t.sendZ ps o) s).chain.sent = s.chain.sent ++ List.replicate n (ps, o) := by
  induction n with
  | zero => simp [forAll]
  | succ n ih =>
    rw [forAll_succ, List.replicate_succ', ← List.append_assoc, ← ih]
    rfl

theorem State.trimFollow_reg (s : State) {a : Nat} (h : a ≠ CK 0x14) : s.trimFollow.reg a = s.reg a := by
  unfold State.trimFollow
  extract_lets used
  split
  · exact (State.reg_setFld_ne _ _ _ _ _ _ h).trans (State.reg_setBit_ne _ _ _ _ _ h)
  · rfl

/-- Every port that is on is at low rate, and SLEEP has been sent 16 times on every port. -/
theorem State.portsLow_shows (s : State) : (∀ p, p < 4 → s.portOn p = true → s.portsLow.low p = true) ∧
    s.portsLow.chain.sent = s.chain.sent ++ List.replicate 16 (upPorts ++ downPorts, .set setSleep 0) ∧
    s.changes [.csr, .chain] s.portsLow ∧ ∀ a, a < 0x31000000 → a ≠ CK 0x14 → s.portsLow.reg a = s.reg a := by
  unfold State.portsLow
  extract_lets t
  have sent : t.chain.sent = _ := s.sent_sendZ_times (upPorts ++ downPorts) (.set setSleep 0) 16
  have frame : s.changes [.chain] t := by simp [t]
  clear_value t
  have csr : t.csr = s.csr := frame.same .csr (by decide)
  have lows : t.changes [.csr] (forAll 4 (fun p t => if t.portOn p then t.setBit (ZV p 4) 1 true else t) t) := by simp
  refine ⟨fun p hp on => ?_, ?_, ?_, fun a ha ha' => ?_⟩
  · refine (State.bit_congr (State.trimFollow_reg _ (ZV_ne_CK _ _ _ (by decide))) 1).trans ?_
    refine forAll_at (f := fun p t => if t.portOn p then t.setBit (ZV p 4) 1 true else t) (I := fun t => t.portOn p = true) (P := fun t => t.low p = true)
      hp (fun j u _ hu => ?_) (fun u hu => ?_) (fun j u hu => ?_) ?_
    · split
      · exact State.portOn_of hu rfl rfl rfl (u.reg_setBit_ne _ _ _ _ (by unfold ZV; omega)) (fun h =>
          (u.bit_setBit_ne _ _ _ (ZV_ne_CK _ _ _ (by omega)).symm).trans h)
      · exact hu
    · rw [if_pos hu]
      exact u.bit_setBit_same _ _ (by decide)
    · split
      · by_cases e : p = j
        · rw [e]
          exact u.bit_setBit_same _ _ (by decide)
        · exact (u.bit_setBit_ne _ _ _ (by unfold ZV; omega)).trans hu
      · exact hu
    · exact State.portOn_of on (frame.same .life (by decide)) (frame.same .rails (by decide)) (frame.same .tap (by decide)) (State.reg_congr csr _)
        (fun h => (State.bit_congr (State.reg_congr csr _) 3).trans h)
  · rw [← sent]
    exact congrArg Chain.sent (State.changes.same (l := [.csr]) (s := t) (by simp [lows]) .chain (by decide))
  · simp [(frame.mono (by decide) : s.changes [.csr, .chain] t)]
  · refine (State.trimFollow_reg _ ha').trans ((forAll_leaves (fun t => t.reg a) (fun k u => ?_) 4 t).trans (State.reg_congr csr a))
    split
    · exact u.reg_setBit_ne _ _ _ _ (by unfold ZV; omega)
    · rfl

/-! ## Waking (R338, R465) -/

/-- An operation of the ports on the way to full rate. -/
def State.portMoves (s t : State) : Prop := s.changes [.csr, .tick, .chain] t ∧ t.tick.frame = s.tick.frame ∧ t.tick.count = s.tick.count ∧
  (∀ a, a < 0x31000000 → a ≠ CK 0x80C → t.reg a = s.reg a) ∧ ∀ p, s.low p = false → t.low p = false

theorem State.portMoves_refl (s : State) : s.portMoves s := ⟨s.changes_refl _, rfl, rfl, fun _ _ _ => rfl, fun _ h => h⟩

theorem State.portMoves.trans {s t u : State} (h : s.portMoves t) (k : t.portMoves u) : s.portMoves u := by
  obtain ⟨h1, h2, h3, h4, h5⟩ := h
  obtain ⟨k1, k2, k3, k4, k5⟩ := k
  exact ⟨h1.trans k1, k2.trans h2, k3.trans h3, fun a ha hb => (k4 a ha hb).trans (h4 a ha hb), fun p hp => k5 p (h5 p hp)⟩

theorem State.portMoves_setZ (s : State) (p o lo w v : Nat) (h : o < 0x1000) (h' : o = 4 → lo + w ≤ 1 ∨ 2 ≤ lo) : s.portMoves (s.setFld (ZV p o) lo w v) := by
  refine ⟨by simp, rfl, rfl, fun a ha _ => s.reg_setFld_ne _ _ _ _ _ (by unfold ZV; omega), fun q hq => ?_⟩
  by_cases e : ZV q 4 = ZV p o
  · have at4 : o = 4 := by unfold ZV at e; omega
    subst at4
    refine (congrArg (fun a => State.bit _ a 1) e).trans ((s.bit_setFld_other _ _ _ _ (by decide) ?_).trans ((congrArg (fun a => s.bit a 1) e.symm).trans hq))
    have := h' rfl
    omega
  · exact (s.bit_setFld_ne _ _ _ _ e).trans hq

theorem State.portMoves_chain (s : State) (c : Chain) : s.portMoves (s.setChain c) := ⟨by simp, rfl, rfl, fun _ _ _ => rfl, fun _ h => h⟩

theorem State.portMoves_setActive (s : State) (up : Bool) (code : Nat) : s.portMoves (s.setActive up code) := by
  have first (c : Prop) [Decidable c] : s.portMoves (if c then
      { s.setBit (CK 0x80C) 2 false with tick := { s.tick with sofs := [], sofLast := none, superSeq := none } } else s) := by
    have unlocked : s.portMoves (s.setBit (CK 0x80C) 2 false) := ⟨by simp, rfl, rfl, fun a _ h => s.reg_setBit_ne _ _ _ _ h,
      fun p h => (s.bit_setBit_ne _ _ _ (ZV_ne_CK _ _ _ (by decide))).trans h⟩
    have ticks : (s.setBit (CK 0x80C) 2 false).tick = s.tick := rfl
    generalize s.setBit (CK 0x80C) 2 false = t at unlocked ticks ⊢
    split
    · exact unlocked.trans ⟨by rfl, by rw [ticks], by rw [ticks], fun _ _ _ => rfl, fun _ h => h⟩
    · exact s.portMoves_refl
  have bypass (t : State) (lo v : Nat) : t.portMoves (t.setFld (ZV 0 0x820) lo 2 v) :=
    t.portMoves_setZ 0 0x820 lo 2 v (by decide) (fun h => absurd h (by decide))
  have ends (t : State) (p : Nat) (b : Bool) : t.portMoves (t.setBit (ZV p 4) 2 b) :=
    t.portMoves_setZ p 4 2 1 b.toNat (by decide) (fun _ => .inr (Nat.le_refl 2))
  unfold State.setActive
  split
  exact (((first _).trans (bypass _ _ _)).trans (ends _ _ _)).trans (ends _ _ _)

theorem State.portMoves_activate (s : State) (p : Nat) : s.portMoves (s.activate p) := by
  unfold State.activate
  extract_lets up cur
  split
  · exact s.portMoves_refl
  · split
    · exact s.portMoves_refl
    · exact s.portMoves_setActive _ _

theorem State.portMoves_measure (s : State) (p : Nat) : s.portMoves (s.measure p) := by
  unfold State.measure
  split
  · exact s.portMoves_refl
  · generalize 256 = n
    refine forAll_keeps (P := fun t => s.portMoves t) (fun i t h => h.trans ?_) n (s.portMoves_chain _)
    exact ⟨by simp, rfl, rfl, fun _ _ _ => rfl, fun _ h => h⟩

theorem State.fullRate_shows (s : State) (p : Nat) : s.portMoves (s.fullRate p) ∧ (s.fullRate p).low p = false := by
  unfold State.fullRate
  extract_lets u
  have off : u.low p = false := s.bit_setBit_same _ _ (by decide)
  have hu : s.portMoves u := by
    refine ⟨by rfl, rfl, rfl, fun a ha _ => s.reg_setBit_ne _ _ _ _ (by unfold ZV; omega), fun q hq => ?_⟩
    by_cases e : q = p
    · rw [e, off]
    · exact (s.bit_setBit_ne _ _ _ (by unfold ZV; omega)).trans hq
  have rest := (u.portMoves_chain { u.chain with measured := u.chain.measured.filter (· ≠ p), slow := u.chain.slow.filter (· ≠ p) ++ [p] }).trans
    (State.portMoves_measure _ p)
  exact ⟨hu.trans rest, rest.2.2.2.2 p off⟩

/-- The ports at full rate. -/
theorem State.portsFull_shows (s : State) : s.portMoves s.portsFull ∧ ∀ p, p < 4 → s.portsFull.low p = false := by
  have one (p : Nat) (t : State) : t.portMoves (if t.low p then t.fullRate p else t.activate p) := by
    split
    · exact (t.fullRate_shows p).1
    · exact t.portMoves_activate p
  unfold State.portsFull
  refine ⟨forAll_keeps (P := fun t => s.portMoves t) (fun k t h => h.trans (one k t)) 4 s.portMoves_refl, fun p hp => ?_⟩
  refine forAll_establishes (f := fun p t => if t.low p then t.fullRate p else t.activate p) (P := fun t => t.low p = false) hp (fun t => ?_)
    (fun j t h => (one j t).2.2.2.2 p h) s
  split
  · exact (t.fullRate_shows p).2
  · next h => exact (t.portMoves_activate p).2.2.2.2 p (by simpa using h)


/-! ## DEEP_SLEEP (Tables CLK-5, CLK-6) -/

theorem State.restartHistory_shows (s : State) (q : Nat) : s.changes [.qs, .csr] (s.restartHistory q) ∧ ((s.queue q).occ = 0 → ((s.restartHistory q).queue q).occ = 0) ∧
    (s.restartHistory q).desc q = s.desc q ∧ ∀ k, k ≠ q → (s.restartHistory q).queue k = s.queue k := by
  unfold State.restartHistory
  split
  · exact ⟨s.changes_refl _, id, rfl, fun _ _ => rfl⟩
  · extract_lets x c i
    refine ⟨by simp, fun _ => ?_, ?_, fun k hk => ?_⟩
    · exact congrArg Queue.occ (s.queue_setQueue_same q _)
    · exact congrArg (fun x => x.desc.toNat) (s.queue_setQueue_same q _)
    · exact s.queue_setQueue_ne q k _ hk

/-- A controller after DEEP_SLEEP is empty and has its descriptor. -/
theorem State.queueLost_shows (s : State) (q : Nat) : s.changes [.qs, .csr] (State.queueLost q s) ∧ ((State.queueLost q s).queue q).occ = 0 ∧
    (State.queueLost q s).desc q = s.desc q ∧ ∀ k, k ≠ q → (State.queueLost q s).queue k = s.queue k := by
  unfold State.queueLost
  extract_lets x
  have set : (s.setQueue q { desc := x.desc, stDesc := x.stDesc, seq := x.seq }).queue q = { desc := x.desc, stDesc := x.stDesc, seq := x.seq } :=
    s.queue_setQueue_same q _
  have others (k : Nat) (hk : k ≠ q) : (s.setQueue q { desc := x.desc, stDesc := x.stDesc, seq := x.seq }).queue k = s.queue k := s.queue_setQueue_ne q k _ hk
  have first : s.changes [.qs, .csr] (s.setQueue q { desc := x.desc, stDesc := x.stDesc, seq := x.seq }) := by simp
  generalize s.setQueue q { desc := x.desc, stDesc := x.stDesc, seq := x.seq } = t at *
  obtain ⟨frame, occ, desc, rest⟩ := t.restartHistory_shows q
  refine ⟨by simp [first.trans frame], occ (by rw [set]), desc.trans ?_, fun k hk => (rest k hk).trans (others k hk)⟩
  rw [State.desc, set]
  rfl

/-- The controllers after DEEP_SLEEP. -/
theorem State.queuesLost_shows (s : State) : s.changes [.qs, .csr] (forAll 384 State.queueLost s) ∧
    ∀ q, q < 384 → ((forAll 384 State.queueLost s).queue q).occ = 0 ∧ (forAll 384 State.queueLost s).desc q = s.desc q := by
  refine ⟨by simp [fun t q => (State.queueLost_shows t q).1], fun q hq => ?_⟩
  refine forAll_at (f := State.queueLost) (I := fun t => t.queue q = s.queue q) (P := fun t => (t.queue q).occ = 0 ∧ t.desc q = s.desc q) hq
    (fun j t hj ht => ((t.queueLost_shows j).2.2.2 q (Ne.symm hj)).trans ht) (fun t ht => ?_) (fun j t ht => ?_) rfl
  · obtain ⟨-, occ, desc, -⟩ := t.queueLost_shows q
    exact ⟨occ, desc.trans (by rw [State.desc, State.desc, ht])⟩
  · obtain ⟨-, occ, desc, rest⟩ := t.queueLost_shows j
    by_cases e : q = j
    · subst e
      exact ⟨occ, desc.trans ht.2⟩
    · rw [State.desc, rest q e]
      exact ht

section
variable (l : List Part) (s t : State)

@[simp] theorem State.changes_loseFabric (h : [Part.free, .fab] ⊆ l) : s.changes l t.loseFabric ↔ s.changes l t :=
  State.changes.through (by
    unfold State.loseFabric
    extract_lets a b
    have ha : t.changes [.free, .fab] a := by simp [a, State.draw]
    have hb : a.changes [.free, .fab] b := (State.changes_forAll _ _ _ _ _ (fun k u => by rfl)).2 (a.changes_refl _)
    exact ha.trans (hb.trans (by simp [State.draw]))) h s

@[simp] theorem State.changes_loseShared (h : [Part.free, .fab] ⊆ l) : s.changes l t.loseShared ↔ s.changes l t :=
  State.changes.through (by
    unfold State.loseShared
    simp [State.draw]) h s

@[simp] theorem State.changes_coldRegion (r : Nat) (h : [Part.csr, .rg, .fab] ⊆ l) : s.changes l (State.coldRegion r t) ↔ s.changes l t :=
  State.changes.through (by simp [State.coldRegion]) h s

@[simp] theorem State.changes_beach (cause : Nat) (h : [Part.csr, .chain, .hl, .probe, .fab] ⊆ l) : s.changes l (t.beach cause) ↔ s.changes l t :=
  State.changes.through (by simp [State.beach]) h s

end

theorem State.setChain_csr (s : State) (c : Chain) : (s.setChain c).csr = s.csr := rfl

/-- Losing its state beaches a unit that is not the head. -/
theorem State.beach_lost {s : State} (head : s.isHead = false) (fresh : s.beached = false) : (s.beach 1).beached = true := by
  unfold State.beach
  rw [if_neg (by simp [head]), if_neg (by simp [fresh])]
  extract_lets u v c w
  have bit : v.bit (ZV 0 0x800) 26 = true := (State.bit_setBit_other _ _ _ _ (by decide) (by decide)).trans (State.bit_setBit_same _ _ _ (by decide))
  have last (data : Nat) : ((w.announce 8 data).selfReport 3 0).csr = w.csr := State.changes.same (l := [.chain, .hl]) (s := w) (by simp) .csr (by decide)
  exact (State.bit_congr (State.reg_congr ((last _).trans (v.setChain_csr _)) _) 26).trans bit

/-- The tiers after DEEP_SLEEP. -/
def State.coldTiers (s : State) : State := forAll 384 State.queueLost (forAll 96 State.coldRegion s.clearTier.loseFabric)

theorem State.coldTiers_shows (s : State) : s.clearTier.changes [.free, .csr, .rg, .fab, .qs] s.coldTiers ∧
    ∀ q, q < 384 → (s.coldTiers.queue q).occ = 0 ∧ s.coldTiers.desc q = s.desc q := by
  unfold State.coldTiers
  have hu : s.clearTier.changes [.free, .csr, .rg, .fab] (forAll 96 State.coldRegion s.clearTier.loseFabric) := by simp
  generalize forAll 96 State.coldRegion s.clearTier.loseFabric = u at *
  refine ⟨(hu.mono (by decide)).trans (u.queuesLost_shows.1.mono (by decide)), fun q hq => ?_⟩
  obtain ⟨occ, desc⟩ := u.queuesLost_shows.2 q hq
  exact ⟨occ, desc.trans (congrArg (fun x => x.desc.toNat) (State.queue_congr (hu.same .qs (by decide)) q))⟩

/-- What follows once the tiers have come up. -/
def State.coldEnd (v : State) : State := (((forAll 24 (fun b t => t.setReg (scrubReg b 0x804) 0) v).scrubAll true).coldRun).beach 1

theorem State.coldStart_eq (s : State) : s.coldStart = s.coldTiers.coldEnd := by
  unfold State.coldStart State.coldTiers State.coldEnd
  rfl

theorem State.coldRun_shows (x : State) : x.coldRun.mem = x.mem ∧ x.coldRun.qs = x.qs ∧ x.coldRun.clk = { x.clk with stopped := false } ∧
    x.coldRun.sq.on = x.run.configured ∧ x.coldRun.sq.slot = 0 := ⟨rfl, rfl, rfl, rfl, rfl⟩

theorem State.coldEnd_shows (v : State) : v.coldEnd.mem = v.mem ∧ v.coldEnd.qs = v.qs ∧ v.coldEnd.clk = { v.clk with stopped := false } ∧
    v.coldEnd.sq.on = v.run.configured ∧ v.coldEnd.sq.slot = 0 := by
  unfold State.coldEnd
  have first : v.changes [.csr] ((forAll 24 (fun b t => t.setReg (scrubReg b 0x804) 0) v).scrubAll true) := by simp
  generalize (forAll 24 (fun b t => t.setReg (scrubReg b 0x804) 0) v).scrubAll true = x at first ⊢
  obtain ⟨mem, qs, clk, on, slot⟩ := x.coldRun_shows
  generalize x.coldRun = y at mem qs clk on slot ⊢
  have last : y.changes [.csr, .chain, .hl, .probe, .fab] (y.beach 1) := by simp
  generalize y.beach 1 = z at last ⊢
  have sq : z.sq = y.sq := last.same .sq (by decide)
  have run : x.run = v.run := first.same .run (by decide)
  have clocks : x.clk = v.clk := first.same .clk (by decide)
  exact ⟨(last.same .mem (by decide)).trans (mem.trans (first.same .mem (by decide))), (last.same .qs (by decide)).trans (qs.trans (first.same .qs (by decide))),
    clocks ▸ (last.same .clk (by decide)).trans clk, by rw [sq, on, run], by rw [sq, slot]⟩

/-- What the unit is after DEEP_SLEEP, before its mode shows it. -/
theorem State.coldStart_shows (s : State) : s.coldStart.mem = [] ∧ s.coldStart.clk = { s.clk with stopped := false } ∧
    (∀ q, q < 384 → (s.coldStart.queue q).occ = 0 ∧ s.coldStart.desc q = s.desc q) ∧ s.coldStart.sq.on = s.run.configured ∧ s.coldStart.sq.slot = 0 := by
  rw [s.coldStart_eq]
  obtain ⟨frame, queues⟩ := s.coldTiers_shows
  obtain ⟨mem, qs, clk, on, slot⟩ := s.coldTiers.coldEnd_shows
  have run : s.coldTiers.run = s.run := frame.same .run (by decide)
  have clocks : s.coldTiers.clk = s.clk := frame.same .clk (by decide)
  refine ⟨mem.trans (frame.same .mem (by decide)), by rw [clk, clocks], fun q hq => ?_, by rw [on, run], slot⟩
  rw [State.desc, State.queue_congr qs]
  exact queues q hq

/-! ## Supplies (R507, R510) -/

/-- Region `r` is held without a release. -/
def State.holdWhole (r : Nat) (t : State) : State := (t.holdRegion r 0).setRegion r { (t.holdRegion r 0).region r with relMode := 2, group := [] }

theorem State.holdWhole_held (r : Nat) (t : State) : ((State.holdWhole r t).region r).held = true := by
  unfold State.holdWhole
  rw [State.region_setRegion_same]
  exact t.holdRegion_held r 0

theorem State.holdWhole_keeps {r : Nat} (j : Nat) {t : State} (h : (t.region r).held = true) : ((State.holdWhole j t).region r).held = true := by
  by_cases e : r = j
  · subst e
    exact State.holdWhole_held r t
  · unfold State.holdWhole
    rw [State.region_setRegion_ne _ _ _ _ e, t.holdRegion_other j 0 e]
    exact h

theorem State.holdUnit_eq (s : State) : s.holdUnit = { forAll 96 State.holdWhole s with
    run := { configured := (forAll 96 State.holdWhole s).run.configured, hold := true }, sq := { (forAll 96 State.holdWhole s).sq with on := false, slot := 0 } } := by
  have rounds : (fun (r : Nat) (t : State) => let t := t.holdRegion r 0; t.setRegion r { t.region r with relMode := 2, group := [] }) = State.holdWhole := rfl
  unfold State.holdUnit
  rw [rounds]

/-- Every region is held, and the sequencer stands still. -/
theorem State.holdUnit_shows (s : State) : s.changes [.rg, .fab, .run, .sq] s.holdUnit ∧ (∀ r, r < 96 → (s.holdUnit.region r).held = true) ∧
    s.holdUnit.run.hold = true ∧ s.holdUnit.sq.on = false := by
  rw [s.holdUnit_eq]
  have frame : s.changes [.rg, .fab] (forAll 96 State.holdWhole s) :=
    (State.changes_forAll _ _ _ _ _ (fun r t => by simp [State.holdWhole])).2 (s.changes_refl _)
  have held (r : Nat) (hr : r < 96) : ((forAll 96 State.holdWhole s).region r).held = true :=
    forAll_establishes (f := State.holdWhole) (P := fun t => (t.region r).held = true) hr (State.holdWhole_held r) (fun j t ht => State.holdWhole_keeps j ht) s
  generalize forAll 96 State.holdWhole s = u at *
  exact ⟨(frame.mono (by decide)).trans (by rfl), held, rfl, rfl⟩

/-- The tail of a brown-out, once the load has ended. -/
def State.browned (s : State) (data : Nat) : State := ((s.holdUnit.loseFabric.loseShared).beach 1).logEntry 2 0 0 data

theorem State.browned_shows (s : State) (data : Nat) : s.changes [.rg, .fab, .run, .sq, .free, .csr, .chain, .hl, .probe, .log, .logSeq] (s.browned data) ∧
    (∀ r, r < 96 → ((s.browned data).region r).held = true) ∧ (s.browned data).run.hold = true ∧ (s.browned data).sq.on = false ∧
    (s.isHead = false → s.beached = false → (s.browned data).beached = true) := by
  obtain ⟨held, regions, run, sq⟩ := s.holdUnit_shows
  have lost : s.holdUnit.changes [.free, .fab] s.holdUnit.loseFabric.loseShared := by simp
  unfold State.browned
  generalize s.holdUnit.loseFabric.loseShared = u at *
  have last : u.changes [.csr, .chain, .hl, .probe, .fab, .log, .logSeq] ((u.beach 1).logEntry 2 0 0 data) := by simp
  have csr : u.csr = s.csr := (lost.same .csr (by decide)).trans (held.same .csr (by decide))
  have logged : ((u.beach 1).logEntry 2 0 0 data).csr = (u.beach 1).csr := State.changes.same (l := [.log, .logSeq]) (by simp) .csr (by decide)
  refine ⟨(held.mono (by decide)).trans ((lost.mono (by decide)).trans (last.mono (by decide))), fun r hr => ?_, ?_, ?_, fun head fresh => ?_⟩
  · rw [State.region_congr ((last.same .rg (by decide)).trans (lost.same .rg (by decide)))]
    exact regions r hr
  · rw [show _ = u.run from last.same .run (by decide), show u.run = _ from lost.same .run (by decide), run]
  · rw [show _ = u.sq from last.same .sq (by decide), show u.sq = _ from lost.same .sq (by decide), sq]
  · refine (State.bit_congr (State.reg_congr logged _) 26).trans (State.beach_lost ?_ ?_)
    · exact (State.bit_congr (State.reg_congr csr _) 25).trans head
    · exact (State.bit_congr (State.reg_congr csr _) 26).trans fresh

/-- The state in which a brown-out finds the load. -/
def State.browning (s : State) : State := { s with rails := { s.rails with vcore := false }, bt := { s.bt with on := false, brown := true } }

theorem State.brownOut_eq {s : State} (mv : Nat) (on : s.on = true) (up : s.bt.brown = false) : s.brownOut mv = s.browning.brownLoad.browned (mv % 65536) :=
  if_neg (by simp [on, up])

theorem State.brownOut_stays {s : State} (mv : Nat) (h : s.on = false ∨ s.bt.brown = true) : s.brownOut mv = s :=
  if_pos (by rcases h with h | h <;> simp [h])

theorem State.brownLoad_idle {s : State} (idle : s.ld.phase = .idle) : s.brownLoad = s := if_pos idle

/-- The end of the load that a brown-out finds. -/
theorem State.brownLoad_ends {s : State} (on : s.bt.on = false) (brown : s.bt.brown = true) (busy : s.ld.phase ≠ .idle) :
    s.brownLoad.ld.phase = .idle ∧ s.changes (.free :: .chain :: .ld :: unconfiguredParts) s.brownLoad := by
  unfold State.brownLoad
  rw [if_neg busy]
  simp only [State.draw]
  have drawn : s.changes [.free, .ld] (({ s with free := s.free + 1 } : State).setLd { s.ld with boot := false }) := by rfl
  have boot : (({ s with free := s.free + 1 } : State).setLd { s.ld with boot := false }).ld.boot = false := rfl
  generalize ({ s with free := s.free + 1 } : State).setLd { s.ld with boot := false } = u at *
  have bt : u.bt = s.bt := drawn.same .bt (by decide)
  unfold State.failLoad
  refine ⟨(State.rejectLoad_ends _ _ boot (by rw [bt, on])).1, (drawn.mono (by decide)).trans ?_⟩
  rw [State.rejectLoad_commanded _ _ boot (by rw [bt, on]), if_neg (by simp [bt, brown])]
  exact (u.reported_changes _ _).mono (by decide)

theorem State.endSounding_reg (s : State) (e : Nat) {a : Nat} (h : a ≠ PB 4) : (s.endSounding e).reg a = s.reg a := by
  cases on : s.sounding with
  | false => rw [State.endSounding_idle on]
  | true => exact (State.endSounding_ends on e).1 a h

theorem State.endLoans_reg (s : State) (p : Nat × Nat × Nat → Bool) {a : Nat} (h : a ≠ PB 4) : (s.endLoans p).reg a = s.reg a := by
  unfold State.endLoans
  extract_lets gone hl t u
  have hu : u.reg a = s.reg a := by
    unfold u
    split
    · exact t.reg_setBit_ne _ _ _ _ h
    · rfl
  split
  · exact (u.endSounding_reg 3 h).trans hu
  · exact hu

theorem State.pllsStop_mode (s : State) : s.pllsStop.reg (CK 0x204) = s.reg (CK 0x204) := by
  unfold State.pllsStop
  extract_lets keep
  refine (forAll_leaves (fun t => t.reg (CK 0x204)) (fun q t => t.reg_setBit_ne _ _ _ _ (LN_ne_CK _ _ _ (by decide)).symm) 24 _).trans
    (forAll_leaves (fun t => t.reg (CK 0x204)) (fun n t => ?_) 6 s)
  split
  · rfl
  · unfold State.spllStop
    extract_lets u
    have hu : u.reg (CK 0x204) = t.reg (CK 0x204) := (State.reg_setBit_ne _ _ _ _ _ (by simp; omega)).trans (State.reg_setBit_ne _ _ _ _ _ (by simp; omega))
    split
    · exact (u.reg_setBit_ne _ _ _ _ (by simp)).trans hu
    · exact hu

/-- The state in which DEEP_SLEEP is entered. -/
theorem State.deepReached_shows {s : State} (moving : s.clk.moving = true) (mode : s.mode = 1) (target : s.modeTarget = 2) :
    s.deepReached.mode = 2 ∧ s.deepReached.clk.moving = false ∧ s.deepReached.net = [] ∧
    s.changes [.csr, .hl, .probe, .fab, .clk, .net, .noc] s.deepReached := by
  unfold State.deepReached
  rw [if_pos (by simp [moving, mode, target])]
  have apart : CK 0x204 ≠ PB 4 := by decide
  extract_lets u v w y noc
  have loans : s.changes [.csr, .hl] u := by simp [u]
  have reg1 : u.reg (CK 0x204) = s.reg (CK 0x204) := s.endLoans_reg _ apart
  clear_value u
  have sound : u.changes [.csr, .hl] v := by simp [v]
  have reg2 : v.reg (CK 0x204) = u.reg (CK 0x204) := by
    unfold v
    split
    · exact (State.reg_setBit_ne _ _ _ _ _ apart).trans (u.endSounding_reg 3 apart)
    · rfl
  clear_value v
  have safe : v.changes [.probe, .fab] w := by simp [w]
  have hy : y = w.pllsStop.modeReached 2 := rfl
  clear_value y noc w
  have plls : w.changes [.csr] w.pllsStop := by simp
  have reg3 : w.pllsStop.reg (CK 0x204) = s.reg (CK 0x204) :=
    w.pllsStop_mode.trans ((State.reg_congr (safe.same .csr (by decide)) _).trans (reg2.trans reg1))
  generalize w.pllsStop = x at *
  obtain ⟨mode', clk, frame, -, -⟩ := x.modeReached_shows (m := 2) (by decide)
  rw [← hy] at mode' clk frame
  refine ⟨mode', ?_, rfl, ?_⟩
  · rw [clk]
    simp [show x.modeTarget = 2 from (State.fld_congr reg3 3 2).trans target]
  · exact ((((loans.mono (by decide)).trans (sound.mono (by decide))).trans (safe.mono (by decide))).trans (plls.mono (by decide))).trans
      ((frame.mono (by decide)).trans (by rfl))

theorem insNat_mem (x : Nat) (l : List Nat) : x ∈ insNat x l := by
  induction l with
  | nil => simp [insNat]
  | cons y ys ih =>
    unfold insNat
    split
    · simp
    · split
      · next h => simp [h]
      · simp [ih]

/-- The ports after their tier has lost power. -/
theorem State.forgetOps_shows (s : State) : s.changes [.fab] s.forgetOps ∧ ∀ k, k < 384 → (s.forgetOps.port k).fresh = false := by
  unfold State.forgetOps
  refine ⟨by simp, fun k hk => ?_⟩
  refine forAll_establishes (f := fun k t => t.setPort k { t.port k with fresh := false }) (P := fun t => (t.port k).fresh = false) hk (fun t => ?_)
    (fun j t ht => ?_) s
  · rw [State.port_setPort_same]
  · by_cases e : k = j
    · subst e
      rw [State.port_setPort_same]
    · rw [State.port_setPort_ne _ _ _ _ e]
      exact ht

/-- No port of the chain carries traffic while a rail of the chain is down. -/
theorem State.portOn_down {s : State} (h : s.chainRails = false) (p : Nat) : s.portOn p = false := by
  simp [State.portOn, h]

theorem State.sleepReached_eq {s : State} (moving : s.clk.moving = true) (mode : s.mode = 0) (target : s.modeTarget ≠ 0) :
    s.sleepReached = forAll 24 (fun q t => if t.gateWanted q || t.gateOpen q then t else t.setBit (LN (4 * q) 0x808) 0 false) (s.modeReached 1).portsLow :=
  if_pos (by simp [moving, mode, target])

theorem ZV_mode (p a : Nat) : CK 0x204 ≠ ZV p a := (ZV_ne_CK _ _ _ (by decide)).symm

/-- The state in which SLEEP is entered. -/
theorem State.sleepReached_shows {s : State} (moving : s.clk.moving = true) (mode : s.mode = 0) (target : s.modeTarget ≠ 0) :
    s.sleepReached.mode = 1 ∧ s.sleepReached.clk.moving = decide (s.modeTarget ≠ 1) ∧ s.changes [.csr, .clk, .probe, .chain] s.sleepReached ∧
    (∀ p, p < 4 → s.portOn p = true → s.sleepReached.low p = true) ∧
    s.sleepReached.chain.sent = s.chain.sent ++ List.replicate 16 (upPorts ++ downPorts, .set setSleep 0) := by
  rw [State.sleepReached_eq moving mode target]
  obtain ⟨mode', clk, frame, gates, regs⟩ := s.modeReached_shows (m := 1) (by decide)
  generalize s.modeReached 1 = t at *
  obtain ⟨low, sent, frame', regs'⟩ := t.portsLow_shows
  generalize t.portsLow = u at *
  have last : u.changes [.csr] (forAll 24 (fun q t => if t.gateWanted q || t.gateOpen q then t else t.setBit (LN (4 * q) 0x808) 0 false) u) := by simp
  have regs'' (a : Nat) (h : ∀ q, a ≠ LN (4 * q) 0x808) :
      (forAll 24 (fun q t => if t.gateWanted q || t.gateOpen q then t else t.setBit (LN (4 * q) 0x808) 0 false) u).reg a = u.reg a := by
    refine forAll_leaves (fun t => t.reg a) (fun q t => ?_) 24 u
    split
    · rfl
    · exact t.reg_setBit_ne _ _ _ _ (h q)
  generalize forAll 24 _ u = v at *
  refine ⟨?_, ?_, (frame.mono (by decide)).trans ((frame'.mono (by decide)).trans (last.mono (by decide))), fun p hp on => ?_, ?_⟩
  · refine (State.fld_congr ((regs'' _ (fun q => (LN_ne_CK _ _ _ (by decide)).symm)).trans (regs' _ (by decide) (by decide))) 0 2).trans mode'
  · rw [show v.clk = u.clk from last.same .clk (by decide), show u.clk = t.clk from frame'.same .clk (by decide), clk]
  · refine (State.bit_congr (regs'' _ (fun q => ?_)) 1).trans (low p hp ?_)
    · unfold ZV LN
      omega
    · exact State.portOn_of on (frame.same .life (by decide)) (frame.same .rails (by decide)) (frame.same .tap (by decide))
        (regs _ (ZV_mode _ _).symm (fun g hg => ZV_ne_CK _ _ _ (by omega))) (gates _)
  · rw [show v.chain = u.chain from last.same .chain (by decide), sent, show t.chain = s.chain from frame.same .chain (by decide)]

theorem State.wakeComplete_slept {s : State} (moving : s.clk.moving = true) (target : s.modeTarget = 0) (mode : s.mode = 1) :
    s.wakeComplete = (s.modeReached 0).portsFull := by
  unfold State.wakeComplete
  rw [if_neg (by simp [moving, target, mode]), if_pos mode]

theorem State.wakeComplete_cold {s : State} (moving : s.clk.moving = true) (target : s.modeTarget = 0) (mode : s.mode = 2) (count : s.tick.count = 0) :
    s.wakeComplete = (s.coldStart.modeReached 0).portsFull := by
  unfold State.wakeComplete
  rw [if_neg (by simp [moving, target, mode]), if_neg (by simp [mode]), if_pos count]

/-- RUN is reached, and the ports return to full rate. -/
theorem State.wakes_shows (s : State) : (s.modeReached 0).portsFull.mode = 0 ∧
    (s.modeReached 0).portsFull.clk = { s.clk with moving := decide (s.modeTarget ≠ 0) } ∧
    s.changes [.csr, .clk, .probe, .tick, .chain] (s.modeReached 0).portsFull ∧ (s.modeReached 0).portsFull.tick.frame = s.tick.frame ∧
    (s.modeReached 0).portsFull.tick.count = s.tick.count ∧ ∀ p, p < 4 → (s.modeReached 0).portsFull.low p = false := by
  obtain ⟨mode, clk, frame, -, -⟩ := s.modeReached_shows (m := 0) (by decide)
  generalize s.modeReached 0 = t at *
  obtain ⟨⟨moves, frames, count, regs, -⟩, full⟩ := t.portsFull_shows
  generalize t.portsFull = u at *
  have tick : t.tick = s.tick := frame.same .tick (by decide)
  exact ⟨(State.fld_congr (regs _ (by decide) (by decide)) 0 2).trans mode, (moves.same .clk (by decide)).trans clk,
    (frame.mono (by decide)).trans (moves.mono (by decide)), by rw [frames, tick], by rw [count, tick], full⟩

/-- The boot load that a recovered VCORE starts. -/
theorem State.beginBoot_shows (s : State) : s.beginBoot.ld.phase = .header ∧ s.beginBoot.ld.boot = true ∧ s.beginBoot.bt = { s.bt with n := s.bt.n + 1 } ∧
    s.changes [.ld, .bt, .sq] s.beginBoot := by
  refine ⟨?_, ?_, ?_, by simp [State.beginBoot]⟩
  all_goals
    unfold State.beginBoot State.beginLoad
    simp only [if_true]
    rfl

/-- A unit whose VCORE is back begins the boot procedure anew from its store. -/
def State.recovered (s : State) : State :=
  { s with rails := { s.rails with vcore := true }, bt := { started := true, on := true, source := 0, slot := s.bootSlot, reload := true } }

theorem State.vcoreBack_boots {s : State} (brown : s.bt.brown = true) (up : s.hl.up = true) (lc : s.lc ≠ 7) (idle : s.ld.phase = .idle) (boot : s.boot = 0)
    (valid : (s.slot s.bootSlot).st = 2) : s.vcoreBack = s.recovered.beginBoot := by
  have goes : s.vcoreBack = s.recovered.bootResume := by
    unfold State.vcoreBack
    rw [if_neg (by simp [brown])]
    have source : State.bootSource { s with rails := { s.rails with vcore := true }, bt := { s.bt with brown := false } } = some (0, s.bootSlot) := if_pos boot
    simp only [State.setRails, source]
    exact if_neg lc
  have starts : s.recovered.bootResume = State.bootLoop 3 s.recovered := if_pos (by
    simp only [State.recovered, up, idle, Bool.and_true, decide_true])
  exact goes.trans (starts.trans (State.bootLoop_begins 2 rfl valid Nat.two_pos))

/-- What the fall of a rail of the chain leaves. -/
theorem State.railHeld (s : State) (x : Rails) (down : (x.vmem && x.vtx && x.vtt) = false) :
    ((∀ r, r < 96 → ((s.setRails x).holdUnit.region r).held = true) ∧ (s.setRails x).holdUnit.run.hold = true ∧ (s.setRails x).holdUnit.sq.on = false ∧
      (s.setRails x).holdUnit.life = s.life ∧ (s.setRails x).holdUnit.mem = s.mem ∧ (s.setRails x).holdUnit.tick = s.tick) ∧
    (s.setRails x).holdUnit.bt = s.bt ∧ (∀ p, (s.setRails x).holdUnit.portOn p = false) ∧ (s.setRails x).holdUnit.rails = x := by
  obtain ⟨frame, regions, hold, off⟩ := (s.setRails x).holdUnit_shows
  generalize (s.setRails x).holdUnit = u at *
  have rails : u.rails = x := frame.same .rails (by decide)
  exact ⟨⟨regions, hold, off, frame.same .life (by decide), frame.same .mem (by decide), frame.same .tick (by decide)⟩, frame.same .bt (by decide),
    State.portOn_down (by rw [State.chainRails, rails, down]), rails⟩

theorem State.railDown_vcore (s : State) : s.railDown .vcore = (s.draw.2.brownOut (s.draw.1 % 811)).setRails { (s.draw.2.brownOut (s.draw.1 % 811)).rails with vcore := false } :=
  rfl

/-- The routers have lost their packets. -/
def State.netLost (s : State) : State := { s with net := [], noc := { s.noc with served := [], bulk := [], turn := [] } }

theorem State.netLost_frame (s : State) : s.netLost.net = [] ∧ s.changes [.net, .noc] s.netLost := ⟨rfl, rfl⟩

theorem State.railDown_vmem (s : State) : s.railDown .vmem = (s.setRails { s.rails with vmem := false }).holdUnit.forgetOps.netLost := by
  simp only [State.railDown, State.netLost]

theorem State.vmemFall_shows (s : State) : (s.railDown .vmem).net = [] ∧ (∀ k, k < 384 → ((s.railDown .vmem).port k).fresh = false) ∧
    (s.railDown .vmem).rails = { s.rails with vmem := false } ∧ s.changes [.rg, .fab, .run, .sq, .rails, .net, .noc] (s.railDown .vmem) ∧
    (∀ r, r < 96 → ((s.railDown .vmem).region r).held = true) ∧ (s.railDown .vmem).run.hold = true ∧ (s.railDown .vmem).sq.on = false := by
  rw [s.railDown_vmem]
  obtain ⟨stands, -, -, rails⟩ := s.railHeld { s.rails with vmem := false } (by simp)
  obtain ⟨regions, hold, off, -, -, -⟩ := stands
  have first : s.changes [.rails, .rg, .fab, .run, .sq] (s.setRails { s.rails with vmem := false }).holdUnit :=
    State.changes.trans (t := s.setRails { s.rails with vmem := false }) (by simp) ((State.holdUnit_shows _).1.mono (by decide))
  generalize (s.setRails { s.rails with vmem := false }).holdUnit = u at *
  obtain ⟨forgets, ports⟩ := u.forgetOps_shows
  generalize u.forgetOps = v at *
  obtain ⟨net, lost⟩ := v.netLost_frame
  generalize v.netLost = w at *
  have last : u.changes [.fab, .net, .noc] w := (forgets.mono (by decide)).trans (lost.mono (by decide))
  have fab : w.fab = v.fab := lost.same .fab (by decide)
  refine ⟨net, fun k hk => ?_, (last.same .rails (by decide)).trans rails, (first.mono (by decide)).trans (last.mono (by decide)), fun r hr => ?_,
    (congrArg Run.hold (last.same .run (by decide) :)).trans hold, (congrArg Seq.on (last.same .sq (by decide) :)).trans off⟩
  · rw [State.port, fab]
    exact ports k hk
  · exact (congrArg Region.held (State.region_congr (last.same .rg (by decide)) r)).trans (regions r hr)

/-- What stands once VAUX is gone. -/
def State.unpowered (s : State) : State where
  pending := s.pending
  free := s.free
  rails := s.rails
  hl := { sel := s.hl.sel }
  store := { slots := s.store.slots, rec0 := s.store.rec0, rec1 := s.store.rec1 }
  life := { otp := s.life.otp }
  isl := s.island

theorem State.finishChunk_none {s : State} (h : s.store.prog = none) : s.finishChunk = s := by
  unfold State.finishChunk
  rw [h]

@[simp] theorem State.changes_burnCopy (l : List Part) (s t : State) (g c v : Nat) (h : Part.life ∈ l) : s.changes l (t.burnCopy g c v) ↔ s.changes l t :=
  State.changes.through (m := [.life]) (by rfl) (by simpa using h) s

theorem State.cutBurn_shows (s : State) : s.changes [.life, .free] s.cutBurn ∧ (s.life.burning = false → s.cutBurn = s) := by
  unfold State.cutBurn
  split
  · next g v rest burns =>
    refine ⟨?_, fun still => if_pos (by simp [still])⟩
    split
    · exact s.changes_refl _
    · simp only [State.draw]
      have drawn : s.changes [.life, .free] { s with free := s.free + 1 + 1 } := by rfl
      generalize ({ s with free := s.free + 1 + 1 } : State) = t at drawn ⊢
      simp [drawn]
  · exact ⟨s.changes_refl _, fun _ => rfl⟩

/-! ## The obligation -/

/-- Settles O57. -/
theorem powerAndSupplies : Obligations.PowerAndSupplies := by
  unfold Obligations.PowerAndSupplies
  intro s held
  refine ⟨fun moving mode target => ?_, fun moving mode target => ?_, fun moving target mode => ?_, fun moving target mode count => ?_, fun moving c hc => ?_,
    fun mv on up idle => ?_, fun mv on up busy => ?_, fun mv h => completes_by rfl (State.brownOut_stays mv h) rfl,
    fun brown up lc idle boot valid => ?_, fun up => completes_by rfl (if_pos (by simp [up])) rfl,
    fun on up idle => ?_, fun h => ?_, completes_intro rfl ⟨rfl, rfl, rfl⟩, fun rail h => ?_, fun b c hc => ?_,
    completes_intro rfl rfl, completes_intro rfl rfl, completes_intro rfl rfl, completes_intro rfl rfl, completes_intro rfl rfl,
    fun b => completes_intro rfl ⟨insNat_mem _ _, rfl⟩, fun on prog => ?_, fun off => completes_by rfl (if_pos (by simp [off])) rfl⟩
  · obtain ⟨mode', clk, frame, low, sent⟩ := State.sleepReached_shows moving mode target
    exact completes_intro rfl ⟨mode', clk, frame.same .mem (by decide), frame.same .qs (by decide), frame.same .rg (by decide), frame.same .tick (by decide),
      low, sent⟩
  · obtain ⟨mode', clk, net, frame⟩ := State.deepReached_shows moving mode target
    exact completes_intro rfl ⟨mode', clk, net, frame.same .mem (by decide), frame.same .qs (by decide), frame.same .rg (by decide),
      frame.same .tick (by decide)⟩
  · obtain ⟨mode', clk, frame, frames, count, low⟩ := s.wakes_shows
    exact completes_by rfl (State.wakeComplete_slept moving target mode) ⟨mode', by rw [clk]; simp [target], frame.same .mem (by decide),
      frame.same .qs (by decide), frame.same .rg (by decide), frames, count, low⟩
  · obtain ⟨mem, clk, queues, on, slot⟩ := s.coldStart_shows
    obtain ⟨mode', clk', frame, -, -, -⟩ := s.coldStart.wakes_shows
    refine completes_by rfl (State.wakeComplete_cold moving target mode count) ?_
    generalize (s.coldStart.modeReached 0).portsFull = t at *
    have sq : t.sq = s.coldStart.sq := frame.same .sq (by decide)
    refine ⟨mode', (frame.same .mem (by decide)).trans mem, by rw [clk', clk], fun q hq => ?_, by rw [sq, on], by rw [sq, slot]⟩
    rw [State.desc, State.queue_congr (frame.same .qs (by decide))]
    exact queues q hq
  · simp only [List.mem_cons, List.not_mem_nil, or_false] at hc
    rcases hc with rfl | rfl | rfl
    · exact completes_by rfl (if_neg (by simp [moving])) rfl
    · exact completes_by rfl (if_neg (by simp [moving])) rfl
    · exact completes_by rfl (if_pos (by simp [moving])) rfl
  · refine completes_by rfl ((State.brownOut_eq mv on up).trans (congrArg (State.browned · _) (State.brownLoad_idle idle))) ?_
    obtain ⟨frame, regions, hold, off, beached⟩ := s.browning.browned_shows (mv % 65536)
    generalize s.browning.browned (mv % 65536) = t at *
    exact ⟨⟨regions, hold, off, frame.same .life (by decide), frame.same .mem (by decide), frame.same .tick (by decide)⟩,
      congrArg Rails.vcore (frame.same .rails (by decide) :), congrArg Boot.brown (frame.same .bt (by decide) :), frame.same .store (by decide),
      fun h => beached h.1 h.2⟩
  · refine completes_by rfl (State.brownOut_eq mv on up) ?_
    obtain ⟨phase, ends⟩ := State.brownLoad_ends (s := s.browning) rfl rfl busy
    generalize s.browning.brownLoad = u at *
    obtain ⟨frame, regions, hold, off, -⟩ := u.browned_shows (mv % 65536)
    generalize u.browned (mv % 65536) = t at *
    have all : s.browning.changes (.ld :: .log :: .logSeq :: .sq :: .free :: .probe :: .chain :: unconfiguredParts) t := (ends.mono (by decide)).trans (frame.mono (by decide))
    have ld : t.ld = u.ld := frame.same .ld (by decide)
    exact ⟨by rw [ld, phase], regions, hold, off, congrArg Rails.vcore (all.same .rails (by decide) :), congrArg Boot.brown (all.same .bt (by decide) :),
      all.same .life (by decide), congrArg Store.slots (all.same .store (by decide) :)⟩
  · refine completes_by rfl (State.vcoreBack_boots brown up lc idle boot valid) ?_
    obtain ⟨phase, boots, bt, frame⟩ := s.recovered.beginBoot_shows
    generalize s.recovered.beginBoot = t at *
    refine ⟨congrArg Rails.vcore (frame.same .rails (by decide) :), by rw [bt]; rfl, by rw [bt]; rfl, phase, boots, ?_⟩
    have all : s.changes [.rails, .bt, .ld, .sq] t := (show s.changes [.rails, .bt, .ld, .sq] s.recovered from by rfl).trans (frame.mono (by decide))
    exact all
  · have on' : s.draw.2.on = true := on
    refine completes_by rfl (congrArg (fun t => t.setRails { t.rails with vcore := false }) ((State.brownOut_eq (s.draw.1 % 811) on' up).trans
      (congrArg (State.browned · _) (State.brownLoad_idle (s := s.draw.2.browning) idle)))) ?_
    obtain ⟨frame, regions, hold, off, -⟩ := s.draw.2.browning.browned_shows (s.draw.1 % 811 % 65536)
    generalize s.draw.2.browning.browned (s.draw.1 % 811 % 65536) = t at *
    exact ⟨⟨regions, hold, off, frame.same .life (by decide), frame.same .mem (by decide), frame.same .tick (by decide)⟩,
      rfl, congrArg Boot.brown (frame.same .bt (by decide) :), frame.same .store (by decide)⟩
  · have stays : s.railDown .vcore = s.draw.2.setRails { s.rails with vcore := false } := by
      rw [s.railDown_vcore, State.brownOut_stays (s := s.draw.2) _ h]
      rfl
    exact completes_by rfl stays ⟨rfl, rfl⟩
  · rcases h with rfl | rfl | rfl
    · obtain ⟨net, ops, rails, frame, regions, hold, off⟩ := s.vmemFall_shows
      refine completes_intro rfl ?_
      generalize s.railDown .vmem = t at *
      exact ⟨⟨regions, hold, off, frame.same .life (by decide), frame.same .mem (by decide), frame.same .tick (by decide)⟩, frame.same .bt (by decide),
        State.portOn_down (by simp [State.chainRails, rails]), fun _ => ⟨by rw [rails], net, ops⟩, nofun, nofun⟩
    · have fall : s.railDown .vtx = (s.setRails { s.rails with vtx := false }).holdUnit := rfl
      obtain ⟨stands, bt, ports, rails⟩ := s.railHeld { s.rails with vtx := false } (by simp)
      refine completes_by rfl fall ?_
      generalize (s.setRails { s.rails with vtx := false }).holdUnit = t at *
      exact ⟨stands, bt, ports, nofun, fun _ => by rw [rails], nofun⟩
    · have fall : s.railDown .vtt = (s.setRails { s.rails with vtt := false }).holdUnit := rfl
      obtain ⟨stands, bt, ports, rails⟩ := s.railHeld { s.rails with vtt := false } (by simp)
      refine completes_by rfl fall ?_
      generalize (s.setRails { s.rails with vtt := false }).holdUnit = t at *
      exact ⟨stands, bt, ports, nofun, nofun, fun _ => by rw [rails]⟩
  · have gone : b.val ∉ (s.vioLost b.val).rails.vio := by simp [State.vioLost, State.setRails]
    simp only [List.mem_cons, List.not_mem_nil, or_false] at hc
    rcases hc with rfl | rfl
    · exact completes_intro rfl ⟨gone, rfl⟩
    · exact completes_intro rfl ⟨gone, rfl⟩
  · obtain ⟨frame, calm⟩ := s.cutBurn_shows
    have fall : s.vauxFall = s.cutBurn.unpowered := by
      unfold State.vauxFall
      rw [if_neg (by simp [on]), State.finishChunk_none ((congrArg Store.prog (frame.same .store (by decide) :)).trans prog)]
      rfl
    refine completes_by rfl fall ?_
    generalize s.cutBurn = t at *
    have store : t.store = s.store := frame.same .store (by decide)
    have hl : t.hl = s.hl := frame.same .hl (by decide)
    refine ⟨rfl, rfl, rfl, rfl, rfl, frame.same .rails (by decide), ?_, ?_, ?_, ?_, fun still => ?_⟩
    · rw [← hl]
      rfl
    · rw [← store]
      rfl
    · rw [← store]
      rfl
    · rw [← store]
      rfl
    · rw [calm still]
      exact ⟨rfl, rfl⟩

end Sys2Proof.Machine
end

section
/-! Injection of packets (spec/07 R206, R216). -/
namespace Sys2Proof.Machine

/-- A field reads the same from the number cut above it. -/
theorem bits_mod (x : Nat) {lo w m : Nat} (h : lo + w ≤ m) : bits (x % 2 ^ m) lo w = bits x lo w := by
  refine Nat.eq_of_testBit_eq fun i => ?_
  rw [testBit_bits, testBit_bits, Nat.testBit_mod_two_pow]
  by_cases hi : i < w
  · rw [decide_eq_true (show lo + i < m by omega), Bool.true_and]
  · simp [hi]

/-- What is added from bit `m` on leaves the fields below. -/
theorem bits_add_high (a : BitVec 256) {m k lo w : Nat} (hm : m ≤ 256) (h : lo + w ≤ m) : bits (a + BitVec.ofNat 256 (k * 2 ^ m)).toNat lo w = bits a.toNat lo w := by
  rw [← bits_mod _ h, ← bits_mod a.toNat h, BitVec.toNat_add, BitVec.toNat_ofNat, Nat.mod_mod_of_dvd _ (Nat.pow_dvd_pow 2 hm), Nat.add_mod,
    Nat.mod_mod_of_dvd _ (Nat.pow_dvd_pow 2 hm), Nat.mul_mod_left, Nat.add_zero, Nat.mod_mod]

/-- The header of a response: a header, and the bit of a wide access. -/
theorem wideHdr_fields (dst src vc typ len tag status addr data aux0 aux1 : Nat) (wide : Bool) (p : Packet)
    (h : p.hdr = mkHdr dst src vc typ len tag status addr data aux0 aux1 + BitVec.ofNat 256 (if wide then 2 ^ 48 else 0)) :
    p.dst = dst % 256 ∧ p.src = src % 256 ∧ p.vc = vc % 4 ∧ p.typ = typ % 16 ∧ p.tag = tag % 256 ∧ p.status = status % 256 := by
  obtain ⟨fdst, fsrc, fvc, ftyp, -, ftag, fstatus, -, -⟩ := mkHdr_fields dst src vc typ len tag status addr data aux0 aux1
    { hdr := mkHdr dst src vc typ len tag status addr data aux0 aux1, data := [] } rfl
  obtain ⟨k, wideIs⟩ : ∃ k, (if wide then 2 ^ 48 else 0) = k * 2 ^ 48 := by
    cases wide
    · exact ⟨0, by simp⟩
    · exact ⟨1, by simp⟩
  rw [wideIs] at h
  generalize mkHdr dst src vc typ len tag status addr data aux0 aux1 = a at *
  have reads {lo w : Nat} (le : lo + w ≤ 48) : p.h lo w = bits a.toNat lo w := by rw [Packet.h, h, bits_add_high a (by decide) le]
  exact ⟨(reads (by decide)).trans fdst, (reads (by decide)).trans fsrc, (reads (by decide)).trans fvc, (reads (by decide)).trans ftyp,
    (reads (by decide)).trans ftag, (reads (by decide)).trans fstatus⟩

/-- The packet that an injection makes of its operands. -/
def injected (n : Nat) (hdr : BitVec 256) (data : List DWord) : Packet := { hdr := BitVec.ofNat 256 (setBits hdr.toNat 8 8 n), data }

theorem injected_src (n : BitVec 8) (hdr : BitVec 256) (data : List DWord) : (injected n.toNat hdr data).src = n.toNat := by
  rw [Packet.src, Packet.h, injected, BitVec.toNat_ofNat, bits_mod _ (by decide), bits_setBits_same]
  exact Nat.mod_eq_of_lt n.isLt

theorem State.send_eq (s : State) (p : Packet) : s.send p = { s with net := s.net ++ [p.routed] } := rfl

/-- The header of an answer to `p`. -/
def answerHdr (who : Nat) (p : Packet) (status d : Nat) : BitVec 256 :=
  mkHdr p.src who 1 (p.typ + 2) 0 p.tag status p.addr d 0 0 + BitVec.ofNat 256 (if p.wide then 2 ^ 48 else 0)

theorem State.respond_eq (s : State) (who : Nat) (p : Packet) (status data : Nat) : s.respond who p status data =
    s.send { hdr := answerHdr who p status (if status = 0 && p.typ = 0 then data else 0), data := [], req := p.req } := rfl

/-- The header of a packet does not depend on its route. -/
theorem Packet.routed_reads (p : Packet) : p.routed.dst = p.dst ∧ p.routed.src = p.src ∧ p.routed.vc = p.vc ∧ p.routed.typ = p.typ ∧ p.routed.tag = p.tag ∧
    p.routed.status = p.status ∧ p.routed.req = p.req := ⟨rfl, rfl, rfl, rfl, rfl, rfl, rfl⟩

/-- What a router answers. -/
theorem State.respond_shows (s : State) (who : Nat) (p : Packet) (status data : Nat) : ∃ q, s.respond who p status data = { s with net := s.net ++ [q] } ∧
    q.dst = p.src ∧ q.src = who % 256 ∧ q.vc = 1 ∧ q.typ = (p.typ + 2) % 16 ∧ q.tag = p.tag ∧ q.status = status % 256 ∧ q.req = p.req := by
  have byte (lo : Nat) : p.h lo 8 % 256 = p.h lo 8 := Nat.mod_eq_of_lt (Nat.lt_of_lt_of_eq (bits_lt _ _ _) (by norm_num))
  rw [s.respond_eq, State.send_eq]
  obtain ⟨dst, src, vc, typ, tag, st⟩ := wideHdr_fields p.src who 1 (p.typ + 2) 0 p.tag status p.addr (if status = 0 && p.typ = 0 then data else 0) 0 0 p.wide
    { hdr := answerHdr who p status (if status = 0 && p.typ = 0 then data else 0), data := [], req := p.req } rfl
  generalize hq : ({ hdr := answerHdr who p status (if status = 0 && p.typ = 0 then data else 0), data := [], req := p.req } : Packet) = q at *
  obtain ⟨rdst, rsrc, rvc, rtyp, rtag, rst, rreq⟩ := q.routed_reads
  exact ⟨q.routed, rfl, rdst.trans (dst.trans (byte 8)), rsrc.trans src, rvc.trans vc, rtyp.trans typ, rtag.trans (tag.trans (byte 32)), rst.trans st,
    rreq.trans (by rw [← hq])⟩

section
variable {s : State} {n : BitVec 8} {hdr : BitVec 256} {data : List DWord}

theorem State.inject_off (h : nodeKind n.toNat = .nothing ∨ s.routersOn = false) : s.inject n.toNat hdr data = s :=
  if_pos (by simpa using h)

theorem State.inject_on (kind : nodeKind n.toNat ≠ .nothing) (on : s.routersOn = true) {p : Packet} (hp : p = injected n.toNat hdr data) :
    s.inject n.toNat hdr data =
      if !headerOk p then (if p.typ = 0 || p.typ = 1 then (s.inc (NR (nodeRouter n.toNat) 0x40)).badRequest n.toNat p else s.inc (NR (nodeRouter n.toNat) 0x40))
      else if !(p.typ = 0 || p.typ = 1) then s.send p
      else if maxRequests n.toNat = 0 then s.inc (NR (nodeRouter n.toNat) 0x40)
      else if maxRequests n.toNat ≤ p.tag ∨ s.tagBusy n.toNat p.tag then s
      else (s.takeTag n.toNat p.tag).send { p with req := s.nextReq } := by
  subst hp
  exact if_neg (by simp [kind, on])

/-- A request with a wrong header is answered BAD_ARG. -/
theorem State.badRequest_shows (s : State) (n : BitVec 8) {p : Packet} (src : p.src = n.toNat) (typ : p.typ < 2) : ∃ q rs,
    s.badRequest n.toNat p = { s with net := s.net ++ [q], reqs := rs, noc := { s.noc with reqN := s.noc.reqN + 1 } } ∧
    (p.tag < maxRequests n.toNat → s.tagBusy n.toNat p.tag = false → rs = s.reqs ++ [⟨n.toNat, p.tag, s.noc.reqN + 1⟩]) ∧
    (maxRequests n.toNat ≤ p.tag ∨ s.tagBusy n.toNat p.tag = true → rs = s.reqs) ∧
    q.typ = p.typ + 2 ∧ q.dst = n.toNat ∧ q.tag = p.tag ∧ q.status = 4 ∧ q.req = s.noc.reqN + 1 := by
  have whole : (p.typ + 2) % 16 = p.typ + 2 := by omega
  unfold State.badRequest
  split
  · next h =>
    obtain ⟨q, eq, dst, -, -, qtyp, tag, status, req⟩ := State.respond_shows { s with noc := { s.noc with reqN := s.nextReq } } (routerNode (nodeRouter n.toNat))
      { p with req := s.nextReq } 4 0
    refine ⟨q, s.reqs, eq, fun room free => ?_, fun _ => rfl, qtyp.trans whole, dst.trans src, tag, status, req⟩
    rcases h with h | h
    · omega
    · rw [free] at h
      exact absurd h (by decide)
  · next h =>
    obtain ⟨q, eq, dst, -, -, qtyp, tag, status, req⟩ := State.respond_shows (s.takeTag n.toNat p.tag) (routerNode (nodeRouter n.toNat)) { p with req := s.nextReq } 4 0
    exact ⟨q, _, eq, fun _ _ => rfl, fun taken => absurd taken h, qtyp.trans whole, dst.trans src, tag, status, req⟩

end

/-- Settles O42. -/
theorem packetInjection : Obligations.PacketInjection := by
  unfold Obligations.PacketInjection
  intro s n hdr data
  refine ⟨fun h => completes_by rfl (State.inject_off h) rfl, fun kind on p hp => ?_⟩
  have run := State.inject_on (s := s) (hdr := hdr) (data := data) kind on hp
  have src : p.src = n.toNat := by rw [hp]; exact injected_src n hdr data
  have request (h : p.typ < 2) : (p.typ = 0 || p.typ = 1) = true := by
    simp only [Bool.or_eq_true, decide_eq_true_eq]
    omega
  have other (h : 2 ≤ p.typ) : (p.typ = 0 || p.typ = 1) = false := by
    simp only [Bool.or_eq_false_iff, decide_eq_false_iff_not]
    omega
  refine ⟨fun ok typ => ?_, fun ok typ room free => ?_, fun ok typ some waits => ?_, fun ok typ none => ?_, fun bad => ?_⟩
  · rw [ok, other typ] at run
    exact completes_by rfl run ⟨rfl, src⟩
  · rw [ok, request typ] at run
    refine completes_by rfl (run.trans ((if_neg (by decide)).trans ((if_neg (by decide)).trans ((if_neg (by omega)).trans (if_neg ?_))))) rfl
    simp [free, room]
  · rw [ok, request typ] at run
    exact completes_by rfl (run.trans ((if_neg (by decide)).trans ((if_neg (by decide)).trans ((if_neg (by omega)).trans (if_pos waits))))) rfl
  · rw [ok, request typ] at run
    exact completes_by rfl (run.trans ((if_neg (by decide)).trans ((if_neg (by decide)).trans (if_pos none))))
      ⟨s.reg_inc_same _, fun a ha => s.reg_inc_ne _ _ ha, rfl⟩
  · rw [bad] at run
    by_cases typ : p.typ < 2
    · rw [request typ] at run
      obtain ⟨q, rs, eq, takes, keeps, shows⟩ := (s.inc (NR (nodeRouter n.toNat) 0x40)).badRequest_shows n src typ
      refine completes_by rfl ((run.trans ((if_pos (by decide)).trans (if_pos (by decide)))).trans eq) ?_
      exact ⟨s.reg_inc_same _, fun a ha => s.reg_inc_ne _ _ ha, rfl, fun h => absurd h (by omega), fun _ => ⟨rfl, takes, keeps, q, rfl, shows⟩⟩
    · rw [other (by omega)] at run
      exact completes_by rfl (run.trans ((if_pos (by decide)).trans (if_neg (by decide))))
        ⟨s.reg_inc_same _, fun a ha => s.reg_inc_ne _ _ ha, rfl, fun _ => rfl, fun h => absurd h typ⟩

end Sys2Proof.Machine
end

section
/-! The slot wheel and the scrub engines (spec/06 R175, R176, R188, R195 to R197). -/
namespace Sys2Proof.Machine

/-! ## A memory cycle (R175, R176) -/

/-- The queue at the wheel's next position. -/
def Queue.turn (x : Queue) : Queue := { x with wheel := (x.wheel + 1) % 16, accWait := x.accWait - 1 }

/-- The controller at the wheel's next position. -/
def State.turn (s : State) (q : Nat) : State := s.setQueue q (s.queue q).turn

/-- A change of queue `q` that keeps its descriptor. -/
def State.inQueue (s : State) (q : Nat) (t : State) (y : Queue) : Prop :=
  t.queue q = y ∧ (∀ k, k ≠ q → t.queue k = s.queue k) ∧ s.changes [.qs] t

section
variable {s t : State} {q : Nat}

theorem State.inQueue_setQueue (s : State) (q : Nat) (y : Queue) : s.inQueue q (s.setQueue q y) y :=
  ⟨s.queue_setQueue_same q y, fun k h => s.queue_setQueue_ne q k y h, by rfl⟩

theorem State.inQueue.trans {y z : Queue} {u : State} (h : s.inQueue q t y) (k : t.inQueue q u z) : s.inQueue q u z :=
  ⟨k.1, fun j hj => (k.2.1 j hj).trans (h.2.1 j hj), h.2.2.trans k.2.2⟩

theorem State.qBlock_congr (h : t.desc q = s.desc q) (o : Nat) : t.qBlock q o = s.qBlock q o := by rw [State.qBlock, State.qBlock, h]

theorem State.inQueue.qBlock {y : Queue} (h : s.inQueue q t y) (desc : y.desc = (s.queue q).desc) (o : Nat) : t.qBlock q o = s.qBlock q o :=
  State.qBlock_congr (State.desc_congr ((congrArg Queue.desc h.1).trans desc)) o

theorem State.turn_inQueue (s : State) (q : Nat) : s.inQueue q (s.turn q) (s.queue q).turn := s.inQueue_setQueue q _

theorem State.turn_desc (s : State) (q : Nat) : (s.turn q).desc q = s.desc q :=
  State.desc_congr ((congrArg Queue.desc (s.turn_inQueue q).1).trans rfl)

theorem State.turn_canPrefetch (s : State) (q : Nat) : (s.turn q).canPrefetch q = s.canPrefetch q := by
  simp only [State.canPrefetch, State.fifoLike, State.qMode, State.poppable, State.wq, s.turn_desc, (s.turn_inQueue q).1]
  rfl

theorem State.turn_readoutReads (s : State) (q : Nat) : (s.turn q).readoutReads q = s.readoutReads q := by
  simp only [State.readoutReads, State.readoutWaits, State.readoutSpan, State.retained, State.wq, s.turn_desc, (s.turn_inQueue q).1]
  rfl

theorem State.turn_accDue (s : State) (q : Nat) : (s.turn q).accDue q = (s.accBusy q && decide ((s.queue q).accWait ≤ 1)) := by
  have wait : ((s.turn q).queue q).accWait = (s.queue q).accWait - 1 := congrArg Queue.accWait (s.turn_inQueue q).1
  have busy : (s.turn q).accBusy q = s.accBusy q := rfl
  rw [State.accDue, wait, busy]
  simp only [Nat.sub_eq_zero_iff_le]

theorem State.slotWheel_stands (h : s.clk.stopped = true ∨ s.run.hold = true ∨ s.routersOn = false) : s.slotWheel q = s :=
  if_pos (by rcases h with h | h | h <;> simp [h])

/-- The slot of the running position. -/
def State.writeTurn (s : State) (q : Nat) : Bool := writeSlot ((s.queue q).wheel % 16) (dSlots (s.desc q))

theorem State.slotWheel_goes (clk : s.clk.stopped = false) (hold : s.run.hold = false) (on : s.routersOn = true) (idle : (s.queue q).leaving = none) :
    s.slotWheel q = if (s.writeTurn q && (s.turn q).writePending q) || (!s.writeTurn q && !(s.turn q).readPending q && (s.turn q).writePending q)
      then (s.turn q).serveWrite q else (s.turn q).serveRead q := by
  have runs : ¬(s.clk.stopped || s.run.hold || !s.routersOn) = true := by simp [clk, hold, on]
  unfold State.slotWheel
  rw [if_neg runs, State.endRecord_stays (.inl idle)]
  rfl

theorem State.slotWheel_writes (clk : s.clk.stopped = false) (hold : s.run.hold = false) (on : s.routersOn = true) (idle : (s.queue q).leaving = none)
    (turn : s.writeTurn q = true ∨ (s.turn q).readPending q = false) (pending : (s.turn q).writePending q = true) : s.slotWheel q = (s.turn q).serveWrite q := by
  rw [State.slotWheel_goes clk hold on idle, if_pos]
  cases w : s.writeTurn q
  · rcases turn with h | h
    · rw [w] at h
      exact absurd h (by decide)
    · simp [pending, h]
  · simp [pending]

theorem State.slotWheel_reads (clk : s.clk.stopped = false) (hold : s.run.hold = false) (on : s.routersOn = true) (idle : (s.queue q).leaving = none)
    (turn : (s.turn q).writePending q = false ∨ (s.writeTurn q = false ∧ (s.turn q).readPending q = true)) : s.slotWheel q = (s.turn q).serveRead q := by
  rw [State.slotWheel_goes clk hold on idle, if_neg]
  rcases turn with h | ⟨h, k⟩
  · simp [h]
  · simp [h, k]

/-! ## The write side (R176, R188) -/

theorem State.queueWrite_shows (s : State) (q o n : Nat) :
    (∀ i, i < 8 → (s.queueWrite q o n).byte (8 * wordKey (s.qBlock q o) (o % 4096) + i) = BitVec.ofNat 8 (n / 256 ^ i % 256)) ∧
    (∀ a, a < 8 * wordKey (s.qBlock q o) (o % 4096) ∨ 8 * wordKey (s.qBlock q o) (o % 4096) + 8 ≤ a → (s.queueWrite q o n).byte a = s.byte a) ∧
    s.changes [.mem, .flips, .ueSeen] (s.queueWrite q o n) := by
  obtain ⟨-, bytes, rest, frame⟩ := s.putWord_shows (s.qBlock q o) (o % 4096) n
  exact ⟨bytes, rest, frame⟩

/-- The word `o` of the queue holds `n`, every other byte what it held. -/
def State.holdsWord (s : State) (q : Nat) (t : State) (o n : Nat) : Prop :=
  (∀ i, i < 8 → t.byte (8 * wordKey (s.qBlock q o) (o % 4096) + i) = BitVec.ofNat 8 (n / 256 ^ i % 256)) ∧
  ∀ a, a < 8 * wordKey (s.qBlock q o) (o % 4096) ∨ 8 * wordKey (s.qBlock q o) (o % 4096) + 8 ≤ a → t.byte a = s.byte a

theorem State.holdsWord.as {o n m : Nat} (h : s.holdsWord q t o n) (e : n = m) : s.holdsWord q t o m := e ▸ h

/-- A store into a queue whose controller has moved on to `y`. -/
theorem State.inQueue.writes {y : Queue} (h : s.inQueue q t y) (desc : y.desc = (s.queue q).desc) (o n : Nat) :
    ((t.queueWrite q o n).queue q = y ∧ ∀ k, k ≠ q → (t.queueWrite q o n).queue k = s.queue k) ∧ s.holdsWord q (t.queueWrite q o n) o n ∧
    s.changes [.qs, .mem, .flips, .ueSeen] (t.queueWrite q o n) := by
  obtain ⟨bytes, rest, frame⟩ := t.queueWrite_shows q o n
  have qs (k : Nat) : (t.queueWrite q o n).queue k = t.queue k := State.queue_congr (frame.same .qs (by decide)) k
  rw [h.qBlock desc] at bytes rest
  refine ⟨⟨(qs q).trans h.1, fun k hk => (qs k).trans (h.2.1 k hk)⟩, ⟨bytes, fun a ha => (rest a ha).trans ?_⟩, (h.2.2.mono (by decide)).trans (frame.mono (by decide))⟩
  rw [State.byte, State.byte, show t.mem = s.mem from h.2.2.same .mem (by decide)]

theorem State.serveWrite_word {o l rest} {n : DWord} (h : (s.queue q).wbuf = .word o n l :: rest) :
    s.serveWrite q = (s.setQueue q { s.queue q with wbuf := rest }).queueWrite q o n.toNat := by
  unfold State.serveWrite
  simp [h]

theorem State.serveWrite_header {o} {n : DWord} (h : (s.queue q).wbuf = [.header o n]) :
    s.serveWrite q = (s.setQueue q { s.queue q with wbuf := [] }).queueWrite q o n.toNat := by
  unfold State.serveWrite
  simp [h]

theorem State.serveWrite_bin {f rest} (h : (s.queue q).wbuf = []) (flight : (s.queue q).flight = f :: rest) : s.serveWrite q = s.writeBin q := by
  unfold State.serveWrite
  simp [h, flight]

theorem State.serveWrite_access (h : (s.queue q).wbuf = []) (flight : (s.queue q).flight = []) (due : s.accDue q = true) (write : s.accWrite q = true) :
    s.serveWrite q = s.serveAccess q := by
  unfold State.serveWrite
  simp [h, flight, due, write]

/-- The word that an add of `n` to bin `b` leaves of `w`. -/
def binAdded (wide : Bool) (b n w : Nat) : Nat :=
  if wide then min (w % 2 ^ 64 + n) (2 ^ 64 - 1)
  else if b % 2 = 0 then w / 2 ^ 32 * 2 ^ 32 + min (w % 2 ^ 32 + n) (2 ^ 32 - 1)
  else w % 2 ^ 32 + min (w / 2 ^ 32 + n) (2 ^ 32 - 1) * 2 ^ 32

theorem binAdded_even {b n w : Nat} (h : b % 2 = 0) : binAdded false b n w = w / 2 ^ 32 * 2 ^ 32 + min (w % 2 ^ 32 + n) (2 ^ 32 - 1) := by
  rw [binAdded, if_neg (by decide), if_pos h]

theorem binAdded_odd {b n w : Nat} (h : b % 2 = 1) : binAdded false b n w = w % 2 ^ 32 + min (w / 2 ^ 32 + n) (2 ^ 32 - 1) * 2 ^ 32 := by
  rw [binAdded, if_neg (by decide), if_neg (by omega)]

theorem binAdded_wide (b n w : Nat) : binAdded true b n w = min (w % 2 ^ 64 + n) (2 ^ 64 - 1) := by rw [binAdded, if_pos rfl]

theorem setBits_bin (wide : Bool) (b n : Nat) {w : Nat} (h : w < 2 ^ 64) :
    setBits w (if wide then 0 else 32 * (b % 2)) (if wide then 64 else 32)
      (min (bits w (if wide then 0 else 32 * (b % 2)) (if wide then 64 else 32) + n) (if wide then 2 ^ 64 - 1 else 2 ^ 32 - 1)) = binAdded wide b n w := by
  unfold binAdded setBits bits
  cases wide
  · rcases Nat.mod_two_eq_zero_or_one b with e | e
    · simp only [e, Bool.false_eq_true, if_false, if_true, Nat.shiftRight_eq_div_pow, Nat.shiftLeft_eq]
      omega
    · simp only [e, Bool.false_eq_true, one_ne_zero, if_false, Nat.shiftRight_eq_div_pow, Nat.shiftLeft_eq]
      omega
  · simp only [if_true, Nat.shiftRight_eq_div_pow, Nat.shiftLeft_eq]
    omega

theorem State.storedWord_clean {b w : Nat} (h : s.flipMask b w = 0) : s.storedWord b w = s.rawWord b w := by
  simp [State.storedWord, h, bits]

theorem State.writeBin_adds {b n : Nat} {rest} (flight : (s.queue q).flight = (b, n, false) :: rest)
    (clean : s.flipMask (s.qBlock q (s.binWord q b)) (s.binWord q b % 4096) = 0) :
    s.writeBin q = (s.setQueue q { s.queue q with flight := rest }).queueWrite q (s.binWord q b)
      (binAdded (dBinW (s.desc q)) b n (s.rawWord (s.qBlock q (s.binWord q b)) (s.binWord q b % 4096))) := by
  have keeps := s.inQueue_setQueue q { s.queue q with flight := rest }
  unfold State.writeBin
  simp only [flight]
  generalize s.setQueue q { s.queue q with flight := rest } = t at keeps ⊢
  have desc : t.desc q = s.desc q := State.desc_congr ((congrArg Queue.desc keeps.1).trans rfl)
  have word : t.binWord q b = s.binWord q b := by rw [State.binWord, State.binWord, desc]
  have block := keeps.qBlock rfl
  have mask : t.flipMask (s.qBlock q (s.binWord q b)) (s.binWord q b % 4096) = 0 := (State.flipMask_congr (keeps.2.2.same .flips (by decide)) _ _).trans clean
  have max : t.binMax q = if dBinW (s.desc q) then 2 ^ 64 - 1 else 2 ^ 32 - 1 := by rw [State.binMax, desc]
  rw [word, block, mask, popCount_zero, desc, max, State.storedWord_clean mask, State.rawWord_congr (keeps.2.2.same .mem (by decide)), if_neg (by decide)]
  exact congrArg (t.queueWrite q (s.binWord q b)) (setBits_bin _ b n (s.rawWord_lt _ _))

/-! ## The read side (R176, R179, R188) -/

theorem State.serveRead_add {b n : Nat} {rest} (adds : (s.queue q).adds = (b, n) :: rest) (room : (s.queue q).flight.length < 8) :
    s.serveRead q = s.readBin q := by
  unfold State.serveRead
  rw [if_pos (by simp [adds, room])]

theorem State.serveRead_next (adds : (s.queue q).adds = []) : s.serveRead q = if s.canPrefetch q then s.prefetch q else if s.readoutReads q then s
    else if s.accDue q && !s.accWrite q then s.serveAccess q else s := by
  unfold State.serveRead
  rw [if_neg (by simp [adds])]

theorem State.readBin_joins {b n : Nat} {rest} (adds : (s.queue q).adds = (b, n) :: rest) (some : (s.queue q).flight.any (fun f => f.1 = b) = true) :
    s.readBin q = s.setQueue q { s.queue q with adds := rest, flight := (s.queue q).flight.map (fun f =>
      if f.1 = b then (b, min (f.2.1 + n) (s.binMax q), f.2.2) else f) } := by
  unfold State.readBin
  simp only [adds]
  exact if_pos some

theorem State.readBin_flies {b n : Nat} {rest} (adds : (s.queue q).adds = (b, n) :: rest) (none : (s.queue q).flight.any (fun f => f.1 = b) = false)
    (clean : s.flipMask (s.qBlock q (s.binWord q b)) (s.binWord q b % 4096) = 0) :
    s.readBin q = s.setQueue q { s.queue q with adds := rest, flight := (s.queue q).flight ++ [(b, n, false)] } := by
  unfold State.readBin
  simp only [adds, State.queueRead_clean clean]
  exact if_neg (by simp [none])

theorem State.prefetch_takes (clean : s.flipMask (s.qBlock q (((s.queue q).rd + (s.queue q).pre.length) % s.wq q))
      (((s.queue q).rd + (s.queue q).pre.length) % s.wq q % 4096) = 0) :
    s.prefetch q = s.setQueue q { s.queue q with pre := (s.queue q).pre ++ [⟨((s.queue q).rd + (s.queue q).pre.length) % s.wq q,
      BitVec.ofNat 64 (s.rawWord (s.qBlock q (((s.queue q).rd + (s.queue q).pre.length) % s.wq q)) (((s.queue q).rd + (s.queue q).pre.length) % s.wq q % 4096)),
      false, false⟩] } := by
  unfold State.prefetch
  simp only [State.queueRead_clean clean]

end

section
variable {s : State} {q : Nat}

theorem State.turn_writes (h : (s.queue q).wbuf ≠ [] ∨ (s.queue q).flight ≠ [] ∨ (s.accBusy q = true ∧ s.accWrite q = true ∧ (s.queue q).accWait ≤ 1)) :
    (s.turn q).writePending q = true := by
  have write : (s.turn q).accWrite q = s.accWrite q := rfl
  rw [State.writePending, s.turn_accDue, (s.turn_inQueue q).1, write]
  rcases h with h | h | ⟨busy, w, wait⟩
  · simp [Queue.turn, h]
  · simp [Queue.turn, h]
  · simp [busy, w, wait]

theorem State.turn_binWord (s : State) (q b : Nat) : (s.turn q).binWord q b = s.binWord q b := by rw [State.binWord, State.binWord, s.turn_desc]

theorem State.turn_binMax (s : State) (q : Nat) : (s.turn q).binMax q = s.binMax q := by rw [State.binMax, State.binMax, s.turn_desc]

theorem State.turn_rawWord (s : State) (q o : Nat) : (s.turn q).rawWord ((s.turn q).qBlock q o) (o % 4096) = s.rawWord (s.qBlock q o) (o % 4096) := by
  rw [State.qBlock_congr (s.turn_desc q)]
  exact State.rawWord_congr rfl _ _

theorem State.turn_clean (s : State) (q : Nat) {b : Nat} (clean : s.flipMask (s.qBlock q (s.binWord q b)) (s.binWord q b % 4096) = 0) :
    (s.turn q).flipMask ((s.turn q).qBlock q ((s.turn q).binWord q b)) ((s.turn q).binWord q b % 4096) = 0 := by
  rw [s.turn_binWord, State.qBlock_congr (s.turn_desc q)]
  exact clean

end

/-! ## A visit of a scrub engine (R195 to R197) -/

theorem scrub_word (x : Nat) : bits x 0 12 = x % 4096 := by norm_num [bits]

theorem scrub_block (x : Nat) : bits x 16 7 = x / 2 ^ 16 % 128 := by norm_num [bits, Nat.shiftRight_eq_div_pow]

/-- The position of an engine after the word at `w` of block `k`. -/
def scrubAfter (w k : Nat) : Nat := if w + 1 < 4096 then w + 1 + k * 2 ^ 16 else if k + 1 < 96 then (k + 1) * 2 ^ 16 else 0

theorem scrubReg_ne (b : Nat) {x y : Nat} (h : x ≠ y) : scrubReg b x ≠ scrubReg b y := by
  unfold scrubReg QC
  omega

theorem State.scrubNext_shows (s : State) (b : Nat) : s.changes [.csr, .scrubN] (s.scrubNext b) ∧
    (∀ a, a ≠ scrubReg b 0x804 → a ≠ scrubReg b 0x808 → a ≠ scrubReg b 0x818 → (s.scrubNext b).reg a = s.reg a) ∧
    (s.scrubNext b).reg (scrubReg b 0x804) = scrubAfter (bits (s.reg (scrubReg b 0x804)) 0 12) (bits (s.reg (scrubReg b 0x804)) 16 7) ∧
    (4096 ≤ bits (s.reg (scrubReg b 0x804)) 0 12 + 1 → 96 ≤ bits (s.reg (scrubReg b 0x804)) 16 7 + 1 →
      (s.scrubNext b).reg (scrubReg b 0x808) = (s.reg (scrubReg b 0x808) + 1) % 2 ^ 32) := by
  unfold State.scrubNext
  extract_lets p w k n t u
  have word : bits (s.reg (scrubReg b 0x804)) 0 12 = w := rfl
  have block : bits (s.reg (scrubReg b 0x804)) 16 7 = k := rfl
  have low : w < 2 ^ 12 := bits_lt _ _ _
  have high : k < 2 ^ 7 := bits_lt _ _ _
  rw [word, block]
  clear_value w k
  unfold scrubAfter
  split
  · next h =>
    refine ⟨by simp [t], fun a h1 _ _ => t.reg_setReg_ne _ _ _ h1, ?_, fun h' => absurd h (by omega)⟩
    exact (t.reg_setReg_same _ _).trans (Nat.mod_eq_of_lt (by omega))
  · split
    · next h =>
      refine ⟨by simp [t], fun a h1 _ _ => t.reg_setReg_ne _ _ _ h1, ?_, fun _ h' => absurd h (by omega)⟩
      exact (t.reg_setReg_same _ _).trans (Nat.mod_eq_of_lt (by omega))
    · have other : scrubReg b 0x804 ≠ scrubReg b 0x808 := scrubReg_ne b (by decide)
      refine ⟨by simp [u, t], fun a h1 h2 h3 => ?_, ?_, fun _ _ => ?_⟩
      · exact (u.reg_setReg_ne _ _ _ h3).trans ((State.reg_setReg_ne _ _ _ _ h2).trans (State.reg_setReg_ne _ _ _ _ h1))
      · exact (u.reg_setReg_ne _ _ _ (scrubReg_ne b (by decide))).trans ((State.reg_setReg_ne _ _ _ _ other).trans (State.reg_setReg_same _ _ _))
      · exact (u.reg_setReg_ne _ _ _ (scrubReg_ne b (by decide))).trans (State.reg_setReg_same _ _ _)

theorem natLE_byte (l : List Byte) {i : Nat} (h : i < l.length) : BitVec.ofNat 8 (natLE l / 256 ^ i % 256) = l[i] := by
  induction l generalizing i with
  | nil => simp at h
  | cons x l ih =>
    have small := x.isLt
    cases i with
    | zero =>
      refine BitVec.eq_of_toNat_eq ?_
      simp only [natLE, BitVec.toNat_ofNat, List.getElem_cons_zero]
      omega
    | succ i =>
      rw [List.getElem_cons_succ, ← ih (by simpa using h), natLE, Nat.pow_succ', ← Nat.div_div_eq_div_mul, Nat.add_mul_div_left _ _ (by decide),
        Nat.div_eq_of_lt (show x.toNat < 256 from small), Nat.zero_add]

/-- A word that is written back as it reads changes no byte. -/
theorem State.putWord_same (s : State) (b w : Nat) (a : Nat) : (s.putWord b w (s.rawWord b w)).byte a = s.byte a := by
  obtain ⟨-, bytes, rest, -⟩ := s.putWord_shows b w (s.rawWord b w)
  by_cases out : a < 8 * wordKey b w ∨ 8 * wordKey b w + 8 ≤ a
  · exact rest a out
  · obtain ⟨i, rfl⟩ : ∃ i, a = 8 * wordKey b w + i := ⟨a - 8 * wordKey b w, by omega⟩
    rw [bytes i (by omega), State.rawWord, natLE_byte _ (by simp; omega)]
    simp

section
variable {s : State} {b : Nat} {free : Bool}

theorem State.scrubVisit_stands (h : s.scrubRun b = false ∨ s.rails.vmem = false) : s.scrubVisit b free = s :=
  if_pos (by rcases h with h | h <;> simp [h])

/-- The visit of a word that reads as `v`. -/
theorem State.scrubVisit_visits (run : s.scrubRun b = true) (vmem : s.rails.vmem = true) {k w v : Nat} {ce ue : Bool}
    (hk : k = 96 * b + bits (s.reg (scrubReg b 0x804)) 16 7) (hw : w = bits (s.reg (scrubReg b 0x804)) 0 12)
    (read : s.readWord k w = ((v, ce, ue), s)) : s.scrubVisit b free =
      (let t := if ce && free then (s.putWord k w v).inc (scrubReg b 0x80C) else s
       if ue then (t.inc (scrubReg b 0x810)).foundUE k w 2 else t).scrubNext b := by
  subst hk hw
  unfold State.scrubVisit
  rw [if_neg (by simp [run, vmem])]
  simp only [read]

/-- The position shown after a visit (Table MEM-15). -/
theorem State.scrubNext_position (s : State) (b : Nat) {p : Nat} (hp : p = s.reg (scrubReg b 0x804)) :
    (p % 4096 < 4095 → (s.scrubNext b).reg (scrubReg b 0x804) = p % 4096 + 1 + p / 2 ^ 16 % 128 * 2 ^ 16) ∧
    (p % 4096 = 4095 → p / 2 ^ 16 % 128 < 95 → (s.scrubNext b).reg (scrubReg b 0x804) = (p / 2 ^ 16 % 128 + 1) * 2 ^ 16) ∧
    (p % 4096 = 4095 → p / 2 ^ 16 % 128 = 95 → (s.scrubNext b).reg (scrubReg b 0x804) = 0 ∧
      (s.scrubNext b).reg (scrubReg b 0x808) = (s.reg (scrubReg b 0x808) + 1) % 2 ^ 32) := by
  obtain ⟨-, -, next, pass⟩ := s.scrubNext_shows b
  have word : bits (s.reg (scrubReg b 0x804)) 0 12 = p % 4096 := by rw [scrub_word, hp]
  have block : bits (s.reg (scrubReg b 0x804)) 16 7 = p / 2 ^ 16 % 128 := by rw [scrub_block, hp]
  rw [word, block] at next pass
  generalize p / 2 ^ 16 % 128 = k at *
  generalize p % 4096 = w at *
  refine ⟨fun h => next.trans (if_pos (by omega)), fun h hk => next.trans ((if_neg (by omega)).trans (if_pos (by omega))), fun h hk => ⟨?_, pass (by omega) (by omega)⟩⟩
  exact next.trans ((if_neg (by omega)).trans (if_neg (by omega)))

theorem State.byte_congr {s t : State} (h : t.mem = s.mem) (a : Nat) : t.byte a = s.byte a := by rw [State.byte, State.byte, h]

end

/-! ## The obligation -/

/-- Settles O40. -/
theorem slotWheel : Obligations.SlotWheel := by
  unfold Obligations.SlotWheel
  refine ⟨fun s q => ?_, fun s b free => ?_⟩
  · intro x next v slot whole turns stores
    refine ⟨fun clk hold on idle => ⟨fun turn => ⟨fun o n l rest wbuf => ?_, fun o n wbuf => ?_, fun a n rest wbuf flight clean => ?_,
        fun wbuf flight busy write wait mode o ho small => ?_⟩,
      fun turn => ⟨fun a n rest adds room clean => ?_, fun adds can o ho clean => ?_, fun adds no reads busy write wait mode o ho small clean => ?_⟩,
      fun nw nr => ?_⟩, fun h => completes_by rfl (State.slotWheel_stands h) rfl⟩
    · have served := State.serveWrite_word (s := s.turn q) ((congrArg Queue.wbuf (s.turn_inQueue q).1).trans wbuf)
      rw [(s.turn_inQueue q).1] at served
      exact completes_by rfl ((State.slotWheel_writes clk hold on idle turn (State.turn_writes (.inl (fun h => List.cons_ne_nil _ _ (wbuf.symm.trans h))))).trans served)
        (((s.turn_inQueue q).trans (State.inQueue_setQueue _ _ { x.turn with wbuf := rest })).writes rfl o n.toNat)
    · have served := State.serveWrite_header (s := s.turn q) ((congrArg Queue.wbuf (s.turn_inQueue q).1).trans wbuf)
      rw [(s.turn_inQueue q).1] at served
      exact completes_by rfl ((State.slotWheel_writes clk hold on idle turn (State.turn_writes (.inl (fun h => List.cons_ne_nil _ _ (wbuf.symm.trans h))))).trans served)
        (((s.turn_inQueue q).trans (State.inQueue_setQueue _ _ { x.turn with wbuf := [] })).writes rfl o n.toNat)
    · have flies : ((s.turn q).queue q).flight = (a, n, false) :: rest := (congrArg Queue.flight (s.turn_inQueue q).1).trans flight
      have served := (State.serveWrite_bin (s := s.turn q) ((congrArg Queue.wbuf (s.turn_inQueue q).1).trans wbuf) flies).trans
        (State.writeBin_adds flies (s.turn_clean q clean))
      rw [(s.turn_inQueue q).1, s.turn_binWord, s.turn_rawWord, s.turn_desc] at served
      refine completes_by rfl ((State.slotWheel_writes clk hold on idle turn (State.turn_writes (.inr (.inl (fun h => List.cons_ne_nil _ _ (flight.symm.trans h)))))).trans served) ?_
      obtain ⟨queue, writes, frame⟩ := ((s.turn_inQueue q).trans (State.inQueue_setQueue _ _ { x.turn with flight := rest })).writes rfl (s.binWord q a)
        (binAdded (dBinW (s.desc q)) a n (s.rawWord (s.qBlock q (s.binWord q a)) (s.binWord q a % 4096)))
      refine ⟨queue, frame, fun o w ho hw => ?_⟩
      subst ho hw
      refine ⟨fun wide => ?_, fun narrow even => ?_, fun narrow odd => ?_⟩
      · exact writes.as (by rw [wide, binAdded_wide])
      · exact writes.as (by rw [narrow, binAdded_even even])
      · exact writes.as (by rw [narrow, binAdded_odd odd])
    · subst ho
      have due : (s.turn q).accDue q = true := by rw [s.turn_accDue, busy, Bool.true_and]; exact decide_eq_true wait
      have served := (State.serveWrite_access (s := s.turn q) ((congrArg Queue.wbuf (s.turn_inQueue q).1).trans wbuf)
        ((congrArg Queue.flight (s.turn_inQueue q).1).trans flight) due write).trans
        (State.serveAccess_writes (by rwa [State.qMode, s.turn_desc]) (show s.fld (QC q 0x90) 0 19 < _ by rwa [State.wq, s.turn_desc]) write)
      rw [State.qBlock_congr (s.turn_desc q)] at served
      refine completes_by rfl ((State.slotWheel_writes clk hold on idle turn (State.turn_writes (.inr (.inr ⟨busy, write, wait⟩)))).trans served) ?_
      obtain ⟨stands, -, -, queue, frame⟩ := (s.turn q).accServed_shows q
      generalize (s.turn q).accServed q = u at *
      obtain ⟨-, put, out, stored⟩ := u.putWord_shows (s.qBlock q (s.fld (QC q 0x90) 0 19)) (s.fld (QC q 0x90) 0 19 % 4096)
        (s.reg (QC q 0x94) + s.reg (QC q 0x98) * 2 ^ 32)
      exact ⟨stands, ⟨put, fun a h => (out a h).trans (State.byte_congr (s := s.turn q) (frame.same .mem (by decide)) a)⟩,
        (congrArg Queue.accWait queue).trans rfl⟩
    · have takes : ((s.turn q).queue q).adds = (a, n) :: rest := (congrArg Queue.adds (s.turn_inQueue q).1).trans adds
      have room' : ((s.turn q).queue q).flight.length < 8 := by rw [(s.turn_inQueue q).1]; exact room
      have pending : (s.turn q).readPending q = true := by simp [State.readPending, takes, room']
      have served := (State.slotWheel_reads clk hold on idle (turn.symm.imp_right (fun h => ⟨h, pending⟩))).trans (State.serveRead_add takes room')
      have flight : ((s.turn q).queue q).flight = x.flight := (congrArg Queue.flight (s.turn_inQueue q).1).trans rfl
      by_cases some : x.flight.any (fun f => f.1 = a) = true
      · have joins := State.readBin_joins (s := s.turn q) takes (by rwa [flight])
        rw [(s.turn_inQueue q).1, s.turn_binMax] at joins
        obtain ⟨queue, others, frame⟩ := (s.turn_inQueue q).trans (State.inQueue_setQueue _ q { x.turn with adds := rest, flight := x.flight.map (fun f =>
            if f.1 = a then (a, min (f.2.1 + n) (s.binMax q), f.2.2) else f) })
        exact completes_by rfl (served.trans joins) ⟨frame, fun none => absurd some (by rw [none]; decide), fun _ => ⟨queue, others⟩⟩
      · have none : x.flight.any (fun f => f.1 = a) = false := Bool.eq_false_iff.2 some
        have flies := State.readBin_flies (s := s.turn q) takes (by rwa [flight]) (s.turn_clean q clean)
        rw [(s.turn_inQueue q).1] at flies
        obtain ⟨queue, others, frame⟩ := (s.turn_inQueue q).trans (State.inQueue_setQueue _ q { x.turn with adds := rest, flight := x.flight ++ [(a, n, false)] })
        exact completes_by rfl (served.trans flies) ⟨frame, fun _ => ⟨queue, others⟩, fun h => absurd h some⟩
    · subst ho
      have none : ((s.turn q).queue q).adds = [] := (congrArg Queue.adds (s.turn_inQueue q).1).trans adds
      have can' : (s.turn q).canPrefetch q = true := by rw [s.turn_canPrefetch, can]
      have pending : (s.turn q).readPending q = true := by simp [State.readPending, can']
      have place : (((s.turn q).queue q).rd + ((s.turn q).queue q).pre.length) % (s.turn q).wq q = (x.rd + x.pre.length) % s.wq q := by
        rw [(s.turn_inQueue q).1, State.wq, s.turn_desc]
        rfl
      have takes := State.prefetch_takes (s := s.turn q) (q := q) (by
        rw [place, State.qBlock_congr (s.turn_desc q)]
        exact clean)
      rw [place, s.turn_rawWord, (s.turn_inQueue q).1] at takes
      obtain ⟨queue, others, frame⟩ := (s.turn_inQueue q).trans (State.inQueue_setQueue _ q { x.turn with pre := x.pre ++ [⟨(x.rd + x.pre.length) % s.wq q,
        BitVec.ofNat 64 (s.rawWord (s.qBlock q ((x.rd + x.pre.length) % s.wq q)) ((x.rd + x.pre.length) % s.wq q % 4096)), false, false⟩] })
      exact completes_by rfl ((State.slotWheel_reads clk hold on idle (turn.symm.imp_right (fun h => ⟨h, pending⟩))).trans
        ((State.serveRead_next none).trans ((if_pos can').trans takes))) ⟨frame, queue, others⟩
    · subst ho
      have none : ((s.turn q).queue q).adds = [] := (congrArg Queue.adds (s.turn_inQueue q).1).trans adds
      have due : (s.turn q).accDue q = true := by rw [s.turn_accDue, busy, Bool.true_and]; exact decide_eq_true wait
      have reads' : (s.turn q).accWrite q = false := write
      have pending : (s.turn q).readPending q = true := by simp [State.readPending, due, reads']
      have served := State.serveAccess_reads (s := s.turn q) (q := q) (by rwa [State.qMode, s.turn_desc])
        (show s.fld (QC q 0x90) 0 19 < _ by rwa [State.wq, s.turn_desc]) write (by
          rw [State.qBlock_congr (s.turn_desc q)]
          exact clean)
      obtain ⟨stands, -, -, queue, frame⟩ := (s.turn q).accServed_shows q
      have fld : (s.turn q).fld (QC q 0x90) 0 19 = s.fld (QC q 0x90) 0 19 := rfl
      rw [fld, s.turn_rawWord] at served
      refine completes_by rfl ((State.slotWheel_reads clk hold on idle (turn.symm.imp_right (fun h => ⟨h, pending⟩))).trans
        ((State.serveRead_next none).trans ((if_neg (by rw [s.turn_canPrefetch, no]; decide)).trans ((if_neg (by rw [s.turn_readoutReads, reads]; decide)).trans
          ((if_pos (by simp [due, reads'])).trans served))))) ?_
      generalize (s.turn q).accServed q = u at *
      obtain ⟨still, low, high, answered⟩ := u.accAnswer_shows q _ (s.rawWord_lt (s.qBlock q (s.fld (QC q 0x90) 0 19)) (s.fld (QC q 0x90) 0 19 % 4096))
      generalize accAnswer q _ = t at *
      exact ⟨still.trans stands, (congrArg Queue.accWait ((State.queue_congr (answered.same .qs (by decide)) q).trans queue)).trans rfl,
        ((s.turn_inQueue q).2.2.mono (by decide)).trans (frame.trans (answered.mono (by decide))), low, high⟩
    · refine completes_by rfl ((State.slotWheel_reads clk hold on idle (.inl nw)).trans ?_) (rfl : s.turn q = v)
      have nr' : (s.turn q).readPending q = false := nr
      simp only [State.readPending, Bool.or_eq_false_iff] at nr'
      obtain ⟨⟨⟨adds, can⟩, reads⟩, acc⟩ := nr'
      unfold State.serveRead
      rw [adds, can, reads, acc]
      rfl
  · intro p k w
    have hk : k = 96 * b.val + bits (s.reg (scrubReg b.val 0x804)) 16 7 := by rw [scrub_block]
    have hw : w = bits (s.reg (scrubReg b.val 0x804)) 0 12 := (scrub_word _).symm
    refine ⟨fun h => completes_by rfl (State.scrubVisit_stands h) rfl, fun run vmem clean => ?_, fun run vmem one => ?_, fun run vmem two => ?_⟩
    · refine completes_by rfl (State.scrubVisit_visits run vmem hk hw (State.readWord_clean clean)) ?_
      exact ⟨(s.scrubNext_shows b.val).1, s.scrubNext_position b.val rfl⟩
    · refine completes_by rfl (State.scrubVisit_visits run vmem hk hw (State.readWord_one one)) ?_
      cases free
      · obtain ⟨frame, regs, -, -⟩ := s.scrubNext_shows b.val
        exact ⟨fun a => State.byte_congr (frame.same .mem (by decide)) a, State.flipMask_congr (frame.same .flips (by decide)) k w,
          regs _ (scrubReg_ne _ (by decide)) (scrubReg_ne _ (by decide)) (scrubReg_ne _ (by decide))⟩
      · obtain ⟨frame, regs, -, -⟩ := ((s.putWord k w (s.rawWord k w)).inc (scrubReg b.val 0x80C)).scrubNext_shows b.val
        obtain ⟨mask, -, -, -⟩ := s.putWord_shows k w (s.rawWord k w)
        refine ⟨fun a => (State.byte_congr (frame.same .mem (by decide)) a).trans (s.putWord_same k w a),
          (State.flipMask_congr (frame.same .flips (by decide)) k w).trans mask,
          (regs _ (scrubReg_ne _ (by decide)) (scrubReg_ne _ (by decide)) (scrubReg_ne _ (by decide))).trans (State.reg_inc_same _ _)⟩
    · refine completes_by rfl (State.scrubVisit_visits run vmem hk hw (State.readWord_two two)) ?_
      obtain ⟨frame, regs, -, -⟩ := ((s.inc (scrubReg b.val 0x810)).foundUE k w 2).scrubNext_shows b.val
      have found := (s.inc (scrubReg b.val 0x810)).foundUE_leaves k w 2
      have seen := (s.inc (scrubReg b.val 0x810)).foundUE_seen k w 2
      refine ⟨(frame.same .mem (by decide)).trans (found.same .mem (by decide)), (frame.same .flips (by decide)).trans (found.same .flips (by decide)), ?_,
        (regs _ (scrubReg_ne _ (by decide)) (scrubReg_ne _ (by decide)) (scrubReg_ne _ (by decide))).trans ((State.reg_congr (found.same .csr (by decide)) _).trans
          (s.reg_inc_same _))⟩
      exact (congrArg (wordKey k w ∈ ·) (frame.same .ueSeen (by decide))).mpr seen

end Sys2Proof.Machine
end

section
/-! Register writes and upsets (spec/00 R7 to R9, spec/01 R36, spec/18 R511, Tables FLT-3, PRB-5). -/
namespace Sys2Proof.Machine

/-! ## The CSR map (Table ARC-5) -/

theorem blockOf_NR {n off : Nat} (hn : n < 48) (ho : off < 0x10000) : blockOf (NR n off) = .router n off := by
  unfold blockOf NR
  rw [if_pos ⟨by omega, by omega⟩]
  dsimp only
  rw [if_pos (by omega)]
  congr 1 <;> omega

theorem blockOf_QC {q off : Nat} (hq : q < 384) (ho : off < 0x1000) : blockOf (QC q off) = .qc q off := by
  unfold blockOf QC
  rw [if_neg (by omega), if_pos ⟨by omega, by omega⟩]
  congr 1 <;> omega

theorem blockOf_CK {off : Nat} (ho : off < 0x10000) : blockOf (CK off) = .ck off := by
  unfold blockOf CK
  rw [if_neg (by omega), if_neg (by omega), if_pos ⟨by omega, by omega⟩]
  congr 1
  omega

theorem blockOf_LN {n off : Nat} (hn : n < 96) (ho : off < 0x1000) : blockOf (LN n off) = .ln n off := by
  unfold blockOf LN
  rw [if_neg (by omega), if_neg (by omega), if_neg (by omega), if_pos ⟨by omega, by omega⟩]
  congr 1 <;> omega

theorem blockOf_ZV {p off : Nat} (hp : p < 4) (ho : off < 0x1000) : blockOf (ZV p off) = .zv p off := by
  unfold blockOf ZV
  rw [if_neg (by omega), if_neg (by omega), if_neg (by omega), if_neg (by omega), if_pos ⟨by omega, by omega⟩]
  congr 1 <;> omega

theorem reads_router {a : Nat} {n off : Nat} (h : blockOf a = .router n off) : regFields a = nrFields off ∧ tierReg a = true := by
  rw [regFields, tierReg, h]
  exact ⟨rfl, rfl⟩

theorem reads_qc {a : Nat} {q off : Nat} (h : blockOf a = .qc q off) : regFields a = qcFields off ∧ tierReg a = true := by
  rw [regFields, tierReg, h]
  exact ⟨rfl, rfl⟩

theorem reads_ck {a : Nat} {off : Nat} (h : blockOf a = .ck off) : regFields a = ckFields off ∧ tierReg a = false := by
  rw [regFields, tierReg, h]
  exact ⟨rfl, rfl⟩

theorem reads_ln {a : Nat} {n off : Nat} (h : blockOf a = .ln n off) : regFields a = lnFields n off ∧ tierReg a = false := by
  rw [regFields, tierReg, h]
  exact ⟨rfl, rfl⟩

theorem reads_zv {a : Nat} {p off : Nat} (h : blockOf a = .zv p off) : regFields a = zvFields p off ∧ tierReg a = false := by
  rw [regFields, tierReg, h]
  exact ⟨rfl, rfl⟩

theorem reads_pb {a : Nat} {off : Nat} (h : blockOf a = .pb off) : regFields a = pbFields off ∧ tierReg a = false := by
  rw [regFields, tierReg, h]
  exact ⟨rfl, rfl⟩

/-! ## Writes (R7 to R9) -/

section
variable {s : State} {a v : Nat}

theorem State.registerWrite_none (h : a % 4 ≠ 0 ∨ regFields a = none) : s.registerWrite a v = s :=
  if_neg (by rcases h with h | h <;> simp [h])

theorem State.registerWrite_tier (aligned : a % 4 = 0) {fs : List Fld} (fields : regFields a = some fs) (tier : tierReg a = true) (on : s.routersOn = true) :
    s.registerWrite a v = s.writeReg a v := by
  unfold State.registerWrite
  rw [if_pos (by simp [aligned, fields]), if_pos tier, State.powered_on on]

theorem State.registerWrite_other (aligned : a % 4 = 0) {fs : List Fld} (fields : regFields a = some fs) (tier : tierReg a = false) :
    s.registerWrite a v = s.writeReg a v := by
  unfold State.registerWrite
  rw [if_pos (by simp [aligned, fields]), if_neg (by simp [tier])]

theorem State.registerWrite_off (tier : tierReg a = true) (off : s.routersOn = false) : s.registerWrite a v = s := by
  unfold State.registerWrite
  rw [if_pos tier, State.powered_off off, ite_self]

theorem State.plainWrite_shows (s : State) {fs : List Fld} (v : Nat) (fields : regFields a = some fs) :
    (s.plainWrite a v).reg a = applyWrite fs (s.reg a) v % 2 ^ 32 ∧ (∀ b, b ≠ a → (s.plainWrite a v).reg b = s.reg b) ∧ s.changes [.csr] (s.plainWrite a v) := by
  unfold State.plainWrite
  rw [fields]
  exact ⟨s.reg_setReg_same _ _, fun b hb => s.reg_setReg_ne _ _ _ hb, by simp⟩

theorem State.writeReg_router {n off : Nat} (h : blockOf a = .router n off) (h1 : off ≠ 0x10) (h2 : off ≠ 0x80) : s.writeReg a v = s.plainWrite a v := by
  unfold State.writeReg
  rw [h]
  dsimp only
  split
  · contradiction
  · contradiction
  · rfl

theorem State.writeReg_qc {q off : Nat} (h : blockOf a = .qc q off) (h1 : off ≠ 0x80) (h2 : off ≠ 0x90) : s.writeReg a v = s.plainWrite a v := by
  unfold State.writeReg
  rw [h]
  dsimp only
  split
  · contradiction
  · contradiction
  · rfl

theorem State.writeReg_ln {n off : Nat} (h : blockOf a = .ln n off) (h1 : off ≠ 0x40) : s.writeReg a v = s.plainWrite a v := by
  unfold State.writeReg
  rw [h]
  exact if_neg h1

theorem State.writeReg_zv {p off : Nat} (h : blockOf a = .zv p off) (h1 : off ≠ 0x30) (h2 : off ≠ 0x40) (h3 : off ≠ 0x81C) :
    s.writeReg a v = s.plainWrite a v := by
  unfold State.writeReg
  rw [h]
  dsimp only
  split
  · contradiction
  · contradiction
  · contradiction
  · rfl

theorem State.writeReg_pad {p : Nat} (h : blockOf a = .zv p 0x81C) : s.writeReg a v = (s.plainWrite a v).caldAfter s := by
  unfold State.writeReg
  rw [h]
  rfl

theorem State.writeReg_pb {off : Nat} (h : blockOf a = .pb off) (h1 : off ≠ 0x300) : s.writeReg a v =
    if s.sounding && pbLocked off then s else s.notePins.plainWrite a v := by
  unfold State.writeReg
  rw [h]
  exact if_neg h1

theorem State.writeReg_ck {off : Nat} (h : blockOf a = .ck off) : s.writeReg a v = s.writeCk off v := by
  unfold State.writeReg
  rw [h]

end

/-! ## Access codes (R7 to R9) -/

theorem bits_bit (x i : Nat) : bits x i 1 = (x.testBit i).toNat := by
  rw [bits, Nat.pow_one, Nat.testBit_eq_decide_div_mod_eq, Nat.shiftRight_eq_div_pow]
  rcases Nat.mod_two_eq_zero_or_one (x / 2 ^ i) with h | h <;> simp [h]

/-- Writing 1 clears the bits `is`. -/
def clearedBits (v : Nat) (is : List Nat) (x : Nat) : Nat := is.foldl (fun x i => setBits x i 1 (bits x i 1 &&& (2 ^ 1 - 1 - bits v i 1))) x

theorem testBit_clearedBits (v : Nat) (is : List Nat) (x j : Nat) : (clearedBits v is x).testBit j = (x.testBit j && !(is.contains j && v.testBit j)) := by
  induction is generalizing x with
  | nil => simp [clearedBits]
  | cons i is ih =>
    have one : (setBits x i 1 (bits x i 1 &&& (2 ^ 1 - 1 - bits v i 1))).testBit j = (x.testBit j && !(decide (j = i) && v.testBit j)) := by
      rw [testBit_setBits, bits_bit, bits_bit]
      by_cases e : j = i
      · subst e
        rw [if_neg (by omega), if_pos (by omega), Nat.sub_self]
        cases x.testBit j <;> cases v.testBit j <;> simp
      · rcases Nat.lt_or_gt_of_ne e with h | h
        · simp [h, e]
        · rw [if_neg (by omega), if_neg (by omega)]
          simp [e]
    refine (ih _).trans ?_
    rw [one, List.contains_cons]
    cases x.testBit j <;> cases v.testBit j <;> by_cases e : j = i <;> simp [e]

theorem bits_clearedBits (v : Nat) (is : List Nat) (x : Nat) {lo w : Nat} (h : ∀ i ∈ is, i < lo ∨ lo + w ≤ i) : bits (clearedBits v is x) lo w = bits x lo w := by
  refine Nat.eq_of_testBit_eq fun k => ?_
  rw [testBit_bits, testBit_bits, testBit_clearedBits]
  by_cases hk : k < w
  · have none : is.contains (lo + k) = false := by
      rw [List.contains_eq_mem, decide_eq_false_iff_not]
      intro mem
      have := h _ mem
      omega
    rw [none]
    simp
  · simp [hk]

theorem State.fld_of_reg {s : State} {a x : Nat} (h : s.reg a = x % 2 ^ 32) {lo w : Nat} (h32 : lo + w ≤ 32) : s.fld a lo w = bits x lo w := by
  rw [State.fld, h, bits_mod_word _ h32]

/-- A register whose status bits `is` have been written. -/
theorem State.cleared_reads {s t : State} {a v : Nat} {is : List Nat} (h : t.reg a = clearedBits v is (s.reg a) % 2 ^ 32) :
    (∀ i, i < 32 → is.contains i = true → t.bit a i = (s.bit a i && !v.testBit i)) ∧
    ∀ lo w, lo + w ≤ 32 → (∀ i ∈ is, i < lo ∨ lo + w ≤ i) → t.fld a lo w = s.fld a lo w := by
  refine ⟨fun i hi mem => ?_, fun lo w h32 out => (State.fld_of_reg h h32).trans (bits_clearedBits v is _ out)⟩
  rw [State.bit, State.bit, State.fld_of_reg h (by omega), State.fld, bits_bit, bits_bit, testBit_clearedBits, mem]
  cases (s.reg a).testBit i <;> cases v.testBit i <;> rfl

/-- LN_STATUS and QC_STATUS. -/
theorem applyWrite_lnStatus (n x v : Nat) : ∃ fs, lnFields n 0x10 = some fs ∧ applyWrite fs x v = clearedBits v [8] x := ⟨_, rfl, rfl⟩

theorem applyWrite_qcStatus (x v : Nat) : ∃ fs, qcFields 0x20 = some fs ∧ applyWrite fs x v = clearedBits v [16, 17, 18, 19] x := ⟨_, rfl, rfl⟩

/-- NR_CFG: a reserved value leaves its field. -/
theorem applyWrite_nrCfg (x v : Nat) : ∃ fs, nrFields 4 = some fs ∧
    bits (applyWrite fs x v) 0 4 = (if bits v 0 4 = 0 then bits x 0 4 else bits v 0 4) ∧
    bits (applyWrite fs x v) 4 8 = if bits v 4 8 ≤ 7 then bits x 4 8 else bits v 4 8 := by
  refine ⟨_, rfl, ?_⟩
  have low : bits v 0 4 < 2 ^ 4 := bits_lt _ _ _
  have high : bits v 4 8 < 2 ^ 8 := bits_lt _ _ _
  have res1 : (⟨0, 4, .rw, 4, [(0, 0)]⟩ : Fld).reservedVal (v.testBit 0) (bits v 0 4) = decide (bits v 0 4 = 0) := by
    simp [Fld.reservedVal]
  have res2 : (⟨4, 8, .rw, 0x20, [(0, 7)]⟩ : Fld).reservedVal (v.testBit 0) (bits v 4 8) = decide (bits v 4 8 ≤ 7) := by
    simp [Fld.reservedVal]
  simp only [applyWrite, List.foldl_cons, List.foldl_nil, res1, res2, decide_eq_true_eq]
  have keepsLow (y w : Nat) (c : Prop) [Decidable c] : bits (if c then y else setBits y 4 8 w) 0 4 = bits y 0 4 := by
    split
    · rfl
    · exact bits_setBits_ne _ _ _ _ (.inl (by decide))
  have keepsHigh (y w : Nat) (c : Prop) [Decidable c] : bits (if c then y else setBits y 0 4 w) 4 8 = bits y 4 8 := by
    split
    · rfl
    · exact bits_setBits_ne _ _ _ _ (.inr (by decide))
  constructor
  · rw [keepsLow]
    split
    · rfl
    · exact (bits_setBits_same _ _ _ _).trans (Nat.mod_eq_of_lt low)
  · split
    · exact keepsHigh _ _ _
    · exact (bits_setBits_same _ _ _ _).trans (Nat.mod_eq_of_lt high)

/-- NR_PORT_EN. -/
theorem applyWrite_nrPortEn (x v : Nat) : ∃ fs, nrFields 0xC = some fs ∧ bits (applyWrite fs x v) 0 8 = bits v 0 8 ∧ bits (applyWrite fs x v) 8 8 = bits x 8 8 := by
  refine ⟨_, rfl, ?_⟩
  have plain : applyWrite [⟨0, 8, .rw, 0xFF, []⟩, ⟨8, 8, .ro, 0xFF, []⟩] x v = setBits x 0 8 (bits v 0 8) := rfl
  rw [plain, bits_setBits_same, bits_setBits_ne _ _ _ _ (Or.inr (by decide))]
  exact ⟨Nat.mod_eq_of_lt (bits_lt _ _ _), rfl⟩

/-- ZV_PAD. -/
theorem applyWrite_pad (x v : Nat) : ∃ fs, zvFields 0 0x81C = some fs ∧ bits (applyWrite fs x v) 0 12 = bits v 0 12 := by
  refine ⟨_, rfl, ?_⟩
  have plain : applyWrite (rwReg 12 0) x v = setBits x 0 12 (bits v 0 12) := rfl
  rw [plain, bits_setBits_same]
  exact Nat.mod_eq_of_lt (bits_lt _ _ _)

theorem State.sendCald_shows (s : State) : ∃ m : ZMsg, s.sendCald.chain.sent = s.chain.sent ++ [(downPorts, .msg tCald m)] ∧
    m.payload = bytesLE s.dOut 4 ++ bytesLE s.eOut 4 ∧ s.changes [.chain] s.sendCald := ⟨_, rfl, rfl, rfl⟩

/-- A new PAD is told downstream (R310). -/
theorem State.caldAfter_pad {s u : State} {v : Nat} (pad : u.pad = bits v 0 12) (rest : ∀ b, b ≠ ZV 0 0x81C → u.reg b = s.reg b) (frame : s.changes [.csr] u) :
    (u.caldAfter s).pad = bits v 0 12 ∧ (s.pad = bits v 0 12 → (u.caldAfter s).chain = s.chain) ∧
    (s.pad ≠ bits v 0 12 → ∃ m, (u.caldAfter s).chain.sent = s.chain.sent ++ [(downPorts, .msg tCald m)] ∧
      m.payload = bytesLE (u.caldAfter s).dOut 4 ++ bytesLE (u.caldAfter s).eOut 4) ∧ s.changes [.csr, .chain] (u.caldAfter s) := by
  have reg (o : Nat) (h : o ≠ 0x81C) : u.reg (ZV 0 o) = s.reg (ZV 0 o) := rest _ (by unfold ZV; omega)
  have head : u.isHead = s.isHead := State.bit_congr (reg 0x800 (by decide)) 25
  have eOut : u.eOut = s.eOut := by rw [State.eOut, State.eOut, head, reg 0x818 (by decide)]
  have dOut : u.dOut + 256 * s.pad = s.dOut + 256 * u.pad := by
    rw [State.dOut, State.dOut, head, reg 0x814 (by decide)]
    omega
  have chain : u.chain = s.chain := frame.same .chain (by decide)
  by_cases same : s.pad = bits v 0 12
  · have still : u.caldAfter s = u := if_pos (by
      simp only [eOut, decide_true, Bool.and_true, decide_eq_true_eq]
      omega)
    rw [still]
    exact ⟨pad, fun _ => chain, fun other => absurd same other, frame.mono (by decide)⟩
  · have told : u.caldAfter s = u.sendCald := if_neg (by
      simp only [eOut, decide_true, Bool.and_true, decide_eq_true_eq]
      omega)
    obtain ⟨m, sent, payload, frame'⟩ := u.sendCald_shows
    have csr : u.sendCald.csr = u.csr := frame'.same .csr (by decide)
    have reads (a : Nat) : u.sendCald.reg a = u.reg a := State.reg_congr csr a
    rw [told]
    refine ⟨(State.fld_congr (reads _) 0 12).trans pad, fun h => absurd h same, fun _ => ⟨m, by rw [sent, chain], ?_⟩, (frame.mono (by decide)).trans (frame'.mono (by decide))⟩
    rw [payload]
    rfl

/-! ## Upsets (Table FLT-3) -/

section
variable {s : State}

theorem State.upsetOtp_shows (s : State) {g c i : Nat} (hi : i < otpBits g) (hc : c < 3) (small : i < 512) :
    (s.upsetOtp g c i).otpCopy g c = s.otpCopy g c ^^^ 2 ^ i ∧ (∀ k d, (k ≠ g ∨ d ≠ c) → d < 3 → (s.upsetOtp g c i).otpCopy k d = s.otpCopy k d) ∧
    s.changes [.life] (s.upsetOtp g c i) := by
  unfold State.upsetOtp
  rw [if_neg (by omega)]
  refine ⟨?_, fun k d h hd => ?_, by rfl⟩
  · refine (congrArg BitVec.toNat (mget_mput_same otpReset s.life.otp (3 * g + c) _)).trans ?_
    rw [BitVec.toNat_ofNat, flip]
    exact Nat.mod_eq_of_lt (Nat.xor_lt_two_pow (mget otpReset s.life.otp (3 * g + c)).isLt (Nat.pow_lt_pow_right (by decide) small))
  · exact congrArg BitVec.toNat (mget_mput_ne otpReset s.life.otp _ _ _ (by omega))

theorem State.upsetShared_shows (s : State) (r : Nat) {e : Nat} (h : e < 512) :
    (s.setShared r (flip (s.sharedBits r) e)).sharedBits r = s.sharedBits r ^^^ 2 ^ e := by
  refine (congrArg BitVec.toNat (mget_mput_same _ s.fab.shared r _)).trans ?_
  rw [BitVec.toNat_ofNat, flip]
  exact Nat.mod_eq_of_lt (Nat.xor_lt_two_pow (mget _ s.fab.shared r).isLt (Nat.pow_lt_pow_right (by decide) h))

theorem State.upsetCrossing_shows (s : State) (r : Nat) {j : Nat} (h : j < 256) :
    (s.setCross r (flip (s.crossReg r) j)).crossReg r = s.crossReg r ^^^ 2 ^ j ∧
    ∀ k, k ≠ r → (s.setCross r (flip (s.crossReg r) j)).crossReg k = s.crossReg k := by
  refine ⟨?_, fun k hk => congrArg BitVec.toNat (mget_mput_ne _ s.fab.cross _ _ _ hk)⟩
  refine (congrArg BitVec.toNat (mget_mput_same _ s.fab.cross r _)).trans ?_
  rw [BitVec.toNat_ofNat, flip]
  exact Nat.mod_eq_of_lt (Nat.xor_lt_two_pow (mget _ s.fab.cross r).isLt (Nat.pow_lt_pow_right (by decide) h))

theorem modifyAt_get {α : Type} (f : α → α) (l : List α) (k j : Nat) : (modifyAt f l k)[j]? = if j = k then l[j]?.map f else l[j]? := by
  induction l generalizing k j with
  | nil => simp [modifyAt]
  | cons x l ih =>
    cases k with
    | zero => cases j <;> simp [modifyAt]
    | succ k => cases j <;> simp [modifyAt, ih]

/-- The packet that an upset strikes stands at the place named. -/
theorem State.struck_at {n src dst v k : Nat} {f : Packet → Hop → Bool} {p : Packet} {h : Hop} (hit : s.struck n src dst v f = some (k, p, h)) :
    s.net[k]? = some p := by
  obtain ⟨⟨q, j⟩, mem, found⟩ := List.exists_of_findSome?_eq_some hit
  have at_ := List.mem_zipIdx_iff_getElem?.1 mem
  dsimp only at found
  split at found
  · split at found
    · simp only [Option.some.injEq, Prod.mk.injEq] at found
      obtain ⟨rfl, rfl, -⟩ := found
      exact at_
    · simp at found
  · simp at found

theorem poisoned_reads (p : Packet) : ({ p with hdr := BitVec.ofNat 256 (setBits p.hdr.toNat 27 1 1) } : Packet).poison = true := by
  rw [Packet.poison, Packet.h, BitVec.toNat_ofNat, bits_mod _ (by decide), bits_setBits_same]
  rfl

theorem State.upset_memory (s : State) (k : Fin 2304) (w : Fin 4096) (i : Fin 72) :
    s.upset (.memory k w i) = s.powered (fun t => t.upsetWord k.val w.val i.val) := rfl

theorem State.upset_index (s : State) (q : Fin 384) (i : Fin 16384) : s.upset (.index q i) = s.powered (fun t => t.upsetIndex q.val i.val) := rfl

theorem State.upset_scrub (s : State) (b : Fin 24) : s.upset (.scrub b) = s.powered (fun t => t.scrubVote b.val) := rfl

theorem State.upset_flit (s : State) (n : Fin 48) : s.upset (.flitOne n) = s.powered (fun t => t.inc (NR n.val 0x48)) := rfl

theorem State.scrubVote_shows (s : State) (b : Nat) : (s.scrubVote b).reg (scrubReg b 0x814) = min (s.reg (scrubReg b 0x814) + 1) (2 ^ 32 - 1) ∧
    (s.scrubVote b).fld (scrubReg b 0x804) 0 12 = 0 ∧ (s.scrubVote b).fld (scrubReg b 0x804) 16 7 = s.fld (scrubReg b 0x804) 16 7 ∧
    s.changes [.csr] (s.scrubVote b) := by
  have apart : scrubReg b 0x804 ≠ scrubReg b 0x814 := scrubReg_ne b (by decide)
  have kept : (s.inc (scrubReg b 0x814)).reg (scrubReg b 0x804) = s.reg (scrubReg b 0x804) := s.reg_inc_ne _ _ apart
  have start : (s.scrubVote b).reg (scrubReg b 0x804) = bits (s.reg (scrubReg b 0x804)) 16 7 * 2 ^ 16 % 2 ^ 32 := State.reg_setReg_same _ _ _
  have low : bits (s.reg (scrubReg b 0x804)) 16 7 < 2 ^ 7 := bits_lt _ _ _
  refine ⟨(State.reg_setReg_ne _ _ _ _ apart.symm).trans (s.reg_inc_same _), ?_, ?_, by simp [State.scrubVote]⟩
  · rw [State.fld_of_reg start (by decide), scrub_word]
    omega
  · rw [State.fld_of_reg start (by decide), scrub_block, State.fld]
    omega

/-- The discard of a header that is uncorrectable (R207). -/
theorem State.headerLost_shows (u : State) (n k src data : Nat) :
    let t := (({ u with net := u.net.eraseIdx k } : State).inc (NR n 0x4C)).faultHw 0x0105 src data
    t.net = u.net.eraseIdx k ∧ t.reg (NR n 0x4C) = min (u.reg (NR n 0x4C) + 1) (2 ^ 32 - 1) ∧ (∀ a, a ≠ NR n 0x4C → t.reg a = u.reg a) ∧
    t.hl.latches.any (fun l => l.code = 0x0B) = true ∧ u.changes [.net, .csr, .hl] t := by
  have latched := State.latch_any (({ u with net := u.net.eraseIdx k } : State).inc (NR n 0x4C)) 0x0B (0x0105 * 65536 + src) (0x0105 + data * 2 ^ 32)
  obtain ⟨l, mem, is⟩ := List.any_eq_true.1 latched
  refine ⟨rfl, State.reg_inc_same _ _, fun a ha => State.reg_inc_ne _ _ _ ha, List.any_eq_true.2 ⟨l, mem, ?_⟩, by rfl⟩
  exact decide_eq_true (of_decide_eq_true is).1

theorem State.upsetHeader_eq {n src dst v : Nat} (found : (s.struck n src dst v (fun _ h => h.sent = 0)).isSome = true) :
    s.upsetHeader n src dst v = match (s.bringHead n src dst v).struck n src dst v headThere with
      | some (k, _, h) => (({ s.bringHead n src dst v with net := (s.bringHead n src dst v).net.eraseIdx k } : State).inc (NR n 0x4C)).faultHw 0x0105 (8 * n + h.inp)
          (packLE [(n % 8, 1), (n / 8, 1), (h.inp, 1)])
      | none => s.bringHead n src dst v := by
  unfold State.upsetHeader
  rw [if_neg (by simp [Option.isNone_iff_eq_none, Option.isSome_iff_ne_none.1 found])] <;> rfl

/-- Which flits of a packet are still to come to a hop. -/
def dataToCome (p : Packet) (h : Hop) : Bool := decide (h.sent + h.buf.length < p.flits) && !p.data.isEmpty

/-- The packet at place `k` bears its poison mark. -/
def State.poisonAt (s : State) (k : Nat) : State :=
  { s with net := modifyAt (fun p => { p with hdr := BitVec.ofNat 256 (setBits p.hdr.toNat 27 1 1) }) s.net k }

theorem State.upsetData_none {n src dst v : Nat} (none : s.struck n src dst v dataToCome = none) : s.upsetData n src dst v = s := by
  unfold State.upsetData
  rw [show s.struck n src dst v (fun p h => decide (h.sent + h.buf.length < p.flits) && !p.data.isEmpty) = _ from none]

theorem State.upsetData_hit {n src dst v k : Nat} {p : Packet} {h : Hop} (hit : s.struck n src dst v dataToCome = some (k, p, h)) :
    s.upsetData n src dst v = s.poisonAt k := by
  unfold State.upsetData
  rw [show s.struck n src dst v (fun p h => decide (h.sent + h.buf.length < p.flits) && !p.data.isEmpty) = _ from hit]
  rfl

theorem State.poison_shows (s : State) {k : Nat} {p : Packet} (h : s.net[k]? = some p) :
    ((s.poisonAt k).net[k]?).map Packet.poison = some true ∧ ((s.poisonAt k).net[k]?).map Packet.data = some p.data ∧
    (∀ j, j ≠ k → (s.poisonAt k).net[j]? = s.net[j]?) ∧ s.changes [.net] (s.poisonAt k) := by
  have hit := modifyAt_get (fun p : Packet => { p with hdr := BitVec.ofNat 256 (setBits p.hdr.toNat 27 1 1) }) s.net k
  refine ⟨?_, ?_, fun j hj => (hit j).trans (if_neg hj), by rfl⟩
  · rw [State.poisonAt, hit k, if_pos rfl, h, Option.map_some, Option.map_some, poisoned_reads]
  · rw [State.poisonAt, hit k, if_pos rfl, h]
    rfl

theorem State.upsetPort_shows (s : State) (k : Nat) (i : Nat) {x : Port} (hx : x = s.port k) :
    (∀ y, y = (s.upsetPort k i).port k →
      (i < 96 → y.inp = BitVec.ofNat 96 (x.inp.toNat ^^^ 2 ^ i) ∧ y.out = x.out ∧ y.lines = x.lines ∧ (x.fresh = false → y = { x with inp := y.inp })) ∧
      (96 ≤ i → i < 160 → y = { x with out := { x.out with data := BitVec.ofNat 64 (x.out.data.toNat ^^^ 2 ^ (i - 96)) } }) ∧
      (160 ≤ i → y = { x with lines := BitVec.ofNat 16 (x.lines.toNat ^^^ 2 ^ (i - 160)) })) ∧
    (∀ j, j ≠ k → (s.upsetPort k i).port j = s.port j) ∧ s.changes [.fab] (s.upsetPort k i) := by
  subst hx
  unfold State.upsetPort
  extract_lets p q
  split
  · next h =>
    refine ⟨fun y hy => ?_, fun j hj => s.port_setPort_ne _ _ _ hj, by simp⟩
    rw [s.port_setPort_same] at hy
    subst hy
    exact ⟨fun h' => absurd h' (by omega), fun _ h' => absurd h' (by omega), fun _ => rfl⟩
  · split
    · refine ⟨fun y hy => ?_, fun j hj => s.port_setPort_ne _ _ _ hj, by simp⟩
      rw [s.port_setPort_same] at hy
      subst hy
      exact ⟨fun h' => absurd h' (by omega), fun _ _ => rfl, fun h' => absurd h' (by omega)⟩
    · refine ⟨fun y hy => ?_, fun j hj => s.port_setPort_ne _ _ _ hj, by simp⟩
      rw [s.port_setPort_same] at hy
      refine ⟨fun _ => ?_, fun h' => absurd h' (by omega), fun h' => absurd h' (by omega)⟩
      subst hy
      split
      · next h' =>
        simp only [Bool.and_eq_true] at h'
        exact ⟨rfl, rfl, rfl, fun stale => absurd (h'.1.symm.trans stale) (by decide)⟩
      · exact ⟨rfl, rfl, rfl, fun _ => rfl⟩

end

/-- CK_TICK_CTRL: SRC is held for the tick (R61). -/
theorem State.writeTickCtrl_shows (s : State) (v : Nat) : (s.writeTickCtrl v).src = s.src ∧
    (s.writeTickCtrl v).tick = { s.tick with pendSrc := if bits v 0 2 = 3 then s.tick.pendSrc else some (bits v 0 2) } ∧
    (s.writeTickCtrl v).slipLimit = (if bits v 4 4 = 0 then s.slipLimit else bits v 4 4) ∧
    (s.writeTickCtrl v).lossFrames = (if bits v 16 16 = 0 then s.lossFrames else bits v 16 16) ∧
    (∀ b, b ≠ CK 0x800 → (s.writeTickCtrl v).reg b = s.reg b) ∧ s.changes [.csr, .tick] (s.writeTickCtrl v) := by
  have slip : bits v 4 4 % 2 ^ 4 = bits v 4 4 := Nat.mod_eq_of_lt (bits_lt _ _ _)
  have loss : bits v 16 16 % 2 ^ 16 = bits v 16 16 := Nat.mod_eq_of_lt (bits_lt _ _ _)
  unfold State.writeTickCtrl
  extract_lets tk u w
  have hu : u.csr = s.csr ∧ u.tick = { s.tick with pendSrc := if bits v 0 2 = 3 then s.tick.pendSrc else some (bits v 0 2) } ∧ s.changes [.tick] u := by
    unfold u
    split <;> exact ⟨rfl, rfl, rfl⟩
  obtain ⟨csr, tick, frame⟩ := hu
  clear_value u
  have regs (a : Nat) : u.reg a = s.reg a := State.reg_congr csr a
  have hw : (∀ lo n, lo + n ≤ 4 ∨ 8 ≤ lo → lo + n ≤ 32 → w.fld (CK 0x800) lo n = s.fld (CK 0x800) lo n) ∧
      w.fld (CK 0x800) 4 4 = (if bits v 4 4 = 0 then s.slipLimit else bits v 4 4) ∧ (∀ b, b ≠ CK 0x800 → w.reg b = s.reg b) ∧ u.changes [.csr] w := by
    unfold w
    split
    · exact ⟨fun lo n _ _ => State.fld_congr (regs _) _ _, State.fld_congr (regs _) _ _, fun b _ => regs b, u.changes_refl _⟩
    · exact ⟨fun lo n h h32 => (u.fld_setFld_other _ _ _ _ h32 h).trans (State.fld_congr (regs _) _ _),
        (u.fld_setFld_same _ _ (by decide)).trans slip, fun b hb => (u.reg_setFld_ne _ _ _ _ _ hb).trans (regs b), by simp⟩
  obtain ⟨others, limit, rest, frame'⟩ := hw
  clear_value w
  have ticks : w.tick = u.tick := frame'.same .tick (by decide)
  have both : s.changes [.csr, .tick] w := (frame.mono (by decide)).trans (frame'.mono (by decide))
  split
  · exact ⟨others 0 2 (by decide) (by decide), ticks.trans tick, limit, others 16 16 (by decide) (by decide), rest, both⟩
  · exact ⟨(w.fld_setFld_other _ _ _ _ (by decide) (by decide)).trans (others 0 2 (by decide) (by decide)), ticks.trans tick,
      (w.fld_setFld_other _ _ _ _ (by decide) (by decide)).trans limit, (w.fld_setFld_same _ _ (by decide)).trans loss,
      fun b hb => (w.reg_setFld_ne _ _ _ _ _ hb).trans (rest b hb), by simp [both]⟩

/-- What writes of plain registers turn on (Table PRB-5). -/
theorem State.registerWrite_plain (s : State) {a v : Nat} {fs : List Fld} (aligned : a % 4 = 0) (fields : regFields a = some fs)
    (plain : match blockOf a with
      | .router _ off => s.routersOn = true ∧ off ≠ 0x10 ∧ off ≠ 0x80
      | .qc _ off => s.routersOn = true ∧ off ≠ 0x80 ∧ off ≠ 0x90
      | .ln _ off => off ≠ 0x40
      | .zv _ off => off ≠ 0x30 ∧ off ≠ 0x40 ∧ off ≠ 0x81C
      | .pb off => off ≠ 0x300 ∧ (s.sounding = true → pbLocked off = false)
      | _ => False) : s.registerWrite a v = s.plainWrite a v ∨ s.registerWrite a v = s.notePins.plainWrite a v := by
  cases h : blockOf a with rw [h] at plain
  | router n off =>
    obtain ⟨on, h1, h2⟩ := plain
    exact .inl ((State.registerWrite_tier aligned fields (reads_router h).2 on).trans (State.writeReg_router h h1 h2))
  | qc q off =>
    obtain ⟨on, h1, h2⟩ := plain
    exact .inl ((State.registerWrite_tier aligned fields (reads_qc h).2 on).trans (State.writeReg_qc h h1 h2))
  | ln n off => exact .inl ((State.registerWrite_other aligned fields (reads_ln h).2).trans (State.writeReg_ln h plain))
  | zv p off =>
    obtain ⟨h1, h2, h3⟩ := plain
    exact .inl ((State.registerWrite_other aligned fields (reads_zv h).2).trans (State.writeReg_zv h h1 h2 h3))
  | pb off =>
    obtain ⟨h1, free⟩ := plain
    refine .inr ((State.registerWrite_other aligned fields (reads_pb h).2).trans ((State.writeReg_pb h h1).trans (if_neg ?_)))
    cases sounding : s.sounding
    · simp
    · simp [free sounding]
  | ck off => exact plain.elim
  | rg r off => exact plain.elim
  | mb m off => exact plain.elim
  | mem off => exact plain.elim
  | nothing => exact plain.elim

/-- Settles O60. -/
theorem registersAndUpsets : Obligations.RegistersAndUpsets := by
  unfold Obligations.RegistersAndUpsets
  intro s plain
  refine ⟨fun a v fs hp aligned fields => ?_, fun a v off block h1 sounding locked => ?_, fun a v n hn ha => ?_,
    fun off => ⟨fun a v block => ?_, fun u hu => ?_⟩, fun a v q i on hq ha lo hi => ?_, fun a v n on hn ha => ?_, fun a v n on hn ha => ?_,
    fun a v ha => ?_, fun a v ha => ?_, fun a v ha => ?_, fun a v ha => ?_, fun a v h => completes_by rfl (State.registerWrite_none h) rfl,
    fun on k w i => ?_, fun u hu => ?_, fun g c i hi => ?_, fun r e => ?_, fun on n => ?_, fun r j => ?_, fun r p i => ?_, fun on q i => ?_,
    fun on b => ?_, fun n src dst v none => ?_, fun n src dst v some u hu => ⟨fun none => ?_, fun k p h hit => ?_⟩,
    fun n src dst v f hf => ⟨fun none => ?_, fun k p h hit => ?_⟩, fun up => completes_by rfl (if_pos up) rfl, completes_intro rfl rfl⟩
  · rcases s.registerWrite_plain (v := v.toNat) aligned fields hp with run | run
    · obtain ⟨reg, rest, frame⟩ := s.plainWrite_shows v.toNat fields
      exact completes_by rfl run ⟨reg, rest, (frame.mono (by decide) : s.changes [.csr, .probe] _)⟩
    · obtain ⟨reg, rest, frame⟩ := s.notePins.plainWrite_shows v.toNat fields
      have first : s.changes [.csr, .probe] s.notePins := by simp
      exact completes_by rfl run ⟨reg, rest, first.trans (frame.mono (by decide))⟩
  · by_cases real : a.toNat % 4 ≠ 0 ∨ regFields a.toNat = none
    · exact completes_by rfl (State.registerWrite_none real) rfl
    · obtain ⟨aligned, fields⟩ := not_or.1 real
      obtain ⟨fs, fields⟩ := Option.ne_none_iff_exists'.1 fields
      refine completes_by rfl ((State.registerWrite_other (not_not.1 aligned) fields (reads_pb block).2).trans ((State.writeReg_pb block h1).trans (if_pos ?_))) rfl
      simp [sounding, locked]
  · have block : blockOf a.toNat = .ln n 0x10 := by rw [ha]; exact blockOf_LN hn (by decide)
    obtain ⟨fs, fields, write⟩ := applyWrite_lnStatus n (s.reg a.toNat) v.toNat
    have fields' := (reads_ln block).1.trans fields
    have run := (State.registerWrite_other (s := s) (v := v.toNat) (by rw [ha, LN]; omega) fields' (reads_ln block).2).trans (State.writeReg_ln block (by decide))
    obtain ⟨reg, -, -⟩ := s.plainWrite_shows v.toNat fields'
    rw [write] at reg
    obtain ⟨bit, fld⟩ := State.cleared_reads reg
    exact completes_by rfl run ⟨bit 8 (by decide) (by decide), fld 0 8 (by decide) (by decide)⟩
  · obtain ⟨n, o, h | h⟩ := block
    · exact completes_by rfl (State.registerWrite_off (reads_router h).2 off) rfl
    · exact completes_by rfl (State.registerWrite_off (reads_qc h).2 off) rfl
  · rcases hu with ⟨k, w, i, rfl⟩ | ⟨q, i, rfl⟩ | ⟨b, rfl⟩ | ⟨n, rfl⟩
    · exact completes_by rfl ((s.upset_memory k w i).trans (State.powered_off off _)) rfl
    · exact completes_by rfl ((s.upset_index q i).trans (State.powered_off off _)) rfl
    · exact completes_by rfl ((s.upset_scrub b).trans (State.powered_off off _)) rfl
    · exact completes_by rfl ((s.upset_flit n).trans (State.powered_off off _)) rfl
  · have block : blockOf a.toNat = .qc q 0x20 := by rw [ha]; exact blockOf_QC hq (by decide)
    obtain ⟨fs, fields, write⟩ := applyWrite_qcStatus (s.reg a.toNat) v.toNat
    have fields' := (reads_qc block).1.trans fields
    have run := (State.registerWrite_tier (s := s) (v := v.toNat) (by rw [ha, QC]; omega) fields' (reads_qc block).2 on).trans
      (State.writeReg_qc block (by decide) (by decide))
    obtain ⟨reg, -, -⟩ := s.plainWrite_shows v.toNat fields'
    rw [write] at reg
    obtain ⟨bit, fld⟩ := State.cleared_reads reg
    refine completes_by rfl run ⟨bit i (by omega) ?_, fld 0 16 (by decide) (by decide)⟩
    obtain rfl | rfl | rfl | rfl : i = 16 ∨ i = 17 ∨ i = 18 ∨ i = 19 := by omega
    all_goals rfl
  · have block : blockOf a.toNat = .router n 4 := by rw [ha]; exact blockOf_NR hn (by decide)
    obtain ⟨fs, fields, weight, age⟩ := applyWrite_nrCfg (s.reg a.toNat) v.toNat
    have fields' := (reads_router block).1.trans fields
    have run := (State.registerWrite_tier (s := s) (v := v.toNat) (by rw [ha, NR]; omega) fields' (reads_router block).2 on).trans
      (State.writeReg_router block (by decide) (by decide))
    obtain ⟨reg, rest, -⟩ := s.plainWrite_shows v.toNat fields'
    exact completes_by rfl run ⟨(State.fld_of_reg reg (by decide)).trans weight, (State.fld_of_reg reg (by decide)).trans age,
      rest _ (by rw [ha, NR, NR]; omega)⟩
  · have block : blockOf a.toNat = .router n 0xC := by rw [ha]; exact blockOf_NR hn (by decide)
    obtain ⟨fs, fields, staged, active⟩ := applyWrite_nrPortEn (s.reg a.toNat) v.toNat
    have fields' := (reads_router block).1.trans fields
    have run := (State.registerWrite_tier (s := s) (v := v.toNat) (by rw [ha, NR]; omega) fields' (reads_router block).2 on).trans
      (State.writeReg_router block (by decide) (by decide))
    obtain ⟨reg, -, -⟩ := s.plainWrite_shows v.toNat fields'
    exact completes_by rfl run ⟨(State.fld_of_reg reg (by decide)).trans staged, (State.fld_of_reg reg (by decide)).trans active⟩
  · have block : blockOf a.toNat = .ck 0x800 := by rw [ha]; exact blockOf_CK (by decide)
    refine completes_by rfl (State.registerWrite_other (s := s) (v := v.toNat) (by rw [ha]; rfl) ((reads_ck block).1.trans rfl) (reads_ck block).2 |>.trans
      ((State.writeReg_ck block).trans rfl)) (s.writeTickCtrl_shows v.toNat)
  · have block : blockOf a.toNat = .ck 0x804 := by rw [ha]; exact blockOf_CK (by decide)
    exact completes_by rfl (State.registerWrite_other (s := s) (v := v.toNat) (by rw [ha]; rfl) ((reads_ck block).1.trans rfl) (reads_ck block).2 |>.trans
      (State.writeReg_ck block)) rfl
  · have block : blockOf a.toNat = .ck 0x830 := by rw [ha]; exact blockOf_CK (by decide)
    exact completes_by rfl (State.registerWrite_other (s := s) (v := v.toNat) (by rw [ha]; rfl) ((reads_ck block).1.trans rfl) (reads_ck block).2 |>.trans
      (State.writeReg_ck block)) rfl
  · have block : blockOf a.toNat = .zv 0 0x81C := by rw [ha]; exact blockOf_ZV (by decide) (by decide)
    obtain ⟨fs, fields, write⟩ := applyWrite_pad (s.reg a.toNat) v.toNat
    have fields' := (reads_zv block).1.trans fields
    have run := (State.registerWrite_other (s := s) (v := v.toNat) (by rw [ha]; rfl) fields' (reads_zv block).2).trans (State.writeReg_pad block)
    obtain ⟨reg, rest, frame⟩ := s.plainWrite_shows v.toNat fields'
    rw [ha] at reg rest run frame write
    exact completes_by rfl ((congrArg (s.registerWrite · v.toNat) ha).trans run) (State.caldAfter_pad (v := v.toNat) ((State.fld_of_reg reg (by decide)).trans write) rest frame)
  · refine completes_by rfl ((s.upset_memory k w i).trans (State.powered_on on _)) ⟨?_, State.rawWord_congr rfl _ _, rfl⟩
    exact mget_mput_same _ _ _ _
  · rcases hu with rfl | rfl | rfl | ⟨r, c, e, rfl⟩
    all_goals exact completes_intro rfl rfl
  · exact completes_intro rfl (s.upsetOtp_shows hi c.isLt i.isLt)
  · exact completes_intro rfl ⟨s.upsetShared_shows r e.isLt, rfl⟩
  · exact completes_by rfl ((s.upset_flit n).trans (State.powered_on on _)) ⟨s.reg_inc_same _, fun a ha => s.reg_inc_ne _ _ ha, rfl⟩
  · obtain ⟨flips, rest⟩ := s.upsetCrossing_shows r j.isLt
    exact completes_intro rfl ⟨flips, rest, rfl⟩
  · refine completes_intro rfl ?_
    obtain ⟨shows, rest, frame⟩ := s.upsetPort_shows (4 * r.val + p.val) i.val rfl
    refine ⟨fun k x y hk hx hy => ?_, rest, frame⟩
    subst hk hx
    exact shows y hy
  · refine completes_by rfl ((s.upset_index q i).trans (State.powered_on on _)) ⟨?_, ?_, fun k hk => s.queue_setQueue_ne _ _ _ hk, rfl⟩
    · exact (congrArg (fun x => mget (fun _ => 0) (Queue.idxErr x) i.val) (s.queue_setQueue_same q _)).trans (mget_mput_same _ _ _ _)
    · exact (congrArg Queue.idx (s.queue_setQueue_same q _)).trans rfl
  · exact completes_by rfl ((s.upset_scrub b).trans (State.powered_on on _)) (s.scrubVote_shows b.val)
  · refine completes_by rfl (if_pos ?_) rfl
    rw [none]
    rfl
  · subst hu
    exact completes_by rfl ((State.upsetHeader_eq some).trans (by rw [none])) rfl
  · subst hu
    exact completes_by rfl ((State.upsetHeader_eq some).trans (by rw [hit])) (State.headerLost_shows _ n k _ _)
  · subst hf
    exact completes_by rfl (State.upsetData_none none) rfl
  · subst hf
    exact completes_by rfl (State.upsetData_hit hit) (s.poison_shows (State.struck_at hit))

end Sys2Proof.Machine
end

section
/-! Superframes, the neighbour exchange, the end of a broadcast (spec/10 R307, R314, R319, R333, R378). -/
namespace Sys2Proof.Machine

/-! ## Byte strings and records -/

theorem natLE_bytesLE (x n : Nat) : natLE (bytesLE x n) = x % 256 ^ n := by
  induction n generalizing x with
  | zero => simp [bytesLE, natLE, Nat.mod_one]
  | succ n ih =>
    rw [bytesLE, natLE, ih, Nat.pow_succ', Nat.mod_mul, BitVec.toNat_ofNat]

theorem packLE_lt (l : List (Nat × Nat)) : packLE l < 256 ^ (l.map Prod.snd).sum := by
  induction l with
  | nil => simp [packLE]
  | cons x r ih =>
    obtain ⟨v, n⟩ := x
    rw [packLE, List.map_cons, List.sum_cons, Nat.pow_add, show (256 : Nat) = 2 ^ 8 from rfl, ← Nat.pow_mul, ← Nat.pow_mul]
    rw [show (256 : Nat) = 2 ^ 8 from rfl, ← Nat.pow_mul] at ih
    have hv := Nat.mod_lt v (Nat.two_pow_pos (8 * n))
    calc v % 2 ^ (8 * n) + packLE r * 2 ^ (8 * n) < (packLE r + 1) * 2 ^ (8 * n) := by
          have := Nat.add_one_mul (packLE r) (2 ^ (8 * n))
          omega
      _ ≤ 2 ^ (8 * n) * 2 ^ (8 * (r.map Prod.snd).sum) := by rw [Nat.mul_comm]; exact Nat.mul_le_mul_left _ ih

/-- A field of a record is what was packed there. -/
theorem fieldAt_packLE (a : List (Nat × Nat)) (v n : Nat) (r : List (Nat × Nat)) :
    fieldAt (packLE (a ++ (v, n) :: r)) (a.map Prod.snd).sum n = v % 2 ^ (8 * n) := by
  unfold fieldAt bits
  rw [Nat.shiftRight_eq_div_pow]
  induction a with
  | nil => simp [packLE]
  | cons x a ih =>
    obtain ⟨w, k⟩ := x
    rw [List.cons_append, packLE, List.map_cons, List.sum_cons, Nat.mul_add, Nat.pow_add, ← Nat.div_div_eq_div_mul,
      Nat.add_mul_div_right _ _ (Nat.two_pow_pos _), Nat.div_eq_of_lt (Nat.mod_lt _ (Nat.two_pow_pos _)), Nat.zero_add, ih]

/-! ## Sending -/

/-- In `t` the unit has handed something to its transmitters since `s`, and nothing else. -/
def State.transmits (s t : State) : Prop :=
  ∃ seqs rest, t = { s with chain := { s.chain with seqs := seqs, sent := s.chain.sent ++ rest } }

theorem State.transmits_refl (s : State) : s.transmits s := ⟨s.chain.seqs, [], by simp⟩

theorem State.transmits.trans {s t u : State} (h : s.transmits t) (k : t.transmits u) : s.transmits u := by
  obtain ⟨a, x, rfl⟩ := h
  obtain ⟨b, y, rfl⟩ := k
  exact ⟨b, x ++ y, by simp⟩

theorem State.transmits_sendMsg (s : State) (ps : List Nat) (type flg dst : Nat) (b : List Byte) : s.transmits (s.sendMsg ps type flg dst b) :=
  ⟨_, _, rfl⟩

theorem State.transmits_sendZ (s : State) (ps : List Nat) (o : ZOut) : s.transmits (s.sendZ ps o) := ⟨_, _, rfl⟩

theorem State.transmits_sendCald (s : State) : s.transmits s.sendCald := s.transmits_sendMsg _ _ _ _ _

theorem State.transmits_caldAfter (s old : State) : s.transmits (s.caldAfter old) := by
  unfold State.caldAfter
  split
  · exact s.transmits_refl
  · exact s.transmits_sendCald

theorem State.transmits_sendEnum (s : State) : s.transmits s.sendEnum := by
  unfold State.sendEnum
  split
  · exact s.transmits_sendMsg _ _ _ _ _
  · exact s.transmits_refl

theorem State.transmits.frame {s t : State} (h : s.transmits t) : s.changes [.chain] t := by
  obtain ⟨_, _, rfl⟩ := h
  rfl

theorem State.transmits.reg {s t : State} (h : s.transmits t) (a : Nat) : t.reg a = s.reg a := State.reg_congr (h.frame.same .csr (by decide)) a

/-! ## The head's superframe (R314, Table ZVL-4) -/

theorem State.putRoster_frame (s : State) (e : Roster) : s.changes [.csr, .chain] (s.putRoster e) ∧ (s.putRoster e).chain.sent = s.chain.sent ∧
    (s.putRoster e).chain.epochNext = s.chain.epochNext ∧ ∀ a, a ≠ ZV 0 0x810 → (s.putRoster e).reg a = s.reg a :=
  ⟨by simp [State.putRoster], rfl, rfl, fun _ h => State.reg_setFld_ne _ _ _ _ _ _ h⟩

/-- EPOCH rises with a calibration command (R310). -/
def State.epochRisen (s : State) : State := if s.chain.epochNext then
    (s.setFld (ZV 0 0x810) 16 16 ((s.fld (ZV 0 0x810) 16 16 + 1) % 65536)).setChain { s.chain with epochNext := false } else s

theorem State.epochRisen_shows (s : State) : s.changes [.csr, .chain] s.epochRisen ∧ s.epochRisen.chain = { s.chain with epochNext := false } ∧
    ∀ a, a ≠ ZV 0 0x810 → s.epochRisen.reg a = s.reg a := by
  unfold State.epochRisen
  split
  · exact ⟨by simp, rfl, fun a h => s.reg_setFld_ne _ _ _ _ _ h⟩
  · next h => exact ⟨s.changes_refl _, by rw [← Bool.eq_false_iff.mpr h], fun _ _ => rfl⟩

/-- The registers and the roster as the head's SUPER is sent. -/
def State.superReady (s : State) : State :=
  let t := (s.setReg (ZV 0 0x808) (s.chain.genSet.getD s.genLoaded)).epochRisen
  t.putRoster { pos := 0, addr := t.zaddr, fin := !(t.portUp 1 || t.portUp 3), uid := BitVec.ofNat 128 t.unitId }

theorem State.superReady_shows (s : State) : s.changes [.csr, .chain] s.superReady ∧ s.superReady.chain.sent = s.chain.sent ∧
    s.superReady.chain.epochNext = false ∧ s.superReady.genAnn = s.chain.genSet.getD s.genLoaded % 2 ^ 32 ∧
    ∀ a, a ≠ ZV 0 0x810 → a ≠ ZV 0 0x808 → s.superReady.reg a = s.reg a := by
  unfold State.superReady
  extract_lets t
  obtain ⟨frame, chain, regs⟩ := State.epochRisen_shows (s.setReg (ZV 0 0x808) (s.chain.genSet.getD s.genLoaded))
  have ann : t.reg (ZV 0 0x808) = s.chain.genSet.getD s.genLoaded % 2 ^ 32 :=
    (regs _ (by decide)).trans (State.reg_setReg_same _ _ _)
  have other : ∀ a, a ≠ ZV 0 0x810 → a ≠ ZV 0 0x808 → t.reg a = s.reg a := fun a h h' => (regs a h).trans (State.reg_setReg_ne _ _ _ _ h')
  have whole : s.changes [.csr, .chain] t := State.changes.trans (by simp) frame
  have sent : t.chain.sent = s.chain.sent := (congrArg Chain.sent chain :)
  have epoch : t.chain.epochNext = false := (congrArg Chain.epochNext chain :)
  clear_value t
  obtain ⟨h1, h2, h3, h4⟩ := t.putRoster_frame { pos := 0, addr := t.zaddr, fin := !(t.portUp 1 || t.portUp 3), uid := BitVec.ofNat 128 t.unitId }
  exact ⟨whole.trans h1, h2.trans sent, h3.trans epoch, (h4 _ (by decide)).trans ann, fun a h h' => (h4 a h).trans (other a h h')⟩

/-- What the SUPER of the head carries (Table ZVL-4). -/
def State.superFields (s : State) : List (Nat × Nat) :=
  [(s.frameNo, 6), (s.genAnn, 4), (s.P, 2), (s.fld (ZV 0 0x804) 0 12, 2), (s.fld (ZV 0 0x810) 0 12, 2),
    (s.fld (ZV 0 0x810) 16 16, 2), ((s.chain.bcast.st = 1 : Bool).toNat + s.sleepPend.toNat * 2, 1)]

theorem State.sendSuper_eq (s : State) : s.sendSuper = s.superReady.sendMsg downPorts tSuper 0 0xFFF (bytesLE (packLE s.superReady.superFields) 24) := rfl

theorem State.superFields_read (s : State) {x : Nat} (hx : x = natLE (bytesLE (packLE s.superFields) 24)) :
    fieldAt x 0 6 = s.frameNo ∧ fieldAt x 6 4 = s.genAnn ∧ fieldAt x 10 2 = s.P := by
  have whole : x = packLE s.superFields := by
    rw [hx, natLE_bytesLE]
    exact Nat.mod_eq_of_lt (Nat.lt_of_lt_of_le (packLE_lt _) (Nat.pow_le_pow_right (by decide) (by simp [State.superFields])))
  subst whole
  unfold State.superFields
  refine ⟨(fieldAt_packLE [] _ _ _).trans (Nat.mod_eq_of_lt s.tick.frame.isLt), (fieldAt_packLE [(_, 6)] _ _ _).trans (Nat.mod_eq_of_lt ?_),
    (fieldAt_packLE [(_, 6), (_, 4)] _ _ _).trans (Nat.mod_eq_of_lt ?_)⟩
  · exact (mget regReset s.csr (ZV 0 0x808)).isLt
  · exact Nat.lt_trans (s.fld_lt (CK 0x804) 0 13) (by decide)

theorem State.superframe_head {s : State} (first : s.superStart = true) (head : s.isHead = true) (role : s.chain.role = none) (move : s.chain.move = none) :
    s.superframe = s.sendSuper.sendEnum.sendCald := by
  have same : s.applyRole.moveAddr = s := by simp [State.applyRole, role, State.moveAddr, move]
  unfold State.superframe
  rw [if_neg (by simp [first]), same]
  simp only [head, if_true]

theorem State.superframe_stays {s : State} (h : s.frameNo % 64 ≠ 0) : s.superframe = s := if_pos (by simp [State.superStart, h])

theorem State.superframe_leads {s : State} (first : s.superStart = true) (head : s.isHead = true) (role : s.chain.role = none) (move : s.chain.move = none) :
    s.changes [.csr, .chain] s.superframe ∧ s.superframe.genAnn = s.chain.genSet.getD s.genLoaded % 2 ^ 32 ∧ s.superframe.chain.epochNext = false ∧
    ∃ m rest, s.superframe.chain.sent = s.chain.sent ++ (downPorts, .msg tSuper m) :: rest ∧ m.payload.length = 24 ∧
      fieldAt (natLE m.payload) 0 6 = s.frameNo ∧ fieldAt (natLE m.payload) 10 2 = s.P ∧ fieldAt (natLE m.payload) 6 4 = s.superframe.genAnn := by
  rw [State.superframe_head first head role move, s.sendSuper_eq]
  obtain ⟨frame, sent, epoch, ann, regs⟩ := s.superReady_shows
  obtain ⟨atFrame, atGen, atP⟩ := s.superReady.superFields_read rfl
  generalize s.superReady = t at *
  have announced := t.transmits_sendMsg downPorts tSuper 0 0xFFF (bytesLE (packLE t.superFields) 24)
  have firstSent : ∃ m : ZMsg, m.payload = bytesLE (packLE t.superFields) 24 ∧
      (t.sendMsg downPorts tSuper 0 0xFFF (bytesLE (packLE t.superFields) 24)).chain.sent = t.chain.sent ++ [(downPorts, .msg tSuper m)] := ⟨_, rfl, rfl⟩
  obtain ⟨m, payload, hm⟩ := firstSent
  have kept : (t.sendMsg downPorts tSuper 0 0xFFF (bytesLE (packLE t.superFields) 24)).chain.epochNext = t.chain.epochNext := rfl
  generalize t.sendMsg downPorts tSuper 0 0xFFF (bytesLE (packLE t.superFields) 24) = u at *
  obtain ⟨seqs, rest, last⟩ := u.transmits_sendEnum.trans u.sendEnum.transmits_sendCald
  have all : s.changes [.csr, .chain] u := frame.trans (announced.frame.mono (by decide))
  rw [last]
  have ann' : u.genAnn = t.genAnn := announced.reg _
  refine ⟨all.trans (by rfl), ann'.trans ann, kept.trans epoch, m, rest, ?_, by rw [payload, bytesLE_length], ?_, ?_, ?_⟩
  · exact (congrArg (· ++ rest) (hm.trans (congrArg (· ++ _) sent))).trans (List.append_assoc _ _ _)
  · rw [payload, atFrame]
    exact congrArg BitVec.toNat (congrArg Tick.frame (frame.same .tick (by decide) :))
  · rw [payload, atP]
    exact State.fld_congr (regs _ (by decide) (by decide)) 0 13
  · rw [payload, atGen]
    exact ann'.symm

/-! ## The neighbour exchange (R319, R321) -/

section
variable {s : State} {p param : Nat} {l : List (BitVec 128)}

theorem State.fromAny_up (h : s.fromAny p = true) : s.portUp p = true := by
  simp only [State.fromAny, State.fromUp, State.fromDn, Bool.or_eq_true, Bool.and_eq_true] at h
  obtain ⟨_, up⟩ | ⟨_, up⟩ := h
  · exact up
  · exact up

theorem State.portUp_near (h : s.portUp p = true) : s.portFar p = false := by
  simp only [State.portUp, State.portOn, Bool.and_eq_true, decide_eq_true_eq] at h
  obtain ⟨_, ⟨_, plain⟩, _⟩ := h
  simp [State.portFar, plain]

theorem State.looped_near (h : s.portFar p = false) (o : ZOut) (f : State → State) : s.looped p o f = f s := if_neg (by simp [h])

theorem State.looped_far (h : s.portFar p = true) (o : ZOut) (f : State → State) : s.looped p o f =
    { s with chain := { s.chain with lines := mput (fun _ => {}) s.chain.lines p { s.line p with out := (s.line p).out ++ [o] } } } := if_pos h

/-- A port in far-end loopback sends what comes as it came (Table ZVL-9). -/
theorem State.looped_shows (h : s.portFar p = true) (o : ZOut) (f : State → State) :
    ((s.looped p o f).line p).out = (s.line p).out ++ [o] ∧ (∀ q, q ≠ p → (s.looped p o f).line q = s.line q) ∧
    s.looped p o f = { s with chain := { s.chain with lines := (s.looped p o f).chain.lines } } := by
  rw [State.looped_far h]
  exact ⟨congrArg Line.out (mget_mput_same _ _ _ _), fun q hq => mget_mput_ne _ _ _ _ _ hq, rfl⟩

theorem State.exchange_broken (up : s.portUp p = true) (late : Bool) : s.exchangeIn_ p param l false late = s.inc (ZV p 0x24) := by
  exact if_pos up

/-- Is the contribution that names frame `n` (its low 7 bits) too late for side `k`? -/
def State.exchangeLate (s : State) (k n : Nat) : Bool :=
  (s.side k).ticks.any (fun t => t.1 % 128 = n && decide (t.2 + s.xL k < s.tick.cyc + 4))

/-- A contribution that comes in time. -/
theorem State.exchange_timely (from_ : s.fromAny p = true) (en : s.xEn (p % 2) = true) (timely : s.exchangeLate (p % 2) (param % 128) = false) :
    s.exchangeIn_ p param l true false =
      (if 128 ≤ param ∧ l.length = s.xS (p % 2) ∧ ((s.side (p % 2)).ticks.any (fun t => t.1 % 128 = param % 128) ∨ param % 128 = s.frameNo % 128) then
        s.setSide (p % 2) { s.side (p % 2) with got := (s.side (p % 2)).got.filter (fun g => g.1 ≠ param % 128) ++ [(param % 128, l)] }
      else s.setSide (p % 2) { s.side (p % 2) with got := (s.side (p % 2)).got.filter (fun g => g.1 ≠ param % 128) }) := by
  unfold State.exchangeIn_
  unfold State.exchangeLate at timely
  simp only [from_, en, Bool.not_true, Bool.or_self, Bool.false_eq_true, if_false, timely]

/-- Has a late contribution of side `k` been reported in the last 10 ms (R332)? -/
def State.lateQuiet (s : State) (k : Nat) : Bool := match (s.side k).latePs with
  | some x => decide (s.timePs < x + ms10)
  | none => false

/-- The report of a late contribution of port `p`. -/
def State.lateReported (s : State) (p : Nat) : State :=
  let f := s.farUnit p
  (f.2.setSide (p % 2) { f.2.side (p % 2) with latePs := some f.2.timePs }).originate (f.2.report f.1 7 0)

/-- A contribution that comes too late. -/
theorem State.exchange_lateIn (from_ : s.fromAny p = true) (en : s.xEn (p % 2) = true) {late : Bool} (h : late = true ∨ s.exchangeLate (p % 2) (param % 128) = true) :
    s.exchangeIn_ p param l true late = if s.lateQuiet (p % 2) then s.inc (ZV (p % 2) 0x50) else (s.inc (ZV (p % 2) 0x50)).lateReported p := by
  unfold State.exchangeIn_
  have hl : (late || s.exchangeLate (p % 2) (param % 128)) = true := by simpa using h
  unfold State.exchangeLate at hl
  simp only [from_, en, Bool.not_true, Bool.or_self, Bool.false_eq_true, if_false, hl, if_true]
  rfl

end

theorem State.side_congr {s t : State} (h : t.chain.sides = s.chain.sides) (k : Nat) : t.side k = s.side k := by rw [State.side, State.side, h]

theorem State.side_setSide (s : State) (k : Nat) (x : Side) : (s.setSide k x).side k = x ∧ ∀ j, j ≠ k → (s.setSide k x).side j = s.side j :=
  ⟨mget_mput_same _ _ _ _, fun _ h => mget_mput_ne _ _ _ _ _ h⟩

theorem State.headRecord_sides (s : State) (r : FRep) : (s.headRecord r).chain.sides = s.chain.sides := by
  unfold State.headRecord
  split
  · rfl
  · extract_lets c u post c' w
    have hu : u.chain.sides = s.chain.sides := by
      unfold u
      split <;> rfl
    clear_value u
    split
    · extract_lets quiet e' x
      split
      · exact hu
      · exact hu
    · have hw : w.chain.sides = u.chain.sides := by
        unfold w
        split <;> rfl
      exact hw.trans hu

theorem State.originate_sides (s : State) (r : FRep) : (s.originate r).chain.sides = s.chain.sides := by
  unfold State.originate
  split
  · rfl
  · exact State.headRecord_sides _ r

theorem State.lateReported_shows (s : State) (p : Nat) : ((s.lateReported p).side (p % 2)).got = (s.side (p % 2)).got ∧ (s.lateReported p).csr = s.csr := by
  have farCsr : (s.farUnit p).2.csr = s.csr := by unfold State.farUnit; split <;> rfl
  have farSide : (s.farUnit p).2.side (p % 2) = s.side (p % 2) := by unfold State.farUnit; split <;> rfl
  unfold State.lateReported
  generalize s.farUnit p = f at *
  have general (x : Side) (r : FRep) (hx : x.got = (s.side (p % 2)).got) : (((f.2.setSide (p % 2) x).originate r).side (p % 2)).got = (s.side (p % 2)).got ∧
      ((f.2.setSide (p % 2) x).originate r).csr = s.csr := by
    have reported : (f.2.setSide (p % 2) x).changes [.chain, .hl] ((f.2.setSide (p % 2) x).originate r) := by simp
    refine ⟨?_, (reported.same .csr (by decide)).trans farCsr⟩
    rw [State.side_congr (State.originate_sides _ r), (State.side_setSide _ _ _).1, hx]
  exact general _ _ (congrArg Side.got farSide :)

/-- A contribution that comes too late is counted, and what the side keeps stays. -/
theorem State.exchange_counts {s : State} {p param : Nat} {l : List (BitVec 128)} (from_ : s.fromAny p = true) (en : s.xEn (p % 2) = true) {late : Bool}
    (h : late = true ∨ s.exchangeLate (p % 2) (param % 128) = true) : ((s.exchangeIn_ p param l true late).side (p % 2)).got = (s.side (p % 2)).got ∧
      ∀ a, (s.exchangeIn_ p param l true late).reg a = (s.inc (ZV (p % 2) 0x50)).reg a := by
  rw [State.exchange_lateIn from_ en h]
  obtain ⟨got, csr⟩ := (s.inc (ZV (p % 2) 0x50)).lateReported_shows p
  split
  · exact ⟨rfl, fun _ => rfl⟩
  · exact ⟨got, fun a => State.reg_congr csr a⟩

/-! ## The end of a broadcast -/

theorem State.bcastEnd_ends {s : State} (runs : s.chain.bcast.st = 1) (closed : s.chain.bcast.closed = true) :
    s.bcastEnd = s.setChain { s.chain with bcast := { s.chain.bcast with st := if s.chain.bcast.aborted then 3 else 2 } } := if_pos (by simp [runs, closed])

theorem State.bcastEnd_stays {s : State} (h : s.chain.bcast.st ≠ 1 ∨ s.chain.bcast.closed = false) : s.bcastEnd = s :=
  if_neg (by obtain h | h := h <;> simp [h])

/-- Settles O50, from what a superframe's start sends, the contributions in time and too late, and the broadcast's end. -/
theorem superframes : Obligations.Superframes := by
  intro s
  refine ⟨fun h => completes_intro rfl (State.superframe_stays h), fun first head role move => ?_, fun p x l ok late far => ?_, fun p x l from_ en => ?_,
    fun runs closed => completes_intro rfl (State.bcastEnd_ends runs closed), fun h => completes_intro rfl (State.bcastEnd_stays h)⟩
  · obtain ⟨frame, ann, epoch, m, rest, sent⟩ := State.superframe_leads (by simp [State.superStart, first]) head role move
    exact completes_intro rfl ⟨frame.same .mem (by decide), frame.same .rg (by decide), frame.same .qs (by decide), frame.same .tick (by decide),
      frame.same .hl (by decide), ann, epoch, m, rest, sent⟩
  · obtain ⟨out, _, only⟩ := State.looped_shows far (.xch x.toNat l) (fun t => t.exchangeIn_ p.val x.toNat l ok late)
    exact completes_intro rfl ⟨out, only⟩
  · have near (ok late : Bool) (P : State → Prop) (h : P (s.exchangeIn_ p x.toNat l ok late)) : Completes (.exchangeMessage p x l ok late) s P := by
      refine completes_intro rfl ?_
      rwa [State.looped_near (State.portUp_near (State.fromAny_up from_))]
    refine ⟨near _ _ _ ?_, fun timely valid len frame => near _ _ _ ?_, fun noTick old => near _ _ _ ?_, fun late h => near _ _ _ ?_⟩
    · rw [State.exchange_broken (State.fromAny_up from_)]
      exact ⟨s.reg_inc_same _, rfl⟩
    · have inTime : s.exchangeLate (p % 2) (x.toNat % 128) = false := by
        simp only [State.exchangeLate, List.any_eq_false, Bool.and_eq_true, decide_eq_true_eq]
        rintro e he ⟨same, late⟩
        have := timely e he same
        omega
      have awaited : (s.side (p % 2)).ticks.any (fun t => t.1 % 128 = x.toNat % 128) ∨ x.toNat % 128 = s.frameNo % 128 := by
        obtain now | ⟨e, he, same⟩ := frame
        · exact .inr now
        · exact .inl (List.any_eq_true.mpr ⟨e, he, by simpa using same⟩)
      rw [State.exchange_timely from_ en inTime, if_pos ⟨valid, len, awaited⟩]
      refine ⟨?_, (s.side_setSide _ _).2 _ (by omega), rfl⟩
      rw [(s.side_setSide _ _).1]
      simp
    · have inTime : s.exchangeLate (p % 2) (x.toNat % 128) = false := by
        simp only [State.exchangeLate, List.any_eq_false, Bool.and_eq_true, decide_eq_true_eq]
        rintro e he ⟨same, _⟩
        exact noTick e he same
      rw [State.exchange_timely from_ en inTime, if_neg ?_]
      · refine ⟨?_, rfl⟩
        rw [(s.side_setSide _ _).1]
        simp
      · rintro ⟨valid, _, awaited | now⟩
        · obtain ⟨e, he, same⟩ := List.any_eq_true.mp awaited
          exact noTick e he (by simpa using same)
        · obtain low | other := old
          · omega
          · exact other now
    · have late' : late = true ∨ s.exchangeLate (p % 2) (x.toNat % 128) = true := by
        obtain h | ⟨e, he, same, tooLate⟩ := h
        · exact .inl h
        · exact .inr (List.any_eq_true.mpr ⟨e, he, by simp [same, tooLate]⟩)
      obtain ⟨got, regs⟩ := State.exchange_counts (l := l) from_ en late'
      exact ⟨got, (regs _).trans (s.reg_inc_same _), fun a ha => (regs a).trans (s.reg_inc_ne _ _ ha)⟩

end Sys2Proof.Machine
end

section
/-! Links, measurements and timeouts of the chain (spec/10 R309, R322 to R325, R330, R339, R379). -/
namespace Sys2Proof.Machine

/-! ## A measurement (R309) -/

theorem forAll_sendZ (ps : List Nat) (f : Nat → ZOut) (n : Nat) (s : State) : forAll n (fun i t => t.sendZ ps (f i)) s =
    { s with chain := { s.chain with sent := s.chain.sent ++ (List.range n).map (fun i => (ps, f i)) } } := by
  induction n with
  | zero => simp [forAll]
  | succ n ih =>
    rw [forAll_succ, ih, List.range_succ, List.map_append, ← List.append_assoc]
    rfl

/-- The measurement of port `p` has just started. -/
def State.measuring (s : State) (p : Nat) : State := { s with chain := { s.chain with
  meas := s.chain.meas.filter (fun x => x.1 ≠ p) ++ [(p, 0, 0)]
  sent := s.chain.sent ++ (List.range 256).map (fun i => (upPorts, .set setCal i)) } }

theorem State.measure_starts {s : State} {p : Nat} (even : p % 2 = 0) (up : s.portUp p = true) (rate : s.low p = false) (head : s.isHead = false) :
    s.measure p = s.measuring p := by
  unfold State.measure State.measuring
  rw [if_neg (by simp [even, up, rate, head])]
  generalize 256 = n
  exact forAll_sendZ _ _ _ _

theorem State.measure_stays {s : State} {p : Nat} (h : p % 2 = 1 ∨ s.portUp p = false ∨ s.low p = true ∨ s.isHead = true) : s.measure p = s := by
  refine if_pos ?_
  obtain h | h | h | h := h <;> simp [h]

/-- What a measurement leaves (R309). -/
def State.measuresAt (s t : State) (q : Nat) : Prop := ∃ meas sent, t = { s with chain := { s.chain with meas := meas, sent := sent } } ∧
  ∀ x ∈ meas, x ∈ s.chain.meas ∨ x.1 = q

theorem State.measure_measures (s : State) (p : Nat) : s.measuresAt (s.measure p) p := by
  by_cases h : p % 2 = 1 ∨ s.portUp p = false ∨ s.low p = true ∨ s.isHead = true
  · rw [State.measure_stays h]
    exact ⟨s.chain.meas, s.chain.sent, rfl, fun x hx => .inl hx⟩
  · simp only [not_or, Bool.not_eq_true, Bool.not_eq_false, Nat.mod_two_not_eq_one] at h
    obtain ⟨even, up, rate, head⟩ := h
    rw [State.measure_starts even up rate head]
    refine ⟨_, _, rfl, fun x hx => ?_⟩
    obtain hx | hx := List.mem_append.mp hx
    · exact .inl (List.mem_filter.mp hx).1
    · exact .inr (congrArg Prod.fst (List.mem_singleton.mp hx))

/-! ## The active ports (Table ZVL-11) -/

/-- The registers that a change of the active port writes, but for the ports' own status (Tables TCK-7, ZVL-8, ZVL-11). -/
def activeRegs : List Nat := [CK 0x808, CK 0x80C, CK 0x820, ZV 0 0x814, ZV 0 0x818, ZV 0 0x81C, ZV 0 0x820]

/-- A step of a change of the active ports of a direction, after which port `q` may be measured. -/
structure State.bypasses (s t : State) (q : Nat) : Prop where
  frame : s.changes [.csr, .tick, .chain, .hl, .clk, .free] t
  chain : ∃ sent seqs meas, t.chain = { s.chain with sent := sent, seqs := seqs, meas := meas } ∧ ∀ x ∈ meas, x ∈ s.chain.meas ∨ x.1 = q
  latches : ∀ l ∈ s.hl.latches, ∃ k ∈ t.hl.latches, k.code = l.code ∧ k.src = l.src
  ports : ∀ p i, i < 32 → i ≠ 2 → t.bit (ZV p 4) i = s.bit (ZV p 4) i
  regs : ∀ a, a ∉ activeRegs → (∀ p, a ≠ ZV p 4) → t.reg a = s.reg a

theorem State.bypasses_refl (s : State) (q : Nat) : s.bypasses s q :=
  ⟨s.changes_refl _, ⟨s.chain.sent, s.chain.seqs, s.chain.meas, rfl, fun _ h => .inl h⟩, fun l h => ⟨l, h, rfl, rfl⟩, fun _ _ _ _ => rfl, fun _ _ _ => rfl⟩

theorem State.bypasses.trans {s t u : State} {q : Nat} (h : s.bypasses t q) (k : t.bypasses u q) : s.bypasses u q where
  frame := h.frame.trans k.frame
  chain := by
    obtain ⟨a1, a2, a3, ha, hm⟩ := h.chain
    obtain ⟨b1, b2, b3, hb, hn⟩ := k.chain
    refine ⟨b1, b2, b3, by rw [hb, ha], fun x hx => ?_⟩
    obtain hx | hx := hn x hx
    · exact hm x (by rwa [ha] at hx)
    · exact .inr hx
  latches l hl := by
    obtain ⟨m, hm, c1, c2⟩ := h.latches l hl
    obtain ⟨n, hn, d1, d2⟩ := k.latches m hm
    exact ⟨n, hn, d1.trans c1, d2.trans c2⟩
  ports p i hi h2 := (k.ports p i hi h2).trans (h.ports p i hi h2)
  regs a h1 h2 := (k.regs a h1 h2).trans (h.regs a h1 h2)

/-- A step that only writes a register of the active ports. -/
theorem State.bypasses_setFld (s : State) (q : Nat) {a : Nat} (lo w v : Nat) (h : a ∈ activeRegs) : s.bypasses (s.setFld a lo w v) q where
  frame := by simp
  chain := ⟨s.chain.sent, s.chain.seqs, s.chain.meas, rfl, fun _ h => .inl h⟩
  latches l hl := ⟨l, hl, rfl, rfl⟩
  ports p i _ _ := by
    refine s.bit_setFld_ne _ _ _ _ (fun e => ?_)
    subst e
    unfold activeRegs at h
    simp [ZV, CK] at h
    omega
  regs b hb _ := s.reg_setFld_ne _ _ _ _ _ (fun e => hb (e ▸ h))

theorem State.bypasses_setReg (s : State) (q : Nat) {a : Nat} (v : Nat) (h : a ∈ activeRegs) : s.bypasses (s.setReg a v) q := by
  have whole : s.setReg a v = s.setFld a 0 32 v := by
    unfold State.setFld State.setReg
    rw [setBits_zero_32 (s.reg_lt a)]
    have : BitVec.ofNat 32 (v % 2 ^ 32) = BitVec.ofNat 32 v := BitVec.eq_of_toNat_eq (by simp)
    rw [this]
  rw [whole]
  exact s.bypasses_setFld q 0 32 v h

/-- ACTIVE of a port. -/
theorem State.bypasses_active (s : State) (q p : Nat) (b : Bool) : s.bypasses (s.setBit (ZV p 4) 2 b) q where
  frame := by simp
  chain := ⟨s.chain.sent, s.chain.seqs, s.chain.meas, rfl, fun _ h => .inl h⟩
  latches l hl := ⟨l, hl, rfl, rfl⟩
  ports p' i h32 h2 := by
    by_cases e : ZV p' 4 = ZV p 4
    · rw [e]
      exact s.bit_setBit_other _ _ _ h32 h2
    · exact s.bit_setBit_ne _ _ _ e
  regs a _ ha := s.reg_setBit_ne _ _ _ _ (ha p)

/-- A step that leaves registers and the chain, and adds to what is latched at most. -/
theorem State.bypasses_quiet {s t : State} (q : Nat) (frame : s.changes [.tick, .clk, .hl, .free] t)
    (latches : ∀ l ∈ s.hl.latches, ∃ k ∈ t.hl.latches, k.code = l.code ∧ k.src = l.src) : s.bypasses t q where
  frame := frame.mono (by decide)
  chain := ⟨s.chain.sent, s.chain.seqs, s.chain.meas, by rw [show t.chain = s.chain from frame.same .chain (by decide)], fun _ h => .inl h⟩
  latches := latches
  ports p i _ _ := State.bit_congr (State.reg_congr (frame.same .csr (by decide)) _) i
  regs a _ _ := State.reg_congr (frame.same .csr (by decide)) a

theorem State.latch_keeps (s : State) (code src data : Nat) {l : Latch} (h : l ∈ s.hl.latches) :
    ∃ k ∈ (s.latch code src data).hl.latches, k.code = l.code ∧ k.src = l.src := by
  unfold State.latch
  extract_lets hit ls
  show ∃ k ∈ ls, _
  unfold ls
  split
  · refine ⟨_, List.mem_map_of_mem h, ?_⟩
    split <;> exact ⟨rfl, rfl⟩
  · exact ⟨l, List.mem_append_left _ h, rfl, rfl⟩

theorem State.latch_shows (s : State) (code src data : Nat) : ∃ k ∈ (s.latch code src data).hl.latches, k.code = code ∧ k.src = src + 1 := by
  unfold State.latch
  extract_lets hit ls
  show ∃ k ∈ ls, _
  unfold ls
  split
  · next h =>
    obtain ⟨l, hl, same⟩ := List.any_eq_true.mp h
    simp only [Bool.and_eq_true, decide_eq_true_eq] at same
    refine ⟨_, List.mem_map_of_mem hl, ?_⟩
    rw [if_pos (by simp [same])]
    exact same
  · exact ⟨_, List.mem_append_right _ (List.mem_singleton.mpr rfl), rfl, rfl⟩

theorem State.bypasses_latch (s : State) (q code src data : Nat) : s.bypasses (s.latch code src data) q :=
  State.bypasses_quiet q (by rfl) (fun _ h => s.latch_keeps code src data h)

theorem State.bypasses_fault (s : State) (q detail data : Nat) : s.bypasses (s.fault detail data) q :=
  State.bypasses_quiet q (by rfl) (fun l h => ⟨l, List.mem_append_left _ h, rfl, rfl⟩)

theorem State.bypasses_transmits {s t : State} (q : Nat) (h : s.transmits t) : s.bypasses t q := by
  obtain ⟨seqs, rest, rfl⟩ := h
  exact ⟨by rfl, ⟨_, _, _, rfl, fun _ h => .inl h⟩, fun l h => ⟨l, h, rfl, rfl⟩, fun _ _ _ _ => rfl, fun _ _ _ => rfl⟩

theorem State.bypasses_measure (s : State) (q : Nat) : s.bypasses (s.measure q) q := by
  obtain ⟨meas, sent, whole, keeps⟩ := s.measure_measures q
  rw [whole]
  exact ⟨by rfl, ⟨_, _, _, rfl, keeps⟩, fun l h => ⟨l, h, rfl, rfl⟩, fun _ _ _ _ => rfl, fun _ _ _ => rfl⟩

theorem State.bypasses_zvlUnlock (s : State) (q : Nat) : s.bypasses s.zvlUnlock q := by
  unfold State.zvlUnlock
  split
  · exact s.bypasses_refl q
  · exact State.bypasses_quiet q (by rfl) (fun _ h => State.latch_keeps _ _ _ _ h)

/-- ALIGNED is cleared, and the SOFs of the old port forgotten, where the active upstream port changes (R51, R58). -/
def State.upChanged (s : State) (up : Bool) (code : Nat) : State := if up && decide (s.fld (ZV 0 0x820) 0 2 ≠ code) then
    { s.setBit (CK 0x80C) 2 false with tick := { s.tick with sofs := [], sofLast := none, superSeq := none } } else s

theorem State.setActive_eq (s : State) (up : Bool) (code : Nat) : s.setActive up code =
    ((((s.upChanged up code).setFld (ZV 0 0x820) (if up then 0 else 2) 2 code).setBit (ZV (if up then 0 else 1) 4) 2 (code = 0)).setBit
      (ZV (if up then 2 else 3) 4) 2 (code = 1)) := by
  cases up <;> rfl

theorem State.bypasses_upChanged (s : State) (q : Nat) (up : Bool) (code : Nat) : s.bypasses (s.upChanged up code) q := by
  unfold State.upChanged
  split
  · exact (s.bypasses_setFld q 2 1 (Bool.toNat false) (a := CK 0x80C) (by decide)).trans (State.bypasses_quiet q (by rfl) (fun l h => ⟨l, h, rfl, rfl⟩))
  · exact s.bypasses_refl q

theorem State.bypasses_setActive (s : State) (q : Nat) (up : Bool) (code : Nat) : s.bypasses (s.setActive up code) q := by
  rw [State.setActive_eq]
  exact (((s.bypasses_upChanged q up code).trans (State.bypasses_setFld _ q _ _ _ (by decide))).trans (State.bypasses_active _ q _ _)).trans
    (State.bypasses_active _ q _ _)

/-- The active port of a direction, and the other one's; upstream ALIGNED is cleared where the port changes. -/
theorem State.setActive_shows (s : State) (up : Bool) (code : Nat) :
    (s.setActive up code).fld (ZV 0 0x820) (if up then 0 else 2) 2 = code % 4 ∧
    (s.setActive up code).fld (ZV 0 0x820) (if up then 2 else 0) 2 = s.fld (ZV 0 0x820) (if up then 2 else 0) 2 ∧
    (up = true → s.fld (ZV 0 0x820) 0 2 ≠ code → (s.setActive up code).bit (CK 0x80C) 2 = false) := by
  rw [State.setActive_eq]
  have changed : (s.upChanged up code).reg (ZV 0 0x820) = s.reg (ZV 0 0x820) := by
    unfold State.upChanged
    split
    · exact s.reg_setBit_ne _ _ _ _ (by decide)
    · rfl
  have aligned : up = true → s.fld (ZV 0 0x820) 0 2 ≠ code → (s.upChanged up code).bit (CK 0x80C) 2 = false := by
    intro hu hc
    unfold State.upChanged
    rw [if_pos (by simp [hu, hc])]
    exact s.bit_setBit_same _ _ (by decide)
  generalize s.upChanged up code = t at *
  have ne (p : Nat) : ZV 0 0x820 ≠ ZV p 4 := by unfold ZV; omega
  have ne' (p : Nat) : CK 0x80C ≠ ZV p 4 := (ZV_ne_CK _ _ _ (by decide)).symm
  refine ⟨?_, ?_, fun hu hc => ?_⟩
  · rw [State.fld_setBit_ne _ _ _ _ _ (ne _), State.fld_setBit_ne _ _ _ _ _ (ne _)]
    exact t.fld_setFld_same _ _ (by cases up <;> decide)
  · rw [State.fld_setBit_ne _ _ _ _ _ (ne _), State.fld_setBit_ne _ _ _ _ _ (ne _), t.fld_setFld_other _ _ _ _ (by cases up <;> decide) (by cases up <;> decide)]
    exact State.fld_congr changed _ _
  · rw [State.bit_setBit_ne _ _ _ _ (ne' _), State.bit_setBit_ne _ _ _ _ (ne' _), t.bit_setFld_ne _ _ _ _ (by decide)]
    exact aligned hu hc

theorem upPort_zero {s : State} : s.upPort = some 0 ↔ s.fld (ZV 0 0x820) 0 2 = 0 := by
  have := s.fld_lt (ZV 0 0x820) 0 2
  unfold State.upPort
  split <;> simp_all

theorem upPort_two {s : State} : s.upPort = some 2 ↔ s.fld (ZV 0 0x820) 0 2 = 1 := by
  have := s.fld_lt (ZV 0 0x820) 0 2
  unfold State.upPort
  split <;> simp_all

theorem dnPort_one {s : State} : s.dnPort = some 1 ↔ s.fld (ZV 0 0x820) 2 2 = 0 := by
  have := s.fld_lt (ZV 0 0x820) 2 2
  unfold State.dnPort
  split <;> simp_all

theorem dnPort_three {s : State} : s.dnPort = some 3 ↔ s.fld (ZV 0 0x820) 2 2 = 1 := by
  have := s.fld_lt (ZV 0 0x820) 2 2
  unfold State.dnPort
  split <;> simp_all

theorem upPort_cases (s : State) : s.upPort = some 0 ∨ s.upPort = some 2 ∨ s.upPort = none := by
  unfold State.upPort
  split <;> simp

theorem dnPort_cases (s : State) : s.dnPort = some 1 ∨ s.dnPort = some 3 ∨ s.dnPort = none := by
  unfold State.dnPort
  split <;> simp

/-! ## Switches (R323, R324) -/

theorem State.bypasses_takeDelay (s : State) (q p : Nat) : s.bypasses (s.takeDelay p) q :=
  (s.bypasses_setReg q _ (by decide)).trans (State.bypasses_setReg _ q _ (by decide))

theorem State.bypasses_writeOfs (s : State) (q d : Nat) : s.bypasses (s.writeOfs d) q :=
  (s.bypasses_setFld q _ _ _ (by decide)).trans (State.bypasses_setFld _ q _ _ _ (by decide))

theorem State.bypasses_bypassEvent (s : State) (q : Nat) : s.bypasses s.bypassEvent q :=
  (s.bypasses_setFld q _ _ _ (by decide)).trans (State.bypasses_latch _ q _ _ _)

/-- EV_BYPASS is latched, and the active ports stay. -/
theorem State.bypassEvent_shows (s : State) : (∃ k ∈ s.bypassEvent.hl.latches, k.code = 7) ∧
    (∀ lo, lo + 2 ≤ 16 → s.bypassEvent.fld (ZV 0 0x820) lo 2 = s.fld (ZV 0 0x820) lo 2) ∧ s.bypassEvent.bit (CK 0x80C) 2 = s.bit (CK 0x80C) 2 := by
  unfold State.bypassEvent
  extract_lets t
  obtain ⟨k, hk, code, _⟩ := t.latch_shows 7 0 (packLE [(t.fld (ZV 0 0x820) 0 2, 1), (t.fld (ZV 0 0x820) 2 2, 1), (t.pad, 2), (t.fld (ZV 0 0x820) 16 16, 2)])
  exact ⟨⟨k, hk, code⟩, fun lo h => s.fld_setFld_other _ _ _ _ (by omega) (.inl h), s.bit_setFld_ne _ _ _ _ (by decide)⟩

/-- PAD of the new upstream port, saturating (R323). -/
def State.newPad (s : State) (want : Int) : State := if want < 0 then
    (s.setFld (ZV 0 0x81C) 0 12 (min want 4095).toNat).fault 0x0110 (unsigned want 32) else s.setFld (ZV 0 0x81C) 0 12 (min want 4095).toNat

theorem State.bypasses_newPad (s : State) (q : Nat) (want : Int) : s.bypasses (s.newPad want) q := by
  unfold State.newPad
  have pad := s.bypasses_setFld q 0 12 (min want 4095).toNat (a := ZV 0 0x81C) (by decide)
  split
  · exact pad.trans (State.bypasses_fault _ q _ _)
  · exact pad

theorem State.newPad_reg (s : State) (want : Int) {a : Nat} (h : a ≠ ZV 0 0x81C) : (s.newPad want).reg a = s.reg a := by
  unfold State.newPad
  split
  · exact s.reg_setFld_ne _ _ _ _ _ h
  · exact s.reg_setFld_ne _ _ _ _ _ h

/-- The rounding of the new PAD, a free value (log 1). -/
def State.padDraw (s : State) (diff : Int) : Nat × State := if diff % 256 = 0 then (0, s) else s.draw

theorem State.bypasses_padDraw (s : State) (q : Nat) (diff : Int) : s.bypasses (s.padDraw diff).2 q ∧ ∀ a, (s.padDraw diff).2.reg a = s.reg a := by
  unfold State.padDraw
  split
  · exact ⟨s.bypasses_refl q, fun _ => rfl⟩
  · exact ⟨State.bypasses_quiet q (by rfl) (fun l h => ⟨l, h, rfl, rfl⟩), fun _ => rfl⟩

/-- The unit with the delay of its new upstream port `p`, and what that differs by from the old one. -/
def State.moved (s : State) (p : Nat) : State := (s.setActive true (p / 2)).takeDelay p
def State.movedBy (s : State) (p : Nat) : Int := (s.reg (ZV 0 0x814) : Int) - (s.moved p).reg (ZV 0 0x814)

/-- The rest of a switch (R323), from the value drawn for PAD. -/
def State.movedOn (old s : State) (p : Nat) (want : Int) : State :=
  (((s.writeOfs (s.reg (ZV 0 0x814))).newPad want).caldAfter old).bypassEvent.measure p

theorem State.switchUp_eq (s : State) (p : Nat) : ∃ want, s.switchUp p = s.movedOn ((s.moved p).padDraw (s.movedBy p)).2 p want := by
  refine ⟨((s.moved p).padDraw (s.movedBy p)).2.pad + s.movedBy p / 256 + ((((s.moved p).padDraw (s.movedBy p)).1 % 2 : Nat) : Int), ?_⟩
  unfold State.switchUp
  extract_lets old dOld t diff
  have hd : s.movedBy p = diff := rfl
  have ht : s.moved p = t := rfl
  rw [hd, ht]
  clear_value diff t
  unfold State.padDraw
  by_cases h : diff % 256 = 0
  · simp only [h, if_true]
    rfl
  · simp only [h, if_false]
    rfl

theorem State.switchUp_shows (s : State) (p : Nat) : s.bypasses (s.switchUp p) p ∧ (s.switchUp p).fld (ZV 0 0x820) 0 2 = p / 2 % 4 ∧
    (s.switchUp p).fld (ZV 0 0x820) 2 2 = s.fld (ZV 0 0x820) 2 2 ∧ (∃ k ∈ (s.switchUp p).hl.latches, k.code = 7) ∧
    (s.fld (ZV 0 0x820) 0 2 ≠ p / 2 → (s.switchUp p).bit (CK 0x80C) 2 = false) := by
  obtain ⟨want, whole⟩ := s.switchUp_eq p
  rw [whole]
  generalize s.movedBy p = diff
  unfold State.movedOn State.moved
  obtain ⟨active, other, aligned⟩ := s.setActive_shows true (p / 2)
  have h1 := s.bypasses_setActive p true (p / 2)
  generalize s.setActive true (p / 2) = a at *
  have h2 := h1.trans (a.bypasses_takeDelay p p)
  have r2 : ∀ x, x ≠ ZV 0 0x814 → x ≠ ZV 0 0x818 → (a.takeDelay p).reg x = a.reg x := fun x h h' =>
    (State.reg_setReg_ne _ _ _ _ h').trans (State.reg_setReg_ne _ _ _ _ h)
  generalize a.takeDelay p = b at *
  have h3 := h2.trans (b.bypasses_padDraw p diff).1
  have r3 := (b.bypasses_padDraw p diff).2
  generalize (b.padDraw diff).2 = c at *
  have h4 := h3.trans (c.bypasses_writeOfs p (c.reg (ZV 0 0x814)))
  have r4 : ∀ x, x ≠ CK 0x808 → x ≠ CK 0x820 → (c.writeOfs (c.reg (ZV 0 0x814))).reg x = c.reg x := fun x h h' =>
    (State.reg_setFld_ne _ _ _ _ _ _ h').trans (State.reg_setFld_ne _ _ _ _ _ _ h)
  generalize c.writeOfs (c.reg (ZV 0 0x814)) = d at *
  have h5 := h4.trans (d.bypasses_newPad p want)
  have r5 : ∀ x, x ≠ ZV 0 0x81C → (d.newPad want).reg x = d.reg x := fun x h => d.newPad_reg want h
  generalize d.newPad want = e at *
  have sent := e.transmits_caldAfter s
  have h6 := h5.trans (State.bypasses_transmits p sent)
  have r6 := sent.reg
  generalize e.caldAfter s = f at *
  obtain ⟨⟨k, hk, code⟩, bypass, al⟩ := f.bypassEvent_shows
  have h7 := (h6.trans (f.bypasses_bypassEvent p)).trans (State.bypasses_measure _ p)
  have regs : ∀ x, x ∉ [CK 0x808, CK 0x820, ZV 0 0x814, ZV 0 0x818, ZV 0 0x81C] → f.reg x = a.reg x := by
    intro x hx
    simp only [List.mem_cons, List.not_mem_nil, or_false, not_or] at hx
    obtain ⟨x1, x2, x3, x4, x5⟩ := hx
    exact (r6 x).trans ((r5 x x5).trans ((r4 x x1 x2).trans ((r3 x).trans (r2 x x3 x4))))
  have r7 : ∀ x, (f.bypassEvent.measure p).reg x = f.bypassEvent.reg x := by
    obtain ⟨_, _, same, _⟩ := f.bypassEvent.measure_measures p
    rw [same]
    exact fun _ => rfl
  have fields (lo : Nat) (h : lo + 2 ≤ 16) : (f.bypassEvent.measure p).fld (ZV 0 0x820) lo 2 = a.fld (ZV 0 0x820) lo 2 :=
    (State.fld_congr (r7 _) lo 2).trans ((bypass lo h).trans (State.fld_congr (regs _ (by decide)) lo 2))
  refine ⟨h7, (fields 0 (by decide)).trans active, (fields 2 (by decide)).trans other, ?_, fun h =>
    (State.bit_congr (r7 _) 2).trans (al.trans ((State.bit_congr (regs _ (by decide)) 2).trans (aligned rfl h)))⟩
  obtain ⟨_, _, same, _⟩ := f.bypassEvent.measure_measures p
  rw [same]
  exact ⟨k, hk, code⟩

/-- The switch of a direction to its other port: that port is active, the other direction's stays, EV_BYPASS is latched. -/
theorem State.switchTo_up (s : State) (q : Nat) : s.switchTo true q = s.switchUp q := rfl
theorem State.switchTo_dn (s : State) (q : Nat) : s.switchTo false q = (s.setActive false 1).bypassEvent := rfl

/-- A change of the active downstream port, with its event (R324). -/
theorem State.switchDn_shows (s : State) (q code : Nat) : s.bypasses (s.setActive false code).bypassEvent q ∧
    (s.setActive false code).bypassEvent.fld (ZV 0 0x820) 2 2 = code % 4 ∧
    (s.setActive false code).bypassEvent.fld (ZV 0 0x820) 0 2 = s.fld (ZV 0 0x820) 0 2 ∧
    ∃ k ∈ (s.setActive false code).bypassEvent.hl.latches, k.code = 7 := by
  obtain ⟨active, other, _⟩ := s.setActive_shows false code
  obtain ⟨latched, fields, _⟩ := (s.setActive false code).bypassEvent_shows
  exact ⟨(s.bypasses_setActive q false code).trans (State.bypasses_bypassEvent _ q), (fields 2 (by decide)).trans active,
    (fields 0 (by decide)).trans other, latched⟩

/-- The active port of a direction. -/
def State.activePort (s : State) (up : Bool) : Option Nat := if up then s.upPort else s.dnPort

theorem State.activePort_up (s : State) : s.activePort true = s.upPort := rfl
theorem State.activePort_dn (s : State) : s.activePort false = s.dnPort := rfl

theorem State.upPort_congr {s t : State} (h : t.fld (ZV 0 0x820) 0 2 = s.fld (ZV 0 0x820) 0 2) : t.upPort = s.upPort := by rw [State.upPort, State.upPort, h]
theorem State.dnPort_congr {s t : State} (h : t.fld (ZV 0 0x820) 2 2 = s.fld (ZV 0 0x820) 2 2) : t.dnPort = s.dnPort := by rw [State.dnPort, State.dnPort, h]

theorem State.otherPort_some {s : State} {up : Bool} {q : Nat} (h : s.otherPort up = some q) : (q = if up then q / 2 * 2 else 3) ∧ q < 4 ∧
    s.activePort up ≠ some q ∧ s.canTake q = true := by
  unfold State.otherPort at h
  extract_lets cur alt at h
  split at h
  · next can =>
    obtain rfl := Option.some.inj h
    refine ⟨?_, ?_, can⟩
    · unfold alt
      cases up <;> simp
      split <;> rfl
    · unfold alt
      cases up <;> simp
      split <;> decide
  · cases h

/-- A direction switches to port `q`: it is active, the other direction's stays, EV_BYPASS is latched. -/
theorem State.switchTo_shows (s : State) {up : Bool} {q : Nat} (hq : (q = if up then q / 2 * 2 else 3)) (q4 : q < 4) :
    s.bypasses (s.switchTo up q) q ∧ (s.switchTo up q).activePort up = some q ∧ (s.switchTo up q).activePort (!up) = s.activePort (!up) ∧
    (∃ k ∈ (s.switchTo up q).hl.latches, k.code = 7) ∧
    (up = true → s.activePort up ≠ some q → (s.switchTo up q).bit (CK 0x80C) 2 = false) := by
  cases up with
  | true =>
    simp only [if_true] at hq
    rw [State.switchTo_up, Bool.not_true, State.activePort_up, State.activePort_up, State.activePort_dn, State.activePort_dn]
    obtain ⟨only, active, other, latched, aligned⟩ := s.switchUp_shows q
    generalize s.switchUp q = t at *
    have two : q = 0 ∨ q = 2 := by omega
    refine ⟨only, ?_, State.dnPort_congr other, latched, fun _ h => aligned ?_⟩
    · obtain rfl | rfl := two
      · exact upPort_zero.mpr active
      · exact upPort_two.mpr active
    · obtain rfl | rfl := two
      · exact fun e => h (upPort_zero.mpr e)
      · exact fun e => h (upPort_two.mpr e)
  | false =>
    simp only [Bool.false_eq_true, if_false] at hq
    subst hq
    rw [State.switchTo_dn, Bool.not_false, State.activePort_dn, State.activePort_up, State.activePort_up]
    obtain ⟨only, active, other, latched⟩ := s.switchDn_shows 3 1
    generalize (s.setActive false 1).bypassEvent = t at *
    exact ⟨only, dnPort_three.mpr active, State.upPort_congr other, latched, fun h => absurd h (by decide)⟩

/-- No port of a direction is active any more (R324, R447). -/
def State.noActive (s : State) (up : Bool) : State := if up then (s.setActive up 2).zvlUnlock else s.setActive up 2

theorem State.noActive_shows (s : State) (up : Bool) (q : Nat) : s.bypasses (s.noActive up) q ∧ (s.noActive up).activePort up = none ∧
    (s.noActive up).activePort (!up) = s.activePort (!up) := by
  obtain ⟨active, other, _⟩ := s.setActive_shows up 2
  have only := s.bypasses_setActive q up 2
  cases up with
  | true =>
    have csr : (s.setActive true 2).zvlUnlock.csr = (s.setActive true 2).csr := by
      unfold State.zvlUnlock
      split <;> rfl
    have regs := State.reg_congr csr
    refine ⟨only.trans (State.bypasses_zvlUnlock _ q), ?_, (State.dnPort_congr ((State.fld_congr (regs _) 2 2).trans other) :)⟩
    have off : (s.setActive true 2).zvlUnlock.fld (ZV 0 0x820) 0 2 = 2 := (State.fld_congr (regs _) 0 2).trans active
    show (s.setActive true 2).zvlUnlock.upPort = none
    generalize (s.setActive true 2).zvlUnlock = t at off
    rw [State.upPort]
    split
    · next h => exact absurd (h.symm.trans off) (by decide)
    · next h => exact absurd (h.symm.trans off) (by decide)
    · rfl
  | false =>
    refine ⟨only, ?_, (State.upPort_congr other :)⟩
    show State.dnPort (s.setActive false 2) = _
    rw [State.dnPort]
    split
    · next h => exact absurd (h.symm.trans active) (by decide)
    · next h => exact absurd (h.symm.trans active) (by decide)
    · rfl

theorem State.loseActive_eq (s : State) (up : Bool) : s.loseActive up = s.noActive up ∨
    ∃ q, s.otherPort up = some q ∧ s.loseActive up = s.switchTo up q := by
  unfold State.loseActive
  split
  · next q h => exact .inr ⟨q, h, rfl⟩
  · exact .inl rfl

/-- The active port of a direction went down (R323, R324): it is active no more, and another one may be measured. -/
theorem State.loseActive_shows (s : State) {up : Bool} {p : Nat} (act : s.activePort up = some p) : ∃ q, q ≠ p ∧ s.bypasses (s.loseActive up) q ∧
    (s.loseActive up).activePort up ≠ some p ∧ (s.loseActive up).activePort (!up) = s.activePort (!up) := by
  obtain off | ⟨q, other, switch⟩ := s.loseActive_eq up
  · obtain ⟨only, active, rest⟩ := s.noActive_shows up (p + 1)
    rw [off]
    exact ⟨p + 1, by omega, only, by simp [active], rest⟩
  · obtain ⟨hq, q4, ne, _⟩ := State.otherPort_some other
    obtain ⟨only, active, rest, _⟩ := s.switchTo_shows hq q4
    have diff : q ≠ p := fun e => ne (e ▸ act)
    rw [switch]
    exact ⟨q, diff, only, by rw [active]; exact fun e => diff (Option.some.inj e), rest⟩

/-! ## LINK_DOWN (R322, R330) -/

/-- What LINK_DOWN does to the port itself: link, counters, event, marks. -/
def State.linkLost (s : State) (p : Nat) : State :=
  let t := (((s.setBit (ZV p 4) 0 false).setBit (ZV p 4) 8 true).inc (ZV p 0x28)).setBit (ZV p 4) 1 false
  let u := (t.draw.2.count (ZV p 0x20) 0 32 (t.draw.1 % 2 ^ 32)).latch 6 p (p * 256)
  u.setChain { u.chain with
    meas := u.chain.meas.filter (fun x => x.1 ≠ p), measured := u.chain.measured.filter (· ≠ p), heard := u.chain.heard.filter (· ≠ p)
    calib := u.chain.calib.filter (· ≠ p)
    slow := u.chain.slow.filter (· ≠ p) }

/-- The report about the unit at the far end, at once or after 1 ms (R330). -/
def State.linkReport (s : State) (p : Nat) : State :=
  if p < 2 then (s.farUnit p).2.originate ((s.farUnit p).2.report (s.farUnit p).1 1 p)
  else (s.farUnit p).2.waitReport ((s.farUnit p).2.report (s.farUnit p).1 2 p)

theorem State.linkDown_eq {s : State} {p : Nat} (h : s.link p = true) : s.linkDown p =
    if ((s.linkLost p).linkReport p).upPort = some p then ((s.linkLost p).linkReport p).loseActive true
    else if ((s.linkLost p).linkReport p).dnPort = some p then ((s.linkLost p).linkReport p).loseActive false
    else (s.linkLost p).linkReport p := by
  unfold State.linkDown
  rw [if_neg (by simp [h])]
  rfl

theorem State.linkLost_frame (s : State) (p : Nat) : s.changes [.csr, .free, .hl, .chain] (s.linkLost p) := by
  unfold State.linkLost
  extract_lets t u
  have ht : s.changes [.csr, .free, .hl, .chain] t := by simp [t]
  have drawn : t.changes [.csr, .free, .hl, .chain] t.draw.2 := by rfl
  simp [u, ht.trans drawn]

theorem State.linkLost_chain (s : State) (p : Nat) : (s.linkLost p).chain = { s.chain with
    meas := s.chain.meas.filter (fun x => x.1 ≠ p), measured := s.chain.measured.filter (· ≠ p), heard := s.chain.heard.filter (· ≠ p)
    calib := s.chain.calib.filter (· ≠ p)
    slow := s.chain.slow.filter (· ≠ p) } := rfl

theorem State.linkLost_regs (s : State) (p : Nat) : (s.linkLost p).link p = false ∧ (s.linkLost p).bit (ZV p 4) 8 = true ∧
    (s.linkLost p).reg (ZV p 0x28) = min (s.reg (ZV p 0x28) + 1) (2 ^ 32 - 1) ∧
    ∀ a, a ≠ ZV p 4 → a ≠ ZV p 0x20 → a ≠ ZV p 0x28 → (s.linkLost p).reg a = s.reg a := by
  unfold State.linkLost
  extract_lets t u
  have down : t.bit (ZV p 4) 0 = false := by
    rw [State.bit_setBit_other _ _ _ _ (by decide) (by decide), State.bit_congr (State.reg_inc_ne _ _ _ (by simp)), State.bit_setBit_other _ _ _ _ (by decide) (by decide)]
    exact State.bit_setBit_same _ _ _ (by decide)
  have seen : t.bit (ZV p 4) 8 = true := by
    rw [State.bit_setBit_other _ _ _ _ (by decide) (by decide), State.bit_congr (State.reg_inc_ne _ _ _ (by simp))]
    exact State.bit_setBit_same _ _ _ (by decide)
  have counted : t.reg (ZV p 0x28) = min (s.reg (ZV p 0x28) + 1) (2 ^ 32 - 1) := by
    rw [State.reg_setBit_ne _ _ _ _ _ (by simp), State.reg_inc_same, State.reg_setBit_ne _ _ _ _ _ (by simp), State.reg_setBit_ne _ _ _ _ _ (by simp)]
  have rest : ∀ a, a ≠ ZV p 4 → a ≠ ZV p 0x28 → t.reg a = s.reg a := fun a h h' =>
    (State.reg_setBit_ne _ _ _ _ _ h).trans ((State.reg_inc_ne _ _ _ h').trans ((State.reg_setBit_ne _ _ _ _ _ h).trans (State.reg_setBit_ne _ _ _ _ _ h)))
  clear_value t
  have regs : ∀ a, a ≠ ZV p 0x20 → u.reg a = t.reg a := fun a h => State.reg_setFld_ne _ _ _ _ _ _ h
  clear_value u
  have same (x : Chain) : ∀ a, (u.setChain x).reg a = u.reg a := fun _ => rfl
  exact ⟨(State.bit_congr ((same _ _).trans (regs _ (by simp))) 0).trans down, (State.bit_congr ((same _ _).trans (regs _ (by simp))) 8).trans seen,
    ((same _ _).trans (regs _ (by simp))).trans counted, fun a h1 h2 h3 => ((same _ a).trans (regs a h2)).trans (rest a h1 h3)⟩

theorem State.linkLost_latched (s : State) (p : Nat) : ∃ l ∈ (s.linkLost p).hl.latches, l.code = 6 ∧ l.src = p + 1 := by
  unfold State.linkLost
  extract_lets t u
  exact State.latch_shows (t.draw.2.count (ZV p 0x20) 0 32 (t.draw.1 % 2 ^ 32)) 6 p (p * 256)

/-! ## Reports (R330, R331) -/

/-- What the head's record and an own report leave of the chain's state. -/
def Chain.reported (c d : Chain) : Prop := ∃ roster recs ftab sent seqs, d = { c with roster := roster, recs := recs, ftab := ftab, sent := sent, seqs := seqs }

theorem State.headRecord_chain (s : State) (r : FRep) : ∃ roster recs, (s.headRecord r).chain = { s.chain with roster := roster, recs := recs } := by
  unfold State.headRecord
  split
  · exact ⟨s.chain.roster, s.chain.recs, rfl⟩
  · extract_lets c u post c' w
    have hu : ∃ roster, u.chain = { s.chain with roster := roster } := by
      unfold u
      split
      · exact ⟨_, rfl⟩
      · exact ⟨s.chain.roster, rfl⟩
    obtain ⟨roster, hu⟩ := hu
    have records (recs : List FRec) : { u.chain with recs := recs } = { s.chain with roster := roster, recs := recs } := by rw [hu]
    clear_value u
    split
    · extract_lets quiet e' x
      have hx : ∃ recs, x.chain = { s.chain with roster := roster, recs := recs } := ⟨_, (records _ :)⟩
      split
      · obtain ⟨recs, hx⟩ := hx
        exact ⟨roster, recs, hx⟩
      · obtain ⟨recs, hx⟩ := hx
        exact ⟨roster, recs, hx⟩
    · have hw : ∃ recs, w.chain = { s.chain with roster := roster, recs := recs } := by
        unfold w
        split
        · exact ⟨_, (records _ :)⟩
        · exact ⟨u.chain.recs, records _⟩
      obtain ⟨recs, hw⟩ := hw
      exact ⟨roster, recs, hw⟩

/-- The table of known reports after an own report that was not known. -/
theorem State.originate_new {s : State} {r : FRep} (h : s.knownFault r.origin r.code = false) : ∃ roster recs seqs m,
    (s.originate r).chain = { s.chain with
      roster := roster, recs := recs, seqs := seqs, sent := s.chain.sent ++ [(upPorts ++ downPorts, .msg tFault m)]
      ftab := s.chain.ftab.drop (s.chain.ftab.length - 3) ++ [⟨r.origin, r.code, s.timePs, false⟩] } ∧ m.payload = r.bytes := by
  unfold State.originate
  rw [if_neg (by simp [h])]
  obtain ⟨roster, recs, chain⟩ := State.headRecord_chain ((s.enterFault r.origin r.code false).sendMsg (upPorts ++ downPorts) tFault 0 0xFFF r.bytes) r
  exact ⟨roster, recs, _, _, chain, rfl⟩

theorem State.originate_old {s : State} {r : FRep} (h : s.knownFault r.origin r.code = true) : s.originate r = s := if_pos h

theorem State.originate_reported (s : State) (r : FRep) : s.chain.reported (s.originate r).chain := by
  cases h : s.knownFault r.origin r.code with
  | true => rw [State.originate_old h]; exact ⟨_, _, _, _, _, rfl⟩
  | false =>
    obtain ⟨roster, recs, seqs, m, chain, _⟩ := State.originate_new h
    exact ⟨_, _, _, _, _, chain⟩

/-- A report that has been originated is known. -/
theorem State.originate_known (s : State) (r : FRep) : (s.originate r).knownFault r.origin r.code = true := by
  cases h : s.knownFault r.origin r.code with
  | true => rwa [State.originate_old h]
  | false =>
    obtain ⟨roster, recs, seqs, m, chain, _⟩ := State.originate_new h
    have frame : s.changes [.chain, .hl] (s.originate r) := by simp
    have time : (s.originate r).timePs = s.timePs := frame.same .timePs (by decide)
    unfold State.knownFault
    rw [chain, time]
    simp [ms10]

theorem State.knownFault_congr {s t : State} (ftab : t.chain.ftab = s.chain.ftab) (time : t.timePs = s.timePs) (o c : Nat) :
    t.knownFault o c = s.knownFault o c := by rw [State.knownFault, State.knownFault, ftab, time]

/-- The unit at the far end of a port, as an assigned unit knows it. -/
theorem State.farUnit_assigned {s : State} (h : s.assigned = true) (p : Nat) : s.farUnit p =
    (if p % 2 = 0 then (s.zaddr + 4096 - (p / 2 + 1)) % 4096 else (s.zaddr + (p / 2 + 1)) % 4096, s) := by
  unfold State.farUnit
  rw [if_neg (by simp [h])]

theorem State.farUnit_frame (s : State) (p : Nat) : s.changes [.free] (s.farUnit p).2 := by
  unfold State.farUnit
  split <;> rfl

/-- The report about a lost link. -/
theorem State.linkReport_shows (s : State) (p : Nat) : s.changes [.free, .chain, .hl] (s.linkReport p) ∧
    (∃ ls, (s.linkReport p).hl = s.hl.latched ls) ∧ (∃ waits, { s.chain with waits := waits }.reported (s.linkReport p).chain) ∧
    (s.assigned = true → p < 2 → (s.linkReport p).knownFault (s.farUnit p).1 1 = true) ∧
    (s.assigned = true → 2 ≤ p → (s.linkReport p).chain.waits = s.chain.waits ++ [s.report (s.farUnit p).1 2 p]) := by
  have frame := s.farUnit_frame p
  have whole : s.assigned = true → (s.farUnit p).2 = s := fun h => congrArg Prod.snd (s.farUnit_assigned h p)
  unfold State.linkReport
  generalize s.farUnit p = f at *
  have chain : f.2.chain = s.chain := frame.same .chain (by decide)
  have hl : f.2.hl = s.hl := frame.same .hl (by decide)
  split
  · next near =>
    obtain ⟨ls, latched⟩ := State.originate_hl f.2 (f.2.report f.1 1 p)
    refine ⟨(frame.mono (by decide)).trans (by simp), ⟨ls, by rw [latched, hl]⟩, ⟨f.2.chain.waits, ?_⟩, fun _ _ => State.originate_known _ _, fun _ h => absurd near (by omega)⟩
    rw [← chain]
    exact (State.originate_reported _ _ :)
  · next fr =>
    refine ⟨(frame.mono (by decide)).trans (by rfl), ⟨[], by simp [State.waitReport, State.setChain, hl]⟩, ⟨f.2.chain.waits ++ [f.2.report f.1 2 p], f.2.chain.roster, f.2.chain.recs,
      f.2.chain.ftab, f.2.chain.sent, f.2.chain.seqs, ?_⟩, fun _ h => absurd h fr, fun h _ => ?_⟩
    · rw [← chain]
      rfl
    · rw [whole h]
      rfl

theorem upPort_even {s : State} {p : Nat} (h : s.upPort = some p) : p = 0 ∨ p = 2 := by
  obtain e | e | e := upPort_cases s <;> rw [e] at h <;> simp_all

theorem dnPort_odd {s : State} {p : Nat} (h : s.dnPort = some p) : p = 1 ∨ p = 3 := by
  obtain e | e | e := dnPort_cases s <;> rw [e] at h <;> simp_all

theorem dnPort_ne_upPort {s : State} {p : Nat} (h : s.upPort = some p) : s.dnPort ≠ some p := fun k => by
  have := upPort_even h
  have := dnPort_odd k
  omega

/-- The port is no longer the active one of its direction. -/
theorem State.linkDown_active {s : State} {p : Nat} (h : s.link p = true) : ∃ q, q ≠ p ∧ ((s.linkLost p).linkReport p).bypasses (s.linkDown p) q ∧
    (s.linkDown p).upPort ≠ some p ∧ (s.linkDown p).dnPort ≠ some p := by
  rw [State.linkDown_eq h]
  generalize (s.linkLost p).linkReport p = u
  split
  · next up =>
    obtain ⟨q, ne, only, gone, other⟩ := u.loseActive_shows (up := true) up
    refine ⟨q, ne, only, gone, ?_⟩
    rw [show (u.loseActive true).dnPort = u.dnPort from other]
    exact dnPort_ne_upPort up
  · next up =>
    split
    · next dn =>
      obtain ⟨q, ne, only, gone, other⟩ := u.loseActive_shows (up := false) dn
      refine ⟨q, ne, only, ?_, gone⟩
      rw [show (u.loseActive false).upPort = u.upPort from other]
      exact up
    · next dn => exact ⟨p + 1, by omega, u.bypasses_refl _, up, dn⟩

theorem State.zaddr_congr {s t : State} (h : t.reg (ZV 0 0x800) = s.reg (ZV 0 0x800)) : t.zaddr = s.zaddr := State.fld_congr h 0 12
theorem State.assigned_congr {s t : State} (h : t.reg (ZV 0 0x800) = s.reg (ZV 0 0x800)) : t.assigned = s.assigned := State.bit_congr h 24

theorem State.farUnit_congr {s t : State} (h : t.reg (ZV 0 0x800) = s.reg (ZV 0 0x800)) (a : s.assigned = true) (p : Nat) : (t.farUnit p).1 = (s.farUnit p).1 := by
  rw [State.farUnit_assigned a, State.farUnit_assigned ((State.assigned_congr h).trans a), State.zaddr_congr h]

theorem State.report_congr {s t : State} (h : t.reg (ZV 0 0x800) = s.reg (ZV 0 0x800)) (tick : t.tick = s.tick) (o c d : Nat) : t.report o c d = s.report o c d := by
  unfold State.report State.frameNo
  rw [State.zaddr_congr h, tick]

/-- The chain's marks and reports after LINK_DOWN. -/
theorem State.linkDown_chain {s : State} {p : Nat} (h : s.link p = true) :
    (∀ x ∈ (s.linkDown p).chain.meas, x.1 ≠ p) ∧ p ∉ (s.linkDown p).chain.measured ∧ p ∉ (s.linkDown p).chain.heard ∧ p ∉ (s.linkDown p).chain.calib ∧
    (s.assigned = true → p < 2 → (s.linkDown p).knownFault (s.farUnit p).1 1 = true) ∧
    (s.assigned = true → 2 ≤ p → (s.linkDown p).chain.waits = s.chain.waits ++ [s.report (s.farUnit p).1 2 p]) := by
  obtain ⟨q, ne, only, _, _⟩ := State.linkDown_active h
  obtain ⟨sent, seqs, meas, chain, keeps⟩ := only.chain
  obtain ⟨frame, _, ⟨waits, roster, recs, ftab, sent', seqs', chain'⟩, near, far⟩ := (s.linkLost p).linkReport_shows p
  have time : (s.linkDown p).timePs = ((s.linkLost p).linkReport p).timePs := only.frame.same .timePs (by decide)
  have known := State.knownFault_congr (congrArg Chain.ftab chain :) time
  have unit : (s.linkLost p).reg (ZV 0 0x800) = s.reg (ZV 0 0x800) :=
    (s.linkLost_regs p).2.2.2 _ (by unfold ZV; omega) (by unfold ZV; omega) (by unfold ZV; omega)
  have assigned := State.assigned_congr unit
  have tick : (s.linkLost p).tick = s.tick := (s.linkLost_frame p).same .tick (by decide)
  have lost := s.linkLost_chain p
  have marks : (s.linkDown p).chain.measured = s.chain.measured.filter (· ≠ p) ∧ (s.linkDown p).chain.heard = s.chain.heard.filter (· ≠ p) ∧
      (s.linkDown p).chain.calib = s.chain.calib.filter (· ≠ p) := by
    rw [chain, chain', lost]
    exact ⟨rfl, rfl, rfl⟩
  have before : ((s.linkLost p).linkReport p).chain.meas = s.chain.meas.filter (fun x => x.1 ≠ p) := by rw [chain', lost]
  have waiting : (s.linkDown p).chain.waits = ((s.linkLost p).linkReport p).chain.waits := (congrArg Chain.waits chain :)
  have measuring : (s.linkDown p).chain.meas = meas := (congrArg Chain.meas chain :)
  have held : (s.linkLost p).chain.waits = s.chain.waits := (congrArg Chain.waits lost :)
  rw [measuring, marks.1, marks.2.1, marks.2.2, waiting]
  refine ⟨fun x hx => ?_, by simp, by simp, by simp, fun a hp => ?_, fun a hp => ?_⟩
  · obtain hx | hx := keeps x hx
    · rw [before] at hx
      simpa using (List.mem_filter.mp hx).2
    · rw [hx]
      exact ne
  · rw [known, ← State.farUnit_congr unit a]
    exact near (assigned.trans a) hp
  · rw [far (assigned.trans a) hp, held, State.farUnit_congr unit a, State.report_congr unit tick]

/-- The port and its counters after LINK_DOWN. -/
theorem State.linkDown_shows {s : State} {p : Nat} (h : s.link p = true) : (s.linkDown p).link p = false ∧ (s.linkDown p).bit (ZV p 4) 8 = true ∧
    (s.linkDown p).reg (ZV p 0x28) = min (s.reg (ZV p 0x28) + 1) (2 ^ 32 - 1) ∧
    (∃ l ∈ (s.linkDown p).hl.latches, l.code = 6 ∧ l.src = p + 1) ∧ s.changes [.csr, .tick, .chain, .hl, .clk, .free] (s.linkDown p) := by
  obtain ⟨q, _, only, _, _⟩ := State.linkDown_active h
  obtain ⟨frame, ⟨ls, latched⟩, _⟩ := (s.linkLost p).linkReport_shows p
  obtain ⟨down, seen, counted, _⟩ := s.linkLost_regs p
  obtain ⟨l, hl, code, src⟩ := s.linkLost_latched p
  have regs := State.reg_congr (frame.same .csr (by decide))
  refine ⟨(only.ports p 0 (by decide) (by decide)).trans ((State.bit_congr (regs _) 0).trans down),
    (only.ports p 8 (by decide) (by decide)).trans ((State.bit_congr (regs _) 8).trans seen),
    (only.regs _ (by simp [activeRegs, ZV, CK]; omega) (by unfold ZV; omega)).trans ((regs _).trans counted), ?_,
    ((s.linkLost_frame p).mono (by decide)).trans ((frame.mono (by decide)).trans only.frame)⟩
  obtain ⟨k, hk, c, sr⟩ := only.latches l (by rw [latched]; exact List.mem_append_left _ hl)
  exact ⟨k, hk, c.trans code, sr.trans src⟩

end Sys2Proof.Machine
end

section
/-! Calibrations, links that come up, returns to the near port (spec/10 R309 to R311, R322, R325, R379). -/
namespace Sys2Proof.Machine

/-! ## The end of a calibration (R311, R321) -/

theorem State.tc_congr {s t : State} (clk : t.clk = s.clk) (regs : ∀ k, k < 0x1000 → t.reg (CK k) = s.reg (CK k)) : t.tc = s.tc := by
  have gck : t.gckOf 0 = s.gckOf 0 := by rw [State.gckOf, State.gckOf, clk]
  have flds (k lo w : Nat) (h : k < 0x1000) : t.fld (CK k) lo w = s.fld (CK k) lo w := State.fld_congr (regs k h) lo w
  have src (c : Nat) : t.srcHz c = s.srcHz c := by
    have xt := regs 8 (by decide)
    unfold State.srcHz
    split
    · rfl
    · rw [xt]
    · rw [xt]
    · rfl
    · split
      · next h =>
        have shift (k : Nat) : CK k + 4 = CK (k + 4) := by simp [CK, Nat.add_assoc]
        have pll : t.spllRefHz (c - 8) = s.spllRefHz (c - 8) := by
          unfold State.spllRefHz
          rw [flds (0x40 + 0x10 * (c - 8)) 1 2 (by omega), xt]
        extract_lets a
        simp only [a, shift, pll, flds (0x40 + 0x10 * (c - 8)) _ _ (by omega), flds (0x40 + 0x10 * (c - 8) + 4) _ _ (by omega)]
      · rfl
  simp only [State.tc, State.periodOf, gck, src]

/-- Of the chain's state a calibration touches what is sent, the sides, the reports and the records only. -/
def Chain.calibrates (c d : Chain) : Prop := ∃ sides roster recs ftab sent seqs,
  d = { c with sides := sides, roster := roster, recs := recs, ftab := ftab, sent := sent, seqs := seqs }

theorem Chain.calibrates_refl (c : Chain) : c.calibrates c := ⟨_, _, _, _, _, _, rfl⟩

theorem Chain.calibrates.trans {c d e : Chain} (h : c.calibrates d) (k : d.calibrates e) : c.calibrates e := by
  obtain ⟨_, _, _, _, _, _, rfl⟩ := h
  obtain ⟨_, _, _, _, _, _, rfl⟩ := k
  exact ⟨_, _, _, _, _, _, rfl⟩

theorem Chain.calibrates.marks {c d : Chain} (h : c.calibrates d) : d.meas = c.meas ∧ d.measured = c.measured ∧ d.calib = c.calib ∧
    d.heard = c.heard ∧ d.slow = c.slow := by
  obtain ⟨_, _, _, _, _, _, rfl⟩ := h
  exact ⟨rfl, rfl, rfl, rfl, rfl⟩

theorem Chain.reported.calibrates {c d : Chain} (h : c.reported d) : c.calibrates d := by
  obtain ⟨_, _, _, _, _, rfl⟩ := h
  exact ⟨_, _, _, _, _, _, rfl⟩

theorem State.transmits.calibrates {s t : State} (h : s.transmits t) : s.chain.calibrates t.chain := by
  obtain ⟨_, _, rfl⟩ := h
  exact ⟨_, _, _, _, _, _, rfl⟩

/-- L_REQ of one side, and EXCH_L at most. -/
def State.writeSideLReq (k : Nat) (t : State) : State :=
  if !t.xEn k then t
  else
    let l := t.lReq k
    let t := t.setFld (ZV k 0x44) 0 11 l
    if t.xL k < l ∧ !(t.side k).lPosted then
      (t.setSide k { t.side k with lPosted := true }).fault 0x010F (packLE [(k, 1), (0, 1), (t.xL k, 2), (l, 2)])
    else t

theorem State.writeSideLReq_shows (k : Nat) (t : State) : t.changes [.csr, .chain, .hl] (State.writeSideLReq k t) ∧
    t.chain.calibrates (State.writeSideLReq k t).chain ∧ ∀ a, a ≠ ZV k 0x44 → (State.writeSideLReq k t).reg a = t.reg a := by
  unfold State.writeSideLReq
  split
  · exact ⟨t.changes_refl _, Chain.calibrates_refl _, fun _ _ => rfl⟩
  · extract_lets l u
    have hu : t.changes [.csr, .chain, .hl] u := by simp [u]
    have chain : u.chain = t.chain := rfl
    have regs : ∀ a, a ≠ ZV k 0x44 → u.reg a = t.reg a := fun a h => t.reg_setFld_ne _ _ _ _ _ h
    clear_value u
    split
    · refine ⟨by simp [hu], ?_, regs⟩
      rw [← chain]
      exact ⟨_, _, _, _, _, _, rfl⟩
    · exact ⟨hu, chain ▸ Chain.calibrates_refl _, regs⟩

theorem State.writeLReq_shows (s : State) : s.changes [.csr, .chain, .hl] s.writeLReq ∧ s.chain.calibrates s.writeLReq.chain ∧
    ∀ a, (∀ k, k < 2 → a ≠ ZV k 0x44) → s.writeLReq.reg a = s.reg a := by
  have whole : s.writeLReq = forAll 2 State.writeSideLReq s := rfl
  rw [whole]
  exact ⟨forAll_keeps (P := fun t => s.changes [.csr, .chain, .hl] t) (fun k t h => h.trans (State.writeSideLReq_shows k t).1) 2 (s.changes_refl _),
    forAll_keeps (P := fun t => s.chain.calibrates t.chain) (fun k t h => h.trans (State.writeSideLReq_shows k t).2.1) 2 (Chain.calibrates_refl _),
    fun a h => forAll_leaves_below (fun t => t.reg a) 2 (fun k t hk => (State.writeSideLReq_shows k t).2.2 a (h k hk)) s⟩

/-- The end of a calibration whose E is within its bound, and of one whose E is not (R311). -/
def State.calGood (s : State) : State :=
  { (s.writeOfs (s.reg (ZV 0 0x814))).alignDone with hl := { (s.writeOfs (s.reg (ZV 0 0x814))).alignDone.hl with
    calOfs := (s.writeOfs (s.reg (ZV 0 0x814))).ofs, calAdj := (s.writeOfs (s.reg (ZV 0 0x814))).fld (CK 0x820) 0 16, calDone := true } }

def State.calBad (s : State) (e : Nat) : State := ((s.setBit (CK 0x80C) 2 false).fault 0x010C e).selfReport 8 0x010C

/-- The unit with the delays of port `p`, told downstream, and L_REQ written. -/
def State.delayed (s : State) (p : Nat) : State := ((s.takeDelay p).caldAfter s).writeLReq

theorem State.calibrate_eq (s : State) (p : Nat) : s.calibrate p =
    if (s.delayed p).reg (ZV 0 0x818) * 15625 * 2 * (s.delayed p).tc.2 ≤ (s.delayed p).tc.1 * 100000 then (s.delayed p).calGood
    else (s.delayed p).calBad ((s.delayed p).reg (ZV 0 0x818)) := by
  unfold State.calibrate State.delayed
  generalize ((s.takeDelay p).caldAfter s).writeLReq = t
  by_cases h : t.reg (ZV 0 0x818) * 15625 * 2 * t.tc.2 ≤ t.tc.1 * 100000
  · rw [if_pos h]
    exact (if_pos h).symm
  · rw [if_neg h]
    exact (if_neg h).symm

theorem State.delayed_shows (s : State) (p : Nat) : s.changes [.csr, .chain, .hl] (s.delayed p) ∧ s.chain.calibrates (s.delayed p).chain ∧
    (s.delayed p).reg (ZV 0 0x814) = s.portD p ∧ (s.delayed p).reg (ZV 0 0x818) = s.portE p % 2 ^ 32 ∧
    ∀ a, a ∉ [ZV 0 0x814, ZV 0 0x818, ZV 0 0x44, ZV 1 0x44] → (s.delayed p).reg a = s.reg a := by
  have d : (s.takeDelay p).reg (ZV 0 0x814) = s.portD p := by
    unfold State.takeDelay
    rw [State.reg_setReg_ne _ _ _ _ (by decide), State.reg_setReg_same, State.portD, Nat.mod_mod]
  have e : (s.takeDelay p).reg (ZV 0 0x818) = s.portE p % 2 ^ 32 := by
    unfold State.takeDelay
    rw [State.reg_setReg_same]
  have regs : ∀ a, a ≠ ZV 0 0x814 → a ≠ ZV 0 0x818 → (s.takeDelay p).reg a = s.reg a := fun a h h' =>
    (State.reg_setReg_ne _ _ _ _ h').trans (State.reg_setReg_ne _ _ _ _ h)
  have frame : s.changes [.csr, .chain, .hl] (s.takeDelay p) := by simp [State.takeDelay]
  have chain : (s.takeDelay p).chain = s.chain := rfl
  unfold State.delayed
  generalize s.takeDelay p = t at *
  have told := t.transmits_caldAfter s
  generalize t.caldAfter s = u at *
  obtain ⟨f, c, r⟩ := u.writeLReq_shows
  have away : ∀ a, a ∉ [ZV 0 0x44, ZV 1 0x44] → u.writeLReq.reg a = t.reg a := by
    intro a ha
    simp only [List.mem_cons, List.not_mem_nil, or_false, not_or] at ha
    exact (r a (fun k hk => by
      obtain rfl | rfl : k = 0 ∨ k = 1 := by omega
      · exact ha.1
      · exact ha.2)).trans (told.reg a)
  refine ⟨frame.trans ((told.frame.mono (by decide)).trans f), ?_, (away _ (by decide)).trans d, (away _ (by decide)).trans e, fun a ha => ?_⟩
  · rw [← chain]
    exact told.calibrates.trans c
  · simp only [List.mem_cons, List.not_mem_nil, or_false, not_or] at ha
    exact (away a (by simp [ha])).trans (regs a ha.1 ha.2.1)

theorem State.calGood_shows (s : State) : s.changes [.csr, .hl] s.calGood ∧ s.calGood.fld (CK 0x808) 0 12 = (s.P - s.dCycles (s.reg (ZV 0 0x814)) % s.P) % s.P % 4096 ∧
    s.calGood.fld (CK 0x820) 0 16 = (s.dCycles (s.reg (ZV 0 0x814)) + (s.P - s.dCycles (s.reg (ZV 0 0x814)) % s.P) % s.P) / s.P % 65536 ∧
    (s.src = 2 → s.calGood.bit (CK 0x80C) 2 = true) ∧ ∀ a, a ∉ [CK 0x808, CK 0x820, CK 0x80C] → s.calGood.reg a = s.reg a := by
  have ofs : (s.writeOfs (s.reg (ZV 0 0x814))).fld (CK 0x808) 0 12 = (s.P - s.dCycles (s.reg (ZV 0 0x814)) % s.P) % s.P % 4096 :=
    (State.fld_setFld_ne _ _ _ _ _ _ (by decide)).trans (State.fld_setFld_same _ _ _ (by decide))
  have adj : (s.writeOfs (s.reg (ZV 0 0x814))).fld (CK 0x820) 0 16 =
      (s.dCycles (s.reg (ZV 0 0x814)) + (s.P - s.dCycles (s.reg (ZV 0 0x814)) % s.P) % s.P) / s.P % 65536 := State.fld_setFld_same _ _ _ (by decide)
  have regs : ∀ a, a ≠ CK 0x808 → a ≠ CK 0x820 → (s.writeOfs (s.reg (ZV 0 0x814))).reg a = s.reg a := fun a h h' =>
    (State.reg_setFld_ne _ _ _ _ _ _ h').trans (State.reg_setFld_ne _ _ _ _ _ _ h)
  have frame : s.changes [.csr, .hl] (s.writeOfs (s.reg (ZV 0 0x814))) := by simp [State.writeOfs]
  unfold State.calGood
  generalize s.writeOfs (s.reg (ZV 0 0x814)) = t at *
  have al : ∀ a, a ≠ CK 0x80C → t.alignDone.reg a = t.reg a := fun a h => by
    unfold State.alignDone
    split
    · exact t.reg_setBit_ne _ _ _ _ h
    · rfl
  refine ⟨frame.trans ?_, (State.fld_congr (al _ (by decide)) 0 12).trans ofs, (State.fld_congr (al _ (by decide)) 0 16).trans adj, fun h => ?_, fun a ha => ?_⟩
  · have : t.changes [.csr, .hl] t.alignDone := by
      unfold State.alignDone
      split <;> simp
    exact this.trans (by rfl)
  · have src : t.src = 2 := (State.fld_congr (regs _ (by decide) (by decide)) 0 2).trans h
    have : t.alignDone = t.setBit (CK 0x80C) 2 true := if_pos src
    show t.alignDone.bit (CK 0x80C) 2 = true
    rw [this]
    exact t.bit_setBit_same _ _ (by decide)
  · simp only [List.mem_cons, List.not_mem_nil, or_false, not_or] at ha
    exact (al a ha.2.2).trans (regs a ha.1 ha.2.1)

theorem State.calBad_shows (s : State) (e : Nat) : s.changes [.csr, .chain, .hl] (s.calBad e) ∧ s.chain.calibrates (s.calBad e).chain ∧
    (s.calBad e).bit (CK 0x80C) 2 = false ∧ ∀ a, a ≠ CK 0x80C → (s.calBad e).reg a = s.reg a := by
  unfold State.calBad
  have off : (s.setBit (CK 0x80C) 2 false).bit (CK 0x80C) 2 = false := s.bit_setBit_same _ _ (by decide)
  have regs : ∀ a, a ≠ CK 0x80C → (s.setBit (CK 0x80C) 2 false).reg a = s.reg a := fun a h => s.reg_setBit_ne _ _ _ _ h
  have frame : s.changes [.csr, .chain, .hl] ((s.setBit (CK 0x80C) 2 false).fault 0x010C e) := by simp
  have chain : ((s.setBit (CK 0x80C) 2 false).fault 0x010C e).chain = s.chain := rfl
  have csr : ((s.setBit (CK 0x80C) 2 false).fault 0x010C e).csr = (s.setBit (CK 0x80C) 2 false).csr := rfl
  generalize (s.setBit (CK 0x80C) 2 false).fault 0x010C e = t at *
  have report : t.changes [.chain, .hl] (t.selfReport 8 0x010C) := by simp
  have same := State.reg_congr (report.same .csr (by decide))
  refine ⟨frame.trans (report.mono (by decide)), ?_, (State.bit_congr ((same _).trans (State.reg_congr csr _)) 2).trans off,
    fun a h => (same a).trans ((State.reg_congr csr a).trans (regs a h))⟩
  rw [← chain]
  exact (State.originate_reported t _).calibrates

/-- A calibration on UP port `p` (R311). -/
theorem State.calibrate_shows (s : State) (p : Nat) : s.changes [.csr, .chain, .hl] (s.calibrate p) ∧ s.chain.calibrates (s.calibrate p).chain ∧
    s.calibrated (s.calibrate p) p ∧ ∀ a, a ∉ [ZV 0 0x814, ZV 0 0x818, ZV 0 0x44, ZV 1 0x44, CK 0x808, CK 0x820, CK 0x80C] → (s.calibrate p).reg a = s.reg a := by
  obtain ⟨frame, chain, d, e, regs⟩ := s.delayed_shows p
  have ck : ∀ k, k < 0x1000 → (s.delayed p).reg (CK k) = s.reg (CK k) := fun k h => regs _ (by simp [ZV, CK]; omega)
  have tc := State.tc_congr (frame.same .clk (by decide)) ck
  have P : (s.delayed p).P = s.P := State.fld_congr (ck _ (by decide)) 0 13
  have src : (s.delayed p).src = s.src := State.fld_congr (ck _ (by decide)) 0 2
  rw [s.calibrate_eq]
  generalize s.delayed p = t at *
  have cycles : t.dCycles = s.dCycles := funext fun x => by simp only [State.dCycles, tc]
  have names : s.portD p = (s.reg (ZV p 0xC) + s.reg (ZV p 8)) % 2 ^ 32 ∧ s.portE p = s.reg (ZV p 0x10) + 1 + s.fld (ZV p 0x14) 16 16 := ⟨rfl, rfl⟩
  split
  · next within =>
    obtain ⟨f, ofs, adj, al, r⟩ := t.calGood_shows
    generalize t.calGood = u at *
    have all : ∀ a, a ∉ [ZV 0 0x814, ZV 0 0x818, ZV 0 0x44, ZV 1 0x44, CK 0x808, CK 0x820, CK 0x80C] → u.reg a = s.reg a := fun a h => by
      simp only [List.mem_cons, List.not_mem_nil, or_false, not_or] at h
      exact (r a (by simp [h])).trans (regs a (by simp [h]))
    have c : u.chain = t.chain := f.same .chain (by decide)
    refine ⟨frame.trans (f.mono (by decide)), c ▸ chain, ?_, all⟩
    unfold State.calibrated
    rw [all (ZV p 0xC) (by simp [ZV, CK]; omega), all (ZV p 8) (by simp [ZV, CK]; omega), all (ZV p 0x10) (by simp [ZV, CK]; omega),
      State.fld_congr (all (ZV p 0x14) (by simp [ZV, CK]; omega)), ← names.1, ← names.2, ← e, ← d, ← cycles, ← P, ← tc, ← src]
    exact ⟨r _ (by decide), r _ (by decide), fun _ => ⟨ofs, adj, al⟩, fun h => absurd within (Nat.not_le.mpr h)⟩
  · next beyond =>
    obtain ⟨f, c, off, r⟩ := t.calBad_shows (t.reg (ZV 0 0x818))
    generalize t.calBad (t.reg (ZV 0 0x818)) = u at *
    have all : ∀ a, a ∉ [ZV 0 0x814, ZV 0 0x818, ZV 0 0x44, ZV 1 0x44, CK 0x808, CK 0x820, CK 0x80C] → u.reg a = s.reg a := fun a h => by
      simp only [List.mem_cons, List.not_mem_nil, or_false, not_or] at h
      exact (r a (by simp [h])).trans (regs a (by simp [h]))
    refine ⟨frame.trans f, chain.trans c, ?_, all⟩
    unfold State.calibrated
    rw [all (ZV p 0xC) (by simp [ZV, CK]; omega), all (ZV p 8) (by simp [ZV, CK]; omega), all (ZV p 0x10) (by simp [ZV, CK]; omega),
      State.fld_congr (all (ZV p 0x14) (by simp [ZV, CK]; omega)), ← names.1, ← names.2, ← e, ← d, ← cycles, ← P, ← tc, ← src]
    exact ⟨r _ (by decide), r _ (by decide), fun h => absurd h beyond, fun _ => off⟩

theorem State.calibrated_congr {s u t : State} {p : Nat} (clk : u.clk = s.clk) (regs : ∀ k, k < 0x1000 → u.reg (CK k) = s.reg (CK k)) (h : u.calibrated t p) :
    s.calibrated t p := by
  have tc := State.tc_congr clk regs
  have P : u.P = s.P := State.fld_congr (regs _ (by decide)) 0 13
  have src : u.src = s.src := State.fld_congr (regs _ (by decide)) 0 2
  have cycles : u.dCycles = s.dCycles := funext fun x => by simp only [State.dCycles, tc]
  unfold State.calibrated at h ⊢
  rwa [cycles, P, tc, src] at h

/-! ## CAL_COMPLETE (R309, R338) -/

/-- The hop delay of `n` round trips: the average to the nearest 1/256 UI, with ASYM (R309). -/
theorem State.hop_shows (s : State) {n : Nat} (sum asym : Nat) (pos : 0 < n) : s.changes [.free] (s.hop n sum asym).2 ∧ ∃ avg : Int,
    2 * (n : Int) * avg ≤ (sum : Int) - 102400 * n + n ∧ (sum : Int) - 102400 * n ≤ 2 * n * avg + n ∧
    (s.hop n sum asym).1 = unsigned (avg + signed asym 16) 32 := by
  unfold State.hop
  extract_lets num den q r
  have split : den * q + r = num := Int.mul_ediv_add_emod num den
  have hden : den = 2 * n := rfl
  have hnum : num = (sum : Int) - 102400 * n := rfl
  have least : 0 ≤ r := Int.emod_nonneg _ (by omega)
  have most : r < den := Int.emod_lt_of_pos _ (by omega)
  clear_value q r den num
  have down : 2 * (n : Int) * q = num - r := by rw [← hden]; omega
  have up : 2 * (n : Int) * (q + 1) = num - r + 2 * n := by rw [Int.mul_add, down, Int.mul_one]
  by_cases h1 : 2 * r < den
  · simp only [h1, if_true]
    exact ⟨s.changes_refl _, q, by omega, by omega, rfl⟩
  · simp only [h1, if_false]
    by_cases h2 : den < 2 * r
    · simp only [h2, if_true]
      exact ⟨s.changes_refl _, q + 1, by omega, by omega, rfl⟩
    · simp only [h2, if_false]
      refine ⟨by rfl, ?_⟩
      by_cases h3 : s.draw.1 % 2 = 1
      · exact ⟨q + 1, by omega, by omega, by simp [h3]⟩
      · exact ⟨q, by omega, by omega, by simp [h3]⟩

/-- The hop delay of port `p` is known, and its measurement over. -/
def State.hopStored (s : State) (p n sum : Nat) : State :=
  let h := s.hop n sum (s.fld (ZV p 0x14) 0 16)
  let u := h.2.setReg (ZV p 8) h.1
  u.setChain { u.chain with
    meas := u.chain.meas.filter (fun x => x.1 ≠ p)
    measured := if u.chain.measured.contains p then u.chain.measured else u.chain.measured ++ [p]
    calib := if u.chain.calib.contains p then u.chain.calib else u.chain.calib ++ [p] }

theorem State.calComplete_full {s : State} {p n sum : Nat} (found : s.chain.meas.find? (fun x => x.1 = p) = some (p, n, sum)) (h : ¬n < 256) : s.calComplete p =
    if (((s.hopStored p n sum).hopKnown p).upPort = some p && ((s.hopStored p n sum).hopKnown p).chain.heard.contains p) = true then
      ((s.hopStored p n sum).hopKnown p).calibrate p else (s.hopStored p n sum).hopKnown p := by
  unfold State.calComplete
  rw [found]
  exact if_neg h

theorem State.hopStored_shows (s : State) (p sum : Nat) {n : Nat} (pos : 0 < n) : s.changes [.csr, .free, .chain] (s.hopStored p n sum) ∧
    (s.hopStored p n sum).chain = { s.chain with
      meas := s.chain.meas.filter (fun x => x.1 ≠ p)
      measured := if s.chain.measured.contains p then s.chain.measured else s.chain.measured ++ [p]
      calib := if s.chain.calib.contains p then s.chain.calib else s.chain.calib ++ [p] } ∧
    (∃ avg : Int, 2 * (n : Int) * avg ≤ (sum : Int) - 102400 * n + n ∧ (sum : Int) - 102400 * n ≤ 2 * n * avg + n ∧
      (s.hopStored p n sum).reg (ZV p 8) = unsigned (avg + signed (s.fld (ZV p 0x14) 0 16) 16) 32) ∧
    ∀ a, a ≠ ZV p 8 → (s.hopStored p n sum).reg a = s.reg a := by
  obtain ⟨frame, avg, lo, hi, value⟩ := s.hop_shows sum (s.fld (ZV p 0x14) 0 16) pos
  have chain : (s.hop n sum (s.fld (ZV p 0x14) 0 16)).2.chain = s.chain := frame.same .chain (by decide)
  have regs := State.reg_congr (frame.same .csr (by decide))
  unfold State.hopStored
  generalize s.hop n sum (s.fld (ZV p 0x14) 0 16) = h at *
  refine ⟨(frame.mono (by decide)).trans (by simp), ?_, ⟨avg, lo, hi, ?_⟩, fun a ha => (State.reg_setReg_ne _ _ _ _ ha).trans (regs a)⟩
  · rw [← chain]
    rfl
  · refine (State.reg_setReg_same h.2 (ZV p 8) h.1).trans ?_
    rw [value]
    exact Nat.mod_eq_of_lt (by unfold unsigned; omega)

theorem State.activate_eq (s : State) (p : Nat) : s.activate p = s ∨ s.activate p = s.setActive (p % 2 = 0) (p / 2) := by
  unfold State.activate
  extract_lets up cur
  split
  · exact .inl rfl
  · split
    · exact .inl rfl
    · exact .inr rfl

/-- With an active port of its direction a port does not become active. -/
theorem State.activate_stays {s : State} {p : Nat} (h : (s.activePort (p % 2 = 0)).isSome = true) : s.activate p = s := by
  have cur : (if p % 2 = 0 then s.upPort else s.dnPort).isSome = true := by simpa [State.activePort] using h
  unfold State.activate
  exact if_pos (by simp [cur])

/-- The near port of a direction in which none is active becomes active (log 34). -/
theorem State.activate_near {s : State} {p : Nat} (near : p < 2) (free : s.activePort (p % 2 = 0) = none) (head : p = 0 → s.isHead = false) (up : s.portUp p = true)
    (rate : s.low p = false) (known : p ∉ s.chain.slow) : s.activate p = s.setActive (p % 2 = 0) (p / 2) := by
  have cur : (if p % 2 = 0 then s.upPort else s.dnPort) = none := by simpa [State.activePort] using free
  have notHead : (decide (p % 2 = 0) && s.isHead) = false := by
    by_cases e : p = 0
    · simp [head e]
    · simp; omega
  unfold State.activate
  refine (if_neg ?_).trans (if_neg (by simp; omega))
  simp [cur, notHead, up, rate, known]

theorem State.bypasses_activate (s : State) (p q : Nat) : s.bypasses (s.activate p) q ∧ s.changes [.csr, .tick] (s.activate p) := by
  obtain e | e := s.activate_eq p
  · rw [e]
    exact ⟨s.bypasses_refl q, s.changes_refl _⟩
  · rw [e]
    exact ⟨s.bypasses_setActive q _ _, by simp⟩

theorem State.hopKnown_shows (s : State) (p : Nat) : s.changes [.csr, .tick, .chain] (s.hopKnown p) ∧
    (s.hopKnown p).chain = { s.chain with slow := s.chain.slow.filter (· ≠ p) } ∧
    (∀ a, a ∉ activeRegs → (∀ p, a ≠ ZV p 4) → (s.hopKnown p).reg a = s.reg a) ∧
    ((s.activePort (p % 2 = 0)).isSome = true ∨ s.mode ≠ 0 → ∀ a, (s.hopKnown p).reg a = s.reg a) := by
  unfold State.hopKnown
  have frame : s.changes [.csr, .tick, .chain] (s.setChain { s.chain with slow := s.chain.slow.filter (· ≠ p) }) := by simp
  have chain : (s.setChain { s.chain with slow := s.chain.slow.filter (· ≠ p) }).chain = { s.chain with slow := s.chain.slow.filter (· ≠ p) } := rfl
  have csr : (s.setChain { s.chain with slow := s.chain.slow.filter (· ≠ p) }).csr = s.csr := rfl
  generalize s.setChain { s.chain with slow := s.chain.slow.filter (· ≠ p) } = t at *
  have regs := State.reg_congr csr
  have mode : t.mode = s.mode := State.fld_congr (regs _) 0 2
  have active : t.activePort (p % 2 = 0) = s.activePort (p % 2 = 0) := by
    unfold State.activePort
    rw [State.upPort_congr (State.fld_congr (regs _) 0 2), State.dnPort_congr (State.fld_congr (regs _) 2 2)]
  obtain ⟨only, moves⟩ := t.bypasses_activate p p
  by_cases run : t.mode = 0
  · simp only [run, if_true]
    refine ⟨frame.trans (moves.mono (by decide)), (moves.same .chain (by decide)).trans chain, fun a h h' => (only.regs a h h').trans (regs a), fun h a => ?_⟩
    obtain h | h := h
    · rw [State.activate_stays (by rw [active]; exact h)]
      exact regs a
    · exact absurd (mode.symm.trans run) h
  · simp only [run, if_false]
    exact ⟨frame, chain, fun a _ _ => regs a, fun _ a => regs a⟩

theorem mem_put {p : Nat} {l m : List Nat} (h : m = if l.contains p then l else l ++ [p]) : p ∈ m := by
  rw [h]
  split
  · next h => simpa using h
  · simp

/-- A measurement that has its 256 answers ends (R309, R311). -/
theorem State.calComplete_shows {s : State} {p n sum : Nat} {rest : List (Nat × Nat × Nat)} (meas : s.chain.meas = (p, n, sum) :: rest) (full : ¬n < 256) :
    s.changes [.csr, .free, .chain, .tick, .hl] (s.calComplete p) ∧
    (p ∈ (s.calComplete p).chain.measured ∧ p ∈ (s.calComplete p).chain.calib ∧ p ∉ (s.calComplete p).chain.slow ∧
      ∀ x ∈ (s.calComplete p).chain.meas, x.1 ≠ p) ∧
    (∃ avg : Int, 2 * (n : Int) * avg ≤ (sum : Int) - 102400 * n + n ∧ (sum : Int) - 102400 * n ≤ 2 * n * avg + n ∧
      (s.calComplete p).reg (ZV p 8) = unsigned (avg + signed (s.fld (ZV p 0x14) 0 16) 16) 32) ∧
    ((s.activePort (p % 2 = 0)).isSome = true →
      (s.chain.heard.contains p = false ∨ s.upPort ≠ some p → ∀ a, a ≠ ZV p 8 → (s.calComplete p).reg a = s.reg a) ∧
      (s.chain.heard.contains p = true → s.upPort = some p → s.calibrated (s.calComplete p) p)) := by
  have found : s.chain.meas.find? (fun x => x.1 = p) = some (p, n, sum) := by simp [meas]
  obtain ⟨frame, chain, ⟨avg, lo, hi, value⟩, regs⟩ := s.hopStored_shows p sum (by omega : 0 < n)
  rw [State.calComplete_full found full]
  generalize s.hopStored p n sum = t at *
  obtain ⟨kFrame, kChain, kRegs, kStays⟩ := t.hopKnown_shows p
  have active : t.activePort (p % 2 = 0) = s.activePort (p % 2 = 0) := by
    have bypass : t.reg (ZV 0 0x820) = s.reg (ZV 0 0x820) := regs _ (by unfold ZV; omega)
    unfold State.activePort
    rw [State.upPort_congr (State.fld_congr bypass 0 2), State.dnPort_congr (State.fld_congr bypass 2 2)]
  have away : (t.hopKnown p).reg (ZV p 8) = t.reg (ZV p 8) := kRegs _ (by simp [activeRegs, ZV, CK]; omega) (by unfold ZV; omega)
  rw [active] at kStays
  generalize t.hopKnown p = u at *
  have marks : p ∈ u.chain.measured ∧ p ∈ u.chain.calib ∧ p ∉ u.chain.slow ∧ ∀ x ∈ u.chain.meas, x.1 ≠ p := by
    rw [kChain, chain]
    exact ⟨mem_put rfl, mem_put rfl, by simp, fun x hx => by simpa using (List.mem_filter.mp hx).2⟩
  have heard : u.chain.heard = s.chain.heard := by rw [kChain, chain]
  have whole : s.changes [.csr, .free, .chain, .tick, .hl] u := (frame.mono (by decide)).trans (kFrame.mono (by decide))
  have port (h : (s.activePort (p % 2 = 0)).isSome = true) : u.upPort = s.upPort :=
    State.upPort_congr ((State.fld_congr (kStays (.inl h) _) 0 2).trans (State.fld_congr (regs _ (by unfold ZV; omega)) 0 2))
  split
  · next cal =>
    simp only [Bool.and_eq_true, decide_eq_true_eq] at cal
    obtain ⟨up, known⟩ := cal
    obtain ⟨cFrame, cChain, done, cRegs⟩ := u.calibrate_shows p
    obtain ⟨m1, m2, m3, _, m5⟩ := cChain.marks
    rw [m1, m2, m3, m5]
    refine ⟨whole.trans (cFrame.mono (by decide)), marks, ⟨avg, lo, hi, (cRegs _ (by simp [ZV, CK]; omega)).trans (away.trans value)⟩, fun h => ⟨fun other => ?_, fun _ _ => ?_⟩⟩
    · rw [heard] at known
      rw [port h] at up
      obtain other | other := other
      · rw [other] at known
        exact absurd known (by decide)
      · exact absurd up other
    · exact State.calibrated_congr ((whole.same .clk (by decide))) (fun k hk => (kStays (.inl h) _).trans (regs _ (by unfold CK ZV; omega))) done
  · next cal =>
    refine ⟨whole, marks, ⟨avg, lo, hi, away.trans value⟩, fun h => ⟨fun _ a ha => (kStays (.inl h) a).trans (regs a ha), fun known up => ?_⟩⟩
    rw [heard, port h] at cal
    exact absurd (by rw [known, up]; simp) cal

theorem State.calComplete_stays {s : State} {p : Nat} (h : (∀ x ∈ s.chain.meas, x.1 ≠ p) ∨ ∃ n sum rest, s.chain.meas = (p, n, sum) :: rest ∧ n < 256) :
    s.calComplete p = s := by
  unfold State.calComplete
  obtain h | ⟨n, sum, rest, meas, few⟩ := h
  · have none : s.chain.meas.find? (fun x => x.1 = p) = none := by simpa using h
    rw [none]
  · have found : s.chain.meas.find? (fun x => x.1 = p) = some (p, n, sum) := by simp [meas]
    rw [found]
    exact if_pos few

/-! ## LINK_UP (R309, R322) -/

theorem State.linkUp_stays {s : State} {p : Nat} (h : s.link p = true ∨ s.portOn p = false) : s.linkUp p = s := by
  refine if_pos ?_
  obtain h | h := h <;> simp [h]

theorem State.linkUp_goes {s : State} {p : Nat} (link : s.link p = false) (on : s.portOn p = true) :
    s.linkUp p = ((s.setBit (ZV p 4) 0 true).activate p).measure p := if_neg (by simp [link, on])

theorem State.portUp_keeps {s t : State} {p q : Nat} (h : s.bypasses t q) (p4 : p < 4) (up : s.portUp p = true) : t.portUp p = true := by
  simp only [State.portUp, Bool.and_eq_true] at up ⊢
  refine ⟨(h.ports p 0 (by decide) (by decide)).trans up.1, State.portOn_of up.2 (h.frame.same .life (by decide)) (h.frame.same .rails (by decide))
    (h.frame.same .tap (by decide)) (h.regs _ (by simp [activeRegs, ZV, CK]; omega) (by unfold ZV; omega)) (fun g => ?_)⟩
  exact (State.bit_congr (h.regs (CK (0x400 + 4 * (0x28 + p))) (by simp [activeRegs, ZV, CK]; omega) (by unfold ZV CK; omega)) 3).trans g

theorem State.isHead_keeps {s t : State} {q : Nat} (h : s.bypasses t q) : t.isHead = s.isHead :=
  State.bit_congr (h.regs _ (by decide) (by unfold ZV; omega)) 25

/-- A link that came up (R322). -/
theorem State.linkUp_shows {s : State} {p : Nat} (p4 : p < 4) (link : s.link p = false) (on : s.portOn p = true) :
    s.changes [.csr, .tick, .chain] (s.linkUp p) ∧ (s.linkUp p).link p = true ∧
    (p % 2 = 0 → s.isHead = false → s.low p = false → (p, 0, 0) ∈ (s.linkUp p).chain.meas) ∧
    (p < 2 → s.low p = false → p ∉ s.chain.slow → (p = 0 → s.isHead = false ∧ s.upPort = none) → (p = 1 → s.dnPort = none) →
      (s.linkUp p).activePort (p % 2 = 0) = some p) := by
  rw [State.linkUp_goes link on]
  have frame : s.changes [.csr, .tick, .chain] (s.setBit (ZV p 4) 0 true) := by simp
  have isUp : (s.setBit (ZV p 4) 0 true).link p = true := s.bit_setBit_same _ _ (by decide)
  have rate : (s.setBit (ZV p 4) 0 true).low p = s.low p := s.bit_setBit_other _ _ _ (by decide) (by decide)
  have regs : ∀ a, a ≠ ZV p 4 → (s.setBit (ZV p 4) 0 true).reg a = s.reg a := fun a h => s.reg_setBit_ne _ _ _ _ h
  have chain : (s.setBit (ZV p 4) 0 true).chain = s.chain := rfl
  have goes : (s.setBit (ZV p 4) 0 true).portOn p = true := State.portOn_of on rfl rfl rfl (regs _ (by unfold ZV; omega))
    (fun g => (State.bit_congr (regs (CK (0x400 + 4 * (0x28 + p))) (by unfold ZV CK; omega)) 3).trans g)
  generalize s.setBit (ZV p 4) 0 true = t at *
  have head : t.isHead = s.isHead := State.bit_congr (regs _ (by unfold ZV; omega)) 25
  have up : t.portUp p = true := by simp [State.portUp, isUp, goes]
  have port : t.reg (ZV 0 0x820) = s.reg (ZV 0 0x820) := regs _ (by unfold ZV; omega)
  obtain ⟨only, moves⟩ := t.bypasses_activate p p
  have active : p < 2 → t.low p = false → p ∉ t.chain.slow → (p = 0 → t.isHead = false) → t.activePort (p % 2 = 0) = none →
      (t.activate p).activePort (p % 2 = 0) = some p := by
    intro near slow known notHead free
    obtain ⟨set, _⟩ := t.setActive_shows (p % 2 = 0) (p / 2)
    rw [State.activate_near near free notHead up slow known]
    obtain rfl | rfl : p = 0 ∨ p = 1 := by omega
    · exact upPort_zero.mpr set
    · exact dnPort_one.mpr set
  have upA : (t.activate p).portUp p = true := State.portUp_keeps only p4 up
  have rateA : (t.activate p).low p = t.low p := only.ports p 1 (by decide) (by decide)
  have headA := State.isHead_keeps only
  have linkA : (t.activate p).link p = true := (only.ports p 0 (by decide) (by decide)).trans isUp
  generalize t.activate p = u at *
  have measured := u.measure_starts (p := p)
  obtain ⟨meas, sent, same, _⟩ := u.measure_measures p
  have regsM : ∀ a, (u.measure p).reg a = u.reg a := by
    rw [same]
    exact fun _ => rfl
  refine ⟨frame.trans ((moves.mono (by decide)).trans ?_), (State.bit_congr (regsM _) 0).trans linkA, fun even notHead slow => ?_, fun near slow known zero one => ?_⟩
  · rw [same]
    rfl
  · rw [measured even upA (rateA.trans (rate.trans slow)) (headA.trans (head.trans notHead))]
    exact List.mem_append_right _ (List.mem_singleton.mpr rfl)
  · have free : t.activePort (p % 2 = 0) = none := by
      obtain rfl | rfl : p = 0 ∨ p = 1 := by omega
      · exact (State.upPort_congr (State.fld_congr port 0 2)).trans (zero rfl).2
      · exact (State.dnPort_congr (State.fld_congr port 2 2)).trans (one rfl)
    refine Eq.trans ?_ (active near (rate.trans slow) (by rw [chain]; exact known) (fun h => head.trans (zero h).1) free)
    unfold State.activePort
    rw [State.upPort_congr (State.fld_congr (regsM _) 0 2), State.dnPort_congr (State.fld_congr (regsM _) 2 2)]

/-! ## BYPASS_RETURN (R325) -/

theorem State.bypassReturn_stays {s : State} (up : Bool) (h : s.superStart = false) : s.bypassReturn up = s := if_pos (by simp [h])

theorem State.bypassReturn_goes {s : State} {up : Bool} {q : Nat} (hq : q = if up then 0 else 1) (act : s.activePort up = some (q + 2)) (first : s.superStart = true)
    (on : s.portUp q = true) (rate : s.low q = false) (known : q ∉ s.chain.slow) (nb : s.fld (ZV q 4) 3 3 = 3) (auto : s.bit (ZV 0 0x820) 4 = false)
    (measured : up = true → s.chain.measured.contains 0 = true) :
    s.bypassReturn up = if up then s.switchUp 0 else (s.setActive false 0).bypassEvent := by
  unfold State.bypassReturn
  rw [← hq]
  refine if_neg ?_
  have cur : (if up then s.upPort else s.dnPort) = some (q + 2) := act
  have known' : s.chain.slow.contains q = false := by simpa using known
  have meas : (up && !s.chain.measured.contains 0) = false := by
    cases up
    · rfl
    · rw [measured rfl]
      rfl
  simp [-List.contains_eq_mem, cur, first, on, rate, known', nb, auto, meas]

theorem State.bypassReturn_shows (s : State) (up : Bool) {t : State} (ht : t = if up then s.switchUp 0 else (s.setActive false 0).bypassEvent) :
    t.activePort up = some (if up then 0 else 1) ∧ s.changes [.csr, .tick, .chain, .hl, .clk, .free] t := by
  subst ht
  cases up with
  | true =>
    obtain ⟨only, active, _⟩ := s.switchUp_shows 0
    rw [if_pos rfl]
    generalize s.switchUp 0 = t at *
    exact ⟨upPort_zero.mpr active, only.frame⟩
  | false =>
    obtain ⟨only, active, _⟩ := s.switchDn_shows 0 0
    rw [if_neg Bool.false_ne_true]
    generalize (s.setActive false 0).bypassEvent = t at *
    exact ⟨dnPort_one.mpr active, only.frame⟩

/-! ## Waiting reports, counters, FORWARD slots (R330, R339, R379) -/

theorem State.headRecord_stays {s : State} (h : s.isHead = false) (r : FRep) : s.headRecord r = s := if_pos (by simp [h])

theorem State.faultWait_none {s : State} (h : s.chain.waits = []) : s.faultWait = s := by
  unfold State.faultWait
  rw [h]

theorem State.faultWait_sends {s : State} {r : FRep} {rest : List FRep} (h : s.chain.waits = r :: rest) :
    s.faultWait = (s.setChain { s.chain with waits := rest }).originate r := by
  unfold State.faultWait
  rw [h]

theorem State.faultWait_shows {s : State} {r : FRep} {rest : List FRep} (h : s.chain.waits = r :: rest) (new : s.knownFault r.origin r.code = false)
    (head : s.isHead = false) : s.faultWait.chain.waits = rest ∧ s.faultWait.knownFault r.origin r.code = true ∧
    (∃ m, s.faultWait.chain.sent = s.chain.sent ++ [(upPorts ++ downPorts, .msg tFault m)] ∧ m.payload = r.bytes) ∧
    { s.faultWait with chain := s.chain } = s := by
  rw [State.faultWait_sends h]
  have fresh : (s.setChain { s.chain with waits := rest }).knownFault r.origin r.code = false := new
  have notHead : (s.setChain { s.chain with waits := rest }).isHead = false := head
  have sent : (s.setChain { s.chain with waits := rest }).chain.sent = s.chain.sent := rfl
  have waits : (s.setChain { s.chain with waits := rest }).chain.waits = rest := rfl
  have frame : s.changes [.chain] (s.setChain { s.chain with waits := rest }) := by simp
  generalize s.setChain { s.chain with waits := rest } = t at *
  obtain ⟨roster, recs, seqs, m, chain, payload⟩ := State.originate_new fresh
  refine ⟨by rw [chain]; exact waits, State.originate_known t r, ⟨m, by rw [chain]; exact congrArg (· ++ _) sent, payload⟩, ?_⟩
  refine frame.trans ?_
  have entered : ((t.enterFault r.origin r.code false).sendMsg (upPorts ++ downPorts) tFault 0 0xFFF r.bytes).isHead = false := notHead
  unfold State.originate
  rw [if_neg (by simp [fresh]), State.headRecord_stays entered]
  rfl

theorem State.clrPortCnt_shows (s : State) (p : Nat) : s.changes [.csr] (s.clrPortCnt p) ∧
    ((s.clrPortCnt p).reg (ZV p 0x20) = 0 ∧ (s.clrPortCnt p).reg (ZV p 0x24) = 0 ∧ (s.clrPortCnt p).reg (ZV p 0x28) = 0) ∧
    ∀ a, a ∉ [ZV p 0x20, ZV p 0x24, ZV p 0x28, ZV p 0x48, ZV p 0x4C, ZV p 0x50] → (s.clrPortCnt p).reg a = s.reg a := by
  unfold State.clrPortCnt
  have frame : s.changes [.csr] (s.zeroRegs [ZV p 0x20, ZV p 0x24, ZV p 0x28]) := by simp
  have regs := s.reg_zeroRegs [ZV p 0x20, ZV p 0x24, ZV p 0x28]
  generalize s.zeroRegs [ZV p 0x20, ZV p 0x24, ZV p 0x28] = t at *
  by_cases near : p < 2
  · have more := t.reg_zeroRegs [ZV p 0x48, ZV p 0x4C, ZV p 0x50]
    simp only [near, if_true]
    refine ⟨frame.trans (by simp), by simp [more, regs], fun a ha => ?_⟩
    simp only [List.mem_cons, List.not_mem_nil, or_false, not_or] at ha
    simp [more, regs, ha]
  · simp only [near, if_false]
    refine ⟨frame, by simp [regs], fun a ha => ?_⟩
    simp only [List.mem_cons, List.not_mem_nil, or_false, not_or] at ha
    simp [regs, ha]

/-- A FORWARD slot whose time has run out. -/
theorem State.fwdTimeout_shows {s : State} {k : Nat} {f : Fwd} (only : s.chain.fwd = [f]) (slot : f.slot = k) (fin : f.fin = false) :
    (∃ g, (s.fwdTimeout k).chain.fwd = [g] ∧ g.fin = true ∧ g.slot = f.slot ∧
      (f.dst ≠ 0xFFF → g.rsp = BitVec.ofNat 2048 (natLE (rspBytes f.op f.tag stTIMEOUT (bytesLE 0 4))))) ∧
    { s.fwdTimeout k with chain := s.chain } = s := by
  refine ⟨?_, rfl⟩
  have fwd : (s.fwdTimeout k).chain.fwd = s.chain.fwd.map (fun f =>
      if f.slot = k && !f.fin then
        if f.dst = 0xFFF then { f with fin := true }
        else { f with fin := true, rsp := BitVec.ofNat 2048 (natLE (rspBytes f.op f.tag stTIMEOUT (bytesLE 0 4))) }
      else f) := rfl
  rw [fwd, only, List.map_singleton, if_pos (by simp [slot, fin])]
  refine ⟨_, rfl, ?_⟩
  split
  · next all => exact ⟨rfl, rfl, fun h => absurd all h⟩
  · exact ⟨rfl, rfl, fun _ => rfl⟩

/-- Settles O48, from what a lost link and a new one do, how a measurement starts and ends, and the returns and timeouts. -/
theorem chainLinks : Obligations.ChainLinks := by
  intro s p calm
  have linkCalm {t : State} (h : s.changes [.csr, .tick, .chain, .hl, .clk, .free] t) : calm t :=
    ⟨h.same .mem (by decide), h.same .rg (by decide), h.same .qs (by decide), h.same .mb (by decide), h.same .life (by decide), h.same .ld (by decide)⟩
  refine ⟨fun link => ?_, fun link => ?_, fun link on => ?_, fun h => completes_intro rfl (State.linkUp_stays h), fun even up rate head => ?_,
    fun h => completes_intro rfl (State.measure_stays h), fun n sum rest meas => ⟨fun full => ?_, fun few => ?_⟩,
    fun h => completes_intro rfl (State.calComplete_stays (.inl h)), fun up q hq act first on rate known nb auto measured => ?_,
    fun up h => completes_intro rfl (State.bypassReturn_stays up h), fun r rest h new head => completes_intro rfl (State.faultWait_shows h new head),
    fun h => completes_intro rfl (State.faultWait_none h), ?_, fun k f only slot fin => completes_intro rfl (State.fwdTimeout_shows only slot fin)⟩
  · obtain ⟨down, seen, counted, latched, frame⟩ := State.linkDown_shows link
    obtain ⟨meas, measured, heard, calib, near, far⟩ := State.linkDown_chain link
    obtain ⟨_, _, _, notUp, notDn⟩ := State.linkDown_active link
    refine completes_intro rfl ?_
    generalize s.linkDown p = t at *
    have trim : t.changes [.csr] t.trimFollow := by simp
    have regs (o : Nat) : t.trimFollow.reg (ZV p o) = t.reg (ZV p o) := t.trimFollow_reg (ZV_ne_CK _ _ _ (by decide))
    have bypass : t.trimFollow.reg (ZV 0 0x820) = t.reg (ZV 0 0x820) := t.trimFollow_reg (by decide)
    have chain : t.trimFollow.chain = t.chain := trim.same .chain (by decide)
    have hl : t.trimFollow.hl = t.hl := trim.same .hl (by decide)
    have time : t.trimFollow.timePs = t.timePs := trim.same .timePs (by decide)
    rw [chain, hl, State.upPort_congr (State.fld_congr bypass 0 2), State.dnPort_congr (State.fld_congr bypass 2 2),
      State.knownFault_congr (congrArg Chain.ftab chain) time]
    exact ⟨(State.bit_congr (regs 4) 0).trans down, (State.bit_congr (regs 4) 8).trans seen, (regs 0x28).trans counted, latched, meas, measured, heard, calib,
      notUp, notDn, near, far, linkCalm (frame.trans (trim.mono (by decide)))⟩
  · have stays : s.linkDown p = s := if_pos (by simp [link])
    refine completes_by rfl (congrArg State.trimFollow stays) ?_
    have trim : s.changes [.csr] s.trimFollow := by simp
    exact ⟨trim.same .chain (by decide), trim.same .hl (by decide), linkCalm (trim.mono (by decide)), fun a ha => s.trimFollow_reg ha⟩
  · obtain ⟨frame, up, meas, active⟩ := State.linkUp_shows p.isLt link on
    refine completes_intro rfl ⟨up, frame.same .hl (by decide), linkCalm (frame.mono (by decide)), meas, fun near rate known zero one => ?_⟩
    have act := active near rate known zero one
    generalize s.linkUp p = t at *
    obtain e | e : p.val = 0 ∨ p.val = 1 := by omega
    · rw [if_pos e]
      rw [e] at act ⊢
      exact act
    · rw [if_neg (by omega)]
      rw [e] at act ⊢
      exact act
  · have starts := State.measure_starts even up rate head
    refine completes_by rfl starts ⟨rfl, linkCalm ?_, rfl, rfl, ?_⟩
    · exact (rfl : s.changes [.csr, .tick, .chain, .hl, .clk, .free] (s.measuring p))
    · unfold State.measuring
      generalize 256 = n
      rfl
  · obtain ⟨frame, ⟨measured, calib, slow, gone⟩, ⟨avg, lo, hi, value⟩, done⟩ := State.calComplete_shows meas (by omega)
    subst full
    refine completes_intro rfl ⟨measured, calib, slow, gone, linkCalm (frame.mono (by decide)), ⟨avg, by omega, by omega, value⟩, fun h => done ?_⟩
    simpa [State.activePort] using h
  · exact completes_intro rfl (State.calComplete_stays (.inr ⟨n, sum, rest, meas, few⟩))
  · obtain ⟨active, frame⟩ := s.bypassReturn_shows up rfl
    refine completes_by rfl (State.bypassReturn_goes hq act first on rate known nb auto measured) ⟨?_, linkCalm frame⟩
    rw [hq]
    exact active
  · obtain ⟨frame, ⟨r1, r2, r3⟩, regs⟩ := s.clrPortCnt_shows p
    exact completes_intro rfl ⟨r1, r2, r3, frame, regs⟩

end Sys2Proof.Machine
end

section
/-! Ordered sets of the Zhevley line (spec/10 R302, R309, R312, R313, R336 to R338). -/
namespace Sys2Proof.Machine

/-! ## SOF (R312, R313, R51) -/

theorem State.followEvent_sofs (s : State) (d : Nat) : (s.followEvent d).tick.sofs = s.tick.sofs ∧ (s.followEvent d).tick.sofLast = s.tick.sofLast := by
  have locks : s.lock.tick.sofs = s.tick.sofs ∧ s.lock.tick.sofLast = s.tick.sofLast := ⟨rfl, rfl⟩
  unfold State.followEvent
  repeat' split
  · exact ⟨rfl, rfl⟩
  · exact ⟨rfl, rfl⟩
  · exact ⟨rfl, rfl⟩
  · exact ⟨rfl, rfl⟩
  · exact locks
  · exact ⟨rfl, rfl⟩

theorem State.sourceEvent_sofs (s : State) (c : Nat) : (s.sourceEvent c).tick.sofs = s.tick.sofs ∧ (s.sourceEvent c).tick.sofLast = s.tick.sofLast := by
  by_cases h : s.mode = 0
  · rw [State.sourceEvent_awake h]
    obtain ⟨sofs, last⟩ := (s.showEvent c).followEvent_sofs (s.phase c)
    exact ⟨sofs.trans (by rw [s.showEvent_tick c]), last.trans (by rw [s.showEvent_tick c])⟩
  · rw [State.sourceEvent, if_pos h]
    exact ⟨rfl, rfl⟩

theorem State.sourceEvent_asleep {s : State} (h : s.mode ≠ 0) (c : Nat) : s.sourceEvent c = s := if_pos h

/-- The SOF forwarded and kept for the frame comparison. -/
def State.sofKept (s : State) (param c : Nat) : State :=
  (s.sendZ (downPorts.filter (fun q => !s.low q)) (.set setSof param)).recordSof (s.frameStart + c) param

theorem State.sofIn_active {s : State} {p : Nat} (up : s.fromUp p = true) (rate : s.low p = false) (param c : Nat) :
    s.sofIn p param c = if s.src = 2 then (s.sofKept param c).sourceEvent c else s.sofKept param c := if_neg (by simp [up, rate])

theorem State.sofIn_stays {s : State} {p : Nat} (h : s.fromUp p = false ∨ s.low p = true) (param c : Nat) : s.sofIn p param c = s := by
  refine if_pos ?_
  obtain h | h := h <;> simp [h]

theorem State.sofKept_shows (s : State) (param c : Nat) : s.changes [.chain, .tick] (s.sofKept param c) ∧
    (s.sofKept param c).chain = { s.chain with sent := s.chain.sent ++ [(downPorts.filter (fun q => !s.low q), .set setSof param)] } ∧
    (s.sofKept param c).tick = { s.tick with
      sofs := s.tick.sofs ++ (if s.sofMissed (s.frameStart + c) (param / 4 % 64) then [none] else []) ++
        (if param.testBit 0 then [some (s.numberSof ⟨s.frameStart + c, none⟩)] else [])
      sofLast := some (s.frameStart + c, param / 4 % 64) } := ⟨rfl, rfl, rfl⟩

/-- A source event is seen by the unit whose registers and generator are the same. -/
theorem State.sourceSeen_congr {s u t : State} {c : Nat} (csr : u.csr = s.csr) {sofs : List (Option Sof)} {last : Option (Nat × Nat)}
    (tick : u.tick = { s.tick with sofs := sofs, sofLast := last }) (h : u.sourceSeen t c) : s.sourceSeen t c := by
  have regs := State.reg_congr csr
  have fld (a lo w : Nat) : u.fld a lo w = s.fld a lo w := State.fld_congr (regs a) lo w
  have locked : u.locked = s.locked := State.bit_congr (regs _) 0
  have ofs : u.ofs = s.ofs := fld _ _ _
  have P : u.P = s.P := fld _ _ _
  have slip : u.slipLimit = s.slipLimit := fld _ _ _
  unfold State.sourceSeen at h ⊢
  rw [ofs, P, fld, locked, tick, slip] at h
  simpa only [regs] using h

/-- An SOF of the active upstream port at full rate. -/
theorem State.sof_shows {s : State} {p : Nat} (up : s.fromUp p = true) (rate : s.low p = false) (param c : Nat) :
    (s.sofIn p param c).chain = { s.chain with sent := s.chain.sent ++ [(downPorts.filter (fun q => !s.low q), .set setSof param)] } ∧
    (s.sofIn p param c).tick.sofs = s.tick.sofs ++ (if s.sofMissed (s.frameStart + c) (param / 4 % 64) then [none] else []) ++
      (if param.testBit 0 then [some (s.numberSof ⟨s.frameStart + c, none⟩)] else []) ∧
    (s.sofIn p param c).tick.sofLast = some (s.frameStart + c, param / 4 % 64) ∧
    s.changes [.chain, .tick, .csr] (s.sofIn p param c) ∧
    (s.src = 2 → s.mode = 0 → s.sourceSeen (s.sofIn p param c) c) ∧
    (s.src ≠ 2 ∨ s.mode ≠ 0 → (s.sofIn p param c).csr = s.csr ∧
      { (s.sofIn p param c).tick with sofs := s.tick.sofs, sofLast := s.tick.sofLast } = s.tick) := by
  rw [State.sofIn_active up rate]
  obtain ⟨frame, chain, tick⟩ := s.sofKept_shows param c
  generalize s.sofKept param c = u at *
  have csr : u.csr = s.csr := frame.same .csr (by decide)
  have mode : u.mode = s.mode := State.fld_congr (State.reg_congr csr _) 0 2
  by_cases src : s.src = 2
  · simp only [src, if_true]
    obtain ⟨sofs, last⟩ := u.sourceEvent_sofs c
    have only : u.changes [.csr, .tick] (u.sourceEvent c) := u.sourceEvent_only c
    refine ⟨(only.same .chain (by decide)).trans chain, by rw [sofs, tick], by rw [last, tick], (frame.mono (by decide)).trans (only.mono (by decide)),
      fun _ run => State.sourceSeen_congr csr tick (State.sourceEvent_seen (mode.trans run) c), fun h => ?_⟩
    obtain h | h := h
    · exact absurd rfl h
    · rw [State.sourceEvent_asleep (by rw [mode]; exact h)]
      exact ⟨csr, by rw [tick]⟩
  · simp only [src, if_false]
    exact ⟨chain, by rw [tick], by rw [tick], frame.mono (by decide), fun h => h.elim, fun _ => ⟨csr, by rw [tick]⟩⟩

/-! ## CAL, ECHO, IDLE, KEEP (R309, R337) -/

theorem State.calIn_plain {s : State} {p seq : Nat} (up : s.portUp p = true) (h : ¬(p % 2 = 1 ∧ seq = 255)) :
    s.calIn p seq = s.sendZ (if p % 2 = 1 then downPorts else upPorts) (.set setEcho seq) := by
  unfold State.calIn
  rw [if_neg (by simp [up])]
  exact if_neg h

theorem State.calIn_last {s : State} {p : Nat} (up : s.portUp p = true) (odd : p % 2 = 1) :
    s.calIn p 255 = (s.sendZ downPorts (.set setEcho 255)).hopKnown p := by
  unfold State.calIn
  rw [if_neg (by simp [up]), if_pos odd]
  exact if_pos ⟨odd, rfl⟩

theorem State.calIn_off {s : State} {p : Nat} (h : s.portUp p = false) (seq : Nat) : s.calIn p seq = s := if_pos (by simp [h])

theorem State.echo_off {s : State} {p : Nat} (h : s.portUp p = false) (rt : Nat) : s.echo p rt = s := if_pos (by simp [h])

theorem State.echo_counts {s : State} {p n sum : Nat} (up : s.portUp p = true) (meas : s.chain.meas = [(p, n, sum)]) (rt : Nat) :
    s.echo p rt = s.setChain { s.chain with meas := [(p, n + 1, sum + rt)] } := by
  unfold State.echo
  rw [if_neg (by simp [up]), meas]
  simp

theorem State.nbState_off {s : State} {p : Nat} (h : s.portUp p = false) (v : Nat) : s.nbState p v = s := if_neg (by simp [h])

theorem State.nbState_shows {s : State} {p : Nat} (up : s.portUp p = true) (v : Nat) : (s.nbState p v).fld (ZV p 4) 3 4 = v % 16 ∧
    (s.nbState p v).fld (ZV p 4) 0 3 = s.fld (ZV p 4) 0 3 ∧ (∀ a, a ≠ ZV p 4 → (s.nbState p v).reg a = s.reg a) ∧ s.changes [.csr] (s.nbState p v) := by
  have shows : s.nbState p v = s.setFld (ZV p 4) 3 4 v := if_pos up
  rw [shows]
  exact ⟨s.fld_setFld_same _ _ (by decide), s.fld_setFld_other _ _ _ _ (by decide) (.inl (by decide)), fun a h => s.reg_setFld_ne _ _ _ _ _ h, by rfl⟩

/-! ## The next target frame (R56) -/

theorem State.leadWalk_congr {s t : State} (tc : t.tc = s.tc) (fuel : Nat) (l : List Accepted) (g n p src src' : Nat) :
    t.leadWalk fuel l g n p src src' = s.leadWalk fuel l g n p src src' := by
  induction fuel generalizing l g n p src src' with
  | zero => rfl
  | succ fuel ih =>
    unfold State.leadWalk
    rw [tc]
    simp only [ih]

theorem State.nextTarget_congr {s t : State} (tick : t.tick = s.tick) (hl : t.hl = s.hl) (clk : t.clk = s.clk)
    (regs : ∀ k, k < 0x1000 → t.reg (CK k) = s.reg (CK k)) : t.nextTarget = s.nextTarget := by
  have tc := State.tc_congr clk regs
  have P : t.P = s.P := State.fld_congr (regs _ (by decide)) 0 13
  have src : t.src = s.src := State.fld_congr (regs _ (by decide)) 0 2
  have plain : t.plainFrame = s.plainFrame := by
    unfold State.plainFrame State.frameNo
    rw [tick, regs 0x818 (by decide), State.fld_congr (regs 0x81C (by decide))]
  have next : t.nextFrame = s.nextFrame := by
    unfold State.nextFrame State.presetDue
    rw [hl, src, plain]
  have walk : t.leads4us = s.leads4us := by
    unfold State.leads4us
    rw [State.leadWalk_congr tc, plain, tick, hl, P, src]
  rw [State.nextTarget, State.nextTarget, walk, next]

/-! ## SLEEP (R336, R337) -/

/-- The marks of the chain no longer trim where they have stopped (R450). -/
theorem State.trimRef_present {s : State} {c : Nat} (pos : c ≠ 0) (h : s.trimRef = c) : s.trimPresent c = true := by
  unfold State.trimRef at h
  split at h
  · obtain found | ⟨k, found⟩ := Option.eq_none_or_eq_some ([1, 2, 3].find? s.trimPresent)
    · rw [found] at h
      exact absurd h.symm pos
    · rw [found] at h
      obtain rfl : k = c := h
      exact List.find?_some found
  · split at h
    · next present =>
      rwa [← h]
    · exact absurd h.symm pos

theorem State.trimRef_lt (s : State) : s.trimRef < 4 := by
  have lt := s.fld_lt (CK 0x10) 1 2
  unfold State.trimRef
  split
  · obtain found | ⟨k, found⟩ := Option.eq_none_or_eq_some ([1, 2, 3].find? s.trimPresent)
    · rw [found]
      decide
    · have := List.mem_of_find?_eq_some found
      rw [found]
      simp only [List.mem_cons, List.not_mem_nil, or_false] at this
      show k < 4
      omega
  · split
    · exact lt
    · decide

theorem State.trimFollow_shows (s : State) : s.changes [.csr] s.trimFollow ∧ (∀ a, a ≠ CK 0x14 → s.trimFollow.reg a = s.reg a) ∧
    s.trimFollow.fld (CK 0x14) 0 12 = s.fld (CK 0x14) 0 12 ∧
    (s.fld (CK 0x14) 12 2 = 0 → s.trimFollow.reg (CK 0x14) = s.reg (CK 0x14)) ∧
    (s.fld (CK 0x14) 12 2 = 3 → s.trimPresent 3 = false → s.trimFollow.bit (CK 0x14) 14 = true ∧ s.trimFollow.fld (CK 0x14) 12 2 ≠ 3) := by
  refine ⟨by simp, fun a h => s.trimFollow_reg h, ?_⟩
  unfold State.trimFollow
  extract_lets used
  split
  · next h =>
    refine ⟨?_, fun z => absurd z h.1, fun _ gone => ⟨?_, ?_⟩⟩
    · rw [State.fld_setFld_other _ _ _ _ _ (by decide) (by decide)]
      exact s.fld_setBit_other _ _ _ (by decide) (by decide)
    · rw [State.bit_setFld_other _ _ _ _ _ (by decide) (by decide)]
      exact s.bit_setBit_same _ _ (by decide)
    · rw [State.fld_setFld_same _ _ _ (by decide), (Nat.mod_eq_of_lt s.trimRef_lt : s.trimRef % 2 ^ 2 = s.trimRef)]
      intro e
      rw [State.trimRef_present (by decide) e] at gone
      exact absurd gone (by decide)
  · next h =>
    refine ⟨rfl, fun _ => rfl, fun three gone => absurd ⟨?_, ?_⟩ h⟩
    · show s.fld (CK 0x14) 12 2 ≠ 0
      rw [three]
      decide
    · have : used = 3 := three
      simp [this, gone]

/-- The port at low rate, as SLEEP puts it. -/
def State.slowed (s : State) (p : Nat) : State := s.setBit (ZV p 4) 1 true

theorem State.slowed_shows (s : State) (p : Nat) : s.changes [.csr] (s.slowed p) ∧ (s.slowed p).low p = true ∧
    (∀ a, a ≠ ZV p 4 → (s.slowed p).reg a = s.reg a) ∧ (∀ i, i < 32 → i ≠ 1 → (s.slowed p).bit (ZV p 4) i = s.bit (ZV p 4) i) :=
  ⟨by simp [State.slowed], s.bit_setBit_same _ _ (by decide), fun a h => s.reg_setBit_ne _ _ _ _ h, fun i h h' => s.bit_setBit_other _ _ _ h h'⟩

/-- Port `q` may take over as it could before another one went to low rate. -/
theorem State.slowed_canTake (s : State) {p q : Nat} (ne : q ≠ p) (q4 : q < 4) : (s.slowed p).canTake q = s.canTake q := by
  obtain ⟨frame, _, regs, _⟩ := s.slowed_shows p
  have status : (s.slowed p).reg (ZV q 4) = s.reg (ZV q 4) := regs _ (by unfold ZV; omega)
  have ctrl : (s.slowed p).reg (ZV q 0) = s.reg (ZV q 0) := regs _ (by unfold ZV; omega)
  have gate : (s.slowed p).gateOpen (0x28 + q) = s.gateOpen (0x28 + q) := State.bit_congr (regs (CK (0x400 + 4 * (0x28 + q))) (by unfold ZV CK; omega)) 3
  have mode : (s.slowed p).mode = s.mode := State.fld_congr (regs (CK 0x204) (ZV_mode p 4)) 0 2
  unfold State.canTake State.portUp State.portOn State.link State.low State.chainRails State.scanned
  rw [mode, State.bit_congr status, State.bit_congr status, State.bit_congr ctrl, State.fld_congr ctrl, State.fld_congr ctrl, gate]
  rfl

theorem State.sleepIn_off {s : State} {p : Nat} (h : s.portUp p = false) : s.sleepIn p = s := if_pos (by simp [h])

theorem State.sleepIn_eq {s : State} {p : Nat} (up : s.portUp p = true) (rate : s.low p = false) : s.sleepIn p =
    if (s.slowed p).mode ≠ 0 then s.slowed p
    else if (s.slowed p).upPort = some p then (s.slowed p).slowActive true
    else if (s.slowed p).dnPort = some p then (s.slowed p).slowActive false
    else s.slowed p := if_neg (by simp [up, rate])

theorem State.slowActive_stays {s : State} {up : Bool} (h : ∀ q, q = (if up then 2 else 3) → s.activePort up = some q ∨ s.canTake q = false) (run : s.mode = 0) :
    s.slowActive up = s := by
  have none : s.otherPort up = none := by
    unfold State.otherPort
    extract_lets cur alt
    have alt' : alt = if up then 2 else 3 := by
      unfold alt
      cases up <;> simp [run]
    have act : cur = s.activePort up := rfl
    rw [if_neg ?_]
    rw [act]
    obtain h | h := h alt alt'
    · simp [h]
    · simp [h]
  unfold State.slowActive
  rw [none]

theorem State.slowActive_switches {s : State} {up : Bool} {q : Nat} (hq : q = (if up then 2 else 3)) (ne : s.activePort up ≠ some q) (can : s.canTake q = true)
    (run : s.mode = 0) : s.slowActive up = s.switchTo up q := by
  have some_ : s.otherPort up = some q := by
    unfold State.otherPort
    extract_lets cur alt
    have alt' : alt = q := by
      rw [hq]
      unfold alt
      cases up <;> simp [run]
    have act : cur = s.activePort up := rfl
    rw [alt', act, if_pos ⟨ne, can⟩]
  unfold State.slowActive
  rw [some_]

/-- A SLEEP after which the active ports stay. -/
theorem State.sleepIn_stays {s : State} {p : Nat} (up : s.portUp p = true) (rate : s.low p = false)
    (h : s.mode ≠ 0 ∨ ((s.upPort = some p → p = 2 ∨ s.canTake 2 = false) ∧ (s.dnPort = some p → p = 3 ∨ s.canTake 3 = false))) :
    s.sleepIn p = s.slowed p := by
  obtain ⟨_, _, regs, _⟩ := s.slowed_shows p
  have mode : (s.slowed p).mode = s.mode := State.fld_congr (regs (CK 0x204) (ZV_mode p 4)) 0 2
  have bypass : (s.slowed p).reg (ZV 0 0x820) = s.reg (ZV 0 0x820) := regs _ (by unfold ZV; omega)
  have upP := State.upPort_congr (State.fld_congr bypass 0 2)
  have dnP := State.dnPort_congr (State.fld_congr bypass 2 2)
  rw [State.sleepIn_eq up rate, mode, upP, dnP]
  split
  · rfl
  · next run =>
    obtain h | ⟨hu, hd⟩ := h
    · exact absurd h run
    · have run' : (s.slowed p).mode = 0 := mode.trans (Decidable.not_not.mp run)
      split
      · next act =>
        refine State.slowActive_stays (fun q hq => ?_) run'
        obtain rfl : q = 2 := hq
        obtain e | no := hu act
        · exact .inl (upP.trans (by rw [act, e]))
        · by_cases e : p = 2
          · exact .inl (upP.trans (by rw [act, e]))
          · exact .inr ((s.slowed_canTake (Ne.symm e) (by decide)).trans no)
      · split
        · next act =>
          refine State.slowActive_stays (fun q hq => ?_) run'
          obtain rfl : q = 3 := hq
          obtain e | no := hd act
          · exact .inl (dnP.trans (by rw [act, e]))
          · by_cases e : p = 3
            · exact .inl (dnP.trans (by rw [act, e]))
            · exact .inr ((s.slowed_canTake (Ne.symm e) (by decide)).trans no)
        · rfl

/-- A SLEEP after which the far port of the direction takes over. -/
theorem State.sleepIn_switches {s : State} {p : Nat} (on : s.portUp p = true) (rate : s.low p = false) (run : s.mode = 0) {up : Bool}
    (hp : p = if up then 0 else 1) (act : s.activePort up = some p) (can : s.canTake (p + 2) = true) : s.sleepIn p = (s.slowed p).switchTo up (p + 2) := by
  obtain ⟨_, _, regs, _⟩ := s.slowed_shows p
  have mode : (s.slowed p).mode = s.mode := State.fld_congr (regs (CK 0x204) (ZV_mode p 4)) 0 2
  have bypass : (s.slowed p).reg (ZV 0 0x820) = s.reg (ZV 0 0x820) := regs _ (by unfold ZV; omega)
  have upP := State.upPort_congr (State.fld_congr bypass 0 2)
  have dnP := State.dnPort_congr (State.fld_congr bypass 2 2)
  have take : (s.slowed p).canTake (p + 2) = true := by
    rw [s.slowed_canTake (by omega) (by rw [hp]; split <;> decide)]
    exact can
  have run' : (s.slowed p).mode = 0 := mode.trans run
  have ne (u : State) (h : u.activePort up = some p) : u.activePort up ≠ some (p + 2) := by
    rw [h]
    intro e
    have := Option.some.inj e
    omega
  rw [State.sleepIn_eq on rate, if_neg (by rw [run']; decide), upP, dnP]
  cases up with
  | true =>
    have act' : s.upPort = some p := act
    rw [if_pos act']
    exact State.slowActive_switches (by rw [hp]; rfl) (ne _ (upP.trans act')) take run'
  | false =>
    have act' : s.dnPort = some p := act
    rw [if_neg (fun e => dnPort_ne_upPort e act'), if_pos act']
    exact State.slowActive_switches (by rw [hp]; rfl) (ne _ (dnP.trans act')) take run'

/-! ## WAKE (R338, R465) -/

/-- The port at full rate, its hop to be measured. -/
def State.quickened (s : State) (p : Nat) : State := (s.setBit (ZV p 4) 1 false).setChain { s.chain with
  measured := s.chain.measured.filter (· ≠ p), slow := s.chain.slow.filter (· ≠ p) ++ [p] }

theorem State.fullRate_eq (s : State) (p : Nat) : s.fullRate p = (s.quickened p).measure p := rfl

theorem State.quickened_shows (s : State) (p : Nat) : s.changes [.csr, .chain] (s.quickened p) ∧ (s.quickened p).low p = false ∧
    (∀ a, a ≠ ZV p 4 → (s.quickened p).reg a = s.reg a) ∧ (s.quickened p).chain = { s.chain with
      measured := s.chain.measured.filter (· ≠ p), slow := s.chain.slow.filter (· ≠ p) ++ [p] } ∧ (s.quickened p).portUp p = s.portUp p := by
  have regs : ∀ a, a ≠ ZV p 4 → (s.quickened p).reg a = s.reg a := fun a h => s.reg_setBit_ne _ _ _ _ h
  have ctrl : (s.quickened p).reg (ZV p 0) = s.reg (ZV p 0) := regs _ (by simp)
  have gate : (s.quickened p).gateOpen (0x28 + p) = s.gateOpen (0x28 + p) := State.bit_congr (regs (CK (0x400 + 4 * (0x28 + p))) (by unfold ZV CK; omega)) 3
  have link : (s.quickened p).link p = s.link p := s.bit_setBit_other _ _ _ (by decide) (by decide)
  refine ⟨by rfl, s.bit_setBit_same _ _ (by decide), regs, rfl, ?_⟩
  unfold State.portUp State.portOn State.chainRails State.scanned
  rw [link, State.bit_congr ctrl, State.fld_congr ctrl, State.fld_congr ctrl, gate]
  rfl

/-- A port that returns to full rate is not measured, and an UP port starts to be (R338). -/
theorem State.fullRate_marks {s : State} {p : Nat} (up : s.portUp p = true) : s.changes [.csr, .chain] (s.fullRate p) ∧ (s.fullRate p).low p = false ∧
    (∀ a, a ≠ ZV p 4 → (s.fullRate p).reg a = s.reg a) ∧ p ∈ (s.fullRate p).chain.slow ∧ p ∉ (s.fullRate p).chain.measured ∧
    (p % 2 = 0 → s.isHead = false → (p, 0, 0) ∈ (s.fullRate p).chain.meas) := by
  rw [State.fullRate_eq]
  obtain ⟨frame, rate, regs, chain, on⟩ := s.quickened_shows p
  generalize s.quickened p = t at *
  have head : t.isHead = s.isHead := State.bit_congr (regs _ (by unfold ZV; omega)) 25
  have starts := t.measure_starts (p := p)
  obtain ⟨meas, sent, same, _⟩ := t.measure_measures p
  have marks : (t.measure p).chain.slow = t.chain.slow ∧ (t.measure p).chain.measured = t.chain.measured := by
    rw [same]
    exact ⟨rfl, rfl⟩
  have kept : ∀ a, (t.measure p).reg a = t.reg a := by
    rw [same]
    exact fun _ => rfl
  have measures : t.changes [.chain] (t.measure p) := by
    rw [same]
    rfl
  refine ⟨frame.trans (measures.mono (by decide)), (State.bit_congr (kept _) 1).trans rate, fun a h => (kept a).trans (regs a h), ?_, ?_, fun even notHead => ?_⟩
  · rw [marks.1, chain]
    simp
  · rw [marks.2, chain]
    simp
  · rw [starts even (on.trans up) rate (head.trans notHead)]
    exact List.mem_append_right _ (List.mem_singleton.mpr rfl)

/-- A sleeping unit with CHAIN_WAKE passes the WAKE on and starts its own exit (R465). -/
def State.wakesUp (s : State) (p : Nat) : State :=
  if s.mode ≠ 0 && s.bit (CK 0x200) 0 && s.upPort = some p && s.clk.self.isNone then
    { s.sendZ downPorts (.set setWake 0) with clk := { s.clk with self := some (s.nextTarget, 0) } } else s

theorem State.wakeIn_off {s : State} {p : Nat} (h : s.portUp p = false) : s.wakeIn p = s := if_pos (by simp [h])

theorem State.wakeIn_eq {s : State} {p : Nat} (up : s.portUp p = true) : s.wakeIn p = (if s.low p then s.fullRate p else s).wakesUp p :=
  if_neg (by simp [up])

theorem State.wakesUp_run {s : State} (h : s.mode = 0) (p : Nat) : s.wakesUp p = s := if_neg (by simp [h])

theorem State.wakesUp_asleep {s : State} {p : Nat} (asleep : s.mode ≠ 0) (wakes : s.bit (CK 0x200) 0 = true) (up : s.upPort = some p) (self : s.clk.self = none) :
    s.wakesUp p = { s.sendZ downPorts (.set setWake 0) with clk := { s.clk with self := some (s.nextTarget, 0) } } :=
  if_pos (by simp [asleep, wakes, up, self])

/-- The hop of a DN port has been measured by the neighbour below: in RUN the port may become active (R338). -/
theorem State.hopKnown_dn {s : State} {p : Nat} (odd : p % 2 = 1) : s.changes [.csr, .chain] (s.hopKnown p) ∧ (s.mode ≠ 0 → (s.hopKnown p).csr = s.csr) ∧
    (s.mode = 0 → s.dnPort = none → s.low p = false → s.portUp p = true → p = 1 → (s.hopKnown p).dnPort = some 1) := by
  have whole : s.hopKnown p = if s.mode = 0 then (s.setChain { s.chain with slow := s.chain.slow.filter (· ≠ p) }).activate p
      else s.setChain { s.chain with slow := s.chain.slow.filter (· ≠ p) } := rfl
  rw [whole]
  have frame : s.changes [.csr, .chain] (s.setChain { s.chain with slow := s.chain.slow.filter (· ≠ p) }) := by simp
  have csr : (s.setChain { s.chain with slow := s.chain.slow.filter (· ≠ p) }).csr = s.csr := rfl
  have slow : p ∉ (s.setChain { s.chain with slow := s.chain.slow.filter (· ≠ p) }).chain.slow := by simp [State.setChain]
  have on : (s.setChain { s.chain with slow := s.chain.slow.filter (· ≠ p) }).portUp p = s.portUp p := rfl
  generalize s.setChain { s.chain with slow := s.chain.slow.filter (· ≠ p) } = t at *
  have regs := State.reg_congr csr
  by_cases run : s.mode = 0
  · simp only [run, if_true]
    refine ⟨?_, fun h => absurd rfl h, fun _ free rate up one => ?_⟩
    · obtain e | e := t.activate_eq p
      · rw [e]
        exact frame
      · rw [e, show decide (p % 2 = 0) = false by simp [odd]]
        exact frame.trans (by rfl)
    · subst one
      have free' : t.activePort false = none := (State.dnPort_congr (State.fld_congr (regs _) 2 2)).trans free
      have near := State.activate_near (s := t) (p := 1) (by decide) free' (fun h => absurd h (by decide)) (on.trans up)
        ((State.bit_congr (regs _) 1).trans rate) slow
      rw [near]
      exact dnPort_one.mpr (t.setActive_shows false 0).1
  · simp only [run, if_false]
    exact ⟨frame, fun _ => csr, fun h => h.elim⟩

/-- Settles O47, from what each ordered set does at an active port, at one that is off, and in far-end loopback. -/
theorem orderedSets : Obligations.OrderedSets := by
  intro s p x
  have near {c : Instr} {o : ZOut} {f : State → State} {P : State → Prop} (loop : s.portFar p = false) (run : exec c s = .next (s.looped p o f)) (h : P (f s)) :
      Completes c s P := completes_intro run (by rwa [State.looped_near loop])
  refine ⟨fun c up rate => ?_, fun c loop h => near loop rfl (State.sofIn_stays h x.toNat c), fun far c rt => ?_, fun up notLast => ?_, fun up odd last => ?_,
    fun rt n sum up meas => near (State.portUp_near up) rfl (State.echo_counts up meas rt), fun up c h => ?_, fun up rate h => ?_,
    fun on rate run up hp act can => ?_, fun up slow run => ?_, fun up rate asleep wakes port self => ?_, fun up slow asleep wakes port self => ?_,
    fun off loop => ?_⟩
  · have on : s.portUp p = true := State.fromAny_up (by simp [State.fromAny, up])
    exact near (State.portUp_near on) rfl (State.sof_shows up rate x.toNat c)
  · have sent (o : ZOut) (f : State → State) := State.looped_shows far o f
    refine List.forall_mem_cons.mpr ⟨completes_intro rfl (sent _ _), List.forall_mem_cons.mpr ⟨completes_intro rfl (sent _ _),
      List.forall_mem_cons.mpr ⟨completes_intro rfl (sent _ _), List.forall_mem_cons.mpr ⟨completes_intro rfl (sent _ _),
      List.forall_mem_cons.mpr ⟨completes_intro rfl (sent _ _), List.forall_mem_cons.mpr ⟨completes_intro rfl (sent _ _),
      List.forall_mem_cons.mpr ⟨completes_intro rfl (sent _ _), fun _ h => absurd h List.not_mem_nil⟩⟩⟩⟩⟩⟩⟩
  · exact near (State.portUp_near up) rfl (State.calIn_plain up notLast)
  · refine near (State.portUp_near up) rfl ?_
    rw [last, State.calIn_last up odd]
    have sent : (s.sendZ downPorts (.set setEcho 255)).chain = { s.chain with sent := s.chain.sent ++ [(downPorts, .set setEcho 255)] } := rfl
    have frame : s.changes [.chain] (s.sendZ downPorts (.set setEcho 255)) := by rfl
    have same : ∀ q, (s.sendZ downPorts (.set setEcho 255)).portUp q = s.portUp q := fun _ => rfl
    generalize s.sendZ downPorts (.set setEcho 255) = t at *
    have regs := State.reg_congr (frame.same .csr (by decide))
    obtain ⟨_, chain, _, _⟩ := t.hopKnown_shows p
    obtain ⟨known, kept, active⟩ := State.hopKnown_dn (s := t) odd
    have mode : t.mode = s.mode := State.fld_congr (regs _) 0 2
    refine ⟨by rw [chain, sent], (frame.mono (by decide) : s.changes [.csr, .chain] t).trans known,
      fun asleep => (kept (by rw [mode]; exact asleep)).trans (frame.same .csr (by decide)), fun run free rate one => ?_⟩
    exact active (mode.trans run) ((State.dnPort_congr (State.fld_congr (regs _) 2 2)).trans free) ((State.bit_congr (regs _) 1).trans rate)
      ((same _).trans up) one
  · have shows := State.nbState_shows up x.toNat
    obtain rfl | ⟨rfl, low⟩ := h
    · exact near (State.portUp_near up) rfl shows
    · refine near (State.portUp_near up) rfl ?_
      show _ ∧ _
      simp only [low, if_true]
      exact shows
  · refine near (State.portUp_near up) rfl ?_
    show State.low _ _ = true ∧ _
    rw [State.sleepIn_stays up rate h]
    obtain ⟨frame, low, regs, bits⟩ := s.slowed_shows p
    generalize s.slowed p = t at *
    obtain ⟨trim, away, code, idle, lost⟩ := t.trimFollow_shows
    have ck : t.reg (CK 0x14) = s.reg (CK 0x14) := regs _ (ZV_ne_CK _ _ _ (by decide)).symm
    have bypass : t.trimFollow.reg (ZV 0 0x820) = s.reg (ZV 0 0x820) := (away _ (by decide)).trans (regs _ (by unfold ZV; omega))
    refine ⟨(State.bit_congr (away _ (ZV_ne_CK _ _ _ (by decide))) 1).trans low, State.upPort_congr (State.fld_congr bypass 0 2),
      State.dnPort_congr (State.fld_congr bypass 2 2), fun a h h' => (away a h').trans (regs a h), frame.trans trim,
      code.trans (State.fld_congr ck 0 12), fun none => (idle ((State.fld_congr ck 12 2).trans none)).trans ck, fun marks port => lost ((State.fld_congr ck 12 2).trans marks) ?_⟩
    have here : t.upPort = some p.val := (State.upPort_congr (State.fld_congr (regs _ (by unfold ZV; omega)) 0 2)).trans port
    unfold State.trimPresent
    simp [here, low]
  · refine near (State.portUp_near on) rfl ?_
    show State.low _ _ = true ∧ _
    rw [State.sleepIn_switches on rate run hp act can]
    obtain ⟨frame, low, regs, bits⟩ := s.slowed_shows p
    generalize s.slowed p = t at *
    have bypass : t.reg (ZV 0 0x820) = s.reg (ZV 0 0x820) := regs _ (by unfold ZV; omega)
    have act' : t.activePort up = some p.val := by
      unfold State.activePort
      rw [State.upPort_congr (State.fld_congr bypass 0 2), State.dnPort_congr (State.fld_congr bypass 2 2)]
      exact act
    have far : p.val + 2 = if up then (p.val + 2) / 2 * 2 else 3 := by
      rw [hp]
      cases up <;> rfl
    obtain ⟨only, active, _, latched, aligned⟩ := t.switchTo_shows far (by rw [hp]; cases up <;> decide)
    generalize t.switchTo up (p.val + 2) = u at *
    obtain ⟨trim, away, _⟩ := u.trimFollow_shows
    obtain ⟨sent, seqs, meas, chain, _⟩ := only.chain
    have hl : u.trimFollow.hl = u.hl := trim.same .hl (by decide)
    have whole : s.changes [.csr, .tick, .chain, .hl, .clk, .free] u.trimFollow :=
      (frame.mono (by decide)).trans (only.frame.trans (trim.mono (by decide)))
    refine ⟨(State.bit_congr (away _ (ZV_ne_CK _ _ _ (by decide))) 1).trans ((only.ports p 1 (by decide) (by decide)).trans low), ?_,
      fun isUp => (State.bit_congr (away _ (by decide)) 2).trans (aligned isUp (by rw [act']; intro e; have := Option.some.inj e; omega)), by rw [hl]; exact latched, ?_,
      whole.same .mem (by decide), whole.same .rg (by decide), whole.same .qs (by decide)⟩
    · rw [State.upPort_congr (State.fld_congr (away _ (by decide)) 0 2), State.dnPort_congr (State.fld_congr (away _ (by decide)) 2 2)]
      exact active
    · rw [show u.trimFollow.chain = u.chain from trim.same .chain (by decide), chain, show t.chain = s.chain from frame.same .chain (by decide)]
  · refine near (State.portUp_near up) rfl ?_
    show State.low _ _ = false ∧ _
    obtain ⟨frame, rate, regs, known, unmeasured, meas⟩ := State.fullRate_marks up
    have mode : (s.fullRate p).mode = 0 := (State.fld_congr (regs (CK 0x204) (ZV_mode p 4)) 0 2).trans run
    rw [State.wakeIn_eq up, if_pos slow, State.wakesUp_run mode]
    exact ⟨rate, frame.same .mem (by decide), frame.same .rg (by decide), frame.same .qs (by decide), frame.same .hl (by decide), frame.same .fab (by decide),
      known, unmeasured, meas⟩
  · refine near (State.portUp_near up) rfl ?_
    show State.clk _ = _ ∧ _
    rw [State.wakeIn_eq up, if_neg (by simp [rate]), State.wakesUp_asleep asleep wakes port self]
    exact ⟨rfl, rfl, rfl⟩
  · refine near (State.portUp_near up) rfl ?_
    show State.clk _ = _ ∧ _
    obtain ⟨frame, rate, regs, _⟩ := State.fullRate_marks up
    have ck (o : Nat) (h : o < 0x2000000) : (s.fullRate p).reg (CK o) = s.reg (CK o) := regs _ (ZV_ne_CK _ _ _ h).symm
    have clk : (s.fullRate p).clk = s.clk := frame.same .clk (by decide)
    have hl : (s.fullRate p).hl = s.hl := frame.same .hl (by decide)
    have target := State.nextTarget_congr (frame.same .tick (by decide)) hl clk (fun k hk => ck k (by omega))
    have mode : (s.fullRate p).mode ≠ 0 := by
      rw [show (s.fullRate p).mode = s.mode from State.fld_congr (ck _ (by decide)) 0 2]
      exact asleep
    have port' : (s.fullRate p).upPort = some p.val := (State.upPort_congr (State.fld_congr (regs _ (by unfold ZV; omega)) 0 2)).trans port
    have wakes' : (s.fullRate p).bit (CK 0x200) 0 = true := (State.bit_congr (ck _ (by decide)) 0).trans wakes
    rw [State.wakeIn_eq up, if_pos slow]
    generalize s.fullRate p = t at *
    rw [State.wakesUp_asleep mode wakes' port' (by rw [clk]; exact self)]
    refine ⟨?_, rate, hl, List.mem_append_right _ (List.mem_singleton.mpr rfl)⟩
    show { t.clk with self := some (t.nextTarget, 0) } = _
    rw [clk, target]
  · refine ⟨fun rt => ?_, near loop rfl ?_⟩
    · refine List.forall_mem_cons.mpr ⟨near loop rfl (State.calIn_off off _), List.forall_mem_cons.mpr ⟨near loop rfl (State.echo_off off _),
        List.forall_mem_cons.mpr ⟨near loop rfl (State.nbState_off off _), List.forall_mem_cons.mpr ⟨near loop rfl ?_,
        List.forall_mem_cons.mpr ⟨near loop rfl (State.wakeIn_off off), fun _ h => absurd h List.not_mem_nil⟩⟩⟩⟩⟩
      show (if s.low p then s.nbState p x.toNat else s) = s
      rw [State.nbState_off off, ite_self]
    · show State.chain _ = _ ∧ _
      rw [State.sleepIn_off off]
      obtain ⟨trim, away, _⟩ := s.trimFollow_shows
      exact ⟨trim.same .chain (by decide), away⟩

end Sys2Proof.Machine
end

section
/-! Messages of the Zhevley line from upstream (spec/10 R303, R306 to R308, R315, R333, R334, R379, R51). -/
namespace Sys2Proof.Machine

theorem State.fromUp_up {s : State} {p : Nat} (h : s.fromUp p = true) : s.portUp p = true := State.fromAny_up (by simp [State.fromAny, h])
theorem State.fromDn_up {s : State} {p : Nat} (h : s.fromDn p = true) : s.portUp p = true := State.fromAny_up (by simp [State.fromAny, h])
theorem State.fromUp_head {s : State} {p : Nat} (h : s.fromUp p = true) : s.isHead = false := by
  simp only [State.fromUp, Bool.and_eq_true, Bool.not_eq_true'] at h
  exact h.1.2

/-! ## A CRC error (R303) -/

theorem State.zmsg_bad {s : State} {p : Nat} {m : ZMsg} (bad : m.crcOk = false) (up : s.portUp p = true) (f : State → State) : s.zmsg p m f = s.inc (ZV p 0x24) := by
  unfold State.zmsg
  rw [if_neg (by simp [bad]), if_pos up]

theorem State.zmsg_off {s : State} {p : Nat} {m : ZMsg} (bad : m.crcOk = false) (off : s.portUp p = false) (f : State → State) : s.zmsg p m f = s := by
  unfold State.zmsg
  rw [if_neg (by simp [bad]), if_neg (by simp [off])]

theorem State.zmsg_good {s : State} {p : Nat} {m : ZMsg} (good : m.crcOk = true) (f : State → State) : s.zmsg p m f = f s := if_pos good

/-- The port counts a message whose CRC failed, and nothing else is touched. -/
theorem State.badMsg_shows (s : State) (p : Nat) : (s.inc (ZV p 0x24)).reg (ZV p 0x24) = min (s.reg (ZV p 0x24) + 1) (2 ^ 32 - 1) ∧
    (∀ a, a ≠ ZV p 0x24 → (s.inc (ZV p 0x24)).reg a = s.reg a) ∧ { s.inc (ZV p 0x24) with csr := s.csr } = s :=
  ⟨s.reg_inc_same _, fun _ h => s.reg_inc_ne _ _ h, rfl⟩

theorem State.badMsg_from (s : State) (p : Nat) : (s.inc (ZV p 0x24)).fromUp p = s.fromUp p ∧ (s.inc (ZV p 0x24)).low p = s.low p := by
  have regs : ∀ a, a ≠ ZV p 0x24 → (s.inc (ZV p 0x24)).reg a = s.reg a := (s.badMsg_shows p).2.1
  have zv (q o : Nat) (h : o ≠ 0x24) (ho : o < 0x1000) : (s.inc (ZV p 0x24)).reg (ZV q o) = s.reg (ZV q o) := regs _ (by unfold ZV; omega)
  have gate : (s.inc (ZV p 0x24)).gateOpen (0x28 + p) = s.gateOpen (0x28 + p) := State.bit_congr (regs (CK (0x400 + 4 * (0x28 + p))) (by unfold CK ZV; omega)) 3
  refine ⟨?_, State.bit_congr (zv _ _ (by decide) (by decide)) 1⟩
  have up : (s.inc (ZV p 0x24)).portUp p = s.portUp p := by
    unfold State.portUp State.portOn State.link State.chainRails State.scanned
    rw [State.bit_congr (zv p 4 (by decide) (by decide)), State.bit_congr (zv p 0 (by decide) (by decide)), State.fld_congr (zv p 0 (by decide) (by decide)),
      State.fld_congr (zv p 0 (by decide) (by decide)), gate]
    rfl
  unfold State.fromUp
  rw [State.upPort_congr (State.fld_congr (zv 0 0x820 (by decide) (by decide)) 0 2), up,
    show (s.inc (ZV p 0x24)).isHead = s.isHead from State.bit_congr (zv 0 0x800 (by decide) (by decide)) 25]

theorem State.loseSuper_shows {s : State} {p : Nat} : (s.fromUp p = false → s.loseSuper p = s) ∧
    (s.fromUp p = true → s.loseSuper p = { s with tick := { s.tick with
      sofs := s.tick.sofs.drop 1, superSeq := s.tick.superSeq.map (fun x => (x + 1) % 65536) } }) :=
  ⟨fun h => if_neg (by simp [h]), fun h => if_pos h⟩

/-! ## ENUM (R306 to R308) -/

theorem State.takeAddr_shows (s : State) {a k : Nat} (pos : 0 < a) (ha : a < 4096) (hk : k < 4096) : (s.takeAddr a k).zaddr = a ∧ (s.takeAddr a k).zpos = k ∧
    (s.takeAddr a k).assigned = true ∧ s.changes [.csr] (s.takeAddr a k) ∧ ∀ x, x ≠ ZV 0 0x800 → (s.takeAddr a k).reg x = s.reg x := by
  have addr : (s.takeAddr a k).zaddr = a := by
    refine (State.fld_setBit_other _ _ _ _ (by decide) (by decide)).trans ((State.fld_setFld_other _ _ _ _ _ (by decide) (by decide)).trans
      ((State.fld_setFld_same _ _ _ (by decide)).trans (Nat.mod_eq_of_lt ha)))
  have pos' : (s.takeAddr a k).zpos = k :=
    (State.fld_setBit_other _ _ _ _ (by decide) (by decide)).trans ((State.fld_setFld_same _ _ _ (by decide)).trans (Nat.mod_eq_of_lt hk))
  have known : (s.takeAddr a k).assigned = true := (State.bit_setBit_same _ _ _ (by decide)).trans (by simp; omega)
  exact ⟨addr, pos', known, by simp [State.takeAddr], fun x h => (State.reg_setBit_ne _ _ _ _ _ h).trans
    ((State.reg_setFld_ne _ _ _ _ _ _ h).trans (State.reg_setFld_ne _ _ _ _ _ _ h))⟩

/-- A unit without an address takes the one that ENUM gives it, and reports (R306, R308). -/
theorem State.enumIn_takes {s : State} {p : Nat} {m : ZMsg} (up : s.fromUp p = true) (acc : s.accepts m = true) (none : s.assigned = false) {a k : Nat}
    (ha : a = zfield m 0 2 % 4096 + p / 2 + 1) (hk : k = (zfield m 2 2 + p / 2 + 1) % 4096) (range : a ≤ 0xFFE) :
    s.enumIn p m = (s.takeAddr a k).sendEnumRpt := by
  have ha' : zfield m 0 2 % 4096 + (p / 2 + 1) = a := by omega
  have hk' : (zfield m 2 2 + (p / 2 + 1)) % 4096 = k := by rw [hk, Nat.add_assoc]
  unfold State.enumIn
  rw [if_neg (by simp [up, acc])]
  simp only [ha', hk']
  rw [if_neg (by omega), if_pos (by simp [none])]

/-! ## MBREQ (R346, R379) -/

theorem State.mbreqIn_other {s : State} {p : Nat} {m : ZMsg} (up : s.fromUp p = true) (all : m.dst.toNat ≠ 0xFFF) (h : s.assigned = false ∨ m.dst.toNat ≠ s.zaddr) :
    s.mbreqIn p m = s.passOn downPorts tMbreq m := by
  have mine : (s.assigned && decide (m.dst.toNat = s.zaddr)) = false := by obtain h | h := h <;> simp [h]
  have all' : m.dst ≠ 0xFFF := fun e => all (by rw [e]; rfl)
  unfold State.mbreqIn
  rw [if_neg (by simp [up])]
  simp only [mine, Bool.false_eq_true, if_false, Bool.false_or, all', decide_false]

theorem State.mbreqIn_own {s : State} {p : Nat} {m : ZMsg} (up : s.fromUp p = true) (known : s.assigned = true) (mine : m.dst.toNat = s.zaddr) :
    s.mbreqIn p m = s.mbreqEnter m := by
  unfold State.mbreqIn
  rw [if_neg (by simp [up])]
  simp [known, mine]

/-- A request for an MB1 that is not idle is answered BUSY by the port logic (R346). -/
theorem State.mbreqEnter_busy {s : State} {m : ZMsg} (takes : s.takes 1 = true) (busy : (s.mbox 1).st ≠ .idle) : s.mbreqEnter m =
    s.sendMsg upPorts tMbrsp 0 m.src.toNat (rspBytes (fieldAt (natLE (m.payload.take 256)) 0 2) (fieldAt (natLE (m.payload.take 256)) 4 2) stBUSY [0, 0, 0, 0]) := by
  unfold State.mbreqEnter
  rw [if_neg (by simp [takes])]
  exact if_pos busy

/-- A request for an idle MB1 waits there (R379). -/
theorem State.mbreqEnter_waits {s : State} {m : ZMsg} (takes : s.takes 1 = true) (idle : (s.mbox 1).st = .idle) :
    ((s.mbreqEnter m).mbox 1).st = .waiting ∧ ((s.mbreqEnter m).mbox 1).req = BitVec.ofNat 2048 (natLE (m.payload.take 256)) ∧
    ((s.mbreqEnter m).mbox 1).from_ = m.src.toNat ∧ (∀ k, k ≠ 1 → (s.mbreqEnter m).mbox k = s.mbox k) ∧
    { s.mbreqEnter m with mb := s.mb, hl := s.hl } = s ∧ (s.mbreqEnter m).hl = { s.hl with rings := s.hl.rings + 1 } := by
  have enters : s.mbreqEnter m = (s.setMbox 1 { s.mbox 1 with
      req := BitVec.ofNat 2048 (natLE (m.payload.take 256)), from_ := m.src.toNat, seq := m.seq.toNat, bcast := m.dst = 0xFFF }).ringMb 1 := by
    unfold State.mbreqEnter
    rw [if_neg (by simp [takes])]
    exact if_neg (by simp [idle])
  rw [enters]
  generalize hb : { s.mbox 1 with
      req := BitVec.ofNat 2048 (natLE (m.payload.take 256)), from_ := m.src.toNat, seq := m.seq.toNat, bcast := m.dst = 0xFFF } = b
  have st : b.st = .idle := by rw [← hb]; exact idle
  have req : b.req = BitVec.ofNat 2048 (natLE (m.payload.take 256)) := by rw [← hb]
  have from_ : b.from_ = m.src.toNat := by rw [← hb]
  clear hb
  have mine : (s.setMbox 1 b).mbox 1 = b := mget_mput_same _ _ _ _
  have takes' : (s.setMbox 1 b).takes 1 = true := (State.takes_congr (s := s) (t := s.setMbox 1 b) rfl rfl 1).trans takes
  have rings : (s.setMbox 1 b).ringMb 1 = { (s.setMbox 1 b).setMbox 1 { b with st := .waiting, aged := false, ringNo := s.hl.rings } with
      hl := { s.hl with rings := s.hl.rings + 1 } } := by
    unfold State.ringMb
    rw [mine, if_neg (by simp [takes']), if_neg (by simp [Mbox.busy, st])]
    rfl
  rw [rings]
  have box : ∀ k, (({ (s.setMbox 1 b).setMbox 1 { b with st := .waiting, aged := false, ringNo := s.hl.rings } with
      hl := { s.hl with rings := s.hl.rings + 1 } } : State).mbox k) = ((s.setMbox 1 b).setMbox 1 { b with st := .waiting, aged := false, ringNo := s.hl.rings }).mbox k := fun _ => rfl
  have same : ((s.setMbox 1 b).setMbox 1 { b with st := .waiting, aged := false, ringNo := s.hl.rings }).mbox 1 = { b with st := .waiting, aged := false, ringNo := s.hl.rings } :=
    mget_mput_same _ _ _ _
  rw [box, same]
  exact ⟨rfl, req, from_, fun k hk => (box k).trans ((mget_mput_ne _ _ _ _ _ hk).trans (mget_mput_ne _ _ _ _ _ hk)), rfl, rfl⟩

/-! ## SUPER (R315, R51) -/

/-- The SUPER passed on, and its SOF and those before it forgotten (log 174). -/
def State.superKept (s : State) (m : ZMsg) : State :=
  { s.passOn downPorts tSuper m with tick := { s.tick with sofs := (s.sofsAt m.seq.toNat).drop 1, superSeq := some m.seq.toNat } }

/-- FRAME compared for the SOF `o` that carried the SUPER (R51). -/
def State.superCompared (s : State) (o : Option Sof) (frame : Nat) : State := match o with
  | some ⟨_, some own⟩ => s.compareSof own frame
  | some o => { s with tick := { s.tick with cmp := some (o, frame) } }
  | none => s

/-- Does the SUPER `m` announce another frame length than the unit's? -/
def State.superDiff (s : State) (m : ZMsg) : Bool := decide (zfield m 10 2 % 8192 ≠ s.P)

/-- P_DIFF once where the frame lengths differ (R315). -/
def State.superP (s : State) (m : ZMsg) : State :=
  if s.superDiff m && !s.chain.pDiff then s.fault 0x010D (packLE [(s.P, 2), (zfield m 10 2 % 8192, 2)]) else s

/-- Frame length, generation and chain length of a SUPER (R315). -/
def State.superGen (s : State) (m : ZMsg) : State :=
  let t := (s.superP m).setChain { (s.superP m).chain with pDiff := s.superDiff m, superSeen := true }
  (t.setReg (ZV 0 0x808) (zfield m 6 4)).setFld (ZV 0 0x810) 0 12 (zfield m 14 2)

/-- Generation and EPOCH of a SUPER (R310, R315, R328). -/
def State.superEpoch (s : State) (m : ZMsg) : State :=
  if zfield m 16 2 ≠ s.fld (ZV 0 0x810) 16 16 then
    (((s.setFld (ZV 0 0x810) 16 16 (zfield m 16 2)).genCheck).measure 0).measure 2
  else (s.setFld (ZV 0 0x810) 16 16 (zfield m 16 2)).genCheck

theorem State.superIn_eq {s : State} {p : Nat} {m : ZMsg} (up : s.fromUp p = true) (acc : s.accepts m = true) : s.superIn p m =
    ((((s.superKept m).superCompared (s.sofsAt m.seq.toNat).head?.join (zfield m 0 6)).superGen m).superEpoch m) := by
  unfold State.superIn
  rw [if_neg (by simp [up]), if_neg (by simp [acc])]
  extract_lets u frame l k v j w
  have compared : w = (s.superKept m).superCompared (s.sofsAt m.seq.toNat).head?.join (zfield m 0 6) := by
    show _ = v.superCompared l.head?.join frame
    unfold w State.superCompared
    rcases l.head?.join with _ | ⟨cyc, _ | own⟩
    · rfl
    · rfl
    · rfl
  rw [← compared]
  clear_value w
  rfl

theorem State.superKept_shows (s : State) (m : ZMsg) : s.changes [.chain, .tick] (s.superKept m) ∧
    (s.superKept m).chain = { s.chain with sent := s.chain.sent ++ [(downPorts, .msg tSuper m)] } ∧
    (s.superKept m).tick = { s.tick with sofs := (s.sofsAt m.seq.toNat).drop 1, superSeq := some m.seq.toNat } := ⟨rfl, rfl, rfl⟩

theorem State.superCompared_frame (s : State) (o : Option Sof) (frame : Nat) : s.changes [.tick] (s.superCompared o frame) := by
  rcases o with _ | ⟨cyc, _ | own⟩
  · exact s.changes_refl _
  · rfl
  · show s.changes [.tick] (s.compareSof own frame)
    unfold State.compareSof
    extract_lets want
    split
    · exact s.changes_refl _
    · rfl

theorem State.compareSof_shows (s : State) (own frame : Nat) : (s.src = 2 → addFrame frame (s.fld (CK 0x820) 0 16) ≠ own → (s.compareSof own frame).tick =
      { s.tick with jump := some (addFrame (s.tick.jump.getD 0) (subFrame (addFrame frame (s.fld (CK 0x820) 0 16)) own)) }) ∧
    (s.src ≠ 2 ∨ addFrame frame (s.fld (CK 0x820) 0 16) = own → (s.compareSof own frame).tick = s.tick) := by
  unfold State.compareSof
  extract_lets want
  refine ⟨fun src ne => ?_, fun h => ?_⟩
  · rw [if_neg (by simp [want, src, ne])]
  · rw [if_pos (by obtain h | h := h <;> simp [want, h])]

theorem State.superGen_frame (s : State) (m : ZMsg) : s.changes [.csr, .chain, .hl] (s.superGen m) := by
  simp [State.superGen, State.superP]

theorem State.genCheck_frame (s : State) : s.changes [.csr, .chain, .hl, .probe, .fab] s.genCheck := by
  unfold State.genCheck
  split
  · simp
  · exact s.changes_refl _

theorem State.measure_frame (s : State) (p : Nat) : s.changes [.chain] (s.measure p) := by
  obtain ⟨_, _, same, _⟩ := s.measure_measures p
  rw [same]
  rfl

theorem State.superEpoch_frame (s : State) (m : ZMsg) : s.changes [.csr, .chain, .hl, .probe, .fab] (s.superEpoch m) := by
  have checked : s.changes [.csr, .chain, .hl, .probe, .fab] (s.setFld (ZV 0 0x810) 16 16 (zfield m 16 2)).genCheck :=
    State.changes.trans (by simp) (State.genCheck_frame _)
  unfold State.superEpoch
  generalize (s.setFld (ZV 0 0x810) 16 16 (zfield m 16 2)).genCheck = t at *
  split
  · exact checked.trans (((t.measure_frame 0).trans (State.measure_frame _ 2)).mono (by decide))
  · exact checked

/-- The generator after a SUPER: what its SOF's comparison makes of it (R51). -/
theorem State.superIn_tick {s : State} {p : Nat} {m : ZMsg} (up : s.fromUp p = true) (acc : s.accepts m = true) : (s.superIn p m).tick =
    ((s.superKept m).superCompared (s.sofsAt m.seq.toNat).head?.join (zfield m 0 6)).tick := by
  rw [State.superIn_eq up acc]
  generalize (s.superKept m).superCompared (s.sofsAt m.seq.toNat).head?.join (zfield m 0 6) = t
  exact ((t.superGen m).superEpoch_frame m |>.same .tick (by decide)).trans ((t.superGen_frame m).same .tick (by decide))

theorem fieldAt_lt (x off n : Nat) : fieldAt x off n < 2 ^ (8 * n) := bits_lt _ _ _

/-- A SUPER that agrees with the unit (R315): its generation is noted, and nothing follows. -/
theorem State.superGen_agrees {s : State} {m : ZMsg} (P : zfield m 10 2 % 8192 = s.P) : s.changes [.csr, .chain] (s.superGen m) ∧
    (s.superGen m).chain = { s.chain with pDiff := false, superSeen := true } ∧ (s.superGen m).genAnn = zfield m 6 4 ∧
    (s.superGen m).fld (ZV 0 0x810) 16 16 = s.fld (ZV 0 0x810) 16 16 ∧
    ∀ a, a ≠ ZV 0 0x808 → a ≠ ZV 0 0x810 → (s.superGen m).reg a = s.reg a := by
  have same : s.superDiff m = false := by simp [State.superDiff, P]
  have quiet : s.superP m = s := if_neg (by simp [same])
  unfold State.superGen
  rw [quiet, same]
  generalize hu : s.setChain { s.chain with pDiff := false, superSeen := true } = u
  have frame : s.changes [.csr, .chain] u := by rw [← hu]; simp
  have chain : u.chain = { s.chain with pDiff := false, superSeen := true } := by rw [← hu]; rfl
  have regs : ∀ a, u.reg a = s.reg a := fun a => by rw [← hu]; rfl
  refine ⟨frame.trans (by simp), chain, ?_, ?_, fun a h h' => (State.reg_setFld_ne _ _ _ _ _ _ h').trans ((State.reg_setReg_ne _ _ _ _ h).trans (regs a))⟩
  · refine (State.reg_setFld_ne _ _ _ _ _ _ (by decide)).trans ((State.reg_setReg_same _ _ _).trans (Nat.mod_eq_of_lt ?_))
    exact fieldAt_lt _ _ _
  · exact (State.fld_setFld_other _ _ _ _ _ (by decide) (by decide)).trans (State.fld_congr ((State.reg_setReg_ne _ _ _ _ (by decide)).trans (regs _)) _ _)

theorem State.superEpoch_agrees {s : State} {m : ZMsg} (epoch : zfield m 16 2 = s.fld (ZV 0 0x810) 16 16) (gen : s.genLoaded = s.genAnn) :
    s.superEpoch m = s.setFld (ZV 0 0x810) 16 16 (zfield m 16 2) := by
  unfold State.superEpoch
  rw [if_neg (by simp [epoch])]
  have loaded : (s.setFld (ZV 0 0x810) 16 16 (zfield m 16 2)).genLoaded = (s.setFld (ZV 0 0x810) 16 16 (zfield m 16 2)).genAnn := by
    unfold State.genLoaded State.genAnn at gen ⊢
    rw [State.reg_setFld_ne _ _ _ _ _ _ (by decide), State.reg_setFld_ne _ _ _ _ _ _ (by decide)]
    exact gen
  exact if_neg (by simp [loaded])

theorem State.superIn_agrees {s : State} {p : Nat} {m : ZMsg} (up : s.fromUp p = true) (acc : s.accepts m = true) (lone : (s.sofsAt m.seq.toNat).head?.join = none)
    (P : zfield m 10 2 % 8192 = s.P) (epoch : zfield m 16 2 = s.fld (ZV 0 0x810) 16 16) (gen : zfield m 6 4 = s.genLoaded) :
    s.changes [.csr, .chain, .tick] (s.superIn p m) ∧ (s.superIn p m).genAnn = s.genLoaded ∧
    (s.superIn p m).chain.superSeen = true ∧ (s.superIn p m).chain.sent = s.chain.sent ++ [(downPorts, .msg tSuper m)] ∧
    (s.superIn p m).beached = s.beached := by
  rw [State.superIn_eq up acc, lone]
  obtain ⟨frame, chain, _⟩ := s.superKept_shows m
  show _ ∧ State.genAnn (((s.superKept m).superGen m).superEpoch m) = _ ∧ _
  generalize hk : s.superKept m = t at *
  have compared : t.superCompared none (zfield m 0 6) = t := rfl
  rw [compared]
  have csr : t.csr = s.csr := frame.same .csr (by decide)
  have regs := State.reg_congr csr
  obtain ⟨gFrame, gChain, ann, ep, rest⟩ := State.superGen_agrees (s := t) (m := m) (P.trans (State.fld_congr (regs _) 0 13).symm)
  generalize t.superGen m = u at *
  have loaded : u.genLoaded = s.genLoaded := by
    unfold State.genLoaded
    rw [rest _ (by decide) (by decide), regs, gChain, chain]
  rw [State.superEpoch_agrees (by rw [ep, State.fld_congr (regs _)]; exact epoch) (by rw [loaded, ann, gen])]
  have kept : ∀ a, a ≠ ZV 0 0x810 → (u.setFld (ZV 0 0x810) 16 16 (zfield m 16 2)).reg a = u.reg a := fun a h => u.reg_setFld_ne _ _ _ _ _ h
  have setChain : (u.setFld (ZV 0 0x810) 16 16 (zfield m 16 2)).chain = u.chain := rfl
  have whole : s.changes [.csr, .chain, .tick] u := (frame.mono (by decide)).trans (gFrame.mono (by decide))
  rw [setChain, gChain, chain]
  refine ⟨whole.trans (by rfl), (kept _ (by decide)).trans (ann.trans gen), rfl, rfl, ?_⟩
  exact (State.bit_congr (kept _ (by decide)) 26).trans ((State.bit_congr (rest _ (by decide) (by decide)) 26).trans (State.bit_congr (regs _) 26))

end Sys2Proof.Machine
end

section
/-! Broadcasts and messages from downstream, CALD and FAULT (spec/10 R310, R330, R331, R333, R334, R379). -/
namespace Sys2Proof.Machine

/-! ## The end of a load that a broadcast fed (R333, R334) -/

/-- What the end of a load leaves of the unit's part in the broadcast. -/
theorem State.rejected_rx (s : State) (accepted : Bool) : (s.rejected accepted).chain.rx = s.chain.rx := by
  unfold State.rejected
  split
  · rw [State.unconfigure_chain]
  · split
    · have frame : s.changes unconfiguredParts (s.ld.held.foldl (fun t r => t.failRegion s.ld (s.tied r) r) (s.eachTarget s.ld (fun r c t => t.unloadTarget r c))) := by
        simp
      exact congrArg Chain.rx (frame.same .chain (by decide) :)
    · rfl

theorem State.postReport_rx (s : State) (f : Fail) (accepted : Bool) : (s.postReport f accepted).chain.rx = s.chain.rx := by
  unfold State.postReport
  extract_lets l rep u v
  show v.chain.rx = _
  unfold v
  split
  · rfl
  · rfl

theorem State.originate_rx (s : State) (r : FRep) : (s.originate r).chain.rx = s.chain.rx := by
  obtain ⟨_, _, _, _, _, chain⟩ := s.originate_reported r
  rw [chain]

theorem State.tellUnconfigured_ends (s : State) : s.tellUnconfigured.chain.rx = s.chain.rx ∧ s.tellUnconfigured.ld = s.ld := by
  unfold State.tellUnconfigured
  split
  · exact ⟨rfl, rfl⟩
  · generalize hu : ({ s with bt := { s.bt with told := true } } : State).fault 0x0107 (s.ld.report.toNat % 2 ^ 160) = u
    have rx : u.chain.rx = s.chain.rx := by rw [← hu]; rfl
    have ld : u.ld = s.ld := by rw [← hu]; rfl
    have frame : u.changes [.chain, .hl] (u.selfReport 5 0x0107) := by simp
    exact ⟨(State.originate_rx u _).trans rx, (frame.same .ld (by decide)).trans ld⟩

/-- A load that no boot procedure started ends, and with it nothing of the unit's part in a broadcast. -/
theorem State.failLoad_ends {s : State} (f : Fail) (boot : s.ld.boot = false) (on : s.bt.on = false) :
    (s.failLoad f).ld.phase = .idle ∧ (s.failLoad f).chain.rx = s.chain.rx := by
  unfold State.failLoad
  rw [State.rejectLoad_commanded f _ boot on]
  generalize decide (s.ld.phase ≠ .header) = accepted
  have rx := ((s.rejected accepted).postReport_rx f accepted).trans (s.rejected_rx accepted)
  have idle := ((s.rejected accepted).postReport_ld f accepted).1
  generalize (s.rejected accepted).postReport f accepted = t at *
  obtain ⟨rx', ld⟩ := t.tellUnconfigured_ends
  split
  · exact ⟨by rw [ld]; exact idle, rx'.trans rx⟩
  · exact ⟨idle, rx⟩

/-! ## BCAST and IMAGE (R333 to R335) -/

section
variable {s : State} {p : Nat} {m : ZMsg} (up : s.fromUp p = true)
include up

theorem State.bcastIn_eq (acc : s.accepts m = true) : s.bcastIn p m =
    (if m.payload.length < 5 then
      let t := (s.passOn downPorts tBcast m).setChain { (s.passOn downPorts tBcast m).chain with rx := {} }
      if s.chain.rx.loads && decide (m.payload = [1]) && s.ld.source = 3 && s.ld.phase ≠ .idle then t.failLoad { status := stCONFLICT, detail := dABORTED } else t
    else
      let t := (s.passOn downPorts tBcast m).setChain { (s.passOn downPorts tBcast m).chain with
        rx := { on := true, loads := s.takesBcast (zfield m 0 4) (zfield m 4 1) } }
      if s.takesBcast (zfield m 0 4) (zfield m 4 1) then t.beginChain else t) := by
  unfold State.bcastIn
  rw [if_neg (by simp [up]), if_neg (by simp [acc])]
  rfl

theorem State.bcastIn_closes (acc : s.accepts m = true) (empty : m.payload.length = 0) : s.bcastIn p m = s.setChain { s.chain with
    rx := {}, sent := s.chain.sent ++ [(downPorts, .msg tBcast m)] } := by
  have nil : m.payload = [] := List.length_eq_zero_iff.mp empty
  rw [State.bcastIn_eq up acc, if_pos (by omega)]
  exact if_neg (by simp [nil])

theorem State.bcastIn_aborts (acc : s.accepts m = true) (one : m.payload = [1]) (loads : s.chain.rx.loads = true) (source : s.ld.source = 3)
    (runs : s.ld.phase ≠ .idle) : s.bcastIn p m =
    ((s.passOn downPorts tBcast m).setChain { (s.passOn downPorts tBcast m).chain with rx := {} }).failLoad { status := stCONFLICT, detail := dABORTED } := by
  rw [State.bcastIn_eq up acc, if_pos (by rw [one]; decide)]
  exact if_pos (by simp [one, loads, source, runs])

theorem State.bcastIn_refuses (acc : s.accepts m = true) (long : 5 ≤ m.payload.length) (no : s.takesBcast (zfield m 0 4) (zfield m 4 1) = false) :
    s.bcastIn p m = s.setChain { s.chain with rx := { on := true }, sent := s.chain.sent ++ [(downPorts, .msg tBcast m)] } := by
  rw [State.bcastIn_eq up acc, if_neg (by omega), no]
  rfl

theorem State.imageIn_passes (good : m.crcOk = true) (acc : s.accepts m = true) (rate : s.low p = false) (idle : s.chain.rx.loads = false) :
    s.imageIn p m = s.passOn downPorts tImage m := by
  unfold State.imageIn
  rw [if_neg (by simp [good]), if_neg (by simp [up, rate]), if_neg (by simp [acc])]
  exact if_pos (by simp [State.passOn, State.sendZ, idle])

theorem State.imageIn_feeds (good : m.crcOk = true) (acc : s.accepts m = true) (rate : s.low p = false) (loads : s.chain.rx.loads = true)
    (seq : m.seq.toNat = s.chain.rx.seq % 65536) (source : s.ld.source = 3) (wants : s.ld.wants = true) : s.imageIn p m =
    ((s.passOn downPorts tImage m).setChain { (s.passOn downPorts tImage m).chain with rx := { s.chain.rx with seq := s.chain.rx.seq + 1 } }).feed m.payload := by
  have kept : (s.passOn downPorts tImage m).chain.rx = s.chain.rx := rfl
  unfold State.imageIn
  rw [if_neg (by simp [good]), if_neg (by simp [up, rate]), if_neg (by simp [acc])]
  extract_lets u x v
  have hx : x = s.chain.rx := rfl
  rw [if_neg (by simp [hx, loads]), if_neg (by simp [hx, seq])]
  exact if_pos (by
    show (decide (s.ld.source = 3) && s.ld.wants) = true
    simp [source, wants])

/-- An IMAGE whose CRC fails ends the load that it feeds (R334). -/
theorem State.imageIn_breaks (bad : m.crcOk = false) (rate : s.low p = false) (source : s.ld.source = 3) (runs : s.ld.phase ≠ .idle)
    (loads : s.chain.rx.loads = true) : s.imageIn p m =
    ((s.inc (ZV p 0x24)).setChain { s.chain with rx := { s.chain.rx with loads := false } }).failLoad { status := stCHECK_FAIL, detail := dCRC } := by
  unfold State.imageIn
  rw [if_pos (by simp [bad]), State.zmsg_bad bad (State.fromUp_up up)]
  refine (if_pos (by simp [up, rate])).trans ?_
  unfold State.bcastBroken
  exact if_pos (by
    show (s.chain.rx.loads && decide (s.ld.source = 3) && decide (s.ld.phase ≠ .idle)) = true
    simp [loads, source, runs])

end

/-- An IMAGE whose CRC fails, at a unit that loads nothing from it, is counted. -/
theorem State.imageIn_bad {s : State} {p : Nat} {m : ZMsg} (bad : m.crcOk = false) (up : s.portUp p = true) (idle : s.chain.rx.loads = false) :
    s.imageIn p m = s.inc (ZV p 0x24) := by
  unfold State.imageIn
  rw [if_pos (by simp [bad]), State.zmsg_bad bad up]
  have kept : (s.inc (ZV p 0x24)).chain.rx = s.chain.rx := rfl
  have broken : (s.inc (ZV p 0x24)).bcastBroken = s.inc (ZV p 0x24) := by
    unfold State.bcastBroken
    rw [kept, idle]
    have same : { s.chain.rx with loads := false } = s.chain.rx := by rw [← idle]
    rw [same]
    rfl
  show (if _ then _ else _) = _
  rw [broken, ite_self]

/-! ## ENUM_RPT, LOAD_RPT, MBRSP (R308, R334, R379) -/

section
variable {s : State} {p : Nat} {m : ZMsg} (dn : s.fromDn p = true)
include dn

theorem State.enumRptIn_passes (head : s.isHead = false) : s.enumRptIn p m = s.passOn upPorts tEnumRpt m := by
  unfold State.enumRptIn
  rw [if_neg (by simp [dn]), if_pos (by simp [head])]

theorem State.loadRptIn_passes (head : s.isHead = false) : s.loadRptIn p m = s.passOn upPorts tLoadRpt m := by
  unfold State.loadRptIn
  rw [if_neg (by simp [dn]), if_pos (by simp [head])]

theorem State.mbrspIn_passes (head : s.isHead = false) : s.mbrspIn p m = s.passOn upPorts tMbrsp m := by
  unfold State.mbrspIn
  rw [if_neg (by simp [dn]), if_pos (by simp [head])]

/-- The head keeps the report in its roster, by its position. -/
theorem State.enumRptIn_keeps (head : s.isHead = true) : (∃ e, e ∈ (s.enumRptIn p m).chain.roster ∧ e.pos = zfield m 2 2 % 4096 ∧ e.addr = zfield m 0 2 % 4096) ∧
    (∀ e ∈ s.chain.roster, e.pos ≠ zfield m 2 2 % 4096 → e ∈ (s.enumRptIn p m).chain.roster) ∧
    (∀ a, a ≠ ZV 0 0x810 → (s.enumRptIn p m).reg a = s.reg a) ∧ { s.enumRptIn p m with chain := s.chain, csr := s.csr } = s := by
  have keeps : s.enumRptIn p m = s.putRoster { pos := zfield m 2 2 % 4096, addr := zfield m 0 2 % 4096, fin := (zfield m 4 1).testBit 0, uid := BitVec.ofNat 128 (zfield m 8 16) } := by
    unfold State.enumRptIn
    rw [if_neg (by simp [dn]), if_neg (by simp [head])]
  rw [keeps]
  generalize he : ({ pos := zfield m 2 2 % 4096, addr := zfield m 0 2 % 4096, fin := (zfield m 4 1).testBit 0, uid := BitVec.ofNat 128 (zfield m 8 16) } : Roster) = e
  have pos : e.pos = zfield m 2 2 % 4096 := by rw [← he]
  have addr : e.addr = zfield m 0 2 % 4096 := by rw [← he]
  have roster : (s.putRoster e).chain.roster = s.chain.roster.filter (fun x => x.pos ≠ e.pos) ++ [e] := rfl
  obtain ⟨frame, _, _, regs⟩ := s.putRoster_frame e
  rw [roster]
  refine ⟨⟨e, by simp, pos, addr⟩, fun x hx ne => ?_, regs, frame.mono (by decide : [Part.csr, .chain] ⊆ [.chain, .csr])⟩
  exact List.mem_append_left _ (List.mem_filter.mpr ⟨hx, by simpa [pos] using ne⟩)

theorem State.loadRptIn_counts (head : s.isHead = true) (runs : s.chain.bcast.st = 1) : s.loadRptIn p m =
    if zfield m 0 1 = 0 then s.setChain { s.chain with bcast := { s.chain.bcast with ok := s.chain.bcast.ok + 1 } }
    else s.setChain { s.chain with bcast := { s.chain.bcast with
      failN := s.chain.bcast.failN + 1
      fails := if 64 ≤ s.chain.bcast.fails.length then s.chain.bcast.fails else s.chain.bcast.fails ++ [(m.src.toNat, zfield m 0 24)] } } := by
  unfold State.loadRptIn
  rw [if_neg (by simp [dn]), if_neg (by simp [head])]
  exact if_neg (by simp [runs])

/-- A response that one FORWARD slot waits for. -/
theorem State.mbrspIn_answers (head : s.isHead = true) (plain : m.flg.getLsbD 0 = false) {f : Fwd} (only : s.chain.fwd = [f]) (fin : f.fin = false)
    {rsp : BitVec 2048} (hrsp : rsp = BitVec.ofNat 2048 (natLE (m.payload.take 256))) (op : f.op = fieldAt rsp.toNat 0 2) (tag : f.tag = fieldAt rsp.toNat 4 2)
    (dst : f.dst = 0xFFF ∨ f.dst = m.src.toNat) : s.mbrspIn p m = s.setChain { s.chain with fwd := [f.answer m.src.toNat rsp] } := by
  subst hrsp
  have found : s.chain.fwd.find? (fun f => !f.fin && f.op = fieldAt (BitVec.ofNat 2048 (natLE (m.payload.take 256))).toNat 0 2 &&
      f.tag = fieldAt (BitVec.ofNat 2048 (natLE (m.payload.take 256))).toNat 4 2 && (f.dst = 0xFFF || f.dst = m.src.toNat)) = some f := by
    rw [only, List.find?_cons_of_pos]
    rw [fin, ← op, ← tag]
    simpa using dst
  unfold State.mbrspIn
  rw [if_neg (by simp [dn]), if_neg (by simp [head]), if_neg (by rw [plain]; decide)]
  simp only [found]
  simp [only]

end

theorem rspField {l : List Byte} (h : l.length ≤ 256) (off n : Nat) : fieldAt (BitVec.ofNat 2048 (natLE (l.take 256))).toNat off n = fieldAt (natLE l) off n := by
  have lt : natLE l < 2 ^ 2048 := Nat.lt_of_lt_of_le (natLE_lt l) (Nat.pow_le_pow_right (by decide) (by omega))
  rw [List.take_of_length_le h, BitVec.toNat_ofNat, Nat.mod_eq_of_lt lt]

/-- A response of one of the units that a FORWARD to all went to (R380). -/
theorem Fwd.answer_all {f : Fwd} (all : f.dst = 0xFFF) (src : Nat) (rsp : BitVec 2048) : (f.answer src rsp).answered = f.answered + 1 ∧
    ((f.answer src rsp).fin = true ↔ f.units ≤ f.answered + 1) ∧
    (fieldAt rsp.toNat 6 1 = 0 → (f.answer src rsp).okN = f.okN + 1 ∧ (f.answer src rsp).failed = f.failed) ∧
    (fieldAt rsp.toNat 6 1 ≠ 0 → (f.answer src rsp).okN = f.okN ∧ (f.answer src rsp).failed = f.failed + 1) := by
  unfold Fwd.answer
  rw [if_neg (by simp [all])]
  refine ⟨rfl, by simp, fun h => ?_, fun h => ?_⟩
  · simp [h]
  · simp [h]

theorem Fwd.answer_one {f : Fwd} (one : f.dst ≠ 0xFFF) (src : Nat) (rsp : BitVec 2048) : f.answer src rsp = { f with fin := true, rsp := rsp } := if_pos one

/-! ## CALD (R310, R311) -/

/-- What CALD tells port `p`. -/
def State.caldTold (s : State) (p d e : Nat) : State :=
  let t := (s.setReg (ZV p 0xC) d).setReg (ZV p 0x10) e
  t.setChain { t.chain with heard := if t.chain.heard.contains p then t.chain.heard else t.chain.heard ++ [p] }

theorem State.caldIn_eq {s : State} {p : Nat} {m : ZMsg} (even : p % 2 = 0) (up : s.portUp p = true) (head : s.isHead = false) (acc : s.accepts m = true) :
    s.caldIn p m = if ((zfield m 0 4 ≠ s.reg (ZV p 0xC) || zfield m 4 4 ≠ s.reg (ZV p 0x10) || !s.chain.heard.contains p) &&
        (s.caldTold p (zfield m 0 4) (zfield m 4 4)).upPort = some p && s.chain.calib.contains p) = true
      then (s.caldTold p (zfield m 0 4) (zfield m 4 4)).calibrate p else s.caldTold p (zfield m 0 4) (zfield m 4 4) := by
  unfold State.caldIn
  rw [if_neg (by simp [even, up, head, acc])]
  rfl

theorem State.caldTold_shows (s : State) (p : Nat) {d e : Nat} (hd : d < 2 ^ 32) (he : e < 2 ^ 32) : s.changes [.csr, .chain] (s.caldTold p d e) ∧
    p ∈ (s.caldTold p d e).chain.heard ∧ (s.caldTold p d e).reg (ZV p 0xC) = d ∧ (s.caldTold p d e).reg (ZV p 0x10) = e ∧
    (∀ a, a ≠ ZV p 0xC → a ≠ ZV p 0x10 → (s.caldTold p d e).reg a = s.reg a) := by
  refine ⟨by simp [State.caldTold], mem_put rfl, ?_, ?_, fun a h h' => (State.reg_setReg_ne _ _ _ _ h').trans (State.reg_setReg_ne _ _ _ _ h)⟩
  · exact (State.reg_setReg_ne _ _ _ _ (by simp)).trans ((State.reg_setReg_same _ _ _).trans (Nat.mod_eq_of_lt hd))
  · exact (State.reg_setReg_same _ _ _).trans (Nat.mod_eq_of_lt he)

/-- CALD on an UP port (R310): D and E of the port; a change on the active one ends in a calibration (R311). -/
theorem State.cald_shows {s : State} {p : Nat} {m : ZMsg} (even : p % 2 = 0) (p4 : p < 4) (up : s.portUp p = true) (head : s.isHead = false) (acc : s.accepts m = true)
    {d e : Nat} (hd : d = zfield m 0 4) (he : e = zfield m 4 4) : p ∈ (s.caldIn p m).chain.heard ∧ (s.caldIn p m).reg (ZV p 0xC) = d ∧ (s.caldIn p m).reg (ZV p 0x10) = e ∧
    ((s.chain.heard.contains p = false ∨ d ≠ s.reg (ZV p 0xC) ∨ e ≠ s.reg (ZV p 0x10)) → s.upPort = some p → s.chain.calib.contains p = true → s.calibrated (s.caldIn p m) p) ∧
    (¬(s.chain.heard.contains p = false ∨ d ≠ s.reg (ZV p 0xC) ∨ e ≠ s.reg (ZV p 0x10)) ∨ s.upPort ≠ some p ∨ s.chain.calib.contains p = false →
      (∀ a, a ≠ ZV p 0xC → a ≠ ZV p 0x10 → (s.caldIn p m).reg a = s.reg a) ∧ { s.caldIn p m with csr := s.csr, chain := s.chain } = s) := by
  rw [State.caldIn_eq even up head acc, ← hd, ← he]
  obtain ⟨frame, heard, atD, atE, regs⟩ := s.caldTold_shows p (by rw [hd]; exact fieldAt_lt _ _ _ : d < 2 ^ 32) (by rw [he]; exact fieldAt_lt _ _ _ : e < 2 ^ 32)
  generalize s.caldTold p d e = t at *
  have port : t.upPort = s.upPort := State.upPort_congr (State.fld_congr (regs _ (by unfold ZV; omega) (by unfold ZV; omega)) 0 2)
  split
  · next cal =>
    simp only [port, Bool.and_eq_true, Bool.or_eq_true, decide_eq_true_eq, Bool.not_eq_true'] at cal
    obtain ⟨⟨fresh, active⟩, own⟩ := cal
    obtain ⟨cFrame, cChain, done, cRegs⟩ := t.calibrate_shows p
    obtain ⟨_, _, _, m4, _⟩ := cChain.marks
    refine ⟨by rw [m4]; exact heard, (cRegs _ (by simp [ZV, CK]; omega)).trans atD, (cRegs _ (by simp [ZV, CK]; omega)).trans atE, fun _ _ _ => ?_, fun h => absurd h ?_⟩
    · exact State.calibrated_congr (frame.same .clk (by decide)) (fun k hk => regs _ (by unfold CK ZV; omega) (by unfold CK ZV; omega)) done
    · rintro (h | h | h)
      · refine h ?_
        obtain (a | b) | c := fresh
        · exact .inr (.inl a)
        · exact .inr (.inr b)
        · exact .inl c
      · exact h active
      · rw [h] at own
        exact absurd own (by decide)
  · next cal =>
    refine ⟨heard, atD, atE, fun fresh active own => absurd ?_ cal, fun _ => ⟨regs, frame⟩⟩
    simp only [port, active, own, Bool.and_eq_true, Bool.or_eq_true, decide_eq_true_eq, Bool.not_eq_true', and_true]
    obtain c | a | b := fresh
    · exact .inr c
    · exact .inl (.inl a)
    · exact .inl (.inr b)

/-! ## FAULT (R330, R331) -/

/-- The consequences of a report enter the table of 4 behind it: with at most 3 it stays. -/
theorem enterFaults_keeps (w : List FRep) {s : State} {pre post : List FEntry} {e : FEntry} (tab : s.chain.ftab = pre ++ e :: post)
    (few : post.length + w.length ≤ 3) : e ∈ (w.foldl (fun t x => t.enterFault x.origin x.code true) s).chain.ftab := by
  induction w generalizing s pre post with
  | nil => simp [tab]
  | cons x w ih =>
    have entered : (s.enterFault x.origin x.code true).chain.ftab = s.chain.ftab.drop (s.chain.ftab.length - 3) ++ [⟨x.origin, x.code, s.timePs, true⟩] := rfl
    have len : s.chain.ftab.length - 3 ≤ pre.length := by
      rw [tab, List.length_append, List.length_cons]
      rw [List.length_cons] at few
      omega
    have kept : (s.enterFault x.origin x.code true).chain.ftab =
        pre.drop (s.chain.ftab.length - 3) ++ e :: (post ++ [⟨x.origin, x.code, s.timePs, true⟩]) := by
      rw [entered]
      generalize s.chain.ftab.length - 3 = n at len
      rw [tab, List.drop_append_of_le_length len, List.append_assoc]
      rfl
    exact ih kept (by rw [List.length_cons] at few; rw [List.length_append, List.length_singleton]; omega)

theorem enterFaults_frame (w : List FRep) (s : State) : s.changes [.chain] (w.foldl (fun t x => t.enterFault x.origin x.code true) s) ∧
    (w.foldl (fun t x => t.enterFault x.origin x.code true) s).chain.sent = s.chain.sent :=
  ⟨State.changes_foldl (l := [.chain]) (f := fun (t : State) (x : FRep) => t.enterFault x.origin x.code true) (fun _ _ => rfl) w s, foldl_leaves (fun t => t.chain.sent) (f := fun (t : State) (x : FRep) => t.enterFault x.origin x.code true) (fun _ _ => rfl) w s⟩

/-- A report that is known is dropped. -/
theorem State.faultIn_known {s : State} {p : Nat} {m : ZMsg} (h : s.knownFault (zfield m 0 2 % 4096) (zfield m 2 1) = true) : s.faultIn p m = s := if_pos h

/-- A new report is entered and passed on (R331). -/
theorem State.faultIn_enters {s : State} {p : Nat} {m : ZMsg} (new : s.knownFault (zfield m 0 2 % 4096) (zfield m 2 1) = false) (acc : s.accepts m = true)
    (head : s.isHead = false) (few : s.chain.waits.length ≤ 3) : (s.faultIn p m).knownFault (zfield m 0 2 % 4096) (zfield m 2 1) = true ∧
    (s.faultIn p m).chain.sent = s.chain.sent ++ [((upPorts ++ downPorts).filter (· ≠ p), .msg tFault m)] ∧ { s.faultIn p m with chain := s.chain } = s := by
  have into : ∃ u, s.faultIn p m = u ∧ { u with chain := s.chain } = s ∧ u.chain.sent = s.chain.sent ++ [((upPorts ++ downPorts).filter (· ≠ p), .msg tFault m)] ∧
      ∃ e ∈ u.chain.ftab, e.origin = zfield m 0 2 % 4096 ∧ e.code = zfield m 2 1 ∧ e.ps = s.timePs := by
    unfold State.faultIn
    extract_lets r v near c x w
    rw [if_neg (by simp [r, new]), if_neg (by simp [acc])]
    have vFrame : { v with chain := s.chain } = s := rfl
    have vSent : v.chain.sent = s.chain.sent ++ [((upPorts ++ downPorts).filter (· ≠ p), .msg tFault m)] := rfl
    have vTab : v.chain.ftab = s.chain.ftab.drop (s.chain.ftab.length - 3) ++ ⟨zfield m 0 2 % 4096, zfield m 2 1, s.timePs, false⟩ :: [] := rfl
    have vWaits : v.chain.waits = s.chain.waits := rfl
    have vHead : v.isHead = s.isHead := rfl
    clear_value v r
    have wTab : { w with chain := s.chain } = s ∧ w.chain.sent = v.chain.sent ∧ ⟨zfield m 0 2 % 4096, zfield m 2 1, s.timePs, false⟩ ∈ w.chain.ftab := by
      unfold w
      split
      · have tab : (v.setChain { v.chain with waits := [] }).chain.ftab = v.chain.ftab := rfl
        obtain ⟨frame, sent⟩ := enterFaults_frame v.chain.waits (v.setChain { v.chain with waits := [] })
        refine ⟨?_, sent, enterFaults_keeps v.chain.waits (tab.trans vTab) (by rw [List.length_nil]; show 0 + v.chain.waits.length ≤ 3; rw [vWaits]; omega)⟩
        have cleared : v.changes [.chain] (v.setChain { v.chain with waits := [] }) := by rfl
        exact State.changes.trans (l := [.chain]) vFrame (cleared.trans frame)
      · exact ⟨vFrame, rfl, by rw [vTab]; simp⟩
    obtain ⟨wFrame, wSent, wMem⟩ := wTab
    have wHead : w.isHead = false := by
      rw [← head]
      exact State.bit_congr (State.reg_congr (State.changes.same (l := [.chain]) wFrame .csr (by decide)) _) 25
    clear_value w
    exact ⟨w, State.headRecord_stays wHead _, wFrame, wSent.trans vSent, _, wMem, rfl, rfl, rfl⟩
  obtain ⟨u, run, frame, sent, e, mem, origin, code, ps⟩ := into
  rw [run]
  refine ⟨?_, sent, frame⟩
  have time : u.timePs = s.timePs := State.changes.same (l := [.chain]) frame .timePs (by decide)
  unfold State.knownFault
  refine List.any_eq_true.mpr ⟨e, mem, ?_⟩
  simp [origin, code, ps, time, ms10]

/-! ## Each message at a port that is on -/

/-- SOFs that wait, less those whose SUPER is lost. -/
theorem State.sofsAt_eq (s : State) (q : Nat) : s.sofsAt q = s.tick.sofs.drop ((s.tick.superSeq.map (fun x => (q + 65536 - (x + 1) % 65536) % 65536)).getD 0) := by
  unfold State.sofsAt
  split
  · next x h => rw [h]; rfl
  · next h => rw [h]; rfl

/-- Settles O49, from what each message does at a port that takes it, at one that is off, in far-end loopback, and with a wrong CRC. -/
theorem messages : Obligations.Messages := by
  intro s p m calm
  have near {c : Instr} {o : ZOut} {f : State → State} {P : State → Prop} (loop : s.portFar p = false) (run : exec c s = .next (s.looped p o f)) (h : P (f s)) :
      Completes c s P := completes_intro run (by rwa [State.looped_near loop])
  have taken {c : Instr} {o : ZOut} {f : State → State} {P : State → Prop} (good : m.crcOk = true) (up : s.portUp p = true)
      (run : exec c s = .next (s.looped p o (fun u => u.zmsg p m f))) (h : P (f s)) : Completes c s P :=
    near (State.portUp_near up) run (by rwa [State.zmsg_good good])
  have isCalm {l : List Part} {t : State} (h : s.changes l t) (away : l ⊆ [.csr, .chain, .tick, .hl]) : calm t :=
    have wide := h.mono away
    ⟨wide.same .mem (by decide), wide.same .rg (by decide), wide.same .qs (by decide), wide.same .life (by decide), wide.same .store (by decide)⟩
  refine ⟨fun far => ?_, fun bad up => ?_, fun bad off loop => ?_, fun bad => ?_, fun bad up idle => ?_, fun bad from_ rate source runs loads boot on => ?_,
    fun good from_ acc => ?_, fun good from_ => ?_, fun good even up head acc d e hd he => ?_, fun good from_ o c ho hc => ⟨fun known => ?_, fun new acc head few => ?_⟩⟩
  · have sent (o : ZOut) (f : State → State) := State.looped_shows far o f
    refine List.forall_mem_cons.mpr ⟨completes_intro rfl (sent _ _), List.forall_mem_cons.mpr ⟨completes_intro rfl (sent _ _),
      List.forall_mem_cons.mpr ⟨completes_intro rfl (sent _ _), List.forall_mem_cons.mpr ⟨completes_intro rfl (sent _ _),
      List.forall_mem_cons.mpr ⟨completes_intro rfl (sent _ _), List.forall_mem_cons.mpr ⟨completes_intro rfl (sent _ _),
      List.forall_mem_cons.mpr ⟨completes_intro rfl (sent _ _), List.forall_mem_cons.mpr ⟨completes_intro rfl (sent _ _),
      List.forall_mem_cons.mpr ⟨completes_intro rfl (sent _ _), List.forall_mem_cons.mpr ⟨completes_intro rfl (sent _ _),
      fun _ h => absurd h List.not_mem_nil⟩⟩⟩⟩⟩⟩⟩⟩⟩⟩
  · refine near (f := fun t => if m.crcOk then t.superIn p.val m else (t.zmsg p.val m id).loseSuper p.val) (State.portUp_near up) rfl ?_
    have lost : (if m.crcOk then s.superIn p.val m else (s.zmsg p.val m id).loseSuper p.val) = (s.inc (ZV p 0x24)).loseSuper p := by
      rw [if_neg (by simp [bad]), State.zmsg_bad bad up]
    show State.reg (if m.crcOk then s.superIn p.val m else (s.zmsg p.val m id).loseSuper p.val) _ = _ ∧ _
    rw [lost]
    obtain ⟨counted, regs, only⟩ := s.badMsg_shows p
    obtain ⟨fromSame, _⟩ := s.badMsg_from p
    cases h : s.fromUp p with
    | false =>
      rw [State.loseSuper_shows.1 (fromSame.trans h)]
      exact ⟨counted, regs, fun _ => only, fun k => absurd k (by decide)⟩
    | true =>
      rw [State.loseSuper_shows.2 (fromSame.trans h)]
      exact ⟨counted, regs, fun k => absurd k (by decide), fun _ => rfl⟩
  · refine near (f := fun t => if m.crcOk then t.superIn p.val m else (t.zmsg p.val m id).loseSuper p.val) loop rfl ?_
    show (if m.crcOk then s.superIn p.val m else (s.zmsg p.val m id).loseSuper p.val) = s
    rw [if_neg (by simp [bad]), State.zmsg_off bad off]
    exact State.loseSuper_shows.1 (by simp [State.fromUp, off])
  · have one {c : Instr} {o : ZOut} {f : State → State} (run : exec c s = .next (s.looped p o (fun u => u.zmsg p m f))) :
        (s.portUp p = true → Completes c s (fun t => t.reg (ZV p 0x24) = min (s.reg (ZV p 0x24) + 1) (2 ^ 32 - 1) ∧
          (∀ a, a ≠ ZV p 0x24 → t.reg a = s.reg a) ∧ { t with csr := s.csr } = s)) ∧
        (s.portUp p = false → s.portFar p = false → Completes c s (fun t => t = s)) := by
      refine ⟨fun up => near (State.portUp_near up) run ?_, fun off loop => near loop run (State.zmsg_off bad off f)⟩
      rw [State.zmsg_bad bad up]
      exact s.badMsg_shows p
    exact List.forall_mem_cons.mpr ⟨one rfl, List.forall_mem_cons.mpr ⟨one rfl, List.forall_mem_cons.mpr ⟨one rfl, List.forall_mem_cons.mpr ⟨one rfl,
      List.forall_mem_cons.mpr ⟨one rfl, List.forall_mem_cons.mpr ⟨one rfl, List.forall_mem_cons.mpr ⟨one rfl, List.forall_mem_cons.mpr ⟨one rfl,
      fun _ h => absurd h List.not_mem_nil⟩⟩⟩⟩⟩⟩⟩⟩
  · refine near (State.portUp_near up) rfl ?_
    rw [State.imageIn_bad bad up idle]
    exact s.badMsg_shows p
  · refine near (State.portUp_near (State.fromUp_up from_)) rfl ?_
    rw [State.imageIn_breaks from_ bad rate source runs loads]
    obtain ⟨phase, rx⟩ := State.failLoad_ends (s := (s.inc (ZV p 0x24)).setChain { s.chain with rx := { s.chain.rx with loads := false } })
      { status := stCHECK_FAIL, detail := dCRC } boot on
    exact ⟨phase, by rw [rx]; rfl⟩
  · have up := State.fromUp_up from_
    have super {P : State → Prop} (h : P (s.superIn p m)) : Completes (.superMsg p m) s P := by
      refine near (f := fun t => if m.crcOk then t.superIn p.val m else (t.zmsg p.val m id).loseSuper p.val) (State.portUp_near up) rfl ?_
      rwa [if_pos good]
    have sofs {l : List (Option Sof)} (hl : l = s.tick.sofs.drop ((s.tick.superSeq.map (fun x => (m.seq.toNat + 65536 - (x + 1) % 65536) % 65536)).getD 0)) :
        s.sofsAt m.seq.toNat = l := (s.sofsAt_eq _).trans hl.symm
    have kept {l : List (Option Sof)} (hl : l = s.tick.sofs.drop ((s.tick.superSeq.map (fun x => (m.seq.toNat + 65536 - (x + 1) % 65536) % 65536)).getD 0))
        {k : Tick} (hk : k = { s.tick with sofs := l.drop 1, superSeq := some m.seq.toNat }) : (s.superKept m).tick = k := by
      rw [(s.superKept_shows m).2.2, sofs hl, hk]
    refine ⟨fun a k ha hk range none => taken good up rfl ?_, fun l hl k hk frame hframe => ⟨fun lone P head epoch gen => ?_, fun lone => ?_, fun cyc own rest split => ?_, fun cyc rest split => ?_⟩,
      fun all other => taken good up rfl (State.mbreqIn_other from_ all other), fun mine known takes busy => taken good up rfl ?_,
      fun mine known takes idle => taken good up rfl ?_, fun empty => taken good up rfl ?_, fun one loads source runs boot on => taken good up rfl ?_,
      fun long no => taken good up rfl ?_, fun rate idle => ?_, fun rate loads seq source wants => ?_⟩
    · have ha' : a = zfield m 0 2 % 4096 + p / 2 + 1 := ha
      have hk' : k = (zfield m 2 2 + p / 2 + 1) % 4096 := hk
      rw [State.enumIn_takes from_ acc none ha' hk' range]
      obtain ⟨addr, pos, known, frame, regs⟩ := s.takeAddr_shows (a := a) (k := k) (by omega) (by omega) (by omega)
      have chain : (s.takeAddr a k).chain = s.chain := frame.same .chain (by decide)
      have hl : (s.takeAddr a k).hl = s.hl := frame.same .hl (by decide)
      generalize s.takeAddr a k = t at *
      have sends : t.transmits t.sendEnumRpt := t.transmits_sendMsg _ _ _ _ _
      have unit := sends.reg (ZV 0 0x800)
      have sent : ∃ y, t.sendEnumRpt.chain.sent = t.chain.sent ++ [(upPorts, .msg tEnumRpt y)] := ⟨_, rfl⟩
      obtain ⟨y, hy⟩ := sent
      refine ⟨(State.zaddr_congr unit).trans addr, (State.fld_congr unit 12 12).trans pos, (State.assigned_congr unit).trans known,
        isCalm ((frame.mono (by decide) : s.changes [.csr, .chain] t).trans (sends.frame.mono (by decide))) (by decide),
        (sends.frame.same .hl (by decide)).trans hl, fun x hx => (sends.reg x).trans (regs x hx), y, ?_⟩
      rw [hy, chain]
    · obtain ⟨changes, ann, seen, sent, beached⟩ := State.superIn_agrees from_ acc (by rw [sofs hl]; exact lone) P epoch gen
      refine super ⟨ann, seen, ?_, changes.same .hl (by decide), isCalm changes (by decide), sent, beached⟩
      rw [State.superIn_tick from_ acc, sofs hl, lone]
      exact kept hl hk
    · refine super ?_
      show State.tick _ = _
      rw [State.superIn_tick from_ acc, sofs hl, lone]
      exact kept hl hk
    · refine super ?_
      have tick := State.superIn_tick from_ acc
      rw [sofs hl, split] at tick
      obtain ⟨jumps, stays⟩ := (s.superKept m).compareSof_shows own (zfield m 0 6)
      have csr : (s.superKept m).csr = s.csr := rfl
      have src : (s.superKept m).src = s.src := State.fld_congr (State.reg_congr csr _) 0 2
      have adj : (s.superKept m).fld (CK 0x820) 0 16 = s.fld (CK 0x820) 0 16 := State.fld_congr (State.reg_congr csr _) 0 16
      have jump : (s.superKept m).tick.jump = s.tick.jump := rfl
      have whole : (s.superIn p m).tick = ((s.superKept m).compareSof own (zfield m 0 6)).tick := tick
      have hf : zfield m 0 6 = frame := hframe.symm
      rw [src, adj, jump, kept hl hk, hf] at jumps
      rw [src, adj, kept hl hk, hf] at stays
      rw [hf] at whole
      exact ⟨fun a b => whole.trans (jumps a b), fun a => whole.trans (stays a)⟩
    · refine super ?_
      have tick := State.superIn_tick from_ acc
      rw [sofs hl, split] at tick
      have whole : (s.superIn p m).tick = { (s.superKept m).tick with cmp := some (⟨cyc, none⟩, zfield m 0 6) } := tick
      show State.tick _ = _
      rw [whole, kept hl hk, hframe]
      rfl
    · rw [State.mbreqIn_own from_ known mine, State.mbreqEnter_busy takes busy]
      exact ⟨rfl, rfl, fun _ => ⟨_, rfl, rfl, rfl⟩⟩
    · rw [State.mbreqIn_own from_ known mine]
      exact State.mbreqEnter_waits takes idle
    · rw [State.bcastIn_closes from_ acc empty]
      exact ⟨rfl, rfl⟩
    · rw [State.bcastIn_aborts from_ acc one loads source runs]
      obtain ⟨phase, rx⟩ := State.failLoad_ends (s := (s.passOn downPorts tBcast m).setChain { (s.passOn downPorts tBcast m).chain with rx := {} })
        { status := stCONFLICT, detail := dABORTED } boot on
      exact ⟨phase, by rw [rx]; rfl⟩
    · rw [State.bcastIn_refuses from_ acc long no]
      exact ⟨rfl, rfl⟩
    · refine near (State.portUp_near up) rfl ?_
      rw [State.imageIn_passes from_ good acc rate idle]
      exact ⟨rfl, rfl⟩
    · refine near (State.portUp_near up) rfl ?_
      rw [State.imageIn_feeds from_ good acc rate loads seq source wants]
      have frame : s.changes [.chain] ((s.passOn downPorts tImage m).setChain { (s.passOn downPorts tImage m).chain with
        rx := { s.chain.rx with seq := s.chain.rx.seq + 1 } }) := by rfl
      have rx : ((s.passOn downPorts tImage m).setChain { (s.passOn downPorts tImage m).chain with
        rx := { s.chain.rx with seq := s.chain.rx.seq + 1 } }).chain.rx.seq = s.chain.rx.seq + 1 := by rfl
      generalize (s.passOn downPorts tImage m).setChain { (s.passOn downPorts tImage m).chain with rx := { s.chain.rx with seq := s.chain.rx.seq + 1 } } = t at *
      have ld : t.ld = s.ld := frame.same .ld (by decide)
      have fed : t.changes [.ld] (t.feed m.payload) := by rfl
      refine ⟨?_, rx, (frame.mono (by decide) : s.changes [.chain, .ld] t).trans (fed.mono (by decide))⟩
      show { t.ld with buf := t.ld.buf ++ m.payload, took := t.ld.took + m.payload.length } = _
      rw [ld]
  · have up := State.fromDn_up from_
    refine ⟨fun head => ⟨taken good up rfl ?_, taken good up rfl ?_, taken good up rfl ?_⟩, fun head => ⟨taken good up rfl (State.enumRptIn_keeps from_ head),
      fun runs ok => taken good up rfl ?_, fun runs failed room => taken good up rfl ?_,
      fun plain f only fin all op tag short long => taken good up rfl ?_, fun plain f only fin dst one op tag short long => taken good up rfl ?_⟩⟩
    · rw [State.enumRptIn_passes from_ head]
      exact ⟨rfl, rfl⟩
    · rw [State.mbrspIn_passes from_ head]
      exact ⟨rfl, rfl⟩
    · rw [State.loadRptIn_passes from_ head]
      exact ⟨rfl, rfl⟩
    · rw [State.loadRptIn_counts from_ head runs, if_pos (show zfield m 0 1 = 0 from ok)]
      exact ⟨rfl, rfl⟩
    · rw [State.loadRptIn_counts from_ head runs, if_neg (show zfield m 0 1 ≠ 0 from failed), if_neg (by omega)]
      exact ⟨rfl, rfl⟩
    · have field (off n : Nat) := rspField short off n
      rw [State.mbrspIn_answers from_ head plain only fin rfl (op.trans (field _ _).symm) (tag.trans (field _ _).symm) (.inl all)]
      obtain ⟨answered, done, ok, failed⟩ := Fwd.answer_all all m.src.toNat (BitVec.ofNat 2048 (natLE (m.payload.take 256)))
      rw [field] at ok failed
      exact ⟨_, rfl, rfl, answered, done, ok, failed⟩
    · have field (off n : Nat) := rspField short off n
      rw [State.mbrspIn_answers from_ head plain only fin rfl (op.trans (field _ _).symm) (tag.trans (field _ _).symm) (.inr dst), Fwd.answer_one one]
      exact ⟨rfl, rfl⟩
  · refine taken (f := fun t => t.caldIn p.val m) good up rfl ?_
    obtain ⟨heard, atD, atE, calibrates, stays⟩ := State.cald_shows (m := m) even p.isLt up head acc hd he
    generalize s.caldIn p m = t at *
    exact ⟨heard, atD, atE, calibrates, stays⟩
  · subst ho hc
    exact taken good (State.fromAny_up from_) rfl ((if_pos from_).trans (State.faultIn_known known))
  · subst ho hc
    refine taken good (State.fromAny_up from_) rfl ?_
    show State.knownFault (if s.fromAny p then s.faultIn p m else s) _ _ = _ ∧ _
    rw [if_pos from_]
    exact State.faultIn_enters new acc head few

end Sys2Proof.Machine
end

section
/-! Pending swaps (spec/05 R131 to R137). -/
namespace Sys2Proof.Machine

/-! ## Registers of regions -/

theorem RG_inj {r k o o' : Nat} (h : o < 0x100) (h' : o' < 0x100) : RG r o = RG k o' ↔ r = k ∧ o = o' := by
  unfold RG
  omega

/-- In `t` only the regions of `l` are touched since `s`, and of their registers only those at the offsets `os`. -/
structure State.within (s t : State) (l os : List Nat) : Prop where
  frame : s.changes [.csr, .rg] t
  regions : ∀ k, k ∉ l → t.region k = s.region k
  regs : ∀ a, (∀ k ∈ l, ∀ o ∈ os, a ≠ RG k o) → t.reg a = s.reg a

theorem State.within_refl (s : State) (l os : List Nat) : s.within s l os := ⟨s.changes_refl _, fun _ _ => rfl, fun _ _ => rfl⟩

theorem State.within.trans {s t u : State} {l os : List Nat} (h : s.within t l os) (g : t.within u l os) : s.within u l os :=
  ⟨h.frame.trans g.frame, fun r hr => (g.regions r hr).trans (h.regions r hr), fun a ha => (g.regs a ha).trans (h.regs a ha)⟩

theorem State.within.mono {s t : State} {l m os ps : List Nat} (h : s.within t l os) (hl : l ⊆ m) (ho : os ⊆ ps) : s.within t m ps :=
  ⟨h.frame, fun r hr => h.regions r (fun e => hr (hl e)), fun a ha => h.regs a (fun j hj o o' => ha j (hl hj) o (ho o'))⟩

/-- A register of a region that is not touched. -/
theorem State.within.other {s t : State} {l os : List Nat} (h : s.within t l os) (small : ∀ o ∈ os, o < 0x100) {r o : Nat} (hr : r ∉ l) (ho : o < 0x100) :
    t.reg (RG r o) = s.reg (RG r o) :=
  h.regs _ (fun _ hk p hp e => hr (((RG_inj ho (small p hp)).mp e).1 ▸ hk))

theorem State.within.offset {s t : State} {l os : List Nat} (h : s.within t l os) (small : ∀ o ∈ os, o < 0x100) {r o : Nat} (ho : o ∉ os) (hlt : o < 0x100) :
    t.reg (RG r o) = s.reg (RG r o) :=
  h.regs _ (fun _ _ p hp e => ho (((RG_inj hlt (small p hp)).mp e).2 ▸ hp))

theorem State.within_foldl {f : State → Nat → State} {os : List Nat} (step : ∀ (t : State) (k : Nat), t.within (f t k) [k] os) (l : List Nat) (s : State) :
    s.within (l.foldl f s) l os := by
  induction l generalizing s with
  | nil => exact s.within_refl _ _
  | cons k l ih =>
    exact ((step s k).mono (by simp) (List.Subset.refl _)).trans ((ih (f s k)).mono (by simp) (List.Subset.refl _))

/-- Of a fold over regions, what region `k` gets is what its own step gives it, from what it had. -/
theorem State.foldl_at {f : State → Nat → State} {os : List Nat} (step : ∀ (t : State) (k : Nat), t.within (f t k) [k] os) (small : ∀ o ∈ os, o < 0x100) {l : List Nat} (nodup : l.Nodup)
    {k : Nat} (hk : k ∈ l) (s : State) : ∃ u, s.within u (l.filter (· ≠ k)) os ∧
      (l.foldl f s).region k = (f u k).region k ∧ ∀ o, o < 0x100 → (l.foldl f s).reg (RG k o) = (f u k).reg (RG k o) := by
  induction l generalizing s with
  | nil => exact absurd hk List.not_mem_nil
  | cons j l ih =>
    obtain ⟨fresh, rest⟩ := List.nodup_cons.mp nodup
    by_cases e : k = j
    · subst e
      have later := State.within_foldl step l (f s k)
      exact ⟨s, s.within_refl _ _, later.regions k fresh, fun o ho => later.other small fresh ho⟩
    · obtain ⟨u, only, region, regs⟩ := ih rest ((List.mem_cons.mp hk).resolve_left e) (f s j)
      refine ⟨u, ((step s j).mono ?_ (List.Subset.refl _)).trans (only.mono ?_ (List.Subset.refl _)), region, regs⟩
      · intro x hx
        obtain rfl := List.mem_singleton.mp hx
        simp [Ne.symm e]
      · intro x hx
        simp only [List.mem_filter, decide_eq_true_eq] at hx ⊢
        exact ⟨List.mem_cons_of_mem _ hx.1, hx.2⟩

theorem State.within_setFld (s : State) (r o lo w v : Nat) : s.within (s.setFld (RG r o) lo w v) [r] [o] :=
  ⟨by simp, fun _ _ => rfl, fun a h => s.reg_setFld_ne _ _ _ _ _ (h r (by simp) o (by simp))⟩

theorem State.within_setRegion (s : State) (r : Nat) (x : Region) (os : List Nat) : s.within (s.setRegion r x) [r] os :=
  ⟨by simp, fun k h => mget_mput_ne _ _ _ _ _ (by simpa using h), fun _ _ => rfl⟩

/-! ## Candidates, plan and shift while no context changes (R123, R146, R149) -/

/-- Region `k` stands in `t` as in `s`: same context, loaded contexts, schedule, hold and coupling at its hold edge. -/
structure State.stands (s t : State) (k : Nat) : Prop where
  active : t.active k = s.active k
  loaded : ∀ c, c < 8 → t.loaded k c = s.loaded k c
  schedRun : t.schedRun k = s.schedRun k
  held : (t.region k).held = (s.region k).held
  cpl : (t.region k).cpl = (s.region k).cpl

/-- It also runs on: same step and deferral. -/
structure State.runs (s t : State) (k : Nat) : Prop extends toStands : s.stands t k where
  step : t.stepNo k = s.stepNo k
  extra : (t.region k).extra = (s.region k).extra

theorem State.stands_refl (s : State) (k : Nat) : s.stands s k := ⟨rfl, fun _ _ => rfl, rfl, rfl, rfl⟩

theorem State.stands.trans {s t u : State} {k : Nat} (h : s.stands t k) (g : t.stands u k) : s.stands u k :=
  ⟨g.active.trans h.active, fun c hc => (g.loaded c hc).trans (h.loaded c hc), g.schedRun.trans h.schedRun, g.held.trans h.held, g.cpl.trans h.cpl⟩

theorem State.runs_refl (s : State) (k : Nat) : s.runs s k := ⟨s.stands_refl k, rfl, rfl⟩

theorem State.runs.trans {s t u : State} {k : Nat} (h : s.runs t k) (g : t.runs u k) : s.runs u k :=
  ⟨h.toStands.trans g.toStands, g.step.trans h.step, g.extra.trans h.extra⟩

theorem State.runs_of_same {s t : State} {k : Nat} (reg : t.reg (RG k 0) = s.reg (RG k 0)) (region : t.region k = s.region k) : s.runs t k :=
  ⟨⟨State.fld_congr reg 0 3, fun _ _ => State.bit_congr reg _, State.bit_congr reg 12, by rw [region], by rw [region]⟩, State.fld_congr reg 8 4, by rw [region]⟩

theorem State.ruleWord_congr {s t : State} (tf : t.fab.tf = s.fab.tf) {r : Nat} (h : s.stands t r) : t.ruleWord r = s.ruleWord r := by
  have all : (List.range 8).find? (t.loaded r) = (List.range 8).find? (s.loaded r) := by
    simp [List.range, List.range.loop, List.find?, h.loaded]
  simp only [State.ruleWord, State.regionWord, State.tf, tf, h.active, all]

theorem State.coupled_congr {s t : State} (tf : t.fab.tf = s.fab.tf) (h : ∀ k, s.stands t k) (r : Nat) : t.coupled r = s.coupled r := by
  simp only [State.coupled, State.ruleWord_congr tf (h _)]

theorem State.pairOf_congr {s t : State} (tf : t.fab.tf = s.fab.tf) (h : ∀ k, s.stands t k) (r : Nat) : t.pairOf r = s.pairOf r := by
  rw [State.pairOf, State.pairOf, State.coupled_congr tf h]

theorem State.pairOf_nodup (s : State) (r : Nat) : (s.pairOf r).Nodup := by
  unfold State.pairOf
  split <;> simp

theorem State.pairOf_lt {s : State} {r : Nat} (h : r < 96) : ∀ k ∈ s.pairOf r, k < 96 := by
  intro k hk
  unfold State.pairOf at hk
  split at hk <;> simp at hk <;> omega

/-- A region that leads its candidate is one of it. -/
theorem State.mem_pairOf {s : State} {r : Nat} (leads : s.leads r = true) : r ∈ s.pairOf r := by
  unfold State.pairOf
  split
  · next c =>
    have near : r < 48 := by simpa [State.leads, c] using leads
    simp [Nat.mod_eq_of_lt near]
  · exact List.mem_singleton.mpr rfl

/-- The shifts in force, where only the pending swaps of regions changed. -/
theorem State.shift_congr {s t : State} {l : List Nat} (h : s.within t l [0, 0x10]) (run : ∀ k, s.runs t k) (r j : Nat) :
    t.shift r j = s.shift r j := by
  have tf : t.fab.tf = s.fab.tf := by rw [h.frame.same .fab (by decide)]
  have tbl (k : Nat) : t.table k = s.table k := by
    have reg (o : Nat) (ho : o < 0x100) (h0 : o ≠ 0) (h1 : o ≠ 0x10) : t.reg (RG k o) = s.reg (RG k o) := h.offset (by decide) (by simp [h0, h1]) ho
    simp only [State.table, reg 4 (by decide) (by decide) (by decide), reg 8 (by decide) (by decide) (by decide)]
    refine congrArg _ (List.map_congr_left fun i hi => ?_)
    have := List.mem_range.mp hi
    rw [reg _ (by omega) (by omega) (by omega)]
  have ck (o : Nat) (ho : o < 0x1000) : t.reg (CK o) = s.reg (CK o) := h.regs _ fun k _ o' _ => by unfold CK RG; omega
  have P : t.P = s.P := State.fld_congr (ck _ (by decide)) _ _
  have W : t.wMax = s.wMax := State.fld_congr (ck _ (by decide)) _ _
  have cpl : t.planCoupled = s.planCoupled := funext fun k => by
    simp only [State.planCoupled, (run _).cpl, State.coupled_congr tf fun k => (run k).toStands]
  have tbls : t.table = s.table := funext tbl
  simp only [State.shift, State.plan, P, W, tbls, cpl, (run r).extra]

/-! ## A swap made pending, and cancelled (Table CTX-5) -/

/-- A write of the pending fields of a region's status register leaves the rest of it. -/
theorem State.runs_setFld (s : State) (k : Nat) {lo w : Nat} (v : Nat) (h3 : 3 ≤ lo) (h8 : lo + w ≤ 8) : s.runs (s.setFld (RG k 0) lo w v) k :=
  ⟨⟨State.fld_setFld_other _ _ _ _ _ (by decide) (.inl h3), fun c hc => State.bit_setFld_other _ _ _ _ _ (by omega) (.inr (by omega)),
    State.bit_setFld_other _ _ _ _ _ (by decide) (.inr (by omega)), rfl, rfl⟩, State.fld_setFld_other _ _ _ _ _ (by decide) (.inr h8), rfl⟩

theorem State.runs_setRegion (s : State) {r : Nat} {x : Region} (held : x.held = (s.region r).held) (cpl : x.cpl = (s.region r).cpl)
    (extra : x.extra = (s.region r).extra) (k : Nat) : s.runs (s.setRegion r x) k := by
  by_cases e : k = r
  · subst e
    refine ⟨⟨rfl, fun _ _ => rfl, rfl, ?_, ?_⟩, rfl, ?_⟩ <;> rw [State.region_setRegion_same] <;> assumption
  · exact State.runs_of_same rfl (mget_mput_ne _ _ _ _ _ e)

theorem State.showPend_within (s : State) (r ctx : Nat) (cls : SwapClass) : s.within (s.showPend r ctx cls) [r] [0] :=
  ((s.within_setFld r 0 3 1 _).trans (State.within_setFld _ r 0 4 3 _)).trans (State.within_setFld _ r 0 7 1 _)

theorem State.showPend_runs (s : State) (r ctx : Nat) (cls : SwapClass) : s.runs (s.showPend r ctx cls) r :=
  ((s.runs_setFld r _ (by decide) (by decide)).trans (State.runs_setFld _ r _ (by decide) (by decide))).trans
    (State.runs_setFld _ r _ (by decide) (by decide))

theorem State.showPend_shows (s : State) (r ctx : Nat) (cls : SwapClass) : (s.showPend r ctx cls).swapPending r = true ∧
    (s.showPend r ctx cls).pendCtx r = ctx % 8 ∧ (s.showPend r ctx cls).bit (RG r 0) 7 = decide (cls = .request) := by
  refine ⟨?_, ?_, State.bit_setBit_same _ _ _ (by decide)⟩
  · exact (State.bit_setBit_other _ _ _ _ (by decide) (by decide)).trans ((State.bit_setFld_other _ _ _ _ _ (by decide) (by decide)).trans
      (State.bit_setBit_same _ _ _ (by decide)))
  · exact (State.fld_setBit_other _ _ _ _ (by decide) (by decide)).trans (State.fld_setFld_same _ _ _ (by decide))

theorem State.unpend_within (s : State) (r : Nat) : s.within (s.unpend r) [r] [0] :=
  (((s.within_setFld r 0 3 1 _).trans (State.within_setFld _ r 0 4 3 _)).trans (State.within_setFld _ r 0 7 1 _)).trans
    (State.within_setRegion _ r _ _)

theorem State.unpend_runs (s : State) (r : Nat) : s.runs (s.unpend r) r := by
  have status := ((s.runs_setFld r (if false then 1 else 0) (lo := 3) (w := 1) (by decide) (by decide)).trans
    (State.runs_setFld _ r 0 (lo := 4) (w := 3) (by decide) (by decide))).trans
    (State.runs_setFld _ r (if false then 1 else 0) (lo := 7) (w := 1) (by decide) (by decide))
  have last (t : State) : t.runs (t.setRegion r { t.region r with change := none }) r := State.runs_setRegion t (x := { t.region r with change := none }) rfl rfl rfl r
  exact status.trans (last _)

theorem State.unpend_off (s : State) (r : Nat) : (s.unpend r).swapPending r = false :=
  (State.bit_setBit_other _ _ _ _ (by decide) (by decide)).trans ((State.bit_setFld_other _ _ _ _ _ (by decide) (by decide)).trans
    (State.bit_setBit_same _ _ _ (by decide)))

/-- Of a fold of such steps over a candidate, every region runs as before. -/
theorem State.foldl_runs {f : State → Nat → State} {os : List Nat} (step : ∀ (t : State) (k : Nat), t.within (f t k) [k] os)
    (small : ∀ o ∈ os, o < 0x100) (run : ∀ (t : State) (k : Nat), t.runs (f t k) k) (l : List Nat) (s : State) (k : Nat) : s.runs (l.foldl f s) k := by
  induction l generalizing s with
  | nil => exact s.runs_refl k
  | cons j l ih =>
    refine State.runs.trans ?_ (ih (f s j))
    by_cases e : k = j
    · exact e ▸ run s j
    · exact State.runs_of_same ((step s j).other small (by simpa using e) (by decide)) ((step s j).regions k (by simpa using e))

theorem State.unpendAll_within (s : State) (r : Nat) : s.within (s.unpendAll r) (s.pairOf r) [0] := State.within_foldl State.unpend_within _ s

theorem State.unpendAll_runs (s : State) (r k : Nat) : s.runs (s.unpendAll r) k :=
  State.foldl_runs State.unpend_within (by decide) State.unpend_runs _ s k

theorem State.unpendAll_off (s : State) {r k : Nat} (hk : k ∈ s.pairOf r) : (s.unpendAll r).swapPending k = false := by
  obtain ⟨u, _, _, regs⟩ := State.foldl_at State.unpend_within (by decide) (s.pairOf_nodup r) hk s
  exact (State.bit_congr (regs 0 (by decide)) 3).trans (u.unpend_off k)

theorem State.dropReq_within (s : State) (r : Nat) : s.within (s.dropReq r) [r] [0x10] := s.within_setFld r 0x10 16 16 _

/-- A request of a candidate that waits is dropped (R137): none of its swaps is pending, and every region runs on as it did. -/
theorem State.dropPendingReq_shows {s : State} {r : Nat} (leads : s.leads r = true) : s.within (s.dropPendingReq r) (s.pairOf r) [0, 0x10] ∧
    (s.swapPending r = false ∨ (s.region r).cls = .request → (s.dropPendingReq r).swapPending r = false) ∧
    ∀ k, s.runs (s.dropPendingReq r) k := by
  unfold State.dropPendingReq
  split
  · have mem := State.mem_pairOf leads
    have count := (s.unpendAll r).dropReq_within r
    have status (k : Nat) : ((s.unpendAll r).dropReq r).reg (RG k 0) = (s.unpendAll r).reg (RG k 0) := count.offset (by decide) (by decide) (by decide)
    refine ⟨((s.unpendAll_within r).mono (List.Subset.refl _) (by decide)).trans (count.mono (by simpa using mem) (by decide)), fun _ => ?_, fun k => ?_⟩
    · exact (State.bit_congr (status r) 3).trans (s.unpendAll_off mem)
    · exact (s.unpendAll_runs r k).trans (State.runs_of_same (status k) rfl)
  · next h =>
    refine ⟨s.within_refl _ _, fun either => ?_, fun k => s.runs_refl k⟩
    obtain no | req := either
    · exact no
    · simpa [req] using h

theorem State.pend_shows {s : State} {r : Nat} (mem : r ∈ s.pairOf r) (ctx : Nat) (cls : SwapClass) (due grant step : Nat) (change : Option Nat) :
    s.within (s.pend r ctx cls due grant step change) (s.pairOf r) [0] ∧ (∀ k, k ≠ r → (s.pend r ctx cls due grant step change).region k = s.region k) ∧
    (s.pend r ctx cls due grant step change).region r = { s.region r with cls, due, grant, pendStep := step, change } ∧
    (s.pend r ctx cls due grant step change).swapPending r = true ∧ (s.pend r ctx cls due grant step change).pendCtx r = ctx % 8 ∧
    (s.pend r ctx cls due grant step change).bit (RG r 0) 7 = decide (cls = .request) ∧ ∀ k, s.runs (s.pend r ctx cls due grant step change) k := by
  have step_ (t : State) (k : Nat) : t.within (t.showPend k ctx cls) [k] [0] := t.showPend_within k ctx cls
  have shown := State.within_foldl step_ (s.pairOf r) s
  have run := State.foldl_runs step_ (by decide) (fun t k => t.showPend_runs k ctx cls) (s.pairOf r) s
  obtain ⟨u, only, _, regs⟩ := State.foldl_at step_ (by decide) (s.pairOf_nodup r) mem s
  obtain ⟨on, target, req⟩ := u.showPend_shows r ctx cls
  have same (l : List Nat) (t : State) : (l.foldl (fun t k => t.showPend k ctx cls) t).rg = t.rg := by
    induction l generalizing t with
    | nil => rfl
    | cons k l ih => exact ih _
  have region (k : Nat) : ((s.pairOf r).foldl (fun t k => t.showPend k ctx cls) s).region k = s.region k := by rw [State.region, same, State.region]
  unfold State.pend
  generalize (s.pairOf r).foldl (fun t k => t.showPend k ctx cls) s = t at shown run regs region ⊢
  have set := t.within_setRegion r { t.region r with cls, due, grant, pendStep := step, change } [0]
  have status := regs 0 (by decide)
  refine ⟨shown.trans (set.mono (by simpa using mem) (List.Subset.refl _)), fun k hk => ?_, ?_, ?_, ?_, ?_, fun k => (run k).trans ?_⟩
  · exact (set.regions k (by simpa using hk)).trans (region k)
  · rw [State.region_setRegion_same, region]
  · exact (State.bit_congr status 3).trans on
  · exact (State.fld_congr status 4 3).trans target
  · exact (State.bit_congr status 7).trans req
  · exact State.runs_setRegion t (x := { t.region r with cls, due, grant, pendStep := step, change }) rfl rfl rfl k

/-! ## A step that starts without a swap (Table CTX-8) -/

/-- Region `k` enters step `j` with shift `h`, and no longer waits for its step 0. -/
def State.enterStep (j h : Nat) (t : State) (k : Nat) : State := (t.setRegion k { t.region k with wait0 := false }).setStep k j h

theorem State.enterStep_within (j h : Nat) (t : State) (k : Nat) : t.within (t.enterStep j h k) [k] [0, 0x14] := by
  unfold State.enterStep State.setStep
  exact (((t.within_setRegion k _ _).trans ((State.within_setFld _ k 0 8 4 j).mono (List.Subset.refl _) (by decide))).trans
    ((State.within_setFld _ k 0x14 0 13 h).mono (List.Subset.refl _) (by decide))).trans
    ((State.within_setFld _ k 0x14 16 13 _).mono (List.Subset.refl _) (by decide))

theorem State.enterStep_shows (j h : Nat) (t : State) (k : Nat) : (t.enterStep j h k).stepNo k = j % 16 ∧
    (t.enterStep j h k).fld (RG k 0x14) 0 13 = h % 2 ^ 13 ∧ ((t.enterStep j h k).region k).wait0 = false ∧
    (t.enterStep j h k).swapPending k = t.swapPending k ∧ (t.enterStep j h k).active k = t.active k := by
  have apart : RG k 0 ≠ RG k 0x14 := by unfold RG; omega
  have status : (t.enterStep j h k).reg (RG k 0) = ((t.setRegion k { t.region k with wait0 := false }).setFld (RG k 0) 8 4 j).reg (RG k 0) :=
    (State.reg_setFld_ne _ _ _ _ _ _ apart).trans (State.reg_setFld_ne _ _ _ _ _ _ apart)
  refine ⟨?_, ?_, ?_, ?_, ?_⟩
  · exact (State.fld_congr status 8 4).trans (State.fld_setFld_same _ _ _ (by decide))
  · exact (State.fld_setFld_other _ _ _ _ _ (by decide) (by decide)).trans (State.fld_setFld_same _ _ _ (by decide))
  · have : (t.enterStep j h k).region k = (t.setRegion k { t.region k with wait0 := false }).region k := rfl
    rw [this, State.region_setRegion_same]
  · exact (State.bit_congr status 3).trans (State.bit_setFld_other _ _ _ _ _ (by decide) (by decide))
  · exact (State.fld_congr status 0 3).trans (State.fld_setFld_other _ _ _ _ _ (by decide) (by decide))

/-! ## SCHEDULED_SWAP (R131, R132, R134) -/

/-- What a step's start leaves (Table CTX-5): nothing changes outside the candidate's registers. -/
def State.onlyPair (s t : State) (r : Nat) : Prop :=
  { t with csr := s.csr, rg := s.rg } = s ∧ (∀ k, k < 96 → k ∉ s.pairOf r → t.region k = s.region k) ∧
    ∀ a, (∀ k, k ∈ s.pairOf r → a ≠ RG k 0 ∧ a ≠ RG k 0x10 ∧ a ≠ RG k 0x14) → t.reg a = s.reg a

theorem State.within.onlyPair {s t : State} {r : Nat} (h : s.within t (s.pairOf r) [0, 0x10, 0x14]) : s.onlyPair t r :=
  ⟨h.frame, fun k _ hk => h.regions k hk, fun a ha => h.regs a fun k hk o ho => by
    obtain ⟨h0, h1, h2⟩ := ha k hk
    simp only [List.mem_cons, List.not_mem_nil, or_false] at ho
    obtain rfl | rfl | rfl := ho
    exacts [h0, h1, h2]⟩

theorem State.stepCtx_lt (s : State) (r j : Nat) : s.stepCtx r j < 8 := by
  unfold State.stepCtx State.stepEntry
  split
  · decide
  · exact Nat.mod_lt _ (by decide)

/-- A step whose context differs and is loaded makes a swap pending, and drops a request that waits. -/
theorem State.startStep_pends {s : State} {r j due grant : Nat} {change : Option Nat} (leads : s.leads r = true) (new : s.stepCtx r j ≠ s.active r)
    (can : s.canEnter r (s.stepCtx r j) = true) :
    (s.startStep r j due grant change).swapPending r = true ∧ (s.startStep r j due grant change).pendCtx r = s.stepCtx r j ∧
    ((s.startStep r j due grant change).region r).cls = .planned ∧ ((s.startStep r j due grant change).region r).pendStep = j ∧
    ((s.startStep r j due grant change).region r).grant = grant ∧ (s.startStep r j due grant change).active r = s.active r ∧
    (s.startStep r j due grant change).stepNo r = s.stepNo r ∧ s.onlyPair (s.startStep r j due grant change) r := by
  have eq : s.startStep r j due grant change = (s.dropPendingReq r).pend r (s.stepCtx r j) .planned due grant j change := by
    simp only [State.startStep, if_pos (And.intro new can)]
  obtain ⟨drop, _, run⟩ := State.dropPendingReq_shows leads
  have pair : (s.dropPendingReq r).pairOf r = s.pairOf r := State.pairOf_congr (by rw [drop.frame.same .fab (by decide)]) (fun k => (run k).toStands) r
  have mem : r ∈ (s.dropPendingReq r).pairOf r := by
    rw [pair]
    exact State.mem_pairOf leads
  obtain ⟨only, _, region, on, target, _, run'⟩ := State.pend_shows mem
    (s.stepCtx r j) .planned due grant j change
  rw [pair] at only
  rw [eq]
  generalize (s.dropPendingReq r).pend r (s.stepCtx r j) .planned due grant j change = t at *
  have all := (drop.mono (List.Subset.refl _) (by decide)).trans (only.mono (List.Subset.refl _) (by decide) : (s.dropPendingReq r).within t (s.pairOf r) [0, 0x10, 0x14])
  refine ⟨on, target.trans (Nat.mod_eq_of_lt (s.stepCtx_lt r j)), ?_, ?_, ?_, ((run r).trans (run' r)).active, ((run r).trans (run' r)).step, all.onlyPair⟩ <;>
    rw [region]

/-- Any other step starts at its planned start, without a swap. -/
theorem State.startStep_enters {s : State} {r j due grant : Nat} {change : Option Nat} (leads : s.leads r = true)
    (none_ : s.stepCtx r j = s.active r ∨ s.canEnter r (s.stepCtx r j) = false) (come : grant ≤ s.tick.cyc)
    (free : s.swapPending r = false ∨ (s.region r).cls = .request) :
    (∀ k, k ∈ s.pairOf r → (s.startStep r j due grant change).stepNo k = j % 16 ∧
      (s.startStep r j due grant change).fld (RG k 0x14) 0 13 = s.shift r j % 2 ^ 13 ∧ ((s.startStep r j due grant change).region k).wait0 = false) ∧
    (s.startStep r j due grant change).swapPending r = false ∧ (s.startStep r j due grant change).active r = s.active r ∧
    s.onlyPair (s.startStep r j due grant change) r := by
  obtain ⟨drop, off, run⟩ := State.dropPendingReq_shows leads
  have pair : (s.dropPendingReq r).pairOf r = s.pairOf r := State.pairOf_congr (by rw [drop.frame.same .fab (by decide)]) (fun k => (run k).toStands) r
  have eq : s.startStep r j due grant change = (s.pairOf r).foldl (State.enterStep j (s.shift r j)) (s.dropPendingReq r) := by
    have no : ¬ (s.stepCtx r j ≠ s.active r ∧ s.canEnter r (s.stepCtx r j) = true) := by
      rintro ⟨h, k⟩
      obtain same | no := none_
      · exact h same
      · rw [no] at k
        exact Bool.false_ne_true k
    simp only [State.startStep, if_neg no, if_pos come, pair, State.shift_congr drop run]
    rfl
  rw [eq]
  have entered := State.within_foldl (State.enterStep_within j (s.shift r j)) (s.pairOf r) (s.dropPendingReq r)
  have each (k : Nat) (hk : k ∈ s.pairOf r) := State.foldl_at (State.enterStep_within j (s.shift r j)) (by decide) (s.pairOf_nodup r) hk (s.dropPendingReq r)
  generalize (s.pairOf r).foldl (State.enterStep j (s.shift r j)) (s.dropPendingReq r) = t at *
  have all := (drop.mono (List.Subset.refl _) (by decide)).trans (entered.mono (List.Subset.refl _) (by decide) : (s.dropPendingReq r).within t (s.pairOf r) [0, 0x10, 0x14])
  refine ⟨fun k hk => ?_, ?_, ?_, all.onlyPair⟩
  · obtain ⟨u, _, region, regs⟩ := each k hk
    obtain ⟨no, h, wait, _⟩ := u.enterStep_shows j (s.shift r j) k
    exact ⟨(State.fld_congr (regs 0 (by decide)) 8 4).trans no, (State.fld_congr (regs 0x14 (by decide)) 0 13).trans h, region ▸ wait⟩
  · obtain ⟨u, before, _, regs⟩ := each r (State.mem_pairOf leads)
    obtain ⟨_, _, _, pending, _⟩ := u.enterStep_shows j (s.shift r j) r
    exact (State.bit_congr (regs 0 (by decide)) 3).trans (pending.trans ((State.bit_congr (before.other (by decide) (by simp) (by decide)) 3).trans (off free)))
  · obtain ⟨u, before, _, regs⟩ := each r (State.mem_pairOf leads)
    obtain ⟨_, _, _, _, active⟩ := u.enterStep_shows j (s.shift r j) r
    exact (State.fld_congr (regs 0 (by decide)) 0 3).trans (active.trans ((State.fld_congr (before.other (by decide) (by simp) (by decide)) 0 3).trans (run r).active))

/-- The next step of a running schedule starts once its time has come. -/
theorem State.scheduledSwap_starts {s : State} {r j : Nat} (run : s.schedRun r = true) (free : (s.region r).held = false) (clocked : s.clk.stopped = false)
    (leads : s.leads r = true) (next : j = if (s.region r).wait0 then 0 else s.stepNo r + 1) (more : j = 0 ∨ j < s.nSteps r)
    (open_ : s.swapPending r = false ∨ (s.region r).cls = .request)
    (due : s.frameStart + nominal (tableSteps (s.table r)) j + (if j = 0 then 0 else s.shift r (j - 1)) ≤ s.tick.cyc) :
    s.scheduledSwap r = s.startStep r j (s.frameStart + nominal (tableSteps (s.table r)) j + if j = 0 then 0 else s.shift r (j - 1))
      (s.frameStart + nominal (tableSteps (s.table r)) j + s.shift r j) none := by
  have steps : (decide (j ≠ 0) && decide (s.nSteps r ≤ j)) = false := by
    obtain h | h := more
    · simp [h]
    · simp [Nat.not_le.mpr h]
  have pending : (s.swapPending r && decide ((s.region r).cls ≠ .request)) = false := by
    obtain h | h := open_ <;> simp [h]
  simp only [State.scheduledSwap, ← next, run, free, clocked, leads, steps, pending, Bool.not_true, Bool.or_false, Bool.false_eq_true, if_false,
    if_neg (Nat.not_lt.mpr due)]

/-- A schedule that does not run, a held region and a stopped clock leave everything. -/
theorem State.scheduledSwap_rests {s : State} {r : Nat} (off : s.schedRun r = false ∨ (s.region r).held = true ∨ s.clk.stopped = true) :
    s.scheduledSwap r = s := by
  obtain h | h | h := off <;> simp [State.scheduledSwap, h]

/-! ## FABRIC_SWAP_REQUEST (R135, R137) -/

/-- The context that a region's target macrocells spell. -/
def State.spelled (s : State) (r : Nat) : Nat :=
  (s.qOut r (s.fld (RG r 8) 0 9)).toNat + 2 * (s.qOut r (s.fld (RG r 8) 9 9)).toNat + 4 * (s.qOut r (s.fld (RG r 8) 18 9)).toNat

theorem State.spelled_lt (s : State) (r : Nat) : s.spelled r < 8 := by
  unfold State.spelled
  have h (b : Bool) : b.toNat ≤ 1 := Bool.toNat_le b
  have h0 := h (s.qOut r (s.fld (RG r 8) 0 9))
  have h1 := h (s.qOut r (s.fld (RG r 8) 9 9))
  have h2 := h (s.qOut r (s.fld (RG r 8) 18 9))
  omega

/-- Region `r` samples a strobe of 1. -/
def State.strobed (s : State) (r : Nat) : Prop := s.reqEn r = true ∧ s.schedRun r = true ∧ (s.region r).held = false ∧ (s.region r).swapCycle = false ∧
  s.clk.stopped = false ∧ s.leads r = true ∧ s.qOut r (s.fld (RG r 4) 16 9) = true

theorem State.fabricRequest_strobed {s : State} {r : Nat} (h : s.strobed r) : s.fabricRequest r =
    if s.spelled r = s.active r ∨ !s.canEnter r (s.spelled r) ∨ s.swapPending r then s.dropReq r
    else s.pend r (s.spelled r) .request (s.tick.cyc + 2) (s.tick.cyc + 2) 0 none := by
  obtain ⟨en, run, free, cycle, clocked, leads, strobe⟩ := h
  simp only [State.fabricRequest, en, run, free, cycle, clocked, leads, strobe, Bool.not_true, Bool.or_false, Bool.false_eq_true, if_false]
  rfl

theorem State.fabricRequest_rests {s : State} {r : Nat}
    (off : s.qOut r (s.fld (RG r 4) 16 9) = false ∨ (s.region r).held = true ∨ (s.region r).swapCycle = true) : s.fabricRequest r = s := by
  obtain h | h | h := off <;> simp [State.fabricRequest, h]

/-- A request without effect is counted, to 65535. -/
theorem State.dropReq_shows (s : State) (r : Nat) : (s.dropReq r).fld (RG r 0x10) 16 16 = min (s.fld (RG r 0x10) 16 16 + 1) 65535 ∧
    (s.dropReq r).fld (RG r 0x10) 0 16 = s.fld (RG r 0x10) 0 16 ∧ (∀ a, a ≠ RG r 0x10 → (s.dropReq r).reg a = s.reg a) ∧
    { s.dropReq r with csr := s.csr } = s := by
  refine ⟨(State.fld_setFld_same _ _ _ (by decide)).trans ?_, State.fld_setFld_other _ _ _ _ _ (by decide) (by decide), fun a h => State.reg_setFld_ne _ _ _ _ _ _ h, rfl⟩
  unfold satAdd
  omega

/-! ## O34 -/

/-- Settles O34: a step that is due makes its swap pending or starts; a strobe of 1 makes a request pending or counts it. -/
theorem pendingSwaps : Obligations.PendingSwaps := by
  refine ⟨fun s r => ⟨fun run free clocked leads more wait open_ due => ⟨fun new can => ?_, fun none_ come => ?_⟩,
    fun run free clocked leads wait pending none_ come => ?_, fun off => ?_⟩, fun s r => ⟨fun on new can pending => ?_, fun on refused => ?_, fun off => ?_⟩⟩
  · have eq := State.scheduledSwap_starts run free clocked leads (by simp [wait]) (.inr more) open_ (by simpa using due)
    refine completes_intro rfl ?_
    rw [eq]
    exact State.startStep_pends leads new can
  · have eq := State.scheduledSwap_starts run free clocked leads (by simp [wait]) (.inr more) open_ (by simpa using due)
    refine completes_intro rfl ?_
    rw [eq]
    obtain ⟨each, off, active, rest⟩ := State.startStep_enters (change := none) (due := s.frameStart + nominal (tableSteps (s.table r)) (s.stepNo r + 1) +
      if s.stepNo r + 1 = 0 then 0 else s.shift r (s.stepNo r + 1 - 1)) leads none_ come open_
    exact ⟨fun k hk => ⟨(each k hk).1, (each k hk).2.1⟩, off, active, rest⟩
  · have zero : nominal (tableSteps (s.table r)) 0 = 0 := rfl
    have eq := State.scheduledSwap_starts (j := 0) run free clocked leads (by simp [wait]) (.inl rfl) (.inl pending) (by simp only [zero, if_true]; omega)
    refine completes_intro rfl ?_
    rw [eq]
    obtain ⟨each, _, active, rest⟩ := State.startStep_enters (change := none) (due := s.frameStart + nominal (tableSteps (s.table r)) 0 + 
      if 0 = 0 then 0 else s.shift r (0 - 1)) (grant := s.frameStart + nominal (tableSteps (s.table r)) 0 + s.shift r 0) leads none_ (by simpa only [zero, Nat.add_zero] using come) (.inl pending)
    exact ⟨fun k hk => ⟨(each k hk).1, (each k hk).2.2⟩, active, rest⟩
  · exact completes_intro rfl (State.scheduledSwap_rests off)
  · have leads := on.2.2.2.2.2.1
    obtain ⟨only, others, region, pend, target, req, run⟩ := State.pend_shows (State.mem_pairOf leads) (s.spelled r) .request (s.tick.cyc + 2) (s.tick.cyc + 2) 0 none
    refine completes_intro rfl ?_
    rw [State.fabricRequest_strobed on, if_neg (by simpa [State.spelled, can, pending] using new)]
    refine ⟨pend, target.trans (Nat.mod_eq_of_lt (s.spelled_lt r)), req, by rw [region], by rw [region], (run r).active, fun a ha => only.regs a ?_, others, only.frame⟩
    simpa using ha
  · refine completes_intro rfl ?_
    rw [State.fabricRequest_strobed on, if_pos (by simpa [State.spelled] using refused)]
    exact s.dropReq_shows r
  · exact completes_intro rfl (State.fabricRequest_rests off)

end Sys2Proof.Machine
end

section
/-! The limiter and the swap edge (spec/05 R142 to R148). -/
namespace Sys2Proof.Machine

/-! ## Order by due cycle (R147) -/

section Order
variable {α : Type} {due : α → Nat} {R : α → α → Prop}

theorem mem_insDue {x y : α} {l : List α} : y ∈ insDue due x l ↔ y = x ∨ y ∈ l := by
  induction l with
  | nil => simp [insDue]
  | cons z l ih =>
    rw [insDue]
    split
    · simp
    · simp only [List.mem_cons, ih]
      tauto

/-- Earlier due cycle first, and in the order of `R` for equal ones. -/
def DueBefore (due : α → Nat) (R : α → α → Prop) (a b : α) : Prop := due a < due b ∨ due a = due b ∧ R a b

theorem insDue_ordered {x : α} {l : List α} (sorted : l.Pairwise (DueBefore due R)) (before : ∀ y ∈ l, R y x) :
    (insDue due x l).Pairwise (DueBefore due R) := by
  induction l with
  | nil => exact List.pairwise_singleton _ _
  | cons y l ih =>
    obtain ⟨first, rest⟩ := List.pairwise_cons.mp sorted
    rw [insDue]
    split
    · next earlier =>
      refine List.pairwise_cons.mpr ⟨fun z hz => .inl ?_, sorted⟩
      obtain rfl | hz := List.mem_cons.mp hz
      · exact earlier
      · obtain h | ⟨h, _⟩ := first z hz <;> omega
    · next later =>
      refine List.pairwise_cons.mpr ⟨fun z hz => ?_, ih rest fun z hz => before z (List.mem_cons_of_mem _ hz)⟩
      obtain rfl | hz := mem_insDue.mp hz
      · have := before y List.mem_cons_self
        by_cases same : due y = due z
        · exact .inr ⟨same, this⟩
        · exact .inl (by omega)
      · exact first z hz

theorem foldl_insDue {l acc : List α} (sorted : acc.Pairwise (DueBefore due R)) (order : l.Pairwise R) (before : ∀ y ∈ acc, ∀ x ∈ l, R y x) :
    (l.foldl (fun acc x => insDue due x acc) acc).Pairwise (DueBefore due R) ∧
      ∀ y, y ∈ l.foldl (fun acc x => insDue due x acc) acc ↔ y ∈ acc ∨ y ∈ l := by
  induction l generalizing acc with
  | nil => simpa using sorted
  | cons x l ih =>
    obtain ⟨first, rest⟩ := List.pairwise_cons.mp order
    have inserted := insDue_ordered sorted fun y hy => before y hy x List.mem_cons_self
    obtain ⟨ordered, mem⟩ := ih inserted rest fun y hy z hz => by
      obtain rfl | hy := mem_insDue.mp hy
      · exact first z hz
      · exact before y hy z (List.mem_cons_of_mem _ hz)
    refine ⟨ordered, fun y => ?_⟩
    rw [List.foldl_cons, mem, mem_insDue, List.mem_cons]
    tauto

theorem sortDue_ordered {l : List α} (order : l.Pairwise R) : (sortDue due l).Pairwise (DueBefore due R) :=
  (foldl_insDue List.Pairwise.nil order (by simp)).1

theorem mem_sortDue {l : List α} {y : α} : y ∈ sortDue due l ↔ y ∈ l := by
  have all : l.Pairwise fun _ _ => True := List.pairwise_of_forall fun _ _ => trivial
  rw [sortDue]
  simpa using (foldl_insDue (due := due) (R := fun _ _ => True) List.Pairwise.nil all (by simp)).2 y

end Order

/-! ## Candidates that are due, and those granted -/

/-- Is the swap of region `r` due? -/
def State.isDue (s : State) (r : Nat) : Prop := s.clk.stopped = false ∧ r < 96 ∧ s.swapPending r = true ∧ s.leads r = true ∧
  (s.region r).held = false ∧ (s.region r).due ≤ s.tick.cyc

/-- Planned swaps first, then commanded ones, then requests. -/
def SwapClass.rank (c : SwapClass) : Nat := if c = .planned then 0 else if c = .commanded then 1 else 2

/-- The swaps of one class that are due, in their order. -/
def State.dueOf (s : State) (c : SwapClass) : List Nat :=
  sortDue (fun r => (s.region r).due) (((List.range 96).filter (fun r =>
    s.swapPending r && s.leads r && !(s.region r).held && decide ((s.region r).due ≤ s.tick.cyc))).filter (fun r => (s.region r).cls = c))

theorem State.dueSwaps_eq {s : State} (h : s.clk.stopped = false) : s.dueSwaps = s.dueOf .planned ++ s.dueOf .commanded ++ s.dueOf .request := by
  simp [State.dueSwaps, h, State.dueOf]

theorem State.mem_dueOf {s : State} (clocked : s.clk.stopped = false) {c : SwapClass} {r : Nat} : r ∈ s.dueOf c ↔ s.isDue r ∧ (s.region r).cls = c := by
  simp [State.dueOf, mem_sortDue, State.isDue, clocked, and_assoc]
  tauto

theorem State.mem_dueSwaps {s : State} {r : Nat} : r ∈ s.dueSwaps ↔ s.isDue r := by
  cases clocked : s.clk.stopped
  · simp only [State.dueSwaps_eq clocked, List.mem_append, State.mem_dueOf clocked]
    cases (s.region r).cls <;> simp
  · simp [State.dueSwaps, State.isDue, clocked]

/-- The order in which swaps that are due are granted (R147). -/
def State.dueOrder (s : State) (a b : Nat) : Prop := (s.region a).cls.rank < (s.region b).cls.rank ∨ ((s.region a).cls.rank = (s.region b).cls.rank ∧
  ((s.region a).due < (s.region b).due ∨ ((s.region a).due = (s.region b).due ∧ a < b)))

theorem State.dueOf_ordered {s : State} (clocked : s.clk.stopped = false) (c : SwapClass) : (s.dueOf c).Pairwise s.dueOrder := by
  have lt : (List.range 96).Pairwise (· < ·) := List.pairwise_lt_range
  have sorted : (s.dueOf c).Pairwise (DueBefore (fun r => (s.region r).due) (· < ·)) := sortDue_ordered ((lt.filter _).filter _)
  refine sorted.imp_of_mem fun ha hb order => .inr ⟨?_, order⟩
  rw [((State.mem_dueOf clocked).mp ha).2, ((State.mem_dueOf clocked).mp hb).2]

theorem State.dueSwaps_ordered (s : State) : s.dueSwaps.Pairwise s.dueOrder := by
  cases clocked : s.clk.stopped
  · have apart {c d : SwapClass} (h : c.rank < d.rank) (a : Nat) (ha : a ∈ s.dueOf c) (b : Nat) (hb : b ∈ s.dueOf d) : s.dueOrder a b := by
      refine .inl ?_
      rw [((State.mem_dueOf clocked).mp ha).2, ((State.mem_dueOf clocked).mp hb).2]
      exact h
    rw [State.dueSwaps_eq clocked]
    refine List.pairwise_append.mpr ⟨List.pairwise_append.mpr ⟨State.dueOf_ordered clocked _, State.dueOf_ordered clocked _, ?_⟩, State.dueOf_ordered clocked _, ?_⟩
    · exact apart (by decide)
    · intro a ha b hb
      obtain ha | ha := List.mem_append.mp ha
      · exact apart (by decide) a ha b hb
      · exact apart (by decide) a ha b hb
  · simp [State.dueSwaps, clocked]

/-- Regions that the candidates of `l` swap. -/
def State.swapSize (s : State) (l : List Nat) : Nat := (l.map (fun r => (s.pairOf r).length)).sum

theorem State.fitDue_shows (s : State) (w : Nat) (l : List Nat) : s.swapSize (s.fitDue w l) ≤ w ∧
    ∃ n, n ≤ l.length ∧ s.fitDue w l = (l.take n).filter (fun r => decide ((s.region r).grant ≤ s.tick.cyc)) ∧
      ∀ y, l[n]? = some y → w < s.swapSize (s.fitDue w l) + (s.pairOf y).length := by
  induction l generalizing w with
  | nil => exact ⟨Nat.zero_le _, 0, Nat.le_refl _, rfl, by simp⟩
  | cons r l ih =>
    rw [State.fitDue]
    split
    · next full =>
      refine ⟨Nat.zero_le _, 0, Nat.zero_le _, rfl, fun y hy => ?_⟩
      obtain rfl : r = y := by simpa using hy
      simpa [State.swapSize] using full
    · next room =>
      split
      · next open_ =>
        obtain ⟨le, n, hn, eq, stop⟩ := ih (w - (s.pairOf r).length)
        have size : s.swapSize (r :: s.fitDue (w - (s.pairOf r).length) l) = (s.pairOf r).length + s.swapSize (s.fitDue (w - (s.pairOf r).length) l) := by
          simp [State.swapSize]
        refine ⟨by omega, n + 1, Nat.succ_le_succ hn, by simp [List.take_succ_cons, open_, ← eq], fun y hy => ?_⟩
        have := stop y (by simpa using hy)
        omega
      · next wait =>
        obtain ⟨le, n, hn, eq, stop⟩ := ih w
        exact ⟨le, n + 1, Nat.succ_le_succ hn, by simpa [List.take_succ_cons, wait] using eq, fun y hy => stop y (by simpa using hy)⟩

theorem State.granted_due {s : State} {r : Nat} (h : r ∈ s.granted) : s.isDue r := by
  obtain ⟨_, n, _, eq, _⟩ := s.fitDue_shows (s.wMax - if s.fab.swapAt = s.tick.cyc then s.fab.swapN else 0) s.dueSwaps
  rw [State.granted, eq] at h
  exact State.mem_dueSwaps.mp (List.mem_of_mem_take (List.mem_of_mem_filter h))

/-! ## Granted swaps never share a region -/

theorem partner_partner {r : Nat} (h : r < 96) : partner (partner r) = r := by
  unfold partner
  split <;> split <;> omega

theorem State.coupled_partner {s : State} {r : Nat} (h : r < 96) : s.coupled (partner r) = s.coupled r := by
  rw [State.coupled, State.coupled, partner_partner h, Bool.and_comm]

/-- Two leading regions lead different candidates. -/
theorem State.pairOf_disjoint {s : State} {a b k : Nat} (ha : a < 96) (hb : b < 96) (la : s.leads a = true) (lb : s.leads b = true)
    (ka : k ∈ s.pairOf a) (kb : k ∈ s.pairOf b) : a = b := by
  have alone (x y : Nat) (hy : y < 96) (cx : s.coupled x = true) (hx : x < 48) (cy : s.coupled y = false) (mem : y = x ∨ y = x + 48) : False := by
    obtain rfl | rfl := mem
    · exact Bool.false_ne_true (cy ▸ cx)
    · have : partner x = x + 48 := by simp [partner, hx]
      have := State.coupled_partner (s := s) (r := x) (by omega)
      simp_all
  unfold State.pairOf at ka kb
  unfold State.leads at la lb
  cases ca : s.coupled a <;> cases cb : s.coupled b <;> simp [ca, cb] at ka kb la lb
  · omega
  · exact (alone b a ha cb lb ca (by omega)).elim
  · exact (alone a b hb ca la cb (by omega)).elim
  · omega

/-! ## The swap of one candidate (R142, Tables CTX-4, CTX-5) -/

/-- In `t` only the registers of the regions of `l` that a grant writes, those regions and the swap reports have changed since `s`. -/
structure State.grants (s t : State) (l : List Nat) : Prop where
  frame : s.changes [.csr, .rg, .hl] t
  reports : t.hl = { s.hl with reports := t.hl.reports }
  regions : ∀ k, k ∉ l → t.region k = s.region k
  regs : ∀ a, (∀ k ∈ l, ∀ o ∈ [0, 0xC, 0x10, 0x14], a ≠ RG k o) → t.reg a = s.reg a

theorem State.grants_refl (s : State) (l : List Nat) : s.grants s l := ⟨s.changes_refl _, rfl, fun _ _ => rfl, fun _ _ => rfl⟩

theorem State.grants.trans {s t u : State} {l m : List Nat} (h : s.grants t l) (g : t.grants u m) : s.grants u (l ++ m) :=
  ⟨h.frame.trans g.frame, g.reports.trans (by rw [h.reports]),
    fun k hk => (g.regions k fun e => hk (List.mem_append_right _ e)).trans (h.regions k fun e => hk (List.mem_append_left _ e)),
    fun a ha => (g.regs a fun k hk => ha k (List.mem_append_right _ hk)).trans (h.regs a fun k hk => ha k (List.mem_append_left _ hk))⟩

theorem State.grants.mono {s t : State} {l m : List Nat} (h : s.grants t l) (sub : l ⊆ m) : s.grants t m :=
  ⟨h.frame, h.reports, fun k hk => h.regions k fun e => hk (sub e), fun a ha => h.regs a fun k hk => ha k (sub hk)⟩

theorem State.within.grants {s t : State} {l : List Nat} (h : s.within t l [0, 0xC, 0x10, 0x14]) : s.grants t l :=
  ⟨h.frame.mono (by decide), by rw [h.frame.same .hl (by decide)], h.regions, h.regs⟩

theorem State.grants.other {s t : State} {l : List Nat} (h : s.grants t l) {k o : Nat} (hk : k ∉ l) (ho : o < 0x100) : t.reg (RG k o) = s.reg (RG k o) := by
  refine h.regs _ fun j hj p hp e => hk ?_
  have small : p < 0x100 := by
    simp only [List.mem_cons, List.not_mem_nil, or_false] at hp
    omega
  exact ((RG_inj ho small).mp e).1 ▸ hj

theorem State.reportSwap_grants (s : State) (id : Option Nat) (n : Nat) : s.grants (s.reportSwap id n) [] := by
  unfold State.reportSwap
  split
  · exact s.grants_refl _
  · exact ⟨rfl, rfl, fun _ _ => rfl, fun _ _ => rfl⟩

theorem State.within_setReg (s : State) (r o v : Nat) : s.within (s.setReg (RG r o) v) [r] [o] :=
  ⟨by simp, fun _ _ => rfl, fun a h => s.reg_setReg_ne _ _ _ (h r (by simp) o (by simp))⟩

theorem State.enterContext_within (s : State) (k ctx : Nat) : s.within (s.enterContext k ctx) [k] [0, 0xC] := by
  unfold State.enterContext
  exact ((((s.within_setFld k 0 0 3 ctx).trans (State.unpend_within _ k)).mono (List.Subset.refl _) (by decide)).trans
    ((State.within_setReg _ k 0xC _).mono (List.Subset.refl _) (by decide))).trans (State.within_setRegion _ k _ _)

/-- The region runs the context from the swap cycle that follows, and counts the swap. -/
def State.swapped (t : State) (k ctx count : Nat) : Prop :=
  t.active k = ctx ∧ t.swapPending k = false ∧ (t.region k).swapCycle = true ∧ t.reg (RG k 0xC) = (count + 1) % 2 ^ 32

theorem State.swapped_congr {s t : State} {k ctx n : Nat} (h : s.swapped k ctx n) (status : t.reg (RG k 0) = s.reg (RG k 0))
    (cycle : (t.region k).swapCycle = (s.region k).swapCycle) (count : t.reg (RG k 0xC) = s.reg (RG k 0xC)) : t.swapped k ctx n := by
  obtain ⟨a, b, c, d⟩ := h
  exact ⟨(State.fld_congr status 0 3).trans a, (State.bit_congr status 3).trans b, cycle.trans c, count.trans d⟩

theorem State.enterContext_shows (s : State) (k ctx : Nat) : (s.enterContext k ctx).swapped k (ctx % 8) (s.reg (RG k 0xC)) := by
  have apart : RG k 0 ≠ RG k 0xC := by unfold RG; omega
  unfold State.enterContext
  have active := ((s.setFld (RG k 0) 0 3 ctx).unpend_runs k).active.trans (State.fld_setFld_same _ _ _ (by decide))
  have off := (s.setFld (RG k 0) 0 3 ctx).unpend_off k
  have count : ((s.setFld (RG k 0) 0 3 ctx).unpend k).reg (RG k 0xC) = s.reg (RG k 0xC) :=
    ((State.unpend_within _ k).offset (by decide) (by decide) (by decide)).trans ((s.within_setFld k 0 0 3 ctx).offset (by decide) (by decide) (by decide))
  generalize (s.setFld (RG k 0) 0 3 ctx).unpend k = t at active off count ⊢
  have status : (t.setReg (RG k 0xC) (t.reg (RG k 0xC) + 1)).reg (RG k 0) = t.reg (RG k 0) := State.reg_setReg_ne _ _ _ _ apart
  refine ⟨(State.fld_congr status 0 3).trans active, (State.bit_congr status 3).trans off, ?_, ?_⟩
  · rw [State.region_setRegion_same]
  · exact (State.reg_setReg_same _ _ _).trans (by rw [count])

/-- The region goes on from step `j` with shift `h` and what its deferral added. -/
def State.goOn (extra j h : Nat) (t : State) (k : Nat) : State :=
  (t.setRegion k { t.region k with wait0 := false, extra := extra }).setStep k j h

theorem State.goOn_within (extra j h : Nat) (t : State) (k : Nat) : t.within (t.goOn extra j h k) [k] [0, 0x14] := by
  unfold State.goOn State.setStep
  exact (((t.within_setRegion k _ _).trans ((State.within_setFld _ k 0 8 4 j).mono (List.Subset.refl _) (by decide))).trans
    ((State.within_setFld _ k 0x14 0 13 h).mono (List.Subset.refl _) (by decide))).trans
    ((State.within_setFld _ k 0x14 16 13 _).mono (List.Subset.refl _) (by decide))

theorem State.goOn_swapped {extra j h : Nat} {t : State} {k ctx n : Nat} (swap : t.swapped k ctx n) : (t.goOn extra j h k).swapped k ctx n := by
  have apart : RG k 0 ≠ RG k 0x14 := by unfold RG; omega
  have status : (t.goOn extra j h k).reg (RG k 0) = ((t.setRegion k { t.region k with wait0 := false, extra := extra }).setFld (RG k 0) 8 4 j).reg (RG k 0) :=
    (State.reg_setFld_ne _ _ _ _ _ _ apart).trans (State.reg_setFld_ne _ _ _ _ _ _ apart)
  obtain ⟨a, b, c, d⟩ := swap
  refine ⟨?_, ?_, ?_, ?_⟩
  · exact (State.fld_congr status 0 3).trans ((State.fld_setFld_other _ _ _ _ _ (by decide) (by decide)).trans a)
  · exact (State.bit_congr status 3).trans ((State.bit_setFld_other _ _ _ _ _ (by decide) (by decide)).trans b)
  · have : (t.goOn extra j h k).region k = (t.setRegion k { t.region k with wait0 := false, extra := extra }).region k := rfl
    rw [this, State.region_setRegion_same]
    exact c
  · exact ((t.goOn_within extra j h k).offset (by decide) (by decide) (by decide)).trans d

/-- What follows the swap in the regions of its candidate: a request is counted, a step goes on. -/
def State.afterSwap (s : State) (r : Nat) (pair : List Nat) (cls : SwapClass) (extra j h : Nat) : State :=
  match cls with
  | .request => s.count (RG r 0x10) 0 16 1
  | _ => pair.foldl (State.goOn extra j h) s

theorem State.afterSwap_shows {s : State} {r : Nat} {pair : List Nat} (mem : r ∈ pair) (nodup : pair.Nodup) (cls : SwapClass) (extra j h : Nat) :
    s.within (s.afterSwap r pair cls extra j h) pair [0, 0x10, 0x14] ∧
    ∀ k ∈ pair, ∀ ctx n, s.swapped k ctx n → (s.afterSwap r pair cls extra j h).swapped k ctx n := by
  have goes : s.within (pair.foldl (State.goOn extra j h) s) pair [0, 0x10, 0x14] ∧
      ∀ k ∈ pair, ∀ ctx n, s.swapped k ctx n → (pair.foldl (State.goOn extra j h) s).swapped k ctx n := by
    refine ⟨(State.within_foldl (State.goOn_within extra j h) pair s).mono (List.Subset.refl _) (by decide), fun k hk ctx n swap => ?_⟩
    obtain ⟨u, before, region, regs⟩ := State.foldl_at (State.goOn_within extra j h) (by decide) nodup hk s
    have here : u.swapped k ctx n := State.swapped_congr swap (before.other (by decide) (by simp) (by decide))
      (congrArg Region.swapCycle (before.regions k (by simp))) (before.other (by decide) (by simp) (by decide))
    exact State.swapped_congr (State.goOn_swapped here) (regs 0 (by decide)) (congrArg Region.swapCycle region) (regs 0xC (by decide))
  cases cls with
  | request =>
    have count := s.within_setFld r 0x10 0 16 (satAdd 16 (s.fld (RG r 0x10) 0 16) 1)
    exact ⟨count.mono (by simpa using mem) (by decide), fun k _ ctx n swap => State.swapped_congr swap (count.offset (by decide) (by decide) (by decide)) rfl
      (count.offset (by decide) (by decide) (by decide))⟩
  | planned => exact goes
  | commanded => exact goes

/-- The grant of one candidate: each of its regions swaps, and nothing else changes but the report. -/
theorem State.grant_shows {s : State} {r : Nat} {pair : List Nat} (mem : r ∈ pair) (nodup : pair.Nodup) :
    s.grants (s.grant r pair) pair ∧ ∀ k ∈ pair, (s.grant r pair).swapped k (s.pendCtx r) (s.reg (RG k 0xC)) := by
  obtain ⟨extra, h, eq⟩ : ∃ extra h, s.grant r pair = (pair.foldl (fun t k => t.enterContext k (s.pendCtx r)) (s.reportSwap (s.region r).change pair.length)).afterSwap
      r pair (s.region r).cls extra (s.region r).pendStep h := ⟨_, _, rfl⟩
  have told := s.reportSwap_grants (s.region r).change pair.length
  have step (t : State) (k : Nat) : t.within (t.enterContext k (s.pendCtx r)) [k] [0, 0xC] := t.enterContext_within k _
  rw [eq]
  generalize s.reportSwap (s.region r).change pair.length = u at told ⊢
  have entered := State.within_foldl step pair u
  have each (k : Nat) (hk : k ∈ pair) : (pair.foldl (fun t k => t.enterContext k (s.pendCtx r)) u).swapped k (s.pendCtx r) (s.reg (RG k 0xC)) := by
    obtain ⟨v, before, region, regs⟩ := State.foldl_at step (by decide) nodup hk u
    have count : v.reg (RG k 0xC) = s.reg (RG k 0xC) := (before.other (by decide) (by simp) (by decide)).trans (told.other List.not_mem_nil (by decide))
    have small : s.pendCtx r % 8 = s.pendCtx r := Nat.mod_eq_of_lt (bits_lt _ 4 3)
    have shown := v.enterContext_shows k (s.pendCtx r)
    rw [small, count] at shown
    exact State.swapped_congr shown (regs 0 (by decide)) (congrArg Region.swapCycle region) (regs 0xC (by decide))
  generalize pair.foldl (fun t k => t.enterContext k (s.pendCtx r)) u = v at entered each ⊢
  obtain ⟨after, keeps⟩ := State.afterSwap_shows (s := v) mem nodup (s.region r).cls extra (s.region r).pendStep h
  refine ⟨?_, fun k hk => keeps k hk _ _ (each k hk)⟩
  exact ((told.trans (entered.mono (List.Subset.refl _) (by decide) : u.within v pair [0, 0xC, 0x10, 0x14]).grants).trans
    (after.mono (List.Subset.refl _) (by decide) : v.within _ pair [0, 0xC, 0x10, 0x14]).grants).mono (by simp)

/-- The grants of candidates that share no region: each of them swaps, with the context that was pending before the first. -/
theorem State.foldl_grant_shows {l : List (Nat × List Nat)} (each : ∀ x ∈ l, x.1 ∈ x.2 ∧ x.2.Nodup) (apart : l.Pairwise fun x y => ∀ k ∈ x.2, k ∉ y.2) (s : State) :
    s.grants (l.foldl (fun t x => t.grant x.1 x.2) s) (l.flatMap Prod.snd) ∧
    ∀ x ∈ l, ∀ k ∈ x.2, (l.foldl (fun t x => t.grant x.1 x.2) s).swapped k (s.pendCtx x.1) (s.reg (RG k 0xC)) := by
  induction l generalizing s with
  | nil => exact ⟨s.grants_refl _, fun _ h => absurd h List.not_mem_nil⟩
  | cons x l ih =>
    obtain ⟨first, rest⟩ := List.pairwise_cons.mp apart
    obtain ⟨mem, nodup⟩ := each x List.mem_cons_self
    obtain ⟨own, swap⟩ := State.grant_shows (s := s) mem nodup
    obtain ⟨later, swaps⟩ := ih (fun y hy => each y (List.mem_cons_of_mem _ hy)) rest (s.grant x.1 x.2)
    refine ⟨(own.trans later).mono (by simp), fun y hy k hk => ?_⟩
    rw [List.foldl_cons]
    obtain rfl | hy := List.mem_cons.mp hy
    · have fresh : k ∉ l.flatMap Prod.snd := fun e => by
        obtain ⟨z, hz, kz⟩ := List.mem_flatMap.mp e
        exact first z hz k hk kz
      exact State.swapped_congr (swap k hk) (later.other fresh (by decide)) (congrArg Region.swapCycle (later.regions k fresh)) (later.other fresh (by decide))
    · have before (j : Nat) (hj : j ∈ y.2) {o : Nat} (ho : o < 0x100) : (s.grant x.1 x.2).reg (RG j o) = s.reg (RG j o) :=
        own.other (fun e => first y hy j e hj) ho
      have shown := swaps y hy k hk
      rw [before k hk (by decide), show (s.grant x.1 x.2).pendCtx y.1 = s.pendCtx y.1 from State.fld_congr (before y.1 (each y (List.mem_cons_of_mem _ hy)).1 (by decide)) 4 3] at shown
      exact shown

/-! ## SWAP (Table CTX-9) -/

/-- Candidates granted at this edge, each with its regions. -/
def State.grantedPairs (s : State) : List (Nat × List Nat) := s.granted.map (fun r => (r, s.pairOf r))

theorem State.dueSwaps_nodup (s : State) : s.dueSwaps.Nodup :=
  s.dueSwaps_ordered.imp fun h e => by
    subst e
    obtain h | ⟨_, h | ⟨_, h⟩⟩ := h <;> exact absurd h (Nat.lt_irrefl _)

theorem State.granted_nodup (s : State) : s.granted.Nodup := by
  obtain ⟨_, n, _, eq, _⟩ := s.fitDue_shows (s.wMax - if s.fab.swapAt = s.tick.cyc then s.fab.swapN else 0) s.dueSwaps
  rw [State.granted, eq]
  exact (s.dueSwaps_nodup.sublist (List.take_sublist _ _)).filter _

theorem State.grantedPairs_apart (s : State) : (∀ x ∈ s.grantedPairs, x.1 ∈ x.2 ∧ x.2.Nodup) ∧ s.grantedPairs.Pairwise fun x y => ∀ k ∈ x.2, k ∉ y.2 := by
  refine ⟨fun x hx => ?_, List.pairwise_map.mpr (s.granted_nodup.imp_of_mem fun ha hb ne k ka kb => ne ?_)⟩
  · obtain ⟨r, hr, rfl⟩ := List.mem_map.mp hx
    obtain ⟨_, _, _, leads, _⟩ := State.granted_due hr
    exact ⟨State.mem_pairOf leads, s.pairOf_nodup r⟩
  · obtain ⟨_, lta, _, la, _⟩ := State.granted_due ha
    obtain ⟨_, ltb, _, lb, _⟩ := State.granted_due hb
    exact State.pairOf_disjoint lta ltb la lb ka kb

/-- The swaps of an edge. -/
def State.grantAll (s : State) : State := s.grantedPairs.foldl (fun t x => t.grant x.1 x.2) s

/-- PEAK and the counts of the edge, after its grants. -/
def State.notePeak (t s : State) (n : Nat) : State :=
  let t := { t with fab := { t.fab with swapAt := s.tick.cyc, swapN := n } }
  t.setFld (CK 0x834) 0 7 (max n (t.fld (CK 0x834) 0 7))

/-- The regions that have swapped at this edge, with those granted now. -/
def State.edgeCount (s : State) : Nat := (if s.fab.swapAt = s.tick.cyc then s.fab.swapN else 0) + s.swapSize s.granted

/-- The edge's grants and what they leave in PEAK. -/
def State.swapEdge (s : State) : State := if s.granted.isEmpty then s else s.grantAll.notePeak s s.edgeCount

/-- A deferral is counted once in a cycle. -/
def State.noteDefer (t : State) : State :=
  { t.count (CK 0x834) 16 16 1 with fab := { t.fab with deferAt := some t.tick.cyc } }

theorem State.swap_eq (s : State) : s.swap = if decide (s.granted.length < s.dueSwaps.length) && s.swapEdge.fab.deferAt ≠ some s.swapEdge.tick.cyc then s.swapEdge.noteDefer
    else s.swapEdge := rfl

/-- Since `s` nothing has changed in `t` but registers, regions, swap reports and the counts of the edge. -/
def State.swapOnly (s t : State) : Prop := s.changes [.csr, .rg, .fab, .hl] t ∧ t.hl = { s.hl with reports := t.hl.reports } ∧
  t.fab = { s.fab with swapAt := t.fab.swapAt, swapN := t.fab.swapN, deferAt := t.fab.deferAt }

theorem State.swapEdge_only (s : State) : s.swapOnly s.swapEdge := by
  unfold State.swapEdge
  split
  · exact ⟨s.changes_refl _, rfl, rfl⟩
  · obtain ⟨own, _⟩ := State.foldl_grant_shows s.grantedPairs_apart.1 s.grantedPairs_apart.2 s
    have fab : s.grantAll.fab = s.fab := by rw [State.grantAll, own.frame.same .fab (by decide)]
    have frame : s.changes [.csr, .rg, .hl] s.grantAll := own.frame
    have reports : s.grantAll.hl = { s.hl with reports := s.grantAll.hl.reports } := own.reports
    generalize s.grantAll = t, s.edgeCount = n at fab frame reports ⊢
    have counts : (t.notePeak s n).fab = { t.fab with swapAt := s.tick.cyc, swapN := n } := rfl
    refine ⟨(frame.mono (by decide)).trans (t := t) (by exact rfl), reports, ?_⟩
    rw [counts, fab]

theorem State.noteDefer_only {s t : State} (h : s.swapOnly t) : s.swapOnly t.noteDefer := by
  obtain ⟨frame, reports, fab⟩ := h
  have defer : t.noteDefer.fab = { t.fab with deferAt := some t.tick.cyc } := rfl
  refine ⟨frame.trans (t := t) (by exact rfl), reports, ?_⟩
  rw [defer, fab]

/-- Registers other than PEAK's and regions are as the grants leave them. -/
theorem State.swap_keeps (s : State) : s.swapOnly s.swap ∧ (∀ k, s.swap.region k = s.grantAll.region k) ∧
    ∀ a, a ≠ CK 0x834 → s.swap.reg a = s.grantAll.reg a := by
  have edge : (∀ k, s.swapEdge.region k = s.grantAll.region k) ∧ ∀ a, a ≠ CK 0x834 → s.swapEdge.reg a = s.grantAll.reg a := by
    unfold State.swapEdge
    split
    · next none_ =>
      have all : s.grantAll = s := by simp [State.grantAll, State.grantedPairs, List.isEmpty_iff.mp none_]
      rw [all]
      exact ⟨fun _ => rfl, fun _ _ => rfl⟩
    · exact ⟨fun _ => rfl, fun a h => State.reg_setFld_ne _ _ _ _ _ _ h⟩
  obtain ⟨regions, regs⟩ := edge
  have only := s.swapEdge_only
  rw [State.swap_eq]
  generalize s.swapEdge = t at *
  split
  · exact ⟨State.noteDefer_only only, regions, fun a h => (State.reg_setFld_ne _ _ _ _ _ _ h).trans (regs a h)⟩
  · exact ⟨only, regions, regs⟩

theorem State.edgeCount_lt {s : State} (some_ : s.granted ≠ []) : s.edgeCount < 128 := by
  obtain ⟨r, l, eq⟩ := List.exists_cons_of_ne_nil some_
  have size : s.swapSize s.granted ≤ s.wMax - if s.fab.swapAt = s.tick.cyc then s.fab.swapN else 0 := (s.fitDue_shows _ _).1
  have one : 1 ≤ (s.pairOf r).length := List.length_pos_of_mem (State.mem_pairOf (State.granted_due (eq ▸ List.mem_cons_self : r ∈ s.granted)).2.2.2.1)
  have pos : 1 ≤ s.swapSize s.granted := by
    rw [eq]
    simp only [State.swapSize, List.map_cons, List.sum_cons]
    omega
  have w : s.wMax < 128 := bits_lt _ 0 7
  unfold State.edgeCount
  omega

/-- PEAK never falls. -/
theorem State.swap_peak (s : State) : s.fld (CK 0x834) 0 7 ≤ s.swap.fld (CK 0x834) 0 7 := by
  have edge : s.fld (CK 0x834) 0 7 ≤ s.swapEdge.fld (CK 0x834) 0 7 := by
    unfold State.swapEdge
    split
    · exact Nat.le_refl _
    · next some_ =>
      obtain ⟨own, _⟩ := State.foldl_grant_shows s.grantedPairs_apart.1 s.grantedPairs_apart.2 s
      have before : s.grantAll.fld (CK 0x834) 0 7 = s.fld (CK 0x834) 0 7 := State.fld_congr (own.regs _ fun k _ o _ => by unfold CK RG; omega) _ _
      have after : (s.grantAll.notePeak s s.edgeCount).fld (CK 0x834) 0 7 = max s.edgeCount (s.grantAll.fld (CK 0x834) 0 7) % 2 ^ 7 :=
        State.fld_setFld_same _ _ _ (by decide)
      have n := State.edgeCount_lt fun e => some_ (by rw [e, List.isEmpty_nil])
      have old : s.fld (CK 0x834) 0 7 < 2 ^ 7 := bits_lt _ 0 7
      rw [after, before]
      omega
  rw [State.swap_eq]
  split
  · have kept : s.swapEdge.noteDefer.fld (CK 0x834) 0 7 = s.swapEdge.fld (CK 0x834) 0 7 := State.fld_setFld_other _ _ _ _ _ (by decide) (by decide)
    rw [kept]
    exact edge
  · exact edge

/-! ## O33 -/

/-- Settles O33: the swaps that are due are granted in order as far as W reaches, and each granted candidate swaps. -/
theorem swaps : Obligations.Swaps := by
  intro s
  refine ⟨fun r => State.mem_dueSwaps, s.dueSwaps_ordered, (s.fitDue_shows _ _).2, (s.fitDue_shows _ _).1, Nat.sub_le _ _, completes_intro rfl ?_⟩
  obtain ⟨own, swapped⟩ := State.foldl_grant_shows s.grantedPairs_apart.1 s.grantedPairs_apart.2 s
  obtain ⟨⟨frame, reports, fab⟩, regions, regs⟩ := s.swap_keeps
  have region (k o : Nat) : s.swap.reg (RG k o) = s.grantAll.reg (RG k o) := regs _ (by unfold CK RG; omega)
  refine ⟨fun k hk r hr => ?_, fun r _ none_ => ?_, s.swap_peak, frame, reports, fab⟩
  · exact State.swapped_congr (swapped (k, s.pairOf k) (List.mem_map_of_mem hk) r hr) (region r 0) (congrArg Region.swapCycle (regions r)) (region r 0xC)
  · have out : r ∉ s.grantedPairs.flatMap Prod.snd := fun e => by
      obtain ⟨x, hx, rx⟩ := List.mem_flatMap.mp e
      obtain ⟨k, hk, rfl⟩ := List.mem_map.mp hx
      exact none_ k hk rx
    have reg (o : Nat) (ho : o < 0x100) : s.swap.reg (RG r o) = s.reg (RG r o) := (region r o).trans (own.other out ho)
    exact ⟨(regions r).trans (own.regions r out), reg _ (by decide), reg _ (by decide), reg _ (by decide), reg _ (by decide)⟩

end Sys2Proof.Machine
end

section
/-! What the tick generator does at a tick edge (spec/02 R41 to R51, R61). -/
namespace Sys2Proof.Machine

/-! ## The frame elapses (R42) -/

/-- A region past its swap cycle and the first cycle of its pins. -/
def Region.settled (x : Region) : Region := { x with swapCycle := false, pinStart := false }

theorem Region.settled_of {x : Region} (cycle : x.swapCycle = false) (pins : x.pinStart = false) : x.settled = x := by
  cases x
  simp_all [Region.settled]

theorem State.endSwapCycles_region (s : State) {r : Nat} (h : r < 96) : s.endSwapCycles.region r = (s.region r).settled := by
  have each (n : Nat) : (forAll n (fun r t => if (t.region r).swapCycle || (t.region r).pinStart then
      t.setRegion r { t.region r with swapCycle := false, pinStart := false } else t) s).region r =
      if r < n then (s.region r).settled else s.region r := by
    induction n with
    | zero => rfl
    | succ n ih =>
      rw [forAll_succ]
      generalize forAll n _ s = t at ih ⊢
      by_cases e : r = n
      · subst e
        rw [if_neg (Nat.lt_irrefl _)] at ih
        rw [if_pos (Nat.lt_succ_self _), ← ih]
        split
        · rw [State.region_setRegion_same, Region.settled]
        · next clear =>
          simp only [Bool.or_eq_true, not_or, Bool.not_eq_true] at clear
          exact (Region.settled_of clear.1 clear.2).symm
      · have same : (if (t.region n).swapCycle || (t.region n).pinStart then
            t.setRegion n { t.region n with swapCycle := false, pinStart := false } else t).region r = t.region r := by
          split
          · exact mget_mput_ne _ _ _ _ _ e
          · rfl
        rw [same, ih]
        simp only [show r < n + 1 ↔ r < n by omega]
  rw [State.endSwapCycles, each, if_pos h]

theorem State.endSwapCycles_changes (s : State) : s.changes [.rg] s.endSwapCycles := by
  simp [State.endSwapCycles]

/-- Cycles left of the running frame. -/
def State.cyclesLeft (s : State) : Nat := s.P + s.tick.ext - s.tick.count

theorem State.passCycles_shows (s : State) (n : Nat) : (s.passCycles n).timePs = s.timePs + n * s.fabricPs ∧
    (s.passCycles n).tick = { s.tick with cyc := s.tick.cyc + n } ∧ { (s.passCycles n).chain with lines := s.chain.lines } = s.chain := ⟨rfl, rfl, rfl⟩

theorem State.elapse_shows (s : State) : s.changes [.timePs, .tick, .chain, .rg] s.elapse ∧ s.elapse.timePs = s.timePs + s.cyclesLeft * s.fabricPs ∧
    s.elapse.tick = { s.tick with cyc := s.tick.cyc + s.cyclesLeft } ∧ { s.elapse.chain with lines := s.chain.lines } = s.chain ∧
    ∀ r, r < 96 → s.elapse.region r = if s.tick.count < s.P + s.tick.ext then (s.region r).settled else s.region r := by
  have ended := s.endSwapCycles_changes
  rw [State.elapse]
  by_cases done : s.P + s.tick.ext - s.tick.count = 0
  · have none_ : ¬ s.tick.count < s.P + s.tick.ext := by omega
    simp only [if_pos done, if_neg none_]
    obtain ⟨time, tick, chain⟩ := s.passCycles_shows (s.P + s.tick.ext - s.tick.count)
    have frame := s.passCycles_changes (s.P + s.tick.ext - s.tick.count)
    exact ⟨frame.mono (by decide), time, tick, chain, fun r _ => State.region_congr (frame.same .rg (by decide)) r⟩
  · have more : s.tick.count < s.P + s.tick.ext := by omega
    simp only [if_neg done, if_pos more]
    obtain ⟨time, tick, chain⟩ := s.endSwapCycles.passCycles_shows (s.P + s.tick.ext - s.tick.count)
    have frame := s.endSwapCycles.passCycles_changes (s.P + s.tick.ext - s.tick.count)
    have region (r : Nat) (h : r < 96) := s.endSwapCycles_region h
    have ps : s.endSwapCycles.fabricPs = s.fabricPs :=
      State.fabricPs_congr (ended.same .clk (by decide) :) fun k => State.reg_congr (ended.same .csr (by decide) :) _
    have time0 : s.endSwapCycles.timePs = s.timePs := ended.same .timePs (by decide)
    have tick0 : s.endSwapCycles.tick = s.tick := ended.same .tick (by decide)
    have chain0 : s.endSwapCycles.chain = s.chain := ended.same .chain (by decide)
    rw [time0, ps] at time
    rw [tick0] at tick
    rw [chain0] at chain
    exact ⟨(ended.mono (by decide)).trans (frame.mono (by decide)), time, tick, chain,
      fun r h => (State.region_congr (frame.same .rg (by decide)) r).trans (region r h)⟩

/-! ## The frame that ends (R44, R45) -/

/-- LOCKED becomes 1, other registers and the latched events stand. -/
theorem State.lock_shows (s : State) : s.changes [.csr, .tick] s.lock ∧ s.lock.tick = { s.tick with acq := false, slips := 0 } ∧ s.lock.locked = true ∧
    (∀ a, a ≠ CK 0x80C → s.lock.reg a = s.reg a) ∧ ∀ i, i < 32 → i ≠ 0 → i ≠ 1 → s.lock.bit (CK 0x80C) i = s.bit (CK 0x80C) i := by
  refine ⟨by exact rfl, rfl, ?_, fun a h => ?_, fun i h h0 h1 => ?_⟩
  · exact (State.bit_setBit_other _ _ _ _ (by decide) (by decide)).trans (State.bit_setBit_same _ _ _ (by decide))
  · exact (State.reg_setBit_ne _ _ _ _ _ h).trans (State.reg_setBit_ne _ _ _ _ _ h)
  · exact (State.bit_setBit_other _ _ _ _ h h1).trans (State.bit_setBit_other _ _ _ _ h h0)

theorem State.closeFrame_shows (s : State) : s.changes [.csr, .tick, .hl] s.closeFrame ∧ s.closeFrame.hl = { s.hl with latches := s.closeFrame.hl.latches } ∧
    s.closeFrame.tick = { s.tick with
      quiet := s.closeFrame.tick.quiet, evt := false, acq := if s.tick.ext = 0 then s.tick.acq else false, slips := s.closeFrame.tick.slips } ∧
    s.closeFrame.fld (CK 0x828) 0 13 = (s.P + s.tick.ext) % 2 ^ 13 ∧ (∀ a, a ≠ CK 0x828 → a ≠ CK 0x80C → s.closeFrame.reg a = s.reg a) ∧
    (s.tick.ext = 0 → s.closeFrame.locked = s.locked) ∧ (s.tick.ext ≠ 0 → s.closeFrame.locked = true ∧ s.closeFrame.bit (CK 0x80C) 8 = true) := by
  have len : (s.setFld (CK 0x828) 0 13 (s.P + s.tick.ext)).fld (CK 0x828) 0 13 = (s.P + s.tick.ext) % 2 ^ 13 := State.fld_setFld_same _ _ _ (by decide)
  have apart : CK 0x80C ≠ CK 0x828 := by decide
  obtain ⟨u, x, eq, frame, hl, tick, len', regs⟩ : ∃ (u : State) (x : Nat), s.closeFrame = (if s.tick.ext = 0 then u else ((u.setBit (CK 0x80C) 8 true).faultHw 0x0101 0 x).lock) ∧
      s.changes [.csr, .tick, .hl] u ∧ u.hl = s.hl ∧ u.tick = { s.tick with quiet := u.tick.quiet, evt := false } ∧
      u.fld (CK 0x828) 0 13 = (s.P + s.tick.ext) % 2 ^ 13 ∧ ∀ a, a ≠ CK 0x828 → u.reg a = s.reg a :=
    ⟨_, _, rfl, rfl, rfl, rfl, len, fun a h => State.reg_setFld_ne _ _ _ _ _ _ h⟩
  rw [eq]
  split
  · next none_ =>
    refine ⟨frame, by rw [hl], by rw [tick], len', fun a h _ => regs a h, fun _ => State.bit_congr (regs _ apart) 0, fun h => absurd none_ h⟩
  · next some_ =>
    have own (a : Nat) : ((u.setBit (CK 0x80C) 8 true).faultHw 0x0101 0 x).reg a = (u.setBit (CK 0x80C) 8 true).reg a := rfl
    have own' (i : Nat) : ((u.setBit (CK 0x80C) 8 true).faultHw 0x0101 0 x).bit (CK 0x80C) i = (u.setBit (CK 0x80C) 8 true).bit (CK 0x80C) i := rfl
    have posted : ((u.setBit (CK 0x80C) 8 true).faultHw 0x0101 0 x).hl = { u.hl with latches := ((u.setBit (CK 0x80C) 8 true).faultHw 0x0101 0 x).hl.latches } := rfl
    have kept : ((u.setBit (CK 0x80C) 8 true).faultHw 0x0101 0 x).tick = u.tick := rfl
    have framed : u.changes [.csr, .tick, .hl] ((u.setBit (CK 0x80C) 8 true).faultHw 0x0101 0 x) := by simp
    generalize (u.setBit (CK 0x80C) 8 true).faultHw 0x0101 0 x = v at own own' posted kept framed ⊢
    obtain ⟨lframe, ltick, locked, lregs, lbits⟩ := v.lock_shows
    have lhl : v.lock.hl = v.hl := lframe.same .hl (by decide)
    refine ⟨(frame.trans framed).trans (lframe.mono (by decide)), ?_, ?_, ?_, fun a h h' => ?_, fun e => absurd e some_, fun _ => ⟨locked, ?_⟩⟩
    · rw [lhl, posted, hl]
    · rw [ltick, kept, tick]
    · exact ((State.fld_congr (lregs _ (by decide)) _ _).trans (State.fld_congr ((own _).trans (State.reg_setBit_ne _ _ _ _ _ (by decide))) _ _)).trans len'
    · exact ((lregs a h').trans ((own a).trans (State.reg_setBit_ne _ _ _ _ _ h'))).trans (regs a h)
    · exact (lbits 8 (by decide) (by decide) (by decide)).trans ((own' 8).trans (State.bit_setBit_same _ _ _ (by decide)))

/-! ## The number of the new frame (R49 to R51, R56) -/

/-- `t` has all that numbers the next frame as `s`. -/
structure State.numbersAs (s t : State) : Prop where
  src : t.src = s.src
  low : t.reg (CK 0x818) = s.reg (CK 0x818)
  high : t.fld (CK 0x81C) 0 16 = s.fld (CK 0x81C) 0 16
  up : t.hl.up = s.hl.up
  changes : t.hl.changes = s.hl.changes
  preset : t.tick.preset = s.tick.preset
  jump : t.tick.jump = s.tick.jump
  zero : t.tick.zero = s.tick.zero
  frame : t.tick.frame = s.tick.frame

theorem State.numbersAs.plainFrame {s t : State} (h : s.numbersAs t) : t.plainFrame = s.plainFrame := by
  simp only [State.plainFrame, h.preset, h.low, h.high, h.jump, h.zero, State.frameNo, h.frame]

theorem State.numbersAs.presetDue {s t : State} (h : s.numbersAs t) : t.presetDue = s.presetDue := by
  simp only [State.presetDue, h.up, h.src, h.changes, h.plainFrame]

theorem State.numbersAs.nextFrame {s t : State} (h : s.numbersAs t) : t.nextFrame = s.nextFrame := by
  rw [State.nextFrame, State.nextFrame, h.presetDue, h.plainFrame]

theorem State.numbersAs.jumps {s t : State} (h : s.numbersAs t) : t.jumps = s.jumps := by
  rw [State.jumps, State.jumps, h.presetDue, h.preset, h.jump]

/-- Changes that wait after the FRAME_PRESET of the tick has gone. -/
def State.leftChanges (s : State) : List Accepted :=
  if s.presetDue = none then s.hl.changes else s.hl.changes.filter (fun a => (a.presetAt s.plainFrame).isNone)

theorem State.dropPresets_eq (s : State) : s.dropPresets = { s with hl := { s.hl with changes := s.leftChanges } } := by
  rw [State.dropPresets, State.leftChanges]
  cases s.presetDue <;> rfl

/-- `t` is `s` with bit `i` of CK_TICK_STAT set where `c` says so, and perhaps a latched event. -/
structure State.marks (s t : State) (i : Nat) (c : Bool) : Prop where
  frame : s.changes [.csr, .hl] t
  hl : t.hl = { s.hl with latches := t.hl.latches }
  regs : ∀ a, a ≠ CK 0x80C → t.reg a = s.reg a
  bits : ∀ j, j < 32 → j ≠ i → t.bit (CK 0x80C) j = s.bit (CK 0x80C) j
  set : c = true → t.bit (CK 0x80C) i = true

theorem State.marks_setBit (s : State) {i : Nat} (h : i < 32) (c : Bool) : s.marks (if c then s.setBit (CK 0x80C) i true else s) i c := by
  cases c
  · exact ⟨s.changes_refl _, rfl, fun _ _ => rfl, fun _ _ _ => rfl, fun e => absurd e Bool.false_ne_true⟩
  · exact ⟨rfl, rfl, fun _ ne => State.reg_setBit_ne _ _ _ _ _ ne, fun _ hj ne => State.bit_setBit_other _ _ _ _ hj ne, fun _ => State.bit_setBit_same _ _ _ h⟩

theorem State.marks_fault (s : State) {i : Nat} (h : i < 32) (c : Bool) (detail src data : Nat) :
    s.marks (if c then (s.setBit (CK 0x80C) i true).faultHw detail src data else s) i c := by
  cases c
  · exact ⟨s.changes_refl _, rfl, fun _ _ => rfl, fun _ _ _ => rfl, fun e => absurd e Bool.false_ne_true⟩
  · exact ⟨rfl, rfl, fun _ ne => State.reg_setBit_ne _ _ _ _ _ ne, fun _ hj ne => State.bit_setBit_other _ _ _ _ hj ne, fun _ => State.bit_setBit_same _ _ _ h⟩

theorem State.numberFrame_shows (s : State) : s.changes [.csr, .tick, .hl] s.numberFrame ∧
    s.numberFrame.hl = { s.hl with latches := s.numberFrame.hl.latches, changes := s.leftChanges.map Accepted.aged } ∧
    s.numberFrame.tick = { s.tick with frame := BitVec.ofNat 48 s.nextFrame, count := 0, ext := 0, preset := false, jump := none, zero := false } ∧
    (∀ a, a ≠ CK 0x80C → s.numberFrame.reg a = s.reg a) ∧
    (∀ i, i < 32 → i ≠ 10 → i ≠ 11 → s.numberFrame.bit (CK 0x80C) i = s.bit (CK 0x80C) i) ∧
    (s.tick.preset = true ∨ s.presetDue ≠ none → s.numberFrame.bit (CK 0x80C) 11 = true) ∧ (s.jumps = true → s.numberFrame.bit (CK 0x80C) 10 = true) := by
  have dropped := s.dropPresets_eq
  have due : (s.tick.preset || s.presetDue.isSome) = true ↔ s.tick.preset = true ∨ s.presetDue ≠ none := by
    simp only [Bool.or_eq_true, Option.isSome_iff_ne_none]
  obtain ⟨u, v, first, second, eq⟩ : ∃ u v : State, s.dropPresets.marks u 11 (s.tick.preset || s.presetDue.isSome) ∧ u.marks v 10 s.jumps ∧
      s.numberFrame = { v with
        hl := { v.hl with changes := v.hl.changes.map Accepted.aged }
        tick := { v.tick with frame := BitVec.ofNat 48 s.nextFrame, count := 0, ext := 0, preset := false, jump := none, zero := false } } :=
    ⟨_, _, State.marks_setBit _ (by decide) _, State.marks_fault _ (by decide) _ _ _ _, rfl⟩
  rw [dropped] at first
  rw [eq]
  have utick : u.tick = s.tick := first.frame.same .tick (by decide)
  have vtick : v.tick = u.tick := second.frame.same .tick (by decide)
  have uhl := first.hl
  have vhl := second.hl
  have vchanges : v.hl.changes = s.leftChanges := by rw [vhl, uhl]
  have whole : v.hl = { s.hl with latches := v.hl.latches, changes := v.hl.changes } := by
    rw [vhl, uhl]
  refine ⟨?_, ?_, ?_, fun a h => ?_, fun i h h10 h11 => ?_, fun h => ?_, fun h => ?_⟩
  · have early : s.changes [.csr, .tick, .hl] { s with hl := { s.hl with changes := s.leftChanges } } := rfl
    exact ((early.trans (first.frame.mono (by decide))).trans (second.frame.mono (by decide))).trans (by exact rfl)
  · dsimp only
    rw [whole, vchanges]
  · dsimp only
    rw [vtick, utick]
  · exact (second.regs a h).trans (first.regs a h)
  · exact (second.bits i h h10).trans (first.bits i h h11)
  · exact (second.bits 11 (by decide) (by decide)).trans (first.set (due.mpr h))
  · exact second.set h

/-! ## Pending SRC, P and W (R41, R61, R158) -/

/-- A pending SRC in force. -/
def State.withSrc (s : State) : State :=
  match s.tick.pendSrc with
  | some v => s.applySrc v
  | none => s

/-- A pending value in force in its field. -/
def State.withFld (s : State) (a lo w : Nat) (v : Option Nat) : State :=
  match v with
  | some v => s.setFld a lo w v
  | none => s

theorem State.withSrc_shows (s : State) : s.changes [.csr, .tick, .chain] s.withSrc ∧
    s.withSrc.tick = { s.tick with acq := s.withSrc.tick.acq, slips := s.withSrc.tick.slips } ∧
    { s.withSrc.chain with calib := s.chain.calib } = s.chain ∧ (s.tick.pendSrc = none → s.withSrc = s) ∧
    (∀ x, s.tick.pendSrc = some x → s.withSrc.src = x % 4) ∧
    (∀ x, s.tick.pendSrc = some x → x ≠ s.src → s.withSrc.locked = false ∧ s.withSrc.tick.acq = true) ∧
    (s.tick.acq = true → s.withSrc.tick.acq = true) ∧ (s.locked = true → s.withSrc.locked = true ∨ s.withSrc.tick.acq = true) ∧
    (∀ a, a ≠ CK 0x800 → a ≠ CK 0x80C → s.withSrc.reg a = s.reg a) ∧
    ∀ i, i < 32 → i ≠ 0 → i ≠ 2 → s.withSrc.bit (CK 0x80C) i = s.bit (CK 0x80C) i := by
  cases pend : s.tick.pendSrc with
  | none =>
    have eq : s.withSrc = s := by rw [State.withSrc, pend]
    rw [eq]
    exact ⟨s.changes_refl _, rfl, rfl, fun _ => rfl, by simp, by simp, id, .inl, fun _ _ _ => rfl, fun _ _ _ _ => rfl⟩
  | some v =>
    have eq : s.withSrc = s.applySrc v := by rw [State.withSrc, pend]
    rw [eq, State.applySrc]
    split
    · next same =>
      refine ⟨s.changes_refl _, rfl, rfl, by simp, fun x hx => ?_, fun x hx ne => ?_, id, .inl, fun _ _ _ => rfl, fun _ _ _ _ => rfl⟩
      · cases hx
        have small : s.src < 4 := bits_lt _ 0 2
        omega
      · cases hx
        exact absurd same ne
    · refine ⟨rfl, rfl, rfl, by simp, fun x hx => ?_, fun x hx _ => ⟨State.bit_setBit_same _ _ _ (by decide), rfl⟩, fun _ => rfl, fun _ => .inr rfl,
        fun a h h' => ?_, fun i h h0 h2 => ?_⟩
      · cases hx
        have away : CK 0x800 ≠ CK 0x80C := by decide
        have regs : (({ s.applySrc v with chain := s.chain } : State).src) = (s.applySrc v).src := rfl
        exact (State.fld_congr ((State.reg_setBit_ne _ _ _ _ _ away).trans (State.reg_setBit_ne _ _ _ _ _ away)) 0 2).trans (State.fld_setFld_same _ _ _ (by decide))
      · exact (State.reg_setBit_ne _ _ _ _ _ h').trans ((State.reg_setBit_ne _ _ _ _ _ h').trans (State.reg_setFld_ne _ _ _ _ _ _ h))
      · exact (State.bit_setBit_other _ _ _ _ h h0).trans ((State.bit_setBit_other _ _ _ _ h h2).trans
          (State.bit_congr (State.reg_setFld_ne _ _ _ _ _ _ (by decide)) i))

theorem State.withFld_shows (s : State) (a : Nat) {lo w : Nat} (h : lo + w ≤ 32) (v : Option Nat) : s.changes [.csr] (s.withFld a lo w v) ∧
    (∀ b, b ≠ a → (s.withFld a lo w v).reg b = s.reg b) ∧ (∀ x, v = some x → (s.withFld a lo w v).fld a lo w = x % 2 ^ w) ∧
    (v = none → (s.withFld a lo w v).fld a lo w = s.fld a lo w) := by
  cases v with
  | none => exact ⟨s.changes_refl _, fun _ _ => rfl, by simp, fun _ => rfl⟩
  | some x =>
    refine ⟨rfl, fun b hb => State.reg_setFld_ne _ _ _ _ _ _ hb, fun y hy => ?_, by simp⟩
    cases hy
    exact State.fld_setFld_same _ _ _ h

/-- Nothing pends any more. -/
def State.nonePending (s : State) : State := { s with tick := { s.tick with pendSrc := none, pendP := none, pendW := none } }

/-- The tick's pending values in force. -/
def State.inForce (s : State) : State :=
  let t := s.withSrc.withFld (CK 0x804) 0 13 s.withSrc.tick.pendP
  (t.withFld (CK 0x830) 0 7 t.tick.pendW).nonePending

theorem State.applyPending_eq (s : State) : s.applyPending = if s.inForce.src = 0 ∧ s.inForce.tick.acq then s.inForce.lock else s.inForce := rfl

theorem State.inForce_shows (s : State) : s.withSrc.changes [.csr, .tick] s.inForce ∧ s.inForce.tick = { s.withSrc.tick with pendSrc := none, pendP := none, pendW := none } ∧
    (∀ a, a ≠ CK 0x804 → a ≠ CK 0x830 → s.inForce.reg a = s.withSrc.reg a) ∧
    (∀ p, s.withSrc.tick.pendP = some p → s.inForce.P = p % 2 ^ 13) ∧ (s.withSrc.tick.pendP = none → s.inForce.P = s.withSrc.P) ∧
    (∀ w, s.withSrc.tick.pendW = some w → s.inForce.wMax = w % 2 ^ 7) ∧ (s.withSrc.tick.pendW = none → s.inForce.wMax = s.withSrc.wMax) := by
  rw [State.inForce]
  generalize s.withSrc = u
  obtain ⟨pframe, pregs, pnew, pold⟩ := u.withFld_shows (CK 0x804) (lo := 0) (w := 13) (by decide) u.tick.pendP
  generalize u.withFld (CK 0x804) 0 13 u.tick.pendP = v at *
  have vtick : v.tick = u.tick := pframe.same .tick (by decide)
  obtain ⟨wframe, wregs, wnew, wold⟩ := v.withFld_shows (CK 0x830) (lo := 0) (w := 7) (by decide) v.tick.pendW
  dsimp only
  generalize v.withFld (CK 0x830) 0 7 v.tick.pendW = w at *
  have wtick : w.tick = v.tick := wframe.same .tick (by decide)
  have P : w.nonePending.P = v.P := State.fld_congr (wregs _ (by decide)) 0 13
  have W : v.wMax = u.wMax := State.fld_congr (pregs _ (by decide)) 0 7
  have W' : w.nonePending.wMax = w.wMax := rfl
  refine ⟨((pframe.mono (by decide)).trans (wframe.mono (by decide))).trans (by exact rfl), ?_, fun a h h' => ((wregs a h').trans (pregs a h)),
    fun p h => P.trans (pnew p h), fun h => P.trans (pold h), fun x h => W'.trans (wnew x (vtick ▸ h)), fun h => W'.trans ((wold (vtick ▸ h)).trans W)⟩
  rw [State.nonePending, wtick, vtick]

theorem State.applyPending_shows (s : State) : s.changes [.csr, .tick, .chain] s.applyPending ∧
    s.applyPending.tick = { s.tick with
      pendSrc := none, pendP := none, pendW := none, acq := s.applyPending.tick.acq, slips := s.applyPending.tick.slips } ∧
    { s.applyPending.chain with calib := s.chain.calib } = s.chain ∧ (s.tick.pendSrc = none → s.applyPending.chain = s.chain) ∧
    (∀ p, s.tick.pendP = some p → s.applyPending.P = p % 2 ^ 13) ∧ (s.tick.pendP = none → s.applyPending.P = s.P) ∧
    (∀ w, s.tick.pendW = some w → s.applyPending.wMax = w % 2 ^ 7) ∧ (s.tick.pendW = none → s.applyPending.wMax = s.wMax) ∧
    (∀ x, s.tick.pendSrc = some x → s.applyPending.src = x % 4) ∧ (s.tick.pendSrc = none → s.applyPending.src = s.src) ∧
    (s.tick.pendSrc = none → s.src ≠ 0 ∨ s.tick.acq = false → s.applyPending.locked = s.locked) ∧
    (s.tick.pendSrc = none → s.locked = true → s.applyPending.locked = true) ∧
    (∀ x, s.tick.pendSrc = some x → x ≠ s.src → s.applyPending.locked = decide (x % 4 = 0)) ∧
    (s.applyPending.src = 0 → s.tick.acq = true ∨ s.locked = true → s.applyPending.locked = true) ∧
    (∀ a, a ≠ CK 0x800 → a ≠ CK 0x804 → a ≠ CK 0x80C → a ≠ CK 0x830 → s.applyPending.reg a = s.reg a) ∧
    ∀ i, i < 32 → i ≠ 0 → i ≠ 1 → i ≠ 2 → s.applyPending.bit (CK 0x80C) i = s.bit (CK 0x80C) i := by
  obtain ⟨sframe, stick, schain, snone, ssrc, slocked, sacq, skept, sregs, sbits⟩ := s.withSrc_shows
  obtain ⟨frame, tick, regs, pnew, pold, wnew, wold⟩ := s.inForce_shows
  have chain : s.inForce.chain = s.withSrc.chain := frame.same .chain (by decide)
  have P : s.withSrc.P = s.P := State.fld_congr (sregs _ (by decide) (by decide)) 0 13
  have W : s.withSrc.wMax = s.wMax := State.fld_congr (sregs _ (by decide) (by decide)) 0 7
  have src : s.inForce.src = s.withSrc.src := State.fld_congr (regs _ (by decide) (by decide)) 0 2
  have locked : s.inForce.locked = s.withSrc.locked := State.bit_congr (regs _ (by decide) (by decide)) 0
  have acq : s.inForce.tick.acq = s.withSrc.tick.acq := by rw [tick]
  have pendP : s.withSrc.tick.pendP = s.tick.pendP := by rw [stick]
  have pendW : s.withSrc.tick.pendW = s.tick.pendW := by rw [stick]
  rw [pendP] at pnew pold
  rw [pendW] at wnew wold
  rw [State.applyPending_eq]
  have wholeTick : s.inForce.tick = { s.tick with
      pendSrc := none, pendP := none, pendW := none, acq := s.inForce.tick.acq, slips := s.inForce.tick.slips } := by
    rw [tick, stick]
  have all : s.changes [.csr, .tick, .chain] s.inForce := sframe.trans (frame.mono (by decide))
  generalize s.inForce = t at *
  split
  · next lockNow =>
    obtain ⟨lframe, ltick, llocked, lregs, lbits⟩ := t.lock_shows
    have lsrc : t.lock.src = t.src := State.fld_congr (lregs _ (by decide)) 0 2
    have lchain : t.lock.chain = t.chain := lframe.same .chain (by decide)
    refine ⟨all.trans (lframe.mono (by decide)), by rw [ltick, wholeTick], by rw [lchain, chain]; exact schain, fun h => by rw [lchain, chain, snone h],
      fun p h => (State.fld_congr (lregs _ (by decide)) 0 13).trans (pnew p h), fun h => (State.fld_congr (lregs _ (by decide)) 0 13).trans ((pold h).trans P),
      fun w h => (State.fld_congr (lregs _ (by decide)) 0 7).trans (wnew w h), fun h => (State.fld_congr (lregs _ (by decide)) 0 7).trans ((wold h).trans W),
      fun x h => lsrc.trans (src.trans (ssrc x h)), fun h => by rw [lsrc, src, snone h], fun h k => ?_, fun _ _ => llocked, fun x h ne => ?_, fun _ _ => llocked,
      fun a h h' h2 h3 => (lregs a h2).trans ((regs a h' h3).trans (sregs a h h2)),
      fun i h h0 h1 h2 => (lbits i h h0 h1).trans ((State.bit_congr (regs _ (by decide) (by decide)) i).trans (sbits i h h0 h2))⟩
    · obtain ⟨zero, waits⟩ := lockNow
      rw [src, snone h] at zero
      rw [acq, snone h] at waits
      obtain k | k := k
      · exact absurd zero k
      · rw [k] at waits
        exact absurd waits Bool.false_ne_true
    · have zero : x % 4 = 0 := (ssrc x h).symm.trans (src.symm.trans lockNow.1)
      rw [llocked, decide_eq_true zero]
  · next keep =>
    refine ⟨all, wholeTick, by rw [chain]; exact schain, fun h => by rw [chain, snone h],
      pnew, fun h => (pold h).trans P, wnew, fun h => (wold h).trans W,
      fun x h => src.trans (ssrc x h), fun h => by rw [src, snone h], fun h _ => by rw [locked, snone h], fun h k => by rw [locked, snone h, k], fun x h ne => ?_, fun zero either => ?_,
      fun a h h' h2 h3 => (regs a h' h3).trans (sregs a h h2), fun i h h0 h1 h2 => (State.bit_congr (regs _ (by decide) (by decide)) i).trans (sbits i h h0 h2)⟩
    · obtain ⟨off, waits⟩ := slocked x h ne
      have nonzero : x % 4 ≠ 0 := fun e => keep ⟨src.trans ((ssrc x h).trans e), acq.trans waits⟩
      rw [locked, off, decide_eq_false nonzero]
    · have still : s.withSrc.tick.acq ≠ true := fun e => keep ⟨zero, acq.trans e⟩
      obtain h | h := either
      · exact absurd (sacq h) still
      · rw [locked]
        exact (skept h).resolve_right still

/-! ## SOF records (R51) -/

theorem State.tickSof_shows (s : State) : s.changes [.tick] s.tickSof ∧
    s.tickSof.tick = { s.tick with sofs := s.tickSof.tick.sofs, cmp := s.tickSof.tick.cmp, jump := s.tickSof.tick.jump } := by
  have compare (t : State) (own announced : Nat) : t.changes [.tick] (t.compareSof own announced) ∧
      (t.compareSof own announced).tick = { t.tick with jump := (t.compareSof own announced).tick.jump } := by
    rw [State.compareSof]
    dsimp only
    split
    · exact ⟨t.changes_refl _, rfl⟩
    · exact ⟨rfl, rfl⟩
  rw [State.tickSof]
  dsimp only
  split
  · next o own f h =>
    obtain ⟨frame, tick⟩ := compare { s with tick := { s.tick with
      sofs := s.tick.sofs.map (Option.map s.numberSof), cmp := s.tick.cmp.map (fun (o, f) => (s.numberSof o, f)) } } own f
    have before : s.changes [.tick] { s with tick := { s.tick with
      sofs := s.tick.sofs.map (Option.map s.numberSof), cmp := s.tick.cmp.map (fun (o, f) => (s.numberSof o, f)) } } := rfl
    refine ⟨(before.trans frame).trans (by exact rfl), ?_⟩
    dsimp only
    rw [tick]
  · exact ⟨rfl, rfl⟩

/-! ## The generator's tick -/

/-- What the tick leaves of a state's parts. -/
def generatorParts : List Part := [.csr, .tick, .timePs, .hl, .chain, .rg]

/-- The frame that ends is closed. -/
def State.closed (s : State) : State := s.elapse.closeFrame

theorem State.closed_numbers (s : State) : s.numbersAs s.closed ∧ s.closed.leftChanges = s.leftChanges := by
  obtain ⟨eframe, _, etick, _⟩ := s.elapse_shows
  obtain ⟨_, chl, ctick, _, cregs, _⟩ := s.elapse.closeFrame_shows
  have ehl : s.elapse.hl = s.hl := eframe.same .hl (by decide)
  have ecsr : s.elapse.csr = s.csr := eframe.same .csr (by decide)
  have reg (a : Nat) (h : a ≠ CK 0x828) (h' : a ≠ CK 0x80C) : s.closed.reg a = s.reg a := (cregs a h h').trans (State.reg_congr ecsr a)
  have changes : s.closed.hl.changes = s.hl.changes := by rw [State.closed, chl, ehl]
  have numbers : s.numbersAs s.closed := by
    refine ⟨State.fld_congr (reg _ (by decide) (by decide)) 0 2, reg _ (by decide) (by decide), State.fld_congr (reg _ (by decide) (by decide)) 0 16, ?_, changes, ?_, ?_, ?_, ?_⟩
    · rw [State.closed, chl, ehl]
    all_goals rw [State.closed, ctick, etick]
  exact ⟨numbers, by rw [State.leftChanges, State.leftChanges, numbers.presetDue, numbers.plainFrame, changes]⟩

/-- What the generator's tick leaves as it was. -/
theorem State.tickGenerator_frame (s : State) : s.changes generatorParts s.tickGenerator := by
  have e := s.elapse_shows.1
  have c := s.elapse.closeFrame_shows.1
  have n := s.elapse.closeFrame.numberFrame_shows.1
  have p := s.elapse.closeFrame.numberFrame.applyPending_shows.1
  have f := s.elapse.closeFrame.numberFrame.applyPending.tickSof_shows.1
  exact ((((e.mono (by decide)).trans (c.mono (by decide))).trans (n.mono (by decide))).trans (p.mono (by decide))).trans (f.mono (by decide))

/-- Time, count and number, and the changes that wait, after the generator's tick. -/
theorem State.tickGenerator_numbers (s : State) : s.tickGenerator.tick.count = 0 ∧ s.tickGenerator.tick.ext = 0 ∧ s.tickGenerator.frameNo = s.nextFrame % 2 ^ 48 ∧
    s.tickGenerator.timePs = s.timePs + s.cyclesLeft * s.fabricPs ∧ s.tickGenerator.tick.cyc = s.tick.cyc + s.cyclesLeft ∧
    s.tickGenerator.hl = { s.hl with latches := s.tickGenerator.hl.latches, changes := s.leftChanges.map Accepted.aged } ∧
    s.tickGenerator.tick.pendSrc = none ∧ s.tickGenerator.tick.pendP = none ∧ s.tickGenerator.tick.pendW = none := by
  obtain ⟨eframe, time, etick, _⟩ := s.elapse_shows
  obtain ⟨cframe, chl, ctick, _⟩ := s.elapse.closeFrame_shows
  obtain ⟨nframe, nhl, ntick, _⟩ := s.elapse.closeFrame.numberFrame_shows
  obtain ⟨pframe, ptick, _⟩ := s.elapse.closeFrame.numberFrame.applyPending_shows
  obtain ⟨fframe, ftick⟩ := s.elapse.closeFrame.numberFrame.applyPending.tickSof_shows
  obtain ⟨numbers, left⟩ := s.closed_numbers
  have ehl : s.elapse.hl = s.hl := eframe.same .hl (by decide)
  have hl : s.tickGenerator.hl = s.elapse.closeFrame.numberFrame.hl := (fframe.same .hl (by decide) :).trans (pframe.same .hl (by decide))
  have number : s.elapse.closeFrame.nextFrame = s.nextFrame := numbers.nextFrame
  have left' : s.elapse.closeFrame.leftChanges = s.leftChanges := left
  have tick : s.tickGenerator.tick = { s.elapse.closeFrame.numberFrame.tick with
      pendSrc := none, pendP := none, pendW := none, acq := s.tickGenerator.tick.acq, slips := s.tickGenerator.tick.slips,
      sofs := s.tickGenerator.tick.sofs, cmp := s.tickGenerator.tick.cmp, jump := s.tickGenerator.tick.jump } := by
    rw [State.tickGenerator, ftick, ptick]
  refine ⟨?_, ?_, ?_, ?_, ?_, ?_, ?_, ?_, ?_⟩
  · rw [tick, ntick]
  · rw [tick, ntick]
  · rw [State.frameNo, tick, ntick, number]
    exact BitVec.toNat_ofNat _ _
  · exact (fframe.same .timePs (by decide) :).trans ((pframe.same .timePs (by decide) :).trans ((nframe.same .timePs (by decide) :).trans
      ((cframe.same .timePs (by decide) :).trans time)))
  · rw [tick, ntick, ctick, etick]
  · rw [hl, nhl, chl, ehl, left']
  · rw [tick]
  · rw [tick]
  · rw [tick]

/-- The generator's registers after its tick. -/
theorem State.tickGenerator_registers (s : State) : s.tickGenerator.fld (CK 0x828) 0 13 = (s.P + s.tick.ext) % 2 ^ 13 ∧
    (∀ p, s.tick.pendP = some p → s.tickGenerator.P = p % 2 ^ 13) ∧ (s.tick.pendP = none → s.tickGenerator.P = s.P) ∧
    (∀ w, s.tick.pendW = some w → s.tickGenerator.wMax = w % 2 ^ 7) ∧ (s.tick.pendW = none → s.tickGenerator.wMax = s.wMax) ∧
    (∀ x, s.tick.pendSrc = some x → s.tickGenerator.src = x % 4) ∧ (s.tick.pendSrc = none → s.tickGenerator.src = s.src) ∧
    (s.tick.preset = true ∨ s.presetDue ≠ none → s.tickGenerator.bit (CK 0x80C) 11 = true) ∧ (s.jumps = true → s.tickGenerator.bit (CK 0x80C) 10 = true) ∧
    (s.tick.ext ≠ 0 → s.tickGenerator.bit (CK 0x80C) 8 = true) ∧ (s.tick.ext ≠ 0 → s.tick.pendSrc = none → s.tickGenerator.locked = true) ∧
    (∀ x, s.tick.pendSrc = some x → x ≠ s.src → s.tickGenerator.locked = decide (x % 4 = 0)) ∧
    (s.tickGenerator.src = 0 → s.tick.acq = true → s.tickGenerator.locked = true) ∧
    (s.tick.ext = 0 → s.tick.pendSrc = none → s.src ≠ 0 ∨ s.tick.acq = false → s.tickGenerator.locked = s.locked) ∧
    ∀ a, a ≠ CK 0x800 → a ≠ CK 0x804 → a ≠ CK 0x80C → a ≠ CK 0x830 → a ≠ CK 0x828 → s.tickGenerator.reg a = s.reg a := by
  obtain ⟨eframe, _, etick, _⟩ := s.elapse_shows
  obtain ⟨_, _, ctick, len, cregs, ckeep, clock⟩ := s.elapse.closeFrame_shows
  obtain ⟨_, _, ntick, nregs, nbits, preset, jumped⟩ := s.elapse.closeFrame.numberFrame_shows
  obtain ⟨_, _, _, _, pP, pP', pW, pW', psrc, psrc', pkeep, pstay, pnew, pfree, pregs, pbits⟩ := s.elapse.closeFrame.numberFrame.applyPending_shows
  have fframe := s.elapse.closeFrame.numberFrame.applyPending.tickSof_shows.1
  have numbers := s.closed_numbers.1
  have ecsr : s.elapse.csr = s.csr := eframe.same .csr (by decide)
  have fcsr : s.tickGenerator.csr = s.elapse.closeFrame.numberFrame.applyPending.csr := fframe.same .csr (by decide)
  have ext : s.elapse.tick.ext = s.tick.ext := by rw [etick]
  have P : s.elapse.P = s.P := State.fld_congr (State.reg_congr ecsr _) 0 13
  have reg (a : Nat) (h : a ≠ CK 0x80C) (h' : a ≠ CK 0x828) : s.elapse.closeFrame.numberFrame.reg a = s.reg a :=
    (nregs a h).trans ((cregs a h' h).trans (State.reg_congr ecsr a))
  have ePend : s.elapse.closeFrame.numberFrame.tick.pendP = s.tick.pendP := by rw [ntick, ctick, etick]
  have eWend : s.elapse.closeFrame.numberFrame.tick.pendW = s.tick.pendW := by rw [ntick, ctick, etick]
  have eSrc : s.elapse.closeFrame.numberFrame.tick.pendSrc = s.tick.pendSrc := by rw [ntick, ctick, etick]
  have eAcq : s.elapse.closeFrame.numberFrame.tick.acq = if s.tick.ext = 0 then s.tick.acq else false := by rw [ntick, ctick, etick]
  have nP : s.elapse.closeFrame.numberFrame.P = s.P := State.fld_congr (reg _ (by decide) (by decide)) 0 13
  have nW : s.elapse.closeFrame.numberFrame.wMax = s.wMax := State.fld_congr (reg _ (by decide) (by decide)) 0 7
  have nS : s.elapse.closeFrame.numberFrame.src = s.src := State.fld_congr (reg _ (by decide) (by decide)) 0 2
  have nL : s.elapse.closeFrame.numberFrame.locked = s.elapse.closeFrame.locked := nbits 0 (by decide) (by decide) (by decide)
  have preset' : s.elapse.closeFrame.tick.preset = true ∨ s.elapse.closeFrame.presetDue ≠ none ↔ s.tick.preset = true ∨ s.presetDue ≠ none := by
    rw [show s.elapse.closeFrame.tick.preset = s.tick.preset from numbers.preset, show s.elapse.closeFrame.presetDue = s.presetDue from numbers.presetDue]
  have jumps' : s.elapse.closeFrame.jumps = s.jumps := numbers.jumps
  have flds (a lo w : Nat) : s.tickGenerator.fld a lo w = s.elapse.closeFrame.numberFrame.applyPending.fld a lo w := State.fld_congr (State.reg_congr fcsr a) lo w
  have bits_ (a i : Nat) : s.tickGenerator.bit a i = s.elapse.closeFrame.numberFrame.applyPending.bit a i := State.bit_congr (State.reg_congr fcsr a) i
  rw [ext, P] at len
  rw [ext, show s.elapse.locked = s.locked from State.bit_congr (State.reg_congr ecsr _) 0] at ckeep
  rw [ext] at clock
  rw [ePend] at pP pP'
  rw [eWend] at pW pW'
  rw [eSrc] at psrc psrc' pkeep pstay pnew
  rw [nS] at pnew
  rw [nL] at pstay pkeep pfree
  rw [eAcq] at pfree pkeep
  refine ⟨?_, fun p h => (flds _ _ _).trans (pP p h), fun h => (flds _ _ _).trans ((pP' h).trans nP), fun w h => (flds _ _ _).trans (pW w h),
    fun h => (flds _ _ _).trans ((pW' h).trans nW), fun x h => (flds _ _ _).trans (psrc x h), fun h => (flds _ _ _).trans ((psrc' h).trans nS),
    fun h => ?_, fun h => ?_, fun h => ?_, fun h k => ?_, fun x h ne => (bits_ _ _).trans (pnew x h ne), fun zero h => ?_, fun h k l => ?_,
    fun a h h' h2 h3 h4 => (State.reg_congr fcsr a).trans ((pregs a h h' h2 h3).trans (reg a h2 h4))⟩
  · exact (flds _ _ _).trans ((State.fld_congr (pregs _ (by decide) (by decide) (by decide) (by decide)) _ _).trans ((State.fld_congr (nregs _ (by decide)) _ _).trans len))
  · exact (bits_ _ _).trans ((pbits 11 (by decide) (by decide) (by decide) (by decide)).trans (preset (preset'.mpr h)))
  · exact (bits_ _ _).trans ((pbits 10 (by decide) (by decide) (by decide) (by decide)).trans (jumped (jumps'.trans h)))
  · exact (bits_ _ _).trans ((pbits 8 (by decide) (by decide) (by decide) (by decide)).trans ((nbits 8 (by decide) (by decide) (by decide)).trans (clock h).2))
  · exact (bits_ _ _).trans (pstay k (clock h).1)
  · have zero' : s.elapse.closeFrame.numberFrame.applyPending.src = 0 := (flds _ _ _).symm.trans zero
    refine (bits_ _ _).trans (pfree zero' ?_)
    by_cases e : s.tick.ext = 0
    · exact .inl (by rw [if_pos e, h])
    · exact .inr (clock e).1
  · rw [if_pos h, nS] at pkeep
    exact (bits_ _ _).trans ((pkeep k l).trans (ckeep h))

/-- Regions and chain after the generator's tick. -/
theorem State.tickGenerator_regions (s : State) : (∀ r, r < 96 → s.tickGenerator.region r =
      if s.tick.count < s.P + s.tick.ext then { s.region r with swapCycle := false, pinStart := false } else s.region r) ∧
    { s.tickGenerator.chain with lines := s.chain.lines, calib := s.chain.calib } = s.chain ∧
    (s.tick.pendSrc = none → s.tickGenerator.chain.calib = s.chain.calib) := by
  obtain ⟨_, _, etick, echain, region⟩ := s.elapse_shows
  obtain ⟨cframe, _, ctick, _⟩ := s.elapse.closeFrame_shows
  obtain ⟨nframe, _, ntick, _⟩ := s.elapse.closeFrame.numberFrame_shows
  obtain ⟨pframe, _, pchain, pkeep, _⟩ := s.elapse.closeFrame.numberFrame.applyPending_shows
  have fframe := s.elapse.closeFrame.numberFrame.applyPending.tickSof_shows.1
  have rg : s.tickGenerator.rg = s.elapse.rg := (fframe.same .rg (by decide) :).trans ((pframe.same .rg (by decide) :).trans
    ((nframe.same .rg (by decide) :).trans (cframe.same .rg (by decide))))
  have chain : s.tickGenerator.chain = s.elapse.closeFrame.numberFrame.applyPending.chain := fframe.same .chain (by decide)
  have chain' : s.elapse.closeFrame.numberFrame.chain = s.elapse.chain := (nframe.same .chain (by decide) :).trans (cframe.same .chain (by decide))
  have pend : s.elapse.closeFrame.numberFrame.tick.pendSrc = s.tick.pendSrc := by rw [ntick, ctick, etick]
  rw [chain'] at pchain pkeep
  rw [pend] at pkeep
  rw [chain]
  generalize s.elapse.closeFrame.numberFrame.applyPending.chain = c at *
  generalize s.elapse.chain = e at *
  refine ⟨fun r h => (State.region_congr rg r).trans (region r h), ?_, fun h => ?_⟩
  · rw [← echain, ← pchain]
  · rw [pkeep h, ← echain]

/-- The number of the tick (R49 to R51, R56). -/
theorem State.nextFrame_shows (s : State) : (∀ v, s.presetDue = some v → s.nextFrame % 2 ^ 48 = v % 2 ^ 48) ∧
    (s.presetDue = none → s.tick.preset = true → s.nextFrame = s.reg (CK 0x818) + s.fld (CK 0x81C) 0 16 * 2 ^ 32) ∧
    (s.presetDue = none → s.tick.preset = false → ∀ j, s.tick.jump = some j → s.nextFrame % 2 ^ 48 = (s.frameNo + 1 + j) % 2 ^ 48 ∧ s.jumps = true) ∧
    (s.presetDue = none → s.tick.preset = false → s.tick.jump = none → s.nextFrame = if s.tick.zero then 0 else (s.frameNo + 1) % 2 ^ 48) := by
  have plain (h : s.presetDue = none) : s.nextFrame = s.plainFrame := by
    rw [State.nextFrame, h]
    exact rfl
  refine ⟨fun v h => ?_, fun h k => ?_, fun h k j hj => ⟨?_, ?_⟩, fun h k hj => ?_⟩
  · rw [State.nextFrame, h]
    exact Nat.mod_mod _ _
  · rw [plain h, State.plainFrame, if_pos k]
  · have jumped : s.plainFrame = addFrame (addFrame s.frameNo 1) j := by simp only [State.plainFrame, k, hj, Bool.false_eq_true, if_false]
    rw [plain h, jumped, addFrame, addFrame, Nat.mod_mod, Nat.mod_add_mod]
  · simp only [State.jumps, h, k, hj, Bool.not_false, Option.isNone_none, Option.isSome_some, Bool.and_self]
  · rw [plain h]
    simp only [State.plainFrame, k, hj, Bool.false_eq_true, if_false, addFrame]

/-- A FRAME_PRESET that the tick carries is an accepted one whose target it would reach. -/
theorem State.presetDue_accepted {s : State} {v : Nat} (h : s.presetDue = some v) : ∃ a ∈ s.hl.changes, a.what = .preset v ∧ laterFrame a.target s.plainFrame = false := by
  have mem : v ∈ s.hl.changes.filterMap (fun a => a.presetAt s.plainFrame) := by
    unfold State.presetDue at h
    split at h
    · exact List.mem_of_getLast? h
    · exact absurd h (by simp)
  obtain ⟨a, ha, at_⟩ := List.mem_filterMap.mp mem
  refine ⟨a, ha, ?_⟩
  unfold Accepted.presetAt at at_
  split at at_
  · next w what =>
    split at at_
    · next due =>
      cases at_
      simp only [Accepted.dueNext, Bool.and_eq_true, Bool.not_eq_true'] at due
      exact ⟨what, due.2⟩
    · exact absurd at_ (by simp)
  · exact absurd at_ (by simp)

end Sys2Proof.Machine
end

section
/-! What every tier does at a tick (Table TCK-4). -/
namespace Sys2Proof.Machine

/-! ## The generator does not look at the fabric -/

def State.withFab (s : State) (f : Fabric) : State := { s with fab := f }

theorem State.withFab_ite (c : Prop) [Decidable c] (a b : State) (f : Fabric) : (if c then a else b).withFab f = if c then a.withFab f else b.withFab f :=
  apply_ite (·.withFab f) c a b

theorem forAll_withFab {step : Nat → State → State} {f : Fabric} (h : ∀ k t, step k (t.withFab f) = (step k t).withFab f) (n : Nat) (s : State) :
    forAll n step (s.withFab f) = (forAll n step s).withFab f := by
  induction n with
  | zero => rfl
  | succ n ih => rw [forAll_succ, forAll_succ, ih, h]

theorem State.elapse_withFab (s : State) (f : Fabric) : (s.withFab f).elapse = s.elapse.withFab f := by
  have ended : (s.withFab f).endSwapCycles = s.endSwapCycles.withFab f := forAll_withFab (step := fun r (t : State) =>
    if (t.region r).swapCycle || (t.region r).pinStart then t.setRegion r { t.region r with swapCycle := false, pinStart := false } else t)
    (fun k t => by
      rw [State.withFab_ite]
      rfl) 96 s
  have line (t : State) (p : Nat) : (t.withFab f).runLine p = (t.runLine p).withFab f := rfl
  have cycles (t : State) (n : Nat) : (t.withFab f).passCycles n = (t.passCycles n).withFab f := by
    have time : { t.withFab f with timePs := (t.withFab f).timePs + n * (t.withFab f).fabricPs, tick := { (t.withFab f).tick with cyc := (t.withFab f).tick.cyc + n } } =
      ({ t with timePs := t.timePs + n * t.fabricPs, tick := { t.tick with cyc := t.tick.cyc + n } } : State).withFab f := rfl
    simp only [State.passCycles, time, line]
  have left : (s.withFab f).P + (s.withFab f).tick.ext - (s.withFab f).tick.count = s.P + s.tick.ext - s.tick.count := rfl
  simp only [State.elapse, left, ended]
  rw [← State.withFab_ite, cycles]

theorem State.closeFrame_withFab (s : State) (f : Fabric) : (s.withFab f).closeFrame = s.closeFrame.withFab f := by
  have ext : (s.withFab f).tick.ext = s.tick.ext := rfl
  simp only [State.closeFrame, State.withFab_ite, ext]
  split <;> rfl

theorem State.numberFrame_withFab (s : State) (f : Fabric) : (s.withFab f).numberFrame = s.numberFrame.withFab f := by
  have due : (s.withFab f).presetDue = s.presetDue := rfl
  have jumps : (s.withFab f).jumps = s.jumps := rfl
  have preset : (s.withFab f).tick.preset = s.tick.preset := rfl
  have dropped : (s.withFab f).dropPresets = s.dropPresets.withFab f := by
    rw [State.dropPresets_eq, State.dropPresets_eq]
    rfl
  simp only [State.numberFrame, due, jumps, preset, dropped]
  split <;> split <;> rfl

theorem State.applyPending_withFab (s : State) (f : Fabric) : (s.withFab f).applyPending = s.applyPending.withFab f := by
  have src : (s.withFab f).withSrc = s.withSrc.withFab f := by
    have pend : (s.withFab f).tick.pendSrc = s.tick.pendSrc := rfl
    rw [State.withSrc, State.withSrc, pend]
    cases s.tick.pendSrc with
    | none => rfl
    | some v =>
      have same : (s.withFab f).src = s.src := rfl
      simp only [State.applySrc, same, State.withFab_ite]
      rfl
  have fld (t : State) (a lo w : Nat) (v : Option Nat) : (t.withFab f).withFld a lo w v = (t.withFld a lo w v).withFab f := by cases v <;> rfl
  have force : (s.withFab f).inForce = s.inForce.withFab f := by
    rw [State.inForce, src, fld, fld]
    rfl
  rw [State.applyPending_eq, force, State.applyPending_eq, State.withFab_ite]
  rfl

/-- The comparison that waits is made, once its SOF has its number. -/
def State.sofCompared (s : State) : State :=
  match s.tick.cmp with
  | some (⟨_, some own⟩, f) => { s.compareSof own f with tick := { (s.compareSof own f).tick with cmp := none } }
  | _ => s

theorem State.sofCompared_withFab (s : State) (f : Fabric) : (s.withFab f).sofCompared = s.sofCompared.withFab f := by
  have compare (own g : Nat) : (s.withFab f).compareSof own g = (s.compareSof own g).withFab f := by
    simp only [State.compareSof, State.withFab_ite]
    rfl
  have cmp : (s.withFab f).tick.cmp = s.tick.cmp := rfl
  unfold State.sofCompared
  rw [cmp]
  split
  · rw [compare]
    rfl
  · rfl

theorem State.tickSof_withFab (s : State) (f : Fabric) : (s.withFab f).tickSof = s.tickSof.withFab f :=
  State.sofCompared_withFab { s with tick := { s.tick with
    sofs := s.tick.sofs.map (Option.map s.numberSof), cmp := s.tick.cmp.map (fun (o, f) => (s.numberSof o, f)) } } f

theorem State.tickGenerator_withFab (s : State) (f : Fabric) : (s.withFab f).tickGenerator = s.tickGenerator.withFab f := by
  rw [State.tickGenerator, State.elapse_withFab, State.closeFrame_withFab, State.numberFrame_withFab, State.applyPending_withFab, State.tickSof_withFab]
  rfl

/-! ## Step 0 of the schedules (R131, R134) -/

theorem State.enterStep_stands (j h : Nat) (t : State) (k : Nat) : t.stands (t.enterStep j h k) k := by
  have apart : RG k 0 ≠ RG k 0x14 := by unfold RG; omega
  have status : (t.enterStep j h k).reg (RG k 0) = ((t.setRegion k { t.region k with wait0 := false }).setFld (RG k 0) 8 4 j).reg (RG k 0) :=
    (State.reg_setFld_ne _ _ _ _ _ _ apart).trans (State.reg_setFld_ne _ _ _ _ _ _ apart)
  have region : (t.enterStep j h k).region k = { t.region k with wait0 := false } := State.region_setRegion_same t k _
  exact ⟨(State.fld_congr status 0 3).trans (State.fld_setFld_other _ _ _ _ _ (by decide) (by decide)),
    fun c hc => (State.bit_congr status _).trans (State.bit_setFld_other _ _ _ _ _ (by omega) (.inr (by omega))),
    (State.bit_congr status 12).trans (State.bit_setFld_other _ _ _ _ _ (by decide) (by decide)), by rw [region], by rw [region]⟩

theorem State.foldl_stands {f : State → Nat → State} {os : List Nat} (step : ∀ (t : State) (k : Nat), t.within (f t k) [k] os)
    (small : ∀ o ∈ os, o < 0x100) (stand : ∀ (t : State) (k : Nat), t.stands (f t k) k) (l : List Nat) (s : State) (k : Nat) : s.stands (l.foldl f s) k := by
  induction l generalizing s with
  | nil => exact s.stands_refl k
  | cons j l ih =>
    refine State.stands.trans ?_ (ih (f s j))
    by_cases e : k = j
    · exact e ▸ stand s j
    · exact (State.runs_of_same ((step s j).other small (by simpa using e) (by decide)) ((step s j).regions k (by simpa using e))).toStands

/-- What a step's start leaves, whatever it does. -/
theorem State.startStep_stands {s : State} {r : Nat} (leads : s.leads r = true) (j due grant : Nat) (change : Option Nat) :
    s.within (s.startStep r j due grant change) (s.pairOf r) [0, 0x10, 0x14] ∧ ∀ k, s.stands (s.startStep r j due grant change) k := by
  obtain ⟨drop, _, run⟩ := State.dropPendingReq_shows leads
  have pair : (s.dropPendingReq r).pairOf r = s.pairOf r := State.pairOf_congr (by rw [drop.frame.same .fab (by decide)]) (fun k => (run k).toStands) r
  have mem : r ∈ (s.dropPendingReq r).pairOf r := by
    rw [pair]
    exact State.mem_pairOf leads
  have wide : [0, 0x10] ⊆ [0, 0x10, 0x14] := by decide
  unfold State.startStep
  generalize s.stepCtx r j = ctx
  dsimp only
  split
  · obtain ⟨only, _, _, _, _, _, run'⟩ := State.pend_shows mem ctx .planned due grant j change
    rw [pair] at only
    generalize (s.dropPendingReq r).pend r ctx .planned due grant j change = t at *
    exact ⟨(drop.mono (List.Subset.refl _) wide).trans (only.mono (List.Subset.refl _) (by decide)), fun k => (run k).toStands.trans (run' k).toStands⟩
  · split
    · rw [pair]
      generalize (s.dropPendingReq r).shift r j = h
      have entered := State.within_foldl (State.enterStep_within j h) (s.pairOf r) (s.dropPendingReq r)
      have stand := State.foldl_stands (State.enterStep_within j h) (by decide) (State.enterStep_stands j h) (s.pairOf r) (s.dropPendingReq r)
      exact ⟨(drop.mono (List.Subset.refl _) wide).trans (entered.mono (List.Subset.refl _) (by decide)), fun k => (run k).toStands.trans (stand k)⟩
    · split
      · exact ⟨(s.within_setRegion r _ _).mono (by simpa using State.mem_pairOf leads) (List.Subset.refl _),
          fun k => (State.runs_setRegion s (x := { s.region r with wait0 := true }) rfl rfl rfl k).toStands⟩
      · exact ⟨s.within_refl _ _, fun k => s.stands_refl k⟩

/-- Deferral and waiting of a region end with the frame. -/
def State.freshFrame (t : State) (k : Nat) : State := t.setRegion k { t.region k with extra := 0, wait0 := false }

theorem State.stands_setRegion (s : State) {r : Nat} {x : Region} (held : x.held = (s.region r).held) (cpl : x.cpl = (s.region r).cpl) (k : Nat) :
    s.stands (s.setRegion r x) k := by
  by_cases e : k = r
  · subst e
    refine ⟨rfl, fun _ _ => rfl, rfl, ?_, ?_⟩ <;> rw [State.region_setRegion_same] <;> assumption
  · have others : s.runs (s.setRegion r x) k := State.runs_of_same rfl (mget_mput_ne _ _ _ _ _ e)
    exact others.toStands

/-- A region whose deferral ends with the frame. -/
def State.undefer (s : State) (r : Nat) : State := s.setRegion r { s.region r with extra := 0 }

/-- The candidate of a leading region, with nothing pending and nothing deferred. -/
def State.renewed (s : State) (r : Nat) : State :=
  let t := (s.dropPendingReq r).unpendAll r
  (t.pairOf r).foldl State.freshFrame t

/-- Step 0 of a candidate at the tick edge. -/
def State.restartStep (s : State) (r : Nat) (change : Option Nat) : State := s.startStep r 0 s.tick.cyc (s.tick.cyc + s.shift r 0) change

theorem State.tickSchedule_eq (r : Nat) (s : State) : s.tickSchedule r =
    if !(s.undefer r).schedRun r || ((s.undefer r).region r).held || (s.undefer r).clk.stopped then s.undefer r else
    if !(s.undefer r).leads r then s.undefer r else ((s.undefer r).renewed r).restartStep r ((s.undefer r).region r).change := rfl

theorem State.undefer_shows (s : State) (r : Nat) : s.within (s.undefer r) [r] [] ∧ (∀ k, s.stands (s.undefer r) k) ∧
    (s.undefer r).stepNo r = s.stepNo r ∧ ∀ k, (s.undefer r).leads k = s.leads k ∧ (s.undefer r).pairOf k = s.pairOf k := by
  have stand (k : Nat) : s.stands (s.undefer r) k := State.stands_setRegion s (x := { s.region r with extra := 0 }) rfl rfl k
  have tf : (s.undefer r).fab.tf = s.fab.tf := rfl
  refine ⟨s.within_setRegion r _ _, stand, rfl, fun k => ⟨?_, State.pairOf_congr tf stand k⟩⟩
  rw [State.leads, State.leads, State.coupled_congr tf stand]

theorem State.freshFrame_stands (t : State) (k : Nat) : t.stands (t.freshFrame k) k :=
  State.stands_setRegion t (x := { t.region k with extra := 0, wait0 := false }) rfl rfl k

theorem State.renewed_shows {s : State} {r : Nat} (leads : s.leads r = true) : s.within (s.renewed r) (s.pairOf r) [0, 0x10, 0x14] ∧
    (∀ k, s.stands (s.renewed r) k) ∧ (s.renewed r).stepNo r = s.stepNo r ∧ (s.renewed r).leads r = true ∧ (s.renewed r).pairOf r = s.pairOf r := by
  obtain ⟨drop, _, run⟩ := State.dropPendingReq_shows leads
  have tf : (s.dropPendingReq r).fab.tf = s.fab.tf := by rw [drop.frame.same .fab (by decide)]
  have pair : (s.dropPendingReq r).pairOf r = s.pairOf r := State.pairOf_congr tf (fun k => (run k).toStands) r
  unfold State.renewed
  generalize s.dropPendingReq r = u at *
  have off := u.unpendAll_within r
  have run' := u.unpendAll_runs r
  rw [pair] at off
  have tf' : (u.unpendAll r).fab.tf = u.fab.tf := by rw [off.frame.same .fab (by decide)]
  have pair' : (u.unpendAll r).pairOf r = s.pairOf r := (State.pairOf_congr tf' (fun k => (run' k).toStands) r).trans pair
  dsimp only
  generalize u.unpendAll r = v at *
  rw [pair']
  have step (t : State) (k : Nat) : t.within (t.freshFrame k) [k] [] := t.within_setRegion k _ _
  have fresh := State.within_foldl step (s.pairOf r) v
  have stand := State.foldl_stands step (by simp) State.freshFrame_stands (s.pairOf r) v
  have status : ((s.pairOf r).foldl State.freshFrame v).reg (RG r 0) = v.reg (RG r 0) := fresh.offset (by simp) (by simp) (by decide)
  generalize (s.pairOf r).foldl State.freshFrame v = w at *
  have all (k : Nat) : s.stands w k := ((run k).toStands.trans (run' k).toStands).trans (stand k)
  have wtf : w.fab.tf = s.fab.tf := by rw [fresh.frame.same .fab (by decide), tf', tf]
  refine ⟨((drop.mono (List.Subset.refl _) (by decide)).trans (off.mono (List.Subset.refl _) (by decide))).trans (fresh.mono (List.Subset.refl _) (by decide)),
    all, ?_, ?_, State.pairOf_congr wtf all r⟩
  · exact (State.fld_congr status 8 4).trans ((run' r).step.trans (run r).step)
  · rw [State.leads, State.coupled_congr wtf all]
    exact leads

/-- Regions that step 0 of region `r` touches: its candidate's where it leads one, else the region itself. -/
def State.touched (s : State) (r : Nat) : List Nat := if s.leads r then s.pairOf r else [r]

theorem State.mem_touched (s : State) (r : Nat) : r ∈ s.touched r := by
  unfold State.touched
  split
  · next leads => exact State.mem_pairOf leads
  · exact List.mem_singleton.mpr rfl

theorem State.tickSchedule_keeps (r : Nat) (s : State) : s.within (s.tickSchedule r) (s.touched r) [0, 0x10, 0x14] ∧ ∀ k, s.stands (s.tickSchedule r) k := by
  obtain ⟨only, stand, _, same⟩ := s.undefer_shows r
  have alone : s.within (s.undefer r) (s.touched r) [0, 0x10, 0x14] := only.mono (by simpa using s.mem_touched r) (by simp)
  rw [State.tickSchedule_eq]
  split
  · exact ⟨alone, stand⟩
  · split
    · exact ⟨alone, stand⟩
    · next leads =>
      simp only [Bool.not_eq_true', Bool.not_eq_false] at leads
      have lead : s.leads r = true := (same r).1.symm.trans leads
      obtain ⟨clear, stand', _, leads', pair⟩ := State.renewed_shows leads
      obtain ⟨start, stand''⟩ := State.startStep_stands leads' 0 ((s.undefer r).renewed r).tick.cyc
        (((s.undefer r).renewed r).tick.cyc + ((s.undefer r).renewed r).shift r 0) ((s.undefer r).region r).change
      have touch : s.touched r = s.pairOf r := if_pos lead
      rw [pair, (same r).2, ← touch] at start
      rw [(same r).2, ← touch] at clear
      exact ⟨(alone.trans clear).trans start, fun k => ((stand k).trans (stand' k)).trans (stand'' k)⟩

/-- In `t` a running candidate's step 0 has started, waits for its planned start, or has made its swap pending, as from `s`. -/
def State.restarted (s t : State) (r : Nat) : Prop := t.active r = s.active r ∧
  (s.stepCtx r 0 ≠ s.active r → s.canEnter r (s.stepCtx r 0) = true → t.swapPending r = true ∧ t.pendCtx r = s.stepCtx r 0 ∧
    (t.region r).cls = .planned ∧ (t.region r).pendStep = 0 ∧ (t.region r).due = s.tick.cyc) ∧
  (s.stepCtx r 0 = s.active r ∨ s.canEnter r (s.stepCtx r 0) = false →
    t.stepNo r = 0 ∨ ((t.region r).wait0 = true ∧ t.stepNo r = s.stepNo r))

/-- The context of step 0 is read from the table, which no start of a step writes. -/
theorem State.stepCtx_congr {s t : State} {r j : Nat} (ctrl : t.reg (RG r 4) = s.reg (RG r 4))
    (entry : t.reg (RG r (0x20 + 4 * (j / 2))) = s.reg (RG r (0x20 + 4 * (j / 2)))) : t.stepCtx r j = s.stepCtx r j := by
  have steps : t.nSteps r = s.nSteps r := State.fld_congr ctrl 0 5
  have entry_ : t.stepEntry r j = s.stepEntry r j := by rw [State.stepEntry, State.stepEntry, State.fld_congr entry]
  rw [State.stepCtx, State.stepCtx, steps, entry_]

theorem State.within.stepCtx {s t : State} {l os : List Nat} (h : s.within t l os) (sub : os ⊆ [0, 0x10, 0x14]) (r : Nat) : t.stepCtx r 0 = s.stepCtx r 0 := by
  have wide := h.mono (List.Subset.refl _) sub
  exact State.stepCtx_congr (wide.offset (by decide) (by decide) (by decide)) (wide.offset (by decide) (by decide) (by decide))

theorem State.canEnter_congr {s t : State} (tf : t.fab.tf = s.fab.tf) (h : ∀ k, s.stands t k) {r ctx : Nat} (small : ctx < 8) : t.canEnter r ctx = s.canEnter r ctx := by
  rw [State.canEnter, State.canEnter, State.pairOf_congr tf h]
  exact congrArg ((s.pairOf r).all ·) (funext fun k => (h k).loaded ctx small)

/-- A planned start that makes a swap pending notes when it fell due. -/
theorem State.startStep_due {s : State} {r j due grant : Nat} {change : Option Nat} (leads : s.leads r = true) (new : s.stepCtx r j ≠ s.active r)
    (can : s.canEnter r (s.stepCtx r j) = true) : ((s.startStep r j due grant change).region r).due = due := by
  have eq : s.startStep r j due grant change = (s.dropPendingReq r).pend r (s.stepCtx r j) .planned due grant j change := by
    simp only [State.startStep, if_pos (And.intro new can)]
  obtain ⟨drop, _, run⟩ := State.dropPendingReq_shows leads
  have mem : r ∈ (s.dropPendingReq r).pairOf r := by
    rw [State.pairOf_congr (by rw [drop.frame.same .fab (by decide)]) (fun k => (run k).toStands) r]
    exact State.mem_pairOf leads
  obtain ⟨_, _, region, _⟩ := State.pend_shows mem (s.stepCtx r j) .planned due grant j change
  rw [eq, region]

/-- With nothing pending, step 0 restarts as its table says. -/
theorem State.restartStep_restarts {s : State} {r : Nat} (leads : s.leads r = true) (off : s.swapPending r = false) (change : Option Nat) :
    s.restarted (s.restartStep r change) r := by
  have stand := (State.startStep_stands leads 0 s.tick.cyc (s.tick.cyc + s.shift r 0) change).2 r
  refine ⟨stand.active, fun new can => ?_, fun none_ => ?_⟩
  · obtain ⟨pend, target, cls, step, _⟩ := State.startStep_pends (due := s.tick.cyc) (grant := s.tick.cyc + s.shift r 0) (change := change) leads new can
    exact ⟨pend, target, cls, step, State.startStep_due leads new can⟩
  · by_cases come : s.tick.cyc + s.shift r 0 ≤ s.tick.cyc
    · exact .inl (((State.startStep_enters (due := s.tick.cyc) (change := change) leads none_ come (.inl off)).1 r (State.mem_pairOf leads)).1)
    · refine .inr ?_
      have no : ¬ (s.stepCtx r 0 ≠ s.active r ∧ s.canEnter r (s.stepCtx r 0) = true) := by
        rintro ⟨h, k⟩
        obtain same | no := none_
        · exact h same
        · rw [no] at k
          exact Bool.false_ne_true k
      have eq : s.restartStep r change = s.setRegion r { s.region r with wait0 := true } := by
        simp only [State.restartStep, State.startStep, if_neg no, if_neg come, if_true]
      rw [eq]
      exact ⟨by rw [State.region_setRegion_same], rfl⟩

theorem State.renewed_off {s : State} {r : Nat} (leads : s.leads r = true) : (s.renewed r).swapPending r = false := by
  obtain ⟨drop, _, run⟩ := State.dropPendingReq_shows leads
  have tf : (s.dropPendingReq r).fab.tf = s.fab.tf := by rw [drop.frame.same .fab (by decide)]
  have pair : (s.dropPendingReq r).pairOf r = s.pairOf r := State.pairOf_congr tf (fun k => (run k).toStands) r
  have off : ((s.dropPendingReq r).unpendAll r).swapPending r = false := State.unpendAll_off _ (by
    rw [pair]
    exact State.mem_pairOf leads)
  unfold State.renewed
  generalize (s.dropPendingReq r).unpendAll r = v at off ⊢
  have step (t : State) (k : Nat) : t.within (t.freshFrame k) [k] [] := t.within_setRegion k _ _
  have fresh := State.within_foldl step (v.pairOf r) v
  exact (State.bit_congr (fresh.offset (by simp) (by simp) (by decide)) 3).trans off

/-- Where region `k` stands as in `s`, what step 0 makes of it there is what it makes of it from `s`. -/
theorem State.restarted_congr {s u t : State} {r : Nat} {l : List Nat} (only : s.within u l [0, 0x10, 0x14]) (stand : ∀ k, s.stands u k)
    (step : u.stepNo r = s.stepNo r) (h : u.restarted t r) : s.restarted t r := by
  have tf : u.fab.tf = s.fab.tf := by rw [only.frame.same .fab (by decide)]
  have tick : u.tick = s.tick := only.frame.same .tick (by decide)
  have ctx : u.stepCtx r 0 = s.stepCtx r 0 := only.stepCtx (by decide) r
  obtain ⟨active, pends, starts⟩ := h
  rw [ctx, (stand r).active, State.canEnter_congr tf stand (s.stepCtx_lt r 0)] at pends starts
  rw [tick] at pends
  rw [step] at starts
  exact ⟨active.trans (stand r).active, pends, starts⟩

/-- A running candidate restarts at step 0. -/
theorem State.tickSchedule_restarts {s : State} {r : Nat} (run : s.schedRun r = true) (free : (s.region r).held = false) (clocked : s.clk.stopped = false)
    (leads : s.leads r = true) : s.restarted (s.tickSchedule r) r := by
  obtain ⟨only, stand, step, same⟩ := s.undefer_shows r
  have leads' : (s.undefer r).leads r = true := (same r).1.trans leads
  obtain ⟨clear, stand', step', leads'', _⟩ := State.renewed_shows leads'
  have eq : s.tickSchedule r = ((s.undefer r).renewed r).restartStep r ((s.undefer r).region r).change := by
    have clk : (s.undefer r).clk.stopped = false := clocked
    have run' : (s.undefer r).schedRun r = true := (stand r).schedRun.trans run
    have free' : ((s.undefer r).region r).held = false := (stand r).held.trans free
    rw [State.tickSchedule_eq, run', free', clk, leads']
    rfl
  rw [eq]
  refine State.restarted_congr (only.mono (List.Subset.refl _) (by decide)) stand step (State.restarted_congr clear stand' step' ?_)
  exact State.restartStep_restarts leads'' (State.renewed_off leads') _

/-- What region `r` has become is kept by whatever leaves its register and itself. -/
theorem State.restarted.keep {s t u : State} {r : Nat} (h : s.restarted t r) (reg : u.reg (RG r 0) = t.reg (RG r 0)) (region : u.region r = t.region r) :
    s.restarted u r := by
  obtain ⟨active, pends, starts⟩ := h
  have step : u.stepNo r = t.stepNo r := State.fld_congr reg 8 4
  refine ⟨(State.fld_congr reg 0 3).trans active, fun new can => ?_, fun none_ => ?_⟩
  · obtain ⟨pend, target, rest⟩ := pends new can
    exact ⟨(State.bit_congr reg 3).trans pend, (State.fld_congr reg 4 3).trans target, region ▸ rest⟩
  · rw [step, region]
    exact starts none_

theorem State.startSchedules_keeps (s : State) : s.changes [.csr, .rg] s.startSchedules ∧ (∀ k, s.stands s.startSchedules k) ∧
    ∀ a, (∀ k, k < 96 → ∀ o ∈ [0, 0x10, 0x14], a ≠ RG k o) → s.startSchedules.reg a = s.reg a := by
  have each (n : Nat) : n ≤ 96 → s.changes [.csr, .rg] (forAll n State.tickSchedule s) ∧ (∀ k, s.stands (forAll n State.tickSchedule s) k) ∧
      ∀ a, (∀ k, k < 96 → ∀ o ∈ [0, 0x10, 0x14], a ≠ RG k o) → (forAll n State.tickSchedule s).reg a = s.reg a := by
    induction n with
    | zero => exact fun _ => ⟨s.changes_refl _, fun k => s.stands_refl k, fun _ _ => rfl⟩
    | succ n ih =>
      intro le
      obtain ⟨frame, stand, regs⟩ := ih (Nat.le_of_succ_le le)
      rw [forAll_succ]
      generalize forAll n State.tickSchedule s = t at *
      obtain ⟨only, stand'⟩ := State.tickSchedule_keeps n t
      refine ⟨frame.trans only.frame, fun k => (stand k).trans (stand' k), fun a h => (only.regs a fun k hk => h k ?_).trans (regs a h)⟩
      unfold State.touched at hk
      split at hk
      · exact State.pairOf_lt (by omega) k hk
      · have := List.mem_singleton.mp hk
        omega
  exact each 96 (Nat.le_refl _)

/-- Another region's step 0 leaves a leading region's registers and the region. -/
theorem State.tickSchedule_other {t : State} {j r : Nat} (hj : j < 96) (hr : r < 96) (leads : t.leads r = true) (ne : j ≠ r) :
    (t.tickSchedule j).reg (RG r 0) = t.reg (RG r 0) ∧ (t.tickSchedule j).region r = t.region r := by
  have out : r ∉ t.touched j := by
    intro e
    unfold State.touched at e
    split at e
    · next lead => exact ne (State.pairOf_disjoint hj hr lead leads e (State.mem_pairOf leads))
    · exact ne (List.mem_singleton.mp e).symm
  have only := (State.tickSchedule_keeps j t).1
  exact ⟨only.other (by decide) out (by decide), only.regions r out⟩

/-- Every running schedule restarts at step 0. -/
theorem State.startSchedules_restarts {s : State} {r : Nat} (hr : r < 96) (run : s.schedRun r = true) (free : (s.region r).held = false)
    (clocked : s.clk.stopped = false) (leads : s.leads r = true) : s.restarted s.startSchedules r := by
  have each (n : Nat) (le : n ≤ 96) : let t := forAll n State.tickSchedule s
      (∃ l, s.within t l [0, 0x10, 0x14]) ∧ (∀ k, s.stands t k) ∧ (n ≤ r → t.reg (RG r 0) = s.reg (RG r 0) ∧ t.region r = s.region r) ∧ (r < n → s.restarted t r) := by
    induction n with
    | zero => exact ⟨⟨[], s.within_refl _ _⟩, fun k => s.stands_refl k, fun _ => ⟨rfl, rfl⟩, fun h => absurd h (Nat.not_lt_zero _)⟩
    | succ n ih =>
      obtain ⟨⟨l, only⟩, stand, before, after⟩ := ih (Nat.le_of_succ_le le)
      dsimp only
      rw [forAll_succ]
      generalize forAll n State.tickSchedule s = t at *
      obtain ⟨only', stand'⟩ := State.tickSchedule_keeps n t
      have tf : t.fab.tf = s.fab.tf := by rw [only.frame.same .fab (by decide)]
      have leads' : t.leads r = true := by
        rw [State.leads, State.coupled_congr tf stand]
        exact leads
      refine ⟨⟨l ++ t.touched n, (only.mono (by simp) (List.Subset.refl _)).trans (only'.mono (by simp) (List.Subset.refl _))⟩,
        fun k => (stand k).trans (stand' k), fun h => ?_, fun h => ?_⟩
      · obtain ⟨reg, region⟩ := State.tickSchedule_other (by omega) hr leads' (by omega : n ≠ r)
        obtain ⟨reg', region'⟩ := before (by omega)
        exact ⟨reg.trans reg', region.trans region'⟩
      · by_cases e : n = r
        · subst e
          obtain ⟨reg, region⟩ := before (Nat.le_refl _)
          have clk : t.clk.stopped = false := by rw [only.frame.same .clk (by decide), clocked]
          exact State.restarted_congr only stand (State.fld_congr reg 8 4) (State.tickSchedule_restarts ((stand n).schedRun.trans run) ((stand n).held.trans free) clk leads')
        · obtain ⟨reg, region⟩ := State.tickSchedule_other (by omega) hr leads' e
          exact (after (by omega)).keep reg region
  exact (each 96 (Nat.le_refl _)).2.2.2 hr

end Sys2Proof.Machine
end

section
/-! Queue controllers at a tick (R180, R183, R191). -/
namespace Sys2Proof.Machine

/-- In `t` only queue `q`, its state register and the latched events have changed since `s`. -/
structure State.atQueue (s t : State) (q : Nat) : Prop where
  frame : s.changes [.qs, .csr, .hl] t
  hl : t.hl = { s.hl with latches := t.hl.latches }
  queues : ∀ k, k ≠ q → t.queue k = s.queue k
  regs : ∀ a, a ≠ QC q 0x20 → t.reg a = s.reg a

theorem State.atQueue_refl (s : State) (q : Nat) : s.atQueue s q := ⟨s.changes_refl _, rfl, fun _ _ => rfl, fun _ _ => rfl⟩

theorem State.atQueue.trans {s t u : State} {q : Nat} (h : s.atQueue t q) (g : t.atQueue u q) : s.atQueue u q :=
  ⟨h.frame.trans g.frame, by rw [g.hl, h.hl], fun k hk => (g.queues k hk).trans (h.queues k hk), fun a ha => (g.regs a ha).trans (h.regs a ha)⟩

theorem State.atQueue_setQueue (s : State) (q : Nat) (x : Queue) : s.atQueue (s.setQueue q x) q :=
  ⟨rfl, rfl, fun _ h => s.queue_setQueue_ne _ _ _ h, fun _ _ => rfl⟩

theorem State.closeEpisode_at (s : State) (q : Nat) : s.atQueue (s.closeEpisode q) q := by
  rw [State.closeEpisode]
  split
  · exact s.atQueue_refl q
  · have set := s.atQueue_setQueue q { s.queue q with ovf := false, ovfCount := 0 }
    dsimp only at set ⊢
    generalize s.setQueue q { s.queue q with ovf := false, ovfCount := 0 } = u at *
    split
    · exact set.trans ⟨rfl, rfl, fun _ _ => rfl, fun _ _ => rfl⟩
    · exact set.trans ⟨rfl, rfl, fun _ _ => rfl, fun _ _ => rfl⟩

theorem State.closeIfLow_at (s : State) (q : Nat) : s.atQueue (s.closeIfLow q) q := by
  rw [State.closeIfLow]
  split
  · exact s.closeEpisode_at q
  · exact s.atQueue_refl q

/-- The end of a queue's episode at the tick. -/
def State.closeAt (s : State) (q : Nat) : State := if s.fifoLike q then s.closeIfLow q else s.closeEpisode q

theorem State.closeAt_shows (s : State) (q : Nat) : s.atQueue (s.closeAt q) q ∧ ((s.closeAt q).queue q).body = (s.queue q).body := by
  rw [State.closeAt]
  split
  · exact ⟨s.closeIfLow_at q, (s.closeIfLow_shows q).1⟩
  · exact ⟨s.closeEpisode_at q, (s.closeEpisode_shows q).1⟩

/-- A lookup swap asked for is done, and the frame's allowance is whole again. -/
def State.swapHalves (s : State) (q : Nat) : State :=
  let t := if (s.queue q).lutPend then s.flipHalf q else s
  t.setQueue q { t.queue q with lutPend := false, drained := 0 }

/-- The history of a pipeline goes on, or restarts with a frame jump. -/
def State.historyAt (s : State) (q : Nat) (jumped : Bool) : State :=
  if s.qMode q ≠ 3 then s else if jumped then s.restartHistory q else s.openFrame q

theorem State.tickQueue_eq (ended : Nat) (jumped : Bool) (q : Nat) (s : State) : s.tickQueue ended jumped q =
    if s.qMode q = 0 then s.closeEpisode q else ((((s.swapHalves q).historyAt q jumped).queueDrain q ended).queueRecords q).closeAt q := rfl

theorem State.swapHalves_shows (s : State) (q : Nat) : s.atQueue (s.swapHalves q) q ∧ (s.swapHalves q).queue q = { s.queue q with
    lutPend := false, drained := 0,
    half := if (s.queue q).lutPend = true ∧ dDouble (s.desc q) = true then 1 - (s.queue q).half else (s.queue q).half } := by
  have flip : s.atQueue (if (s.queue q).lutPend then s.flipHalf q else s) q ∧ (if (s.queue q).lutPend then s.flipHalf q else s).queue q =
      { s.queue q with half := if (s.queue q).lutPend = true ∧ dDouble (s.desc q) = true then 1 - (s.queue q).half else (s.queue q).half } := by
    split
    · next pend =>
      rw [State.flipHalf]
      split
      · next double => exact ⟨s.atQueue_setQueue q _, by rw [State.queue_setQueue_same, if_pos ⟨pend, double⟩]⟩
      · next single => exact ⟨s.atQueue_refl q, by rw [if_neg fun h => single h.2]⟩
    · next idle => exact ⟨s.atQueue_refl q, by rw [if_neg fun h => idle h.1]⟩
  obtain ⟨at_, queue⟩ := flip
  rw [State.swapHalves]
  dsimp only
  generalize (if (s.queue q).lutPend then s.flipHalf q else s) = t at *
  exact ⟨at_.trans (t.atQueue_setQueue q _), by rw [State.queue_setQueue_same, queue]⟩

/-- A pipeline's next frame opens at its write place (R183). -/
theorem State.openFrame_shows (s : State) (q : Nat) : s.atQueue (s.openFrame q) q ∧ ∃ occ oldest overfull idx idxErr, (s.openFrame q).queue q =
    { s.queue q with curt := addFrame (s.queue q).curt 1, occ, oldest, overfull, idx, idxErr } ∧
    mget (fun _ => 0) idx (addFrame (s.queue q).curt 1 % 16384) = (s.queue q).wr := by
  have leave : s.atQueue (if 16384 ≤ subFrame (addFrame (s.queue q).curt 1) (s.queue q).oldest then s.expire q else s) q ∧
      ∃ occ oldest overfull, (if 16384 ≤ subFrame (addFrame (s.queue q).curt 1) (s.queue q).oldest then s.expire q else s).queue q =
        { s.queue q with occ, oldest, overfull } := by
    split
    · exact ⟨s.atQueue_setQueue q _, _, _, _, State.queue_setQueue_same _ _ _⟩
    · exact ⟨s.atQueue_refl q, _, _, _, rfl⟩
  obtain ⟨at_, occ, oldest, overfull, queue⟩ := leave
  rw [State.openFrame]
  dsimp only
  generalize addFrame (s.queue q).curt 1 = c at *
  generalize (if 16384 ≤ subFrame c (s.queue q).oldest then s.expire q else s) = t at *
  refine ⟨at_.trans (t.atQueue_setQueue q _), occ, oldest, overfull, mput (fun _ => 0) (s.queue q).idx (c % 16384) (s.queue q).wr,
    mput (fun _ => 0) (s.queue q).idxErr (c % 16384) 0, ?_, mget_mput_same _ _ _ _⟩
  · rw [State.queue_setQueue_same, queue]

theorem State.historyAt_shows (s : State) (q : Nat) (jumped : Bool) : s.atQueue (s.historyAt q jumped) q ∧
    (∃ curt occ oldest overfull idx idxErr, (s.historyAt q jumped).queue q = { s.queue q with curt, occ, oldest, overfull, idx, idxErr }) ∧
    (s.qMode q ≠ 3 → s.historyAt q jumped = s) ∧ (s.qMode q = 3 → jumped = false → s.historyAt q jumped = s.openFrame q) := by
  rw [State.historyAt]
  split
  · next other => exact ⟨s.atQueue_refl q, ⟨_, _, _, _, _, _, rfl⟩, fun _ => rfl, fun h => absurd h other⟩
  · next pipe =>
    simp only [ne_eq, not_not] at pipe
    split
    · next jump =>
      obtain ⟨queues, frame, regs⟩ := s.restartHistory_leaves q
      obtain ⟨idx, idxErr, queue, _⟩ := State.restartHistory_pipe pipe
      have hl : (s.restartHistory q).hl = s.hl := frame.same .hl (by decide)
      exact ⟨⟨frame.mono (by decide), by rw [hl], queues, regs⟩, ⟨_, _, _, _, _, _, queue⟩, fun h => absurd pipe h, fun _ h => absurd (jump.symm.trans h) (by decide)⟩
    · obtain ⟨at_, _, _, _, _, _, queue, _⟩ := s.openFrame_shows q
      exact ⟨at_, ⟨_, _, _, _, _, _, queue⟩, fun h => absurd pipe h, fun _ _ => rfl⟩

/-- Records that a tick hands to the readout queue (R180, R182). -/
theorem State.drainAt_shows (s : State) (q ended : Nat) : s.atQueue ((s.queueDrain q ended).queueRecords q) q ∧
    (∃ ro closed, ((s.queueDrain q ended).queueRecords q).queue q = { s.queue q with ro, closed }) ∧
    (s.qMode q = 1 → dDrain (s.desc q) = true → (s.queue q).ro.length < 16 → ∀ free c, free = (s.queue q).occ - (s.queue q).draining →
      c = (if dMaxf (s.desc q) = 0 then free else min (dMaxf (s.desc q)) free) →
      (((s.queueDrain q ended).queueRecords q).queue q).ro = (s.queue q).ro ++ (if c = 0 then [] else [.drain ended c])) := by
  have drain : s.atQueue (s.queueDrain q ended) q ∧ (∃ ro, (s.queueDrain q ended).queue q = { s.queue q with ro }) ∧
      (s.qMode q = 1 → dDrain (s.desc q) = true → (s.queue q).ro.length < 16 → ∀ free c, free = (s.queue q).occ - (s.queue q).draining →
        c = (if dMaxf (s.desc q) = 0 then free else min (dMaxf (s.desc q)) free) →
        ((s.queueDrain q ended).queue q).ro = (s.queue q).ro ++ (if c = 0 then [] else [.drain ended c])) := by
    rw [State.queueDrain]
    dsimp only
    split
    · generalize count : (if dMaxf (s.desc q) = 0 then (s.queue q).occ - (s.queue q).draining
        else min (dMaxf (s.desc q)) ((s.queue q).occ - (s.queue q).draining)) = n
      split
      · next skip =>
        refine ⟨s.atQueue_refl q, ⟨_, rfl⟩, fun _ _ room free c hf hc => ?_⟩
        subst hf hc
        rw [count, if_pos (skip.resolve_right (by omega)), List.append_nil]
      · next some_ =>
        refine ⟨s.atQueue_setQueue q _, ⟨_, State.queue_setQueue_same _ _ _⟩, fun _ _ room free c hf hc => ?_⟩
        subst hf hc
        rw [count, State.queue_setQueue_same, if_neg fun e => some_ (.inl e)]
    · next no => exact ⟨s.atQueue_refl q, ⟨_, rfl⟩, fun h h' => absurd ⟨h, h'⟩ no⟩
  obtain ⟨at_, ⟨ro, queue⟩, shows_⟩ := drain
  have desc : (s.queueDrain q ended).desc q = s.desc q := State.desc_congr (by rw [queue])
  have mode : (s.queueDrain q ended).qMode q = s.qMode q := by rw [State.qMode, desc, State.qMode]
  generalize s.queueDrain q ended = t at *
  rw [State.queueRecords]
  dsimp only
  split
  · next rec_ =>
    refine ⟨at_.trans (t.atQueue_setQueue q _), ⟨_, _, by rw [State.queue_setQueue_same, queue]⟩, fun h => ?_⟩
    have two : s.qMode q = 2 := mode.symm.trans rec_.1
    omega
  · exact ⟨at_, ⟨_, _, queue⟩, shows_⟩

/-- What a tick makes of a queue in use. -/
def State.tickedQueue (s : State) (y : Queue) (ended : Nat) (jumped : Bool) (q : Nat) : Prop :=
  (s.qMode q ≠ 0 → y.lutPend = false ∧ y.half =
    (if (s.queue q).lutPend = true ∧ dDouble (s.desc q) = true then 1 - (s.queue q).half else (s.queue q).half)) ∧
  (s.qMode q = 3 → jumped = false → y.curt = addFrame (s.queue q).curt 1 ∧ y.wr = (s.queue q).wr ∧ mget (fun _ => 0) y.idx (y.curt % 16384) = (s.queue q).wr) ∧
  (s.qMode q = 1 → dDrain (s.desc q) = true → (s.queue q).ro.length < 16 → ∀ free c, free = (s.queue q).occ - (s.queue q).draining →
    c = (if dMaxf (s.desc q) = 0 then free else min (dMaxf (s.desc q)) free) → y.occ = (s.queue q).occ ∧
    y.ro = (s.queue q).ro ++ (if c = 0 then [] else [.drain ended c]))

theorem State.tickQueue_shows (ended : Nat) (jumped : Bool) (q : Nat) (s : State) : s.atQueue (s.tickQueue ended jumped q) q ∧
    s.tickedQueue ((s.tickQueue ended jumped q).queue q) ended jumped q := by
  rw [State.tickQueue_eq]
  split
  · next off =>
    refine ⟨s.closeEpisode_at q, fun h => absurd off h, fun h => ?_, fun h => ?_⟩ <;> omega
  · obtain ⟨at1, q1⟩ := s.swapHalves_shows q
    have desc1 : (s.swapHalves q).desc q = s.desc q := State.desc_congr (by rw [q1])
    have mode1 : (s.swapHalves q).qMode q = s.qMode q := by rw [State.qMode, desc1, State.qMode]
    generalize s.swapHalves q = t at *
    obtain ⟨at2, ⟨curt, occ, oldest, overfull, idx, idxErr, q2⟩, still, opens⟩ := t.historyAt_shows q jumped
    have desc2 : (t.historyAt q jumped).desc q = s.desc q := (State.desc_congr (by rw [q2])).trans desc1
    have mode2 : (t.historyAt q jumped).qMode q = s.qMode q := by rw [State.qMode, desc2, State.qMode]
    rw [mode1] at still opens
    generalize t.historyAt q jumped = u at *
    obtain ⟨at3, ⟨ro, closed, q3⟩, drains⟩ := u.drainAt_shows q ended
    rw [mode2, desc2] at drains
    generalize (u.queueDrain q ended).queueRecords q = v at *
    obtain ⟨at4, body⟩ := v.closeAt_shows q
    generalize v.closeAt q = w at *
    refine ⟨((at1.trans at2).trans at3).trans at4, fun _ => ⟨?_, ?_⟩, fun pipe plain => ?_, fun fifo dr room free c hf hc => ⟨?_, ?_⟩⟩
    · exact (congrArg Queue.lutPend body).trans (by simp only [Queue.body, q3, q2, q1])
    · exact (congrArg Queue.half body).trans (by simp only [Queue.body, q3, q2, q1])
    · obtain ⟨_, occ', oldest', overfull', idx', idxErr', q2', mark⟩ := t.openFrame_shows q
      rw [← opens pipe plain] at q2'
      rw [q1] at q2' mark
      have y : (w.queue q).curt = addFrame (s.queue q).curt 1 := (congrArg Queue.curt body).trans (by simp only [Queue.body, q3, q2'])
      refine ⟨y, (congrArg Queue.wr body).trans (by simp only [Queue.body, q3, q2']), ?_⟩
      rw [y, show (w.queue q).idx = idx' from (congrArg Queue.idx body).trans (by simp only [Queue.body, q3, q2'])]
      exact mark
    · have same : u = t := still (by omega)
      exact (congrArg Queue.occ body).trans (by simp only [Queue.body, q3, same, q1])
    · have same : u = t := still (by omega)
      have queue : u.queue q = { s.queue q with
          lutPend := false, drained := 0,
          half := if (s.queue q).lutPend = true ∧ dDouble (s.desc q) = true then 1 - (s.queue q).half else (s.queue q).half } := by rw [same, q1]
      have draining : (u.queue q).draining = (s.queue q).draining := by rw [queue, Queue.draining, Queue.draining]
      rw [draining, queue] at drains
      exact (congrArg Queue.ro body).trans (drains fifo dr room free c hf hc)

/-- In `t` only queues, their state registers and latched events have changed since `s`. -/
structure State.queuesOnly (s t : State) : Prop where
  frame : s.changes [.qs, .csr, .hl] t
  hl : t.hl = { s.hl with latches := t.hl.latches }
  regs : ∀ a, (∀ q, q < 384 → a ≠ QC q 0x20) → t.reg a = s.reg a

theorem State.tickQueues_shows (ended : Nat) (jumped : Bool) (s : State) : s.queuesOnly (s.tickQueues ended jumped) ∧
    (s.clk.stopped = false → s.run.hold = false → ∀ q, q < 384 → s.tickedQueue ((s.tickQueues ended jumped).queue q) ended jumped q) := by
  have each (n : Nat) (le : n ≤ 384) : let t := forAll n (fun q t => if t.run.hold && t.qMode q ≠ 0 then t else t.tickQueue ended jumped q) s
      s.queuesOnly t ∧ (∀ q, n ≤ q → t.queue q = s.queue q) ∧ (s.run.hold = false → ∀ q, q < n → s.tickedQueue (t.queue q) ended jumped q) := by
    induction n with
    | zero => exact ⟨⟨s.changes_refl _, rfl, fun _ _ => rfl⟩, fun _ _ => rfl, fun _ q h => absurd h (Nat.not_lt_zero q)⟩
    | succ n ih =>
      obtain ⟨⟨frame, hl, regs⟩, before, after⟩ := ih (Nat.le_of_succ_le le)
      dsimp only
      rw [forAll_succ]
      generalize forAll n _ s = t at *
      have step : t.atQueue (if t.run.hold && t.qMode n ≠ 0 then t else t.tickQueue ended jumped n) n := by
        split
        · exact t.atQueue_refl n
        · exact (t.tickQueue_shows ended jumped n).1
      have does (free : s.run.hold = false) : t.tickedQueue ((if t.run.hold && t.qMode n ≠ 0 then t else t.tickQueue ended jumped n).queue n) ended jumped n := by
        have run : t.run.hold = false := by rw [frame.same .run (by decide), free]
        rw [run, Bool.false_and, if_neg Bool.false_ne_true]
        exact (t.tickQueue_shows ended jumped n).2
      generalize (if t.run.hold && t.qMode n ≠ 0 then t else t.tickQueue ended jumped n) = u at *
      refine ⟨⟨frame.trans step.frame, by rw [step.hl, hl], fun a h => (step.regs a (h n (by omega))).trans (regs a h)⟩,
        fun q h => (step.queues q (by omega)).trans (before q (by omega)), fun free q h => ?_⟩
      by_cases e : q = n
      · subst e
        have queue := before q (Nat.le_refl _)
        have desc : t.desc q = s.desc q := State.desc_congr (by rw [queue])
        have done := does free
        simp only [State.tickedQueue, State.qMode, desc, queue] at done ⊢
        exact done
      · rw [step.queues q e]
        exact after free q (by omega)
  rw [State.tickQueues]
  split
  · next stopped => exact ⟨⟨s.changes_refl _, rfl, fun _ _ => rfl⟩, fun h => absurd (stopped.symm.trans h) (by decide)⟩
  · obtain ⟨only, _, after⟩ := each 384 (Nat.le_refl _)
    exact ⟨only, fun _ free q h => after free q h⟩

end Sys2Proof.Machine
end

section
/-! The tick of every tier, one after another (Table TCK-4). -/
namespace Sys2Proof.Machine

/-! ## The stages of a tick -/

/-- Parts that what follows the generator's tick may change. -/
def tickParts : List Part := [.csr, .hl, .qs, .rg, .sq, .probe, .clk, .chain, .ld, .free]

/-- A stage of the tick: time, number, accepted changes and the broadcast stand, and what has been handed to the lines stays. -/
structure State.tickStep (s t : State) : Prop where
  frame : s.changes tickParts t
  hl : t.hl = { s.hl with latches := t.hl.latches }
  sent : ∃ l, t.chain.sent = s.chain.sent ++ l
  bcast : t.chain.bcast = s.chain.bcast
  ld : t.ld = s.ld

theorem State.tickStep_refl (s : State) : s.tickStep s := ⟨s.changes_refl _, rfl, ⟨[], (List.append_nil _).symm⟩, rfl, rfl⟩

theorem State.tickStep.trans {s t u : State} (h : s.tickStep t) (g : t.tickStep u) : s.tickStep u := by
  obtain ⟨l, hl⟩ := h.sent
  obtain ⟨m, hm⟩ := g.sent
  exact ⟨h.frame.trans g.frame, by rw [g.hl, h.hl], ⟨l ++ m, by rw [hm, hl, List.append_assoc]⟩, g.bcast.trans h.bcast, g.ld.trans h.ld⟩

theorem State.tickStep_of {s t : State} {l : List Part} (h : s.changes l t) (sub : l ⊆ [.csr, .qs, .rg, .sq, .probe, .clk, .free]) : s.tickStep t := by
  have wide := h.mono sub
  have chain : t.chain = s.chain := wide.same .chain (by decide)
  have hl : t.hl = s.hl := wide.same .hl (by decide)
  exact ⟨wide.mono (by decide), by rw [hl], ⟨[], by rw [chain, List.append_nil]⟩, by rw [chain], wide.same .ld (by decide)⟩

theorem State.tickStep_sendZ (s : State) (ps : List Nat) (o : ZOut) : s.tickStep (s.sendZ ps o) := ⟨rfl, rfl, ⟨_, rfl⟩, rfl, rfl⟩

theorem State.tickStep_setSide (s : State) (k : Nat) (x : Side) : s.tickStep (s.setSide k x) := ⟨rfl, rfl, ⟨[], (List.append_nil _).symm⟩, rfl, rfl⟩

/-- The limits of the exchange, looked at again where P has changed (R320). -/
def State.tickSides (s : State) (old : Nat) : State := if s.P = old then s else (s.checkSide s.P 0).checkSide s.P 1

/-- Step 0 of the schedules, unless a change of the plan is due. -/
def State.tickPlans (s : State) : State := if s.hl.up && s.planDue then s else s.startSchedules

/-- The chain's part of a tick. -/
def State.tickChain (s : State) (ended : Nat) (realigned : Bool) : State :=
  let s := (s.sendSof.exchangeTick ended realigned 0).exchangeTick ended realigned 1
  (s.exchangeAdvance 0).exchangeAdvance 1

/-- The stages between the generator and the broadcast. -/
def State.tickTiers (g s : State) : State :=
  (((((g.tickSides s.P).tickQueues s.frameNo s.jumps).tickPlans).seqTick.probeTick (s.tick.ext ≠ 0)).selfPower).tickChain s.frameNo (s.tick.ext ≠ 0)

theorem State.snapHold_eq (s : State) : ∃ f, s.snapHold = s.withFab f ∧ f.tf = s.fab.tf := by
  have each (l : List Nat) (t : State) : ∃ f, l.foldl (fun t r => t.snapShafts r) t = t.withFab f ∧ f.tf = t.fab.tf := by
    induction l generalizing t with
    | nil => exact ⟨t.fab, rfl, rfl⟩
    | cons r l ih =>
      obtain ⟨f, eq, tf⟩ := ih (t.snapShafts r)
      exact ⟨f, eq, tf⟩
  rw [State.snapHold]
  split
  · exact each _ s
  · exact ⟨s.fab, rfl, rfl⟩

theorem State.tickEdge_eq (s : State) : ∃ f, s.tickEdge = ((s.tickGenerator.withFab f).tickTiers s).sendBroadcast.testLines.trimFollow ∧ f.tf = s.fab.tf := by
  obtain ⟨f, snap, tf⟩ := s.snapHold_eq
  have first : ∃ f, (if s.tick.count < s.P + s.tick.ext then s.snapHold else s) = s.withFab f ∧ f.tf = s.fab.tf := by
    split
    · exact ⟨f, snap, tf⟩
    · exact ⟨s.fab, rfl, rfl⟩
  obtain ⟨f', eq, tf'⟩ := first
  refine ⟨f', ?_, tf'⟩
  rw [← State.tickGenerator_withFab, ← eq]
  rfl

/-! ## What each stage changes -/

theorem State.checkSide_step (s : State) (p k : Nat) : s.tickStep (s.checkSide p k) := by
  rw [State.checkSide]
  split
  · exact s.tickStep_setSide k _
  · split
    · exact s.tickStep_refl
    · exact (s.tickStep_setSide k _).trans ⟨rfl, rfl, ⟨[], (List.append_nil _).symm⟩, rfl, rfl⟩

theorem State.tickSides_step (s : State) (old : Nat) : s.tickStep (s.tickSides old) := by
  rw [State.tickSides]
  split
  · exact s.tickStep_refl
  · exact (s.checkSide_step _ 0).trans (State.checkSide_step _ _ 1)

theorem State.tickQueues_step (ended : Nat) (jumped : Bool) (s : State) : s.tickStep (s.tickQueues ended jumped) := by
  obtain ⟨frame, hl, _⟩ := (s.tickQueues_shows ended jumped).1
  have chain : (s.tickQueues ended jumped).chain = s.chain := frame.same .chain (by decide)
  exact ⟨frame.mono (by decide), hl, ⟨[], by rw [chain, List.append_nil]⟩, by rw [chain], frame.same .ld (by decide)⟩

theorem State.tickPlans_step (s : State) : s.tickStep s.tickPlans := by
  rw [State.tickPlans]
  split
  · exact s.tickStep_refl
  · exact State.tickStep_of s.startSchedules_keeps.1 (by decide)

theorem State.seqTick_step (s : State) : s.tickStep s.seqTick := by
  rw [State.seqTick]
  split
  · exact State.tickStep_of (l := [.sq]) rfl (by decide)
  · exact s.tickStep_refl

theorem State.probeTick_step (s : State) (realigned : Bool) : s.tickStep (s.probeTick realigned) := by
  have mark : s.tickStep (if realigned && s.sounding && s.probe.storing then s.setBit (PB 4) 3 true else s) := by
    split
    · exact State.tickStep_of (l := [.csr]) rfl (by decide)
    · exact s.tickStep_refl
  rw [State.probeTick]
  dsimp only
  generalize (if realigned && s.sounding && s.probe.storing then s.setBit (PB 4) 3 true else s) = t at *
  split
  · exact mark
  · split
    · exact mark.trans (State.tickStep_of (l := [.probe]) rfl (by decide))
    · exact mark.trans (State.tickStep_of (l := [.probe]) rfl (by decide))

theorem State.resumeAll_changes (s : State) : s.changes [.csr, .clk, .qs, .rg] s.resumeAll := by
  have histories (t : State) : t.changes [.csr, .qs] (forAll 384 (fun q t => t.restartHistory q) t) :=
    (State.changes_forAll _ _ _ _ _ fun q t => (t.restartHistory_leaves q).2.1.mono (by decide)).2 (t.changes_refl _)
  have plans (t : State) : t.changes [.csr, .rg] (forAll 96 State.tickSchedule t) := t.startSchedules_keeps.1
  have scrub : s.changes [.csr, .clk, .qs, .rg] (s.scrubAll true) := by simp
  rw [State.resumeAll]
  generalize s.scrubAll true = t at *
  have first : s.changes [.csr, .clk, .qs, .rg] { t with clk := { t.clk with stopped := false } } := scrub.trans rfl
  exact (first.trans ((histories _).mono (by decide))).trans ((plans _).mono (by decide))

theorem State.stopAll_changes (s : State) : s.changes [.csr, .clk] s.stopAll := by
  have scrub : s.changes [.csr, .clk] (s.scrubAll false) := by simp
  rw [State.stopAll]
  generalize s.scrubAll false = t at *
  exact scrub.trans rfl

/-- A mode's going begins. -/
theorem State.powerCommit_step (s : State) (m : Nat) : s.tickStep (s.powerCommit m) := by
  have go : s.tickStep (({ s with clk := { s.clk with moving := true } }).setFld (CK 0x204) 3 2 m) := State.tickStep_of (l := [.csr, .clk]) rfl (by decide)
  have stops : s.tickStep (({ s with clk := { s.clk with moving := true } }).setFld (CK 0x204) 3 2 m).stopAll :=
    go.trans (State.tickStep_of (State.stopAll_changes _) (by decide))
  rw [State.powerCommit]
  dsimp only
  split
  · split
    · exact State.tickStep_of (l := [.csr, .clk]) (by simp) (by decide)
    · exact s.tickStep_refl
  · split
    · exact stops
    · split
      · split
        · exact go
        · exact stops
      · split
        · exact (go.trans (State.tickStep_of (State.resumeAll_changes _) (by decide))).trans (State.tickStep_sendZ _ _ _)
        · split
          · exact (go.trans (State.tickStep_of (l := [.csr]) (by simp) (by decide))).trans (State.tickStep_sendZ _ _ _)
          · exact s.tickStep_refl

theorem State.selfPower_step (s : State) : s.tickStep s.selfPower := by
  rw [State.selfPower]
  split
  · split
    · exact s.tickStep_refl
    · have self : s.tickStep { s with clk := { s.clk with self := none } } := State.tickStep_of (l := [.clk]) rfl (by decide)
      exact self.trans (State.powerCommit_step _ _)
  · exact s.tickStep_refl

theorem State.sendSof_step (s : State) : s.tickStep s.sendSof := by
  rw [State.sendSof]
  split
  · exact s.tickStep_sendZ _ _
  · exact s.tickStep_refl

theorem State.exchangeTick_step (s : State) (f : Nat) (realigned : Bool) (k : Nat) : s.tickStep (s.exchangeTick f realigned k) := by
  rw [State.exchangeTick]
  split
  · exact s.tickStep_setSide _ _
  · exact (s.tickStep_setSide _ _).trans (State.tickStep_sendZ _ _ _)

theorem State.present_step (s : State) (k f t0 : Nat) : s.tickStep (s.present k f t0) := by
  rw [State.present]
  dsimp only
  split
  · exact (s.tickStep_setSide _ _).trans (State.tickStep_of (l := [.csr]) rfl (by decide))
  · exact (s.tickStep_setSide _ _).trans (State.tickStep_of (l := [.csr]) rfl (by decide))

theorem State.exchangeAdvance_step (s : State) (k : Nat) : s.tickStep (s.exchangeAdvance k) := by
  have each (l : List (Nat × Nat)) (t : State) : t.tickStep (l.foldl (fun t x => t.present k x.1 x.2) t) := by
    induction l generalizing t with
    | nil => exact t.tickStep_refl
    | cons x l ih => exact (t.present_step k x.1 x.2).trans (ih _)
  rw [State.exchangeAdvance]
  exact (s.tickStep_setSide _ _).trans (each _ _)

theorem State.tickChain_step (s : State) (ended : Nat) (realigned : Bool) : s.tickStep (s.tickChain ended realigned) := by
  rw [State.tickChain]
  exact (((s.sendSof_step.trans (State.exchangeTick_step _ _ _ 0)).trans (State.exchangeTick_step _ _ _ 1)).trans (State.exchangeAdvance_step _ 0)).trans
    (State.exchangeAdvance_step _ 1)

theorem State.tickTiers_step (g s : State) : g.tickStep (g.tickTiers s) := by
  rw [State.tickTiers]
  exact (((((g.tickSides_step _).trans (State.tickQueues_step _ _ _)).trans (State.tickPlans_step _)).trans (State.seqTick_step _)).trans
    (State.probeTick_step _ _)).trans ((State.selfPower_step _).trans (State.tickChain_step _ _ _))

/-! ## The broadcast and the lines' tests -/

theorem State.sendImages_shows (n upto : Nat) (s : State) : s.changes [.chain, .ld] (State.sendImages n upto s) ∧
    ∃ l, (State.sendImages n upto s).chain.sent = s.chain.sent ++ l := by
  induction n generalizing s with
  | zero => exact ⟨s.changes_refl _, [], (List.append_nil _).symm⟩
  | succ n ih =>
    rw [State.sendImages]
    dsimp only
    split
    · exact ⟨s.changes_refl _, [], (List.append_nil _).symm⟩
    · split
      · exact ⟨rfl, _, rfl⟩
      · split
        · exact ⟨s.changes_refl _, [], (List.append_nil _).symm⟩
        · generalize ((s.slot s.chain.bcast.slot).bytes.drop s.chain.bcast.bytes).take 512 = part
          generalize msg : ZOut.msg tImage _ = o
          have sent : s.changes [.chain, .ld] (s.sendZ downPorts o) ∧ ∃ l, (s.sendZ downPorts o).chain.sent = s.chain.sent ++ l := ⟨rfl, _, rfl⟩
          generalize s.sendZ downPorts o = t at *
          obtain ⟨frame, l, hl⟩ := sent
          generalize book : t.setChain { t.chain with bcast := { s.chain.bcast with bytes := s.chain.bcast.bytes + part.length, seq := s.chain.bcast.seq + 1 } } = u
          have booked : s.changes [.chain, .ld] u ∧ u.chain.sent = s.chain.sent ++ l := by
            subst book
            exact ⟨frame.trans rfl, hl⟩
          have fed : s.changes [.chain, .ld] (if s.chain.bcast.flags.testBit 1 && u.ld.source = 3 && u.ld.wants then u.feed part else u) ∧
              (if s.chain.bcast.flags.testBit 1 && u.ld.source = 3 && u.ld.wants then u.feed part else u).chain.sent = s.chain.sent ++ l := by
            split
            · exact ⟨booked.1.trans rfl, booked.2⟩
            · exact booked
          generalize (if s.chain.bcast.flags.testBit 1 && u.ld.source = 3 && u.ld.wants then u.feed part else u) = v at *
          obtain ⟨frame', m, hm⟩ := ih v
          exact ⟨fed.1.trans frame', l ++ m, by rw [hm, fed.2, List.append_assoc]⟩

theorem State.sendBroadcast_shows (s : State) : s.changes [.chain, .ld] s.sendBroadcast ∧ (∃ l, s.sendBroadcast.chain.sent = s.chain.sent ++ l) ∧
    (s.chain.bcast.st ≠ 1 → s.sendBroadcast = s) := by
  rw [State.sendBroadcast]
  split
  · exact ⟨s.changes_refl _, ⟨[], (List.append_nil _).symm⟩, fun _ => rfl⟩
  · next on =>
    obtain ⟨frame, sent⟩ := State.sendImages_shows 200000 ((s.timePs - s.chain.bcast.startPs) / 500) s
    exact ⟨frame, sent, fun h => absurd h on⟩

theorem State.testPort_shows (p : Nat) (s : State) : s.changes [.csr, .free] (s.testPort p) ∧ ∀ a, a ≠ ZV p 4 → (s.testPort p).reg a = s.reg a := by
  have drawn : s.changes [.csr, .free] s.draw.2 := rfl
  have csr : s.draw.2.csr = s.csr := rfl
  rw [State.testPort]
  generalize s.draw = d at *
  split
  · split
    · exact ⟨drawn.trans rfl, fun a h => (State.reg_setBit_ne _ _ _ _ _ h).trans (State.reg_congr csr a)⟩
    · exact ⟨drawn, fun a _ => State.reg_congr csr a⟩
  · exact ⟨s.changes_refl _, fun _ _ => rfl⟩

theorem State.testLane_shows (n : Nat) (s : State) : s.changes [.csr, .free] (s.testLane n) ∧
    ∀ a, a ≠ LN n 0x10 → a ≠ LN n 0x2C → (s.testLane n).reg a = s.reg a := by
  have drawn : s.changes [.csr, .free] s.draw.2 := rfl
  have csr : s.draw.2.csr = s.csr := rfl
  rw [State.testLane]
  generalize s.draw = d at *
  split
  · exact ⟨rfl, fun a h _ => State.reg_setBit_ne _ _ _ _ _ h⟩
  · split
    · split
      · exact ⟨drawn.trans rfl, fun a _ h => (State.reg_setFld_ne _ _ _ _ _ _ h).trans (State.reg_congr csr a)⟩
      · exact ⟨drawn.trans rfl, fun a h _ => (State.reg_setBit_ne _ _ _ _ _ h).trans (State.reg_congr csr a)⟩
    · exact ⟨s.changes_refl _, fun _ _ _ => rfl⟩

/-- What ends a tick: the lines' tests and the trim's source. -/
theorem State.lastStages_shows (s : State) : s.changes [.csr, .free] s.testLines.trimFollow ∧ ∀ r o, s.testLines.trimFollow.reg (RG r o) = s.reg (RG r o) := by
  have test : s.changes [.csr, .free] s.testLines := by
    rw [State.testLines]
    exact ((State.changes_forAll _ _ _ _ _ fun n t => (t.testLane_shows n).1).2 ((State.changes_forAll _ _ _ _ _ fun p t => (t.testPort_shows p).1).2 (s.changes_refl _)))
  have regs (r o : Nat) : s.testLines.reg (RG r o) = s.reg (RG r o) := by
    rw [State.testLines]
    refine (forAll_leaves_below (fun t => t.reg (RG r o)) (f := State.testLane) 96 (fun n t hn => (t.testLane_shows n).2 _ ?_ ?_) _).trans
      (forAll_leaves_below (fun t => t.reg (RG r o)) (f := State.testPort) 4 (fun p t hp => (t.testPort_shows p).2 _ ?_) s)
    · unfold RG LN
      omega
    · unfold RG LN
      omega
    · unfold RG ZV
      omega
  obtain ⟨trim, tregs, _⟩ := s.testLines.trimFollow_shows
  exact ⟨test.trans (trim.mono (by decide)), fun r o => (tregs _ (by unfold RG CK; omega)).trans (regs r o)⟩

/-! ## What the later stages look at -/

/-- Registers that the chain's part of a tick reads. -/
def tickWatched : List Nat := [CK 0x204, CK 0x80C, ZV 0 0x800, ZV 0 4, ZV 1 4, ZV 2 4, ZV 3 4, ZV 0 0x40, ZV 1 0x40]

/-- The chain's part of a tick sees in `t` what it sees in `s`. -/
structure State.sees (s t : State) : Prop where
  clk : t.clk = s.clk
  tick : t.tick = s.tick
  regs : ∀ a ∈ tickWatched, t.reg a = s.reg a
  held : ∀ k, (t.region k).held = (s.region k).held
  steps : t.sq.steps = s.sq.steps
  slot : t.sq.slot = s.sq.slot
  side : ∀ k, (t.side k).cap = (s.side k).cap ∧ (t.side k).heldSeen = (s.side k).heldSeen
  pDiff : t.chain.pDiff = s.chain.pDiff
  bcast : t.chain.bcast = s.chain.bcast

theorem State.sees.trans {s t u : State} (h : s.sees t) (g : t.sees u) : s.sees u :=
  ⟨g.clk.trans h.clk, g.tick.trans h.tick, fun a ha => (g.regs a ha).trans (h.regs a ha), fun k => (g.held k).trans (h.held k), g.steps.trans h.steps,
    g.slot.trans h.slot, fun k => ⟨(g.side k).1.trans (h.side k).1, (g.side k).2.trans (h.side k).2⟩, g.pDiff.trans h.pDiff, g.bcast.trans h.bcast⟩

theorem State.sees_refl (s : State) : s.sees s := ⟨rfl, rfl, fun _ _ => rfl, fun _ => rfl, rfl, rfl, fun _ => ⟨rfl, rfl⟩, rfl, rfl⟩

/-- Where the chain and the sequencer stand. -/
theorem State.sees_of {s t : State} {l : List Part} (h : s.changes l t) (sub : l ⊆ [.csr, .hl, .qs, .rg, .probe]) (regs : ∀ a ∈ tickWatched, t.reg a = s.reg a)
    (held : ∀ k, (t.region k).held = (s.region k).held) : s.sees t := by
  have wide := h.mono sub
  have chain : t.chain = s.chain := wide.same .chain (by decide)
  have sq : t.sq = s.sq := wide.same .sq (by decide)
  have side (k : Nat) : t.side k = s.side k := State.side_congr (by rw [chain]) k
  exact ⟨wide.same .clk (by decide), wide.same .tick (by decide), regs, held, by rw [sq], by rw [sq], fun k => ⟨by rw [side], by rw [side]⟩, by rw [chain], by rw [chain]⟩

theorem State.checkSide_sees (s : State) (p k : Nat) : s.sees (s.checkSide p k) := by
  have set (b : Bool) : s.sees (s.setSide k { s.side k with cfgPosted := b }) := by
    refine ⟨rfl, rfl, fun _ _ => rfl, fun _ => rfl, rfl, rfl, fun j => ?_, rfl, rfl⟩
    obtain ⟨same, other⟩ := s.side_setSide k { s.side k with cfgPosted := b }
    by_cases e : j = k
    · subst e
      rw [same]
      exact ⟨rfl, rfl⟩
    · rw [other j e]
      exact ⟨rfl, rfl⟩
  rw [State.checkSide]
  split
  · exact set false
  · split
    · exact s.sees_refl
    · have posted (t : State) (d x : Nat) : t.sees (t.fault d x) := by
        have side (j : Nat) : (t.fault d x).side j = t.side j := rfl
        exact ⟨rfl, rfl, fun _ _ => rfl, fun _ => rfl, rfl, rfl, fun j => by rw [side j]; exact ⟨rfl, rfl⟩, rfl, rfl⟩
      exact (set true).trans (posted _ _ _)

theorem State.tickSides_sees (s : State) (old : Nat) : s.sees (s.tickSides old) := by
  rw [State.tickSides]
  split
  · exact s.sees_refl
  · exact (s.checkSide_sees _ 0).trans (State.checkSide_sees _ _ 1)

theorem QC_not_watched {q : Nat} (_ : q < 384) : ∀ a ∈ tickWatched, a ≠ QC q 0x20 := by
  simp only [tickWatched, List.mem_cons, List.not_mem_nil, or_false, CK, ZV, QC]
  omega

theorem RG_not_watched (r o : Nat) : ∀ a ∈ tickWatched, a ≠ RG r o := by
  simp only [tickWatched, List.mem_cons, List.not_mem_nil, or_false, CK, ZV, RG]
  omega

theorem State.tickQueues_sees (ended : Nat) (jumped : Bool) (s : State) : s.sees (s.tickQueues ended jumped) := by
  obtain ⟨frame, _, regs⟩ := (s.tickQueues_shows ended jumped).1
  exact State.sees_of frame (by decide) (fun a ha => regs a fun q hq => QC_not_watched hq a ha)
    fun k => by rw [State.region_congr (frame.same .rg (by decide))]

theorem State.tickPlans_sees (s : State) : s.sees s.tickPlans := by
  rw [State.tickPlans]
  split
  · exact s.sees_refl
  · obtain ⟨frame, stand, regs⟩ := s.startSchedules_keeps
    exact State.sees_of frame (by decide) (fun a ha => regs a fun k _ o _ => RG_not_watched k o a ha) fun k => (stand k).held

theorem State.seqTick_sees (s : State) : s.sees s.seqTick := by
  rw [State.seqTick]
  split
  · exact ⟨rfl, rfl, fun _ _ => rfl, fun _ => rfl, rfl, rfl, fun _ => ⟨rfl, rfl⟩, rfl, rfl⟩
  · exact s.sees_refl

theorem State.probeTick_shows (s : State) (realigned : Bool) : s.changes [.csr, .probe] (s.probeTick realigned) ∧
    ∀ a, a ≠ PB 4 → (s.probeTick realigned).reg a = s.reg a := by
  have mark : s.changes [.csr, .probe] (if realigned && s.sounding && s.probe.storing then s.setBit (PB 4) 3 true else s) ∧
      ∀ a, a ≠ PB 4 → (if realigned && s.sounding && s.probe.storing then s.setBit (PB 4) 3 true else s).reg a = s.reg a := by
    split
    · exact ⟨rfl, fun a h => State.reg_setBit_ne _ _ _ _ _ h⟩
    · exact ⟨s.changes_refl _, fun _ _ => rfl⟩
  rw [State.probeTick]
  dsimp only
  generalize (if realigned && s.sounding && s.probe.storing then s.setBit (PB 4) 3 true else s) = t at *
  obtain ⟨frame, regs⟩ := mark
  split
  · exact ⟨frame, regs⟩
  · split
    · exact ⟨frame.trans rfl, regs⟩
    · exact ⟨frame.trans rfl, regs⟩

theorem State.probeTick_sees (s : State) (realigned : Bool) : s.sees (s.probeTick realigned) := by
  obtain ⟨frame, regs⟩ := s.probeTick_shows realigned
  refine State.sees_of frame (by decide) (fun a ha => regs a ?_) fun k => by rw [State.region_congr (frame.same .rg (by decide))]
  revert a
  decide

/-- The state in which the chain takes its part, where no change of mode is the unit's own. -/
def State.beforeChain (g s : State) : State := (((g.tickSides s.P).tickQueues s.frameNo s.jumps).tickPlans).seqTick.probeTick (s.tick.ext ≠ 0)

theorem State.beforeChain_sees (g s : State) : g.sees (g.beforeChain s) :=
  ((((g.tickSides_sees _).trans (State.tickQueues_sees _ _ _)).trans (State.tickPlans_sees _)).trans (State.seqTick_sees _)).trans (State.probeTick_sees _ _)

theorem State.tickTiers_eq {g s : State} (self : g.clk.self = none) : g.tickTiers s = (g.beforeChain s).tickChain s.frameNo (s.tick.ext ≠ 0) := by
  have none_ : (g.beforeChain s).clk.self = none := by rw [(g.beforeChain_sees s).clk, self]
  have rest : (g.beforeChain s).selfPower = g.beforeChain s := by rw [State.selfPower, none_]
  have whole : g.tickTiers s = ((g.beforeChain s).selfPower).tickChain s.frameNo (s.tick.ext ≠ 0) := rfl
  rw [whole, rest]

/-! ## What the chain sends at a tick -/

theorem State.sendSof_shows (s : State) : s.sees s.sendSof ∧ (s.isHead = true → s.mode = 0 → s.sendSof.chain.sent = s.chain.sent ++
    [(downPorts.filter (fun p => !s.low p), .set setSof (s.superStart.toNat + (s.chain.bcast.st = 1 : Bool).toNat * 2 + s.frameNo % 64 * 4))]) := by
  rw [State.sendSof]
  split
  · exact ⟨⟨rfl, rfl, fun _ _ => rfl, fun _ => rfl, rfl, rfl, fun _ => ⟨rfl, rfl⟩, rfl, rfl⟩, fun _ _ => rfl⟩
  · next no => exact ⟨s.sees_refl, fun h k => absurd (by simp [h, k]) no⟩

/-- VALID of side `k`'s contribution (R318). -/
def State.contributes (s : State) (realigned : Bool) (k : Nat) : Bool :=
  !realigned && !s.beached && s.bit (CK 0x80C) 2 && !(s.side k).heldSeen && !s.sideHeld k && s.tickStepDone && !s.chain.pDiff

theorem State.exchangeTick_sends {s : State} {k : Nat} (en : s.xEn k = true) (run : s.mode = 0) (clocked : s.clk.stopped = false)
    (full : (s.side k).cap.length = s.xS k) (f : Nat) (realigned : Bool) : (s.exchangeTick f realigned k).chain.sent = s.chain.sent ++
    [((if k = 0 then upPorts else downPorts).filter (fun p => !s.low p), .xch (f % 128 + (s.contributes realigned k).toNat * 128) (s.side k).cap)] := by
  have slices : ((s.side k).cap ++ List.replicate (s.xS k - (s.side k).cap.length) (s.sliceNow k)).take (s.xS k) = (s.side k).cap := by
    rw [full, Nat.sub_self, List.replicate_zero, List.append_nil, ← full, List.take_length]
  have low (x : Side) (p : Nat) : (s.setSide k x).low p = s.low p := rfl
  have size (x : Side) : (s.setSide k x).xS k = s.xS k := rfl
  simp only [State.exchangeTick, en, run, clocked, Bool.not_true, Bool.or_false, ne_eq, not_true_eq_false, decide_false, Bool.false_eq_true, if_false, low, size, slices]
  rfl

/-- The exchange of one side leaves what the other side's sees. -/
theorem State.exchangeTick_other (s : State) (f : Nat) (realigned : Bool) {k j : Nat} (ne : j ≠ k) : s.changes [.chain] (s.exchangeTick f realigned k) ∧
    (s.exchangeTick f realigned k).side j = s.side j ∧ (s.exchangeTick f realigned k).chain.pDiff = s.chain.pDiff := by
  rw [State.exchangeTick]
  split
  · exact ⟨rfl, (s.side_setSide _ _).2 j ne, rfl⟩
  · exact ⟨rfl, (s.side_setSide _ _).2 j ne, rfl⟩

/-! ## From the state before the tick -/

theorem State.endSwapCycles_settled (s : State) (k : Nat) : (s.endSwapCycles.region k).settled = (s.region k).settled := by
  refine forAll_leaves (fun t => (t.region k).settled) (f := fun r (t : State) => if (t.region r).swapCycle || (t.region r).pinStart then
    t.setRegion r { t.region r with swapCycle := false, pinStart := false } else t) (fun r t => ?_) 96 s
  dsimp only
  split
  · by_cases e : k = r
    · subst e
      rw [State.region_setRegion_same]
      rfl
    · exact congrArg Region.settled (mget_mput_ne _ _ _ _ _ e)
  · rfl

theorem State.tickGenerator_settled (s : State) (k : Nat) : (s.tickGenerator.region k).settled = (s.region k).settled := by
  have c := s.elapse.closeFrame_shows.1
  have n := s.elapse.closeFrame.numberFrame_shows.1
  have p := s.elapse.closeFrame.numberFrame.applyPending_shows.1
  have f := s.elapse.closeFrame.numberFrame.applyPending.tickSof_shows.1
  have rg : s.tickGenerator.rg = s.elapse.rg := (f.same .rg (by decide) :).trans ((p.same .rg (by decide) :).trans ((n.same .rg (by decide) :).trans (c.same .rg (by decide))))
  have elapsed : (s.elapse.region k).settled = (s.region k).settled := by
    rw [State.elapse]
    rw [State.region_congr ((State.passCycles_changes _ _).same .rg (by decide))]
    split
    · rfl
    · exact s.endSwapCycles_settled k
  rw [State.region_congr rg]
  exact elapsed

/-- The state before the tiers take their steps, as the chain and the schedules see it. -/
theorem State.tickGenerator_sees (s : State) : s.tickGenerator.clk = s.clk ∧ (∀ a ∈ tickWatched, a ≠ CK 0x80C → s.tickGenerator.reg a = s.reg a) ∧
    (∀ r o, s.tickGenerator.reg (RG r o) = s.reg (RG r o)) ∧ (∀ k, s.stands s.tickGenerator k) ∧ (∀ k, (s.tickGenerator.region k).settled = (s.region k).settled) ∧
    s.tickGenerator.sq = s.sq ∧ (∀ k, s.tickGenerator.side k = s.side k) ∧ s.tickGenerator.chain.pDiff = s.chain.pDiff ∧ s.tickGenerator.chain.bcast = s.chain.bcast ∧
    s.tickGenerator.chain.sent = s.chain.sent ∧ s.tickGenerator.qs = s.qs ∧ s.tickGenerator.run = s.run ∧ s.tickGenerator.fab = s.fab ∧ s.tickGenerator.ld = s.ld := by
  have frame := s.tickGenerator_frame
  have regs := s.tickGenerator_registers
  obtain ⟨_, _, _, _, _, _, _, _, _, _, _, _, _, _, regs⟩ := regs
  have chain := s.tickGenerator_regions.2.1
  have rg (r o : Nat) : s.tickGenerator.reg (RG r o) = s.reg (RG r o) := by
    refine regs _ ?_ ?_ ?_ ?_ ?_ <;> (unfold RG CK; omega)
  have settled := s.tickGenerator_settled
  have held (k : Nat) : (s.tickGenerator.region k).held = (s.region k).held := (congrArg Region.held (settled k) :)
  have cpl (k : Nat) : (s.tickGenerator.region k).cpl = (s.region k).cpl := (congrArg Region.cpl (settled k) :)
  refine ⟨frame.same .clk (by decide), fun a ha ne => ?_, rg, fun k => ⟨State.fld_congr (rg k 0) 0 3, fun _ _ => State.bit_congr (rg k 0) _,
    State.bit_congr (rg k 0) 12, held k, cpl k⟩, settled, frame.same .sq (by decide), fun k => State.side_congr ?_ k, ?_, ?_, ?_, frame.same .qs (by decide), frame.same .run (by decide),
    frame.same .fab (by decide), frame.same .ld (by decide)⟩
  · have away : ∀ b ∈ tickWatched, b ≠ CK 0x80C → b ≠ CK 0x800 ∧ b ≠ CK 0x804 ∧ b ≠ CK 0x830 ∧ b ≠ CK 0x828 := by decide
    obtain ⟨h0, h1, h2, h3⟩ := away a ha ne
    exact regs a h0 h1 ne h2 h3
  · exact (congrArg Chain.sides chain :)
  · exact (congrArg Chain.pDiff chain :)
  · exact (congrArg Chain.bcast chain :)
  · exact (congrArg Chain.sent chain :)

/-! ## The tick as a whole -/

/-- What follows the broadcast adds to what is sent, and no more. -/
theorem State.tickEdge_sent {s g : State} : ∃ l, ((g.tickTiers s).sendBroadcast.testLines.trimFollow).chain.sent = (g.tickTiers s).chain.sent ++ l := by
  obtain ⟨_, ⟨l, hl⟩, _⟩ := (g.tickTiers s).sendBroadcast_shows
  have last := (g.tickTiers s).sendBroadcast.lastStages_shows.1
  have chain : (g.tickTiers s).sendBroadcast.testLines.trimFollow.chain = (g.tickTiers s).sendBroadcast.chain := last.same .chain (by decide)
  exact ⟨l, by rw [chain, hl]⟩

theorem State.changes_withFab (s : State) (f : Fabric) : s.changes [.fab] (s.withFab f) := rfl

/-- What follows the generator's tick: its own parts, and of Headland's state what is latched. -/
theorem State.tickEdge_after (s : State) : s.tickGenerator.changes (.fab :: tickParts) s.tickEdge ∧
    s.tickEdge.hl = { s.tickGenerator.hl with latches := s.tickEdge.hl.latches } ∧ (s.chain.bcast.st ≠ 1 → s.tickEdge.ld = s.ld) := by
  obtain ⟨f, eq, _⟩ := s.tickEdge_eq
  obtain ⟨_, _, _, _, _, _, _, _, gbcast, _, _, _, _, gld⟩ := s.tickGenerator_sees
  have fab := s.tickGenerator.changes_withFab f
  rw [eq]
  generalize s.tickGenerator.withFab f = g at fab ⊢
  obtain ⟨tframe, thl, _, tbcast, tld⟩ := g.tickTiers_step s
  generalize g.tickTiers s = y at *
  obtain ⟨bframe, _, none_⟩ := y.sendBroadcast_shows
  have lframe := y.sendBroadcast.lastStages_shows.1
  have hl0 : g.hl = s.tickGenerator.hl := fab.same .hl (by decide)
  have bhl : y.sendBroadcast.hl = y.hl := bframe.same .hl (by decide)
  have lhl : y.sendBroadcast.testLines.trimFollow.hl = y.sendBroadcast.hl := lframe.same .hl (by decide)
  refine ⟨(fab.mono (by decide)).trans (((tframe.trans (bframe.mono (by decide))).trans (lframe.mono (by decide))).mono (by decide)), ?_, fun idle => ?_⟩
  · rw [lhl, bhl, thl, hl0]
  · have chain0 : g.chain = s.tickGenerator.chain := fab.same .chain (by decide)
    have still : y.chain.bcast.st ≠ 1 := by rwa [tbcast, chain0, gbcast]
    have l1 : y.sendBroadcast.testLines.trimFollow.ld = y.sendBroadcast.ld := lframe.same .ld (by decide)
    have l0 : g.ld = s.tickGenerator.ld := fab.same .ld (by decide)
    rw [l1, none_ still, tld, l0, gld]

/-- What a tick leaves: the generator's results, OTP, stores, the request in service. -/
theorem State.tickEdge_keeps (s : State) : s.tickEdge.tick = s.tickGenerator.tick ∧ s.tickEdge.timePs = s.tickGenerator.timePs ∧
    s.tickEdge.hl.changes = s.tickGenerator.hl.changes ∧ s.tickEdge.hl.serving = s.hl.serving ∧ s.tickEdge.life.otp = s.life.otp ∧ s.tickEdge.store = s.store ∧
    (s.chain.bcast.st ≠ 1 → s.tickEdge.ld = s.ld) ∧ s.tickEdge.isl = s.isl ∧ s.tickEdge.tap = s.tap := by
  obtain ⟨rest, hl, idle⟩ := s.tickEdge_after
  obtain ⟨_, _, _, _, _, ghl, _⟩ := s.tickGenerator_numbers
  have whole : s.changes (.fab :: generatorParts ++ tickParts) s.tickEdge := (s.tickGenerator_frame.mono (by decide)).trans (rest.mono (by decide))
  generalize s.tickEdge = t at *
  have life : t.life = s.life := whole.same .life (by decide)
  exact ⟨rest.same .tick (by decide), rest.same .timePs (by decide), by rw [hl], by rw [hl, ghl], by rw [life], whole.same .store (by decide), idle,
    whole.same .isl (by decide), whole.same .tap (by decide)⟩

theorem State.exchangeAdvance_shows (s : State) {k : Nat} (hk : k < 2) : s.changes [.chain, .csr] (s.exchangeAdvance k) ∧
    ∀ r o, (s.exchangeAdvance k).reg (RG r o) = s.reg (RG r o) := by
  have one (t : State) (f t0 : Nat) : t.changes [.chain, .csr] (t.present k f t0) ∧ ∀ r o, (t.present k f t0).reg (RG r o) = t.reg (RG r o) := by
    have away (r o x : Nat) (h : x < 0x1000) : RG r o ≠ ZV k x := by
      unfold RG ZV
      omega
    rw [State.present]
    dsimp only
    split
    · exact ⟨rfl, fun r o => State.reg_inc_ne _ _ _ (away r o _ (by decide))⟩
    · exact ⟨rfl, fun r o => State.reg_inc_ne _ _ _ (away r o _ (by decide))⟩
  have each (l : List (Nat × Nat)) (t : State) : t.changes [.chain, .csr] (l.foldl (fun t x => t.present k x.1 x.2) t) ∧
      ∀ r o, (l.foldl (fun t x => t.present k x.1 x.2) t).reg (RG r o) = t.reg (RG r o) := by
    induction l generalizing t with
    | nil => exact ⟨t.changes_refl _, fun _ _ => rfl⟩
    | cons x l ih =>
      obtain ⟨frame, regs⟩ := one t x.1 x.2
      obtain ⟨frame', regs'⟩ := ih (t.present k x.1 x.2)
      exact ⟨frame.trans frame', fun r o => (regs' r o).trans (regs r o)⟩
  have set : s.changes [.chain, .csr] (s.setSide k { s.side k with ticks := (s.side k).ticks.filter (fun t => !decide (t.2 + s.xL k ≤ s.tick.cyc)) }) := rfl
  rw [State.exchangeAdvance]
  obtain ⟨frame, regs⟩ := each ((s.side k).ticks.filter (fun t => decide (t.2 + s.xL k ≤ s.tick.cyc)))
    (s.setSide k { s.side k with ticks := (s.side k).ticks.filter (fun t => !decide (t.2 + s.xL k ≤ s.tick.cyc)) })
  exact ⟨set.trans frame, regs⟩

theorem State.tickChain_shows (s : State) (ended : Nat) (realigned : Bool) : s.changes [.chain, .csr] (s.tickChain ended realigned) ∧
    ∀ r o, (s.tickChain ended realigned).reg (RG r o) = s.reg (RG r o) := by
  have sof : s.changes [.chain] s.sendSof := by
    rw [State.sendSof]
    split
    · exact rfl
    · exact s.changes_refl _
  have x0 := (s.sendSof.exchangeTick_other ended realigned (k := 0) (j := 1) (by decide)).1
  have x1 := ((s.sendSof.exchangeTick ended realigned 0).exchangeTick_other ended realigned (k := 1) (j := 0) (by decide)).1
  have sent := (sof.trans x0).trans x1
  rw [State.tickChain]
  generalize (s.sendSof.exchangeTick ended realigned 0).exchangeTick ended realigned 1 = t at *
  obtain ⟨f0, r0⟩ := t.exchangeAdvance_shows (k := 0) (by decide)
  obtain ⟨f1, r1⟩ := (t.exchangeAdvance 0).exchangeAdvance_shows (k := 1) (by decide)
  exact ⟨((sent.mono (by decide)).trans f0).trans f1, fun r o => ((r1 r o).trans (r0 r o)).trans (State.reg_congr (sent.same .csr (by decide)) _)⟩

/-- The SOF and the contributions of a tick, sent as the state before the chain's part has them. -/
theorem State.tickChain_sends {s : State} {ended : Nat} {realigned : Bool} :
    (s.isHead = true → s.mode = 0 → (downPorts.filter (fun p => !s.low p), ZOut.set setSof
      (s.superStart.toNat + (s.chain.bcast.st = 1 : Bool).toNat * 2 + s.frameNo % 64 * 4)) ∈ (s.tickChain ended realigned).chain.sent) ∧
    ∀ k, k < 2 → s.xEn k = true → s.mode = 0 → s.clk.stopped = false → (s.side k).cap.length = s.xS k →
      ((if k = 0 then upPorts else downPorts).filter (fun p => !s.low p), ZOut.xch (ended % 128 + (s.contributes realigned k).toNat * 128) (s.side k).cap) ∈
        (s.tickChain ended realigned).chain.sent := by
  obtain ⟨sees, sof⟩ := s.sendSof_shows
  have e0 := s.sendSof.exchangeTick_step ended realigned 0
  have e1 := (s.sendSof.exchangeTick ended realigned 0).exchangeTick_step ended realigned 1
  obtain ⟨l, hl⟩ := ((State.exchangeAdvance_step _ 0).trans (State.exchangeAdvance_step _ 1) :
    ((s.sendSof.exchangeTick ended realigned 0).exchangeTick ended realigned 1).tickStep (s.tickChain ended realigned)).sent
  obtain ⟨l0, h0⟩ := e0.sent
  obtain ⟨l1, h1⟩ := e1.sent
  -- what a side sends is fixed by what the chain sees
  have same (u : State) (watch : ∀ a ∈ tickWatched, u.reg a = s.reg a) {k : Nat} (hk : k < 2) : u.mode = s.mode ∧ u.xEn k = s.xEn k ∧ u.xS k = s.xS k ∧
      (if k = 0 then upPorts else downPorts).filter (fun p => !u.low p) = (if k = 0 then upPorts else downPorts).filter (fun p => !s.low p) ∧
      u.beached = s.beached ∧ u.bit (CK 0x80C) 2 = s.bit (CK 0x80C) 2 := by
    have side : ZV k 0x40 ∈ tickWatched := by
      obtain rfl | rfl : k = 0 ∨ k = 1 := by omega
      · decide
      · decide
    refine ⟨State.fld_congr (watch _ (by decide)) _ _, State.bit_congr (watch _ side) _, State.fld_congr (watch _ side) _ _, ?_, State.bit_congr (watch _ (by decide)) _,
      State.bit_congr (watch _ (by decide)) _⟩
    have low (p : Nat) (hp : p < 4) : u.low p = s.low p := by
      refine State.bit_congr (watch _ ?_) 1
      obtain rfl | rfl | rfl | rfl : p = 0 ∨ p = 1 ∨ p = 2 ∨ p = 3 := by omega
      all_goals decide
    split
    · simp only [upPorts, List.filter, low 0 (by decide), low 2 (by decide)]
    · simp only [downPorts, List.filter, low 1 (by decide), low 3 (by decide)]
  have sends (u : State) {k : Nat} (hk : k < 2) (watch : ∀ a ∈ tickWatched, u.reg a = s.reg a) (clk : u.clk = s.clk)
      (side : (u.side k).cap = (s.side k).cap ∧ (u.side k).heldSeen = (s.side k).heldSeen) (held : ∀ r, (u.region r).held = (s.region r).held)
      (steps : u.sq.steps = s.sq.steps) (slot : u.sq.slot = s.sq.slot) (pDiff : u.chain.pDiff = s.chain.pDiff)
      (en : s.xEn k = true) (run : s.mode = 0) (clocked : s.clk.stopped = false) (full : (s.side k).cap.length = s.xS k) :
      ((if k = 0 then upPorts else downPorts).filter (fun p => !s.low p), ZOut.xch (ended % 128 + (s.contributes realigned k).toNat * 128) (s.side k).cap) ∈
        (u.exchangeTick ended realigned k).chain.sent := by
    obtain ⟨mode, xen, xs, ports, beached, aligned⟩ := same u watch hk
    obtain ⟨cap, seen⟩ := side
    have valid : u.contributes realigned k = s.contributes realigned k := by
      simp only [State.contributes, beached, aligned, seen, State.sideHeld, held, State.tickStepDone, steps, slot, pDiff]
    rw [State.exchangeTick_sends (xen.trans en) (mode.trans run) ((congrArg Clocks.stopped clk).trans clocked) (by rw [cap, xs, full]) ended realigned, ports, valid, cap]
    simp
  refine ⟨fun head run => ?_, fun k hk en run clocked full => ?_⟩
  · rw [hl, h1, h0, sof head run]
    simp
  · obtain rfl | rfl : k = 0 ∨ k = 1 := by omega
    · rw [hl, h1]
      have here := sends s.sendSof (k := 0) (by decide) sees.regs sees.clk (sees.side 0) sees.held sees.steps sees.slot sees.pDiff en run clocked full
      exact List.mem_append_left _ (List.mem_append_left _ here)
    · rw [hl]
      obtain ⟨frame, side, pDiff⟩ := s.sendSof.exchangeTick_other ended realigned (k := 0) (j := 1) (by decide)
      have sq : (s.sendSof.exchangeTick ended realigned 0).sq = s.sendSof.sq := frame.same .sq (by decide)
      have here := sends (s.sendSof.exchangeTick ended realigned 0) (k := 1) (by decide)
        (fun a ha => (State.reg_congr (frame.same .csr (by decide)) a).trans (sees.regs a ha)) ((frame.same .clk (by decide) :).trans sees.clk)
        (by rw [side]; exact sees.side 1) (fun r => (congrArg Region.held (State.region_congr (frame.same .rg (by decide)) r)).trans (sees.held r))
        (by rw [sq]; exact sees.steps) (by rw [sq]; exact sees.slot) (pDiff.trans sees.pDiff) en run clocked full
      exact List.mem_append_left _ here

/-! ## Queues and schedules, seen from the state before the tick -/

theorem State.tickSides_changes (s : State) (old : Nat) : s.changes [.chain, .hl] (s.tickSides old) := by
  rw [State.tickSides]
  split
  · exact s.changes_refl _
  · simp

/-- The queues have taken their step. -/
def State.queuesDone (g s : State) : State := (g.tickSides s.P).tickQueues s.frameNo s.jumps

theorem State.beforeChain_plans (g s : State) : (g.beforeChain s).qs = (g.queuesDone s).qs ∧ (∀ r, (g.beforeChain s).region r = (g.queuesDone s).tickPlans.region r) ∧
    ∀ r o, (g.beforeChain s).reg (RG r o) = (g.queuesDone s).tickPlans.reg (RG r o) := by
  have plans : (g.queuesDone s).changes [.csr, .rg] (g.queuesDone s).tickPlans := by
    rw [State.tickPlans]
    split
    · exact State.changes_refl _ _
    · exact State.startSchedules_keeps _ |>.1
  have whole : g.beforeChain s = (g.queuesDone s).tickPlans.seqTick.probeTick (s.tick.ext ≠ 0) := rfl
  rw [whole]
  generalize (g.queuesDone s).tickPlans = p at *
  have sq : p.changes [.sq] p.seqTick := by
    rw [State.seqTick]
    split
    · exact rfl
    · exact p.changes_refl _
  obtain ⟨probe, regs⟩ := p.seqTick.probeTick_shows (s.tick.ext ≠ 0)
  refine ⟨(probe.same .qs (by decide) :).trans ((sq.same .qs (by decide) :).trans (plans.same .qs (by decide))), fun r => ?_, fun r o => ?_⟩
  · exact (State.region_congr (probe.same .rg (by decide)) r).trans (State.region_congr (sq.same .rg (by decide)) r)
  · exact (regs _ (by unfold RG PB; omega)).trans (State.reg_congr (sq.same .csr (by decide)) _)

theorem State.queuesDone_shows {s g : State} {f : Fabric} (at_ : g = s.tickGenerator.withFab f) (tf : f.tf = s.fab.tf) :
    (∀ k, s.stands (g.queuesDone s) k) ∧ (∀ r o, (g.queuesDone s).reg (RG r o) = s.reg (RG r o)) ∧ (∀ k, ((g.queuesDone s).region k).settled = (s.region k).settled) ∧
    (g.queuesDone s).fab.tf = s.fab.tf ∧ (g.queuesDone s).tick = s.tickGenerator.tick ∧ (g.queuesDone s).clk = s.clk ∧
    (g.queuesDone s).hl.up = s.tickGenerator.hl.up ∧ (g.queuesDone s).planDue = s.tickGenerator.planDue ∧
    (s.clk.stopped = false → s.run.hold = false → ∀ q, q < 384 → s.tickedQueue ((g.queuesDone s).queue q) s.frameNo s.jumps q) := by
  obtain ⟨clk, _, rg, stand, settled, _, _, _, _, _, qs, run, _, _⟩ := s.tickGenerator_sees
  have sides := g.tickSides_changes s.P
  have sideHl := (g.tickSides_step s.P).hl
  obtain ⟨⟨frame, hl, regs⟩, ticked⟩ := (g.tickSides s.P).tickQueues_shows s.frameNo s.jumps
  have gcsr : g.csr = s.tickGenerator.csr := by rw [at_]; rfl
  have grg : g.rg = s.tickGenerator.rg := by rw [at_]; rfl
  have gqs : g.qs = s.qs := by rw [at_]; exact qs
  have gclk : g.clk = s.clk := by rw [at_]; exact clk
  have grun : g.run = s.run := by rw [at_]; exact run
  have ghl : g.hl = s.tickGenerator.hl := by rw [at_]; rfl
  have gtick : g.tick = s.tickGenerator.tick := by rw [at_]; rfl
  have gtf : g.fab.tf = s.fab.tf := by rw [at_]; exact tf
  change (∀ k, s.stands ((g.tickSides s.P).tickQueues s.frameNo s.jumps) k) ∧ _
  rw [State.queuesDone]
  generalize g.tickSides s.P = h at *
  generalize h.tickQueues s.frameNo s.jumps = q at *
  have qrg : q.rg = s.tickGenerator.rg := (frame.same .rg (by decide) :).trans ((sides.same .rg (by decide) :).trans grg)
  have qtick : q.tick = s.tickGenerator.tick := (frame.same .tick (by decide) :).trans ((sides.same .tick (by decide) :).trans gtick)
  have reg (r o : Nat) : q.reg (RG r o) = s.reg (RG r o) := by
    refine (regs _ fun k hk => ?_).trans ((State.reg_congr ((sides.same .csr (by decide) :).trans gcsr) _).trans (rg r o))
    unfold RG QC
    omega
  have settle (k : Nat) : (q.region k).settled = (s.region k).settled := by rw [State.region_congr qrg, settled]
  have qhl : q.hl = { s.tickGenerator.hl with latches := q.hl.latches } := by rw [hl, sideHl, ghl]
  have hqs : h.qs = s.qs := (sides.same .qs (by decide) :).trans gqs
  refine ⟨fun k => ?_, reg, settle, ?_, qtick, ?_, by rw [qhl], ?_, fun clocked free i hi => ?_⟩
  · exact ⟨State.fld_congr (reg k 0) 0 3, fun _ _ => State.bit_congr (reg k 0) _, State.bit_congr (reg k 0) 12, (congrArg Region.held (settle k) :), (congrArg Region.cpl (settle k) :)⟩
  · rw [frame.same .fab (by decide), sides.same .fab (by decide), gtf]
  · exact (frame.same .clk (by decide) :).trans ((sides.same .clk (by decide) :).trans gclk)
  · rw [State.planDue, State.planDue, qhl, State.frameNo, qtick, State.frameNo]
  · have hclk : h.clk = s.clk := (sides.same .clk (by decide) :).trans gclk
    have hrun : h.run = s.run := (sides.same .run (by decide) :).trans grun
    have done := ticked (by rw [hclk, clocked]) (by rw [hrun, free]) i hi
    have queue : h.queue i = s.queue i := State.queue_congr hqs i
    have desc : h.desc i = s.desc i := State.desc_congr (by rw [queue])
    simp only [State.tickedQueue, State.qMode, desc, queue] at done ⊢
    exact done

/-! ## O31 -/

/-- What the tick sends, what it makes of the queues and of the running schedules. -/
theorem State.tickEdge_tiers {s : State} (self : s.clk.self = none) :
    (∀ q, q < 384 → s.clk.stopped = false → s.run.hold = false → s.tickedQueue (s.tickEdge.queue q) s.frameNo s.jumps q) ∧
    (∀ r, r < 96 → s.schedRun r = true → (s.region r).held = false → s.clk.stopped = false → s.leads r = true →
      (s.tickGenerator.hl.up = false ∨ s.tickGenerator.planDue = false) → s.tickEdge.active r = s.active r ∧
      (s.stepCtx r 0 ≠ s.active r → s.canEnter r (s.stepCtx r 0) = true → s.tickEdge.swapPending r = true ∧ s.tickEdge.pendCtx r = s.stepCtx r 0 ∧
        (s.tickEdge.region r).cls = .planned ∧ (s.tickEdge.region r).pendStep = 0 ∧ (s.tickEdge.region r).due = s.tickEdge.tick.cyc) ∧
      (s.stepCtx r 0 = s.active r ∨ s.canEnter r (s.stepCtx r 0) = false →
        s.tickEdge.stepNo r = 0 ∨ ((s.tickEdge.region r).wait0 = true ∧ s.tickEdge.stepNo r = s.stepNo r))) ∧
    (s.isHead = true → s.mode = 0 → (downPorts.filter (fun p => !s.low p), ZOut.set setSof ((decide (s.tickGenerator.frameNo % 64 = 0)).toNat +
      (decide (s.chain.bcast.st = 1)).toNat * 2 + s.tickGenerator.frameNo % 64 * 4)) ∈ s.tickEdge.chain.sent) ∧
    ∀ k, k < 2 → s.xEn k = true → s.mode = 0 → s.clk.stopped = false → (s.side k).cap.length = s.xS k → ∃ x,
      ((if k = 0 then upPorts else downPorts).filter (fun p => !s.low p), ZOut.xch x (s.side k).cap) ∈ s.tickEdge.chain.sent ∧
      x < 256 ∧ x % 128 = s.frameNo % 128 ∧ (128 ≤ x ↔ s.tick.ext = 0 ∧ s.beached = false ∧ s.tickGenerator.bit (CK 0x80C) 2 = true ∧
        (s.side k).heldSeen = false ∧ s.sideHeld k = false ∧ s.tickStepDone = true ∧ s.chain.pDiff = false) := by
  have tick := s.tickEdge_keeps.1
  obtain ⟨f, eq, tf⟩ := s.tickEdge_eq
  obtain ⟨g, hg⟩ : ∃ g, g = s.tickGenerator.withFab f := ⟨_, rfl⟩
  obtain ⟨stand, regs, settled, qtf, qtick, qclk, up, planDue, queues⟩ := State.queuesDone_shows hg tf
  obtain ⟨gclk, gregs, _, _, gsettled, gsq, gside, gpDiff, gbcast, _, _, _, _, _⟩ := s.tickGenerator_sees
  rw [← hg] at eq
  have gself : g.clk.self = none := by
    rw [hg]
    exact (congrArg Clocks.self gclk).trans self
  obtain ⟨bqs, bregion, bregs⟩ := g.beforeChain_plans s
  have sees := g.beforeChain_sees s
  have tiers := State.tickTiers_eq (s := s) gself
  have bstep := g.tickTiers_step s
  obtain ⟨after, hafter⟩ := State.tickEdge_sent (s := s) (g := g)
  obtain ⟨cframe, cregs⟩ := (g.beforeChain s).tickChain_shows s.frameNo (s.tick.ext ≠ 0)
  obtain ⟨sof, xch⟩ := State.tickChain_sends (s := g.beforeChain s) (ended := s.frameNo) (realigned := s.tick.ext ≠ 0)
  obtain ⟨bframe, _, _⟩ := (g.tickTiers s).sendBroadcast_shows
  obtain ⟨lframe, lregs⟩ := (g.tickTiers s).sendBroadcast.lastStages_shows
  have sent : s.tickEdge.chain.sent = (g.tickTiers s).chain.sent ++ after := by rw [eq, hafter]
  have tqs : s.tickEdge.qs = (g.queuesDone s).qs := by
    rw [eq]
    exact (lframe.same .qs (by decide) :).trans ((bframe.same .qs (by decide) :).trans (by rw [tiers]; exact (cframe.same .qs (by decide) :).trans bqs))
  have tregion (r : Nat) : s.tickEdge.region r = (g.queuesDone s).tickPlans.region r := by
    rw [eq]
    refine (State.region_congr (lframe.same .rg (by decide)) r).trans ((State.region_congr (bframe.same .rg (by decide)) r).trans ?_)
    rw [tiers]
    exact (State.region_congr (cframe.same .rg (by decide)) r).trans (bregion r)
  have treg (r o : Nat) : s.tickEdge.reg (RG r o) = (g.queuesDone s).tickPlans.reg (RG r o) := by
    rw [eq]
    refine (lregs r o).trans ((State.reg_congr (bframe.same .csr (by decide)) _).trans ?_)
    rw [tiers]
    exact (cregs r o).trans (bregs r o)
  -- what the chain's part reads, from the state before the tick
  have watch (a : Nat) (ha : a ∈ tickWatched) (ne : a ≠ CK 0x80C) : (g.beforeChain s).reg a = s.reg a := by
    refine (sees.regs a ha).trans ?_
    rw [hg]
    exact gregs a ha ne
  have frameNo : (g.beforeChain s).frameNo = s.tickGenerator.frameNo := by
    rw [State.frameNo, sees.tick, hg]
    rfl
  have bcast : (g.beforeChain s).chain.bcast = s.chain.bcast := by
    rw [sees.bcast, hg]
    exact gbcast
  have low (p : Nat) (hp : p < 4) : (g.beforeChain s).low p = s.low p := by
    refine State.bit_congr (watch _ ?_ ?_) 1
    all_goals
      obtain rfl | rfl | rfl | rfl : p = 0 ∨ p = 1 ∨ p = 2 ∨ p = 3 := by omega
      all_goals decide
  have down : downPorts.filter (fun p => !(g.beforeChain s).low p) = downPorts.filter (fun p => !s.low p) := by
    simp only [downPorts, List.filter, low 1 (by decide), low 3 (by decide)]
  have upward : upPorts.filter (fun p => !(g.beforeChain s).low p) = upPorts.filter (fun p => !s.low p) := by
    simp only [upPorts, List.filter, low 0 (by decide), low 2 (by decide)]
  have mode : (g.beforeChain s).mode = s.mode := State.fld_congr (watch _ (by decide) (by decide)) _ _
  refine ⟨fun q hq clocked free => ?_, fun r hr run free clocked leads plain => ?_, fun head run => ?_, fun k hk en run clocked full => ?_⟩
  · rw [State.queue_congr tqs]
    exact queues clocked free q hq
  · have starts : (g.queuesDone s).tickPlans = (g.queuesDone s).startSchedules := by
      rw [State.tickPlans, up, planDue, if_neg]
      obtain h | h := plain <;> simp [h]
    have leads' : (g.queuesDone s).leads r = true := by
      rw [State.leads, State.coupled_congr qtf stand]
      exact leads
    obtain ⟨active, pends, waits⟩ := State.startSchedules_restarts hr ((stand r).schedRun.trans run) ((stand r).held.trans free) (by rw [qclk, clocked]) leads'
    have ctx : (g.queuesDone s).stepCtx r 0 = s.stepCtx r 0 := State.stepCtx_congr (regs _ _) (regs _ _)
    rw [ctx, (stand r).active, State.canEnter_congr qtf stand (s.stepCtx_lt r 0)] at pends waits
    rw [← starts] at active pends waits
    have status := treg r 0
    have step : s.tickEdge.stepNo r = (g.queuesDone s).tickPlans.stepNo r := State.fld_congr status 8 4
    refine ⟨(State.fld_congr status 0 3).trans (active.trans (stand r).active), fun new can => ?_, fun none_ => ?_⟩
    · obtain ⟨pend, target, cls, no, due⟩ := pends new can
      rw [tregion, tick]
      exact ⟨(State.bit_congr status 3).trans pend, (State.fld_congr status 4 3).trans target, cls, no, by rw [due, qtick]⟩
    · rw [tregion, step, ← show (g.queuesDone s).stepNo r = s.stepNo r from State.fld_congr (regs r 0) 8 4]
      exact waits none_
  · have here := sof ((State.bit_congr (watch _ (by decide) (by decide)) 25).trans head) (mode.trans run)
    rw [down, bcast, State.superStart, frameNo] at here
    rw [sent, tiers]
    exact List.mem_append_left _ here
  · have side : ZV k 0x40 ∈ tickWatched ∧ ZV k 0x40 ≠ CK 0x80C := by
      obtain rfl | rfl : k = 0 ∨ k = 1 := by omega
      · decide
      · decide
    have size : (g.beforeChain s).xS k = s.xS k := State.fld_congr (watch _ side.1 side.2) _ _
    have gside' : g.side k = s.side k := by
      rw [hg]
      exact gside k
    have bclk : (g.beforeChain s).clk = s.clk := by
      rw [sees.clk, hg]
      exact gclk
    have cap : ((g.beforeChain s).side k).cap = (s.side k).cap := by rw [(sees.side k).1, gside']
    have here := xch k hk ((State.bit_congr (watch _ side.1 side.2) 0).trans en) (mode.trans run) (by rw [bclk, clocked]) (by rw [cap, size, full])
    have ports : (if k = 0 then upPorts else downPorts).filter (fun p => !(g.beforeChain s).low p) = (if k = 0 then upPorts else downPorts).filter (fun p => !s.low p) := by
      split
      · exact upward
      · exact down
    have gsq' : g.sq = s.sq := by
      rw [hg]
      exact gsq
    have beached : (g.beforeChain s).beached = s.beached := State.bit_congr (watch _ (by decide) (by decide)) 26
    have aligned : (g.beforeChain s).bit (CK 0x80C) 2 = s.tickGenerator.bit (CK 0x80C) 2 := by
      refine State.bit_congr ((sees.regs _ (by decide)).trans ?_) 2
      rw [hg]
      rfl
    have gheld (r : Nat) : (g.region r).held = (s.region r).held := by
      rw [hg]
      exact (congrArg Region.held (gsettled r) :)
    have held : (g.beforeChain s).sideHeld k = s.sideHeld k := by simp only [State.sideHeld, sees.held, gheld]
    have done : (g.beforeChain s).tickStepDone = s.tickStepDone := by simp only [State.tickStepDone, sees.steps, sees.slot, gsq']
    have pDiff : (g.beforeChain s).chain.pDiff = s.chain.pDiff := by
      rw [sees.pDiff, hg]
      exact gpDiff
    have valid : (g.beforeChain s).contributes (s.tick.ext ≠ 0) k = true ↔ s.tick.ext = 0 ∧ s.beached = false ∧ s.tickGenerator.bit (CK 0x80C) 2 = true ∧
        (s.side k).heldSeen = false ∧ s.sideHeld k = false ∧ s.tickStepDone = true ∧ s.chain.pDiff = false := by
      rw [State.contributes, beached, aligned, (sees.side k).2, gside', held, done, pDiff]
      simp [and_assoc]
    rw [ports, cap] at here
    refine ⟨_, by rw [sent, tiers]; exact List.mem_append_left _ here, ?_, ?_, ?_⟩
    · have := Bool.toNat_le ((g.beforeChain s).contributes (s.tick.ext ≠ 0) k)
      omega
    · omega
    · rw [← valid]
      cases (g.beforeChain s).contributes (s.tick.ext ≠ 0) k with
      | false =>
        simp only [Bool.toNat_false, Bool.false_eq_true, iff_false]
        omega
      | true =>
        simp only [Bool.toNat_true, iff_true]
        omega

/-- Settles O31: the generator's tick, and then each tier's own step. -/
theorem tickCommand : Obligations.TickCommand := by
  refine ⟨fun s => completes_intro rfl s.tickEdge_keeps, fun s => ?_, fun s self u hu => completes_intro rfl ?_⟩
  · obtain ⟨count, ext, number, time, _, hl, src, p, w⟩ := s.tickGenerator_numbers
    obtain ⟨len, P, P', W, W', S, S', preset, jumped, realigned, lock, fresh, free, still, _⟩ := s.tickGenerator_registers
    obtain ⟨region, chain, calib⟩ := s.tickGenerator_regions
    obtain ⟨next, next1, next2, next3⟩ := s.nextFrame_shows
    refine ⟨count, ext, len, time, fun v h => ⟨number.trans (next v h), preset (.inr (by simp [h]))⟩, fun h k => ⟨by rw [number, next1 h k], preset (.inl k)⟩,
      fun h k j hj => ⟨number.trans (next2 h k j hj).1, jumped (next2 h k j hj).2⟩, fun h k hj z => ?_, fun h k hj z => ?_, fun h => ?_, fun v h => ?_,
      fun v h => State.presetDue_accepted h, src, p, w, P, P', W, W', S, S', realigned, lock, fresh, free, still, s.tickGenerator_frame, region, chain, calib⟩
    · rw [number, next3 h k hj, if_pos z, Nat.zero_mod]
    · rw [number, next3 h k hj, z, if_neg Bool.false_ne_true, Nat.mod_mod]
    · rw [hl, State.leftChanges, if_pos h]
    · rw [hl, State.leftChanges, if_neg (by simp [h])]
  · subst hu
    exact State.tickEdge_tiers self

end Sys2Proof.Machine
end

section
/-! Accepted changes at their target tick (spec/02 R56, R57). -/
namespace Sys2Proof.Machine

/-! ## The order of commitment -/

theorem commitOrder_one (f : Nat) (a : Accepted) : commitOrder f [a] = [a] := rfl

theorem subFrame_lt (a b : Nat) : subFrame a b < 2 ^ 48 := Nat.mod_lt _ (by decide)

theorem sortDue_two {α : Type} (due : α → Nat) (a b : α) : sortDue due [a, b] = if due b < due a then [b, a] else [a, b] := rfl

theorem commitOrder_two (f : Nat) (a b : Accepted) : commitOrder f [a, b] =
    if subFrame f b.target ≤ subFrame f a.target then [a, b] else [b, a] := by
  have ha := subFrame_lt f a.target
  have hb := subFrame_lt f b.target
  rw [commitOrder, sortDue_two]
  generalize subFrame f a.target = x at *
  generalize subFrame f b.target = y at *
  generalize 2 ^ 48 = m at *
  by_cases h : y ≤ x
  · rw [if_pos h, if_neg (by omega)]
  · rw [if_neg h, if_pos (by omega)]

/-! ## TARGET_TICK_COMMIT while Headland is up -/

/-- The changes whose target has not come wait on. -/
def State.left (s : State) : State := { s with hl := { s.hl with changes := s.hl.changes.filter (fun a => !a.dueAt s.frameNo) } }

/-- The changes `go` commit, then schedules and restarts begin. -/
def State.commitAll (s : State) (plan : Bool) (go : List Accepted) : State :=
  let t := go.foldl State.commitChange s
  go.foldl State.finishChange (if plan then t.startSchedules else t)

/-- The changes whose target has come are taken out of the list, those that are `lost` noted. -/
def State.drawOff (s : State) (lost : List Accepted) : State := { s with hl := { s.hl with
  changes := s.hl.changes.filter (fun a => !a.dueAt s.frameNo)
  discarded := s.hl.discarded ++ lost.map (fun a => (a.mb, a.tag))
  nDiscarded := s.hl.nDiscarded + lost.length } }

theorem State.drawOff_nil (s : State) : s.drawOff [] = s.left := by
  rw [State.drawOff, List.map_nil, List.append_nil]
  rfl

theorem State.targetCommit_eq (s : State) : s.targetCommit = if s.tick.count ≠ 0 then s else
    (s.drawOff (if s.hl.up then [] else (commitOrder s.frameNo (s.hl.changes.filter (fun a => a.dueAt s.frameNo))).filter (fun a => !a.hardware))).commitAll
      (s.hl.up && s.planDue) (if s.hl.up then commitOrder s.frameNo (s.hl.changes.filter (fun a => a.dueAt s.frameNo))
        else (commitOrder s.frameNo (s.hl.changes.filter (fun a => a.dueAt s.frameNo))).filter Accepted.hardware) := rfl

theorem State.targetCommit_up {s : State} (edge : s.tick.count = 0) (up : s.hl.up = true) : s.targetCommit =
    s.left.commitAll s.planDue (commitOrder s.frameNo (s.hl.changes.filter (fun a => a.dueAt s.frameNo))) := by
  rw [State.targetCommit_eq, if_neg (by simp [edge]), if_pos up, if_pos up, up, Bool.true_and, State.drawOff_nil]

/-- The state with the list of accepted changes `l`. -/
def State.withChanges (s : State) (l : List Accepted) : State := { s with hl := { s.hl with changes := l } }

theorem State.withChanges_self (s : State) : s.withChanges s.hl.changes = s := rfl

/-- Is the change one of the plan of swaps? -/
def Change.plans : Change → Bool
  | .sched _ => true
  | .wave _ => true
  | .tickP _ => true
  | _ => false

theorem State.planDue_eq (s : State) : s.planDue = s.hl.changes.any (fun a => a.dueAt s.frameNo && a.what.plans) := by
  unfold State.planDue Change.plans
  rfl

/-- One change that is due commits alone. -/
theorem State.targetCommit_one {s : State} {a : Accepted} (edge : s.tick.count = 0) (up : s.hl.up = true) (one : s.hl.changes = [a])
    (due : a.dueAt s.frameNo = true) : s.targetCommit = (s.withChanges []).commitAll a.what.plans [a] := by
  have left : s.left = s.withChanges [] := by
    rw [State.left, State.withChanges, one, List.filter_cons_of_neg (by simp [due]), List.filter_nil]
  have plan : s.planDue = a.what.plans := by
    rw [State.planDue_eq, one]
    simp [due]
  rw [State.targetCommit_up edge up, left, plan, one, List.filter_cons_of_pos (p := fun a => Accepted.dueAt a s.frameNo) due, List.filter_nil, commitOrder_one]

/-- Nothing that is due: nothing happens. -/
theorem State.targetCommit_none {s : State} {a : Accepted} (edge : s.tick.count = 0) (up : s.hl.up = true) (one : s.hl.changes = [a])
    (wait : a.dueAt s.frameNo = false) : s.targetCommit = s := by
  have left : s.left = s.withChanges [a] := by
    rw [State.left, State.withChanges, one, List.filter_cons_of_pos (by simp [wait]), List.filter_nil]
  have plan : s.planDue = false := by
    rw [State.planDue_eq, one]
    simp [wait]
  rw [State.targetCommit_up edge up, left, plan, one, List.filter_cons_of_neg (by simp [wait]), List.filter_nil, ← one]
  rfl

/-- Two changes that are due commit in the order of their targets. -/
theorem State.targetCommit_two {s : State} {a b : Accepted} (edge : s.tick.count = 0) (up : s.hl.up = true) (two : s.hl.changes = [a, b])
    (da : a.dueAt s.frameNo = true) (db : b.dueAt s.frameNo = true) : s.targetCommit = (s.withChanges []).commitAll (a.what.plans || b.what.plans)
      (if subFrame s.frameNo b.target ≤ subFrame s.frameNo a.target then [a, b] else [b, a]) := by
  have left : s.left = s.withChanges [] := by
    rw [State.left, State.withChanges, two, List.filter_cons_of_neg (by simp [da]), List.filter_cons_of_neg (by simp [db]), List.filter_nil]
  have plan : s.planDue = (a.what.plans || b.what.plans) := by
    rw [State.planDue_eq, two]
    simp [da, db]
  rw [State.targetCommit_up edge up, left, plan, two, List.filter_cons_of_pos (p := fun a => Accepted.dueAt a s.frameNo) da, List.filter_cons_of_pos (p := fun a => Accepted.dueAt a s.frameNo) db, List.filter_nil, commitOrder_two]

/-- Of two changes one that is due commits, the other waits on. -/
theorem State.targetCommit_first {s : State} {a b : Accepted} (edge : s.tick.count = 0) (up : s.hl.up = true) (two : s.hl.changes = [a, b])
    (da : a.dueAt s.frameNo = true) (db : b.dueAt s.frameNo = false) : s.targetCommit = (s.withChanges [b]).commitAll a.what.plans [a] := by
  have left : s.left = s.withChanges [b] := by
    rw [State.left, State.withChanges, two, List.filter_cons_of_neg (by simp [da]), List.filter_cons_of_pos (by simp [db]), List.filter_nil]
  have plan : s.planDue = a.what.plans := by
    rw [State.planDue_eq, two]
    simp [da, db]
  rw [State.targetCommit_up edge up, left, plan, two, List.filter_cons_of_pos (p := fun a => Accepted.dueAt a s.frameNo) da, List.filter_cons_of_neg (by simp [db]), List.filter_nil, commitOrder_one]

/-- A change of Headland's that falls into a restart is discarded (R356). -/
theorem State.targetCommit_lost {s : State} {a : Accepted} (edge : s.tick.count = 0) (down : s.hl.up = false) (one : s.hl.changes = [a])
    (due : a.dueAt s.frameNo = true) (soft : a.hardware = false) : s.targetCommit = { s with hl := { s.hl with
      changes := [], discarded := s.hl.discarded ++ [(a.mb, a.tag)], nDiscarded := s.hl.nDiscarded + 1 } } := by
  have order : commitOrder s.frameNo (s.hl.changes.filter (fun a => a.dueAt s.frameNo)) = [a] := by
    rw [one, List.filter_cons_of_pos (p := fun a => Accepted.dueAt a s.frameNo) due, List.filter_nil, commitOrder_one]
  have rest : s.hl.changes.filter (fun a => !a.dueAt s.frameNo) = [] := by
    rw [one, List.filter_cons_of_neg (by simp [due]), List.filter_nil]
  rw [State.targetCommit_eq, if_neg (by simp [edge]), order, down, Bool.false_and, if_neg Bool.false_ne_true, if_neg Bool.false_ne_true,
    List.filter_cons_of_pos (by simp [soft]), List.filter_nil, List.filter_cons_of_neg (by simp [soft]), List.filter_nil, State.drawOff, rest]
  rfl

/-! ## What committing a change leaves -/

/-- Headland's state but for what is latched. -/
def State.latchesOnly (s t : State) : Prop := t.hl = { s.hl with latches := t.hl.latches }

theorem State.latchesOnly_of {s t : State} (h : t.hl = s.hl) : s.latchesOnly t := by rw [State.latchesOnly, h]

theorem State.latchesOnly.trans {s t u : State} (h : s.latchesOnly t) (g : t.latchesOnly u) : s.latchesOnly u := by
  rw [State.latchesOnly] at *
  rw [g, h]

theorem State.latchesOnly_ite {s t u : State} (c : Prop) [Decidable c] (h : s.latchesOnly t) (g : s.latchesOnly u) : s.latchesOnly (if c then t else u) := by
  split
  · exact h
  · exact g

/-- Parts that a change may change at its target tick. -/
def commitParts : List Part := [.csr, .clk, .lane, .hl, .qs, .rg, .sq, .probe, .chain, .net, .tick, .ld, .free]

/-- A step of TARGET_TICK_COMMIT: the accepted changes, the cycle count and the frame number stand. -/
structure State.commits (s t : State) : Prop where
  frame : s.changes commitParts t
  hl : s.latchesOnly t
  count : t.tick.count = s.tick.count
  number : t.tick.frame = s.tick.frame

theorem State.commits.trans {s t u : State} (h : s.commits t) (g : t.commits u) : s.commits u :=
  ⟨h.frame.trans g.frame, h.hl.trans g.hl, g.count.trans h.count, g.number.trans h.number⟩

theorem State.commits_of {s t : State} {l : List Part} (h : s.changes l t) (sub : l ⊆ [.csr, .clk, .lane, .qs, .rg, .probe, .net]) : s.commits t := by
  have wide := h.mono sub
  have tick : t.tick = s.tick := wide.same .tick (by decide)
  exact ⟨wide.mono (by decide), State.latchesOnly_of (wide.same .hl (by decide)), by rw [tick], by rw [tick]⟩

theorem State.commits_refl (s : State) : s.commits s := State.commits_of (s.changes_refl []) (by decide)

theorem State.commits_latch {s t : State} {l : List Part} (h : s.changes l t) (sub : l ⊆ [.csr, .clk, .lane, .qs, .rg, .probe, .net, .hl]) (hl : s.latchesOnly t) :
    s.commits t := by
  have wide := h.mono sub
  have tick : t.tick = s.tick := wide.same .tick (by decide)
  exact ⟨wide.mono (by decide), hl, by rw [tick], by rw [tick]⟩

theorem State.tickStep.commits {s t : State} (h : s.tickStep t) : s.commits t := by
  have tick : t.tick = s.tick := h.frame.same .tick (by decide)
  exact ⟨h.frame.mono (by decide), h.hl, by rw [tick], by rw [tick]⟩

theorem State.commits.changes_eq {s t : State} (h : s.commits t) : t.hl.changes = s.hl.changes := by rw [h.hl]
theorem State.commits.up {s t : State} (h : s.commits t) : t.hl.up = s.hl.up := by rw [h.hl]
theorem State.commits.frameNo {s t : State} (h : s.commits t) : t.frameNo = s.frameNo := congrArg BitVec.toNat h.number

/-! ### Tables -/

theorem State.setTable_within (s : State) (r : Nat) (x : List Word) : s.within (s.setTable r x) [r] [4, 8, 0x20, 0x24, 0x28, 0x2C, 0x30, 0x34, 0x38, 0x3C] := by
  have one (t : State) (o v : Nat) (os : List Nat) (ho : o ∈ os) : t.within (t.setReg (RG r o) v) [r] os :=
    ⟨by simp, fun _ _ => rfl, fun a h => t.reg_setReg_ne _ _ _ (h r (by simp) o ho)⟩
  exact (((((((((one s 4 _ _ (by decide)).trans (one _ 8 _ _ (by decide))).trans (one _ 0x20 _ _ (by decide))).trans (one _ 0x24 _ _ (by decide))).trans
    (one _ 0x28 _ _ (by decide))).trans (one _ 0x2C _ _ (by decide))).trans (one _ 0x30 _ _ (by decide))).trans (one _ 0x34 _ _ (by decide))).trans
    (one _ 0x38 _ _ (by decide))).trans (one _ 0x3C _ _ (by decide))

theorem State.clearSwapCounts_within (s : State) (r : Nat) : s.within (s.clearSwapCounts r) [r] [0x0C, 0x10, 0x14] := by
  have one (t : State) (o v : Nat) (os : List Nat) (ho : o ∈ os) : t.within (t.setReg (RG r o) v) [r] os :=
    ⟨by simp, fun _ _ => rfl, fun a h => t.reg_setReg_ne _ _ _ (h r (by simp) o ho)⟩
  exact ((one s 0x0C 0 _ (by decide)).trans (one _ 0x10 0 _ (by decide))).trans ((State.within_setFld _ r 0x14 16 13 0).mono (by simp) (by decide))

theorem State.putTables_changes (s : State) (l : List (Nat × List Word)) : s.changes [.csr] (s.putTables l) := by
  have set (t : State) (x : Nat × List Word) : t.changes [.csr] (t.setTable x.1 x.2) :=
    (State.changes_forAll _ 8 _ t _ fun i u => by rfl).2 (by rfl)
  have clear (t : State) (r : Nat) : t.changes [.csr] (t.clearSwapCounts r) := rfl
  exact (State.changes_foldl set l s).trans (State.changes_foldl clear _ _)

/-! ### Queues -/

theorem State.drainWords_at (s : State) (q n : Nat) : s.latchesOnly (s.drainWords q n) := by
  rw [State.drainWords]
  refine State.latchesOnly.trans (State.latchesOnly_of ?_) (State.closeIfLow_at _ q).hl
  exact (State.updThrottle_shows _ q).2.2.2.same .hl (by decide)

theorem State.endRecord_latches (s : State) (q : Nat) : s.latchesOnly (s.endRecord q) := by
  rw [State.endRecord]
  extract_lets x
  split
  · exact State.latchesOnly_of rfl
  · next expired trunc _ =>
    split
    · exact State.latchesOnly_of rfl
    · extract_lets s1 s2
      have two : s2.hl = s.hl := by
        cases expired <;> cases trunc <;> rfl
      clear_value s2
      split
      · exact (State.latchesOnly_of two).trans (s2.drainWords_at q _)
      · obtain ⟨_, _, _, _, _, frame⟩ := (s2.drainWords q _).queueRecords_shows q
        exact ((State.latchesOnly_of two).trans (s2.drainWords_at q _)).trans (State.latchesOnly_of (frame.same .hl (by decide)))
      · exact State.latchesOnly_of two

theorem State.endRecord_commits (s : State) (q : Nat) : s.commits (s.endRecord q) :=
  State.commits_latch (s.endRecord_leaves q).1.2 (by decide) (s.endRecord_latches q)

theorem State.clearQueue_commits (s : State) (q : Nat) : s.commits (s.clearQueue q) := by
  obtain ⟨_, _, _, _, _, frame, _⟩ := s.clearQueue_shows q
  exact (s.endRecord_commits q).trans (State.commits_of frame (by decide))

/-- The descriptor `d` stands at queue `q`. -/
def State.withDesc (s : State) (q d : Nat) : State := s.setQueue q { s.queue q with desc := BitVec.ofNat 160 d }

theorem State.withDesc_shows (s : State) (q d : Nat) : s.changes [.qs] (s.withDesc q d) ∧ (∀ k, k ≠ q → (s.withDesc q d).queue k = s.queue k) ∧
    ((s.withDesc q d).queue q).desc = BitVec.ofNat 160 d :=
  ⟨rfl, fun _ h => State.queue_setQueue_ne _ _ _ _ h, by rw [State.withDesc, State.queue_setQueue_same]⟩

theorem State.applyDesc_eq (s : State) (q d : Nat) : s.applyDesc q d = if descFixed ((s.endRecord q).desc q) = descFixed d then
    ((s.endRecord q).withDesc q d).updThrottle q else ((s.endRecord q).withDesc q d).clearQueue q := rfl

/-- A descriptor comes into force. -/
theorem State.applyDesc_shows (s : State) (q d : Nat) : s.commits (s.applyDesc q d) ∧ (∀ k, k ≠ q → (s.applyDesc q d).queue k = s.queue k) ∧
    ((s.applyDesc q d).queue q).desc = BitVec.ofNat 160 d := by
  have ended := s.endRecord_commits q
  obtain ⟨⟨own, _⟩, _⟩ := s.endRecord_leaves q
  rw [State.applyDesc_eq]
  obtain ⟨set, left, desc⟩ := (s.endRecord q).withDesc_shows q d
  have started := ended.trans (State.commits_of set (by decide))
  have others (k : Nat) (h : k ≠ q) : ((s.endRecord q).withDesc q d).queue k = s.queue k := (left k h).trans (own k h)
  generalize (s.endRecord q).withDesc q d = t at *
  split
  · obtain ⟨body, _, other, frame⟩ := t.updThrottle_shows q
    have kept : ((t.updThrottle q).queue q).body.desc = (t.queue q).body.desc := congrArg Queue.desc body
    exact ⟨started.trans (State.commits_of frame (by decide)), fun k h => (other k h).trans (others k h), kept.trans desc⟩
  · obtain ⟨other, empties, _⟩ := t.clearQueue_shows q
    exact ⟨started.trans (t.clearQueue_commits q), fun k h => (other k h).trans (others k h), empties.2.1.trans desc⟩

theorem State.flipHalf_shows (s : State) (q : Nat) : s.changes [.qs] (s.flipHalf q) ∧ (∀ k, k ≠ q → (s.flipHalf q).queue k = s.queue k) ∧
    ((s.flipHalf q).queue q).half = if dDouble (s.desc q) then 1 - (s.queue q).half else (s.queue q).half := by
  rw [State.flipHalf]
  split
  · exact ⟨rfl, fun k h => State.queue_setQueue_ne _ _ _ _ h, by rw [State.queue_setQueue_same]⟩
  · exact ⟨s.changes_refl _, fun _ _ => rfl, rfl⟩

/-! ### The generator -/

theorem State.putP_commits (s : State) (p : Nat) : s.commits (s.putP p) :=
  (((State.commits_of (l := [.csr]) (by rfl) (by decide)).trans (State.checkSide_step _ p 0).commits)).trans (State.checkSide_step _ p 1).commits

/-- A setting of CK_TICK_CTRL comes into force. -/
theorem State.commitTickCtrl_shows (s : State) (v : Nat) : let t := (s.writeTickCtrl v).applyPending
    s.commits t ∧ s.changes [.csr, .tick, .chain] t ∧ { t.chain with calib := s.chain.calib } = s.chain ∧ (bits v 0 2 ≤ 2 → t.src = bits v 0 2) := by
  intro t
  obtain ⟨_, tick, _, _, _, frame⟩ := s.writeTickCtrl_shows v
  obtain ⟨frame', tick', chain, _, _, _, _, _, src, _⟩ := (s.writeTickCtrl v).applyPending_shows
  have whole : s.changes [.csr, .tick, .chain] t := (frame.mono (by decide)).trans frame'
  have chain_ : (s.writeTickCtrl v).chain = s.chain := frame.same .chain (by decide)
  have hl : t.hl = s.hl := whole.same .hl (by decide)
  refine ⟨⟨whole.mono (by decide), State.latchesOnly_of hl, by rw [tick', tick], by rw [tick', tick]⟩, whole, by rw [← chain_]; exact chain, fun le => ?_⟩
  have pend : (s.writeTickCtrl v).tick.pendSrc = some (bits v 0 2) := by
    rw [tick]
    exact if_neg (by omega)
  rw [src _ pend]
  omega

/-! ### Clock settings -/

theorem State.forceMux_latches (s : State) (c : Nat) : s.latchesOnly (s.forceMux c) := rfl

theorem State.rampEnd_hl (s : State) (n : Nat) : (s.rampEnd n).hl = s.hl := by
  rw [State.rampEnd]
  split
  · rfl
  · rfl

theorem State.rampSwitch_latches (s : State) (n : Nat) : s.latchesOnly (s.rampSwitch n) := by
  rw [State.rampSwitch_eq]
  extract_lets src d was u g v
  have forced : s.latchesOnly u := State.latchesOnly_ite _ (s.forceMux_latches _) (State.latchesOnly_of rfl)
  have set : s.latchesOnly v := forced.trans (State.latchesOnly_of rfl)
  exact State.latchesOnly_ite _ (set.trans (State.latchesOnly_of (v.rampEnd_hl n))) set

theorem State.rampGo_latches (s : State) (n : Nat) : s.latchesOnly (s.rampGo n) := by
  rw [State.rampGo]
  dsimp only
  refine State.latchesOnly_ite _ (State.latchesOnly_ite _ (State.latchesOnly_of (s.rampEnd_hl n)) (State.latchesOnly_of rfl))
    (State.latchesOnly_ite _ ?_ (State.latchesOnly_of rfl))
  rw [State.rampTurn]
  exact State.latchesOnly_ite _ (s.rampSwitch_latches n) (State.latchesOnly_of rfl)

theorem State.rampNow_commits (s : State) (n : Nat) : s.commits (s.rampNow n) := by
  have set : s.latchesOnly ((s.setGck n { s.gckOf n with viaBoot := false }).setRamping n true) := State.latchesOnly_of rfl
  exact State.commits_latch (l := clockParts) (by simp [State.rampNow, State.setRamping, clockParts]) (by decide) (set.trans (State.rampGo_latches _ n))

theorem State.failover_commits (s : State) : s.commits s.failover := by
  have one (t : State) (c : Nat) : t.latchesOnly (t.failoverOf c) := by
    rw [State.failoverOf]
    refine State.latchesOnly_ite _ ?_ (State.latchesOnly_of rfl)
    exact State.latchesOnly_ite _ (State.latchesOnly.trans (State.latchesOnly_of rfl) (State.forceMux_latches _ c)) (State.latchesOnly_of rfl)
  exact State.commits_latch (l := clockParts) (by simp) (by decide) ((one s 2).trans (one _ 3))

theorem State.writeClock_commits (s : State) (off v : Nat) : s.commits (s.writeClock off v) := by
  rw [State.writeClock]
  generalize applyWrite ((ckFields off).getD []) (s.reg (CK off)) v = new
  have set : s.commits (s.setReg (CK off) new) := State.commits_of (l := [.csr]) rfl (by decide)
  generalize s.setReg (CK off) new = t at *
  split
  · exact set
  · split
    · split
      · exact set
      · exact set.trans (t.rampNow_commits _)
    · split
      · next n _ => exact set.trans (State.commits_of (l := [.csr, .clk]) (by simp) (by decide))
      · split
        · exact set.trans (State.commits_of (l := [.csr]) (by simp) (by decide))
        · exact (set.trans (State.commits_of (l := [.csr]) (by simp) (by decide))).trans (State.failover_commits _)

/-! ### Every change -/

theorem State.commandRelease_changes (s : State) (a : Accepted) (r : Nat) : s.changes [.rg] (s.commandRelease a r) := by
  rw [State.commandRelease]
  dsimp only
  split
  · exact s.changes_refl _
  · exact State.changes_foldl (fun t k => by simp) _ s

theorem State.soundingStart_changes (s : State) (frames : Nat) : s.changes [.csr, .probe] (s.soundingStart frames) := by
  rw [State.soundingStart]
  dsimp only
  split
  · exact s.changes_refl _
  · split
    · rfl
    · rfl

/-- A change at its target tick leaves the changes that wait, the cycle count and the frame number. -/
theorem State.commitChange_commits (s : State) (a : Accepted) : s.commits (s.commitChange a) := by
  rw [State.commitChange]
  cases a.what with
  | sched l => exact State.commits_of (s.putTables_changes l) (by decide)
  | qdesc q d => exact (s.applyDesc_shows q d.toNat).1
  | lutSwap q => exact State.commits_of (s.flipHalf_shows q).1 (by decide)
  | tickP p => exact s.putP_commits p
  | tickCtrl v => exact (s.commitTickCtrl_shows v).1
  | preset f => exact s.commits_refl
  | wave w => exact State.commits_of (l := [.csr]) rfl (by decide)
  | power m => exact (s.powerCommit_step m).commits
  | clockSet off v => exact s.writeClock_commits off v
  | release r => exact State.commits_of (s.commandRelease_changes a r) (by decide)
  | arm frames => exact State.commits_of (s.soundingStart_changes frames) (by decide)
  | activate slot => exact s.commits_refl

theorem State.startSchedules_commits (s : State) : s.commits s.startSchedules := State.commits_of s.startSchedules_keeps.1 (by decide)

end Sys2Proof.Machine
end

section
/-! What each accepted change does at its target tick (spec/02 R56, R57; spec/05, 09, 15, 17). -/
namespace Sys2Proof.Machine

/-! ## One change -/

theorem State.commitAll_one (s : State) (plan : Bool) (a : Accepted) : s.commitAll plan [a] =
    (if plan then (s.commitChange a).startSchedules else s.commitChange a).finishChange a := rfl

theorem State.startSchedules_reg (s : State) {a : Nat} (h : ∀ r o, a ≠ RG r o) : s.startSchedules.reg a = s.reg a :=
  s.startSchedules_keeps.2.2 a fun r _ o _ => h r o

theorem CK_ne_RG {k : Nat} (h : k < 0x1000) (r o : Nat) : CK k ≠ RG r o := by
  unfold CK RG
  omega

/-- The plan's lengths: P and W. -/
theorem State.startSchedules_plan (s : State) : s.startSchedules.P = s.P ∧ s.startSchedules.wMax = s.wMax ∧ s.startSchedules.tick = s.tick :=
  ⟨State.fld_congr (s.startSchedules_reg (CK_ne_RG (by decide))) _ _, State.fld_congr (s.startSchedules_reg (CK_ne_RG (by decide))) _ _,
    s.startSchedules_keeps.1.same .tick (by decide)⟩

theorem State.putP_shows (s : State) (p : Nat) : (s.putP p).P = p % 2 ^ 13 ∧ (s.putP p).wMax = s.wMax ∧ (s.putP p).tick = s.tick := by
  have sides : (s.setFld (CK 0x804) 0 13 p).changes [.chain, .hl] (s.putP p) := by simp [State.putP]
  have csr : (s.putP p).csr = (s.setFld (CK 0x804) 0 13 p).csr := sides.same .csr (by decide)
  refine ⟨(State.fld_congr (State.reg_congr csr _) _ _).trans (State.fld_setFld_same _ _ _ (by decide)), ?_, sides.same .tick (by decide)⟩
  exact (State.fld_congr (State.reg_congr csr _) _ _).trans (State.fld_congr (State.reg_setFld_ne _ _ _ _ _ _ (by decide)) _ _)

theorem State.putW_shows (s : State) (w : Nat) : (s.setFld (CK 0x830) 0 7 w).P = s.P ∧ (s.setFld (CK 0x830) 0 7 w).wMax = w % 2 ^ 7 ∧
    (s.setFld (CK 0x830) 0 7 w).tick = s.tick :=
  ⟨State.fld_congr (State.reg_setFld_ne _ _ _ _ _ _ (by decide)) _ _, State.fld_setFld_same _ _ _ (by decide), rfl⟩

/-! ### A schedule (R139) -/

/-- The offsets of a schedule's table. -/
def tableOffsets : List Nat := [4, 8, 0x20, 0x24, 0x28, 0x2C, 0x30, 0x34, 0x38, 0x3C]

theorem tableOffsets_small : ∀ o ∈ tableOffsets, o < 0x100 := by decide

/-- No schedule table differs. -/
def State.sameTables (s t : State) : Prop := ∀ k o, o ∈ tableOffsets → t.reg (RG k o) = s.reg (RG k o)

theorem State.sameTables.trans {s t u : State} (h : s.sameTables t) (g : t.sameTables u) : s.sameTables u := fun k o ho => (g k o ho).trans (h k o ho)

theorem State.sameTables_of {s t : State} (h : t.csr = s.csr) : s.sameTables t := fun _ _ _ => State.reg_congr h _

theorem State.within.sameTables {s t : State} {l os : List Nat} (h : s.within t l os) (sub : os ⊆ [0, 0x0C, 0x10, 0x14]) : s.sameTables t := by
  intro k o ho
  refine (h.mono (List.Subset.refl _) sub).offset (by decide) ?_ ?_
  · revert o
    decide
  · revert o
    decide

theorem State.sameTables.table {s t : State} (h : s.sameTables t) (k : Nat) : t.table k = s.table k := by
  have entry (i : Nat) (hi : i < 8) : t.reg (RG k (0x20 + 4 * i)) = s.reg (RG k (0x20 + 4 * i)) := h k _ (by
    revert i
    decide)
  rw [State.table, State.table, h k 4 (by decide), h k 8 (by decide)]
  exact congrArg _ (List.map_congr_left fun i hi => by rw [entry i (List.mem_range.mp hi)])

theorem State.startSchedules_tables (s : State) : s.sameTables s.startSchedules := by
  have apart : ∀ p ∈ [0, 0x10, 0x14], p < 0x100 ∧ p ∉ tableOffsets := by decide
  refine fun k o ho => s.startSchedules_keeps.2.2 _ fun j _ p hp e => ?_
  obtain ⟨small, out⟩ := apart p hp
  exact out (((RG_inj (tableOffsets_small o ho) small).mp e).2 ▸ ho)

/-- A table that is set reads back. -/
theorem State.setTable_table (s : State) {r : Nat} {x : List Word} (len : x.length = 10) : (s.setTable r x).table r = x ∧
    ∀ k, k ≠ r → (s.setTable r x).table k = s.table k := by
  have apart (k : Nat) (ne : k ≠ r) (o : Nat) (ho : o ∈ tableOffsets) : (s.setTable r x).reg (RG k o) = s.reg (RG k o) := by
    refine (s.setTable_within r x).regs _ fun j hj p hp e => ne ?_
    rw [← List.mem_singleton.mp hj]
    exact ((RG_inj (tableOffsets_small o ho) (tableOffsets_small p hp)).mp e).1
  refine ⟨?_, fun k ne => ?_⟩
  · have ten : x = (List.range 10).map (x.getD · 0) := List.ext_getElem (by simp [len]) fun i h _ => by simp [h]
    have ctrl : (s.setTable r x).reg (RG r 4) = (x.getD 0 0).toNat := by
      simp [State.setTable, forAll, List.range_succ, BitVec.isLt (w := 32)]
    have tgt : (s.setTable r x).reg (RG r 8) = (x.getD 1 0).toNat := by
      simp [State.setTable, forAll, List.range_succ, BitVec.isLt (w := 32)]
    have entry (i : Nat) (hi : i < 8) : (s.setTable r x).reg (RG r (0x20 + 4 * i)) = (x.getD (i + 2) 0).toNat := by
      interval_cases i <;> simp [State.setTable, forAll, List.range_succ, BitVec.isLt (w := 32)]
    conv_rhs => rw [ten]
    rw [State.table, ctrl, tgt, List.map_congr_left fun i hi => by rw [entry i (List.mem_range.mp hi)]]
    simp [List.range_succ]
  · have entry (i : Nat) (hi : i < 8) : (s.setTable r x).reg (RG k (0x20 + 4 * i)) = s.reg (RG k (0x20 + 4 * i)) := apart k ne _ (by
      revert i
      decide)
    rw [State.table, State.table, apart k ne 4 (by decide), apart k ne 8 (by decide)]
    exact congrArg _ (List.map_congr_left fun i hi => by rw [entry i (List.mem_range.mp hi)])

/-- Step 0 of a named region, its swap pending or not, keeps tables, contexts and couplings. -/
theorem State.commandSwap_keeps (id : Nat) {s : State} {r : Nat} (leads : s.leads r = true) : s.sameTables (s.commandSwap id r) ∧
    (∀ k, s.stands (s.commandSwap id r) k) ∧ (s.commandSwap id r).fab = s.fab ∧ (s.commandSwap id r).hl = s.hl := by
  have start : s.sameTables (if s.schedRun r then s else s.startStep r 0 s.tick.cyc (s.tick.cyc + s.shift r 0) none) ∧
      (∀ k, s.stands (if s.schedRun r then s else s.startStep r 0 s.tick.cyc (s.tick.cyc + s.shift r 0) none) k) ∧
      s.changes [.csr, .rg] (if s.schedRun r then s else s.startStep r 0 s.tick.cyc (s.tick.cyc + s.shift r 0) none) := by
    split
    · exact ⟨fun _ _ _ => rfl, s.stands_refl, s.changes_refl _⟩
    · obtain ⟨only, stand⟩ := State.startStep_stands leads 0 s.tick.cyc (s.tick.cyc + s.shift r 0) none
      exact ⟨only.sameTables (by decide), stand, only.frame⟩
  rw [State.commandSwap]
  split
  · exact ⟨fun _ _ _ => rfl, s.stands_refl, rfl, rfl⟩
  · dsimp only
    generalize (if s.schedRun r then s else s.startStep r 0 s.tick.cyc (s.tick.cyc + s.shift r 0) none) = t at *
    obtain ⟨tables, stand, frame⟩ := start
    split
    · refine ⟨tables, fun k => (stand k).trans (State.stands_setRegion t ?_ ?_ k), frame.same .fab (by decide), frame.same .hl (by decide)⟩ <;> rfl
    · exact ⟨tables, stand, frame.same .fab (by decide), frame.same .hl (by decide)⟩

theorem State.commandSwaps_keeps (id : Nat) (l : List Nat) (s : State) (leads : ∀ r ∈ l, s.leads r = true) : s.sameTables (l.foldl (State.commandSwap id) s) ∧
    (l.foldl (State.commandSwap id) s).hl = s.hl := by
  induction l generalizing s with
  | nil => exact ⟨fun _ _ _ => rfl, rfl⟩
  | cons r l ih =>
    obtain ⟨tables, stand, fab, hl⟩ := State.commandSwap_keeps id (leads r (by simp))
    obtain ⟨tables', hl'⟩ := ih (s.commandSwap id r) fun k hk => by
      rw [State.leads, State.coupled_congr (by rw [fab]) stand]
      exact leads k (by simp [hk])
    exact ⟨tables.trans tables', hl'.trans hl⟩

/-- One schedule table is put into force. -/
theorem State.commitSched_shows {s : State} {a : Accepted} {r : Nat} {x : List Word} (what : a.what = .sched [(r, x)]) (len : x.length = 10) :
    (s.commitAll true [a]).hl.changes = s.hl.changes ∧ (s.commitAll true [a]).table r = x ∧ ∀ k, k ≠ r → (s.commitAll true [a]).table k = s.table k := by
  have change : s.commitChange a = ((s.setTable r x).pairOf r).foldl State.clearSwapCounts (s.setTable r x) := by
    simp only [State.commitChange, what, State.putTables, List.foldl_cons, List.foldl_nil, List.flatMap_cons, List.flatMap_nil, List.append_nil]
  have start := (s.commitChange_commits a).trans (State.startSchedules_commits _)
  have finish : s.commitAll true [a] = ((s.commitChange a).startSchedules).commandSwaps a [(r, x)] := by
    rw [State.commitAll_one, if_pos rfl, State.finishChange, what]
  have cleared := (State.within_foldl State.clearSwapCounts_within ((s.setTable r x).pairOf r) (s.setTable r x)).sameTables (by decide)
  have began := (s.commitChange a).startSchedules_tables
  rw [← change] at cleared
  have noted (t : State) : t.sameTables (t.commandSwaps a [(r, x)]) ∧ (t.commandSwaps a [(r, x)]).hl.changes = t.hl.changes := by
    rw [State.commandSwaps]
    dsimp only
    obtain ⟨tables, hl⟩ := State.commandSwaps_keeps t.hl.nextId ((List.range 96).filter fun k => t.leads k && [(r, x)].any fun y => (t.pairOf k).contains y.1)
      { t with hl := { t.hl with nextId := t.hl.nextId + 1, reports := t.hl.reports ++ [⟨t.hl.nextId, a.mb, a.tag, a.target, 0, 0, 0⟩] } } (fun k hk => by
        simp only [List.mem_filter, Bool.and_eq_true] at hk
        exact hk.2.1)
    exact ⟨tables, by rw [hl]⟩
  obtain ⟨tables, hl⟩ := noted (s.commitChange a).startSchedules
  have all := cleared.trans (began.trans tables)
  obtain ⟨set, others⟩ := s.setTable_table len
  rw [finish]
  exact ⟨hl.trans start.changes_eq, (all.table r).trans set, fun k ne => (all.table k).trans (others k ne)⟩

/-! ### A release (R289, R290) -/

theorem State.releaseGroup_nodup (s : State) (r : Nat) : (s.releaseGroup r).Nodup := List.nodup_range.filter _

/-- Region `k` as a release of `a` in cycle `c` of group `g` leaves it. -/
def Region.freed (x : Region) (a : Accepted) (c : Nat) (g : List Nat) : Region := { x with relMode := 0, relCyc := c, relMb := a.mb, relTag := a.tag, group := g }

theorem State.freeList_shows (a : Accepted) (c : Nat) (g l : List Nat) (nodup : l.Nodup) (s : State) :
    (∀ k ∈ l, (l.foldl (fun t k => t.setRegion k ((t.region k).freed a c g)) s).region k = (s.region k).freed a c g) ∧
    ∀ k, k ∉ l → (l.foldl (fun t k => t.setRegion k ((t.region k).freed a c g)) s).region k = s.region k := by
  induction l generalizing s with
  | nil => exact ⟨fun k hk => absurd hk List.not_mem_nil, fun _ _ => rfl⟩
  | cons r l ih =>
    obtain ⟨fresh, rest⟩ := List.nodup_cons.mp nodup
    obtain ⟨done, others⟩ := ih rest (s.setRegion r ((s.region r).freed a c g))
    have away (k : Nat) (ne : k ≠ r) : (s.setRegion r ((s.region r).freed a c g)).region k = s.region k := mget_mput_ne _ _ _ _ _ ne
    refine ⟨fun k hk => ?_, fun k hk => ?_⟩
    · by_cases e : k = r
      · subst e
        exact (others k fresh).trans (State.region_setRegion_same _ _ _)
      · exact (done k ((List.mem_cons.mp hk).resolve_left e)).trans (by rw [away k e])
    · obtain ⟨ne, out⟩ := not_or.mp (List.mem_cons.not.mp hk)
      exact (others k out).trans (away k ne)

theorem State.commandRelease_shows {s : State} {r : Nat} (a : Accepted) (all : s.groupReleasable r = true) :
    (∀ k ∈ s.releaseGroup r, (s.commandRelease a r).region k = (s.region k).freed a s.tick.cyc (s.releaseGroup r)) ∧
    ∀ k, k ∉ s.releaseGroup r → (s.commandRelease a r).region k = s.region k := by
  have run : s.commandRelease a r = (s.releaseGroup r).foldl (fun t k => t.setRegion k ((t.region k).freed a s.tick.cyc (s.releaseGroup r))) s := by
    rw [State.commandRelease, if_neg (by simp [all])]
    rfl
  rw [run]
  exact State.freeList_shows a s.tick.cyc _ _ (s.releaseGroup_nodup r) s

theorem State.commandRelease_refused {s : State} {r : Nat} (a : Accepted) (no : s.groupReleasable r = false) : s.commandRelease a r = s := by
  rw [State.commandRelease, if_pos (by simp [no])]

/-- A region whose release has been commanded in cycle 0 is due at this edge. -/
theorem State.releaseDue_freed {t : State} {k : Nat} {x : Region} {a : Accepted} {c : Nat} {g : List Nat} (region : t.region k = x.freed a c g) (held : x.held = true)
    (on : t.run.hold = false) (edge : t.tick.count = 0) (cyc : c ≤ t.tick.cyc) : t.releaseDue k = true := by
  rw [State.releaseDue, region]
  simp [Region.freed, held, on, edge, cyc]

/-! ### Power modes (R462) -/

theorem CK_ne_scrubReg (b : Nat) : CK 0x204 ≠ scrubReg b 0x800 := by
  unfold scrubReg CK QC
  omega

theorem State.scrubAll_mode (s : State) (on : Bool) : (s.scrubAll on).reg (CK 0x204) = s.reg (CK 0x204) :=
  forAll_leaves (fun t => t.reg (CK 0x204)) (f := fun b (t : State) => t.setBit (scrubReg b 0x800) 1 (on && s.run.configured && t.bit (scrubReg b 0x800) 0))
    (fun b t => t.reg_setBit_ne _ _ _ _ (CK_ne_scrubReg b)) 24 s

theorem State.stopAll_shows (s : State) : s.stopAll.reg (CK 0x204) = s.reg (CK 0x204) ∧ s.stopAll.clk = { s.clk with stopped := true } ∧ s.stopAll.chain = s.chain := by
  have frame : s.changes [.csr] (s.scrubAll false) := by simp
  have clk : (s.scrubAll false).clk = s.clk := frame.same .clk (by decide)
  have chain : (s.scrubAll false).chain = s.chain := frame.same .chain (by decide)
  have reg := s.scrubAll_mode false
  rw [State.stopAll]
  generalize s.scrubAll false = t at *
  exact ⟨reg, by rw [clk], chain⟩

theorem State.resumeAll_shows (s : State) : s.resumeAll.reg (CK 0x204) = s.reg (CK 0x204) ∧ s.resumeAll.clk = { s.clk with stopped := false } ∧ s.resumeAll.chain = s.chain := by
  have frame : s.changes [.csr] (s.scrubAll true) := by simp
  have clk : (s.scrubAll true).clk = s.clk := frame.same .clk (by decide)
  have chain : (s.scrubAll true).chain = s.chain := frame.same .chain (by decide)
  have reg := s.scrubAll_mode true
  have run : s.resumeAll = (forAll 384 (fun q t => t.restartHistory q) { s.scrubAll true with clk := { (s.scrubAll true).clk with stopped := false } }).startSchedules := rfl
  rw [run]
  generalize s.scrubAll true = t at *
  have history (u : State) : u.changes [.csr, .qs] (forAll 384 (fun q t => t.restartHistory q) u) ∧
      (forAll 384 (fun q t => t.restartHistory q) u).reg (CK 0x204) = u.reg (CK 0x204) :=
    ⟨(State.changes_forAll _ _ _ _ _ fun q t => (t.restartHistory_leaves q).2.1.mono (by decide)).2 (u.changes_refl _),
      forAll_leaves (fun t => t.reg (CK 0x204)) (f := fun q (t : State) => t.restartHistory q) (fun q t => (t.restartHistory_leaves q).2.2 _ (by
        unfold CK QC
        omega)) 384 u⟩
  obtain ⟨began, same⟩ := history { t with clk := { t.clk with stopped := false } }
  generalize forAll 384 (fun q t => t.restartHistory q) { t with clk := { t.clk with stopped := false } } = u at *
  have plans := u.startSchedules_keeps.1
  have clk1 : u.clk = { t.clk with stopped := false } := began.same .clk (by decide)
  have clk2 : u.startSchedules.clk = u.clk := plans.same .clk (by decide)
  have chain1 : u.chain = t.chain := began.same .chain (by decide)
  have chain2 : u.startSchedules.chain = u.chain := plans.same .chain (by decide)
  exact ⟨(u.startSchedules_reg (CK_ne_RG (by decide))).trans (same.trans reg), by rw [clk2, clk1, clk], by rw [chain2, chain1, chain]⟩

/-- The way into mode `m` begins. -/
def State.heads (s : State) (m : Nat) : State := ({ s with clk := { s.clk with moving := true } }).setFld (CK 0x204) 3 2 m

theorem State.heads_shows (s : State) (m : Nat) : (s.heads m).mode = s.mode ∧ (s.heads m).modeTarget = m % 4 ∧ (s.heads m).clk = { s.clk with moving := true } :=
  ⟨State.fld_setFld_other _ _ _ _ _ (by decide) (by decide), State.fld_setFld_same _ _ _ (by decide), rfl⟩

/-- A move that is given up: the PLLs stop again (R466). -/
def State.turnsBack (s : State) (m : Nat) : State := (({ s with clk := { s.clk with moving := false } }).setFld (CK 0x204) 3 2 m).pllsStop

theorem State.turnsBack_mode (s : State) (m : Nat) : (s.turnsBack m).mode = s.mode :=
  (State.fld_congr (State.pllsStop_mode _) 0 2).trans (State.fld_setFld_other _ _ _ _ _ (by decide) (by decide))

/-- The system PLL is switched on again. -/
def State.plls (s : State) : State := s.setBit (CK 0x40) 0 true

theorem State.plls_shows (s : State) : s.plls.reg (CK 0x204) = s.reg (CK 0x204) ∧ s.plls.clk = s.clk := ⟨State.reg_setBit_ne _ _ _ _ _ (by decide), rfl⟩

theorem State.sendWake_shows (s : State) : s.sendWake.reg (CK 0x204) = s.reg (CK 0x204) ∧ s.sendWake.clk = s.clk ∧
    (upPorts ++ downPorts, ZOut.set setWake 0) ∈ s.sendWake.chain.sent := ⟨rfl, rfl, List.mem_append_right _ (List.mem_singleton_self _)⟩

/-- What the start of a move from `s` to mode `m` shows in `t`. -/
def State.moves (s : State) (m : Nat) (t : State) : Prop := t.mode = s.mode ∧
  (s.mode = 0 → m ≠ 0 → t.modeTarget = m % 4 ∧ t.clk.moving = true ∧ t.clk.stopped = true) ∧
  (s.mode ≠ 0 → m = 0 → t.modeTarget = 0 ∧ t.clk.moving = true ∧ (s.mode = 1 → t.clk.stopped = false) ∧ (upPorts ++ downPorts, ZOut.set setWake 0) ∈ t.chain.sent) ∧
  (m = s.mode → s.clk.moving = false → t = s)

theorem State.moves_here {s : State} {m : Nat} (same : m = s.mode) : s.moves m (if s.clk.moving ∧ m = 2 then s.turnsBack m else s) := by
  have no (z : s.mode = 0) : m = 0 := same.trans z
  split
  · next turns => exact ⟨s.turnsBack_mode m, fun z nz => absurd (no z) nz, fun nz z => absurd (same ▸ z) nz, fun _ still => absurd turns.1 (by simp [still])⟩
  · exact ⟨rfl, fun z nz => absurd (no z) nz, fun nz z => absurd (same ▸ z) nz, fun _ _ => rfl⟩

theorem State.moves_stop {s : State} {m : Nat} (ne : m ≠ s.mode) (down : s.mode = 0 ∨ m = 2) : s.moves m (s.heads m).stopAll := by
  obtain ⟨mode, target, clk⟩ := s.heads_shows m
  obtain ⟨reg, stop, _⟩ := (s.heads m).stopAll_shows
  generalize (s.heads m).stopAll = t at *
  refine ⟨(State.fld_congr reg 0 2).trans mode, fun _ _ => ⟨(State.fld_congr reg 3 2).trans target, ?_, ?_⟩, fun nz z => ?_, fun e => absurd e ne⟩
  · rw [stop, clk]
  · rw [stop]
  · rcases down with run | deep
    · exact absurd run nz
    · exact absurd (deep.symm.trans z) (by decide)

theorem State.moves_resume {s : State} {m : Nat} (ne : m ≠ s.mode) (nap : s.mode = 1) : s.moves m (s.heads m).resumeAll.sendWake := by
  obtain ⟨mode, target, clk⟩ := s.heads_shows m
  obtain ⟨reg, go, _⟩ := (s.heads m).resumeAll_shows
  obtain ⟨reg', clk', sent⟩ := (s.heads m).resumeAll.sendWake_shows
  generalize (s.heads m).resumeAll.sendWake = t at *
  have all : t.clk = { s.clk with moving := true, stopped := false } := by rw [clk', go, clk]
  refine ⟨(State.fld_congr (reg'.trans reg) 0 2).trans mode, fun z => absurd (nap.symm.trans z) (by decide), fun _ z => ⟨?_, ?_, fun _ => ?_, sent⟩, fun e => absurd e ne⟩
  · exact (State.fld_congr (reg'.trans reg) 3 2).trans (target.trans (by rw [z]))
  · rw [all]
  · rw [all]

theorem State.moves_wake {s : State} {m : Nat} (ne : m ≠ s.mode) (awake : s.mode ≠ 0) (deep : s.mode ≠ 1) (z : m = 0) : s.moves m (s.heads m).plls.sendWake := by
  obtain ⟨mode, target, clk⟩ := s.heads_shows m
  obtain ⟨reg, on⟩ := (s.heads m).plls_shows
  obtain ⟨reg', clk', sent⟩ := (s.heads m).plls.sendWake_shows
  generalize (s.heads m).plls.sendWake = t at *
  refine ⟨(State.fld_congr (reg'.trans reg) 0 2).trans mode, fun run => absurd run awake, fun _ _ => ⟨?_, ?_, fun one => absurd one deep, sent⟩, fun e => absurd e ne⟩
  · exact (State.fld_congr (reg'.trans reg) 3 2).trans (target.trans (by rw [z]))
  · rw [clk', on, clk]

theorem State.powerCommit_shows (s : State) (m : Nat) : s.moves m (s.powerCommit m) := by
  have run : s.powerCommit m = if m = s.mode then if s.clk.moving ∧ m = 2 then s.turnsBack m else s
    else if s.mode = 0 then (s.heads m).stopAll
    else if s.mode = 1 ∧ m = 2 then if s.clk.stopped then s.heads m else (s.heads m).stopAll
    else if s.mode = 1 then (s.heads m).resumeAll.sendWake
    else if m = 0 then (s.heads m).plls.sendWake
    else s := rfl
  rw [run]
  split
  · next same => exact State.moves_here same
  · next ne =>
    split
    · next run => exact State.moves_stop ne (.inl run)
    · next awake =>
      split
      · next deep =>
        split
        · exact ⟨(s.heads_shows m).1, fun z => absurd z awake, fun _ z => absurd (deep.2.symm.trans z) (by decide), fun e => absurd e ne⟩
        · exact State.moves_stop ne (.inr deep.2)
      · split
        · next nap => exact State.moves_resume ne nap
        · next deep =>
          split
          · next z => exact State.moves_wake ne awake deep z
          · next nz => exact ⟨rfl, fun z => absurd z awake, fun _ z => absurd z nz, fun e => absurd e ne⟩

/-! ### A clock setting (R453) -/

theorem State.rampNow_down {s : State} {n : Nat} (src : (s.wanted n).1 = (s.gckOf n).src) (div : (s.wanted n).2 ≠ (s.gckOf n).div) :
    (s.rampNow n).gckOf n = { s.gckOf n with viaBoot := false, ramp := .down } ∧ (s.rampNow n).bit (CK (0x100 + 4 * n)) 10 = true := by
  obtain ⟨self, _⟩ := s.gckOf_setGck n { s.gckOf n with viaBoot := false }
  obtain ⟨_, _, _, keep⟩ := (s.ramps_setGck n { s.gckOf n with viaBoot := false }).trans (State.ramps_setRamping _ n true)
  have gck : ((s.setGck n { s.gckOf n with viaBoot := false }).setRamping n true).gckOf n = { s.gckOf n with viaBoot := false } := self
  have on : ((s.setGck n { s.gckOf n with viaBoot := false }).setRamping n true).bit (CK (0x100 + 4 * n)) 10 = true := State.bit_setBit_same _ _ _ (by decide)
  rw [State.rampNow]
  generalize (s.setGck n { s.gckOf n with viaBoot := false }).setRamping n true = t at *
  have via : (t.gckOf n).viaBoot = false := by rw [gck]
  have aim : t.rampTo n = s.wanted n := by rw [State.rampTo, via, if_neg Bool.false_ne_true, keep]
  have go : t.rampGo n = if (t.rampTo n).1 = (t.gckOf n).src then
      if (t.rampTo n).2 = (t.gckOf n).div then t.rampEnd n else t.setGck n { t.gckOf n with ramp := .down }
    else if (t.gckOf n).div = 64 ∨ t.srcDead (t.gckOf n).src then t.rampTurn n else t.setGck n { t.gckOf n with ramp := .up } := rfl
  rw [go, aim, gck, if_pos src, if_neg div]
  exact ⟨(t.gckOf_setGck n _).1, on⟩

theorem bits_ten (x : Nat) : bits x 0 10 = bits x 0 4 + 16 * bits x 4 6 := by
  simp only [bits, Nat.shiftRight_eq_div_pow]
  omega

/-- The ramp of a new setting keeps the setting. -/
theorem State.rampNow_setting (s : State) (n : Nat) : (s.rampNow n).fld (CK (0x100 + 4 * n)) 0 10 = s.fld (CK (0x100 + 4 * n)) 0 10 ∧
    ∀ k, k ≠ n → (s.rampNow n).gckOf k = s.gckOf k := by
  obtain ⟨_, others⟩ := s.gckOf_setGck n { s.gckOf n with viaBoot := false }
  have begun := (s.ramps_setGck n { s.gckOf n with viaBoot := false }).trans (State.ramps_setRamping _ n true)
  have others' (k : Nat) (h : k ≠ n) : ((s.setGck n { s.gckOf n with viaBoot := false }).setRamping n true).gckOf k = s.gckOf k := others k h
  rw [State.rampNow]
  generalize (s.setGck n { s.gckOf n with viaBoot := false }).setRamping n true = t at *
  obtain ⟨⟨goes, rest⟩, _⟩ := t.rampGo_shows n
  obtain ⟨_, _, _, keep⟩ := begun.trans goes
  obtain ⟨src, div⟩ := Prod.mk.inj (keep n)
  refine ⟨?_, fun k h => (rest k h).trans (others' k h)⟩
  rw [State.fld, State.fld, bits_ten, bits_ten]
  exact congrArg₂ (fun x y => x + 16 * y) src (Nat.succ.inj div)

theorem State.writeClock_gck {s : State} {n v x : Nat} (hn : n < 16) (hx : x = applyWrite ((ckFields (0x100 + 4 * n)).getD []) (s.reg (CK (0x100 + 4 * n))) v) :
    let t := s.writeClock (0x100 + 4 * n) v
    t.fld (CK (0x100 + 4 * n)) 0 10 = bits x 0 10 ∧ (∀ k, k < 16 → k ≠ n → t.gckOf k = s.gckOf k) ∧
    (bits x 0 10 ≠ s.fld (CK (0x100 + 4 * n)) 0 10 → bits x 0 4 = (s.gckOf n).src → bits x 4 6 + 1 ≠ (s.gckOf n).div →
      (t.gckOf n).ramp = .down ∧ (t.gckOf n).div = (s.gckOf n).div ∧ t.bit (CK (0x100 + 4 * n)) 10 = true) ∧
    s.changes clockParts t := by
  have run : s.writeClock (0x100 + 4 * n) v = if x = s.reg (CK (0x100 + 4 * n)) then s.setReg (CK (0x100 + 4 * n)) x else
      if bits x 0 10 = bits (s.reg (CK (0x100 + 4 * n))) 0 10 then s.setReg (CK (0x100 + 4 * n)) x else (s.setReg (CK (0x100 + 4 * n)) x).rampNow n := by
    have which : (0x100 + 4 * n - 0x100) / 4 = n := by omega
    rw [State.writeClock, ← hx, if_pos (show 0x100 ≤ 0x100 + 4 * n ∧ 0x100 + 4 * n < 0x140 by omega), which]
  have reads (lo w : Nat) (h : lo + w ≤ 32) : (s.setReg (CK (0x100 + 4 * n)) x).fld (CK (0x100 + 4 * n)) lo w = bits x lo w :=
    State.fld_of_reg (State.reg_setReg_same _ _ _) h
  have gck (k : Nat) : (s.setReg (CK (0x100 + 4 * n)) x).gckOf k = s.gckOf k := rfl
  have frame : s.changes clockParts (s.setReg (CK (0x100 + 4 * n)) x) := by simp [clockParts]
  intro t
  have eq : t = _ := run
  rw [eq]
  generalize s.setReg (CK (0x100 + 4 * n)) x = u at *
  split
  · next same => exact ⟨reads 0 10 (by decide), fun k _ _ => gck k, fun new => absurd (by rw [same]; rfl) new, frame⟩
  · split
    · next same => exact ⟨reads 0 10 (by decide), fun k _ _ => gck k, fun new => absurd same new, frame⟩
    · obtain ⟨setting, others⟩ := u.rampNow_setting n
      refine ⟨setting.trans (reads 0 10 (by decide)), fun k _ h => (others k h).trans (gck k), fun _ src div => ?_, frame.trans (by simp [State.rampNow, State.setRamping, clockParts])⟩
      have wanted : u.wanted n = (bits x 0 4, bits x 4 6 + 1) := by rw [State.wanted, reads 0 4 (by decide), reads 4 6 (by decide)]
      obtain ⟨ramp, on⟩ := State.rampNow_down (s := u) (n := n) (by rw [wanted, gck]; exact src) (by rw [wanted, gck]; exact div)
      rw [ramp]
      exact ⟨rfl, (congrArg Gck.div (gck n) :), on⟩

/-! ### Arming, restart -/

theorem State.soundingStart_shows {s : State} (frames : Nat) (armed : s.pbState = 1) (idle : s.probe.storing = false) : let t := s.soundingStart frames
    t.probe.storing = true ∧ t.probe.left = frames ∧ t.probe.counting = !s.bit (PB 0) 3 ∧ t.pbState = if s.bit (PB 0) 3 then 1 else 2 := by
  intro t
  have run : t = if s.bit (PB 0) 3 then s.setProbe { s.probe with storing := true, counting := false, left := frames }
      else (s.setProbe { s.probe with storing := true, counting := true, left := frames }).setFld (PB 4) 0 2 2 := if_neg (by simp [armed, idle])
  rw [run]
  split
  · next trig => exact ⟨rfl, rfl, by rw [trig]; rfl, armed⟩
  · next free => exact ⟨rfl, rfl, by rw [Bool.not_eq_true] at free; rw [free]; rfl, State.fld_setFld_same _ _ _ (by decide)⟩

theorem State.restart_sel (s : State) (cause : Nat) : (s.restart cause).hl.sel = s.hl.sel := by
  have dropped : (s.restart cause).core = (s.stops cause).abandonLoad.core := (s.stops cause).abandonLoad.dropsWork_changes.core (by decide)
  have hl := dropped.trans (s.stops cause).abandonLoad_changes.2
  rw [State.core, State.core, s.stops_hl cause] at hl
  exact (congrArg Headland.sel hl :)

theorem State.commitActivate_shows {s : State} {a : Accepted} {slot : Nat} (what : a.what = .activate slot) : let t := s.commitAll false [a]
    t.hl.sel = slot ∧ t.hl.restarting = true ∧ t.hl.up = false ∧ t.hl.cause = 3 := by
  have change : s.commitChange a = s := by simp only [State.commitChange, what]
  have run : s.commitAll false [a] = ({ s with hl := { s.hl with sel := slot } } : State).restart 3 := by
    rw [State.commitAll_one, if_neg Bool.false_ne_true, change, State.finishChange, what]
  intro t
  have eq : t = _ := run
  obtain ⟨up, restarting, cause, _⟩ := ({ s with hl := { s.hl with sel := slot } } : State).restart_shows 3
  rw [eq]
  exact ⟨State.restart_sel _ 3, restarting, up, cause⟩

/-! ## Two changes -/

/-- Does the change start schedules, or a restart? -/
def Change.starts : Change → Bool
  | .sched _ => true
  | .wave _ => true
  | .tickP _ => true
  | .activate _ => true
  | _ => false

theorem Change.plans_of_plain {c : Change} (h : c.starts = false) : c.plans = false := by
  cases c <;> simp_all [Change.starts, Change.plans]

theorem State.finishChange_plain {a : Accepted} (plain : a.what.starts = false) (s : State) : s.finishChange a = s := by
  cases what : a.what <;> simp_all [State.finishChange, Change.starts]

/-- A change that starts nothing commits by itself. -/
theorem State.commitAll_plain {a : Accepted} (plain : a.what.starts = false) (s : State) : s.commitAll a.what.plans [a] = s.commitChange a := by
  rw [State.commitAll_one, Change.plans_of_plain plain, if_neg Bool.false_ne_true, State.finishChange_plain plain]

/-- Two changes that start nothing commit one after the other. -/
theorem State.commitAll_two {x y : Accepted} (px : x.what.starts = false) (py : y.what.starts = false) (s : State) :
    s.commitAll false [x, y] = (s.commitChange x).commitChange y := by
  have run : s.commitAll false [x, y] = (((s.commitChange x).commitChange y).finishChange x).finishChange y := rfl
  rw [run, State.finishChange_plain px, State.finishChange_plain py]

/-- A new W or P: the change itself, and step 0 of the schedules. -/
def Change.length : Change → Bool
  | .wave _ => true
  | .tickP _ => true
  | _ => false

theorem State.finishChange_length {a : Accepted} (length : a.what.length = true) (s : State) : s.finishChange a = s := by
  cases what : a.what <;> simp_all [State.finishChange, Change.length]

theorem Change.plans_of_length {c : Change} (h : c.length = true) : c.plans = true := by
  cases c <;> simp_all [Change.length, Change.plans]

theorem State.commitAll_length {a : Accepted} (length : a.what.length = true) (s : State) : s.commitAll a.what.plans [a] = (s.commitChange a).startSchedules := by
  rw [State.commitAll_one, Change.plans_of_length length, if_pos rfl, State.finishChange_length length]

theorem State.commitAll_lengths {x y : Accepted} (lx : x.what.length = true) (ly : y.what.length = true) (s : State) :
    s.commitAll true [x, y] = ((s.commitChange x).commitChange y).startSchedules := by
  have run : s.commitAll true [x, y] = (((s.commitChange x).commitChange y).startSchedules.finishChange x).finishChange y := rfl
  rw [run, State.finishChange_length lx, State.finishChange_length ly]

theorem State.commitWave_shows {s : State} {a : Accepted} {w : Nat} (what : a.what = .wave w) : (s.commitChange a).P = s.P ∧ (s.commitChange a).wMax = w % 2 ^ 7 ∧
    (s.commitChange a).tick = s.tick := by
  have run : s.commitChange a = s.setFld (CK 0x830) 0 7 w := by simp only [State.commitChange, what]
  rw [run]
  exact s.putW_shows w

theorem State.commitP_shows {s : State} {a : Accepted} {p : Nat} (what : a.what = .tickP p) : (s.commitChange a).P = p % 2 ^ 13 ∧ (s.commitChange a).wMax = s.wMax ∧
    (s.commitChange a).tick = s.tick := by
  have run : s.commitChange a = s.putP p := by simp only [State.commitChange, what]
  rw [run]
  exact s.putP_shows p

/-- One new W. -/
theorem State.commitAll_wave {s : State} {a : Accepted} {w : Nat} (what : a.what = .wave w) : let t := s.commitAll a.what.plans [a]
    t.hl.changes = s.hl.changes ∧ t.wMax = w % 2 ^ 7 ∧ t.tick = s.tick := by
  obtain ⟨_, wMax, tick⟩ := State.commitWave_shows (s := s) what
  obtain ⟨_, keep, tick'⟩ := (s.commitChange a).startSchedules_plan
  intro t
  have run : t = (s.commitChange a).startSchedules := State.commitAll_length (by rw [what]; rfl) s
  rw [run]
  exact ⟨((s.commitChange_commits a).trans (State.startSchedules_commits _)).changes_eq, keep.trans wMax, tick'.trans tick⟩

/-- One new P. -/
theorem State.commitAll_tickP {s : State} {a : Accepted} {p : Nat} (what : a.what = .tickP p) : let t := s.commitAll a.what.plans [a]
    t.hl.changes = s.hl.changes ∧ t.P = p % 2 ^ 13 ∧ t.tick = s.tick := by
  obtain ⟨P, _, tick⟩ := State.commitP_shows (s := s) what
  obtain ⟨keep, _, tick'⟩ := (s.commitChange a).startSchedules_plan
  intro t
  have run : t = (s.commitChange a).startSchedules := State.commitAll_length (by rw [what]; rfl) s
  rw [run]
  exact ⟨((s.commitChange_commits a).trans (State.startSchedules_commits _)).changes_eq, keep.trans P, tick'.trans tick⟩

/-- One new SRC, or other setting of CK_TICK_CTRL. -/
theorem State.commitAll_tickCtrl {s : State} {a : Accepted} {v : Nat} (what : a.what = .tickCtrl v) : let t := s.commitAll a.what.plans [a]
    t.hl.changes = s.hl.changes ∧ (v % 4 ≤ 2 → t.src = v % 4) ∧ s.changes [.csr, .tick, .chain] t ∧ { t.chain with calib := s.chain.calib } = s.chain := by
  intro t
  have run : t = (s.writeTickCtrl v).applyPending := (State.commitAll_plain (by rw [what]; rfl) s).trans (by simp only [State.commitChange, what])
  obtain ⟨commits, frame, chain, src⟩ := s.commitTickCtrl_shows v
  rw [run]
  exact ⟨commits.changes_eq, src, frame, chain⟩

theorem State.commitAll_lutSwap {s : State} {a : Accepted} {q : Nat} (what : a.what = .lutSwap q) : s.commitAll a.what.plans [a] = s.flipHalf q :=
  (State.commitAll_plain (by rw [what]; rfl) s).trans (by simp only [State.commitChange, what])

theorem State.commitAll_qdesc {s : State} {a : Accepted} {q : Nat} {d : BitVec 160} (what : a.what = .qdesc q d) : s.commitAll a.what.plans [a] = s.applyDesc q d.toNat :=
  (State.commitAll_plain (by rw [what]; rfl) s).trans (by simp only [State.commitChange, what])

theorem State.commitAll_release {s : State} {a : Accepted} {r : Nat} (what : a.what = .release r) : s.commitAll a.what.plans [a] = s.commandRelease a r :=
  (State.commitAll_plain (by rw [what]; rfl) s).trans (by simp only [State.commitChange, what])

theorem State.commitAll_power {s : State} {a : Accepted} {m : Nat} (what : a.what = .power m) : s.commitAll a.what.plans [a] = s.powerCommit m :=
  (State.commitAll_plain (by rw [what]; rfl) s).trans (by simp only [State.commitChange, what])

theorem State.commitAll_clockSet {s : State} {a : Accepted} {off v : Nat} (what : a.what = .clockSet off v) : s.commitAll a.what.plans [a] = s.writeClock off v :=
  (State.commitAll_plain (by rw [what]; rfl) s).trans (by simp only [State.commitChange, what])

theorem State.commitAll_arm {s : State} {a : Accepted} {n : Nat} (what : a.what = .arm n) : s.commitAll a.what.plans [a] = s.soundingStart n :=
  (State.commitAll_plain (by rw [what]; rfl) s).trans (by simp only [State.commitChange, what])

theorem State.commitAll_preset {s : State} {a : Accepted} {v : Nat} (what : a.what = .preset v) : s.commitAll a.what.plans [a] = s :=
  (State.commitAll_plain (by rw [what]; rfl) s).trans (by simp only [State.commitChange, what])

/-- Of two new lengths each is in force, the later one of a kind. -/
theorem State.commitAll_lengths_shows {s : State} {x y : Accepted} (lx : x.what.length = true) (ly : y.what.length = true) :
    let t := s.commitAll true [x, y]
    t.hl.changes = s.hl.changes ∧ (∀ w, y.what = .wave w → t.wMax = w % 2 ^ 7) ∧ (∀ p, y.what = .tickP p → t.P = p % 2 ^ 13) ∧
    (∀ p w, x.what = .tickP p → y.what = .wave w → t.P = p % 2 ^ 13) ∧ (∀ p w, x.what = .wave w → y.what = .tickP p → t.wMax = w % 2 ^ 7) := by
  intro t
  have run : t = ((s.commitChange x).commitChange y).startSchedules := State.commitAll_lengths lx ly s
  obtain ⟨P, wMax, _⟩ := ((s.commitChange x).commitChange y).startSchedules_plan
  rw [run]
  refine ⟨(((s.commitChange_commits x).trans (State.commitChange_commits _ y)).trans (State.startSchedules_commits _)).changes_eq, fun w hw => ?_, fun p hp => ?_,
    fun p w hp hw => ?_, fun p w hw hp => ?_⟩
  · exact wMax.trans (State.commitWave_shows hw).2.1
  · exact P.trans (State.commitP_shows hp).1
  · exact P.trans ((State.commitWave_shows hw).1.trans (State.commitP_shows hp).1)
  · exact wMax.trans ((State.commitP_shows hp).2.1.trans (State.commitWave_shows hw).2.1)

/-! ## The commit -/

theorem Accepted.dueAt_of {a : Accepted} {f : Nat} (now : a.wait = 0) (reached : laterFrame a.target f = false) : a.dueAt f = true := by
  simp [Accepted.dueAt, now, reached]

theorem Accepted.dueAt_not {a : Accepted} {f : Nat} (wait : laterFrame a.target f = true ∨ a.wait ≠ 0) : a.dueAt f = false := by
  rcases wait with later | wait <;> simp [Accepted.dueAt, *]

/-- Two changes, in the order in which they commit. -/
theorem State.targetCommit_ordered {s : State} {a b x y : Accepted} (edge : s.tick.count = 0) (up : s.hl.up = true) (two : s.hl.changes = [a, b])
    (da : a.dueAt s.frameNo = true) (db : b.dueAt s.frameNo = true)
    (order : (subFrame s.frameNo b.target ≤ subFrame s.frameNo a.target ∧ x = a ∧ y = b) ∨ (¬ subFrame s.frameNo b.target ≤ subFrame s.frameNo a.target ∧ x = b ∧ y = a)) :
    s.targetCommit = (s.withChanges []).commitAll (x.what.plans || y.what.plans) [x, y] := by
  rw [State.targetCommit_two edge up two da db]
  rcases order with ⟨le, rfl, rfl⟩ | ⟨lt, rfl, rfl⟩
  · rw [if_pos le]
  · rw [if_neg lt, Bool.or_comm]

/-- Two changes that start nothing: each does what it does alone, one after the other (log 171). -/
theorem State.targetCommit_each {s : State} {x y : Accepted} (edge : s.tick.count = 0) (up : s.hl.up = true) (dx : x.dueAt s.frameNo = true) (dy : y.dueAt s.frameNo = true)
    (px : x.what.starts = false) (py : y.what.starts = false) :
    ((s.withChanges [x]).targetCommit.withChanges [y]).targetCommit = (s.withChanges []).commitAll (x.what.plans || y.what.plans) [x, y] := by
  have first : (s.withChanges [x]).targetCommit = (s.withChanges []).commitChange x :=
    (State.targetCommit_one (s := s.withChanges [x]) edge up rfl dx).trans (State.commitAll_plain px _)
  have commits := (s.withChanges []).commitChange_commits x
  rw [first, Change.plans_of_plain px, Change.plans_of_plain py, Bool.or_self, State.commitAll_two px py]
  generalize (s.withChanges []).commitChange x = u at *
  have empty : u.hl.changes = [] := commits.changes_eq
  have self : (u.withChanges [y]).withChanges [] = u := (congrArg (State.withChanges _) empty.symm).trans rfl
  have second : (u.withChanges [y]).targetCommit = ((u.withChanges [y]).withChanges []).commitAll y.what.plans [y] :=
    State.targetCommit_one (s := u.withChanges [y]) (commits.count.trans edge) (commits.up.trans up) rfl (by
      have number : (u.withChanges [y]).frameNo = s.frameNo := commits.frameNo
      rwa [number])
  rw [second, self, State.commitAll_plain py]

/-- Two new lengths: what stands afterwards (log 171). -/
theorem State.targetCommit_lengths {s : State} {a b : Accepted} (edge : s.tick.count = 0) (up : s.hl.up = true) (two : s.hl.changes = [a, b])
    (da : a.dueAt s.frameNo = true) (db : b.dueAt s.frameNo = true) (la : a.what.length = true) (lb : b.what.length = true) :
    let t := s.targetCommit
    let inOrder : Prop := subFrame s.frameNo b.target ≤ subFrame s.frameNo a.target
    (∀ v w, a.what = .wave v → b.what = .wave w → t.hl.changes = [] ∧ (inOrder → t.wMax = w % 2 ^ 7) ∧ (¬inOrder → t.wMax = v % 2 ^ 7)) ∧
    (∀ p q, a.what = .tickP p → b.what = .tickP q → t.hl.changes = [] ∧ (inOrder → t.P = q % 2 ^ 13) ∧ (¬inOrder → t.P = p % 2 ^ 13)) ∧
    (∀ p w, (a.what = .tickP p ∧ b.what = .wave w) ∨ (a.what = .wave w ∧ b.what = .tickP p) → t.hl.changes = [] ∧ t.P = p % 2 ^ 13 ∧ t.wMax = w % 2 ^ 7) := by
  intro t inOrder
  by_cases order : inOrder
  · have run : t = _ := State.targetCommit_ordered edge up two da db (.inl ⟨order, rfl, rfl⟩)
    obtain ⟨changes, wave, tickP, mixedP, mixedW⟩ := State.commitAll_lengths_shows (s := s.withChanges []) la lb
    rw [run, Change.plans_of_length la, Bool.true_or]
    refine ⟨fun v w _ hw => ⟨changes, fun _ => wave w hw, fun no => absurd order no⟩, fun p q _ hq => ⟨changes, fun _ => tickP q hq, fun no => absurd order no⟩,
      fun p w h => ⟨changes, ?_⟩⟩
    rcases h with ⟨hp, hw⟩ | ⟨hw, hp⟩
    · exact ⟨mixedP p w hp hw, wave w hw⟩
    · exact ⟨tickP p hp, mixedW p w hw hp⟩
  · have run : t = _ := State.targetCommit_ordered edge up two da db (.inr ⟨order, rfl, rfl⟩)
    obtain ⟨changes, wave, tickP, mixedP, mixedW⟩ := State.commitAll_lengths_shows (s := s.withChanges []) lb la
    rw [run, Change.plans_of_length lb, Bool.true_or]
    refine ⟨fun v w hv _ => ⟨changes, fun yes => absurd yes order, fun _ => wave v hv⟩, fun p q hp _ => ⟨changes, fun yes => absurd yes order, fun _ => tickP p hp⟩,
      fun p w h => ⟨changes, ?_⟩⟩
    rcases h with ⟨hp, hw⟩ | ⟨hw, hp⟩
    · exact ⟨tickP p hp, mixedW p w hw hp⟩
    · exact ⟨mixedP p w hp hw, wave w hw⟩

/-- Settles O32: the changes that are due commit in their order; each kind has its own lemma above. -/
theorem targetTickCommit : Obligations.TargetTickCommit := by
  intro s a plain
  have starts (c : Change) (h : plain c) : c.starts = false := by
    cases c <;> simp_all [plain, Change.starts]
  refine ⟨fun off => completes_by rfl (if_pos off) rfl, fun edge up one wait => completes_by rfl (State.targetCommit_none edge up one (Accepted.dueAt_not wait)) rfl,
    fun b edge up two wa wb la => ⟨fun lb => ?_, fun lb => ?_⟩, fun edge up one wait reached => ?_, fun edge down one wait reached soft =>
      completes_by rfl (State.targetCommit_lost edge down one (Accepted.dueAt_of wait reached) (by simpa using soft)) rfl⟩
  · have da := Accepted.dueAt_of wa la
    have db := Accepted.dueAt_of wb lb
    have lengths := State.targetCommit_lengths edge up two da db
    refine completes_intro rfl ⟨fun v w hv hw => (lengths (by rw [hv]; rfl) (by rw [hw]; rfl)).1 v w hv hw,
      fun p q hp hq => (lengths (by rw [hp]; rfl) (by rw [hq]; rfl)).2.1 p q hp hq, fun p w h => ?_, fun pa pb x y order => ?_⟩
    · have la : a.what.length = true ∧ b.what.length = true := by
        rcases h with ⟨hp, hw⟩ | ⟨hp, hw⟩ <;> rw [hp, hw] <;> exact ⟨rfl, rfl⟩
      exact (lengths la.1 la.2).2.2 p w h
    · have each : (x.dueAt s.frameNo = true ∧ x.what.starts = false) ∧ y.dueAt s.frameNo = true ∧ y.what.starts = false := by
        rcases order with ⟨_, rfl, rfl⟩ | ⟨_, rfl, rfl⟩
        · exact ⟨⟨da, starts _ pa⟩, db, starts _ pb⟩
        · exact ⟨⟨db, starts _ pb⟩, da, starts _ pa⟩
      obtain ⟨⟨dx, px⟩, dy, py⟩ := each
      exact completes_intro rfl (completes_intro rfl ((State.targetCommit_ordered edge up two da db order).trans (State.targetCommit_each edge up dx dy px py).symm))
  · refine completes_by rfl (State.targetCommit_first edge up two (Accepted.dueAt_of wa la) (Accepted.dueAt_not (.inl lb))) ?_
    refine ⟨fun v hv => ?_, fun p hp => ?_⟩
    · obtain ⟨changes, w, _⟩ := State.commitAll_wave (s := s.withChanges [b]) hv
      exact ⟨changes, w⟩
    · obtain ⟨changes, w, _⟩ := State.commitAll_tickP (s := s.withChanges [b]) hp
      exact ⟨changes, w⟩
  · refine completes_by rfl (State.targetCommit_one edge up one (Accepted.dueAt_of wait reached)) ?_
    have out : s.changes [.hl] (s.withChanges []) := rfl
    refine ⟨fun p hp => State.commitAll_tickP hp, fun w hw => State.commitAll_wave hw, fun v hv => State.commitAll_preset hv, fun v hv le => ?_, fun q hq => ?_,
      fun q d hq => ?_, fun r x hx hr len => ?_, fun r hr => ?_, fun m hm => ?_, fun n v hv hn x hx => ?_, fun n hn => ?_, fun slot hslot => ?_⟩
    · obtain ⟨changes, src, frame, chain⟩ := State.commitAll_tickCtrl (s := s.withChanges []) hv
      exact ⟨changes, src le, (out.mono (by decide) : s.changes [.csr, .tick, .hl, .chain] _).trans (frame.mono (by decide)), chain⟩
    · rw [State.commitAll_lutSwap hq]
      obtain ⟨frame, others, half⟩ := (s.withChanges []).flipHalf_shows q
      exact ⟨congrArg Headland.changes (frame.same .hl (by decide)), half, others, (out.mono (by decide) : s.changes [.qs, .hl] _).trans (frame.mono (by decide))⟩
    · rw [State.commitAll_qdesc hq]
      obtain ⟨commits, others, desc⟩ := (s.withChanges []).applyDesc_shows q d.toNat
      exact ⟨commits.changes_eq, (congrArg BitVec.toNat desc).trans (by simp), fun k _ ne => others k ne⟩
    · have plans : a.what.plans = true := by rw [hx]; rfl
      rw [plans]
      obtain ⟨changes, table, others⟩ := State.commitSched_shows (s := s.withChanges []) hx len
      exact ⟨changes, table, fun k _ ne => others k ne⟩
    · rw [State.commitAll_release hr]
      have frame := (s.withChanges []).commandRelease_changes a r
      refine ⟨fun all => ?_, fun no => ?_, congrArg Headland.changes (frame.same .hl (by decide))⟩
      · obtain ⟨freed, others⟩ := State.commandRelease_shows (s := s.withChanges []) a all
        have tick : ((s.withChanges []).commandRelease a r).tick = s.tick := frame.same .tick (by decide)
        have hold : ((s.withChanges []).commandRelease a r).run = s.run := frame.same .run (by decide)
        exact ⟨freed, fun k hk held on => State.releaseDue_freed (freed k hk) held (by rw [hold, on]) (by rw [tick, edge]) (by rw [tick]; exact le_refl _), others,
          (out.mono (by decide) : s.changes [.rg, .hl] _).trans (frame.mono (by decide))⟩
      · rw [State.commandRelease_refused (s := s.withChanges []) a no]
        exact out
    · rw [State.commitAll_power hm]
      obtain ⟨mode, sleeps, wakes, stays⟩ := (s.withChanges []).powerCommit_shows m
      exact ⟨((s.withChanges []).powerCommit_step m).commits.changes_eq, mode, sleeps, wakes, fun same still => by rw [stays same still]; exact out⟩
    · rw [State.commitAll_clockSet hv]
      obtain ⟨setting, others, ramps, frame⟩ := State.writeClock_gck (s := s.withChanges []) hn hx
      exact ⟨((s.withChanges []).writeClock_commits _ v).changes_eq, setting, others, ramps,
        (out.mono (by decide) : s.changes [.csr, .clk, .hl] _).trans (frame.mono (by decide))⟩
    · rw [State.commitAll_arm hn]
      have frame := (s.withChanges []).soundingStart_changes n
      refine ⟨congrArg Headland.changes (frame.same .hl (by decide)), fun armed idle => ?_⟩
      obtain ⟨storing, left, counting, state⟩ := State.soundingStart_shows (s := s.withChanges []) n armed idle
      exact ⟨storing, left, counting, state, (out.mono (by decide) : s.changes [.csr, .probe, .hl] _).trans (frame.mono (by decide))⟩
    · have plans : a.what.plans = false := by rw [hslot]; rfl
      rw [plans]
      exact State.commitActivate_shows hslot

end Sys2Proof.Machine
end

section
/-! CSR requests and responses over the network (spec/07 R202, R210, R216 to R224). -/
namespace Sys2Proof.Machine

/-! ## The words of a ring block (R220) -/

/-- What a word of `n` flipped bits reads as, by its bytes, its bits as stored and the free values (R162). -/
def wordReads (n raw stored free : Nat) : Nat × Bool × Bool :=
  match n with
  | 0 => (raw, false, false)
  | 1 => (raw, true, false)
  | 2 => (stored, false, true)
  | _ =>
    match Config.freeValue free % 3 with
    | 0 => (Config.freeValue (free + 1) % 2 ^ 64, true, false)
    | 1 => (stored, false, true)
    | _ => (Config.freeValue (free + 1) % 2 ^ 64, false, false)

theorem State.readWord_reads (s : State) (b w : Nat) :
    (s.readWord b w).1 = wordReads (popCount (s.flipMask b w) 72) (s.rawWord b w) (s.storedWord b w) s.free := by
  unfold State.readWord wordReads
  generalize popCount (s.flipMask b w) 72 = n
  split
  · rfl
  · rfl
  · rfl
  · simp only [State.draw]
    generalize Config.freeValue s.free % 3 = c
    rcases c with _ | _ | c <;> rfl

/-- What a word reads as depends on its bytes, its flips and the free values. -/
theorem State.readWord_congr {s t : State} {b w : Nat} (flips : t.flipMask b w = s.flipMask b w) (raw : t.rawWord b w = s.rawWord b w) (free : t.free = s.free) :
    (t.readWord b w).1 = (s.readWord b w).1 := by
  rw [State.readWord_reads, State.readWord_reads, State.storedWord, State.storedWord, flips, raw, free]

theorem State.ringWord_eq (s : State) (r d w : Nat) : s.ringWord r d w = (s.readWord (ringBlock r d) w).1.1 := by
  rcases h : s.readWord (ringBlock r d) w with ⟨⟨v, ce, ue⟩, s'⟩
  simp only [State.ringWord, State.ringRead, h]

theorem State.ringWord_congr {s t : State} {r d w : Nat} (flips : t.flipMask (ringBlock r d) w = s.flipMask (ringBlock r d) w)
    (raw : t.rawWord (ringBlock r d) w = s.rawWord (ringBlock r d) w) (free : t.free = s.free) : t.ringWord r d w = s.ringWord r d w := by
  rw [State.ringWord_eq, State.ringWord_eq, State.readWord_congr flips raw free]

/-- A word of a ring whose code is clean is read without a trace. -/
theorem State.ringRead_clean {s : State} {r d w : Nat} (clean : s.flipMask (ringBlock r d) w = 0) : s.ringRead r d w = (s.rawWord (ringBlock r d) w, s) := by
  rw [State.ringRead, State.readWord_clean clean]
  rfl

theorem State.rawWord_putWord (s : State) (b w v : Nat) : (s.putWord b w v).rawWord b w = v % 2 ^ 64 := by
  obtain ⟨-, bytes, -, -⟩ := s.putWord_shows b w v
  have list : (List.range 8).map (fun j => (s.putWord b w v).byte (8 * wordKey b w + j)) = bytesLE v 8 := by
    refine List.ext_getElem (by simp) fun i h h' => ?_
    rw [List.getElem_map, List.getElem_range, bytes i (by simpa using h)]
    exact (bytesLE_get v 8 i (by simpa using h)).symm
  rw [State.rawWord, list, natLE_bytesLE]
  norm_num

theorem State.rawWord_putWord_ne (s : State) (b v : Nat) {w w' : Nat} (ne : w' ≠ w) : (s.putWord b w v).rawWord b w' = s.rawWord b w' := by
  obtain ⟨-, -, rest, -⟩ := s.putWord_shows b w v
  rw [State.rawWord, State.rawWord]
  refine congrArg natLE (List.map_congr_left fun i hi => rest _ ?_)
  have := List.mem_range.mp hi
  unfold wordKey
  omega

theorem State.flipMask_putWord_ne (s : State) (b v : Nat) {w w' : Nat} (ne : w' ≠ w) : (s.putWord b w v).flipMask b w' = s.flipMask b w' :=
  mget_mput_ne _ _ _ _ _ (by unfold wordKey; omega)

/-- A word written to a ring block reads back, and no other word of the block changes. -/
theorem State.putRing_shows (s : State) (r d w v : Nat) : (s.putRing r d w v).ringWord r d w = v % 2 ^ 64 ∧
    (∀ w', w' ≠ w → (s.putRing r d w v).ringWord r d w' = s.ringWord r d w') ∧
    (w < 4096 → ∀ a, a / 32768 ≠ ringBlock r d → (s.putRing r d w v).byte a = s.byte a) ∧ s.changes [.mem, .flips, .ueSeen] (s.putRing r d w v) := by
  obtain ⟨clean, -, rest, frame⟩ := s.putWord_shows (ringBlock r d) w v
  refine ⟨?_, fun w' ne => State.ringWord_congr (s.flipMask_putWord_ne _ _ ne) (s.rawWord_putWord_ne _ _ ne) rfl, fun lt a out => rest a ?_, frame⟩
  · rw [State.ringWord_eq, State.putRing, State.readWord_clean clean]
    exact s.rawWord_putWord _ _ _
  · unfold wordKey
    omega

/-! ## The path -/

/-- What the network carries changes packets, their bookkeeping and registers only. -/
theorem State.carry_frame (s : State) (src dst v : Nat) : s.changes [.net, .noc, .csr] (s.carry src dst v) := s.netOnly_runNet _ _

theorem State.takePacket_frame (s : State) (src dst v : Nat) : s.changes [.net] (s.takePacket src dst v) := rfl

/-- A response slot is filled at a free endpoint with its ring enabled (R221). -/
theorem State.rxResponse_fills {s : State} {r : Nat} (free : s.epHeld r = false) (en : ringEn (s.rxRing r) = true) (tag status : Nat) {data : Nat} (ht : tag < 256)
    (hs : status < 256) (hd : data < 2 ^ 64) : let t := s.rxResponse r tag status data
    t.ringWord r (s.rxRing r) (4 + 2 * tag) = 1 + status * 256 ∧ t.ringWord r (s.rxRing r) (5 + 2 * tag) = data ∧
    (∀ a, a / 32768 ≠ ringBlock r (s.rxRing r) → t.byte a = s.byte a) ∧ s.changes [.mem, .flips, .ueSeen] t := by
  have run : s.rxResponse r tag status data = (s.putRing r (s.rxRing r) (5 + 2 * tag) data).putRing r (s.rxRing r) (4 + 2 * tag) (1 + status * 256) :=
    if_neg (by simp [free, en])
  dsimp only
  rw [run]
  obtain ⟨value, -, bytes, frame⟩ := s.putRing_shows r (s.rxRing r) (5 + 2 * tag) data
  obtain ⟨state, others, bytes', frame'⟩ := (s.putRing r (s.rxRing r) (5 + 2 * tag) data).putRing_shows r (s.rxRing r) (4 + 2 * tag) (1 + status * 256)
  refine ⟨state.trans (Nat.mod_eq_of_lt (by omega)), (others _ (by omega)).trans (value.trans (Nat.mod_eq_of_lt hd)), fun a out => ?_, frame.trans frame'⟩
  exact (bytes' (by omega) a out).trans (bytes (by omega) a out)

/-- A held endpoint, or one without a ring, discards it (R224). -/
theorem State.rxResponse_drops {s : State} {r : Nat} (h : s.epHeld r = true ∨ ringEn (s.rxRing r) = false) (tag status data : Nat) :
    s.rxResponse r tag status data = s.epDisc r := if_pos (by rcases h with h | h <;> simp [h])

theorem State.epDisc_shows (s : State) (r : Nat) : (s.epDisc r).reg (NR (r % 48) 0x54) = min (s.reg (NR (r % 48) 0x54) + 1) (2 ^ 32 - 1) ∧
    (∀ a, a ≠ NR (r % 48) 0x54 → (s.epDisc r).reg a = s.reg a) ∧ s.changes [.csr] (s.epDisc r) :=
  ⟨s.reg_inc_same _, fun _ h => s.reg_inc_ne _ _ h, rfl⟩

/-! ## Requests (R217, R224) -/

theorem State.csrRequest_eq (s : State) (src dst typ : Nat) : s.csrRequest src dst typ = match (s.carry src dst 0).arrived src dst 0 with
    | some p => if p.typ = typ then ((s.carry src dst 0).takePacket src dst 0).serveRequest src dst p else s.carry src dst 0
    | none => s.carry src dst 0 := rfl

theorem State.csrRequest_none {s u : State} {src dst typ : Nat} (hu : u = s.carry src dst 0) (none_ : u.arrived src dst 0 = none) : s.csrRequest src dst typ = u := by
  subst hu
  simp only [State.csrRequest_eq, none_]

theorem State.csrRequest_some {s u : State} {src dst typ : Nat} (hu : u = s.carry src dst 0) {p : Packet} (some_ : u.arrived src dst 0 = some p) :
    s.csrRequest src dst typ = if p.typ = typ then (u.takePacket src dst 0).serveRequest src dst p else u := by
  subst hu
  simp only [State.csrRequest_eq, some_]

/-- Does the endpoint of node `dst` stand as held for packet `p`? -/
def State.heldFor (s : State) (dst : Nat) (p : Packet) : Bool := match nodeKind dst with
  | .region r => !ownRegisters p && s.epHeld r
  | _ => false

theorem State.heldFor_free {s : State} {dst : Nat} {p : Packet} (h : ownRegisters p = true ∨ ∀ r, nodeKind dst = .region r → s.epHeld r = false) :
    s.heldFor dst p = false := by
  unfold State.heldFor
  split
  · next r kind =>
    rcases h with own | free
    · simp [own]
    · simp [free r kind]
  · rfl

theorem State.serveRequest_eq (s : State) (src dst : Nat) (p : Packet) : s.serveRequest src dst p =
    if s.heldFor dst p then s.respond dst p stNOT_READY 0
    else (s.access src dst p.addr (p.typ = 1) p.wide p.payload).2.respond (if ownRegisters p then routerNode (nodeRouter dst) else dst) p
      (s.access src dst p.addr (p.typ = 1) p.wide p.payload).1.1 (s.access src dst p.addr (p.typ = 1) p.wide p.payload).1.2 := rfl

/-- A response with status `st` to request `p` has entered after `z`. -/
def State.answersWith (z t : State) (p : Packet) (typ st : Nat) : Prop :=
  ∃ y, t = { z with net := z.net ++ [y] } ∧ y.dst = p.src ∧ y.typ = typ + 2 ∧ y.tag = p.tag ∧ y.status = st % 256

theorem State.respond_answers (z : State) (who : Nat) {p : Packet} {typ : Nat} (htyp : p.typ = typ) (small : typ < 2) (st x : Nat) : z.answersWith (z.respond who p st x) p typ st := by
  obtain ⟨y, eq, dst, -, -, ytyp, tag, status, -⟩ := z.respond_shows who p st x
  exact ⟨y, eq, dst, ytyp.trans (by omega), tag, status⟩

/-! ## Responses (R219, R221) -/

theorem Packet.h_lt (p : Packet) (lo w : Nat) : p.h lo w < 2 ^ w := bits_lt _ _ _

theorem State.csrResponse_none {s u : State} {src dst : Nat} (hu : u = s.carry src dst 1) (none_ : u.arrived src dst 1 = none) : s.csrResponse src dst = u := by
  subst hu
  simp only [State.csrResponse, State.deliver, none_]

theorem State.csrResponse_some {s u : State} {src dst : Nat} (hu : u = s.carry src dst 1) {p : Packet} (some_ : u.arrived src dst 1 = some p) :
    s.csrResponse src dst = (u.takePacket src dst 1).sinkResponse dst p := by
  subst hu
  simp only [State.csrResponse, State.deliver, some_]

/-- The state with the outstanding requests `l`. -/
def State.withReqs (s : State) (l : List Pend) : State := { s with reqs := l }

/-- What a region or another endpoint does with the response that ended a request. -/
def State.slotAnswer (t : State) (dst tag status data : Nat) : State := match nodeKind dst with
  | .region r => t.rxResponse r tag status data
  | _ => t

theorem State.slotAnswer_region {t : State} {dst r : Nat} (kind : nodeKind dst = .region r) (tag status data : Nat) :
    t.slotAnswer dst tag status data = t.rxResponse r tag status data := by
  simp only [State.slotAnswer, kind]

theorem State.slotAnswer_other {t : State} {dst : Nat} (kind : ∀ r, nodeKind dst ≠ .region r) (tag status data : Nat) : t.slotAnswer dst tag status data = t := by
  unfold State.slotAnswer
  split
  · next r h => exact absurd h (kind r)
  · rfl

theorem State.sinkResponse_late {w : State} {dst : Nat} {p : Packet} (h : w.answers dst p = none) : w.sinkResponse dst p = w.inc (NR (nodeRouter dst) 0x50) := by
  simp only [State.sinkResponse, h]

theorem State.sinkResponse_ends {w : State} {dst : Nat} {p : Packet} {x : Pend} (h : w.answers dst p = some x) :
    w.sinkResponse dst p = (w.withReqs (w.reqs.erase x)).slotAnswer dst p.tag p.status p.payload := by
  simp only [State.sinkResponse, h]
  rfl

theorem State.csrTimeout_busy {s : State} {n tag : Nat} (h : s.tagBusy n tag = true) : s.csrTimeout n tag =
    (s.withReqs (s.reqs.filter (fun x => !(x.node = n && x.tag = tag)))).slotAnswer n tag stTIMEOUT 0 :=
  (if_pos h).trans rfl

/-- A step's frame, seen from before the requests changed. -/
theorem State.changes.withReqs {s t : State} {l : List Pend} (h : (s.withReqs l).changes [.mem, .flips, .ueSeen] t) :
    s.changes [.reqs, .mem, .flips, .ueSeen] t :=
  (show s.changes [.reqs, .mem, .flips, .ueSeen] (s.withReqs l) from rfl).trans (h.mono (by decide))

theorem tagBusy_filter (s : State) (n tag : Nat) :
    (s.withReqs (s.reqs.filter (fun x => !(x.node = n && x.tag = tag)))).tagBusy n tag = false := by
  refine List.any_eq_false.mpr fun x hx => ?_
  have kept := (List.mem_filter.mp hx).2
  grind

/-- Settles O43: a request and a response by what the path carries, a timeout by the tag, and the region's slot by `rxResponse_fills` and `rxResponse_drops`. -/
theorem csrOverNetwork : Obligations.CsrOverNetwork := by
  refine ⟨fun s src dst v => s.carry_frame src dst v, fun s src dst c typ which u hu => ?_, fun s src dst u hu => ?_, fun s src tag => ?_⟩
  · have run : exec c s = .next (s.csrRequest src.toNat dst.toNat typ) := by
      rcases which with ⟨rfl, rfl⟩ | ⟨rfl, rfl⟩ <;> rfl
    have small : typ < 2 := by omega
    refine ⟨fun none_ => completes_by run (State.csrRequest_none hu none_) rfl, fun p some_ w hw => ?_⟩
    subst hw
    have next := State.csrRequest_some (typ := typ) hu some_
    refine ⟨fun ne => completes_by run (next.trans (if_neg ne)) rfl, fun same free st x z acc => ?_, fun same own r kind held => ?_⟩
    · have free' := State.heldFor_free free
      have writes : (decide (typ = 1)) = decide (p.typ = 1) := by rw [same]
      rw [writes] at acc
      rw [if_pos same, State.serveRequest_eq, if_neg (by simp [free']), acc] at next
      exact completes_by run next (State.respond_answers _ _ same small _ _)
    · have held' : (u.takePacket src.toNat dst.toNat 0).heldFor dst.toNat p = true := by simp [State.heldFor, kind, own, held]
      rw [if_pos same, State.serveRequest_eq, if_pos held'] at next
      exact completes_by run next (State.respond_answers _ _ same small _ _)
  · refine ⟨fun none_ => completes_by rfl (State.csrResponse_none hu none_) rfl, fun p some_ w hw => ?_⟩
    have next := State.csrResponse_some hu some_
    rw [← hw] at next
    clear hw hu some_
    have tag := p.h_lt 32 8
    have status := p.h_lt 40 8
    have payload := p.h_lt 96 64
    refine ⟨fun late => ?_, fun x ends => ⟨fun other => ?_, fun r kind free en => ?_, fun r kind off => ?_⟩⟩
    · refine completes_by rfl (next.trans (State.sinkResponse_late late)) ?_
      exact ⟨State.reg_inc_same _ _, fun a h => State.reg_inc_ne _ _ _ h, rfl⟩
    · exact completes_by rfl (next.trans ((State.sinkResponse_ends ends).trans (State.slotAnswer_other other _ _ _))) rfl
    · refine completes_by rfl (next.trans ((State.sinkResponse_ends ends).trans (State.slotAnswer_region kind _ _ _))) ?_
      obtain ⟨state, data, bytes, frame⟩ := State.rxResponse_fills (s := w.withReqs (w.reqs.erase x))
        free en p.tag p.status tag status payload
      exact ⟨frame.same .reqs (by decide), state, data, bytes, frame.withReqs⟩
    · refine completes_by rfl (next.trans ((State.sinkResponse_ends ends).trans (State.slotAnswer_region kind _ _ _))) ?_
      rw [State.rxResponse_drops (s := w.withReqs (w.reqs.erase x)) off]
      exact ⟨rfl, State.reg_inc_same _ _, fun a h => State.reg_inc_ne _ _ _ h, rfl⟩
  · refine ⟨fun idle => completes_by rfl (if_neg (by simp [idle])) rfl, fun busy l hl => ?_⟩
    subst hl
    have next := State.csrTimeout_busy busy
    refine ⟨fun other => ?_, fun r kind free en => ?_, fun r kind off => ?_⟩
    · refine completes_by rfl (next.trans (State.slotAnswer_other other _ _ _)) ⟨rfl, tagBusy_filter _ _ _⟩
    · refine completes_by rfl (next.trans (State.slotAnswer_region kind _ _ _)) ?_
      obtain ⟨state, data, -, frame⟩ := State.rxResponse_fills (s := s.withReqs (s.reqs.filter (fun x => !(x.node = src.toNat && x.tag = tag.toNat))))
        free en tag.toNat stTIMEOUT tag.isLt (by decide) (data := 0) (by norm_num)
      exact ⟨frame.same .reqs (by decide), state, data, frame.same .rg (by decide), frame.same .qs (by decide), frame.same .csr (by decide),
        frame.same .net (by decide)⟩
    · refine completes_by rfl (next.trans (State.slotAnswer_region kind _ _ _)) ?_
      rw [State.rxResponse_drops (s := s.withReqs (s.reqs.filter (fun x => !(x.node = src.toNat && x.tag = tag.toNat)))) off]
      exact ⟨rfl, State.reg_inc_same _ _, fun a h => State.reg_inc_ne _ _ _ h, rfl⟩

end Sys2Proof.Machine
end

section
/-! Bulk and trace packets and the TX rings (spec/07 R207, R220 to R224; spec/16 R485, R486). -/
namespace Sys2Proof.Machine

/-! ## RX rings (R220, R221) -/

theorem ringSize_pos (d : Nat) : 0 < ringSize d := by
  have : 2 ^ 6 ≤ 2 ^ (bits d 8 4 + 6) := Nat.pow_le_pow_right (by decide) (by omega)
  unfold ringSize
  omega

theorem ringSize_le {d : Nat} (h : bits d 8 4 ≤ 6) : ringSize d ≤ 4080 := by
  have : 2 ^ (bits d 8 4 + 6) ≤ 2 ^ 12 := Nat.pow_le_pow_right (by decide) (by omega)
  unfold ringSize
  omega

/-- Writing an entry changes bytes of the ring's block only. -/
theorem State.putEntry_leaves (r : Nat) {d : Nat} (small : bits d 8 4 ≤ 6) (l : List Nat) : ∀ (s : State) (o : Nat),
    (∀ a, a / 32768 ≠ ringBlock r d → (s.putEntry r d o l).byte a = s.byte a) ∧ s.changes [.mem, .flips, .ueSeen] (s.putEntry r d o l) := by
  have size := ringSize_le small
  have pos := ringSize_pos d
  induction l with
  | nil => exact fun s o => ⟨fun _ _ => rfl, s.changes_refl _⟩
  | cons v vs ih =>
    intro s o
    have lt := Nat.mod_lt o pos
    obtain ⟨-, -, bytes, frame⟩ := s.putRing_shows r d (16 + o % ringSize d) v
    obtain ⟨bytes', frame'⟩ := ih (s.putRing r d (16 + o % ringSize d) v) (o + 1)
    exact ⟨fun a out => (bytes' a out).trans (bytes (by omega) a out), frame.trans frame'⟩

/-- A packet that the ring takes moves the write offset by its words. -/
theorem State.putPacket_shows (s : State) (r : Nat) {d : Nat} (small : bits d 8 4 ≤ 6) (wr : Nat) (e : List Nat) : let t := s.putPacket r d wr e
    t.ringWord r d 0 = (wr % ringSize d + e.length) % ringSize d ∧ (∀ a, a / 32768 ≠ ringBlock r d → t.byte a = s.byte a) ∧
    s.changes [.mem, .flips, .ueSeen] t := by
  have lt := Nat.mod_lt (wr % ringSize d + e.length) (ringSize_pos d)
  have size := ringSize_le small
  obtain ⟨bytes, frame⟩ := State.putEntry_leaves r small e s (wr % ringSize d)
  obtain ⟨word, -, bytes', frame'⟩ := (s.putEntry r d (wr % ringSize d) e).putRing_shows r d 0 ((wr % ringSize d + e.length) % ringSize d)
  exact ⟨word.trans (Nat.mod_eq_of_lt (by omega)), fun a out => (bytes' (by decide) a out).trans (bytes a out), frame.trans frame'⟩

/-- Reading a ring's word leaves everything but what an uncorrectable word reports. -/
theorem State.ringRead_leaves (s : State) (r d w : Nat) : s.changes [.ueSeen, .hl, .free] (s.ringRead r d w).2 := by
  have read := s.readWord_leaves (ringBlock r d) w
  rcases h : s.readWord (ringBlock r d) w with ⟨⟨v, ce, ue⟩, u⟩
  rw [h] at read
  simp only [State.ringRead, h]
  cases ue
  · exact read.mono (by decide)
  · exact (read.mono (by decide)).trans ((u.foundUE_leaves _ _ _).mono (by decide))

theorem State.ringLook_leaves (s : State) (r : Nat) : s.changes [.ueSeen, .hl, .free] (s.ringLook r) :=
  (s.ringRead_leaves _ _ _).trans (State.ringRead_leaves _ _ _ _)

theorem State.ringLook_clean {s : State} {r : Nat} (clean : s.flipMask (ringBlock r (s.rxRing r)) 0 = 0)
    (clean' : s.flipMask (ringBlock r (s.rxRing r)) 1 = 0) : s.ringLook r = s := by
  rw [State.ringLook, State.ringRead_clean clean, State.ringRead_clean clean']

section
variable {s : State} {r : Nat} {p : Packet}

/-- What a region endpoint does with a bulk or trace packet (R221, R224). -/
theorem State.rxPacket_eq : s.rxPacket r p =
    if s.epHeld r || !ringEn (s.rxRing r) || p.poison then s.epDisc r
    else if s.ringFree r (s.rxRing r) < (entryWords p).length then (s.ringLook r).epDisc r
    else (s.ringLook r).putPacket r (s.rxRing r) (s.ringWord r (s.rxRing r) 0) (entryWords p) := by
  rcases h : s.ringRead r (s.rxRing r) 0 with ⟨wr, t⟩
  rcases h' : t.ringRead r (s.rxRing r) 1 with ⟨rd, u⟩
  simp only [State.rxPacket, State.ringLook, State.ringWord, h, h']

theorem State.rxPacket_drops (h : s.epHeld r = true ∨ ringEn (s.rxRing r) = false ∨ p.poison = true) : s.rxPacket r p = s.epDisc r := by
  rw [State.rxPacket_eq, if_pos]
  rcases h with h | h | h <;> simp [h]

theorem State.rxPacket_full (free : s.epHeld r = false) (en : ringEn (s.rxRing r) = true) (sound : p.poison = false)
    (full : s.ringFree r (s.rxRing r) < (entryWords p).length) : s.rxPacket r p = (s.ringLook r).epDisc r := by
  rw [State.rxPacket_eq, if_neg (by simp [free, en, sound]), if_pos full]

theorem State.rxPacket_takes (free : s.epHeld r = false) (en : ringEn (s.rxRing r) = true) (sound : p.poison = false)
    (room : (entryWords p).length ≤ s.ringFree r (s.rxRing r)) :
    s.rxPacket r p = (s.ringLook r).putPacket r (s.rxRing r) (s.ringWord r (s.rxRing r) 0) (entryWords p) := by
  rw [State.rxPacket_eq, if_neg (by simp [free, en, sound]), if_neg (by omega)]

theorem State.rxWaits_eq : s.rxWaits r p = (p.typ = 4 && !s.epHeld r && ringEn (s.rxRing r) && !ringFullDrop (s.rxRing r) && !p.poison &&
    decide (s.ringFree r (s.rxRing r) < (entryWords p).length)) := rfl
end

/-- What the region endpoint `dst` does with what has arrived on virtual channel `v`. -/
def State.regionTakes (s : State) (src dst r v : Nat) : State :=
  match (s.carry src dst v).arrived src dst v with
  | some p => if v = 2 ∧ (s.carry src dst v).rxWaits r p = true then (s.carry src dst v).ringLook r else ((s.carry src dst v).takePacket src dst v).rxPacket r p
  | none => s.carry src dst v

theorem State.bulkData_region {dst r : Nat} (kind : nodeKind dst = .region r) (s : State) (src : Nat) : s.bulkData src dst = s.regionTakes src dst r 2 := by
  rcases h : (s.carry src dst 2).arrived src dst 2 with _ | p <;> simp only [State.bulkData, kind, State.bulkRegion, State.regionTakes, h, true_and]

theorem State.tracePacket_region {dst r : Nat} (kind : nodeKind dst = .region r) (s : State) (src : Nat) : s.tracePacket src dst = s.regionTakes src dst r 3 := by
  rcases h : (s.carry src dst 3).arrived src dst 3 with _ | p <;>
    simp only [State.tracePacket, kind, State.deliver, State.regionTakes, h, Nat.reduceEqDiff, false_and, if_false]

theorem State.regionTakes_none {s u : State} {src dst r v : Nat} (hu : u = s.carry src dst v) (none_ : u.arrived src dst v = none) : s.regionTakes src dst r v = u := by
  subst hu
  simp only [State.regionTakes, none_]

theorem State.regionTakes_some {s u : State} {src dst r v : Nat} (hu : u = s.carry src dst v) {p : Packet} (some_ : u.arrived src dst v = some p) :
    s.regionTakes src dst r v = if v = 2 ∧ u.rxWaits r p = true then u.ringLook r else (u.takePacket src dst v).rxPacket r p := by
  subst hu
  simp only [State.regionTakes, some_]

/-! ## Lanes (R485, R486) -/

theorem State.laneTransmit_none {s u : State} {src q : Nat} (hu : u = s.carry src (quadNode q) 2) (none_ : u.arrived src (quadNode q) 2 = none) :
    s.laneTransmit src q = u := by
  subst hu
  simp only [State.laneTransmit, State.deliver, none_]

theorem State.laneTransmit_some {s u : State} {src q : Nat} (hu : u = s.carry src (quadNode q) 2) {p : Packet} (some_ : u.arrived src (quadNode q) 2 = some p) :
    s.laneTransmit src q = (u.takePacket src (quadNode q) 2).quadPacket q p := by
  subst hu
  simp only [State.laneTransmit, State.deliver, some_]

theorem weaveThr_nil (k : Nat) : weaveThr k [] = [] := rfl

theorem weaveThr_cons (k : Nat) (w : DWord × Nat) (ws : List (DWord × Nat)) :
    weaveThr k (w :: ws) = if 63 ≤ k then thrBlock :: w :: weaveThr 1 ws else w :: weaveThr (k + 1) ws := rfl

/-- Without the blocks of THROTTLE the words stand in their order. -/
theorem weaveThr_filter {l : List (DWord × Nat)} (h : thrBlock ∉ l) : ∀ k, (weaveThr k l).filter (fun w => w ≠ thrBlock) = l := by
  induction l with
  | nil => exact fun k => rfl
  | cons w ws ih =>
    intro k
    obtain ⟨ne, rest⟩ := not_or.mp (mt List.mem_cons.mpr h)
    have keep : decide (w ≠ thrBlock) = true := decide_eq_true (Ne.symm ne)
    have drop : decide (thrBlock ≠ thrBlock) = false := by simp
    rw [weaveThr_cons]
    split
    · rw [List.filter_cons_of_neg (by simp), List.filter_cons_of_pos (p := fun w => decide (w ≠ thrBlock)) keep, ih rest]
    · rw [List.filter_cons_of_pos (p := fun w => decide (w ≠ thrBlock)) keep, ih rest]

/-- With `k` blocks gone since the last one, the next stands within `64 - k`, if so many words go. -/
theorem weaveThr_soon (l : List (DWord × Nat)) : ∀ k, max 1 (64 - k) ≤ (weaveThr k l).length → thrBlock ∈ (weaveThr k l).take (max 1 (64 - k)) := by
  induction l with
  | nil =>
    intro k long
    rw [weaveThr_nil, List.length_nil] at long
    omega
  | cons w ws ih =>
    intro k long
    rw [weaveThr_cons] at long ⊢
    split at long
    · next past => rw [if_pos past, show max 1 (64 - k) = 1 by omega]; exact List.mem_cons_self
    · next under =>
      have step : max 1 (64 - k) = max 1 (64 - (k + 1)) + 1 := by omega
      rw [if_neg under, step, List.take_succ_cons]
      rw [step, List.length_cons] at long
      exact List.mem_cons_of_mem _ (ih (k + 1) (by omega))

/-- In every 64 words one is a block of THROTTLE. -/
theorem weaveThr_window (l : List (DWord × Nat)) : ∀ k i, i + 64 ≤ (weaveThr k l).length → thrBlock ∈ ((weaveThr k l).drop i).take 64 := by
  induction l with
  | nil =>
    intro k i long
    rw [weaveThr_nil, List.length_nil] at long
    omega
  | cons w ws ih =>
    intro k i long
    by_cases start : i = 0
    · subst start
      have soon := weaveThr_soon (w :: ws) k (by omega)
      exact List.take_subset_take_left _ (by omega) soon
    obtain ⟨j, rfl⟩ := Nat.exists_eq_succ_of_ne_zero start
    rw [weaveThr_cons] at long ⊢
    split at long
    · next past =>
      rw [if_pos past, List.drop_succ_cons]
      rw [List.length_cons, List.length_cons] at long
      cases j with
      | zero =>
        rw [List.drop_zero, List.take_succ_cons]
        exact List.mem_cons_of_mem _ (weaveThr_soon ws 1 (by omega))
      | succ j => exact ih 1 j (by omega)
    · next under =>
      rw [if_neg under, List.drop_succ_cons]
      rw [List.length_cons] at long
      exact ih (k + 1) j (by omega)

/-- The words of a packet as a lane sends them (R486). -/
theorem State.laneWords_shows (s : State) (n : Nat) {l : List (DWord × Nat)} (h : thrBlock ∉ l) :
    (s.laneCode n ≠ 2 ∨ s.laneThr n = false → s.laneWords n l = l) ∧ (s.laneWords n l).filter (fun w => w ≠ thrBlock) = l ∧
    (s.laneCode n = 2 → s.laneThr n = true → ∀ i, i + 64 ≤ (s.laneWords n l).length → thrBlock ∈ ((s.laneWords n l).drop i).take 64) := by
  have plain : l.filter (fun w => w ≠ thrBlock) = l := List.filter_eq_self.mpr fun w hw => decide_eq_true fun e => h (e ▸ hw)
  unfold State.laneWords
  split
  · next on =>
    refine ⟨fun off => ?_, weaveThr_filter h _, fun _ _ => weaveThr_window l _⟩
    rcases off with off | off <;> simp [off] at on
  · next off => exact ⟨fun _ => rfl, plain, fun code thr => absurd (by simp [code, thr]) off⟩

/-- The header word that a packet's words follow where TX_HDR asks for it. -/
def State.quadHeader (s : State) (n : Nat) (p : Packet) : List (DWord × Nat) :=
  if s.bit (LN n 0xC) 0 then [(p.headerWord, if s.laneCode n = 2 then 0xC5 else 0)] else []

theorem State.quadHeader_words (s : State) (n : Nat) (p : Packet) : thrBlock ∉ s.quadHeader n p ++ p.data.map (fun w => (w, 0)) := by
  have data : thrBlock ∉ p.data.map (fun w => (w, 0)) := by
    intro h
    obtain ⟨w, -, e⟩ := List.mem_map.mp h
    simpa [thrBlock] using congrArg Prod.snd e
  have head : thrBlock ∉ s.quadHeader n p := by
    unfold State.quadHeader
    intro h
    split at h
    · have e := congrArg Prod.snd (List.mem_singleton.mp h)
      split at e <;> simp [thrBlock] at e
    · exact absurd h List.not_mem_nil
  exact fun h => (List.mem_append.mp h).elim head data

theorem State.quadPacket_counts {s : State} {q n : Nat} {p : Packet} (hn : n = 4 * q + p.h 160 2) (h : p.poison = true ∨ s.laneSends n = false) :
    s.quadPacket q p = s.inc (LN n 0x34) := by
  subst hn
  exact if_pos (by rcases h with h | h <;> simp [h])

theorem State.quadPacket_sends {s : State} {q n : Nat} {p : Packet} (hn : n = 4 * q + p.h 160 2) (sound : p.poison = false) (sends : s.laneSends n = true) :
    let ws := s.laneWords n (s.quadHeader n p ++ p.data.map (fun w => (w, 0)))
    s.quadPacket q p = s.setLane n { s.laneOf n with
      run := runAfter (if (s.laneOf n).busyPs < s.timePs then 0 else (s.laneOf n).run) ws
      busyPs := max s.timePs (s.laneOf n).busyPs + ws.length * s.laneWordPs n
      tx := (s.laneOf n).tx ++ (if s.laneTraffic n then ws else []) } := by
  subst hn
  exact if_neg (by simp [sound, sends])

/-! ## TX rings (R222) -/

theorem State.inject_sends {s : State} {n : Nat} {hdr : BitVec 256} {data : List DWord} (kind : nodeKind n ≠ .nothing) (on : s.routersOn = true) {p : Packet}
    (hp : p = { hdr := BitVec.ofNat 256 (setBits hdr.toNat 8 8 n), data := data }) (ok : headerOk p = true) (typ : 2 ≤ p.typ) :
    s.inject n hdr data = { s with net := s.net ++ [p.routed] } := by
  have other : decide (p.typ = 0) = false := decide_eq_false (by omega)
  have other' : decide (p.typ = 1) = false := decide_eq_false (by omega)
  unfold State.inject
  dsimp only
  rw [if_neg (by simp [kind, on]), ← hp, if_neg (by simp [ok]), if_pos (by simp [other, other']), State.send_eq]

theorem State.ringWord_clean {s : State} {r d w : Nat} (clean : s.flipMask (ringBlock r d) w = 0) : s.ringWord r d w = s.rawWord (ringBlock r d) w := by
  rw [State.ringWord, State.ringRead_clean clean]

/-- The words of an entry whose codes are clean are read without a trace. -/
theorem State.readEntry_clean {s : State} {r d : Nat} (clean : ∀ w, s.flipMask (ringBlock r d) w = 0) (n : Nat) : ∀ o,
    s.readEntry r d o n = ((List.range n).map (fun i => s.ringWord r d (16 + (o + i) % ringSize d)), s) := by
  induction n with
  | zero => exact fun o => rfl
  | succ n ih =>
    intro o
    have shift i : o + 1 + i = o + (i + 1) := by omega
    rw [State.readEntry, State.ringRead_clean (clean _)]
    dsimp only
    rw [ih (o + 1), List.range_succ_eq_map, List.map_cons, List.map_map]
    refine Prod.ext (congrArg₂ List.cons (State.ringWord_clean (clean _)).symm (List.map_congr_left fun i _ => ?_)) rfl
    exact congrArg (fun k => s.ringWord r d (16 + k % ringSize d)) (shift i)

/-- An endpoint whose packets have entered the network has nothing to wait for. -/
theorem State.flush_left {s : State} {n : Nat} (h : State.allLeft n s = true) : s.flush n = s := by
  rw [State.flush, show s.netTime = (63 + 16 * (s.net.map Packet.flits).sum) + 1 by unfold State.netTime; omega, State.runNet, if_pos (by simp [h])]

section
variable {s : State} {r d : Nat} (clean : ∀ w, s.flipMask (ringBlock r d) w = 0)
include clean

theorem State.txPoll_clean (hd : d = s.txRing r) (en : ringEn d = true) (free : s.epHeld r = false) (on : s.routersOn = true) : s.txPoll r =
    if s.ringWord r d 0 % ringSize d = s.ringWord r d 1 % ringSize d then s
    else if State.allLeft (regionNode r) (s.flush (regionNode r)) then (s.flush (regionNode r)).txEntry r d (s.ringWord r d 1 % ringSize d)
    else s.flush (regionNode r) := by
  rw [State.txPoll, ← hd, if_neg (by simp [en, free, on]), State.ringRead_clean (clean 0), State.ringWord_clean (clean 0), State.ringWord_clean (clean 1)]
  dsimp only
  rw [State.ringRead_clean (clean 1)]

/-- The entry at offset `rd` enters the network where nothing stands against it. -/
theorem State.txEntry_clean {rd : Nat} {w : Nat → Nat} (hw : ∀ i, w i = s.ringWord r d (16 + (rd + i) % ringSize d)) {hdr : BitVec 256}
    (hh : hdr = BitVec.ofNat 256 (w 0 + w 1 * 2 ^ 64 + w 2 * 2 ^ 128 + w 3 * 2 ^ 192)) (typ : 2 ≤ bits hdr.toNat 18 4) : s.txEntry r d rd =
    (s.inject (regionNode r) hdr ((List.range (4 * bits hdr.toNat 22 5)).map (fun i => BitVec.ofNat 64 (w (4 + i))))).putRing r d 1
      ((rd + 4 + 4 * bits hdr.toNat 22 5) % ringSize d) := by
  have header : ringHeader ((List.range 4).map (fun i => s.ringWord r d (16 + (rd + i) % ringSize d))) = hdr := by
    rw [hh, hw, hw, hw, hw]
    rfl
  have data (n : Nat) : ((List.range n).map (fun i => s.ringWord r d (16 + (rd + 4 + i) % ringSize d))).map (BitVec.ofNat 64) =
      (List.range n).map (fun i => BitVec.ofNat 64 (w (4 + i))) := by
    rw [List.map_map]
    refine List.map_congr_left fun i _ => ?_
    rw [hw, ← Nat.add_assoc]
    rfl
  rw [State.txEntry, State.readEntry_clean clean]
  dsimp only
  rw [header, State.txSend, if_neg (by simp; omega), State.readEntry_clean clean]
  dsimp only
  rw [data]
end

end Sys2Proof.Machine
end

section
/-! O44: bulk and trace packets. -/
namespace Sys2Proof.Machine

theorem nodeKind_regionNode (r : Fin 96) : nodeKind (regionNode r) ≠ .nothing := by revert r; decide

theorem State.byte_of_mem {s t : State} (h : t.mem = s.mem) (a : Nat) : t.byte a = s.byte a := by rw [State.byte, State.byte, h]

section
variable {s u : State} {src dst r v : Nat} {p : Packet} (hu : u = s.carry src dst v) (some_ : u.arrived src dst v = some p)

/-- The network without the packet that its endpoint takes. -/
def State.netLeft (u : State) (src dst v : Nat) : List Packet := u.net.eraseP (fun q => q.onPath src dst v && u.foremost q)

/-- Taking the packet leaves what the endpoint looks at. -/
theorem State.takePacket_rx (u : State) (src dst v r : Nat) : (u.takePacket src dst v).rxRing r = u.rxRing r ∧ (u.takePacket src dst v).epHeld r = u.epHeld r ∧
    (∀ d, (u.takePacket src dst v).ringFree r d = u.ringFree r d) ∧ (∀ d, (u.takePacket src dst v).ringWord r d 0 = u.ringWord r d 0) ∧
    (u.takePacket src dst v).net = u.netLeft src dst v ∧ u.changes [.net] (u.takePacket src dst v) :=
  have word (d w : Nat) : (u.takePacket src dst v).ringWord r d w = u.ringWord r d w := State.ringWord_congr rfl rfl rfl
  ⟨rfl, rfl, fun d => by rw [State.ringFree, word, word, State.ringFree], fun d => word d 0, rfl, rfl⟩

include hu some_

theorem State.regionTakes_goes (h : v = 2 → u.rxWaits r p = false) : s.regionTakes src dst r v = (u.takePacket src dst v).rxPacket r p :=
  (State.regionTakes_some hu some_).trans (if_neg fun ⟨e, w⟩ => by simp [h e] at w)

/-- A packet with room lies in the ring. -/
theorem State.regionTakes_stores (free : u.epHeld r = false) (en : ringEn (u.rxRing r) = true) (sound : p.poison = false)
    (fits : (entryWords p).length ≤ u.ringFree r (u.rxRing r)) (small : bits (u.rxRing r) 8 4 ≤ 6) : let t := s.regionTakes src dst r v
    t.net = u.netLeft src dst v ∧
    t.ringWord r (u.rxRing r) 0 = (u.ringWord r (u.rxRing r) 0 % ringSize (u.rxRing r) + (entryWords p).length) % ringSize (u.rxRing r) ∧
    (∀ a, a / 32768 ≠ ringBlock r (u.rxRing r) → t.byte a = s.byte a) ∧ s.changes [.net, .noc, .csr, .ueSeen, .hl, .free, .mem, .flips] t := by
  have before : s.changes [.net, .noc, .csr] u := hu ▸ s.carry_frame src dst v
  have idle : v = 2 → u.rxWaits r p = false := fun _ => by rw [State.rxWaits_eq, decide_eq_false (Nat.not_lt.mpr fits), Bool.and_false]
  have goes := State.regionTakes_goes hu some_ idle
  obtain ⟨ring, held, room, word, net, same⟩ := u.takePacket_rx src dst v r
  generalize u.takePacket src dst v = w at *
  have taken := State.rxPacket_takes (s := w) (r := r) (p := p) (held.trans free) (ring ▸ en) sound (by rw [ring, room]; exact fits)
  rw [ring, word] at taken
  obtain ⟨offset, bytes, frame⟩ := (w.ringLook r).putPacket_shows r small (u.ringWord r (u.rxRing r) 0) (entryWords p)
  dsimp only
  rw [goes, taken]
  have look := w.ringLook_leaves r
  generalize w.ringLook r = x at *
  have mem : x.mem = s.mem := (look.same .mem (by decide)).trans ((same.same .mem (by decide)).trans (before.same .mem (by decide)))
  refine ⟨(frame.same .net (by decide)).trans ((look.same .net (by decide)).trans net), offset,
    fun a out => (bytes a out).trans (State.byte_of_mem mem a), ?_⟩
  exact (((before.mono (by decide)).trans (same.mono (by decide))).trans (look.mono (by decide))).trans (frame.mono (by decide))

/-- A packet that finds no room is counted. -/
theorem State.regionTakes_full (free : u.epHeld r = false) (en : ringEn (u.rxRing r) = true) (sound : p.poison = false)
    (full : u.ringFree r (u.rxRing r) < (entryWords p).length) (drop : v = 3 ∨ ringFullDrop (u.rxRing r) = true) : let t := s.regionTakes src dst r v
    t.net = u.netLeft src dst v ∧ u.changes [.net, .csr, .ueSeen, .hl, .free] t ∧
    t.reg (NR (r % 48) 0x54) = min (u.reg (NR (r % 48) 0x54) + 1) (2 ^ 32 - 1) ∧ ∀ a, a ≠ NR (r % 48) 0x54 → t.reg a = u.reg a := by
  have idle : v = 2 → u.rxWaits r p = false := fun hv => by
    have drops : ringFullDrop (u.rxRing r) = true := drop.resolve_left (by omega)
    rw [State.rxWaits_eq, drops]
    simp
  have goes := State.regionTakes_goes hu some_ idle
  clear hu
  obtain ⟨ring, held, room, -, net, same⟩ := u.takePacket_rx src dst v r
  generalize u.takePacket src dst v = w at *
  have dropped := State.rxPacket_full (s := w) (r := r) (p := p) (held.trans free) (ring ▸ en) sound (by rw [ring, room]; exact full)
  dsimp only
  rw [goes, dropped]
  have look := w.ringLook_leaves r
  generalize w.ringLook r = x at *
  obtain ⟨count, rest, frame⟩ := x.epDisc_shows r
  have csr : x.csr = u.csr := (look.same .csr (by decide)).trans (same.same .csr (by decide))
  refine ⟨(frame.same .net (by decide)).trans ((look.same .net (by decide)).trans net),
    ((same.mono (by decide)).trans (look.mono (by decide))).trans (frame.mono (by decide)), count.trans ?_, fun a ne => (rest a ne).trans (reg_congr csr a)⟩
  rw [reg_congr csr]

/-- A packet that is poisoned, or whose endpoint takes none, is counted. -/
theorem State.regionTakes_drops (off : u.epHeld r = true ∨ ringEn (u.rxRing r) = false ∨ p.poison = true) : let t := s.regionTakes src dst r v
    t.net = u.netLeft src dst v ∧ u.changes [.net, .csr] t ∧
    t.reg (NR (r % 48) 0x54) = min (u.reg (NR (r % 48) 0x54) + 1) (2 ^ 32 - 1) ∧ ∀ a, a ≠ NR (r % 48) 0x54 → t.reg a = u.reg a := by
  have idle : v = 2 → u.rxWaits r p = false := fun _ => by
    rw [State.rxWaits_eq]
    rcases off with off | off | off <;> simp [off]
  have goes := State.regionTakes_goes hu some_ idle
  clear hu
  obtain ⟨ring, held, -, -, net, same⟩ := u.takePacket_rx src dst v r
  generalize u.takePacket src dst v = w at *
  have dropped := State.rxPacket_drops (s := w) (r := r) (p := p) (by rw [held, ring]; exact off)
  dsimp only
  rw [goes, dropped]
  obtain ⟨count, rest, frame⟩ := w.epDisc_shows r
  have csr : w.csr = u.csr := same.same .csr (by decide)
  refine ⟨(frame.same .net (by decide)).trans net, (same.mono (by decide)).trans (frame.mono (by decide)), count.trans ?_,
    fun a ne => (rest a ne).trans (reg_congr csr a)⟩
  rw [reg_congr csr]
end

/-- What a lane's quad does with a bulk packet. -/
theorem lanePackets (s : State) (src : BitVec 8) (q : Fin 24) (u : State) (hu : u = s.carry src.toNat (quadNode q) 2) :
    (u.arrived src.toNat (quadNode q) 2 = none → Completes (.laneTransmit src q) s (fun t => t = u)) ∧
    (∀ p, u.arrived src.toNat (quadNode q) 2 = some p → ∀ n, n = 4 * q.val + p.h 160 2 →
      (p.poison = false → u.laneSends n = true → ∀ l : List (DWord × Nat), l = (if u.bit (LN n 0xC) 0 then
          [(BitVec.ofNat 64 (p.h 160 32 + p.h 192 32 * 2 ^ 32), if u.laneCode n = 2 then 0xC5 else 0)] else []) ++ p.data.map (fun w => (w, 0)) →
        Completes (.laneTransmit src q) s (fun t =>
          (∃ ws run, (u.laneCode n ≠ 2 ∨ u.laneThr n = false → ws = l) ∧ ws.filter (fun w => w ≠ thrBlock) = l ∧
            (u.laneCode n = 2 → u.laneThr n = true → ∀ i, i + 64 ≤ ws.length → thrBlock ∈ (ws.drop i).take 64) ∧
            t.laneOf n = { s.laneOf n with
              tx := (s.laneOf n).tx ++ (if u.laneTraffic n then ws else []), run := run
              busyPs := max u.timePs (s.laneOf n).busyPs + ws.length * u.laneWordPs n }) ∧
          (∀ k, k ≠ n → t.laneOf k = s.laneOf k) ∧
          t.net = u.net.eraseP (fun y => y.onPath src.toNat (quadNode q) 2 && u.foremost y) ∧ { t with net := u.net, lane := u.lane } = u)) ∧
      ((p.poison = true ∨ u.laneSends n = false) → Completes (.laneTransmit src q) s (fun t =>
        t.reg (LN n 0x34) = min (u.reg (LN n 0x34) + 1) (2 ^ 32 - 1) ∧
        t.net = u.net.eraseP (fun y => y.onPath src.toNat (quadNode q) 2 && u.foremost y) ∧ { t with net := u.net, csr := u.csr } = u))) := by
  have before : s.changes [.net, .noc, .csr] u := hu ▸ s.carry_frame src.toNat (quadNode q) 2
  have lanes : u.lane = s.lane := before.same .lane (by decide)
  refine ⟨fun none_ => completes_by rfl (State.laneTransmit_none hu none_) rfl, fun p some_ n hn => ⟨fun sound sends l hl => ?_, fun off => ?_⟩⟩
  · have sent := State.quadPacket_sends (s := u.takePacket src.toNat (quadNode q) 2) hn sound sends
    refine completes_by rfl ((State.laneTransmit_some hu some_).trans sent) ?_
    obtain ⟨plain, words, often⟩ := (u.takePacket src.toNat (quadNode q) 2).laneWords_shows n ((u.takePacket src.toNat (quadNode q) 2).quadHeader_words n p)
    have lane : (u.takePacket src.toNat (quadNode q) 2).laneOf n = s.laneOf n := congrArg (fun l => mget _ l n) lanes
    rw [lane]
    generalize (u.takePacket src.toNat (quadNode q) 2).laneWords n _ = ws at *
    generalize runAfter _ ws = run
    refine ⟨⟨ws, run, fun h => (plain h).trans hl.symm, words.trans hl.symm, often, State.laneOf_setLane_same _ _ _⟩, fun k ne => ?_, rfl, rfl⟩
    exact (State.laneOf_setLane_ne _ _ _ _ ne).trans (congrArg (fun l => mget _ l k) lanes)
  · have counted := State.quadPacket_counts (s := u.takePacket src.toNat (quadNode q) 2) hn off
    exact completes_by rfl ((State.laneTransmit_some hu some_).trans counted) ⟨State.reg_inc_same _ _, rfl, rfl⟩

theorem State.txPoll_off {s : State} {r : Nat} (off : ringEn (s.txRing r) = false ∨ s.epHeld r = true ∨ s.routersOn = false) : s.txPoll r = s := by
  rw [State.txPoll, if_pos]
  rcases off with off | off | off <;> simp [off]

/-- What a poll of a TX ring does. -/
theorem txPolls (s : State) (r : Fin 96) (d : Nat) (hd : d = s.txRing r) :
    (ringEn d = false ∨ s.epHeld r = true ∨ s.routersOn = false → Completes (.txRingPoll r) s (fun t => t = s)) ∧
    (ringEn d = true → s.epHeld r = false → s.routersOn = true → (∀ w, s.flipMask (ringBlock r d) w = 0) →
      ∀ rd, rd = s.ringWord r d 1 % ringSize d →
      (s.ringWord r d 0 % ringSize d = rd → Completes (.txRingPoll r) s (fun t => t = s)) ∧
      (s.ringWord r d 0 % ringSize d ≠ rd → State.allLeft (regionNode r) s = true →
        ∀ w : Nat → Nat, (∀ i, w i = s.ringWord r d (16 + (rd + i) % ringSize d)) →
        ∀ hdr : BitVec 256, hdr = BitVec.ofNat 256 (w 0 + w 1 * 2 ^ 64 + w 2 * 2 ^ 128 + w 3 * 2 ^ 192) →
        ∀ y : Packet, y = { hdr := BitVec.ofNat 256 (setBits hdr.toNat 8 8 (regionNode r)),
                            data := (List.range (4 * bits hdr.toNat 22 5)).map (fun i => BitVec.ofNat 64 (w (4 + i))) } →
        headerOk y = true → 2 ≤ y.typ → Completes (.txRingPoll r) s (fun t =>
          t = ({ s with net := s.net ++ [y.routed] } : State).putRing r d 1 ((rd + 4 + 4 * bits hdr.toNat 22 5) % ringSize d) ∧
          t.ringWord r d 0 = s.ringWord r d 0))) := by
  refine ⟨fun off => completes_by rfl (State.txPoll_off (hd ▸ off)) rfl, fun en free on clean rd hrd => ?_⟩
  have next := State.txPoll_clean clean hd en free on
  rw [← hrd] at next
  refine ⟨fun empty => completes_by rfl (next.trans (if_pos empty)) rfl, fun ne left w hw hdr hh y hy ok typ => ?_⟩
  have typ' : 2 ≤ bits hdr.toNat 18 4 := by
    rwa [hy, Packet.typ, Packet.h, BitVec.toNat_ofNat, bits_mod _ (by decide), bits_setBits_ne _ _ _ _ (.inr (by decide))] at typ
  rw [if_neg ne, State.flush_left left, if_pos left, State.txEntry_clean clean hw hh typ', State.inject_sends (nodeKind_regionNode r) on hy ok typ] at next
  refine completes_by rfl next ⟨rfl, ?_⟩
  obtain ⟨-, others, -, -⟩ := State.putRing_shows { s with net := s.net ++ [y.routed] } r d 1 ((rd + 4 + 4 * bits hdr.toNat 22 5) % ringSize d)
  exact (others 0 (by decide)).trans (State.ringWord_congr rfl rfl rfl)

/-- Settles O44, of a region endpoint, a quad and a TX ring each by its own lemma. -/
theorem bulkPackets : Obligations.BulkPackets := by
  refine ⟨fun s src dst v c which r kind u hu d hd => ?_, fun s src q u hu => lanePackets s src q u hu, fun s r d hd => txPolls s r d hd⟩
  have run : exec c s = .next (s.regionTakes src.toNat dst.toNat r v) := by
    rcases which with ⟨rfl, rfl⟩ | ⟨rfl, rfl⟩
    · exact congrArg Host.Outcome.next (State.bulkData_region kind s _)
    · exact congrArg Host.Outcome.next (State.tracePacket_region kind s _)
  subst hd
  refine ⟨fun none_ => completes_by run (State.regionTakes_none hu none_) rfl, fun p some_ => ⟨fun hv waits => ?_, fun free en sound fits small => ?_,
    fun free en sound full drop => completes_by run rfl (State.regionTakes_full hu some_ free en sound full drop),
    fun off => completes_by run rfl (State.regionTakes_drops hu some_ off)⟩⟩
  · exact completes_by run ((State.regionTakes_some hu some_).trans (if_pos ⟨hv, waits⟩))
      ⟨u.ringLook_leaves r, fun clean clean' => State.ringLook_clean clean clean'⟩
  · obtain ⟨net, offset, bytes, frame⟩ := State.regionTakes_stores hu some_ free en sound fits small
    exact completes_by run rfl ⟨net, offset, frame.same .rg (by decide), frame.same .qs (by decide), frame.same .fab (by decide),
      frame.same .reqs (by decide), bytes⟩

end Sys2Proof.Machine
end

section
/-! Lane words that join a queue and the tee (spec/06 R179, R183; spec/16 R482 to R484). -/
namespace Sys2Proof.Machine

/-! ## What a word that comes to a queue can change -/

/-- The queue `q` alone changes, and registers of its controller. -/
def State.ofController (q : Nat) (s t : State) : Prop := s.ofQueue q t ∧ ∀ a, (∀ o < 0x1000, a ≠ QC q o) → t.reg a = s.reg a

theorem State.ofController.trans {q : Nat} {s t u : State} (h : s.ofController q t) (k : t.ofController q u) : s.ofController q u :=
  ⟨h.1.trans k.1, fun a out => (k.2 a out).trans (h.2 a out)⟩

theorem State.ofController_refl (q : Nat) (s : State) : s.ofController q s := ⟨s.ofQueue_refl q, fun _ _ => rfl⟩

theorem State.ofController_setQueue (q : Nat) (s : State) (x : Queue) : s.ofController q (s.setQueue q x) :=
  ⟨s.ofQueue_setQueue q x, fun _ _ => rfl⟩

theorem State.ofController_inc (q : Nat) (s : State) {o : Nat} (lt : o < 0x1000) : s.ofController q (s.inc (QC q o)) :=
  ⟨State.ofQueue_csr q rfl, fun _ out => s.reg_inc_ne _ _ (out o lt)⟩

theorem State.ofController_episode (q : Nat) (s : State) : s.ofController q (s.episode q) :=
  have ⟨_, _, own, regs⟩ := s.episode_shows q
  ⟨own, fun a out => regs a (out 0x20 (by decide))⟩

theorem State.ofController_updThrottle (q : Nat) (s : State) : s.ofController q (s.updThrottle q) :=
  have ⟨_, _, others, frame⟩ := s.updThrottle_shows q
  ⟨⟨others, frame.mono (by decide)⟩, fun a _ => reg_congr (frame.same .csr (by decide)) a⟩

theorem State.ofController_discard (q : Nat) (s : State) : s.ofController q (s.discard q) :=
  (s.ofController_inc q (o := 0x44) (by decide)).trans (State.ofController_episode q _)

theorem State.ofController_reject (q : Nat) (s : State) : s.ofController q (s.reject q) :=
  (s.ofController_inc q (o := 0x48) (by decide)).trans (State.ofController_episode q _)

theorem State.ofController_append (q : Nat) (s : State) (v : Nat) (lane : Bool) : s.ofController q (s.append q v lane) :=
  (s.ofController_setQueue q _).trans (State.ofController_inc q _ (o := 0x40) (by decide))

theorem State.ofController_fifoWord (q : Nat) (s : State) (v : Nat) (lane : Bool) : s.ofController q (s.fifoWord q v lane) := by
  rw [State.fifoWord]
  split
  · exact s.ofController_discard q
  split
  · exact s.ofController_reject q
  split
  · exact (s.ofController_append q v lane).trans (State.ofController_updThrottle q _)
  split
  · exact (((s.ofController_setQueue q _).trans (State.ofController_discard q _)).trans (State.ofController_append q _ v lane)).trans
      (State.ofController_updThrottle q _)
  · exact (s.ofController_setQueue q _).trans (State.ofController_discard q _)
  · exact s.ofController_discard q

theorem State.ofController_expireEmpty (q n : Nat) : ∀ s : State, s.ofController q (State.expireEmpty q n s) := by
  induction n with
  | zero => exact fun s => s.ofController_refl q
  | succ n ih =>
    intro s
    rw [State.expireEmpty]
    split
    · exact (s.ofController_setQueue q _).trans (ih _)
    · exact s.ofController_refl q

theorem State.ofController_expireFull (q n : Nat) : ∀ s : State, s.ofController q (State.expireFull q n s) := by
  induction n with
  | zero => exact fun s => s.ofController_refl q
  | succ n ih =>
    intro s
    rw [State.expireFull]
    split
    · exact (s.ofController_setQueue q _).trans (ih _)
    · exact s.ofController_refl q

theorem State.ofController_pipeWord (q : Nat) (s : State) (v : Nat) (lane : Bool) : s.ofController q (s.pipeWord q v lane) := by
  rw [State.pipeWord]
  split
  · exact s.ofController_reject q
  have empty := State.ofController_expireEmpty q 16384 s
  generalize State.expireEmpty q 16384 s = t at *
  dsimp only
  split
  · exact (empty.trans (t.ofController_setQueue q _)).trans (State.ofController_inc q _ (o := 0x44) (by decide))
  · exact (empty.trans (State.ofController_expireFull q 16384 t)).trans (State.ofController_append q _ v lane)

/-! ## The lane's side -/

/-- A lane feeds a controller of its bay. -/
theorem State.laneQueue_lt {s : State} {n q : Nat} (hn : n < 96) (h : s.laneQueue n = some q) : q < 384 := by
  obtain ⟨i, hi, rfl⟩ := List.mem_map.mp (List.mem_of_find?_eq_some h)
  have bay : ∀ b < 24, ∀ i < 16, bayQueue b i < 384 := by decide
  exact bay (n / 4) (by omega) i (List.mem_range.mp hi)

theorem LN_ne_QC {n a q o : Nat} (hq : q < 384) (ho : o < 0x1000) : LN n a ≠ QC q o := by
  unfold LN QC
  omega

theorem State.laneRuns_near {s : State} {n : Nat} (h : s.laneRuns n = true) : s.laneFar n = false := by
  have traffic : s.reg (LN n 0x18) = 0 := by
    unfold State.laneRuns at h
    simp only [Bool.and_eq_true, State.laneTraffic, decide_eq_true_eq] at h
    exact h.1.1.1.1.1.2
  have near : s.fld (LN n 0x18) 3 2 ≠ 2 := by
    rw [State.fld, traffic]
    decide
  simp [State.laneFar, near]

/-- A word has been counted and teed. -/
def State.teed (s : State) (n : Nat) (w : DWord) (c : Bool) : State := (s.inc (LN n 0x24)).teeWord n w c

theorem State.teed_leaves (s : State) (n : Nat) (w : DWord) (c : Bool) : s.changes [.csr, .lane] (s.teed n w c) ∧
    (∀ k, k ≠ n → (s.teed n w c).laneOf k = s.laneOf k) ∧ (∀ a, a ≠ LN n 0x24 → a ≠ LN n 0x30 → (s.teed n w c).reg a = s.reg a) := by
  have counted a (h : a ≠ LN n 0x24) : (s.inc (LN n 0x24)).reg a = s.reg a := s.reg_inc_ne _ _ h
  have frame : s.changes [.csr, .lane] (s.inc (LN n 0x24)) := rfl
  have lanes k : (s.inc (LN n 0x24)).laneOf k = s.laneOf k := rfl
  unfold State.teed State.teeWord
  generalize s.inc (LN n 0x24) = u at *
  dsimp only
  split
  · exact ⟨frame.trans rfl, fun k ne => (State.laneOf_setLane_ne _ _ _ _ ne).trans (lanes k), fun a h _ => counted a h⟩
  split
  · exact ⟨frame.trans rfl, fun k ne => (State.laneOf_setLane_ne _ _ _ _ ne).trans (lanes k), fun a h h' => (State.reg_inc_ne _ _ _ h').trans (counted a h)⟩
  · exact ⟨frame.trans rfl, fun k ne => (State.laneOf_setLane_ne _ _ _ _ ne).trans (lanes k), fun a h _ => counted a h⟩

/-- With the tee off, the word only clears the gap. -/
theorem State.teed_off {s : State} {n : Nat} (off : s.bit (LN n 8) 0 = false) (w : DWord) (c : Bool) :
    s.teed n w c = (s.inc (LN n 0x24)).setLane n { s.laneOf n with gap := false } :=
  if_pos (by rw [State.bit_congr (State.reg_inc_ne s _ _ (by simp)) 0, off]; rfl)

theorem State.teed_on {s : State} {n : Nat} (on : s.bit (LN n 8) 0 = true) (w : DWord) (c : Bool) :
    ((s.laneOf n).tee.length < 4 → (s.teed n w c).laneOf n = { s.laneOf n with tee := (s.laneOf n).tee ++ [(w, c, (s.laneOf n).gap)], gap := false }) ∧
    (4 ≤ (s.laneOf n).tee.length → (s.teed n w c).laneOf n = { s.laneOf n with gap := false } ∧
      (s.teed n w c).reg (LN n 0x30) = min (s.reg (LN n 0x30) + 1) (2 ^ 32 - 1)) := by
  have on' : (s.inc (LN n 0x24)).bit (LN n 8) 0 = true := (State.bit_congr (State.reg_inc_ne s _ _ (by simp)) 0).trans on
  have lane : (s.inc (LN n 0x24)).laneOf n = s.laneOf n := rfl
  have count : (s.inc (LN n 0x24)).reg (LN n 0x30) = s.reg (LN n 0x30) := State.reg_inc_ne _ _ _ (by simp)
  unfold State.teed State.teeWord
  generalize s.inc (LN n 0x24) = u at *
  rw [lane]
  dsimp only
  rw [if_neg (by simp [on'])]
  refine ⟨fun room => ?_, fun full => ?_⟩
  · rw [if_neg (by omega)]
    exact State.laneOf_setLane_same _ _ _
  · rw [if_pos full]
    exact ⟨State.laneOf_setLane_same _ _ _, (State.reg_inc_same _ _).trans (by rw [← count]; rfl)⟩

theorem State.laneQueue_congr {s t : State} (h : t.qs = s.qs) (n : Nat) : t.laneQueue n = s.laneQueue n := by
  have desc (q : Nat) : t.desc q = s.desc q := congrArg (fun x : Queue => x.desc.toNat) (State.queue_congr h q)
  refine congrArg (fun f => List.find? f ((List.range 16).map (bayQueue (n / 4)))) (funext fun q => ?_)
  rw [State.qMode, State.qMode, desc]

theorem State.laneWord_data {s : State} {n : Nat} (runs : s.laneRuns n = true) (w : DWord) :
    (∀ q, s.laneQueue n = some q → s.laneWord n w false =
      if s.qMode q = 3 then (s.teed n w false).pipeWord q w.toNat true else (s.teed n w false).fifoWord q w.toNat true) ∧
    (s.laneQueue n = none → s.laneWord n w false = s.teed n w false) := by
  obtain ⟨frame, -, -⟩ := s.teed_leaves n w false
  have qs : (s.teed n w false).qs = s.qs := frame.same .qs (by decide)
  have fed := State.laneQueue_congr qs n
  have mode q : (s.teed n w false).qMode q = s.qMode q := congrArg (fun x : Queue => dMode x.desc.toNat) (State.queue_congr qs q)
  have run : s.laneWord n w false = match (s.teed n w false).laneQueue n with
      | some q => if (s.teed n w false).qMode q = 3 then (s.teed n w false).pipeWord q w.toNat true else (s.teed n w false).fifoWord q w.toNat true
      | none => s.teed n w false := by
    exact (if_neg (by simp [State.laneRuns_near runs])).trans ((if_neg (by simp [runs])).trans ((if_neg (by simp [State.laneDelivers])).trans rfl))
  rw [run, fed]
  exact ⟨fun q h => by simp only [h, mode], fun h => by simp only [h]⟩

/-- A full pipeline gives up its oldest frame (R183). -/
theorem State.pipeWord_expires {s : State} {q : Nat} {lane : Bool} (v : Nat) (room : (s.queue q).bufFull lane = false) (full : (s.queue q).occ = s.wq q)
    (pos : 0 < s.wq q) (closed : (s.queue q).oldest ≠ (s.queue q).curt) (long : 0 < s.frameLen q (s.queue q).oldest) :
    s.pipeWord q v lane = (s.expire q).append q v lane := by
  have empty : State.expireEmpty q 16384 s = s := by
    rw [State.expireEmpty]
    exact if_neg fun h => by omega
  have short : s.frameLen q (s.queue q).oldest < s.wq q := Nat.mod_lt _ pos
  have left : ((s.expire q).queue q).occ ≠ (s.expire q).wq q := by
    have occ : ((s.expire q).queue q).occ = (s.queue q).occ - s.frameLen q (s.queue q).oldest := congrArg Queue.occ (s.queue_setQueue_same q _)
    have wq : (s.expire q).wq q = s.wq q := (congrArg (fun x : Queue => dWords x.desc.toNat) (s.queue_setQueue_same q _) :)
    rw [occ, wq]
    omega
  have once : State.expireFull q 16384 s = s.expire q := by
    rw [State.expireFull, if_pos full, State.expireFull, if_neg left]
  rw [State.pipeWord, if_neg (by simp [room])]
  simp only [empty, once]
  exact if_neg fun h => closed h.2

/-- The overfull frames of a queue, the open one among them. -/
def Queue.overfilled (x : Queue) : List Nat := if x.overfull.contains x.curt then x.overfull else x.overfull ++ [x.curt]

def Queue.overfills (x : Queue) : Queue := { x with overfull := x.overfilled }

theorem Queue.overfilled_mem (x : Queue) : x.curt ∈ x.overfilled := by
  unfold Queue.overfilled
  split
  · next h => exact List.contains_iff_mem.mp h
  · exact List.mem_append_right _ List.mem_cons_self

/-- Where the oldest frame is the open one, the word is dropped. -/
theorem State.pipeWord_drops {s : State} {q : Nat} {lane : Bool} (v : Nat) (room : (s.queue q).bufFull lane = false) (full : (s.queue q).occ = s.wq q)
    (open_ : (s.queue q).oldest = (s.queue q).curt) : let t := s.pipeWord q v lane
    (s.queue q).curt ∈ (t.queue q).overfull ∧ (t.queue q).wbuf = (s.queue q).wbuf ∧ (t.queue q).occ = (s.queue q).occ ∧
    t.reg (QC q 0x44) = min (s.reg (QC q 0x44) + 1) (2 ^ 32 - 1) := by
  have empty : State.expireEmpty q 16384 s = s := by
    rw [State.expireEmpty]
    exact if_neg fun h => h.2.1 open_
  rw [State.pipeWord, if_neg (by simp [room])]
  simp only [empty]
  rw [if_pos ⟨full, open_⟩]
  have same := s.queue_setQueue_same q (s.queue q).overfills
  refine ⟨?_, (congrArg Queue.wbuf same :), (congrArg Queue.occ same :), State.reg_inc_same _ _⟩
  have listed := (s.queue q).overfilled_mem
  exact (congrArg Queue.overfull same).symm ▸ listed

end Sys2Proof.Machine
end

section
/-! LANE_WORD: what a lane's word does. -/
namespace Sys2Proof.Machine

section
variable {s : State} {n : Fin 96} {w : DWord}

/-- A word of a lane with its tee off, at its queue. -/
theorem laneWord_fifo (runs : s.laneRuns n = true) (off : s.bit (LN n 8) 0 = false) {q : Nat} (fed : s.laneQueue n = some q) (mode : s.qMode q = 1)
    (on : (s.queue q).stopped = false) (room : (s.queue q).bufFull true = false) (less : (s.queue q).occ < s.wq q) :
    Completes (.laneWord n w false) s (fun t => (t.queue q).occ = (s.queue q).occ + 1 ∧
        (t.queue q).wbuf = (s.queue q).wbuf ++ [.word (s.queue q).wr w true] ∧ (∀ k, k ≠ q → t.queue k = s.queue k) ∧
        t.mem = s.mem ∧ { t with qs := s.qs, csr := s.csr, lane := s.lane } = s ∧
        ∀ a, a ≠ LN n 0x24 → a ≠ QC q 0x40 → t.reg a = s.reg a) := by
  have next := (State.laneWord_data runs w).1 q fed
  rw [if_neg (by omega), State.teed_off off] at next
  have frame : s.changes [.csr, .lane] ((s.inc (LN n 0x24)).setLane n { s.laneOf n with gap := false }) := rfl
  have regs a (h : a ≠ LN n 0x24) : ((s.inc (LN n 0x24)).setLane n { s.laneOf n with gap := false }).reg a = s.reg a := s.reg_inc_ne _ _ h
  generalize (s.inc (LN n 0x24)).setLane n { s.laneOf n with gap := false } = u at *
  have queues := State.queue_congr (frame.same .qs (by decide) : u.qs = s.qs)
  have words : u.wq q = s.wq q := congrArg (fun x : Queue => dWords x.desc.toNat) (queues q)
  rw [State.fifoWord_joins _ ((congrArg Queue.stopped (queues q)).trans on) (by rw [queues]; exact room) (by rw [queues, words]; exact less)] at next
  obtain ⟨queue, own, -, other⟩ := u.append_shows q w.toNat true
  have part : u.changes [.qs, .csr] (u.append q w.toNat true) := rfl
  generalize u.append q w.toNat true = v at *
  obtain ⟨body, -, others, thr⟩ := v.updThrottle_shows q
  rw [queues] at queue
  refine completes_by rfl next ⟨(congrArg Queue.occ (body.trans (congrArg Queue.body queue)) :), ?_, fun k ne => (others k ne).trans ((own.1 k ne).trans (queues k)), ?_, ?_, fun a h h' => ?_⟩
  · refine (congrArg Queue.wbuf (body.trans (congrArg Queue.body queue)) :).trans ?_
    rw [BitVec.ofNat_toNat, BitVec.setWidth_eq]
    rfl
  · exact (thr.same .mem (by decide)).trans ((part.same .mem (by decide)).trans (frame.same .mem (by decide)))
  · exact (show s.changes [.qs, .csr, .lane] _ from ((frame.mono (by decide)).trans (part.mono (by decide))).trans (thr.mono (by decide)))
  · exact (State.reg_congr (thr.same .csr (by decide)) a).trans ((other a h').trans (regs a h))

/-- What a word of a pipeline leaves in its queue. -/
def Queue.joins (x y : Queue) (wq : Nat) (w : DWord) (occ oldest : Nat) : Prop :=
  y.occ = occ ∧ y.oldest = oldest ∧ y.wr = (x.wr + 1) % wq ∧ y.wbuf = x.wbuf ++ [.word x.wr w true]

theorem State.append_joins (s : State) (q : Nat) (w : DWord) :
    (s.queue q).joins ((s.append q w.toNat true).queue q) (s.wq q) w ((s.queue q).occ + 1) (s.queue q).oldest := by
  obtain ⟨queue, -, -, -⟩ := s.append_shows q w.toNat true
  rw [queue, BitVec.ofNat_toNat, BitVec.setWidth_eq]
  exact ⟨rfl, rfl, rfl, rfl⟩

/-- A word of a lane with its tee off, at its pipeline. -/
theorem laneWord_pipe (runs : s.laneRuns n = true) (off : s.bit (LN n 8) 0 = false) {q : Nat} (fed : s.laneQueue n = some q) (mode : s.qMode q = 3)
    (room : (s.queue q).bufFull true = false) (x : Queue) (hx : x = s.queue q) :
      (x.occ < s.wq q → Completes (.laneWord n w false) s (fun t => x.joins (t.queue q) (s.wq q) w (x.occ + 1) x.oldest)) ∧
      (x.occ = s.wq q → 0 < s.wq q → x.oldest ≠ x.curt → 0 < s.frameLen q x.oldest → Completes (.laneWord n w false) s (fun t =>
        x.joins (t.queue q) (s.wq q) w (x.occ - s.frameLen q x.oldest + 1) (addFrame x.oldest 1))) ∧
      (x.occ = s.wq q → x.oldest = x.curt → Completes (.laneWord n w false) s (fun t => x.curt ∈ (t.queue q).overfull ∧
        (t.queue q).wbuf = x.wbuf ∧ (t.queue q).occ = x.occ ∧ t.reg (QC q 0x44) = min (s.reg (QC q 0x44) + 1) (2 ^ 32 - 1))) := by
  have small := State.laneQueue_lt n.isLt fed
  have next := (State.laneWord_data runs w).1 q fed
  rw [if_pos mode, State.teed_off off] at next
  have qs : ((s.inc (LN n 0x24)).setLane n { s.laneOf n with gap := false }).qs = s.qs := rfl
  have count : ((s.inc (LN n 0x24)).setLane n { s.laneOf n with gap := false }).reg (QC q 0x44) = s.reg (QC q 0x44) :=
    s.reg_inc_ne _ _ (LN_ne_QC small (by decide)).symm
  generalize (s.inc (LN n 0x24)).setLane n { s.laneOf n with gap := false } = u at *
  have queue : u.queue q = x := (State.queue_congr qs q).trans hx.symm
  have words : u.wq q = s.wq q := congrArg (fun x : Queue => dWords x.desc.toNat) (State.queue_congr qs q)
  have frames f : u.frameLen q f = s.frameLen q f := by rw [State.frameLen, State.frameLen, words, State.queue_congr qs]
  have room' : (u.queue q).bufFull true = false := by rw [queue, hx]; exact room
  clear hx
  refine ⟨fun less => ?_, fun full pos closed long => ?_, fun full open_ => ?_⟩
  · have joined := u.append_joins q w
    rw [queue, words] at joined
    exact completes_by rfl (next.trans (State.pipeWord_joins _ room' (by rw [queue, words]; exact less))) joined
  · have joined := (u.expire q).append_joins q w
    have expired : (u.expire q).queue q = _ := u.queue_setQueue_same q _
    have words' : (u.expire q).wq q = s.wq q := (congrArg (fun x : Queue => dWords x.desc.toNat) expired).trans words
    rw [words', expired, frames, queue] at joined
    exact completes_by rfl (next.trans (State.pipeWord_expires _ room' (by rw [queue, words]; exact full) (by rw [words]; exact pos) (by rw [queue]; exact closed)
      (by rw [queue, frames]; exact long))) joined
  · have dropped := State.pipeWord_drops w.toNat room' (by rw [queue, words]; exact full) (by rw [queue]; exact open_)
    rw [queue, count] at dropped
    exact completes_by rfl next dropped

/-- A word of a lane whose tee is on. -/
theorem laneWord_tee (runs : s.laneRuns n = true) (on : s.bit (LN n 8) 0 = true) (l : Lane) (hl : l = s.laneOf n) : Completes (.laneWord n w false) s (fun t =>
      (l.tee.length < 4 → t.laneOf n = { l with tee := l.tee ++ [(w, false, l.gap)], gap := false }) ∧
      (4 ≤ l.tee.length → t.laneOf n = { l with gap := false } ∧ t.reg (LN n 0x30) = min (s.reg (LN n 0x30) + 1) (2 ^ 32 - 1)) ∧
      (∀ k, k ≠ n.val → t.laneOf k = s.laneOf k) ∧ t.mem = s.mem ∧ (s.laneQueue n = none → { t with lane := s.lane, csr := s.csr } = s)) := by
  obtain ⟨fits, full⟩ := State.teed_on on w false
  obtain ⟨frame, others, -⟩ := s.teed_leaves n w false
  obtain ⟨fed, free⟩ := State.laneWord_data runs w
  rw [← hl] at fits full
  generalize s.teed n w false = u at *
  have later {t : State} {q : Nat} (small : q < 384) (own : u.ofController q t) : t.lane = u.lane ∧ t.reg (LN n 0x30) = u.reg (LN n 0x30) ∧ t.mem = u.mem :=
    ⟨own.1.2.same .lane (by decide), own.2 _ fun o ho => LN_ne_QC small ho, own.1.2.same .mem (by decide)⟩
  obtain ⟨t, run, ⟨lane, reg, mem⟩, alone⟩ : ∃ t, s.laneWord n w false = t ∧ (t.lane = u.lane ∧ t.reg (LN n 0x30) = u.reg (LN n 0x30) ∧ t.mem = u.mem) ∧
      (s.laneQueue n = none → t = u) := by
    rcases hq : s.laneQueue n with _ | q
    · exact ⟨u, free hq, ⟨rfl, rfl, rfl⟩, fun _ => rfl⟩
    · have small := State.laneQueue_lt n.isLt hq
      by_cases pipe : s.qMode q = 3
      · exact ⟨_, (fed q hq).trans (if_pos pipe), later small (u.ofController_pipeWord q _ _), nofun⟩
      · exact ⟨_, (fed q hq).trans (if_neg pipe), later small (u.ofController_fifoWord q _ _), nofun⟩
  have lanes k : t.laneOf k = u.laneOf k := by rw [State.laneOf, State.laneOf, lane]
  refine completes_by rfl run ⟨fun h => (lanes n).trans (fits h), fun h => ⟨(lanes n).trans (full h).1, reg.trans (full h).2⟩,
    fun k ne => (lanes k).trans (others k ne), mem.trans (frame.same .mem (by decide)), fun none_ => ?_⟩
  rw [alone none_]
  exact show s.changes [.lane, .csr] u from frame.mono (by decide)

variable {c : Bool}

/-- A word that no lane hands over, or that is not delivered. -/
theorem laneWord_lost (near : s.laneFar n = false) :
      let bad : Prop := s.laneCode n = 1 ∧ c = true ∧ w.toNat % 256 ≠ 0xBC
      (s.laneRuns n = false ∨ (s.laneDelivers n w c = false ∧ ¬bad) → Completes (.laneWord n w c) s (fun t => t = s)) ∧
      (s.laneRuns n = true → bad → Completes (.laneWord n w c) s (fun t =>
        t.reg (LN n 0x20) = min (s.reg (LN n 0x20) + 1) (2 ^ 32 - 1) ∧ (∀ a, a ≠ LN n 0x20 → t.reg a = s.reg a) ∧
        { t with csr := s.csr } = s)) := by
  refine ⟨fun idle => completes_by rfl ?_ rfl, fun runs bad => completes_by rfl ?_ ⟨s.reg_inc_same _, fun a h => s.reg_inc_ne _ _ h, rfl⟩⟩
  · rw [State.laneWord, if_neg (by simp [near])]
    rcases idle with stands | ⟨undelivered, fine⟩
    · rw [if_pos (by simp [stands])]
    · have kept : s.laneBad n w c = s := if_neg (by simpa [and_assoc] using fine)
      rw [kept, undelivered, Bool.not_false, if_pos rfl, ite_self]
  · obtain ⟨code, ctrl, other⟩ := bad
    have undelivered : s.laneDelivers n w c = false := by simp [State.laneDelivers, code, ctrl]
    rw [State.laneWord, if_neg (by simp [near]), if_neg (by simp [runs]), if_pos (by simp [undelivered])]
    exact if_pos (by simp [code, ctrl, other])

/-- In far-end loopback the word is sent again. -/
theorem laneWord_far (far : s.laneFar n = true) : Completes (.laneWord n w c) s (fun t =>
      t.laneOf n = { s.laneOf n with tx := (s.laneOf n).tx ++ [(w, if c then w.toNat % 256 else 0)] } ∧ (∀ k, k ≠ n.val → t.laneOf k = s.laneOf k) ∧
      { t with lane := s.lane } = s) :=
  completes_by rfl (if_pos far) ⟨State.laneOf_setLane_same _ _ _, fun _ ne => State.laneOf_setLane_ne _ _ _ _ ne, rfl⟩
end

end Sys2Proof.Machine
end

section
/-! Readout records: what is sent, and what its end frees (spec/06 R178, R182, R187, R189). -/
namespace Sys2Proof.Machine

/-! ## Entries written twice -/

/-- A second write of an entry stands where the first one did not restore the default. -/
theorem mput_mput {α : Type} [DecidableEq α] (d : Nat → α) (m : List (Nat × α)) (k : Nat) {v : α} (h : v ≠ d k) (w : α) : mput d (mput d m k v) k w = mput d m k w := by
  induction m with
  | nil => simp [mput, h]
  | cons e m ih =>
    obtain ⟨j, u⟩ := e
    by_cases less : k < j
    · simp [mput, less, h, less.ne']
    by_cases same : k = j
    · subst same
      simp [mput, h]
    · simp [mput, less, same, ih]

theorem State.setQueue_setQueue (s : State) (q : Nat) {x : Queue} (h : x ≠ {}) (y : Queue) : (s.setQueue q x).setQueue q y = s.setQueue q y :=
  congrArg (fun l => ({ s with qs := l } : State)) (mput_mput (fun _ => {}) s.qs q h y)

/-! ## Sending (R187) -/

/-- The words of a record of controller `q`, without uncorrectable or corrected ones among them. -/
def recordWords (q seq fr kind : Nat) (data : List Nat) (n : Nat) (e c : Bool) : List Nat :=
  [fr % 2 ^ 48 + kind * 2 ^ 48, data.length % 2 ^ 19 + q * 2 ^ 19 + seq % 65536 * 2 ^ 28] ++ data ++
    [n % 2 ^ 19 + e.toNat * 2 ^ 19 + c.toNat * 2 ^ 20]

/-- A packet of such a record. -/
def recordPacket (q dest lane : Nat) (ws : List Nat) : Packet :=
  { hdr := mkHdr dest (clusterNode (q / 12)) 2 4 (ws.length / 4) 0 0 0 0 lane 0, data := ws.map (BitVec.ofNat 64), own := q }

def recordPackets (q dest lane : Nat) (l : List Nat) : List Packet := (packetsOf l.length l).map (fun ws => (recordPacket q dest lane ws).routed)

theorem State.send_foldl (f : List Nat → Packet) (l : List (List Nat)) : ∀ s : State, l.foldl (fun (t : State) ws => t.send (f ws)) s =
    { s with net := s.net ++ l.map (fun ws => (f ws).routed) } := by
  induction l with
  | nil => simp
  | cons ws l ih =>
    intro s
    rw [List.foldl_cons, ih, State.send_eq, List.map_cons]
    simp

/-- The state in which the record `l` of controller `q` leaves. -/
def State.recordSent (s b : State) (q dest lane : Nat) (l : List Nat) (e c : Bool) (used : Nat) : State :=
  ({ b with net := s.net ++ recordPackets q dest lane l } : State).setQueue q
    { s.queue q with seq := ((s.queue q).seq + 1) % 65536, leaving := some (e, c), drained := (s.queue q).drained + used }

theorem State.sendRecord_eq {s b : State} {q : Nat} (net : b.net = s.net) (queue : b.queue q = s.queue q) (dest lane fr kind : Nat) (data : List Nat) (n : Nat) (e c : Bool) :
    b.sendRecord q dest lane fr kind data n e c false false = s.recordSent b q dest lane (recordWords q (s.queue q).seq fr kind data n e c) e c 0 := by
  have long : (recordWords q (s.queue q).seq fr kind data n e c).length = data.length + 3 := by simp [recordWords]
  have run : b.sendRecord q dest lane fr kind data n e c false false = State.setQueue ((packetsOf (data.length + 3) (recordWords q (b.queue q).seq fr kind data n e c)).foldl
      (fun (t : State) ws => t.send (recordPacket q dest lane ws)) b) q
      { ((packetsOf (data.length + 3) (recordWords q (b.queue q).seq fr kind data n e c)).foldl (fun (t : State) ws => t.send (recordPacket q dest lane ws)) b).queue q with
        seq := ((b.queue q).seq + 1) % 65536, leaving := some (e, c) } := by
    have clean (x : Nat) : x + Bool.toNat false * 2 ^ 21 + Bool.toNat false * 2 ^ 22 = x := by simp
    unfold State.sendRecord
    dsimp only
    rw [clean]
    rfl
  rw [run, State.send_foldl, queue, ← long, net]
  exact congrArg (State.setQueue _ q) (congrArg (fun x : Queue => { x with seq := ((s.queue q).seq + 1) % 65536, leaving := some (e, c) }) queue)

/-! ## Reading (R178) -/

/-- The words of the queue from offset `o` on, as they are stored. -/
def State.storedWords (s : State) (q o n : Nat) : List Nat :=
  (List.range n).map (fun i => s.rawWord (s.qBlock q ((o + i) % s.wq q)) ((o + i) % s.wq q % 4096))

/-- No bit of those words has flipped. -/
def State.cleanWords (s : State) (q o n : Nat) : Prop := ∀ i, i < n → s.flipMask (s.qBlock q ((o + i) % s.wq q)) ((o + i) % s.wq q % 4096) = 0

theorem State.readWords_clean {s : State} {q : Nat} (n : Nat) : ∀ o, s.cleanWords q o n → s.readWords q o n = ((s.storedWords q o n, false, false), s) := by
  induction n with
  | zero => exact fun o _ => rfl
  | succ n ih =>
    intro o clean
    have shift i : o + 1 + i = o + (i + 1) := by omega
    have rest : s.cleanWords q (o + 1) n := fun i hi => by
      rw [shift]
      exact clean (i + 1) (by omega)
    have first : s.flipMask (s.qBlock q (o % s.wq q)) (o % s.wq q % 4096) = 0 := clean 0 (by omega)
    rw [State.readWords, State.queueRead_clean first]
    dsimp only
    rw [ih (o + 1) rest, State.storedWords, State.storedWords, List.range_succ_eq_map, List.map_cons, List.map_map]
    refine Prod.ext (Prod.ext (congrArg₂ List.cons rfl (List.map_congr_left fun i _ => ?_)) rfl) rfl
    exact congrArg (fun k => s.rawWord (s.qBlock q (k % s.wq q)) (k % s.wq q % 4096)) (shift i)

theorem State.storedWords_length (s : State) (q o n : Nat) : (s.storedWords q o n).length = n := by simp [State.storedWords]

theorem State.sendWords_clean {s : State} {q o n : Nat} (clean : s.cleanWords q o n) (dest lane fr kind : Nat) (c : Bool) : s.sendWords q o n dest lane fr kind c =
    s.recordSent s q dest lane (recordWords q (s.queue q).seq fr kind (s.storedWords q o n) n false c) false c 0 := by
  rw [State.sendWords, State.readWords_clean n o clean]
  exact State.sendRecord_eq rfl rfl dest lane fr kind _ n false c

/-- Clearing the words of a block clears its bytes and no other byte (R189). -/
theorem State.clearBins_shows (s : State) (q b : Nat) {n : Nat} (hn : n ≤ 4096) : let t := s.clearBins q b n
    (∀ i, t.byte i = if 8 * wordKey (s.qBlock q (4096 * b)) 0 ≤ i ∧ i < 8 * wordKey (s.qBlock q (4096 * b)) 0 + 8 * n then 0 else s.byte i) ∧
    s.changes [.mem, .flips, .ueSeen] t := by
  induction n with
  | zero => exact ⟨fun i => (if_neg (by omega)).symm, s.changes_refl _⟩
  | succ n ih =>
    obtain ⟨bytes, frame⟩ := ih (by omega)
    have next : s.clearBins q b (n + 1) = (s.clearBins q b n).queueWrite q (4096 * b + n) 0 := forAll_succ _ _ _
    rw [next]
    generalize s.clearBins q b n = t at *
    obtain ⟨written, kept, frame'⟩ := t.queueWrite_shows q (4096 * b + n) 0
    have block : t.qBlock q (4096 * b + n) = s.qBlock q (4096 * b) := by
      have desc : t.desc q = s.desc q := State.desc_congr (congrArg Queue.desc (State.queue_congr (frame.same .qs (by decide)) q))
      rw [State.qBlock, State.qBlock, desc, show (4096 * b + n) / 4096 = 4096 * b / 4096 by omega]
    rw [block, show (4096 * b + n) % 4096 = n by omega] at written kept
    generalize s.qBlock q (4096 * b) = k at *
    unfold wordKey at *
    refine ⟨fun i => ?_, frame.trans frame'⟩
    by_cases here : 8 * (4096 * k + n) ≤ i ∧ i < 8 * (4096 * k + n) + 8
    · have zero := written (i - 8 * (4096 * k + n)) (by omega)
      rw [show 8 * (4096 * k + n) + (i - 8 * (4096 * k + n)) = i by omega, Nat.zero_div] at zero
      rw [zero, if_pos (by omega)]
      rfl
    · rw [kept i (by omega), bytes i]
      by_cases inside : 8 * (4096 * k + 0) ≤ i ∧ i < 8 * (4096 * k + 0) + 8 * n
      · rw [if_pos inside, if_pos (by omega)]
      · rw [if_neg inside, if_neg (by omega)]

end Sys2Proof.Machine
end

section
/-! READOUT_RECORD_SEND: the record at the head, and its end (spec/06 R178, R180, R182, R187). -/
namespace Sys2Proof.Machine

/-! ## The record that is sent -/

/-- The allowance that a derandomizer record takes is written with its entry. -/
theorem State.recordSent_used (s b : State) (q dest lane : Nat) (l : List Nat) (e c : Bool) (used : Nat) :
    (s.recordSent b q dest lane l e c 0).setQueue q
      { (s.recordSent b q dest lane l e c 0).queue q with drained := ((s.recordSent b q dest lane l e c 0).queue q).drained + used } =
    s.recordSent b q dest lane l e c used := by
  have queue : (s.recordSent b q dest lane l e c 0).queue q = _ := State.queue_setQueue_same _ _ _
  rw [queue]
  refine (State.setQueue_setQueue _ q ?_ _).trans rfl
  intro h
  exact absurd (congrArg Queue.leaving h) nofun

theorem State.sendBins_clean {s : State} {q b : Nat} (n : Nat) (hn : n ≤ 4096) (clean : s.cleanWords q (4096 * b) n) (dest lane fr : Nat) (clear : Bool) :
    s.sendBins q b n dest lane fr clear = s.recordSent (if clear then s.clearBins q b n else s) q dest lane
      (recordWords q (s.queue q).seq fr 4 (s.storedWords q (4096 * b) n) n false false) false false 0 := by
  have same : (if clear then s.clearBins q b n else s).net = s.net ∧ (if clear then s.clearBins q b n else s).queue q = s.queue q := by
    obtain ⟨-, frame⟩ := s.clearBins_shows q b hn
    split
    · exact ⟨frame.same .net (by decide), State.queue_congr (frame.same .qs (by decide)) q⟩
    · exact ⟨rfl, rfl⟩
  rw [State.sendBins, State.readWords_clean n _ clean]
  exact State.sendRecord_eq same.1 same.2 dest lane fr 4 _ n false false

section
variable {s : State} {q : Nat}

/-- A record waits for words that are not written yet, and a derandomizer record for its allowance. -/
theorem State.readoutWaits_eq (s : State) (q : Nat) : s.readoutWaits q =
    ((List.range (s.readoutSpan q).2).any (fun i => (s.queue q).unwritten (((s.readoutSpan q).1 + i) % s.wq q)) ||
    (match (s.queue q).ro with
      | .record r :: _ => decide (dMaxf (s.desc q) ≠ 0 ∧ dMaxf (s.desc q) < (s.queue q).drained + r.len + 3)
      | _ => false)) := rfl

theorem State.readoutWaits_none {o n : Nat} (span : s.readoutSpan q = (o, n)) (written : ∀ i, i < n → (s.queue q).unwritten ((o + i) % s.wq q) = false)
    (fits : ∀ r rest, (s.queue q).ro = .record r :: rest → dMaxf (s.desc q) = 0 ∨ (s.queue q).drained + r.len + 3 ≤ dMaxf (s.desc q)) : s.readoutWaits q = false := by
  rw [State.readoutWaits_eq, span, Bool.or_eq_false_iff]
  refine ⟨List.any_eq_false.mpr fun i hi => by rw [written i (List.mem_range.mp hi)]; decide, ?_⟩
  split
  · next r rest h =>
    have := fits r rest h
    exact decide_eq_false (by omega)
  · rfl

variable (idle : (s.queue q).leaving = none)
include idle

theorem State.sendNext_expired {f a l dest lane : Nat} {o : Bool} {rest : List RoEntry} (head : (s.queue q).ro = .frame f a l o true dest lane :: rest) :
    s.sendNext q = s.recordSent s q dest lane (recordWords q (s.queue q).seq f 3 [] 0 true false) true false 0 := by
  have span : s.readoutSpan q = (a, 0) := by simp [State.readoutSpan, idle, head]
  have goes := State.readoutWaits_none span (by simp) (by simp [head])
  simp only [State.sendNext, goes, head]
  exact State.sendRecord_eq rfl rfl dest lane f 3 [] 0 true false

theorem State.sendNext_lost {f a l dest lane : Nat} {o : Bool} {rest : List RoEntry} (head : (s.queue q).ro = .frame f a l o false dest lane :: rest)
    (lost : s.retained q f = false) :
    s.sendNext q = s.recordSent s q dest lane (recordWords q (s.queue q).seq f 3 (List.replicate l 0) 0 false true) false true 0 := by
  have span : s.readoutSpan q = (a, 0) := by simp [State.readoutSpan, idle, head, lost]
  have goes := State.readoutWaits_none span (by simp) (by simp [head])
  simp only [State.sendNext, goes, head, lost]
  exact State.sendRecord_eq rfl rfl dest lane f 3 _ 0 false true

theorem State.sendNext_frame {f a l dest lane : Nat} {o : Bool} {rest : List RoEntry} (head : (s.queue q).ro = .frame f a l o false dest lane :: rest)
    (kept : s.retained q f = true) (written : ∀ i, i < l → (s.queue q).unwritten ((a + i) % s.wq q) = false) (clean : s.cleanWords q a l) :
    s.sendNext q = s.recordSent s q dest lane (recordWords q (s.queue q).seq f 3 (s.storedWords q a l) l false o) false o 0 := by
  have span : s.readoutSpan q = (a, l) := by simp [State.readoutSpan, idle, head, kept]
  have goes := State.readoutWaits_none span written (by simp [head])
  simp only [State.sendNext, goes, head, kept]
  exact State.sendWords_clean clean dest lane f 3 o

theorem State.sendNext_bins {n : Nat} (hn : n = 4096) {b fr dest lane : Nat} {clear : Bool} {rest : List RoEntry} (head : (s.queue q).ro = .bins b clear fr dest lane :: rest)
    (written : ∀ i, i < n → (s.queue q).unwritten ((4096 * b + i) % s.wq q) = false) (clean : s.cleanWords q (4096 * b) n) :
    s.sendNext q = s.recordSent (if clear then s.clearBins q b n else s) q dest lane
      (recordWords q (s.queue q).seq fr 4 (s.storedWords q (4096 * b) n) n false false) false false 0 := by
  have span : s.readoutSpan q = (4096 * b, n) := by simp [State.readoutSpan, idle, head, hn]
  have goes := State.readoutWaits_none span written (by simp [head])
  have next : s.sendNext q = s.sendBins q b n dest lane fr clear := by
    rw [State.sendNext, if_neg (by simp [goes]), head, hn]
  exact next.trans (State.sendBins_clean n hn.le clean dest lane fr clear)

theorem State.sendNext_drain {f c : Nat} {rest : List RoEntry} (head : (s.queue q).ro = .drain f c :: rest)
    (written : ∀ i, i < c → (s.queue q).unwritten (((s.queue q).rd + i) % s.wq q) = false) (clean : s.cleanWords q (s.queue q).rd c) :
    s.sendNext q = s.recordSent s q (dDest (s.desc q)) (dDrainLane (s.desc q))
      (recordWords q (s.queue q).seq f 1 (s.storedWords q (s.queue q).rd c) c false false) false false 0 := by
  have span : s.readoutSpan q = ((s.queue q).rd, c) := by simp [State.readoutSpan, idle, head]
  have goes := State.readoutWaits_none span written (by simp [head])
  simp only [State.sendNext, goes, head]
  exact State.sendWords_clean clean _ _ f 1 false

theorem State.sendNext_record {r : Rec} {rest : List RoEntry} (head : (s.queue q).ro = .record r :: rest)
    (written : ∀ i, i < r.len + 1 → (s.queue q).unwritten ((r.off + i) % s.wq q) = false) (clean : s.cleanWords q (r.off + 1) r.len)
    (fits : dMaxf (s.desc q) = 0 ∨ (s.queue q).drained + r.len + 3 ≤ dMaxf (s.desc q)) :
    s.sendNext q = s.recordSent s q (dDest (s.desc q)) (dDrainLane (s.desc q))
      (recordWords q (s.queue q).seq r.frame 2 (s.storedWords q (r.off + 1) r.len) r.len false r.trunc) false r.trunc (r.len + 3) := by
  have span : s.readoutSpan q = (r.off, r.len + 1) := by simp [State.readoutSpan, idle, head]
  have goes := State.readoutWaits_none span written (fun r' rest' h => by simp [head] at h; obtain ⟨rfl, -⟩ := h; exact fits)
  simp only [State.sendNext, goes, head]
  exact (congrArg (fun t : State => t.setQueue q { t.queue q with drained := (t.queue q).drained + r.len + 3 }) (State.sendWords_clean clean _ _ _ 2 r.trunc)).trans
    (s.recordSent_used _ _ _ _ _ _ _ (r.len + 3))
end

/-! ## Its end -/

/-- The entry of a record that has been sent is free, and counted. -/
def State.recordFreed (s : State) (q : Nat) (e c : Bool) : State :=
  (s.setQueue q { s.queue q with leaving := none, ro := (s.queue q).ro.drop 1 }).recordCounted q e c

/-- What the entries at the head of the readout queue free besides. -/
def State.headFreed (t : State) (q : Nat) : List RoEntry → State
  | .drain _ n :: _ => t.drainWords q n
  | .record r :: _ => (t.drainWords q (r.len + 1 - r.popped)).queueRecords q
  | _ => t

theorem State.endRecord_eq {s : State} {q : Nat} {e c : Bool} (leaving : (s.queue q).leaving = some (e, c)) (left : State.recordLeft q s = true) :
    s.endRecord q = (s.recordFreed q e c).headFreed q (s.queue q).ro := by
  unfold State.endRecord
  dsimp only
  rw [leaving]
  dsimp only
  rw [if_neg (by simp [left])]
  rfl

theorem State.recordCounted_counts (s : State) (q : Nat) (e c : Bool) :
    (s.recordCounted q e c).reg (QC q 0x50) = (if e then min (s.reg (QC q 0x50) + 1) (2 ^ 32 - 1) else s.reg (QC q 0x50)) ∧
    (s.recordCounted q e c).reg (QC q 0x54) = (if c then min (s.reg (QC q 0x54) + 1) (2 ^ 32 - 1) else s.reg (QC q 0x54)) := by
  have base a (h : a ≠ QC q 0x4C) : (s.inc (QC q 0x4C)).reg a = s.reg a := s.reg_inc_ne _ _ h
  have h50 := base (QC q 0x50) (by simp)
  have h54 := base (QC q 0x54) (by simp)
  unfold State.recordCounted
  generalize s.inc (QC q 0x4C) = u at *
  rw [← h50, ← h54]
  cases e <;> cases c
  · exact ⟨rfl, rfl⟩
  · exact ⟨State.reg_inc_ne _ _ _ (by simp), State.reg_inc_same _ _⟩
  · exact ⟨State.reg_inc_same _ _, State.reg_inc_ne _ _ _ (by simp)⟩
  · exact ⟨(State.reg_inc_ne _ _ _ (by simp)).trans (State.reg_inc_same _ _),
      (State.reg_inc_same _ _).trans (congrArg (fun n => min (n + 1) (2 ^ 32 - 1)) (u.reg_inc_ne _ _ (by simp)))⟩

theorem State.recordFreed_shows (s : State) (q : Nat) (e c : Bool) : let t := s.recordFreed q e c
    t.queue q = { s.queue q with leaving := none, ro := (s.queue q).ro.drop 1 } ∧
    t.reg (QC q 0x50) = (if e then min (s.reg (QC q 0x50) + 1) (2 ^ 32 - 1) else s.reg (QC q 0x50)) ∧
    t.reg (QC q 0x54) = (if c then min (s.reg (QC q 0x54) + 1) (2 ^ 32 - 1) else s.reg (QC q 0x54)) := by
  have queue := s.queue_setQueue_same q { s.queue q with leaving := none, ro := (s.queue q).ro.drop 1 }
  have regs a : (s.setQueue q { s.queue q with leaving := none, ro := (s.queue q).ro.drop 1 }).reg a = s.reg a := rfl
  unfold State.recordFreed
  generalize s.setQueue q { s.queue q with leaving := none, ro := (s.queue q).ro.drop 1 } = u at *
  obtain ⟨frame, -⟩ := u.recordCounted_shows q e c
  refine ⟨(State.queue_congr (frame.same .qs (by decide)) q).trans queue, ?_⟩
  rw [← regs, ← regs]
  exact u.recordCounted_counts q e c

theorem State.queueRecords_ro (s : State) (q : Nat) : ((s.queueRecords q).queue q).ro = (s.queue q).ro ++
    (if s.qMode q = 2 ∧ dDrain (s.desc q) = true then ((s.queue q).closed.take (16 - (s.queue q).ro.length)).map .record else []) := by
  unfold State.queueRecords
  dsimp only
  split
  · exact congrArg Queue.ro (s.queue_setQueue_same q _)
  · rw [List.append_nil]

end Sys2Proof.Machine
end

section
/-! O41: lane words and readout records. -/
namespace Sys2Proof.Machine

/-! ## The end of a record -/

/-- What the entry frees is its queue's. -/
theorem State.headFreed_leaves (t : State) (q : Nat) (ro : List RoEntry) : ((t.headFreed q ro).queue q).leaving = (t.queue q).leaving ∧
    ((t.headFreed q ro).queue q).drained = (t.queue q).drained ∧
    (∀ k, k ≠ q → (t.headFreed q ro).queue k = t.queue k) ∧ t.changes [.qs, .hl] (t.headFreed q ro) := by
  have drain (n : Nat) := t.drainWords_shows q n
  unfold State.headFreed
  split
  · next n _ =>
    obtain ⟨body, others, frame⟩ := drain n
    exact ⟨(congrArg Queue.leaving body :), (congrArg Queue.drained body :), others, frame⟩
  · next r _ =>
    obtain ⟨body, others, frame⟩ := drain (r.len + 1 - r.popped)
    generalize t.drainWords q (r.len + 1 - r.popped) = v at *
    obtain ⟨ro, closed, queue, -, others', frame'⟩ := v.queueRecords_shows q
    rw [queue]
    exact ⟨(congrArg Queue.leaving body :), (congrArg Queue.drained body :), fun k ne => (others' k ne).trans (others k ne), frame.trans (frame'.mono (by decide))⟩
  · exact ⟨rfl, rfl, fun _ _ => rfl, t.changes_refl _⟩

/-- A record that has left is counted and its entry free (R187). -/
theorem State.endRecord_frees {s : State} {q : Nat} {e c : Bool} (leaving : (s.queue q).leaving = some (e, c)) (left : State.recordLeft q s = true) : let t := s.endRecord q
    (t.queue q).leaving = none ∧ (t.queue q).drained = (s.queue q).drained ∧ t.reg (QC q 0x4C) = min (s.reg (QC q 0x4C) + 1) (2 ^ 32 - 1) ∧
    t.reg (QC q 0x50) = (if e then min (s.reg (QC q 0x50) + 1) (2 ^ 32 - 1) else s.reg (QC q 0x50)) ∧
    t.reg (QC q 0x54) = (if c then min (s.reg (QC q 0x54) + 1) (2 ^ 32 - 1) else s.reg (QC q 0x54)) := by
  obtain ⟨-, -, count⟩ := State.endRecord_ends (s := s) (q := q) (by rw [leaving]; nofun) left
  dsimp only
  rw [State.endRecord_eq leaving left] at count ⊢
  obtain ⟨queue, expired, trunc⟩ := s.recordFreed_shows q e c
  obtain ⟨none_, drained, -, frame⟩ := (s.recordFreed q e c).headFreed_leaves q (s.queue q).ro
  have regs a := State.reg_congr (frame.same .csr (by decide)) a
  exact ⟨none_.trans (congrArg Queue.leaving queue :), drained.trans (congrArg Queue.drained queue :), count, (regs _).trans expired, (regs _).trans trunc⟩

section
variable {s : State} {q : Nat} {e c : Bool} (leaving : (s.queue q).leaving = some (e, c)) (left : State.recordLeft q s = true)
include leaving left

/-- A frame or bins free their entry alone. -/
theorem State.endRecord_entry (plain : ∀ t : State, t.headFreed q (s.queue q).ro = t) :
    ((s.endRecord q).queue q) = { s.queue q with leaving := none, ro := (s.queue q).ro.drop 1 } := by
  rw [State.endRecord_eq leaving left, plain]
  exact (s.recordFreed_shows q e c).1

/-- A drain record takes its words from the head of the queue. -/
theorem State.endRecord_drain {f n : Nat} {rest : List RoEntry} (head : (s.queue q).ro = .drain f n :: rest) : let y := (s.endRecord q).queue q
    y.ro = rest ∧ y.occ = (s.queue q).occ - n ∧ y.rd = ((s.queue q).rd + n) % s.wq q := by
  obtain ⟨queue, -, -⟩ := s.recordFreed_shows q e c
  dsimp only
  rw [State.endRecord_eq leaving left, head, State.headFreed]
  rw [head] at queue
  generalize s.recordFreed q e c = t at *
  obtain ⟨body, -, -⟩ := t.drainWords_shows q n
  have words : t.wq q = s.wq q := (congrArg (fun x : Queue => dWords x.desc.toNat) queue :)
  rw [queue, words] at body
  exact ⟨(congrArg Queue.ro body :), (congrArg Queue.occ body :), (congrArg Queue.rd body :)⟩

/-- A derandomizer record takes its words with it, and lets those that are closed queue (R182). -/
theorem State.endRecord_record {r : Rec} {rest : List RoEntry} (head : (s.queue q).ro = .record r :: rest) : let y := (s.endRecord q).queue q
    y.ro = rest ++ (if s.qMode q = 2 ∧ dDrain (s.desc q) = true then ((s.queue q).closed.take (16 - rest.length)).map .record else []) ∧
    y.occ = (s.queue q).occ - (r.len + 1 - r.popped) ∧ y.rd = ((s.queue q).rd + (r.len + 1 - r.popped)) % s.wq q := by
  obtain ⟨queue, -, -⟩ := s.recordFreed_shows q e c
  dsimp only
  rw [State.endRecord_eq leaving left, head, State.headFreed]
  rw [head] at queue
  generalize s.recordFreed q e c = t at *
  obtain ⟨body, -, -⟩ := t.drainWords_shows q (r.len + 1 - r.popped)
  have words : t.wq q = s.wq q := (congrArg (fun x : Queue => dWords x.desc.toNat) queue :)
  rw [queue, words] at body
  generalize t.drainWords q (r.len + 1 - r.popped) = v at *
  have records := v.queueRecords_ro q
  obtain ⟨ro, closed, queue', -, -, -⟩ := v.queueRecords_shows q
  have ruled : v.desc q = s.desc q := State.desc_congr (congrArg Queue.desc body :)
  have ro' : (v.queue q).ro = rest := (congrArg Queue.ro body :)
  have closed' : (v.queue q).closed = (s.queue q).closed := (congrArg Queue.closed body :)
  rw [ro', closed', State.qMode, ruled, ← State.qMode] at records
  refine ⟨records, ?_, ?_⟩
  · rw [queue']
    exact (congrArg Queue.occ body :)
  · rw [queue']
    exact (congrArg Queue.rd body :)
end

/-! ## One record -/

/-- A queue whose record has been handed to the network. -/
def Queue.sent (x : Queue) (e c : Bool) (used : Nat) : Queue := { x with seq := (x.seq + 1) % 65536, leaving := some (e, c), drained := x.drained + used }

/-- The command sends a record, which makes `v` of the state, and ends it where its packets can leave. -/
def State.recordGoes (s : State) (q : Fin 384) (v : State) (P : State → State → Prop) : Prop := ∀ u, u = State.runNet (State.recordLeft q) v.netTime v →
  Completes (.readoutRecordSend q) s (fun t => t.net = u.net ∧ t.mem = v.mem ∧ (∀ k, k ≠ q.val → t.queue k = s.queue k) ∧
    (State.recordLeft q u = false → t = u) ∧ (State.recordLeft q u = true → (t.queue q).leaving = none ∧
      t.reg (QC q 0x4C) = min (u.reg (QC q 0x4C) + 1) (2 ^ 32 - 1) ∧ P u t))

theorem State.runNet_stops {s : State} {stop : State → Bool} (h : stop s = true) (n : Nat) : State.runNet stop n s = s := by
  cases n with
  | zero => rfl
  | succ n => rw [State.runNet, if_pos (by simp [h])]

theorem State.sendReadout_off {s : State} {q : Nat} (h : s.clk.stopped = true ∨ s.run.hold = true ∨ s.routersOn = false) : s.sendReadout q = s :=
  if_pos (by simpa using h)

theorem State.sendReadout_eq {s : State} {q : Nat} (free : s.clk.stopped = false) (run : s.run.hold = false) (on : s.routersOn = true) :
    s.sendReadout q = if ((s.leave q).queue q).leaving.isSome then s.leave q else ((s.leave q).sendNext q).leave q :=
  if_neg (by simp [free, run, on])

section
variable {s : State} {q : Fin 384} (free : s.clk.stopped = false) (run : s.run.hold = false) (on : s.routersOn = true)
  (idle : (s.queue q).leaving = none) (left : State.recordLeft q s = true)

include free run on idle left in
theorem State.sendReadout_next : s.sendReadout q = (s.sendNext q).leave q := by
  have stays : s.leave q = s := by rw [State.leave, State.runNet_stops left, State.endRecord_stays (.inl idle)]
  rw [State.sendReadout_eq free run on, stays, idle]
  rfl

theorem State.leave_stands (h : (s.queue q).leaving = none) (left : State.recordLeft q s = true) : s.leave q = s := by
  rw [State.leave, State.runNet_stops left, State.endRecord_stays (.inl h)]

include free run on idle left in
/-- The record at the head, from what it makes of the state and what its end frees. -/
theorem State.recordGoes_of {b : State} {dest lane used : Nat} {l : List Nat} {e c : Bool} (next : s.sendNext q = s.recordSent b q dest lane l e c used)
    (others : ∀ k, k ≠ q.val → b.queue k = s.queue k) {P : State → State → Prop}
    (ends : ∀ u, u.mem = b.mem → u.queue q = (s.queue q).sent e c used → State.recordLeft q u = true → P u (u.endRecord q)) :
    s.recordGoes q (s.recordSent b q dest lane l e c used) P := by
  intro u hu
  have runs : s.sendReadout q = u.endRecord q := by rw [State.sendReadout_next free run on idle left, next, hu, State.leave]
  have sent : (s.recordSent b q dest lane l e c used).queue q = (s.queue q).sent e c used := State.queue_setQueue_same _ _ _
  have kept k (ne : k ≠ q.val) : (s.recordSent b q dest lane l e c used).queue k = b.queue k := State.queue_setQueue_ne _ _ _ _ ne
  have mem : (s.recordSent b q dest lane l e c used).mem = b.mem := rfl
  have before : (s.recordSent b q dest lane l e c used).changes [.net, .noc, .csr] u := hu ▸ State.netOnly_runNet _ _ _
  clear hu next
  generalize s.recordSent b q dest lane l e c used = v at *
  have queues := State.queue_congr (before.same .qs (by decide))
  have leaving : (u.queue q).leaving = some (e, c) := by rw [queues, sent]; rfl
  obtain ⟨⟨others', frame⟩, -⟩ := u.endRecord_leaves q
  refine completes_by rfl runs ⟨frame.same .net (by decide), (frame.same .mem (by decide)).trans (before.same .mem (by decide)),
    fun k ne => (others' k ne).trans ((queues k).trans ((kept k ne).trans (others k ne))), fun stays => State.endRecord_stays (.inr stays), fun gone => ?_⟩
  obtain ⟨none_, -, count, -⟩ := State.endRecord_frees leaving gone
  exact ⟨none_, count, ends u ((before.same .mem (by decide)).trans mem) ((queues q).trans sent) gone⟩
end

end Sys2Proof.Machine
end

section
/-! O41: lane words and readout records. -/
namespace Sys2Proof.Machine

section
variable {s : State} {q : Fin 384} (free : s.clk.stopped = false) (run : s.run.hold = false) (on : s.routersOn = true)
include free run on

/-- A record that was leaving, and has not left (R178). -/
theorem readout_held (leaving : (s.queue q).leaving.isSome = true) (u : State) (hu : u = State.runNet (State.recordLeft q) s.netTime s)
    (held : State.recordLeft q u = false) : Completes (.readoutRecordSend q) s (fun t => t = u) := by
  have before : s.changes [.net, .noc, .csr] u := hu ▸ State.netOnly_runNet _ _ _
  have stays : s.leave q = u := by rw [State.leave, ← hu, State.endRecord_stays (.inr held)]
  have queue := State.queue_congr (before.same .qs (by decide)) q
  exact completes_by rfl ((State.sendReadout_eq free run on).trans (by rw [stays, queue, if_pos leaving])) rfl

/-- The only record, a frame's, that was leaving has left (R187). -/
theorem readout_leaves (leaving : (s.queue q).leaving.isSome = true) (u : State) {f a l dest lane : Nat} {o ex : Bool}
    (hu : u = State.runNet (State.recordLeft q) s.netTime s) (gone : State.recordLeft q u = true) (head : (s.queue q).ro = [.frame f a l o ex dest lane]) :
    Completes (.readoutRecordSend q) s (fun t => t.net = u.net ∧ t.mem = s.mem ∧
          t.queue q = { s.queue q with leaving := none, ro := [] } ∧ t.reg (QC q 0x4C) = min (u.reg (QC q 0x4C) + 1) (2 ^ 32 - 1)) := by
  have before : s.changes [.net, .noc, .csr] u := hu ▸ State.netOnly_runNet _ _ _
  have queue := State.queue_congr (before.same .qs (by decide)) q
  have runs := State.sendReadout_eq (q := q) free run on
  rw [State.leave, ← hu] at runs
  clear hu
  obtain ⟨⟨e, c⟩, some_⟩ := Option.isSome_iff_exists.mp leaving
  rw [← queue] at head some_ ⊢
  have entry := State.endRecord_entry some_ gone (fun t => by rw [head]; rfl)
  obtain ⟨none_, -, count, -⟩ := State.endRecord_frees some_ gone
  obtain ⟨⟨-, frame⟩, -⟩ := u.endRecord_leaves q
  have net : (u.endRecord q).net = u.net := frame.same .net (by decide)
  have mem : (u.endRecord q).mem = s.mem := (frame.same .mem (by decide)).trans (before.same .mem (by decide))
  have left : State.recordLeft q (u.endRecord q) = true := by rw [State.recordLeft, net]; exact gone
  rw [head] at entry
  generalize u.endRecord q = t at *
  have quiet : t.sendNext q = t := by
    have empty : (t.queue q).ro = [] := (congrArg Queue.ro entry :)
    simp only [State.sendNext, empty]
    exact ite_self _
  refine completes_by rfl (runs.trans ?_) ⟨net, mem, entry, count⟩
  rw [none_, quiet, State.leave_stands none_ left]
  rfl
end

section
variable {s u : State} {q : Nat} {e c : Bool} {used : Nat} (hq : u.queue q = (s.queue q).sent e c used) (gone : State.recordLeft q u = true)
include hq gone

/-- The end of a record that frees its entry alone. -/
theorem sent_entry {h : RoEntry} {rest : List RoEntry} (head : (s.queue q).ro = h :: rest) (plain : ∀ t : State, t.headFreed q (h :: rest) = t) :
    ((u.endRecord q).queue q).ro = rest ∧ ((u.endRecord q).queue q).occ = (s.queue q).occ ∧
    (u.endRecord q).reg (QC q 0x50) = (if e then min (u.reg (QC q 0x50) + 1) (2 ^ 32 - 1) else u.reg (QC q 0x50)) ∧
    (u.endRecord q).reg (QC q 0x54) = (if c then min (u.reg (QC q 0x54) + 1) (2 ^ 32 - 1) else u.reg (QC q 0x54)) := by
  have leaving : (u.queue q).leaving = some (e, c) := (congrArg Queue.leaving hq :)
  have head' : (u.queue q).ro = h :: rest := (congrArg Queue.ro hq).trans head
  have occ : (u.queue q).occ = (s.queue q).occ := (congrArg Queue.occ hq :)
  have entry := State.endRecord_entry leaving gone (fun t => by rw [head']; exact plain t)
  obtain ⟨-, -, -, expired, trunc⟩ := State.endRecord_frees leaving gone
  rw [entry, head']
  exact ⟨rfl, occ, expired, trunc⟩

/-- The end of a drain record. -/
theorem sent_drain {f n : Nat} {rest : List RoEntry} (head : (s.queue q).ro = .drain f n :: rest) : let y := (u.endRecord q).queue q
    y.ro = rest ∧ y.occ = (s.queue q).occ - n ∧ y.rd = ((s.queue q).rd + n) % s.wq q := by
  have words : u.wq q = s.wq q := (congrArg (fun x : Queue => dWords x.desc.toNat) hq :)
  have ends := State.endRecord_drain (congrArg Queue.leaving hq :) gone ((congrArg Queue.ro hq).trans head)
  rw [hq, words] at ends
  exact ends

/-- The end of a derandomizer record. -/
theorem sent_record {r : Rec} {rest : List RoEntry} (head : (s.queue q).ro = .record r :: rest) : let t := u.endRecord q
    (t.queue q).ro = rest ++ (if s.qMode q = 2 ∧ dDrain (s.desc q) = true then ((s.queue q).closed.take (16 - rest.length)).map .record else []) ∧
    (t.queue q).occ = (s.queue q).occ - (r.len + 1 - r.popped) ∧ (t.queue q).rd = ((s.queue q).rd + (r.len + 1 - r.popped)) % s.wq q ∧
    (t.queue q).drained = (s.queue q).drained + used ∧
    t.reg (QC q 0x54) = (if c then min (u.reg (QC q 0x54) + 1) (2 ^ 32 - 1) else u.reg (QC q 0x54)) := by
  have leaving : (u.queue q).leaving = some (e, c) := (congrArg Queue.leaving hq :)
  have words : u.wq q = s.wq q := (congrArg (fun x : Queue => dWords x.desc.toNat) hq :)
  have desc : u.desc q = s.desc q := State.desc_congr (congrArg Queue.desc hq :)
  have mode : u.qMode q = s.qMode q := congrArg dMode desc
  obtain ⟨ro, occ, rd⟩ := State.endRecord_record leaving gone ((congrArg Queue.ro hq).trans head)
  obtain ⟨-, drained, -, -, trunc⟩ := State.endRecord_frees leaving gone
  rw [hq, desc, mode] at ro
  rw [hq] at occ
  rw [hq, words] at rd
  exact ⟨ro, occ, rd, drained.trans (congrArg Queue.drained hq :), trunc⟩
end

/-- Settles O41, a lane's word and a controller's record each by its own lemmas. -/
theorem queueTraffic : Obligations.QueueTraffic := by
  intro s
  refine ⟨fun n w runs off q fed mode on room less => laneWord_fifo runs off fed mode on room less,
    fun n w runs off q fed mode room x hx => laneWord_pipe runs off fed mode room x hx, fun n w runs on l hl => laneWord_tee runs on l hl,
    fun n w c near => laneWord_lost near, fun n w c far => laneWord_far far, fun q => ?_⟩
  intro x words packets sent goes clean stored
  refine ⟨fun off => completes_by rfl (State.sendReadout_off off) rfl, fun free run on leaving u hu held => readout_held free run on leaving u hu held,
    fun free run on leaving u f a l o ex dest lane hu gone head => readout_leaves free run on leaving u hu gone head,
    fun free run on idle left => ⟨fun empty => ?_, fun f a l o dest lane rest head => ?_, fun f a l o dest lane rest head => ⟨fun kept cl => ?_, fun lost => ?_⟩,
      fun b fr dest lane rest cl => ⟨fun head => ?_, fun head => ?_⟩, fun f c rest head cl => ?_, fun r rest head cl written fits => ?_,
      fun r rest head some_ much => ?_⟩⟩
  · have quiet : s.sendNext q = s := by
      simp only [State.sendNext, show (s.queue q).ro = [] from empty]
      exact ite_self _
    exact completes_by rfl ((State.sendReadout_next free run on idle left).trans (by rw [quiet, State.leave_stands idle left])) rfl
  · refine State.recordGoes_of free run on idle left (State.sendNext_expired idle head) (fun _ _ => rfl) fun u _ hq gone => ?_
    obtain ⟨ro, occ, expired, -⟩ := sent_entry hq gone head fun _ => rfl
    exact ⟨ro, occ, expired⟩
  · refine State.recordGoes_of free run on idle left (State.sendNext_frame idle head kept (fun i hi => (cl i hi).1) fun i hi => (cl i hi).2) (fun _ _ => rfl)
      fun u _ hq gone => ?_
    obtain ⟨ro, occ, -, trunc⟩ := sent_entry hq gone head fun _ => rfl
    exact ⟨ro, occ, trunc⟩
  · refine State.recordGoes_of free run on idle left (State.sendNext_lost idle head lost) (fun _ _ => rfl) fun u _ hq gone => ?_
    obtain ⟨ro, occ, -, trunc⟩ := sent_entry hq gone head fun _ => rfl
    exact ⟨ro, occ, trunc⟩
  · refine State.recordGoes_of free run on idle left (State.sendNext_bins (n := 4096) idle rfl head (fun i hi => (cl i hi).1) fun i hi => (cl i hi).2)
      (fun _ _ => rfl) fun u _ hq gone => ?_
    obtain ⟨ro, occ, -, -⟩ := sent_entry hq gone head fun _ => rfl
    exact ⟨ro, occ⟩
  · obtain ⟨bytes, frame⟩ := s.clearBins_shows q b (n := 4096) (Nat.le_refl _)
    refine State.recordGoes_of free run on idle left (State.sendNext_bins (n := 4096) idle rfl head (fun i hi => (cl i hi).1) fun i hi => (cl i hi).2)
      (fun k _ => State.queue_congr (frame.same .qs (by decide)) k) fun u mem hq gone => ?_
    obtain ⟨ro, occ, -, -⟩ := sent_entry hq gone head fun _ => rfl
    refine ⟨ro, occ, fun k hk i => ?_⟩
    obtain ⟨⟨-, after⟩, -⟩ := u.endRecord_leaves q
    subst hk
    exact (State.byte_of_mem ((after.same .mem (by decide)).trans mem) i).trans (bytes i)
  · refine State.recordGoes_of free run on idle left (State.sendNext_drain idle head (fun i hi => (cl i hi).1) fun i hi => (cl i hi).2) (fun _ _ => rfl)
      fun u _ hq gone => ?_
    exact sent_drain hq gone head
  · refine State.recordGoes_of free run on idle left (State.sendNext_record idle head (fun i hi => written i (by omega)) (fun i hi => (cl i hi).2) fits)
      (fun _ _ => rfl) fun u _ hq gone => ?_
    exact sent_record hq gone head
  · have waits : s.readoutWaits q = true := by
      rw [State.readoutWaits_eq, show (s.queue q).ro = .record r :: rest from head]
      exact Bool.or_eq_true_iff.mpr (.inr (decide_eq_true ⟨some_, much⟩))
    have quiet : s.sendNext q = s := if_pos waits
    exact completes_by rfl ((State.sendReadout_next free run on idle left).trans (by rw [quiet, State.leave_stands idle left])) rfl

end Sys2Proof.Machine
end

section
/-! Headland's own accesses over the network (spec/12 R375; spec/07 R217, R229). -/
namespace Sys2Proof.Machine

/-! ## The way of a packet -/

/-- The ports of the routers stand open or closed as before. -/
def State.waysKept (s t : State) : Prop := ∀ n i, n < 48 → i < 8 → t.portEn n i = s.portEn n i

theorem State.waysKept_refl (s : State) : s.waysKept s := fun _ _ _ _ => rfl

theorem State.waysKept.trans {s t u : State} (h : s.waysKept t) (k : t.waysKept u) : s.waysKept u := fun n i hn hi => (k n i hn hi).trans (h n i hn hi)

theorem State.waysKept_of_reg {s t : State} (h : ∀ n, n < 48 → t.reg (NR n 0xC) = s.reg (NR n 0xC)) : s.waysKept t :=
  fun n i hn _ => State.bit_congr (h n hn) (8 + i)

theorem State.waysKept_of_csr {s t : State} (h : t.csr = s.csr) : s.waysKept t := State.waysKept_of_reg fun _ _ => State.reg_congr h _

theorem State.crossed_refl (s : State) : s.crossed s := ⟨rfl, fun _ _ => rfl⟩

theorem State.crossed.trans {s t u : State} (h : s.crossed t) (k : t.crossed u) : s.crossed u :=
  ⟨State.changes.trans (l := [.csr]) h.1 k.1, fun a out => (k.2 a out).trans (h.2 a out)⟩

theorem State.crossed.reg {s t : State} (h : s.crossed t) {a : Nat} (out : ∀ n i, n < 48 → i < 32 → a ≠ NR n (0x100 + 4 * i)) : t.reg a = s.reg a := h.2 a out

theorem NR_ne_count {m o : Nat} (ho : o < 0x100) (n i : Nat) (_ : n < 48) (hi : i < 32) : NR m o ≠ NR n (0x100 + 4 * i) := by
  unfold NR
  omega

theorem State.crossed.ways {s t : State} (h : s.crossed t) : s.waysKept t := State.waysKept_of_reg fun _ _ => h.2 _ (NR_ne_count (by decide))

/-- Where a packet leads nowhere depends on its destination and the ports. -/
theorem State.waysKept.dead {s t : State} (ways : s.waysKept t) {p p' : Packet} (dst : p'.dst = p.dst) {h : Hop} (hr : h.router < 48) : t.dead p' h = s.dead p h := by
  unfold State.dead
  rw [dst]
  by_cases out : h.out < 8
  · rw [ways h.router h.out hr out]
  · rw [decide_eq_false out, Bool.false_and, Bool.false_and]

theorem routeFrom_outs (n : Nat) : ∀ a b, ∀ x ∈ routeFrom n a b, x.2 < 8 := by
  induction n with
  | zero => exact fun a b x hx => absurd hx List.not_mem_nil
  | succ n ih =>
    intro a b x hx
    have next {c o : Nat} {l : List (Nat × Nat)} (ho : o < 8) (rest : x ∈ l → x.2 < 8) (hx : x ∈ (c, o) :: l) : x.2 < 8 :=
      (List.mem_cons.mp hx).elim (fun e => e ▸ ho) rest
    rw [routeFrom] at hx
    split at hx
    · exact next (by decide) (ih _ _ x) hx
    split at hx
    · exact next (by decide) (ih _ _ x) hx
    split at hx
    · exact next (by decide) (ih _ _ x) hx
    split at hx
    · exact next (by decide) (ih _ _ x) hx
    · exact absurd hx List.not_mem_nil

theorem route_hops (src dst : Nat) : ∀ x ∈ route src dst, x.1 < 48 ∧ x.2 < 8 := by
  intro x hx
  obtain ⟨mem, lt⟩ := List.mem_filter.mp hx
  refine ⟨of_decide_eq_true lt, ?_⟩
  rcases List.mem_append.mp mem with far | last
  · exact routeFrom_outs _ _ _ x far
  · obtain rfl := List.mem_singleton.mp last
    show 4 + dst % 4 < 8
    omega

theorem hopsFrom_on (own : Bool) (l : List (Nat × Nat)) (hl : ∀ x ∈ l, x.1 < 48 ∧ x.2 < 8) : ∀ i, ∀ h ∈ hopsFrom own i l, h.router < 48 ∧ h.out ≤ 8 := by
  induction l with
  | nil => exact fun i h hh => absurd hh List.not_mem_nil
  | cons x l ih =>
    intro i h hh
    have here := hl x List.mem_cons_self
    cases l with
    | nil =>
      obtain rfl := List.mem_singleton.mp hh
      refine ⟨here.1, ?_⟩
      show (if own then 8 else x.2) ≤ 8
      split <;> omega
    | cons y l =>
      rcases List.mem_cons.mp hh with rfl | later
      · exact ⟨here.1, here.2.le⟩
      · exact ih (fun z hz => hl z (List.mem_cons_of_mem _ hz)) _ h later

theorem Packet.routed_hops (p : Packet) : ∀ h ∈ p.routed.hops, h.router < 48 ∧ h.out ≤ 8 := hopsFrom_on _ _ (route_hops _ _) _

/-- A packet that meets no dead port crosses, and only the routers' counters show it (R229). -/
theorem State.cross_open {p : Packet} (hops : List Hop) (hv : p.vc < 4) (on : ∀ h ∈ hops, h.router < 48 ∧ h.out ≤ 8) :
    ∀ s : State, (∀ h ∈ hops, s.dead p h = false) → ∃ t, s.cross p hops = (none, t) ∧ s.crossed t := by
  induction hops with
  | nil => exact fun s _ => ⟨s, rfl, s.crossed_refl⟩
  | cons h hops ih =>
    intro s alive
    obtain ⟨router, out⟩ := on h List.mem_cons_self
    have step : s.crossed (if h.out = 8 then s else s.count (NR h.router (0x100 + 16 * h.out + 4 * p.vc)) 0 32 1) := by
      split
      · exact s.crossed_refl
      · refine ⟨rfl, fun a far => ?_⟩
        have := far h.router (4 * h.out + p.vc) router (by omega)
        rw [show 0x100 + 4 * (4 * h.out + p.vc) = 0x100 + 16 * h.out + 4 * p.vc by omega] at this
        exact State.reg_setFld_ne _ _ _ _ _ _ this
    obtain ⟨t, run, crossed⟩ := ih (fun k hk => on k (List.mem_cons_of_mem _ hk)) _ fun k hk =>
      (step.ways.dead rfl (on k (List.mem_cons_of_mem _ hk)).1).trans (alive k (List.mem_cons_of_mem _ hk))
    refine ⟨t, ?_, step.trans crossed⟩
    rw [State.cross, if_neg (by simp [alive h List.mem_cons_self])]
    exact run

theorem State.stopsAt_none {s : State} {p : Packet} : s.stopsAt p = none ↔ ∀ h ∈ p.routed.hops, s.dead p h = false := by
  simp [State.stopsAt]

theorem State.crossing_open {s : State} {p : Packet} (hv : p.vc < 4) (way : s.stopsAt p = none) : ∃ t, s.crossing p = (none, t) ∧ s.crossed t :=
  State.cross_open _ hv p.routed_hops s (State.stopsAt_none.mp way)

/-- A packet of the same route stops nowhere either. -/
theorem State.waysKept.stopsAt {s t : State} (ways : s.waysKept t) {p p' : Packet} (dst : p'.dst = p.dst) (hops : p'.routed.hops = p.routed.hops)
    (way : s.stopsAt p = none) : t.stopsAt p' = none := by
  rw [State.stopsAt_none] at way ⊢
  rw [hops]
  exact fun h hh => (ways.dead dst (p.routed_hops h hh).1).trans (way h hh)

/-! ## Request and response -/

theorem headlandPacket_fields (dst a : Nat) (write : Bool) (v tag : Nat) : let p := headlandPacket dst a write v tag
    p.dst = dst % 256 ∧ p.src = 3 ∧ p.vc = 0 ∧ p.typ = write.toNat ∧ p.addr = a % 2 ^ 32 := by
  obtain ⟨fdst, src, vc, typ, -, -, -, addr, -⟩ := mkHdr_fields dst 3 0 write.toNat 0 tag 0 a v 0 0 (headlandPacket dst a write v tag) rfl
  exact ⟨fdst, src, vc, typ.trans (Nat.mod_eq_of_lt (by cases write <;> decide)), addr⟩

/-- Whether a request of Headland's names the router's own registers lies in its address. -/
theorem ownRegisters_headland (dst a : Nat) (write : Bool) (v tag : Nat) :
    ownRegisters (headlandPacket dst a write v tag) = ownRegisters (headlandPacket dst a false 0 0) := by
  obtain ⟨fdst, -, -, typ, addr⟩ := headlandPacket_fields dst a write v tag
  obtain ⟨fdst', -, -, typ', addr'⟩ := headlandPacket_fields dst a false 0 0
  unfold ownRegisters
  rw [fdst, typ, addr, fdst', typ', addr']
  cases write <;> rfl

theorem headlandPacket_hops (dst a : Nat) (write : Bool) (v tag : Nat) :
    (headlandPacket dst a write v tag).routed.hops = (headlandPacket dst a false 0 0).routed.hops := by
  obtain ⟨fdst, src, -, -, -⟩ := headlandPacket_fields dst a write v tag
  obtain ⟨fdst', src', -, -, -⟩ := headlandPacket_fields dst a false 0 0
  unfold Packet.routed
  rw [ownRegisters_headland, fdst, src, fdst', src']

theorem headlandResponse_fields (who : Nat) (p : Packet) (st x : Nat) : let y := headlandResponse who p st x
    y.dst = 3 ∧ y.src = who % 256 ∧ y.vc = 1 ∧ y.typ = (p.typ + 2) % 16 := by
  obtain ⟨fdst, src, vc, typ, -⟩ := mkHdr_fields 3 who 1 (p.typ + 2) 0 p.tag st p.addr x 0 0 (headlandResponse who p st x) rfl
  exact ⟨fdst, src, vc, typ⟩

theorem headlandResponse_hops (who : Nat) {p : Packet} (request : p.typ < 2) (st x : Nat) :
    (headlandResponse who p st x).routed.hops = hopsFrom false (4 + who % 256 % 4) (route (who % 256) 3) := by
  obtain ⟨fdst, src, -, typ⟩ := headlandResponse_fields who p st x
  have other : ownRegisters (headlandResponse who p st x) = false := by
    have h : ∀ t < 2, (decide ((t + 2) % 16 = 0) || decide ((t + 2) % 16 = 1)) = false := by decide
    unfold ownRegisters
    rw [typ, h _ request]
    rfl
  unfold Packet.routed
  rw [other, fdst, src]

/-- The router that answers for its own registers stands at its own node. -/
theorem routerNode_own {dst : Nat} (lt : dst < 256) {p : Packet} (hp : p.dst = dst % 256) (own : ownRegisters p = true) : routerNode (nodeRouter dst) = dst := by
  have port : p.dst % 4 = 0 := by
    unfold ownRegisters at own
    simp only [Bool.and_eq_true, decide_eq_true_eq] at own
    exact own.1.2
  rw [hp] at port
  have place : dst = dst / 32 * 32 + dst / 4 % 8 * 4 + 0 := by omega
  have x : nodeRouter dst % 8 = dst / 32 := by unfold nodeRouter; omega
  have y : nodeRouter dst / 8 = dst / 4 % 8 := by unfold nodeRouter; omega
  rw [routerNode, nodeId, x, y]
  exact place.symm

theorem State.headlandReply_open {z w : State} {who : Nat} {p : Packet} {st x : Nat} (h : z.crossing (headlandResponse who p st x) = (none, w)) :
    z.headlandReply who p st x = ((st, x), w) := by
  rw [State.headlandReply, State.headlandAnswer, h]
  rfl

theorem State.headlandTrip_crosses {s u : State} {p : Packet} {dst who : Nat} (on : s.routersOn = true) (replier : s.replier p dst = who)
    (crossing : s.crossing p = (none, u)) (held : s.heldFor dst p = false) (f : State → (Nat × Nat) × State) :
    s.headlandTrip p dst f = (f u).2.headlandReply who p (f u).1.1 (f u).1.2 := by
  unfold State.headlandTrip
  rw [if_neg (by simp [on]), crossing, replier]
  refine if_neg fun h => ?_
  have held' : s.heldFor dst p = true := h
  rw [held] at held'
  contradiction

/-- Headland's request over an open way is executed at its node between two crossings (R217, R375). -/
theorem State.headlandTrip_open {s : State} {dst a : Nat} (on : s.routersOn = true) (lt : dst < 256) (way : s.openWay dst a)
    (free : ownRegisters (headlandPacket dst a false 0 0) = true ∨ ∀ r, nodeKind dst = .region r → s.epHeld r = false) (write : Bool) (v tag : Nat)
    {f : State → (Nat × Nat) × State} (keeps : ∀ u, s.crossed u → u.waysKept (f u).2) :
    ∃ u w, s.crossed u ∧ (f u).2.crossed w ∧ s.headlandTrip (headlandPacket dst a write v tag) dst f = ((f u).1, w) := by
  obtain ⟨there, back⟩ := way
  have fields := headlandPacket_fields dst a write v tag
  have fields' := headlandPacket_fields dst a false 0 0
  have hops := headlandPacket_hops dst a write v tag
  have own := ownRegisters_headland dst a write v tag
  generalize headlandPacket dst a write v tag = p at *
  generalize headlandPacket dst a false 0 0 = p0 at *
  dsimp only at fields fields'
  obtain ⟨fdst, -, vc, typ, -⟩ := fields
  obtain ⟨fdst', -, -, typ', -⟩ := fields'
  have stops := s.waysKept_refl.stopsAt (p := p0) (p' := p) (fdst.trans fdst'.symm) hops there
  obtain ⟨u, crossing, crossed⟩ := State.crossing_open (by omega) stops
  have replier : s.replier p dst = dst := by
    rw [State.replier, stops]
    show (if ownRegisters p then routerNode (nodeRouter dst) else dst) = dst
    split
    · next h => exact routerNode_own lt fdst h
    · rfl
  have request : p.typ < 2 := by cases write <;> simp [typ]
  have held : s.heldFor dst p = false := State.heldFor_free (own ▸ free)
  have ways := crossed.ways.trans (keeps u crossed)
  obtain ⟨bdst, -, bvc, -⟩ := headlandResponse_fields dst p (f u).1.1 (f u).1.2
  obtain ⟨bdst', -, -, -⟩ := headlandResponse_fields dst p0 0 0
  have stops' := ways.stopsAt (p := headlandResponse dst p0 0 0) (p' := headlandResponse dst p (f u).1.1 (f u).1.2) (bdst.trans bdst'.symm)
    ((headlandResponse_hops dst request _ _).trans (headlandResponse_hops dst (by rw [typ']; decide) _ _).symm) back
  obtain ⟨w, crossing', crossed'⟩ := State.crossing_open (by rw [bvc]; decide) stops'
  refine ⟨u, w, crossed, crossed', ?_⟩
  exact (State.headlandTrip_crosses on replier crossing held f).trans (State.headlandReply_open crossing')

end Sys2Proof.Machine
end

section
/-! What an access leaves of the routers' ports (spec/07 R227). -/
namespace Sys2Proof.Machine

/-! ## Registers that are no port enable -/

/-- Address `a` is no NR_PORT_EN. -/
def apartFromPorts (a : Nat) : Prop := ∀ n, n < 48 → NR n 0xC ≠ a

theorem apart_of_ge {a : Nat} (h : 0x20000000 ≤ a) : apartFromPorts a := by
  intro n hn
  unfold NR
  omega

theorem apart_QC (q o : Nat) : apartFromPorts (QC q o) := apart_of_ge (by unfold QC; omega)

theorem apart_CK (o : Nat) : apartFromPorts (CK o) := apart_of_ge (by unfold CK; omega)

theorem apart_LN (n o : Nat) : apartFromPorts (LN n o) := apart_of_ge (by unfold LN; omega)

theorem apart_ZV (p o : Nat) : apartFromPorts (ZV p o) := apart_of_ge (by unfold ZV; omega)

theorem apart_PB (o : Nat) : apartFromPorts (PB o) := apart_of_ge (by unfold PB; omega)

theorem apart_NR (n : Nat) {o : Nat} (ho : o < 0x10000) (h : o ≠ 0xC) : apartFromPorts (NR n o) := by
  intro m _
  unfold NR
  omega

section
variable {s t : State} {a : Nat}

theorem State.ways_of (h : ∀ b, b ≠ a → t.reg b = s.reg b) (apart : apartFromPorts a) : s.waysKept t := State.waysKept_of_reg fun n hn => h _ (apart n hn)

theorem State.ways_setReg (s : State) (apart : apartFromPorts a) (v : Nat) : s.waysKept (s.setReg a v) := State.ways_of (fun _ h => s.reg_setReg_ne _ _ _ h) apart

theorem State.ways_setFld (s : State) (apart : apartFromPorts a) (lo w v : Nat) : s.waysKept (s.setFld a lo w v) :=
  State.ways_of (fun _ h => s.reg_setFld_ne _ _ _ _ _ h) apart

theorem State.ways_setBit (s : State) (apart : apartFromPorts a) (i : Nat) (b : Bool) : s.waysKept (s.setBit a i b) :=
  State.ways_of (fun _ h => s.reg_setBit_ne _ _ _ _ h) apart

theorem State.ways_inc (s : State) (apart : apartFromPorts a) : s.waysKept (s.inc a) := State.ways_of (fun _ h => s.reg_inc_ne _ _ h) apart

theorem State.ways_zeroRegs (s : State) {l : List Nat} (apart : ∀ a ∈ l, apartFromPorts a) : s.waysKept (s.zeroRegs l) :=
  State.waysKept_of_reg fun n hn => (s.reg_zeroRegs l _).trans (if_neg fun h => apart _ h n hn rfl)

theorem State.ways_ite {c : Prop} [Decidable c] {t u : State} (h : s.waysKept t) (k : s.waysKept u) : s.waysKept (if c then t else u) := by
  split
  · exact h
  · exact k

theorem State.ways_when {c : Prop} [Decidable c] {t u : State} (h : s.waysKept t) (k : t.waysKept u) : s.waysKept (if c then u else t) :=
  State.ways_ite (h.trans k) h

theorem State.ways_unless {c : Prop} [Decidable c] {t u : State} (h : s.waysKept t) (k : t.waysKept u) : s.waysKept (if c then t else u) :=
  State.ways_ite h (h.trans k)

theorem State.ways_changes {l : List Part} (h : s.changes l t) (csr : Part.csr ∉ l) : s.waysKept t := State.waysKept_of_csr (h.same .csr csr)
end

/-- A plain write of any register leaves the ports: the enables in force are read-only (Table NOC-9). -/
theorem State.ways_plainWrite (s : State) (a v : Nat) : s.waysKept (s.plainWrite a v) := by
  intro n i hn hi
  by_cases same : NR n 0xC = a
  · subst same
    obtain ⟨fs, fields, -, active⟩ := applyWrite_nrPortEn (s.reg (NR n 0xC)) v
    have which : regFields (NR n 0xC) = some fs := (reads_router (blockOf_NR hn (by decide))).1.trans fields
    obtain ⟨value, -, -⟩ := s.plainWrite_shows v which
    have field : (s.plainWrite (NR n 0xC) v).fld (NR n 0xC) 8 8 = bits (s.reg (NR n 0xC)) 8 8 := (State.fld_of_reg value (by decide)).trans active
    have one := congrArg (fun x => Nat.testBit x i) field
    simp only [State.fld, testBit_bits, hi, decide_true, Bool.true_and] at one
    rw [State.portEn, State.portEn, State.bit, State.bit, State.fld, State.fld, bits_bit, bits_bit, one]
  · exact State.bit_congr (s.reg_setReg_ne _ _ _ same) _

/-! ## The clock block -/

theorem State.ways_rampEnd (s : State) (n : Nat) : s.waysKept (s.rampEnd n) := by
  unfold State.rampEnd
  exact State.ways_ite (State.waysKept_of_csr rfl) (State.ways_setBit _ (apart_CK _) _ _)

theorem State.ways_forceMux (s : State) (c : Nat) : s.waysKept (s.forceMux c) :=
  (s.ways_setBit (apart_CK 0) 13 true).trans (State.ways_changes (l := [.hl]) (by simp [State.forceMux]) (by decide))

theorem State.ways_rampSwitch (s : State) (n : Nat) : s.waysKept (s.rampSwitch n) := by
  rw [State.rampSwitch_eq]
  extract_lets src d was u g v
  have set : u.waysKept v := State.waysKept_of_csr rfl
  exact State.ways_when ((State.ways_when s.waysKept_refl (s.ways_forceMux _)).trans set) (State.ways_rampEnd _ n)

theorem State.ways_rampGo (s : State) (n : Nat) : s.waysKept (s.rampGo n) := by
  rw [State.rampGo, State.rampTurn]
  dsimp only
  exact State.ways_ite (State.ways_ite (s.ways_rampEnd n) (State.waysKept_of_csr rfl))
    (State.ways_ite (State.ways_ite (s.ways_rampSwitch n) (State.waysKept_of_csr rfl)) (State.waysKept_of_csr rfl))

theorem State.ways_rampNow (s : State) (n : Nat) : s.waysKept (s.rampNow n) :=
  ((State.waysKept_of_csr (t := s.setGck n { s.gckOf n with viaBoot := false }) rfl).trans (State.ways_setBit _ (apart_CK _) _ _)).trans (State.ways_rampGo _ n)

theorem State.ways_openGates (s : State) : s.waysKept s.openGates := by
  unfold State.openGates
  generalize 47 = n
  induction n with
  | zero => exact s.waysKept_refl
  | succ n ih =>
    rw [forAll_succ]
    exact ih.trans (State.ways_when (State.waysKept_refl _) (State.ways_setBit _ (apart_CK _) _ _))

theorem State.ways_failoverOf (s : State) (c : Nat) : s.waysKept (s.failoverOf c) := by
  unfold State.failoverOf
  have failed : s.waysKept { s with clk := { s.clk with failed := (s.clk.failed.filter (· ≠ 5 - c)) ++ [c] } } := State.waysKept_of_csr rfl
  exact State.ways_when s.waysKept_refl (State.ways_when failed (State.ways_forceMux _ c))

theorem State.ways_trimFollow (s : State) : s.waysKept s.trimFollow := State.ways_of (fun _ h => s.trimFollow_reg h) (apart_CK _)

theorem State.ways_spllRestart (s : State) (n : Nat) : s.waysKept (s.spllRestart n) :=
  ((s.ways_setBit (apart_CK _) 0 false).trans (State.ways_setBit _ (apart_CK _) 1 false)).trans (State.waysKept_of_csr rfl)

theorem State.ways_writeClock (s : State) (off v : Nat) : s.waysKept (s.writeClock off v) := by
  rw [State.writeClock]
  generalize applyWrite ((ckFields off).getD []) (s.reg (CK off)) v = new
  have set : s.waysKept (s.setReg (CK off) new) := s.ways_setReg (apart_CK off) new
  generalize s.setReg (CK off) new = t at *
  refine State.ways_ite set (State.ways_ite (State.ways_ite set (set.trans (t.ways_rampNow _))) ?_)
  split
  · exact set.trans (t.ways_spllRestart _)
  · exact State.ways_ite (set.trans t.ways_openGates) (set.trans ((t.ways_trimFollow.trans (State.ways_failoverOf _ 2)).trans (State.ways_failoverOf _ 3)))

theorem State.ways_writeTickCtrl (s : State) (v : Nat) : s.waysKept (s.writeTickCtrl v) := by
  unfold State.writeTickCtrl
  have src : s.waysKept (if bits v 0 2 = 3 then s else { s with tick := { s.tick with pendSrc := some (bits v 0 2) } }) :=
    State.ways_unless s.waysKept_refl (State.waysKept_of_csr rfl)
  exact State.ways_unless (State.ways_unless src (State.ways_setFld _ (apart_CK _) _ _ _)) (State.ways_setFld _ (apart_CK _) _ _ _)

theorem State.ways_tickPreset (s : State) : s.waysKept s.tickPreset := State.ways_unless s.waysKept_refl (State.waysKept_of_csr rfl)

theorem State.ways_acquire (s : State) : s.waysKept s.acquire := (s.ways_setBit (apart_CK _) 0 false).trans (State.waysKept_of_csr rfl)

theorem State.ways_alignDone (s : State) : s.waysKept s.alignDone := State.ways_when s.waysKept_refl (s.ways_setBit (apart_CK _) _ _)

theorem State.ways_tickCmd (s : State) (v : Nat) : s.waysKept (s.tickCmd v) := by
  unfold State.tickCmd
  exact State.ways_when (State.ways_when (State.ways_when (State.ways_when s.waysKept_refl s.ways_tickPreset) (State.ways_acquire _)) (State.ways_alignDone _))
    (State.ways_setFld _ (apart_CK _) _ _ _)

theorem State.ways_writeCk (s : State) (off v : Nat) : s.waysKept (s.writeCk off v) := by
  unfold State.writeCk
  refine State.ways_ite (s.ways_writeClock off v) ?_
  split
  · exact s.ways_writeTickCtrl v
  · exact State.ways_ite (State.waysKept_of_csr rfl) s.waysKept_refl
  · exact s.ways_tickCmd v
  · exact State.ways_ite (State.waysKept_of_csr rfl) s.waysKept_refl
  · exact s.ways_plainWrite _ v

/-! ## Queue controllers -/

theorem State.ways_ofController {q : Nat} {s t : State} (h : s.ofController q t) : s.waysKept t :=
  State.waysKept_of_reg fun n hn => h.2 _ fun o _ => apart_QC q o n hn

theorem State.ofController_csr {q : Nat} {s t : State} (h : s.ofQueue q t) (csr : t.csr = s.csr) : s.ofController q t := ⟨h, fun a _ => State.reg_congr csr a⟩

theorem State.ways_endRecord (s : State) (q : Nat) : s.waysKept (s.endRecord q) := by
  by_cases stays : (s.queue q).leaving = none ∨ State.recordLeft q s = false
  · rw [State.endRecord_stays stays]
    exact s.waysKept_refl
  · obtain ⟨some_, left⟩ := not_or.mp stays
    obtain ⟨⟨e, c⟩, leaving⟩ := Option.ne_none_iff_exists'.mp some_
    rw [State.endRecord_eq leaving (by simpa using left)]
    obtain ⟨-, -, -, frame⟩ := (s.recordFreed q e c).headFreed_leaves q (s.queue q).ro
    have counted : s.waysKept (s.recordFreed q e c) := by
      unfold State.recordFreed State.recordCounted
      have freed : s.waysKept (s.setQueue q { s.queue q with leaving := none, ro := (s.queue q).ro.drop 1 }) := State.waysKept_of_csr rfl
      exact State.ways_when (State.ways_when (freed.trans (State.ways_inc _ (apart_QC _ _))) (State.ways_inc _ (apart_QC _ _))) (State.ways_inc _ (apart_QC _ _))
    exact counted.trans (State.ways_changes frame (by decide))

theorem State.ways_clearQueue (s : State) (q : Nat) : s.waysKept (s.clearQueue q) := by
  have ended := s.ways_endRecord q
  rw [State.clearQueue_eq]
  generalize s.endRecord q = t at *
  have emptied : t.waysKept (({ t with net := t.net.filter (fun p => p.own ≠ q || p.left ≠ 0) } : State).setQueue q (t.queue q).emptied) := State.waysKept_of_csr rfl
  generalize ({ t with net := t.net.filter (fun p => p.own ≠ q || p.left ≠ 0) } : State).setQueue q (t.queue q).emptied = w at *
  have history : w.waysKept (w.restartHistory q) := by
    unfold State.restartHistory
    exact State.ways_unless w.waysKept_refl ((State.waysKept_of_csr rfl).trans (State.ways_setBit _ (apart_QC _ _) _ _))
  obtain ⟨-, -, -, frame⟩ := (w.restartHistory q).updThrottle_shows q
  exact ((ended.trans emptied).trans history).trans (State.ways_changes frame (by decide))

theorem State.ways_qcCmd (s : State) (q v : Nat) : s.waysKept (s.qcCmd q v) := by
  unfold State.qcCmd
  refine State.ways_when (State.ways_when (State.ways_when (State.ways_when s.waysKept_refl (s.ways_clearQueue q)) (State.waysKept_of_csr rfl)) ?_)
    (State.waysKept_of_csr rfl)
  refine State.ways_zeroRegs _ fun a ha => ?_
  simp only [List.mem_cons, List.not_mem_nil, or_false] at ha
  rcases ha with rfl | rfl | rfl | rfl | rfl | rfl | rfl | rfl | rfl <;> exact apart_QC _ _

theorem State.ways_queueRead (s : State) (q o by_ : Nat) : s.waysKept (s.queueRead q o by_).2 := by
  have read := s.readWord_leaves (s.qBlock q o) (o % 4096)
  rcases h : s.readWord (s.qBlock q o) (o % 4096) with ⟨⟨v, ce, ue⟩, u⟩
  rw [h] at read
  simp only [State.queueRead, h]
  refine State.ways_when (State.ways_when (State.ways_changes read (by decide)) (State.ways_inc _ (apart_QC _ _))) ?_
  exact ((State.ways_inc _ (apart_QC _ _)).trans (State.ways_setBit _ (apart_QC _ _) _ _)).trans (State.ways_changes (State.foundUE_leaves _ _ _ _) (by decide))

theorem State.ways_accServed (s : State) (q : Nat) : s.waysKept (s.accServed q) :=
  State.ways_of (fun _ h => s.accServed_reg q h) (apart_QC _ _)

/-- An access that reads, whatever its word holds. -/
theorem State.serveAccess_queueRead {s : State} {q : Nat} (mode : s.qMode q ≠ 0) (small : s.fld (QC q 0x90) 0 19 < s.wq q) (w : s.accWrite q = false) :
    s.serveAccess q = accAnswer q ((s.accServed q).queueRead q (s.fld (QC q 0x90) 0 19) 1) := by
  have reach : ¬(s.qMode q = 0 ∨ s.wq q ≤ s.fld (QC q 0x90) 0 19) := by omega
  have stays : (s.accServed q).accWrite q ≠ true := by rw [State.accServed_write, w]; decide
  rw [State.serveAccess]
  extract_lets _ _ u
  have served : u = s.accServed q := rfl
  rw [served]
  clear_value u
  clear served
  rw [if_neg (show ¬((s.setBit (QC q 0x90) 29 false).qMode q = 0 ∨ (s.setBit (QC q 0x90) 29 false).wq q ≤ s.fld (QC q 0x90) 0 19) from reach), if_neg stays]
  generalize (s.accServed q).queueRead q (s.fld (QC q 0x90) 0 19) 1 = r
  rfl

theorem State.ways_accAnswer (q : Nat) (r : (Nat × Bool × Bool) × State) : r.2.waysKept (accAnswer q r) :=
  (((r.2.ways_setReg (apart_QC _ _) _).trans (State.ways_setReg _ (apart_QC _ _) _)).trans (State.ways_setBit _ (apart_QC _ _) _ _)).trans
    (State.ways_setBit _ (apart_QC _ _) _ _)

theorem State.ways_serveAccess (s : State) (q : Nat) : s.waysKept (s.serveAccess q) := by
  have bit (t : State) (i : Nat) (b : Bool) : t.waysKept (t.setBit (QC q 0x90) i b) := t.ways_setBit (apart_QC _ _) _ _
  have reg (t : State) (o v : Nat) : t.waysKept (t.setReg (QC q o) v) := t.ways_setReg (apart_QC _ _) _
  by_cases out : s.qMode q = 0 ∨ s.wq q ≤ s.fld (QC q 0x90) 0 19
  · have run : s.serveAccess q = _ := if_pos out
    rw [run]
    exact State.ways_unless ((bit _ _ _).trans (bit _ _ _)) ((((reg _ _ _).trans (reg _ _ _)).trans (bit _ _ _)).trans (bit _ _ _))
  obtain ⟨mode, small⟩ := not_or.mp out
  by_cases write : s.accWrite q = true
  · rw [State.serveAccess_writes mode (by omega) write]
    obtain ⟨-, -, -, frame⟩ := (s.accServed q).putWord_shows (s.qBlock q (s.fld (QC q 0x90) 0 19)) (s.fld (QC q 0x90) 0 19 % 4096)
      (s.reg (QC q 0x94) + s.reg (QC q 0x98) * 2 ^ 32)
    exact (s.ways_accServed q).trans (State.ways_changes frame (by decide))
  · rw [State.serveAccess_queueRead mode (by omega) (by simpa using write)]
    exact ((s.ways_accServed q).trans (State.ways_queueRead _ q _ _)).trans (State.ways_accAnswer q _)

theorem State.ways_startAccess (s : State) (q v : Nat) : s.waysKept (s.startAccess q v) := by
  unfold State.startAccess
  exact State.ways_unless ((s.ways_setFld (apart_QC _ _) _ _ _).trans (State.ways_setBit _ (apart_QC _ _) _ _))
    ((State.ways_setBit _ (apart_QC _ _) _ _).trans (State.ways_when (State.waysKept_refl _) (State.ways_serveAccess _ q)))

/-! ## Lanes, ports, probes -/

theorem State.ways_laneLost (s : State) (n : Nat) : s.waysKept (s.laneLost n) := by
  have counted : s.waysKept (((s.setBit (LN n 0x10) 2 false).setBit (LN n 0x10) 8 true).inc (LN n 0x28)) :=
    ((s.ways_setBit (apart_LN _ _) 2 false).trans (State.ways_setBit _ (apart_LN _ _) 8 true)).trans (State.ways_inc _ (apart_LN _ _))
  unfold State.laneLost
  generalize ((s.setBit (LN n 0x10) 2 false).setBit (LN n 0x10) 8 true).inc (LN n 0x28) = t at *
  exact counted.trans (State.ways_changes (l := [.hl, .lane]) (by simp) (by decide))

theorem State.ways_laneCmd (s : State) (n v : Nat) : s.waysKept (s.laneCmd n v) := by
  unfold State.laneCmd State.laneSlip State.clrLaneCnt
  refine State.ways_when (State.ways_when (State.ways_when s.waysKept_refl ?_) (State.ways_when (State.waysKept_refl _) ?_)) (State.ways_laneLost _ n)
  · refine State.ways_zeroRegs _ fun a ha => ?_
    simp only [List.mem_cons, List.not_mem_nil, or_false] at ha
    rcases ha with rfl | rfl | rfl | rfl | rfl | rfl <;> exact apart_LN _ _
  · exact (State.ways_inc _ (apart_LN _ _)).trans (State.waysKept_of_csr rfl)

theorem State.ways_clrPortCnt (s : State) (p : Nat) : s.waysKept (s.clrPortCnt p) := by
  unfold State.clrPortCnt
  refine State.ways_when (State.ways_zeroRegs _ fun a ha => ?_) (State.ways_zeroRegs _ fun a ha => ?_)
  · simp only [List.mem_cons, List.not_mem_nil, or_false] at ha
    rcases ha with rfl | rfl | rfl <;> exact apart_ZV _ _
  · simp only [List.mem_cons, List.not_mem_nil, or_false] at ha
    rcases ha with rfl | rfl | rfl <;> exact apart_ZV _ _

theorem State.ways_endSounding (s : State) (e : Nat) : s.waysKept (s.endSounding e) := by
  unfold State.endSounding
  exact State.ways_when s.waysKept_refl (((s.ways_setFld (apart_PB _) _ _ _).trans (State.ways_setFld _ (apart_PB _) _ _ _)).trans (State.waysKept_of_csr rfl))

/-! ## Writes and accesses -/

theorem State.ways_slackEnter (s : State) (n : Nat) : s.waysKept (s.slackEnter n) := by
  unfold State.slackEnter
  exact State.ways_unless s.waysKept_refl
    ((s.ways_setBit (apart_NR n (by decide) (by decide)) 1 true).trans (State.ways_setBit _ (apart_NR n (by decide) (by decide)) 2 false))

theorem State.ways_clrRouterCnt (s : State) (n : Nat) : s.waysKept (s.clrRouterCnt n) := by
  refine s.ways_zeroRegs fun a ha => ?_
  simp only [List.mem_append, List.mem_map, List.mem_range, List.mem_cons, List.not_mem_nil, or_false] at ha
  obtain ((⟨i, hi, rfl⟩ | ⟨i, hi, rfl⟩) | ⟨i, hi, rfl⟩) | rfl | rfl := ha
  · exact apart_NR n (by omega) (by omega)
  · exact apart_NR n (by omega) (by omega)
  · exact apart_NR n (by omega) (by omega)
  · exact apart_NR n (by decide) (by decide)
  · exact apart_NR n (by decide) (by decide)

theorem State.ways_measure (s : State) (p : Nat) : s.waysKept (s.measure p) := by
  obtain ⟨meas, sent, eq, -⟩ := s.measure_measures p
  rw [eq]
  exact State.waysKept_of_csr rfl

theorem State.ways_caldAfter (s old : State) : s.waysKept (s.caldAfter old) := State.ways_changes (l := [.chain]) (by simp) (by decide)

theorem State.ways_checkSide (s : State) (p k : Nat) : s.waysKept (s.checkSide p k) := State.ways_changes (l := [.chain, .hl]) (by simp) (by decide)

theorem State.ways_writeReg (s : State) {a : Nat} (unit : ∀ m off, blockOf a ≠ .mb m off) (v : Nat) : s.waysKept (s.writeReg a v) := by
  unfold State.writeReg
  split
  · next n off _ =>
    split
    · exact State.ways_when (s.ways_plainWrite _ _) (State.ways_slackEnter _ n)
    · exact State.ways_when s.waysKept_refl (s.ways_clrRouterCnt n)
    · exact s.ways_plainWrite _ _
  · next q off _ =>
    split
    · exact s.ways_qcCmd q v
    · exact s.ways_startAccess q v
    · exact s.ways_plainWrite _ _
  · exact s.ways_writeCk _ v
  · exact State.ways_ite (s.ways_laneCmd _ v) (s.ways_plainWrite _ _)
  · next p off _ =>
    split
    · exact State.ways_when (State.ways_when s.waysKept_refl (s.ways_clrPortCnt p)) (State.ways_measure _ p)
    · exact (s.ways_plainWrite _ _).trans (State.ways_checkSide _ _ _)
    · exact (s.ways_plainWrite _ _).trans (State.ways_caldAfter _ _)
    · exact s.ways_plainWrite _ _
  · refine State.ways_ite ?_ (State.ways_ite s.waysKept_refl ((State.waysKept_of_csr rfl).trans (State.ways_plainWrite _ _ _)))
    refine State.ways_when (State.ways_when (State.ways_when s.waysKept_refl (s.ways_endSounding 5)) ?_) (State.ways_setReg _ (apart_PB _) _)
    exact (State.ways_endSounding _ 5).trans (State.ways_setFld _ (apart_PB _) _ _ _)
  · next m off h => exact absurd h (unit m off)
  · exact s.waysKept_refl

theorem State.ways_readEffect (s : State) (a : Nat) : s.waysKept (s.readEffect a) := by
  unfold State.readEffect
  split
  · exact State.ways_when s.waysKept_refl (s.ways_setReg (apart_CK _) _)
  · exact State.ways_when s.waysKept_refl (s.ways_setReg (apart_QC _ _) _)
  · exact s.waysKept_refl

theorem State.windowRead_leaves (s : State) (off : Nat) (wide : Bool) : s.changes [.free, .ueSeen, .hl] (s.windowRead off wide).2 := by
  have read := s.readWord_leaves (off / 32768) (off % 32768 / 8)
  rcases h : s.readWord (off / 32768) (off % 32768 / 8) with ⟨⟨v, ce, ue⟩, u⟩
  rw [h] at read
  simp only [State.windowRead, h]
  cases ue
  · exact read.mono (by decide)
  · exact (read.mono (by decide)).trans ((u.foundUE_leaves _ _ _).mono (by decide))

theorem State.windowWrite_leaves (s : State) (off : Nat) (wide : Bool) (v : Nat) : s.changes [.free, .ueSeen, .hl, .mem, .flips] (s.windowWrite off wide v) := by
  have read := s.readWord_leaves (off / 32768) (off % 32768 / 8)
  have put (t : State) (x : Nat) : t.changes [.free, .ueSeen, .hl, .mem, .flips] (t.putWord (off / 32768) (off % 32768 / 8) x) :=
    have ⟨_, _, _, frame⟩ := t.putWord_shows (off / 32768) (off % 32768 / 8) x
    frame.mono (by decide)
  rcases h : s.readWord (off / 32768) (off % 32768 / 8) with ⟨⟨old, ce, ue⟩, u⟩
  rw [h] at read
  cases wide
  · simp only [State.windowWrite, h]
    cases ue
    · exact (read.mono (by decide)).trans (put _ _)
    · exact ((read.mono (by decide)).trans ((u.foundUE_leaves _ _ _).mono (by decide))).trans (put _ _)
  · exact put s v

/-- Headland's access over the network leaves the routers' ports. -/
theorem State.ways_access (s : State) {a : Nat} (unit : ∀ m off, blockOf a ≠ .mb m off) (n dst : Nat) (write wide : Bool) (v : Nat) :
    s.waysKept (s.access n dst a write wide v).2 := by
  rw [State.access]
  dsimp only
  generalize s.accessStatus n dst a write wide = st
  by_cases gated : st = stGATED
  · rw [if_pos gated]
    dsimp only
    split
    · exact s.ways_setBit (apart_CK _) _ _
    · exact s.waysKept_refl
  rw [if_neg gated]
  by_cases refused : st ≠ 0
  · rw [if_pos refused]
    exact s.waysKept_refl
  rw [if_neg refused]
  split
  · next off _ =>
    have read := s.windowRead_leaves off wide
    have written := s.windowWrite_leaves off wide v
    generalize s.windowRead off wide = r at *
    generalize s.windowWrite off wide v = u at *
    cases write
    · exact State.ways_changes read (by decide)
    · exact State.ways_changes written (by decide)
  · generalize v % 2 ^ 32 = x
    cases write
    · exact s.ways_readEffect a
    · exact s.ways_writeReg unit x

end Sys2Proof.Machine
end

section
/-! O15: Headland's accesses to registers. -/
namespace Sys2Proof.Machine

/-- The instance that an address names is one of its block's. -/
def Block.placed : Block → Prop
  | .router n _ => n < 48
  | .qc q _ => q < 384
  | .ln n _ => n < 96
  | .zv p _ => p < 4
  | .rg r _ => r < 96
  | .mem off => off < 0x4800000
  | _ => True

theorem blockOf_placed (a : Nat) : (blockOf a).placed := by
  unfold blockOf
  dsimp only
  split
  · split
    · unfold Block.placed
      omega
    · trivial
  split
  · show _ < 384
    omega
  split
  · trivial
  split
  · show _ < 96
    omega
  split
  · show _ < 4
    omega
  split
  · trivial
  split
  · show _ < 96
    omega
  split
  · trivial
  split
  · show _ < 0x4800000
    omega
  · trivial

/-- Every address is served by a node of the network. -/
theorem servingNode_lt {a dst : Nat} (h : servingNode a = some dst) : dst < 256 := by
  have nodes : (∀ n < 48, routerNode n < 256) ∧ (∀ c < 32, clusterNode c < 256) ∧ (∀ q < 24, quadNode q < 256) ∧ (∀ p < 4, zvNode p < 256) ∧
      (∀ r < 96, regionNode r < 256) := by decide
  obtain ⟨router, cluster, quad, zv, region⟩ := nodes
  have placed := blockOf_placed a
  unfold servingNode at h
  split at h
  · next n off e =>
    rw [e] at placed
    exact Option.some.inj h ▸ router n placed
  · next q off e =>
    rw [e] at placed
    exact Option.some.inj h ▸ cluster _ (Nat.div_lt_of_lt_mul placed)
  · exact Option.some.inj h ▸ by decide
  · next n off e =>
    rw [e] at placed
    exact Option.some.inj h ▸ quad _ (Nat.div_lt_of_lt_mul placed)
  · next p off e =>
    rw [e] at placed
    exact Option.some.inj h ▸ zv p placed
  · exact Option.some.inj h ▸ by decide
  · next r off e =>
    rw [e] at placed
    exact Option.some.inj h ▸ region r placed
  · exact Option.some.inj h ▸ by decide
  · next off e =>
    rw [e] at placed
    have small : off < 0x4800000 := placed
    exact Option.some.inj h ▸ region _ (by unfold defaultRegion regionAt; omega)
  · exact absurd h nofun

theorem tierCell_nowhere {a : Nat} (h : servingNode a = none) : tierCell a = false := by
  unfold servingNode at h
  unfold tierCell
  split at h <;> simp_all

/-- The registers that R376 lists. -/
def csrListed (a : Nat) : Prop := match blockOf a with
  | .router _ off => off ∈ [0x80, 0x200, 0x204, 0x208, 0x220, 0x224, 0x228, 0x280]
  | .zv _ off => off ∈ [0, 4, 0x14, 0x30]
  | .ck off => off ∈ [0x80C, 0x824]
  | .qc _ off => off = 0x20
  | .ln _ off => off ∈ [0x18, 0x40]
  | _ => False

theorem csrMask_unlisted {a : Nat} (h : ¬csrListed a) : csrMask a = 0 := by
  unfold csrListed at h
  unfold csrMask
  split at h <;> simp_all

/-- Does the map know the address: memory, or a register? -/
def csrKnown (a : Nat) : Bool := match blockOf a with
  | .mem _ => true
  | _ => (regFields a).isSome

theorem csrKnown_reg {a : Nat} (h : (regFields a).isSome = true) : csrKnown a = true := by
  unfold csrKnown
  split
  · rfl
  · exact h

/-- CSR_WRITE after its refusals. -/
def State.csrWriteOn (s : State) (v : Service) : Option Nat → State
  | some st => s.err v st 0
  | none =>
    if s.headlandWaits (v.u 0 4) then s
    else
      let ((st, _), s) := s.headlandAccess (v.u 0 4) true (v.u 4 1 = 1) (v.u 8 8)
      if st = 0 then s.ok v [] else s.err v st 0

theorem State.csrWrite_eq (s : State) (v : Service) : State.csrWrite v s =
    s.csrWriteOn v (if csrKnown (v.u 0 4) then s.csrRefusal (v.u 0 4) (v.u 8 4) else none) := rfl

section
variable {s : State} {v : Service}

theorem State.csrRead_goes (open_ : s.readbackOff v.mb (v.u 0 4) = false) (goes : s.headlandWaits (v.u 0 4) = false) {st x : Nat} {t : State}
    (acc : s.headlandAccess (v.u 0 4) false (v.u 4 1 = 1) 0 = ((st, x), t)) : State.csrRead v s = if st = 0 then t.ok v (bytesLE x 8) else t.err v st 0 := by
  rw [State.csrRead, if_neg (by simp [open_]), if_neg (by simp [goes]), acc]

theorem State.csrRead_waits (open_ : s.readbackOff v.mb (v.u 0 4) = false) (waits : s.headlandWaits (v.u 0 4) = true) : State.csrRead v s = s := by
  rw [State.csrRead, if_neg (by simp [open_]), if_pos waits]

theorem State.csrRead_covered (covered : s.readbackOff v.mb (v.u 0 4) = true) : State.csrRead v s = s.err v stDENIED 0 := if_pos covered

theorem State.csrWrite_refused (known : csrKnown (v.u 0 4) = true) {st : Nat} (h : s.csrRefusal (v.u 0 4) (v.u 8 4) = some st) : State.csrWrite v s = s.err v st 0 := by
  rw [State.csrWrite_eq, if_pos known, h, State.csrWriteOn]

theorem State.csrWrite_waits (known : csrKnown (v.u 0 4) = true) (fine : s.csrRefusal (v.u 0 4) (v.u 8 4) = none) (waits : s.headlandWaits (v.u 0 4) = true) :
    State.csrWrite v s = s := by
  rw [State.csrWrite_eq, if_pos known, fine, State.csrWriteOn, if_pos waits]

theorem State.csrWrite_goes (known : csrKnown (v.u 0 4) = true) (fine : s.csrRefusal (v.u 0 4) (v.u 8 4) = none) (goes : s.headlandWaits (v.u 0 4) = false)
    {st x : Nat} {t : State} (acc : s.headlandAccess (v.u 0 4) true (v.u 4 1 = 1) (v.u 8 8) = ((st, x), t)) :
    State.csrWrite v s = if st = 0 then t.ok v [] else t.err v st 0 := by
  rw [State.csrWrite_eq, if_pos known, fine, State.csrWriteOn, if_neg (by simp [goes]), acc]
end

/-- Settles O15: an access over an open way by `headlandTrip_open`, every other one by the branch of the request that it takes. -/
theorem csrRequests : Obligations.CsrRequests := by
  intro s v a listed passes
  have passes_of (st : Nat) (b : List Byte) (t : State) : passes (if st = 0 then t.ok v b else t.err v st 0) st b t := by
    by_cases ok : st = 0
    · rw [if_pos ok]
      exact ⟨t.reply_onlyAnswer v 0 b, fun _ => t.reply_answered v 0 b, fun ne => absurd ok ne⟩
    · rw [if_neg ok]
      exact ⟨t.reply_onlyAnswer v st _, fun e => absurd e ok, fun _ => t.reply_answered v st _⟩
  refine ⟨fun dst write wide x serves unmanaged on way free => ?_, fun hs nowhere => ?_, fun hs off => ?_, fun hs open_ waits => ?_, fun hs open_ goes st x t acc => ?_,
    fun hs unlisted known => ?_, fun hs known fine waits => ?_, fun hs known fine goes st x t acc => ?_, fun hs _ st refused known => ?_⟩
  · have unit : ∀ m off, blockOf a ≠ .mb m off := fun m off h => by simp [State.managed, h] at unmanaged
    obtain ⟨u, w, crossed, back, run⟩ := State.headlandTrip_open on (servingNode_lt serves) way free write x (s.freeTag.getD 0)
      (f := fun t => t.access 3 dst a write wide x) fun u _ => u.ways_access unit 3 dst write wide x
    refine ⟨u, (u.access 3 dst a write wide x).1.1, (u.access 3 dst a write wide x).1.2, (u.access 3 dst a write wide x).2, w, crossed, rfl, back, ?_⟩
    simp only [State.headlandAccess, serves, unmanaged, Bool.false_eq_true, if_false]
    exact run
  · have open_ : s.readbackOff v.mb a = false := by simp [State.readbackOff, tierCell_nowhere nowhere]
    have goes : s.headlandWaits a = false := by simp only [State.headlandWaits, nowhere]
    have acc : s.headlandAccess a false (v.u 4 1 = 1) 0 = ((stBAD_ARG, 0), s) := by simp only [State.headlandAccess, nowhere]
    exact completes_request rfl hs (State.csrRead_goes open_ goes acc ▸ s.err_turnedAway v stBAD_ARG 0)
  · exact completes_request rfl hs (State.csrRead_covered off ▸ s.err_turnedAway v stDENIED 0)
  · exact completes_request rfl hs (State.csrRead_waits open_ waits)
  · exact completes_request rfl hs (State.csrRead_goes open_ goes acc ▸ passes_of st _ t)
  · have known' : csrKnown a = true := known.elim (fun ⟨off, h⟩ => by simp [csrKnown, h]) csrKnown_reg
    have refused : s.csrRefusal a (v.u 8 4) = some stDENIED := if_pos (csrMask_unlisted unlisted)
    exact completes_request rfl hs (State.csrWrite_refused known' refused ▸ s.err_turnedAway v stDENIED 0)
  · exact completes_request rfl hs (State.csrWrite_waits (csrKnown_reg known) fine waits)
  · exact completes_request rfl hs (State.csrWrite_goes (csrKnown_reg known) fine goes acc ▸ passes_of st [] t)
  · exact completes_request rfl hs (State.csrWrite_refused (csrKnown_reg known) refused ▸ s.err_turnedAway v st 0)

end Sys2Proof.Machine
end

section
/-! Headland's way to a queue controller, and what its accesses there touch (spec/06 R176; spec/07 R229). -/
namespace Sys2Proof.Machine

/-! ## The way to a controller -/

theorem clusterNode_kind : ∀ c < 32, clusterNode c < 256 ∧ nodeKind (clusterNode c) = .cluster c := by decide

theorem ownRegisters_QC {q o : Nat} (hq : q < 384) (ho : o < 0x1000) (dst : Nat) (write : Bool) (v tag : Nat) :
    ownRegisters (headlandPacket dst (QC q o) write v tag) = false := by
  obtain ⟨-, -, -, -, addr⟩ := headlandPacket_fields dst (QC q o) write v tag
  have small : QC q o % 2 ^ 32 = QC q o := Nat.mod_eq_of_lt (by unfold QC; omega)
  unfold ownRegisters
  rw [addr, small, blockOf_QC hq ho, Bool.and_false]

/-- The way to a controller is the same for all its registers. -/
theorem State.openWay_QC {s t : State} {q o o' : Nat} (hq : q < 384) (ho : o < 0x1000) (ho' : o' < 0x1000) (ways : s.waysKept t) {dst : Nat}
    (way : s.openWay dst (QC q o)) : t.openWay dst (QC q o') := by
  unfold State.openWay at way ⊢
  obtain ⟨there, back⟩ := way
  have own := ownRegisters_QC hq ho dst false 0 0
  have own' := ownRegisters_QC hq ho' dst false 0 0
  obtain ⟨fdst, src, -, typ, -⟩ := headlandPacket_fields dst (QC q o) false 0 0
  obtain ⟨fdst', src', -, typ', -⟩ := headlandPacket_fields dst (QC q o') false 0 0
  generalize headlandPacket dst (QC q o) false 0 0 = p at *
  generalize headlandPacket dst (QC q o') false 0 0 = p' at *
  have back_dst (p : Packet) : (headlandResponse dst p 0 0).dst = 3 := (headlandResponse_fields dst p 0 0).1
  constructor
  · refine ways.stopsAt (fdst'.trans fdst.symm) ?_ there
    unfold Packet.routed
    rw [own', own, fdst', fdst, src', src]
  · refine ways.stopsAt ((back_dst p').trans (back_dst p).symm) ?_ back
    rw [headlandResponse_hops dst (by rw [typ']; decide), headlandResponse_hops dst (by rw [typ]; decide)]

/-- Headland reaches controller `q`: the routers have power, and none on the way discards. -/
def State.qcOpen (s : State) (q : Nat) : Prop := s.routersOn = true ∧ s.openWay (clusterNode (q / 12)) (QC q 0x90)

theorem State.qcOpen_of {s : State} {q o : Nat} (hq : q < 384) (ho : o < 0x1000) (on : s.routersOn = true) (way : s.openWay (clusterNode (q / 12)) (QC q o)) :
    s.qcOpen q := ⟨on, State.openWay_QC hq ho (by decide) s.waysKept_refl way⟩

/-- An access over an open way is executed by its controller between two crossings (R375). -/
theorem State.queueTrip_open {s : State} {q : Nat} (hq : q < 384) (h : s.qcOpen q) {off : Nat} (ho : off < 0x1000) (write : Bool) (v : Nat) {f : State → State}
    (keeps : ∀ u, s.crossed u → u.waysKept (f u)) : ∃ u w, s.crossed u ∧ (f u).crossed w ∧ s.queueTrip q off write v f = (0, w) := by
  obtain ⟨on, way⟩ := h
  obtain ⟨lt, kind⟩ := clusterNode_kind (q / 12) (by omega)
  have free : ∀ r, nodeKind (clusterNode (q / 12)) = .region r → s.epHeld r = false := fun r hr => absurd (kind.symm.trans hr) nofun
  obtain ⟨u, w, crossed, back, run⟩ := State.headlandTrip_open on lt (State.openWay_QC hq (by decide) ho s.waysKept_refl way) (.inr free) write v (s.freeTag.getD 0)
    (f := fun t => ((0, 0), f t)) keeps
  exact ⟨u, w, crossed, back, by rw [State.queueTrip, run]⟩

theorem State.headlandTrip_off {s : State} (off : s.routersOn = false) (p : Packet) (dst : Nat) (f : State → (Nat × Nat) × State) :
    s.headlandTrip p dst f = ((stTIMEOUT, 0), s) := if_pos (by simp [off])

theorem State.queueTrip_off {s : State} (off : s.routersOn = false) (q o : Nat) (write : Bool) (v : Nat) (f : State → State) :
    s.queueTrip q o write v f = (stTIMEOUT, s) := by
  rw [State.queueTrip, State.headlandTrip_off off]

theorem State.headlandWaits_off {s : State} (off : s.routersOn = false) (a : Nat) : s.headlandWaits a = false := by
  unfold State.headlandWaits
  split
  · simp [off]
  · rfl

/-! ## What accesses to a controller touch -/

/-- In `t` Headland has made accesses to words of controller `q` since `s`, which touched its registers `l` beside QC_ACC_CTRL, QC_ACC_DLO and QC_ACC_DHI. -/
def State.accTouched (s t : State) (q : Nat) (l : List Nat) : Prop :=
  s.changes [.csr, .qs, .ueSeen, .hl, .mem, .flips] t ∧ (∀ k, k ≠ q → t.queue k = s.queue k) ∧
  { t.queue q with accWait := (s.queue q).accWait } = s.queue q ∧
  ∀ a, (∀ n i, n < 48 → i < 32 → a ≠ NR n (0x100 + 4 * i)) → (∀ off ∈ [0x90, 0x94, 0x98] ++ l, a ≠ QC q off) → t.reg a = s.reg a

section
variable {s t u : State} {q : Nat} {l : List Nat}

theorem State.accTouched_of_qs (frame : s.changes [.csr, .qs, .ueSeen, .hl, .mem, .flips] t) (qs : t.qs = s.qs)
    (regs : ∀ a, (∀ n i, n < 48 → i < 32 → a ≠ NR n (0x100 + 4 * i)) → (∀ off ∈ [0x90, 0x94, 0x98] ++ l, a ≠ QC q off) → t.reg a = s.reg a) :
    s.accTouched t q l := ⟨frame, fun k _ => State.queue_congr qs k, by rw [State.queue_congr qs], regs⟩

theorem State.crossed.accTouched (h : s.crossed t) : s.accTouched t q l :=
  State.accTouched_of_qs (State.changes.mono (l := [.csr]) h.1 (by decide)) (State.changes.same (l := [.csr]) h.1 .qs (by decide)) fun a far _ => h.2 a far

theorem State.accTouched.trans (h : s.accTouched t q l) (k : t.accTouched u q l) : s.accTouched u q l := by
  obtain ⟨frame, others, queue, regs⟩ := h
  obtain ⟨frame', others', queue', regs'⟩ := k
  refine ⟨frame.trans frame', fun m hm => (others' m hm).trans (others m hm), ?_, fun a far out => (regs' a far out).trans (regs a far out)⟩
  exact (congrArg (fun x : Queue => { x with accWait := (s.queue q).accWait }) queue' :).trans queue

theorem State.accTouched.mono {m : List Nat} (h : s.accTouched t q l) (sub : l ⊆ m) : s.accTouched t q m := by
  obtain ⟨frame, others, queue, regs⟩ := h
  refine ⟨frame, others, queue, fun a far out => regs a far fun off hoff => out off ?_⟩
  exact (List.mem_append.mp hoff).elim (fun h => List.mem_append_left _ h) fun h => List.mem_append_right _ (sub h)

theorem State.accTouched.ways (h : s.accTouched t q l) : s.waysKept t :=
  State.waysKept_of_reg fun n hn => h.2.2.2 _ (NR_ne_count (by decide)) fun off _ => apart_QC q off n hn

theorem State.accTouched.desc (h : s.accTouched t q l) : t.desc q = s.desc q := State.desc_congr (congrArg Queue.desc h.2.2.1 :)

theorem State.accTouched.on (hq : q < 384) (hl : ∀ off ∈ l, off < 0x1000) (h : s.accTouched t q l) : t.routersOn = s.routersOn := by
  obtain ⟨frame, -, -, regs⟩ := h
  have mode : t.mode = s.mode := State.fld_congr (regs _ (fun n i _ _ => by unfold CK NR; omega) fun off hoff => ?_) 0 2
  · rw [State.routersOn, State.routersOn, mode, frame.same .rails (by decide)]
  · have small : off < 0x1000 := (List.mem_append.mp hoff).elim (fun h => (by decide : ∀ o ∈ [0x90, 0x94, 0x98], o < 0x1000) off h) (hl off)
    unfold CK QC
    omega

theorem State.accTouched.qcOpen (hq : q < 384) (hl : ∀ off ∈ l, off < 0x1000) (h : s.accTouched t q l) (r : s.qcOpen q) : t.qcOpen q :=
  ⟨(h.on hq hl).trans r.1, State.openWay_QC hq (by decide) (by decide) h.ways r.2⟩

theorem State.crossed.qcOpen (hq : q < 384) (h : s.crossed t) (r : s.qcOpen q) : t.qcOpen q :=
  (h.accTouched (l := [])).qcOpen hq (fun _ h => absurd h List.not_mem_nil) r

theorem QC_ne_count (q o n i : Nat) (hn : n < 48) (hi : i < 32) : QC q o ≠ NR n (0x100 + 4 * i) := by
  unfold QC NR
  omega

theorem State.crossed.controller (h : s.crossed t) (q o : Nat) : t.reg (QC q o) = s.reg (QC q o) := h.2 _ fun n i hn hi => QC_ne_count q o n i hn hi
end

/-- The further accesses of a word only cross routers (log 183). -/
theorem State.accRest_open {s : State} {q : Nat} (hq : q < 384) (h : s.qcOpen q) (write : Bool) : s.crossed (s.accRest q write) := by
  have trip {s : State} (h : s.qcOpen q) {off : Nat} (ho : off < 0x1000) (w : Bool) : s.crossed (s.queueTrip q off w 0 id).2 := by
    obtain ⟨u, t, there, back, run⟩ := State.queueTrip_open hq h ho w 0 (f := id) fun u _ => u.waysKept_refl
    rw [run]
    exact there.trans back
  have low := trip h (off := 0x94) (by decide) write
  have high := trip (low.qcOpen hq h) (off := 0x98) (by decide) write
  exact (low.trans high).trans (trip ((low.trans high).qcOpen hq h) (by decide) false)

end Sys2Proof.Machine
end

section
/-! One word that Headland reads through a queue controller (spec/06 R162, R176, Table MEM-10). -/
namespace Sys2Proof.Machine

/-! ## Words of a queue and their flipped bits -/

/-- How many bits of queue word `o` have flipped. -/
def State.wordFlips (s : State) (q o : Nat) : Nat := popCount (s.flipMask (s.qBlock q o) (o % 4096)) 72

/-- What a read of queue word `o` answers where at most two bits have flipped. -/
def State.wordValue (s : State) (q o : Nat) : Nat :=
  if s.wordFlips q o = 2 then s.storedWord (s.qBlock q o) (o % 4096) else s.rawWord (s.qBlock q o) (o % 4096)

/-- The mask of the words from `o` on, of `n`, that have `f` flipped bits. -/
def State.flipBits (s : State) (q o n f : Nat) : Nat := ((List.range n).map (fun i => if s.wordFlips q (o + i) = f then 2 ^ i else 0)).sum

/-- How many of the words from `o` on, of `n`, have `f` flipped bits. -/
def State.flipCount (s : State) (q o n f : Nat) : Nat := ((List.range n).filter (fun i => s.wordFlips q (o + i) = f)).length

section
variable (s : State) (q : Nat)

theorem State.wordValue_lt (o : Nat) : s.wordValue q o < 2 ^ 64 := by
  unfold State.wordValue State.storedWord
  split
  · exact Nat.xor_lt_two_pow (s.rawWord_lt _ _) (bits_lt _ _ _)
  · exact s.rawWord_lt _ _

theorem State.flipBits_succ (o n f : Nat) : s.flipBits q o (n + 1) f = (decide (s.wordFlips q o = f)).toNat + 2 * s.flipBits q (o + 1) n f := by
  unfold State.flipBits
  generalize s.wordFlips q = g
  have later (i : Nat) : (if g (o + (i + 1)) = f then 2 ^ (i + 1) else 0) = 2 * (if g (o + 1 + i) = f then 2 ^ i else 0) := by
    rw [show o + (i + 1) = o + 1 + i by omega, mul_ite, mul_zero, pow_succ']
  have first : (if g (o + 0) = f then 2 ^ 0 else 0) = (decide (g o = f)).toNat := by by_cases h : g o = f <;> simp [h]
  rw [List.range_succ_eq_map, List.map_cons, List.map_map, List.sum_cons, first, ← List.sum_map_mul_left]
  simp only [Function.comp_def, Nat.succ_eq_add_one, later]

theorem State.flipCount_succ (o n f : Nat) : s.flipCount q o (n + 1) f = (decide (s.wordFlips q o = f)).toNat + s.flipCount q (o + 1) n f := by
  unfold State.flipCount
  generalize s.wordFlips q = g
  have later : (fun i => decide (g (o + i) = f)) ∘ Nat.succ = fun i => decide (g (o + 1 + i) = f) :=
    funext fun i => congrArg (fun k => decide (g k = f)) (show o + (i + 1) = o + 1 + i by omega)
  rw [List.range_succ_eq_map, List.filter_cons, List.filter_map, later]
  by_cases h : g o = f <;> simp [h, Nat.add_comm]

theorem State.flipCount_one (o f : Nat) : s.flipCount q o 1 f = (decide (s.wordFlips q o = f)).toNat := by
  rw [show (1 : Nat) = 0 + 1 from rfl, s.flipCount_succ]
  simp [State.flipCount]
end

/-! ## Reading a word -/

theorem State.readWord_few {s : State} {b w : Nat} (few : popCount (s.flipMask b w) 72 ≤ 2) : s.readWord b w =
    ((if popCount (s.flipMask b w) 72 = 2 then s.storedWord b w else s.rawWord b w, decide (popCount (s.flipMask b w) 72 = 1), decide (popCount (s.flipMask b w) 72 = 2)), s) := by
  unfold State.readWord
  generalize popCount (s.flipMask b w) 72 = n at *
  interval_cases n <;> rfl

/-- In `t` the reads of the words from `o` on, of `n`, have been counted since `s` (R197). -/
def State.tallied (s t : State) (q o n : Nat) : Prop :=
  t.reg (QC q 0x58) = min (s.reg (QC q 0x58) + s.flipCount q o n 1) (2 ^ 32 - 1) ∧ t.reg (QC q 0x5C) = min (s.reg (QC q 0x5C) + s.flipCount q o n 2) (2 ^ 32 - 1)

theorem QC_ne_QC {q o o' : Nat} (h : o ≠ o') : QC q o ≠ QC q o' := by
  unfold QC
  omega

theorem State.min_reg (s : State) (a : Nat) : min (s.reg a + 0) (2 ^ 32 - 1) = s.reg a := by
  have := s.reg_lt a
  omega

/-- A read of a word with at most two flipped bits: the answer, the counts, and what else stays. -/
theorem State.queueRead_shows {s : State} {q o : Nat} (few : s.wordFlips q o ≤ 2) (by_ : Nat) :
    ∃ t, s.queueRead q o by_ = ((s.wordValue q o, decide (s.wordFlips q o = 1), decide (s.wordFlips q o = 2)), t) ∧
    s.changes [.csr, .ueSeen, .hl] t ∧ s.tallied t q o 1 ∧ ∀ a, (∀ off ∈ [0x20, 0x58, 0x5C], a ≠ QC q off) → t.reg a = s.reg a := by
  have read : s.readWord (s.qBlock q o) (o % 4096) = ((s.wordValue q o, decide (s.wordFlips q o = 1), decide (s.wordFlips q o = 2)), s) := State.readWord_few few
  rw [State.queueRead, read]
  simp only [State.tallied, s.flipCount_one]
  generalize s.wordFlips q o = n at *
  generalize s.wordValue q o = v
  interval_cases n
  · exact ⟨s, rfl, s.changes_refl _, ⟨(s.min_reg _).symm, (s.min_reg _).symm⟩, fun _ _ => rfl⟩
  · refine ⟨s.inc (QC q 0x58), rfl, rfl, ⟨s.reg_inc_same _, ?_⟩, fun a out => s.reg_inc_ne _ _ (out _ (by decide))⟩
    exact (s.reg_inc_ne _ _ (QC_ne_QC (by decide))).trans (s.min_reg _).symm
  · have seen := ((s.inc (QC q 0x5C)).setBit (QC q 0x20) 19 true).foundUE_leaves (s.qBlock q o) (o % 4096) by_
    have same (a : Nat) : (((s.inc (QC q 0x5C)).setBit (QC q 0x20) 19 true).foundUE (s.qBlock q o) (o % 4096) by_).reg a =
        ((s.inc (QC q 0x5C)).setBit (QC q 0x20) 19 true).reg a := State.reg_congr (seen.same .csr (by decide)) a
    refine ⟨((s.inc (QC q 0x5C)).setBit (QC q 0x20) 19 true).foundUE (s.qBlock q o) (o % 4096) by_, rfl, State.changes.trans (t := (s.inc (QC q 0x5C)).setBit (QC q 0x20) 19 true) rfl (seen.mono (by decide)), ⟨?_, ?_⟩, fun a out => ?_⟩
    · rw [same, State.reg_setBit_ne _ _ _ _ _ (QC_ne_QC (by decide)), State.reg_inc_ne _ _ _ (QC_ne_QC (by decide))]
      exact (s.min_reg _).symm
    · rw [same, State.reg_setBit_ne _ _ _ _ _ (QC_ne_QC (by decide)), State.reg_inc_same]
      rfl
    · rw [same, State.reg_setBit_ne _ _ _ _ _ (out _ (by decide)), State.reg_inc_ne _ _ _ (out _ (by decide))]

end Sys2Proof.Machine
end

section
/-! Reads of several words through a queue controller (spec/06 R176; spec/12 Table CMD-8). -/
namespace Sys2Proof.Machine

/-! ## The steps of an access -/

/-- QC_ACC_CTRL written with GO for word `o`. -/
def State.accSet (s : State) (q o : Nat) (write : Bool) : State := ((s.setFld (QC q 0x90) 0 19 o).setBit (QC q 0x90) 24 write).setBit (QC q 0x90) 29 true

theorem State.accGo_eq (s : State) (q o : Nat) (write : Bool) : s.accGo q o write = (s.accSet q o write).serveAccess q := rfl

section
variable (s : State) (q : Nat) (l : List Nat)

theorem State.accSet_reg (o : Nat) (write : Bool) {a : Nat} (h : a ≠ QC q 0x90) : (s.accSet q o write).reg a = s.reg a :=
  (State.reg_setBit_ne _ _ _ _ _ h).trans ((State.reg_setBit_ne _ _ _ _ _ h).trans (State.reg_setFld_ne _ _ _ _ _ _ h))

theorem State.accSet_offset {o : Nat} (ho : o < 2 ^ 19) (write : Bool) : (s.accSet q o write).fld (QC q 0x90) 0 19 = o := by
  rw [State.accSet, State.fld_setBit_other _ _ _ _ (by decide) (by decide), State.fld_setBit_other _ _ _ _ (by decide) (by decide),
    State.fld_setFld_same _ _ _ (by decide), Nat.mod_eq_of_lt ho]

theorem State.accSet_write (o : Nat) (write : Bool) : (s.accSet q o write).accWrite q = write := by
  rw [State.accWrite, State.accSet, State.bit_setBit_other _ _ _ _ (by decide) (by decide), State.bit_setBit_same _ _ _ (by decide)]

theorem State.accSet_touches (o : Nat) (write : Bool) : s.accTouched (s.accSet q o write) q l :=
  State.accTouched_of_qs rfl rfl fun _ _ out => s.accSet_reg q o write (out _ (List.mem_append_left _ (by decide)))

theorem State.accServed_touches : s.accTouched (s.accServed q) q l := by
  obtain ⟨-, -, others, queue, frame⟩ := s.accServed_shows q
  refine ⟨frame.mono (by decide), others, ?_, fun _ _ out => s.accServed_reg q (out _ (List.mem_append_left _ (by decide)))⟩
  rw [queue]

/-- The answer of a read access in the controller's registers. -/
theorem State.accAnswer_gives {v : Nat} (small : v < 2 ^ 64) (ce ue : Bool) :
    let t := accAnswer q ((v, ce, ue), s)
    t.reg (QC q 0x94) + t.reg (QC q 0x98) * 2 ^ 32 = v ∧ t.bit (QC q 0x90) 30 = ce ∧ t.bit (QC q 0x90) 31 = ue ∧ s.changes [.csr] t ∧
    ∀ a, (∀ off ∈ [0x90, 0x94, 0x98], a ≠ QC q off) → t.reg a = s.reg a := by
  have flags (t : State) {a : Nat} (h : a ≠ QC q 0x90) : ((t.setBit (QC q 0x90) 30 ce).setBit (QC q 0x90) 31 ue).reg a = t.reg a :=
    (State.reg_setBit_ne _ _ _ _ _ h).trans (State.reg_setBit_ne _ _ _ _ _ h)
  refine ⟨?_, ?_, State.bit_setBit_same _ _ _ (by decide), rfl, fun a out => ?_⟩
  · rw [accAnswer, flags _ (QC_ne_QC (by decide)), flags _ (QC_ne_QC (by decide)), State.reg_setReg_ne _ _ _ _ (QC_ne_QC (by decide)),
      State.reg_setReg_same, State.reg_setReg_same]
    dsimp only
    omega
  · exact (State.bit_setBit_other _ _ _ _ (by decide) (by decide)).trans (State.bit_setBit_same _ _ _ (by decide))
  · rw [accAnswer, flags _ (out _ (by decide)), State.reg_setReg_ne _ _ _ _ (out _ (by decide)), State.reg_setReg_ne _ _ _ _ (out _ (by decide))]

theorem State.accAnswer_touches {v : Nat} (small : v < 2 ^ 64) (ce ue : Bool) : s.accTouched (accAnswer q ((v, ce, ue), s)) q l := by
  obtain ⟨-, -, -, frame, regs⟩ := s.accAnswer_gives q small ce ue
  exact State.accTouched_of_qs (frame.mono (by decide)) (frame.same .qs (by decide)) fun a _ out => regs a fun off h => out off (List.mem_append_left _ h)

theorem State.wq_lt : s.wq q ≤ 2 ^ 19 := by
  have := bits_lt (s.desc q) 24 7
  unfold State.wq dWords dBlks
  omega
end

/-! ## One word -/

/-- In `t` Headland has read the words of controller `q` from `o` on, `n` of them, since `s`. -/
def State.wordsRead (s t : State) (q o n : Nat) : Prop :=
  s.accTouched t q [0x20, 0x58, 0x5C] ∧ t.mem = s.mem ∧ t.flips = s.flips ∧ s.tallied t q o n

section
variable {s t u : State} {q o n : Nat}

theorem State.accTouched.wordFlips {l : List Nat} (h : s.accTouched t q l) (flips : t.flips = s.flips) : t.wordFlips q = s.wordFlips q :=
  funext fun o => congrArg (popCount · 72) (by rw [State.qBlock_congr h.desc, State.flipMask_congr flips])

theorem State.accTouched.wordValue {l : List Nat} (h : s.accTouched t q l) (mem : t.mem = s.mem) (flips : t.flips = s.flips) : t.wordValue q = s.wordValue q :=
  funext fun o => by rw [State.wordValue, State.wordValue, h.wordFlips flips, State.storedWord, State.storedWord, State.qBlock_congr h.desc,
    State.rawWord_congr mem, State.flipMask_congr flips]

theorem State.accTouched.qMode {l : List Nat} (h : s.accTouched t q l) : t.qMode q = s.qMode q := congrArg dMode h.desc

theorem State.accTouched.wq {l : List Nat} (h : s.accTouched t q l) : t.wq q = s.wq q := congrArg dWords h.desc

theorem State.wordsRead_none (s : State) (q o : Nat) : s.wordsRead s q o 0 :=
  ⟨s.crossed_refl.accTouched, rfl, rfl, (s.min_reg _).symm, (s.min_reg _).symm⟩

/-- A word read, and then those behind it. -/
theorem State.wordsRead.cons (h : s.wordsRead t q o 1) (k : t.wordsRead u q (o + 1) n) : s.wordsRead u q o (n + 1) := by
  obtain ⟨touched, mem, flips, ce, ue⟩ := h
  obtain ⟨touched', mem', flips', ce', ue'⟩ := k
  have same (f : Nat) : t.flipCount q (o + 1) n f = s.flipCount q (o + 1) n f := by rw [State.flipCount, State.flipCount, touched.wordFlips flips]
  rw [s.flipCount_one] at ce ue
  rw [same] at ce' ue'
  refine ⟨touched.trans touched', mem'.trans mem, flips'.trans flips, ?_, ?_⟩
  · rw [s.flipCount_succ]
    omega
  · rw [s.flipCount_succ]
    omega

theorem State.crossed.memory (h : s.crossed t) : t.mem = s.mem ∧ t.flips = s.flips :=
  ⟨State.changes.same (l := [.csr]) h.1 .mem (by decide), State.changes.same (l := [.csr]) h.1 .flips (by decide)⟩

/-- Crossings about a word's reading do not show in it. -/
theorem State.wordsRead.around {r w : State} (before : s.crossed r) (h : r.wordsRead t q o n) (after : t.crossed w) : s.wordsRead w q o n := by
  have touched' := before.accTouched (q := q) (l := [0x20, 0x58, 0x5C])
  obtain ⟨mem', flips'⟩ := before.memory
  obtain ⟨mem'', flips''⟩ := after.memory
  obtain ⟨touched, mem, flips, ce, ue⟩ := h
  have same (f : Nat) : r.flipCount q o n f = s.flipCount q o n f := by rw [State.flipCount, State.flipCount, touched'.wordFlips flips']
  refine ⟨(touched'.trans touched).trans after.accTouched, (mem''.trans mem).trans mem', (flips''.trans flips).trans flips', ?_, ?_⟩
  · rw [after.controller, ce, before.controller, same]
  · rw [after.controller, ue, before.controller, same]

/-- The controller serves the read of one word (R176). -/
theorem State.accGo_reads (mode : s.qMode q ≠ 0) (small : o < s.wq q) (few : s.wordFlips q o ≤ 2) : let t := s.accGo q o false
    s.wordsRead t q o 1 ∧ t.reg (QC q 0x94) + t.reg (QC q 0x98) * 2 ^ 32 = s.wordValue q o ∧
    t.bit (QC q 0x90) 30 = decide (s.wordFlips q o = 1) ∧ t.bit (QC q 0x90) 31 = decide (s.wordFlips q o = 2) := by
  have offset := s.accSet_offset q (small.trans_le (s.wq_lt q)) false
  have set := s.accSet_touches q [0x20, 0x58, 0x5C] o false
  have ready := set.trans ((s.accSet q o false).accServed_touches q _)
  have run : s.accGo q o false = accAnswer q (((s.accSet q o false).accServed q).queueRead q o 1) := by
    have mode' : (s.accSet q o false).qMode q ≠ 0 := by rwa [set.qMode]
    have small' : (s.accSet q o false).fld (QC q 0x90) 0 19 < (s.accSet q o false).wq q := lt_of_eq_of_lt offset (small.trans_eq set.wq.symm)
    have reads := State.serveAccess_queueRead mode' small' (s.accSet_write q o false)
    rw [s.accGo_eq, reads, offset]
  have mem : ((s.accSet q o false).accServed q).mem = s.mem := rfl
  have flips : ((s.accSet q o false).accServed q).flips = s.flips := rfl
  have regs {off : Nat} (h : off ≠ 0x90) : ((s.accSet q o false).accServed q).reg (QC q off) = s.reg (QC q off) :=
    (State.accServed_reg _ q (QC_ne_QC h)).trans (s.accSet_reg q o false (QC_ne_QC h))
  have same (f : Nat) : ((s.accSet q o false).accServed q).flipCount q o 1 f = s.flipCount q o 1 f := by
    rw [State.flipCount, State.flipCount, ready.wordFlips flips]
  have few' : ((s.accSet q o false).accServed q).wordFlips q o ≤ 2 := by rwa [ready.wordFlips flips]
  obtain ⟨t, read, frame, tally, others⟩ := State.queueRead_shows few' 1
  rw [ready.wordFlips flips, ready.wordValue mem flips] at read
  obtain ⟨ce, ue⟩ := tally
  rw [run, read]
  generalize (s.accSet q o false).accServed q = r at *
  have value := s.wordValue_lt q o
  generalize s.wordValue q o = v at *
  obtain ⟨word, bit, bit', answered, rest⟩ := t.accAnswer_gives q value (decide (s.wordFlips q o = 1)) (decide (s.wordFlips q o = 2))
  have answer := t.accAnswer_touches q [0x20, 0x58, 0x5C] value (decide (s.wordFlips q o = 1)) (decide (s.wordFlips q o = 2))
  generalize accAnswer q ((v, decide (s.wordFlips q o = 1), decide (s.wordFlips q o = 2)), t) = w at *
  have counted : r.accTouched t q [0x20, 0x58, 0x5C] :=
    State.accTouched_of_qs (frame.mono (by decide)) (frame.same .qs (by decide)) fun a _ out => others a fun off h => out off (List.mem_append_right _ h)
  refine ⟨⟨(ready.trans counted).trans answer, ?_, ?_, ?_, ?_⟩, word, bit, bit'⟩
  · exact (answered.same .mem (by decide)).trans ((frame.same .mem (by decide)).trans mem)
  · exact (answered.same .flips (by decide)).trans ((frame.same .flips (by decide)).trans flips)
  · rw [rest _ fun off h => QC_ne_QC fun e => absurd (e ▸ h) (by decide), ce, regs (by decide), same]
  · rw [rest _ fun off h => QC_ne_QC fun e => absurd (e ▸ h) (by decide), ue, regs (by decide), same]

end
end Sys2Proof.Machine
end

section
/-! QWORD_READ and QWORD_WRITE: the words of a request, one access after another (spec/12 Table CMD-8). -/
namespace Sys2Proof.Machine

theorem map_range_succ {α : Type} (g : Nat → α) (o n : Nat) :
    (List.range (n + 1)).map (fun i => g (o + i)) = g o :: (List.range n).map (fun i => g (o + 1 + i)) := by
  rw [List.range_succ_eq_map, List.map_cons, List.map_map]
  exact congrArg (g o :: ·) (List.map_congr_left fun i _ => congrArg g (show o + (i + 1) = o + 1 + i by omega))

section
variable {s t u : State} {q o n : Nat}

theorem State.ways_accGo (s : State) (q o : Nat) (write : Bool) : s.waysKept (s.accGo q o write) :=
  (s.accSet_touches q [] o write).ways.trans (State.ways_serveAccess _ q)

theorem State.wordsRead.qcOpen (hq : q < 384) (h : s.wordsRead t q o n) (open_ : s.qcOpen q) : t.qcOpen q :=
  h.1.qcOpen hq (by decide) open_

/-- One word that Headland reads: the access between crossings, and the further ones behind it. -/
theorem State.accRead_open (hq : q < 384) (open_ : s.qcOpen q) (mode : s.qMode q ≠ 0) (small : o < s.wq q) (few : s.wordFlips q o ≤ 2) :
    ∃ t, s.accRead q o = ((0, s.wordValue q o, decide (s.wordFlips q o = 1), decide (s.wordFlips q o = 2)), t) ∧ s.wordsRead t q o 1 := by
  obtain ⟨u, w, there, back, run⟩ := State.queueTrip_open hq open_ (off := 0x90) (by decide) true o (f := fun t => t.accGo q o false) fun u _ => u.ways_accGo q o false
  have same := there.accTouched (q := q) (l := [])
  obtain ⟨mem, flips⟩ := there.memory
  have few' : u.wordFlips q o ≤ 2 := by rwa [same.wordFlips flips]
  obtain ⟨read, value, ce, ue⟩ := State.accGo_reads (s := u) (by rwa [same.qMode]) (small.trans_eq same.wq.symm) few'
  rw [same.wordFlips flips] at ce ue
  rw [same.wordValue mem flips] at value
  generalize u.accGo q o false = t at *
  have rest := State.accRest_open hq (back.qcOpen hq (read.qcOpen hq (there.qcOpen hq open_))) false
  have end_ := back.trans rest
  refine ⟨w.accRest q false, ?_, State.wordsRead.around there read end_⟩
  rw [State.accRead, run]
  simp only [if_true, end_.controller, value, State.bit_congr (end_.controller q 0x90), ce, ue]

/-- The words of a request, read one after another. -/
theorem State.accReads_open (hq : q < 384) (n : Nat) : ∀ (s : State) (o : Nat), s.qcOpen q → s.qMode q ≠ 0 → o + n ≤ s.wq q → (∀ i < n, s.wordFlips q (o + i) ≤ 2) →
    ∃ t, s.accReads q o n = ((0, (List.range n).map (fun i => s.wordValue q (o + i)), s.flipBits q o n 1, s.flipBits q o n 2), t) ∧ s.wordsRead t q o n := by
  induction n with
  | zero => exact fun s o _ _ _ _ => ⟨s, rfl, s.wordsRead_none q o⟩
  | succ n ih =>
    intro s o open_ mode small few
    obtain ⟨t, run, read⟩ := State.accRead_open (o := o) hq open_ mode (by omega) (few 0 n.succ_pos)
    have ⟨touched, mem, flips, _⟩ := read
    have flips' := touched.wordFlips flips
    have value' := touched.wordValue mem flips
    obtain ⟨u, run', read'⟩ := ih t (o + 1) (touched.qcOpen hq (by decide) open_) (by rwa [touched.qMode]) (by rw [touched.wq]; omega) fun i hi => by
      rw [flips', Nat.add_assoc, Nat.add_comm 1 i]
      exact few (i + 1) (by omega)
    have bits (f : Nat) : t.flipBits q (o + 1) n f = s.flipBits q (o + 1) n f := by rw [State.flipBits, State.flipBits, flips']
    refine ⟨u, ?_, read.cons read'⟩
    rw [State.accReads, run]
    simp only [ne_eq, not_true_eq_false, if_false, run', map_range_succ (s.wordValue q), value', s.flipBits_succ, bits]

end
end Sys2Proof.Machine
end

section
/-! Words that Headland writes through a queue controller (spec/06 R162, R176). -/
namespace Sys2Proof.Machine

/-- Where queue word `o` lies, in words of the memory window. -/
def State.qKey (s : State) (q o : Nat) : Nat := wordKey (s.qBlock q o) (o % 4096)

theorem State.qKey_add (s : State) (q o i : Nat) : s.qKey q (o + i) = s.qKey q o + i := by
  unfold State.qKey State.qBlock wordKey
  omega

/-- In `t` Headland has written the words `l` of controller `q` from `o` on since `s`. -/
def State.wordsPut (s t : State) (q o : Nat) (l : List Nat) : Prop :=
  s.accTouched t q [] ∧
  (∀ i < l.length, t.flipMask (s.qBlock q (o + i)) ((o + i) % 4096) = 0 ∧
    ∀ j < 8, t.byte (8 * s.qKey q (o + i) + j) = BitVec.ofNat 8 (l.getD i 0 / 256 ^ j)) ∧
  (∀ b w, (∀ i < l.length, wordKey b w ≠ s.qKey q (o + i)) → t.flipMask b w = s.flipMask b w) ∧
  ∀ a, (∀ i < l.length, a < 8 * s.qKey q (o + i) ∨ 8 * s.qKey q (o + i) + 8 ≤ a) → t.byte a = s.byte a

section
variable {s t u : State} {q o : Nat} {l : List Nat}

theorem State.accTouched.qKey (h : s.accTouched t q l) : t.qKey q = s.qKey q := funext fun o => by rw [State.qKey, State.qKey, State.qBlock_congr h.desc]

theorem State.wordsPut_none (s : State) (q o : Nat) : s.wordsPut s q o [] :=
  ⟨s.crossed_refl.accTouched, fun _ h => absurd h (Nat.not_lt_zero _), fun _ _ _ => rfl, fun _ _ => rfl⟩

/-- A word written, and then those behind it. -/
theorem State.wordsPut.cons {x : Nat} (h : s.wordsPut t q o [x]) (k : t.wordsPut u q (o + 1) l) : s.wordsPut u q o (x :: l) := by
  obtain ⟨touched, put, flips, bytes⟩ := h
  obtain ⟨touched', put', flips', bytes'⟩ := k
  have key (i : Nat) : t.qKey q (o + 1 + i) = s.qKey q o + (i + 1) := by rw [touched.qKey, s.qKey_add, s.qKey_add]; omega
  refine ⟨touched.trans touched', fun i hi => ?_, fun b w out => ?_, fun a out => ?_⟩
  · cases i with
    | zero =>
      obtain ⟨clean, word⟩ := put 0 Nat.one_pos
      refine ⟨(flips' _ _ fun i _ => ?_).trans clean, fun j hj => (bytes' _ fun i _ => ?_).trans (word j hj)⟩
      · rw [key]
        exact Nat.ne_of_lt (Nat.lt_add_of_pos_right i.succ_pos)
      · rw [key, Nat.add_zero]
        omega
    | succ i =>
      have place : o + (i + 1) = o + 1 + i := by omega
      rw [place, ← touched.qKey, ← State.qBlock_congr touched.desc]
      exact put' i (Nat.lt_of_succ_lt_succ hi)
  · refine (flips' b w fun i hi => ?_).trans (flips b w fun i hi => ?_)
    · have := out (i + 1) (Nat.succ_lt_succ hi)
      rwa [s.qKey_add, ← key] at this
    · obtain rfl := Nat.lt_one_iff.mp hi
      exact out 0 (Nat.succ_pos _)
  · refine (bytes' a fun i hi => ?_).trans (bytes a fun i hi => ?_)
    · have := out (i + 1) (Nat.succ_lt_succ hi)
      rwa [s.qKey_add, ← key] at this
    · obtain rfl := Nat.lt_one_iff.mp hi
      exact out 0 (Nat.succ_pos _)

/-- Crossings about a word's writing do not show in it. -/
theorem State.wordsPut.around {r w : State} (before : s.crossed r) (h : r.wordsPut t q o l) (after : t.crossed w) : s.wordsPut w q o l := by
  have touched' := before.accTouched (q := q) (l := [])
  obtain ⟨mem, flips⟩ := before.memory
  obtain ⟨mem', flips'⟩ := after.memory
  obtain ⟨touched, put, clean, bytes⟩ := h
  simp only [touched'.qKey, State.qBlock_congr touched'.desc, State.byte_congr mem, State.flipMask_congr flips] at put clean bytes
  refine ⟨(touched'.trans touched).trans after.accTouched, ?_, ?_, ?_⟩
  · simpa only [State.byte_congr mem', State.flipMask_congr flips'] using put
  · simpa only [State.flipMask_congr flips'] using clean
  · simpa only [State.byte_congr mem'] using bytes

/-- A word stored in a queue's memory. -/
theorem State.putWord_puts (touched : s.accTouched t q []) (mem : t.mem = s.mem) (flips : t.flips = s.flips) (x : Nat) :
    s.wordsPut (t.putWord (s.qBlock q o) (o % 4096) x) q o [x] := by
  obtain ⟨clean, word, bytes, frame⟩ := t.putWord_shows (s.qBlock q o) (o % 4096) x
  have put : t.accTouched (t.putWord (s.qBlock q o) (o % 4096) x) q [] :=
    State.accTouched_of_qs (frame.mono (by decide)) (frame.same .qs (by decide)) fun a _ _ => State.reg_congr (frame.same .csr (by decide)) a
  refine ⟨touched.trans put, fun i hi => ?_, fun b w out => ?_, fun a out => ?_⟩
  · obtain rfl := Nat.lt_one_iff.mp hi
    refine ⟨clean, fun j hj => (word j hj).trans (BitVec.eq_of_toNat_eq ?_)⟩
    simp
  · exact (mget_mput_ne _ _ _ _ _ (out 0 Nat.one_pos)).trans (State.flipMask_congr flips b w)
  · exact (bytes a (out 0 Nat.one_pos)).trans (State.byte_congr mem a)

/-- QC_ACC_DLO and QC_ACC_DHI with word `x`. -/
def State.accData (s : State) (q x : Nat) : State := (s.setReg (QC q 0x94) x).setReg (QC q 0x98) (x / 2 ^ 32)

theorem State.accData_gives (s : State) (q : Nat) {x : Nat} (hx : x < 2 ^ 64) : (s.accData q x).reg (QC q 0x94) + (s.accData q x).reg (QC q 0x98) * 2 ^ 32 = x := by
  rw [State.accData, State.reg_setReg_ne _ _ _ _ (QC_ne_QC (by decide)), State.reg_setReg_same, State.reg_setReg_same]
  omega

theorem State.accData_touches (s : State) (q x : Nat) : s.accTouched (s.accData q x) q l := by
  refine State.accTouched_of_qs rfl rfl fun a _ out => ?_
  rw [State.accData, State.reg_setReg_ne _ _ _ _ (out _ (List.mem_append_left _ (by decide))), State.reg_setReg_ne _ _ _ _ (out _ (List.mem_append_left _ (by decide)))]

/-- The controller serves the write of one word (R176). -/
theorem State.accGo_writes (mode : s.qMode q ≠ 0) (small : o < s.wq q) {x : Nat} (hx : x < 2 ^ 64) : s.wordsPut ((s.accData q x).accGo q o true) q o [x] := by
  have data := s.accData_touches (l := []) q x
  have word := s.accData_gives q hx
  have mem : (s.accData q x).mem = s.mem := rfl
  have flips : (s.accData q x).flips = s.flips := rfl
  generalize s.accData q x = r at *
  have offset := r.accSet_offset q (small.trans_le (s.wq_lt q)) true
  have set := data.trans (r.accSet_touches q [] o true)
  have mode' : (r.accSet q o true).qMode q ≠ 0 := by rwa [set.qMode]
  have small' : (r.accSet q o true).fld (QC q 0x90) 0 19 < (r.accSet q o true).wq q := lt_of_eq_of_lt offset (small.trans_eq set.wq.symm)
  have low := r.accSet_reg q o true (QC_ne_QC (q := q) (o := 0x94) (o' := 0x90) (by decide))
  have high := r.accSet_reg q o true (QC_ne_QC (q := q) (o := 0x98) (o' := 0x90) (by decide))
  have run : r.accGo q o true = ((r.accSet q o true).accServed q).putWord (s.qBlock q o) (o % 4096) x := by
    rw [r.accGo_eq, State.serveAccess_writes mode' small' (r.accSet_write q o true), offset, State.qBlock_congr set.desc, low, high, word]
  rw [run]
  exact State.putWord_puts (set.trans (State.accServed_touches _ q _)) mem flips x

theorem State.accPut_open (hq : q < 384) (open_ : s.qcOpen q) (mode : s.qMode q ≠ 0) (small : o < s.wq q) {x : Nat} (hx : x < 2 ^ 64) :
    ∃ t, s.accPut q o x = (0, t) ∧ s.wordsPut t q o [x] := by
  have keeps (u : State) : u.waysKept ((u.accData q x).accGo q o true) := (u.accData_touches (l := []) q x).ways.trans (State.ways_accGo _ q o true)
  obtain ⟨u, w, there, back, run⟩ := State.queueTrip_open hq open_ (off := 0x90) (by decide) true o (f := fun t => (t.accData q x).accGo q o true) fun u _ => keeps u
  have same := there.accTouched (q := q) (l := [])
  have put := State.accGo_writes (s := u) (by rwa [same.qMode]) (small.trans_eq same.wq.symm) hx
  generalize (u.accData q x).accGo q o true = t at *
  have rest := State.accRest_open hq (back.qcOpen hq (put.1.qcOpen hq (by decide) (there.qcOpen hq open_))) true
  refine ⟨w.accRest q true, ?_, State.wordsPut.around there put (back.trans rest)⟩
  have run' : s.queueTrip q 0x90 true o (fun t => ((t.setReg (QC q 0x94) x).setReg (QC q 0x98) (x / 2 ^ 32)).accGo q o true) = (0, w) := run
  rw [State.accPut, run']
  simp only [if_true]

/-- The words of a request, written one after another. -/
theorem State.accPuts_open (hq : q < 384) (l : List Nat) : ∀ (s : State) (o : Nat), s.qcOpen q → s.qMode q ≠ 0 → o + l.length ≤ s.wq q → (∀ x ∈ l, x < 2 ^ 64) →
    ∃ t, s.accPuts q o l = (0, t) ∧ s.wordsPut t q o l := by
  induction l with
  | nil => exact fun s o _ _ _ _ => ⟨s, rfl, s.wordsPut_none q o⟩
  | cons x xs ih =>
    intro s o open_ mode small words
    rw [List.length_cons] at small
    obtain ⟨t, run, put⟩ := State.accPut_open (o := o) hq open_ mode (by omega) (words x List.mem_cons_self)
    have touched := put.1
    obtain ⟨u, run', put'⟩ := ih t (o + 1) (touched.qcOpen hq (by decide) open_) (by rwa [touched.qMode]) (by rw [touched.wq]; omega)
      fun y hy => words y (List.mem_cons_of_mem _ hy)
    refine ⟨u, ?_, put.cons put'⟩
    rw [State.accPuts, run]
    simp only [ne_eq, not_true_eq_false, if_false, run']
end

end Sys2Proof.Machine
end

section
/-! O14: requests on queue controllers and their memory (spec/12 Table CMD-8, R374). -/
namespace Sys2Proof.Machine

section
variable {s : State} {v : Service}

theorem State.queueCmd_off (idle : s.loadCarries (v.q 0) = false) (off : s.routersOn = false) : State.queueCmd v s = s.err v stTIMEOUT 0 := by
  rw [State.queueCmd]
  simp only [idle, State.headlandWaits_off off, State.queueTrip_off off, Bool.false_eq_true, if_false]
  exact if_neg (by decide)

theorem State.queueCmd_waits (idle : s.loadCarries (v.q 0) = false) (waits : s.headlandWaits (QC (v.q 0) 0x80) = true) : State.queueCmd v s = s := by
  rw [State.queueCmd, if_neg (by simp [idle]), if_pos waits]

theorem State.queueCmd_goes (idle : s.loadCarries (v.q 0) = false) (free : s.headlandWaits (QC (v.q 0) 0x80) = false) (hq : v.q 0 < 384) (open_ : s.qcOpen (v.q 0)) :
    ∃ u w, s.crossed u ∧ (u.qcCmd (v.q 0) (v.u 2 1)).crossed w ∧ State.queueCmd v s = w.ok v [] := by
  obtain ⟨u, w, there, back, run⟩ := State.queueTrip_open hq open_ (off := 0x80) (by decide) true (v.u 2 1) (f := fun t => t.qcCmd (v.q 0) (v.u 2 1))
    fun u _ => u.ways_qcCmd _ _
  refine ⟨u, w, there, back, ?_⟩
  rw [State.queueCmd, if_neg (by simp [idle]), if_neg (by simp [free]), run]
  rfl

/-! ## The refusals of QWORD_READ and QWORD_WRITE -/

theorem State.qwordRefusal_mode (h : s.qMode (v.q 0) = 0) : s.qwordRefusal v = some stNOT_READY := if_pos (by simp [h])

theorem State.qwordRefusal_range (idle : s.loadCarries (v.q 0) = false) (mode : s.qMode (v.q 0) ≠ 0) (out : s.wq (v.q 0) < v.u 4 4 + v.u 2 2) :
    s.qwordRefusal v = some stBAD_ARG := by
  rw [State.qwordRefusal, if_neg (by simp [idle, mode]), if_pos out]

theorem State.qwordRefusal_within (idle : s.loadCarries (v.q 0) = false) (mode : s.qMode (v.q 0) ≠ 0) (within : v.u 4 4 + v.u 2 2 ≤ s.wq (v.q 0)) :
    s.qwordRefusal v = if s.routersOn then none else some stTIMEOUT := by
  rw [State.qwordRefusal, if_neg (by simp [idle, mode]), if_neg (Nat.not_lt.mpr within)]
  cases s.routersOn <;> rfl

theorem qword_cases {P : Instr × Nat → Prop} (read : P (.qwordRead, 0x0504)) (write : P (.qwordWrite, 0x0505)) :
    ∀ x ∈ [((.qwordRead, 0x0504) : Instr × Nat), (.qwordWrite, 0x0505)], P x := by
  intro x hx
  simp only [List.mem_cons, List.not_mem_nil, or_false] at hx
  rcases hx with rfl | rfl
  · exact read
  · exact write

/-- Both requests answer their shared refusal. -/
theorem qword_refused {st : Nat} (h : s.qwordRefusal v = some st) :
    ∀ x ∈ [((.qwordRead, 0x0504) : Instr × Nat), (.qwordWrite, 0x0505)], s.serves v x.2 → Completes x.1 s (fun t => s.turnedAway t v st 0) := by
  refine qword_cases (fun hs => completes_request rfl hs ?_) fun hs => completes_request rfl hs ?_
  · simp only [State.qwordRead, h]
    exact s.err_turnedAway v st 0
  · simp only [State.qwordWrite, h]
    exact s.err_turnedAway v st 0

/-- Both requests wait in service for their way. -/
theorem qword_waits (fine : s.qwordRefusal v = none) (waits : s.headlandWaits (QC (v.q 0) 0x90) = true) :
    ∀ x ∈ [((.qwordRead, 0x0504) : Instr × Nat), (.qwordWrite, 0x0505)], s.serves v x.2 → Completes x.1 s (fun t => t = s) := by
  refine qword_cases (fun hs => completes_request rfl hs ?_) fun hs => completes_request rfl hs ?_
  · simp only [State.qwordRead, fine, if_pos waits]
  · simp only [State.qwordWrite, fine, if_pos waits]

theorem State.qwordRead_goes (fine : s.qwordRefusal v = none) (free : s.headlandWaits (QC (v.q 0) 0x90) = false) {t : State} {xs : List Nat} {ce ue : Nat}
    (run : s.accReads (v.q 0) (v.u 4 4) (v.u 2 2) = ((0, xs, ce, ue), t)) :
    State.qwordRead v s = t.ok v (body ([(ce, 4), (ue, 4)] ++ xs.map (fun x => (x, 8)))) := by
  simp only [State.qwordRead, fine, free, Bool.false_eq_true, if_false, run, if_true]

theorem State.qwordWrite_goes (fine : s.qwordRefusal v = none) (free : s.headlandWaits (QC (v.q 0) 0x90) = false) {t : State}
    (run : s.accPuts (v.q 0) (v.u 4 4) ((List.range (v.u 2 2)).map (fun i => v.u (8 + 8 * i) 8)) = (0, t)) : State.qwordWrite v s = t.ok v [] := by
  simp only [State.qwordWrite, fine, free, Bool.false_eq_true, if_false, run, if_true]

/-! ## What stands after them -/

/-- In `t` nothing of the registers, queues and regions has changed since `s` but what accesses to controller `q` touch. -/
def State.onlyAccess (s t : State) (q : Nat) (l : List Nat) : Prop :=
  t.rg = s.rg ∧ t.fab = s.fab ∧ (∀ k, k ≠ q → t.queue k = s.queue k) ∧ { t.queue q with accWait := (s.queue q).accWait } = s.queue q ∧
  ∀ a, (∀ n i, n < 48 → i < 32 → a ≠ NR n (0x100 + 4 * i)) → (∀ off ∈ [0x90, 0x94, 0x98] ++ l, a ≠ QC q off) → t.reg a = s.reg a

theorem State.accTouched.onlyAccess {t : State} {q : Nat} {l : List Nat} (h : s.accTouched t q l) (b : List Byte) : s.onlyAccess (t.ok v b) q l := by
  obtain ⟨frame, others, queue, regs⟩ := h
  have queues (k : Nat) : (t.ok v b).queue k = t.queue k := State.queue_congr (State.ok_part State.qs (fun _ _ _ _ => rfl) t v b) k
  have csr : (t.ok v b).csr = t.csr := State.ok_part State.csr (fun _ _ _ _ => rfl) t v b
  refine ⟨(State.ok_part State.rg (fun _ _ _ _ => rfl) t v b).trans (frame.same .rg (by decide)),
    (State.ok_part State.fab (fun _ _ _ _ => rfl) t v b).trans (frame.same .fab (by decide)), fun k hk => (queues k).trans (others k hk), ?_,
    fun a far out => (State.reg_congr csr a).trans (regs a far out)⟩
  rw [queues]
  exact queue

theorem State.accTouched.answers {t : State} {q : Nat} {l : List Nat} (h : s.accTouched t q l) (b : List Byte) : s.answered (t.ok v b) v 0 b :=
  State.ok_answered_of (h.1.same .mb (by decide)) v b

theorem Service.u_lt (v : Service) (off n : Nat) : v.u off n < 2 ^ (8 * n) := bits_lt _ _ _

theorem qwordRead_answers (hq : v.q 0 < 384) (hs : s.serves v 0x0504) (fine : s.qwordRefusal v = none) (free : s.headlandWaits (QC (v.q 0) 0x90) = false)
    (open_ : s.qcOpen (v.q 0)) (mode : s.qMode (v.q 0) ≠ 0) (within : v.u 4 4 + v.u 2 2 ≤ s.wq (v.q 0))
    (few : ∀ i < v.u 2 2, s.wordFlips (v.q 0) (v.u 4 4 + i) ≤ 2) : Completes .qwordRead s (fun t =>
      s.answered t v 0 (body ([(s.flipBits (v.q 0) (v.u 4 4) (v.u 2 2) 1, 4), (s.flipBits (v.q 0) (v.u 4 4) (v.u 2 2) 2, 4)] ++
        (List.range (v.u 2 2)).map (fun i => (s.wordValue (v.q 0) (v.u 4 4 + i), 8)))) ∧
      t.mem = s.mem ∧ t.flips = s.flips ∧ s.onlyAccess t (v.q 0) [0x20, 0x58, 0x5C] ∧ s.tallied t (v.q 0) (v.u 4 4) (v.u 2 2)) := by
  obtain ⟨t, run, touched, mem, flips, ce, ue⟩ := State.accReads_open hq (v.u 2 2) s (v.u 4 4) open_ mode within few
  refine completes_request rfl hs ?_
  rw [State.qwordRead_goes fine free run]
  simp only [List.map_map, Function.comp_def]
  generalize body _ = b
  have csr : (t.ok v b).csr = t.csr := State.ok_part State.csr (fun _ _ _ _ => rfl) t v b
  refine ⟨touched.answers b, (State.ok_part State.mem (fun _ _ _ _ => rfl) t v b).trans mem, (State.ok_part State.flips (fun _ _ _ _ => rfl) t v b).trans flips,
    touched.onlyAccess b, ?_, ?_⟩
  · exact (State.reg_congr csr _).trans ce
  · exact (State.reg_congr csr _).trans ue

theorem qwordWrite_answers (hq : v.q 0 < 384) (hs : s.serves v 0x0505) (fine : s.qwordRefusal v = none) (free : s.headlandWaits (QC (v.q 0) 0x90) = false)
    (open_ : s.qcOpen (v.q 0)) (mode : s.qMode (v.q 0) ≠ 0) (within : v.u 4 4 + v.u 2 2 ≤ s.wq (v.q 0)) : Completes .qwordWrite s (fun t =>
      s.answered t v 0 [] ∧ s.onlyAccess t (v.q 0) [] ∧
      (∀ i < v.u 2 2, t.flipMask (s.qBlock (v.q 0) (v.u 4 4 + i)) ((v.u 4 4 + i) % 4096) = 0 ∧
        ∀ j < 8, t.byte (8 * s.qKey (v.q 0) (v.u 4 4 + i) + j) = BitVec.ofNat 8 (v.u (8 + 8 * i) 8 / 256 ^ j)) ∧
      ∀ a, (∀ i < v.u 2 2, a < 8 * s.qKey (v.q 0) (v.u 4 4 + i) ∨ 8 * s.qKey (v.q 0) (v.u 4 4 + i) + 8 ≤ a) → t.byte a = s.byte a) := by
  have length : ((List.range (v.u 2 2)).map (fun i => v.u (8 + 8 * i) 8)).length = v.u 2 2 := by simp
  have words : ∀ x ∈ (List.range (v.u 2 2)).map (fun i => v.u (8 + 8 * i) 8), x < 2 ^ 64 := by
    intro x hx
    obtain ⟨i, -, rfl⟩ := List.mem_map.mp hx
    exact v.u_lt _ _
  obtain ⟨t, run, touched, put, -, bytes⟩ := State.accPuts_open hq _ s (v.u 4 4) open_ mode (by rwa [length]) words
  rw [length] at put bytes
  refine completes_request rfl hs ?_
  rw [State.qwordWrite_goes fine free run]
  have memory : (t.ok v []).mem = t.mem := State.ok_part State.mem (fun _ _ _ _ => rfl) t v []
  have flips : (t.ok v []).flips = t.flips := State.ok_part State.flips (fun _ _ _ _ => rfl) t v []
  refine ⟨touched.answers [], touched.onlyAccess [], fun i hi => ?_, fun a out => (State.byte_congr memory a).trans (bytes a out)⟩
  obtain ⟨clean, word⟩ := put i hi
  refine ⟨(State.flipMask_congr flips _ _).trans clean, fun j hj => (State.byte_congr memory _).trans ((word j hj).trans ?_)⟩
  rw [List.getD_eq_getElem?_getD, List.getElem?_map, List.getElem?_range hi]
  rfl
end

/-- Settles O14: each word by one access over the open way (`accReads_open`, `accPuts_open`), every refusal by its branch. -/
theorem queueRequests : Obligations.QueueRequests := by
  intro s v idle hq q n mask words within goes only counts
  have way {off : Nat} (ho : off < 0x1000) (h : goes off) : s.qcOpen (v.q 0) := State.qcOpen_of hq ho h.1 h.2.2
  have fine (h : within) (on : s.routersOn = true) : s.qwordRefusal v = none := (State.qwordRefusal_within idle h.1 h.2).trans (if_pos on)
  have powered {a : Nat} (h : s.headlandWaits a = true) : s.routersOn = true := by
    by_contra off
    rw [State.headlandWaits_off (by simpa using off)] at h
    contradiction
  refine ⟨fun off => ⟨fun hs => completes_request rfl hs ?_, fun h => qword_refused ((State.qwordRefusal_within idle h.1 h.2).trans (if_neg (by simp [off])))⟩,
    fun waits hs => completes_request rfl hs (State.queueCmd_waits idle waits), fun waits h => qword_waits (fine h (powered waits)) waits, fun hs h => ?_,
    fun hs h inside few => qwordRead_answers hq hs (fine inside h.1) h.2.1 (way (by decide) h) inside.1 inside.2 few,
    fun hs h inside => ?_, fun mode => qword_refused (State.qwordRefusal_mode mode), fun mode out => qword_refused (State.qwordRefusal_range idle mode out)⟩
  · rw [State.queueCmd_off idle off]
    exact s.err_turnedAway v stTIMEOUT 0
  · obtain ⟨u, w, there, back, run⟩ := State.queueCmd_goes idle h.2.1 hq (way (by decide) h)
    refine completes_request rfl hs ⟨u, w, there, back, ?_⟩
    rw [run]
    exact ⟨w.reply_answered v 0 [], w.reply_onlyAnswer v 0 []⟩
  · obtain ⟨t, run, answered, access, put, bytes⟩ := qwordWrite_answers hq hs (fine inside h.1) h.2.1 (way (by decide) h) inside.1 inside.2
    refine ⟨t, run, answered, access, fun i hi o ho => ?_, bytes⟩
    subst ho
    exact put i hi

end Sys2Proof.Machine
end
